-- ==== Sys2Proof/Word.lean ====
section
/-! DEFINITION. The word types of the model: what the manual treats as strings of bits. -/

namespace Sys2Proof

/-- One byte of a message, a frame, a ring or a record (R6). -/
abbrev Byte := BitVec 8
/-- A 16-bit field. -/
abbrev Half := BitVec 16
/-- A 32-bit register, data-memory word or binary32 pattern. -/
abbrev Word := BitVec 32
/-- A 64-bit FJ local or double word. -/
abbrev DWord := BitVec 64

end Sys2Proof
end

