-- ==== Sys2Proof/Machine/Bytes.lean ====
section
/-! DEFINITION. Byte order, bit fields and the two CRCs of the manual (R6, R556). -/

namespace Sys2Proof.Machine
open Sys2Proof

/-- The number that little-endian bytes stand for (R6). -/
def leNat (bs : List Byte) : Nat :=
  match bs with
  | [] => 0
  | b :: r => b.toNat + 256 * leNat r

/-- `n` little-endian bytes of a number (R6); higher bits are dropped. -/
def leBytes (n v : Nat) : List Byte :=
  match n with
  | 0 => []
  | k + 1 => BitVec.ofNat 8 v :: leBytes k (v / 256)

/-- `n` little-endian bytes of a signed number, two's complement. -/
def leBytesInt (n : Nat) (v : Int) : List Byte := leBytes n (v % (2 ^ (8 * n) : Int)).toNat

/-- `w` bytes at offset `o` of a payload, read little-endian; bytes past the end read 0. -/
def fld (p : List Byte) (o w : Nat) : Nat := leNat ((p.drop o).take w)

/-- The same, read as two's complement. -/
def fldInt (p : List Byte) (o w : Nat) : Int :=
  let v := fld p o w
  if v < 2 ^ (8 * w - 1) then (v : Int) else (v : Int) - (2 ^ (8 * w) : Nat)

/-- Bits [msb:lsb] of a number. -/
def bits (v msb lsb : Nat) : Nat := v / 2 ^ lsb % 2 ^ (msb - lsb + 1)

/-- Bit `i` of a number. -/
def bitOf (v i : Nat) : Bool := v / 2 ^ i % 2 == 1

/-- 1 for true, 0 for false. -/
def b2n (b : Bool) : Nat := if b then 1 else 0

/-- The number whose bit i is the i-th flag of the list. -/
def bitsOf (l : List Bool) : Nat :=
  match l with
  | [] => 0
  | b :: r => b2n b + 2 * bitsOf r

/-- The positions of the set bits below `n`, rising. -/
def bitList (v n : Nat) : List Nat := (List.range n).filter fun i => bitOf v i

/-- The number whose set bits are the members of the list. -/
def maskOf (l : List Nat) : Nat := l.foldl (fun m i => if bitOf m i then m else m + 2 ^ i) 0

/-- `n` zero bytes. -/
def zeros (n : Nat) : List Byte := List.replicate n 0

/-- Every byte is 0. -/
def allZero (p : List Byte) : Bool := p.all (· == 0)

/-- Bytes `o` to `o + n − 1`. -/
def cut (p : List Byte) (o n : Nat) : List Byte := (p.drop o).take n

/-- A two's-complement reading of the low `w` bits. -/
def toSigned (w v : Nat) : Int :=
  let u := v % 2 ^ w
  if u < 2 ^ (w - 1) then (u : Int) else (u : Int) - (2 ^ w : Nat)

/-- The low `w` bits of an integer, as a natural. -/
def ofSigned (w : Nat) (v : Int) : Nat := (v % (2 ^ w : Nat)).toNat

/-- Saturate an integer to a range. -/
def clampI (lo hi v : Int) : Int := if v < lo then lo else if hi < v then hi else v

/-- Saturate a natural at a bound. -/
def satN (hi v : Nat) : Nat := if hi < v then hi else v

/-- One bit step of the reflected CRC-32 with the reversed polynomial 0xEDB8_8320 (R556). -/
def crc32Step (n c : Nat) : Nat :=
  match n with
  | 0 => c
  | k + 1 => crc32Step k (if c % 2 = 1 then Nat.xor (c / 2) 0xEDB88320 else c / 2)

/-- The CRC-32 register after the bytes. -/
def crc32Run (bs : List Byte) (c : Nat) : Nat :=
  match bs with
  | [] => c
  | b :: r => crc32Run r (crc32Step 8 (Nat.xor c b.toNat))

/-- The CRC-32 of IEEE 802.3 over bytes in ascending offset (R556). -/
def crc32 (bs : List Byte) : Nat := Nat.xor (crc32Run bs 0xFFFFFFFF) 0xFFFFFFFF

/-- One bit step of the CRC-16 with polynomial 0x1021, most significant bit first (R556). -/
def crc16Step (n c : Nat) : Nat :=
  match n with
  | 0 => c
  | k + 1 =>
    crc16Step k (if 0x8000 ≤ c then Nat.xor (c * 2 % 0x10000) 0x1021 else c * 2)

/-- The CRC-16 register after the bytes, each from its most significant bit. -/
def crc16Run (bs : List Byte) (c : Nat) : Nat :=
  match bs with
  | [] => c
  | b :: r => crc16Run r (crc16Step 8 (Nat.xor c (b.toNat * 256)))

/-- The CRC-16 of the manual: initial value 0xFFFF, not reflected, not inverted (R556). -/
def crc16 (bs : List Byte) : Nat := crc16Run bs 0xFFFF

/-- A byte with its bits in reverse order. -/
def revByte (x : Byte) : Byte := BitVec.ofNat 8 ((List.range 8).foldl (fun n i => n + (if x.toNat / 2 ^ i % 2 = 1 then 2 ^ (7 - i) else 0)) 0)

/-- The CRC-16 of a barrier frame: its bits in transmission order, bit 0 of each byte first (R327, R556). -/
def crc16Line (bs : List Byte) : Nat := crc16 (bs.map revByte)

end Sys2Proof.Machine
end

