-- ==== Sys2Proof/Machine/Tab.lean ====
section
/-! DEFINITION. Sparse tables: the one form in which the model holds register files, arrays of records and
addressed bytes. A table lists (index, value) pairs with indexes strictly rising and lists no value equal to what an
unlisted index reads as, so that equal contents are equal data. -/

namespace Sys2Proof.Machine
open Sys2Proof

/-- A sparse array of `α`: the entries that differ from the array's default, by rising index. -/
abbrev Tab (α : Type) := List (Nat × α)

/-- The value at index `k`; an unlisted index reads as the default `d k`. -/
def tget {α : Type} (d : Nat → α) (t : Tab α) (k : Nat) : α :=
  match t with
  | [] => d k
  | (i, v) :: r => if k = i then v else tget d r k

/-- The table without any entry at index `k`. -/
def tdrop {α : Type} (t : Tab α) (k : Nat) : Tab α := t.filter fun x => x.1 != k

/-- Write `v` at index `k`, keeping the canonical form. On a list that is not in canonical form too, index `k` reads as `v`
afterwards and no other index changes. -/
def tset {α : Type} [DecidableEq α] (d : Nat → α) (t : Tab α) (k : Nat) (v : α) : Tab α :=
  match t with
  | [] => if v = d k then [] else [(k, v)]
  | (i, w) :: r =>
    if k < i then (if v = d k then tdrop ((i, w) :: r) k else (k, v) :: (i, w) :: r)
    else if k = i then (if v = d k then tdrop r k else (k, v) :: r)
    else (i, w) :: tset d r k v

/-- Rewrite the value at index `k` by `f`. -/
def tupd {α : Type} [DecidableEq α] (d : Nat → α) (t : Tab α) (k : Nat) (f : α → α) : Tab α :=
  tset d t k (f (tget d t k))

/-- Rewrite the values at the indexes of `ks`, first to last. -/
def tupdAll {α : Type} [DecidableEq α] (d : Nat → α) (t : Tab α) (ks : List Nat) (f : Nat → α → α) : Tab α :=
  match ks with
  | [] => t
  | k :: r => tupdAll d (tupd d t k (f k)) r f

/-- Write the values of `vs` at the indexes from `k` upward. -/
def tsetRun {α : Type} [DecidableEq α] (d : Nat → α) (t : Tab α) (k : Nat) (vs : List α) : Tab α :=
  match vs with
  | [] => t
  | v :: r => tsetRun d (tset d t k v) (k + 1) r

/-- The values at `n` indexes from `k` upward. -/
def tgetRun {α : Type} (d : Nat → α) (t : Tab α) (k n : Nat) : List α :=
  (List.range n).map fun i => tget d t (k + i)

/-- Every listed index is above `lo` (exclusive when `lo = some _`) and the listed indexes rise. -/
def tabRising {α : Type} (lo : Option Nat) (t : Tab α) : Bool :=
  match t with
  | [] => true
  | (i, _) :: r => (match lo with | none => true | some l => l < i) && tabRising (some i) r

/-- No listed entry equals the default. -/
def tabLean {α : Type} [DecidableEq α] (d : Nat → α) (t : Tab α) : Bool :=
  t.all fun p => !decide (p.2 = d p.1)

/-- The canonical form of a table. -/
def tabWf {α : Type} [DecidableEq α] (d : Nat → α) (t : Tab α) : Bool := tabRising none t && tabLean d t

/-- Rewrite every listed entry by `f`, dropping those that become the default. -/
def tmap {α : Type} [DecidableEq α] (d : Nat → α) (t : Tab α) (f : Nat → α → α) : Tab α :=
  match t with
  | [] => []
  | (i, v) :: r => let w := f i v; if w = d i then tmap d r f else (i, w) :: tmap d r f

/-- Byte-addressed storage of the block (rings, staging buffers): unlisted bytes read 0. -/
abbrev Mem := Tab Byte

/-- What an unlisted byte reads as. DESIGN CHOICE (log 113). -/
def memDflt (_ : Nat) : Byte := 0

/-- The canonical form of byte storage. -/
def memWf (m : Mem) : Bool := tabWf memDflt m

/-- Read one byte. DESIGN CHOICE (log 113). -/
def memGet (m : Mem) (a : Nat) : Byte := tget memDflt m a
/-- Write one byte. -/
def memSet (m : Mem) (a : Nat) (v : Byte) : Mem := tset memDflt m a v
/-- Read `n` bytes from `a`. -/
def memRead (m : Mem) (a n : Nat) : List Byte := tgetRun memDflt m a n
/-- Write bytes from `a` upward. -/
def memWrite (m : Mem) (a : Nat) (bs : List Byte) : Mem := tsetRun memDflt m a bs

/-- Rewrite the element at index `n` of a list; out of range, nothing changes. -/
def lupd {α : Type} (l : List α) (n : Nat) (f : α → α) : List α :=
  match l, n with
  | [], _ => []
  | x :: r, 0 => f x :: r
  | x :: r, n + 1 => x :: lupd r n f

/-- Insert `k` into a rising list of distinct numbers. -/
def insNat (k : Nat) (l : List Nat) : List Nat :=
  match l with
  | [] => [k]
  | x :: r => if k < x then k :: x :: r else if k = x then x :: r else x :: insNat k r

/-- Remove `k` from a list of numbers. -/
def remNat (k : Nat) (l : List Nat) : List Nat := l.filter fun x => x != k

end Sys2Proof.Machine
end

