-- ==== Sys2Proof/Machine/CoreTypes.lean ====
section
/-! DEFINITION. State of the tim island, the event recorder, the host link and mailboxes, and fault handling
(01, 09, 16, 19, 20, 22 and 24 of the spec), as plain data. -/

namespace Sys2Proof.Machine
open Sys2Proof

/-- A 12-byte time-stamp: TAI seconds, nanoseconds and the time-quality word (R354). -/
structure Stamp where
  sec  : Nat := 0
  ns   : Nat := 0
  qual : Nat := 0xFF00
deriving DecidableEq, Repr

/-- STATE of the time-quality word (R351). -/
inductive TState where
  | freerun | locked | holdover | stepped
deriving DecidableEq, Repr

/-- The servo, held by SP firmware (R350 to R353). `y` is the estimated frequency error in units of 2^−64. -/
structure Servo where
  y         : Int := 0
  state     : TState := .freerun
  /-- consecutive Sync intervals with |θ| ≤ LOCK_TH -/
  inLock    : Nat := 0
  /-- consecutive |θ| above UNLOCK_TH and below STEP_TH -/
  overUnl   : Nat := 0
  /-- the last five offsets used for the median, newest first -/
  last5     : List Int := []
  /-- an offset was discarded as an outlier on the previous Sync (R350) -/
  outlier   : Bool := false
  /-- consecutive offsets at or above STEP_TH seen in HOLDOVER, newest first (R352) -/
  bigRun    : List Int := []
  /-- |θ| of the last 16 intervals, newest first (R353) -/
  last16    : List Nat := []
  lastTheta : Int := 0
  /-- bound of the error when LOCKED was last held, ns; none before (R353) -/
  lastBound : Option Nat := none
  /-- ELAPSED at which LOCKED was left, at which HOLDOVER was entered, and of the latest step -/
  leftAt    : Nat := 0
  holdAt    : Nat := 0
  stepAt    : Nat := 0
  /-- EST of the time-quality word (R351, R353) -/
  est       : Nat := 255
  /-- FREQ_INC has been written by the servo since reset (R351 SYNTONISED) -/
  synt      : Bool := false
deriving DecidableEq, Repr

/-- The configuration of R370, with its defaults. -/
structure TimeCfg where
  profile   : Nat := 0
  domain    : Nat := 0
  prio1     : Nat := 128
  prio2     : Nat := 128
  slaveOnly : Bool := true
  /-- per port: PTP_EN and TC -/
  ptpEn     : List Bool := [false, false, false, false]
  tc        : List Bool := [false, false, false, false]
  stepTh    : Nat := 100000
  lockTh    : Nat := 250
  unlockTh  : Nat := 1000
  holdMax   : Nat := 600
  holdDrift : Nat := 1000
  src       : Nat := 0
  ppsMode   : Nat := 0
  ppsAlways : Bool := false
  ppsPort   : Nat := 0
  ppsQueue  : Nat := 0
  width     : Nat := 100
deriving DecidableEq, Repr

/-- What an Announce says of a clock, in the order the default BMCA compares it (R357). -/
structure Announce where
  prio1    : Nat := 128
  cls      : Nat := 248
  accuracy : Nat := 0xFE
  variance : Nat := 0xFFFF
  prio2    : Nat := 128
  identity : Nat := 0
  steps    : Nat := 0
  utcOfs   : Int := 0
  utcValid : Bool := false
  traceable : Bool := false
  /-- total inaccuracy of the profile TLV in ns, where carried (R353) -/
  inaccuracy : Option Nat := none
deriving DecidableEq, Repr

/-- PTP state of one port (R357, R358, R372). -/
structure PtpPort where
  /-- portState of IEEE 1588-2019: 1 INITIALIZING … 3 DISABLED, 4 LISTENING, 6 MASTER, 7 PASSIVE, 9 SLAVE -/
  pstate     : Nat := 3
  best       : Option Announce := none
  linkDelay  : Nat := 0
  discard    : Nat := 0
  pdelayFail : Nat := 0
  /-- announce receipt timeout since the last `time.ptp` -/
  annTo      : Bool := false
  /-- ELAPSED of the last Announce accepted on the port -/
  annAt      : Nat := 0
  /-- a two-step Sync awaiting its Follow_Up: sequence, receive stamp in ns64, correction in ns -/
  syncWait   : Option (Nat × Nat × Int) := none
  /-- a Pdelay_Req sent and not yet answered: sequence and transmit ns64 -/
  pdelayWait : Option (Nat × Nat) := none
  seqSync    : Nat := 0
  seqAnn     : Nat := 0
  seqPdelay  : Nat := 0
  /-- NCOUNT and ns64 of the two latest beacons, newest first (R356) -/
  beacons    : List (Nat × Nat) := []
  /-- the two beacons before a step, and the offset in ns that derived stamps add until two beacons follow it (R356) -/
  old        : List (Nat × Nat) := []
  stepAdd    : Int := 0
deriving DecidableEq, Repr

/-- The tim island: ELAPSED, the time counter, the epoch and their registers (R16, R187, R345, R347, R368). -/
structure TimeSt where
  /-- the tim PLL has locked, so that ELAPSED and the counter run (R187) -/
  run       : Bool := false
  /-- ELAPSED in units of 2^−32 ns: 64 bits of ns and 32 of fraction -/
  elapsed   : Nat := 0
  epoch     : Nat := 0
  /-- the 64-bit value latched by the last EPOCH_LO read (R20) -/
  epochLatch : Nat := 0
  /-- INC and FREQ_INC in force, 8.32 ns (R188) -/
  inc       : Nat := 0x400000000
  freqInc   : Nat := 0x400000000
  /-- FREQ_INC in force at the latest element tick (R203) -/
  freqTick  : Nat := 0x400000000
  sec       : Nat := 0
  ns        : Nat := 0
  frac      : Nat := 0
  /-- TC_SEC, TC_FRAC and TC_QUAL latched by a read of TC_NS (R347) -/
  latSec    : Nat := 0
  latFrac   : Nat := 0
  latQual   : Nat := 0xFF00
  /-- INC_LO, INC_HI, FREQ_INC_LO, FREQ_INC_HI as last written -/
  incLo     : Word := 0
  incHi     : Byte := 4
  freqLo    : Word := 0
  freqHi    : Byte := 4
  stepLo    : Word := 0
  stepHi    : Word := 0
  tcQual    : Nat := 0xFF00
  capNs     : Nat := 0
  capSec    : Nat := 0
  capWait   : Nat := 0
  ref10m    : Bool := false
  lost      : Bool := false
  /-- ELAPSED at the last write of INC_HI (R348) -/
  incAt     : Nat := 0
  /-- writes of FREQ_INC clamped since reset (R203) -/
  clamps    : Nat := 0
  /-- the BAR0 time readout latched by TIME_NS (R368) -/
  rdSec     : Nat := 0
  rdQual    : Nat := 0xFF00
  rdEpoch   : Nat := 0
  servo     : Servo := {}
  cfg       : TimeCfg := {}
  /-- `time.cfg` writes waiting for their S (R370) -/
  cfgPend   : List (Nat × TimeCfg) := []
  /-- `time.set` steps waiting for S: absolute, value (R371) -/
  setPend   : List (Nat × Bool × Int) := []
  ports     : Tab PtpPort := []
  gm        : Announce := {}
  gmId      : Nat := 0
  slave     : Option Nat := none
  /-- counter value at the issuing edge of the last ticks, newest first (R369) -/
  ticks     : List (Nat × Stamp) := []
  /-- ELAPSED at the issuing edges of the latest 17 ticks, newest first (R17, R190) -/
  edges     : List Nat := []
  /-- PPS_OUT is high until this ELAPSED instant (R366) -/
  ppsHigh   : Option Nat := none
  /-- the edge of the latest second boundary reached by counting at which PPS_OUT may rise, until it has risen (R366, R367) -/
  carryAt   : Option Nat := none
deriving DecidableEq, Repr

/-- An extreme of a code: the value and its record time (R452, R453). -/
structure Extreme where
  q      : Nat := 0
  opsec  : Nat := 0
  pcycle : Nat := 0
deriving DecidableEq, Repr

/-- The tally of a code, over the lifetime or over one interval (R449 to R452, R458). -/
structure Tally where
  count  : Nat := 0
  bins   : Tab Nat := []
  binSat : Bool := false
  min    : Option Extreme := none
  max    : Option Extreme := none
deriving DecidableEq, Repr

/-- The colander of a code (R454): RATE, BURST, the bucket in 1/1,000 token and SUPPRESSED. -/
structure Colander where
  rate   : Nat := 10
  burst  : Nat := 32
  bucket : Nat := 32000
deriving DecidableEq, Repr

/-- A notification record (R455). -/
structure Note where
  stamp  : Stamp := {}
  source : Nat := 0
  supp   : Nat := 0
  qty    : Nat := 0
  user   : Nat := 0
  valid  : Bool := false
  epoch  : Nat := 0
deriving DecidableEq, Repr

/-- A summary record (R457, R458). -/
structure SumRec where
  rseq    : Nat := 0
  kind    : Nat := 0
  pcSat   : Bool := false
  carried : Bool := false
  pcycle  : Nat := 0
  start   : Nat := 0
  fin     : Nat := 0
  drops   : Nat := 0
  entries : Tab Tally := []
  /-- the CRC-32 of the record in flash still holds (R460) -/
  good    : Bool := true
deriving DecidableEq, Repr

/-- A copy of the lifetime state in flash (R460). -/
structure LifeCopy where
  rseq  : Option Nat := none
  codes : Tab Tally := []
  valid : Bool := true
deriving DecidableEq, Repr

/-- The event recorder in the SP (R449 to R466). -/
structure RecSt where
  /-- the recorder has started (R449, R453) -/
  started   : Bool := false
  /-- per-source hardware counters before the start, and during an SP restart (R449, R539) -/
  hw        : Tab Nat := []
  life      : Tab Tally := []
  intv      : Tab Tally := []
  col       : Tab Colander := []
  notes     : List Note := []
  drops     : Nat := 0
  dropsInt  : Nat := 0
  opBase    : Nat := 0
  /-- ELAPSED at the start of the recorder -/
  opStart   : Nat := 0
  intStart  : Nat := 0
  carried   : Bool := false
  pcycle    : Nat := 0
  pcSat     : Bool := false
  foldSkip  : Bool := false
  /-- the RSEQ of the newest record in the lifetime copy in force -/
  lifeRseq  : Option Nat := none
  /-- whole ms of ELAPSED up to which the colanders have been refilled -/
  refMs     : Nat := 0
  /-- `rec.cfg` settings waiting for their S (R465) -/
  cfgPend   : List (Nat × Nat × List (Nat × Nat)) := []
deriving DecidableEq, Repr

/-- A mailbox request as the SP has accepted it (R433, R437). -/
structure Req where
  client  : Nat := 0
  flags   : Byte := 0
  cmd     : Nat := 0
  seq     : Nat := 0
  payload : List Byte := []
deriving DecidableEq, Repr

/-- An accepted request without a response, with the epoch of its acceptance (R435). -/
structure Acc where
  req   : Req := {}
  epoch : Nat := 0
deriving DecidableEq, Repr

/-- A response: status, epoch word and payload (R437). -/
structure Rsp where
  client  : Nat := 0
  flags   : Byte := 0
  cmd     : Nat := 0
  seq     : Nat := 0
  status  : Nat := 0
  epoch   : Nat := 0
  payload : List Byte := []
  /-- CLIENT of the request's header, where it is not the mailbox's number -/
  echo    : Option Nat := none
deriving DecidableEq, Repr

/-- Mailbox `c`: its rings, offsets and flags (R429, R431 to R436, R440). -/
structure Client where
  reqProd  : Nat := 0
  reqCons  : Nat := 0
  rspProd  : Nat := 0
  rspCons  : Nat := 0
  fmtErr   : Bool := false
  stall    : Bool := false
  rstBusy  : Bool := false
  auth     : Nat := 0
  disabled : Bool := false
  reqRing  : Mem := []
  rspRing  : Mem := []
  /-- responses that wait for room, oldest first (R435) -/
  waiting  : List Rsp := []
deriving DecidableEq, Repr

/-- VEC[v] (R429, R430), with the ELAPSED instant of its previous signal, whether a signal is held, and how many
signals have left. -/
structure Vec where
  pend    : Bool := false
  mask    : Bool := true
  coal    : Nat := 0
  last    : Option Nat := none
  held    : Bool := false
  signals : Nat := 0
deriving DecidableEq, Repr

/-- A ladle transfer (R441). -/
structure Ladle where
  client : Nat := 0
  seq    : Nat := 0
  flags  : Byte := 0
  write  : Bool := false
  obj    : Nat := 0
  offset : Nat := 0
  length : Nat := 0
  host   : Nat := 0
  /-- running (up to 4 at once) or waiting -/
  active : Bool := false
  epoch  : Nat := 0
  /-- the bytes held as of acceptance (READ) or carried by the request (WRITE in ring mode) -/
  data   : List Byte := []
deriving DecidableEq, Repr

/-- A control object declared by a slot's image (R442). -/
structure CtlDecl where
  sbo     : Bool := false
  classes : Nat := 0
  minAuth : Nat := 2
  selTmo  : Nat := 1
  ansTmo  : Nat := 10
deriving DecidableEq, Repr

/-- The state of a control object (R442). -/
inductive CtlState where
  | idle
  | selected (client auth cls value : Nat) (lapse : Nat)
  | pending (client auth cls value seq : Nat) (since : Nat) (deadline : Nat) (flags : Byte)
deriving DecidableEq, Repr

/-- A control object in service: its state and its last slot RESULT (R442). -/
structure CtlObj where
  state  : CtlState := .idle
  result : Nat := 0
deriving DecidableEq, Repr

/-- An order awaiting arbitration at the next tick (R443). -/
structure Order where
  slot   : Nat := 0
  index  : Nat := 0
  cls    : Nat := 0
  value  : Nat := 0
  /-- none for the slot's own CTLOP -/
  client : Option Nat := none
  auth   : Nat := 0
  select : Bool := false
  seq    : Nat := 0
  flags  : Byte := 0
  epoch  : Nat := 0
deriving DecidableEq, Repr

/-- The MSI-X table as PCI Express Base resets it: the mask bit of every vector is 1, all other bits are 0.
PRESUMED (log 81). -/
def msixReset : Mem := (List.range 32).map fun v => (16 * v + 12, 1)

/-- Where a register write of the host, the SP or the port goes (R340, R347, R426, R429). -/
inductive RegSpace where
  /-- BAR0, BAR2, the tim block, the field block of the elm island, and the Command register of the PCI function -/
  | bar0 | bar2 | tim | fld | pci
deriving DecidableEq, Repr

/-- The host link, the mailboxes and the control objects (R426 to R448). -/
structure MbxSt where
  pcieUp   : Bool := false
  speed    : Nat := 0
  width    : Nat := 0
  bme      : Bool := false
  qspiErr  : Bool := false
  /-- the last data returned by a QSPI transaction or a register read -/
  rdData   : List Byte := []
  srcPend  : List Nat := []
  vec      : Tab Vec := []
  /-- the MSI-X table: every vector masked at reset -/
  msix     : Mem := msixReset
  clients  : Tab Client := []
  /-- accepted requests without a response, in acceptance order -/
  accepted : List Acc := []
  /-- clients already served in the pass in progress, and the client taken first in the previous pass (R67, R440) -/
  passDone : List Nat := []
  /-- the instant from which the SP consumes the request rings again after a firmware handover (R27) -/
  ringsFrom : Nat := 0
  passFrom : Nat := 0
  ladles   : List Ladle := []
  orders   : List Order := []
  routes   : Tab Nat := []
  routePend : List (Nat × Nat × List Nat) := []
deriving DecidableEq, Repr

/-- What latched a whisk (R483). -/
structure SnapHdr where
  w       : Stamp := {}
  snapId  : Nat := 0
  epoch   : Nat := 0
  elapsed : Nat := 0
  inc     : Nat := 0
  srcMask : Nat := 0
  timed   : Bool := false
  missed  : Nat := 0
deriving DecidableEq, Repr

/-- Fault handling (R528 to R541). -/
structure FltSt where
  corrected : Nat := 0
  transient : Nat := 0
  lasting   : Nat := 0
  loss      : Nat := 0
  lastBad   : Nat := 0
  /-- rows remapped per memory, as memory × 65,536 + row -/
  remapped  : List Nat := []
  /-- rows under march test -/
  testing   : List Nat := []
  /-- ELAPSED instants of SP restarts -/
  spRestarts : List Nat := []
  spRestarting : Option Nat := none
  spStopped : Bool := false
  ucReload  : Bool := false
  /-- the die temperature is above its threshold (R546): crossed and not re-armed -/
  hot       : Bool := false
  coolSince : Option Nat := none
deriving DecidableEq, Repr

end Sys2Proof.Machine
end

