-- ==== Sys2Proof/Machine/AnTypes.lean ====
section
/-! DEFINITION. State of the analogue side: converters, twin paths, accumulators, time-domain detectors and the
backstop (04, 05, 06, 07 and 10 of the spec), as plain data. -/

namespace Sys2Proof.Machine
open Sys2Proof

/-- The quality bits the manual names (R175, R301). DEDUCED (log 6). -/
structure Qual where
  valid      : Bool := false
  quest      : Bool := false
  single     : Bool := false
  ovr       : Bool := false
  wbreak     : Bool := false
  blocked    : Bool := false
  subst      : Bool := false
  stale      : Bool := false
  test       : Bool := false
  remote     : Bool := false
deriving DecidableEq, Repr

/-- The two measurement paths (R105). -/
inductive Path where
  | a | b
deriving DecidableEq, Repr

/-- An input record (R76). -/
structure InRec where
  sensor  : Nat := 0
  wbEn    : Bool := false
  integ   : Bool := false
  invert  : Bool := false
  scale   : Word := 0
  fref    : Nat := 0
  phase   : Int := 0
deriving DecidableEq, Repr

/-- One sample of an input on one path: a reduced take (R89), corrected for the bias (R80) and integrated (R135). -/
structure Smp where
  /-- its instant on the ELAPSED scale, 2^−32 ns -/
  inst   : Nat := 0
  /-- the cnv clock index of its first conversion, a 32-bit count, and its conversion count (R89) -/
  idx    : Nat := 0
  n      : Nat := 0
  /-- the number of its strobe edge, and its place among the entries of its sequence that select the input -/
  grid   : Nat := 0
  ord    : Nat := 0
  /-- the corrected value, 1/64 code -/
  x      : Int := 0
  /-- the value every accumulation works on, 2^−32 code: `x`, or the integrator's output -/
  w      : Int := 0
  clip   : Bool := false
  /-- one or more samples of the input were not produced just before this one (R92) -/
  gap    : Bool := false
  /-- an uncorrected sample of an input with wire-break detection on (R80) -/
  raw    : Bool := false
  gain   : Nat := 1
deriving DecidableEq, Repr

/-- A half-period of the bias that has ended (R79): its polarity, the entry-0 starts at which it began and ended, and its kept
samples, newest first, 1/16 code. -/
structure Half where
  pos   : Bool := true
  start : Nat := 0
  fin   : Nat := 0
  kept  : List Int := []
deriving DecidableEq, Repr

/-- Wire-break detection and the per-input bookkeeping common to both paths (R79 to R87). -/
structure AIn where
  /-- the bias flows from AInP to AInN -/
  pos      : Bool := true
  /-- the entry-0 start at which the half in progress began; none until the first one after a restart -/
  start    : Option Nat := none
  /-- sequences begun since, its own first one not counted -/
  seqs     : Nat := 0
  /-- kept samples of the half in progress, newest first, 1/16 code -/
  half     : List Int := []
  /-- halves that have ended and await their evaluation, oldest first -/
  closed   : List Half := []
  /-- the most recent positive and negative half that kept two samples: the last two, and its start -/
  posLast  : Option ((Int × Int) × Nat) := none
  negLast  : Option ((Int × Int) × Nat) := none
  /-- D_c as the sum of two samples minus the sum of two, 1/16 code; none until an evaluation is not open -/
  dc       : Option Int := none
  opens    : Nat := 0
  closes   : Nat := 0
  /-- start of the earlier half that the first of the open evaluations compares -/
  tbCand   : Nat := 0
  /-- the first of the evaluations below D_th -/
  belowAt  : Nat := 0
  /-- a declared break, with Tb -/
  broken   : Option Nat := none
  /-- WIRE_BREAK stands in generations whose window starts before this instant -/
  wbUntil  : Option Nat := none
  /-- QUESTIONABLE in generations whose window starts before this instant -/
  qUntil   : Nat := 0
  /-- the recentring window begins at or after this instant (R137) -/
  recentre : Option Nat := none
  /-- an overrange run in progress began here (R87) -/
  clipAt   : Option Nat := none
  /-- an integrated input's averages carry OVERRANGE until its recentring window closes (R137) -/
  overInt  : Bool := false
deriving DecidableEq, Repr

/-- A hold tracker (R138), values 2^−32 code. -/
structure Hold where
  n      : Nat := 0
  min    : Int := 0
  max    : Int := 0
  minAt  : Nat := 0
  maxAt  : Nat := 0
  since  : Nat := 0
  ovr   : Bool := false
  /-- a sample held was uncorrected (R80) -/
  raw   : Bool := false
deriving DecidableEq, Repr

/-- A published generation of one input (R131 to R139). Phasors are (real, imaginary) in REAL32, h = 1 first; `px` holds the same
ones before rounding, in 2^−48 code rms, and `unit` what one of these is in primary units. -/
structure Gen where
  rms    : Word := 0
  mean   : Word := 0
  ph     : List (Word × Word) := []
  px     : List (Int × Int) := []
  unit   : Int × Nat := (0, 1)
  held   : Bool := false
  gap    : Bool := false
  recent : Bool := false
  qual   : Qual := {}
  /-- epoch extremes in 2^−32 code -/
  emin   : Int := 0
  emax   : Int := 0
  /-- the epoch tracker's window held fewer than 4 samples; OVERRANGE of the epoch window (R138) -/
  few    : Bool := true
  eover  : Bool := false
  /-- an extreme's window held an uncorrected sample (R80) -/
  eraw   : Bool := false
  hold   : Hold := {}
deriving DecidableEq, Repr

/-- A frequency tracker (R127 to R129). `freq` is a fraction in Hz. -/
structure Tracker where
  freq   : Nat × Nat := (50, 1)
  held   : Bool := true
  limit  : Bool := false
  nominal : Bool := true
  mag    : Word := 0
  qual   : Qual := {}
  /-- unwrapped angle in 2^−32 degree of the last generations, newest first -/
  theta  : List Int := []
  /-- consecutive generations at or above the threshold -/
  good   : Nat := 0
  /-- the inputs whose phasors it used in that generation (R127) -/
  used   : List Nat := []
  /-- ELAPSED at which the hold began -/
  heldAt : Nat := 0
deriving DecidableEq, Repr

/-- The settings of `acc.track` (R130). -/
structure TrackCfg where
  fnom   : Nat := 50
  leak   : Nat := 5000
  wsrc   : Tab Nat := []
  minMag : Tab Word := []
deriving DecidableEq, Repr

/-- Detector thresholds of an input (R145). -/
structure TdRec where
  incTh : Nat := 0
  incK  : Nat := 4
  twTh  : Nat := 0
deriving DecidableEq, Repr

/-- The settings of `acc.td` (R145). -/
structure TdCfg where
  vset : Tab Nat := []
  recs : Tab TdRec := []
deriving DecidableEq, Repr

/-- One group of a time-domain detector (R141 to R143). -/
structure Det where
  inc     : Bool := false
  /-- the members that have started since the reference was frozen -/
  incBy   : List Nat := []
  /-- the start that froze the reference, and when the group may start again -/
  startAt : Option Nat := none
  againAt : Nat := 0
  /-- consecutive samples at or above INC_TH, per member -/
  runs    : Tab Nat := []
  /-- |d| of the member was at or above TW_TH at its previous sample -/
  ovr    : List Nat := []
  /-- members whose newest sample carries OVERRANGE (R137) -/
  ovrq   : List Nat := []
  /-- the open arrival group: instant of the first arrival, members arrived, polarity, peaks in codes per µs -/
  openAt  : Option Nat := none
  arrived : List Nat := []
  pol     : List Nat := []
  peaks   : Tab Nat := []
  /-- the first arrival of the latest group -/
  lastAt  : Nat := 0
  deadTo  : Nat := 0
  twf     : Bool := false
  /-- the members that arrived in the group that set TWF -/
  twfBy   : List Nat := []
  /-- DIR of the last record: 0 none, 1 FORWARD, 2 REVERSE, 3 undetermined, and the epoch in which it was written -/
  dir     : Nat := 0
  dirAt   : Option Nat := none
  /-- newest Δ of each member, 2^−32 code, and the largest |Δ| since the last tick (R170) -/
  delta   : Tab Int := []
  dmax    : Tab Nat := []
deriving DecidableEq, Repr

/-- An arrival record (R146). -/
structure Arrival where
  stamp   : Stamp := {}
  group   : Nat := 0
  arrived : List Nat := []
  pol     : List Nat := []
  dir     : Nat := 0
  peaks   : Tab Nat := []
  rseq    : Nat := 0
deriving DecidableEq, Repr

/-- MODE of an index (R120). -/
inductive TwinMode where
  | twin | onA | onB | none
deriving DecidableEq, Repr

/-- Plausibility thresholds (R110). -/
structure Plaus where
  magRel   : Nat := 20
  magAbs   : Nat := 8
  phase    : Nat := 200
  phaseMin : Nat := 64
  mmRel    : Nat := 30
  mmAbs    : Nat := 16
deriving DecidableEq, Repr

/-- What a converter measured in a self-test schedule: (sum, count) of the conversions of each of its 112 takes. The takes are
numbered in the schedule's order: Z1 0 to 7, Z2 8 to 15, R 16 to 31, X 32 to 47, and T from 48, eight for each input (R113). -/
abbrev TestTakes := Tab (Int × Nat)

/-- What the two converters of an index measured in the tests of R114, in 1/16 code: the takes of phases Z1
and Z2, the own-reference result, the reading of the other path's reference, and (+VT, −VT) of the eight buffers. -/
structure TestRes where
  zA : List Int := []
  zB : List Int := []
  rA : Int := 51200 * 16
  rB : Int := 51200 * 16
  /-- A's reading of REF_B and B's reading of REF_A -/
  xAB : Int := 51200 * 16
  xBA : Int := 51200 * 16
  tA : List (Int × Int) := []
  tB : List (Int × Int) := []
deriving DecidableEq, Repr

/-- What asked for a self-test in progress. -/
inductive TestBy where
  | engine | hk | test (r : Req) | ret (r : Req) (p : Path)
deriving DecidableEq, Repr

/-- The twin state of an index (R105 to R122). -/
structure Twin where
  removedA : Bool := false
  removedB : Bool := false
  bufA     : List Nat := []
  bufB     : List Nat := []
  /-- the protection path is B -/
  onPathB  : Bool := false
  /-- a self-test is wanted at the next strobe edge -/
  want     : Option TestBy := none
  /-- the running self-test, with its first cnv clock index -/
  testing  : Option (TestBy × Nat) := none
  /-- sampling has resumed after the schedule, and when; the verdict taken: CAUSE and failed buffers (R114, R117) -/
  resumed  : Bool := false
  /-- ELAPSED instants at which the last self-test began and sampling resumed after it (R113, R115) -/
  testBeg  : Nat := 0
  testEnd  : Nat := 0
  verdict  : Option (Nat × List Nat × List Nat) := none
  disputed : Bool := false
  /-- consecutive disagreeing counted generations, and the largest disagreement in 0.1 % -/
  count    : Nat := 0
  largest  : Nat := 0
  /-- transient verdicts of the last 60 s: those that count toward DISPUTED, and those of ordered self-tests (R119) -/
  transAt  : List Nat := []
  transOrd : List Nat := []
  cause    : Nat := 0
  verdictEp : Nat := 0
  lastDis  : Nat := 0
  /-- parts of the path given are RETURNING: converter, buffers, agreeing generations -/
  returning : Option (Path × Bool × List Nat × Nat) := none
  /-- QUESTIONABLE since the first disagreeing generation (R112) -/
  suspect  : Bool := false
  plaus    : Plaus := {}
deriving DecidableEq, Repr

/-- An urgent request (R100 to R102): its entry, and what ordered it (none: housekeeping). -/
structure Urg where
  entry : Nat := 0
  by_   : Option Req := none
deriving DecidableEq, Repr

/-- A converter (R88 to R92, R100 to R103). -/
structure Conv where
  /-- a sequence has been started -/
  on      : Bool := false
  /-- the entry in progress and the cnv clock index of its first cycle -/
  entry   : Nat := 0
  base    : Nat := 0
  /-- kept conversions of the take in progress, newest first, with their cnv clock indexes -/
  kept    : List (Int × Nat) := []
  /-- the entry and first cycle the kept conversions belong to, and whether a strobe cut the take (R92) -/
  takeEnt : Nat := 0
  takeBase : Nat := 0
  cutTake : Bool := false
  /-- grid number and stamp of the strobe edge that began the sequence of the take: ELAPSED, ns64 and cnv clock index (R91) -/
  takeGrid : Nat := 0
  takeEl  : Nat := 0
  takeNs  : Nat := 0
  takeIdx : Nat := 0
  /-- the urgent entry in progress, its first cycle and the entry it pre-empted -/
  urgent  : Option (Urg × Nat) := none
  /-- the urgent entry has abandoned an entry, which restarts after it (R100) -/
  resume  : Bool := false
  queue   : List Urg := []
  /-- grid number of the strobe that began the sequence in progress -/
  grid    : Nat := 0
  /-- the stamp of that strobe edge (R91) -/
  stEl    : Nat := 0
  stNs    : Nat := 0
  stIdx   : Nat := 0
  /-- the takes of the self-test schedule in progress -/
  test    : TestTakes := []
  skips   : Nat := 0
  cuts    : Nat := 0
  waits   : Nat := 0
  skips1  : Nat := 0
  cuts1   : Nat := 0
  waits1  : Nat := 0
  /-- housekeeping record (R103) -/
  zeroOfs : Int := 0
  /-- the offset at startup calibration, from which cause 1 is measured -/
  zeroCal : Int := 0
  gainErr : Int := 0
  vana    : Nat := 0
  temp    : Int := 0
  /-- causes of HK_FAIL that stand; the trims are held while there is one -/
  hkFails : List Nat := []
  rot     : Nat := 0
  /-- the sequence period in which the converter last ran an urgent entry (R101) -/
  urgGrid : Option Nat := none
deriving DecidableEq, Repr

/-- The converters and their settings (04, 05 and 06 of the spec). -/
structure CnvSt where
  p       : Nat := 40
  /-- P of the most recently accepted `cnv.seq` (R96) -/
  pAcc    : Nat := 40
  seqs    : Tab (List Nat) := []
  convs   : Tab Conv := []
  /-- cnv clock index and ELAPSED of the latest strobe edge, and how many there have been -/
  idx     : Nat := 0
  strobeEl : Nat := 0
  /-- ns64 of the latest strobe edge (R91) -/
  strobeNs : Nat := 0
  grid    : Nat := 0
  /-- cnv cycles by which the delivered grid still stands behind the stepped one (R93) -/
  shift   : Int := 0
  /-- I_HK in ms, the origin C, and the rounds issued on each path -/
  hkInt   : Nat := 1000
  hkOrg   : Nat := 0
  hkA     : Nat := 0
  hkB     : Nat := 0
  /-- the strobe second of the counts SKIPS, CUTS and WAITS -/
  secAt   : Nat := 0
  inRecs  : Tab InRec := []
  inPend  : List (Nat × Nat × InRec) := []
  seqPend : List (Nat × Nat × Tab (List Nat)) := []
  hkPend  : List (Nat × Nat) := []
  plPend  : List (Nat × List (Nat × Plaus)) := []
  twins   : Tab Twin := []
  ains    : Tab AIn := []
  /-- converter calibration is complete (R55) -/
  calib   : Bool := false
deriving DecidableEq, Repr

/-- A published generation of the whole bank. -/
structure GenSet where
  epoch  : Nat := 0
  gens   : Tab Gen := []
  tracks : Tab Tracker := []
  /-- the plausibility results that belong to it (R22) -/
  twins  : Tab Twin := []
deriving DecidableEq, Repr

/-- The accumulator bank (07 of the spec). -/
structure AccSt where
  /-- samples of input n on path A at n and on path B at 160 + n, newest first -/
  hist    : Tab (List Smp) := []
  /-- hold trackers by the same index -/
  holds   : Tab Hold := []
  cur     : GenSet := {}
  prev    : GenSet := {}
  /-- frequency tracker t on path A at t and on path B at 40 + t (R106) -/
  trk     : Tab Tracker := []
  track   : TrackCfg := {}
  td      : TdCfg := {}
  trackPend : List (Nat × TrackCfg) := []
  tdPend  : List (Nat × TdCfg) := []
  swapPend : List (Nat × Req) := []
  /-- detector group d on path A at d and on path B at 40 + d (R106) -/
  det     : Tab Det := []
  fifo    : List Arrival := []
  /-- the fabric's own copies of arrival records not yet sent (R146) -/
  toFab   : List Arrival := []
  drops   : Nat := 0
  rseq    : Nat := 0
deriving DecidableEq, Repr

/-- A comparator: its state bit and its run of above conversions (R207). -/
structure Cmp where
  on  : Bool := false
  run : Nat := 0
deriving DecidableEq, Repr

/-- A trip group (R210, R211). -/
structure Group where
  set     : Bool := false
  driving : Bool := false
  /-- ELAPSED at which the drive began, and until which MIN_ON holds it once cleared -/
  since   : Nat := 0
  holdTo  : Nat := 0
  edges   : Nat := 0
deriving DecidableEq, Repr

/-- The backstop (10 of the spec). -/
structure BsSt where
  /-- the image in force; none while disarmed -/
  img     : Option (List Byte) := none
  /-- parts that failed their CRC in service: cnv, acc, elm (R217) -/
  bad     : List Nat := []
  cmps    : Tab Cmp := []
  det     : Tab Det := []
  groups  : Tab Group := []
  /-- the staging buffer, ladle object 0x0003 -/
  stage   : Mem := []
  staged  : Bool := false
  /-- a COMMIT in progress: its request and the image it writes -/
  commit  : Option (Req × List Byte) := none
  /-- copies verified, S, and whether copy A failed -/
  load    : Option (Nat × List Byte) := none
deriving DecidableEq, Repr

end Sys2Proof.Machine
end

