-- ==== Sys2Proof/Machine/FldTypes.lean ====
section
/-! DEFINITION. State of the field zone, the barrier link and the logic side's field block (15 of the spec), as plain
data. -/

namespace Sys2Proof.Machine
open Sys2Proof

/-- The field configuration of `io.cfg` (R342); masks by number. -/
structure FldCfg where
  silence  : Nat := 100
  safe     : Nat := 0
  owEn     : Nat := 0
  rbIn     : Nat := 0
  stampLog : Nat := 0
  preset   : Nat := 0
  edgeSel  : Nat := 0
  /-- DEB of DIi at i, 8 to 63 -/
  deb      : Tab Nat := []
  diTest   : Nat := 0
  rbTest   : Nat := 0
deriving DecidableEq, Repr

/-- The drive phase of an output (R323). -/
inductive Drive where
  | normal | peak | regulation | foldback | retry
deriving DecidableEq, Repr

/-- An output on the field side (R321 to R326). -/
structure Chan where
  phase    : Drive := .normal
  /-- since when normal drive holds -/
  normalAt : Nat := 0
  overload : Bool := false
  fold     : Bool := false
  open_    : Bool := false
  overtemp : Bool := false
  shut     : Bool := false
  backfeed : Bool := false
  /-- consecutive open-wire tests above 12 V -/
  owRun    : Nat := 0
deriving DecidableEq, Repr

/-- A queued edge entry of the field side (R331, R332). -/
structure FEdge where
  input : Nat := 0
  level : Bool := false
  /-- FTIME of the stamp, already less the input delay -/
  ft    : Nat := 0
deriving DecidableEq, Repr

/-- The field side: it keeps its own state across a reset of the logic side (R314 to R337). -/
structure FldSt where
  /-- VFLD is present -/
  powered  : Bool := false
  lockout  : Bool := false
  /-- FTIME -/
  ft       : Nat := 0
  /-- the configuration words held, by CADDR, and those received since power-up (R329, R337) -/
  words    : Tab Nat := []
  got      : List Nat := []
  /-- a frame with a valid CRC has arrived since power-up; consecutive good frames; lock (R42, R327) -/
  seen     : Bool := false
  goodRun  : Nat := 0
  locked   : Bool := false
  /-- the outputs are in their safe states after a silence expiry -/
  silent   : Bool := false
  /-- FTIME at which the silence timer last restarted -/
  silAt    : Nat := 0
  /-- the silence timer runs (R334) -/
  silRun   : Bool := false
  silCnt   : Nat := 0
  badDn    : Nat := 0
  lost     : Nat := 0
  /-- OUT in force, output by bit -/
  out      : Nat := 0
  /-- debounced states and fast-input levels; readback states -/
  di       : Nat := 0
  rb       : Nat := 0
  /-- raw states of DI8 to DI63 at their last sample, and FTIME of the first sample of the run in which one differs from the debounced
  state (R315, R317) -/
  diRaw    : Nat := 0
  diRun    : Tab (Option Nat) := []
  /-- FTIME at which the wetting phase in progress of an input began, and of the latest one (R316) -/
  wet      : Tab (Option Nat) := []
  wetLast  : Tab (Option Nat) := []
  chans    : Tab Chan := []
  /-- edge entries not yet sent: fast inputs first, then DI8 to DI63 -/
  fastQ    : List FEdge := []
  slowQ    : List FEdge := []
  /-- entries lost since the last EDGES record -/
  lostNow  : Bool := false
  seqUp    : Nat := 0
  /-- the next uplink frame of DI, AUX, RB, AUX; AUX slots counted in eights; the next record of the round of 35 and the next address that
  it echoes (R330, R332) -/
  upPos    : Nat := 0
  auxN     : Nat := 0
  round    : Nat := 0
  echoA    : Nat := 0
deriving DecidableEq, Repr

/-- A fast counter on the logic side (R319, R320). -/
structure Counter where
  count   : Nat := 0
  stamp   : Nat := 0
  cmp     : Nat := 0
  /-- ELAPSED of the previous compare match -/
  matchAt : Option Nat := none
  /-- QUESTIONABLE until FCCLR -/
  quest   : Bool := false
deriving DecidableEq, Repr

/-- What the latest DIAG record says of an output (R331, R343). -/
structure DiagRec where
  bits : Nat := 0
  cur  : Nat := 0
  /-- ELAPSED at the onset of the event condition in progress -/
  since : Option Nat := none
deriving DecidableEq, Repr

/-- The field input set of an epoch (R18, R298, R338, R343). -/
structure InSet where
  epoch    : Nat := 0
  di       : Nat := 0
  rb       : Nat := 0
  fault    : Nat := 0
  lockout  : Bool := false
  unconf   : Bool := false
  loss     : Bool := false
  /-- COUNT and STAMP of the eight counters, and their QUESTIONABLE bits -/
  count    : Tab Nat := []
  stamp    : Tab Nat := []
  cquest   : Nat := 0
  /-- outputs in input mode whose command was ON at the latch -/
  inOn     : Nat := 0
  /-- the barrier command register, and the lidded outputs -/
  cmd      : Nat := 0
  lid      : Nat := 0
  /-- what `io.read` answers beside them: the latest DIAG and STATUS values, input modes, CMP and the eight counts (R343) -/
  diag     : Tab DiagRec := []
  vfld     : Nat := 0
  temp     : Int := 0
  inMode   : Nat := 0
  cmp      : Tab Nat := []
  totals   : List Nat := []
deriving DecidableEq, Repr

/-- A stamped edge in the FIFO of R339. -/
structure Edge where
  stamp  : Stamp := {}
  input  : Nat := 0
  level  : Bool := false
  cnt    : Bool := false
  rec_   : Bool := false
  gapEnd : Bool := false
  /-- with GAP_END: ns64 of the last REC entry before the block -/
  gapNs  : Nat := 0
  lostB  : Bool := false
  count  : Nat := 0
deriving DecidableEq, Repr

/-- The logic side of the barrier: link, receiver, counters, edge FIFO and the command register (R214, R327 to R341). -/
structure BarSt where
  /-- the barrier link has started (R56) -/
  run      : Bool := false
  cfg      : FldCfg := {}
  cfgPend  : List (Nat × FldCfg) := []
  seqDn    : Nat := 0
  caddr    : Nat := 0
  ins      : Bool := false
  inserted : Nat := 0
  /-- ELAPSED at which the value of each configuration address was first sent, and addresses found differing -/
  sentAt   : Tab Nat := []
  differ   : List Nat := []
  /-- OUT of the frame in flight, and that frame as the 12 bytes on the line (R214, R328) -/
  cmd      : Nat := 0
  tx       : List Byte := []
  /-- the last good uplink frame, and: UNCONF has been 0 since the logic side's reset (R330, R337) -/
  rx       : List Byte := []
  confd    : Bool := false
  diReg    : Nat := 0
  rbReg    : Nat := 0
  faultReg : Nat := 0
  lockout  : Bool := false
  lockAt   : Nat := 0
  unconf   : Bool := false
  /-- consecutive good uplink frames, consecutive bad ones; uplink loss since -/
  goodRun  : Nat := 0
  badRun   : Nat := 0
  loss     : Option Nat := none
  goodAt   : Nat := 0
  badUp    : Nat := 0
  badDn    : Nat := 0
  silSeen  : Nat := 0
  silAll   : Nat := 0
  losses   : Nat := 0
  lostSeen : Nat := 0
  lostAll  : Nat := 0
  vfld     : Nat := 0
  temp     : Int := 0
  diag     : Tab DiagRec := []
  /-- the mapping of FTIME to the time counter: FTIME, ns64 and the link delay in ns (R331) -/
  mapFt    : Nat := 0
  mapNs    : Nat := 0
  delay    : Nat := 0
  /-- ELAPSED of the last accepted change of DIi (R344) -/
  diAt     : Tab Nat := []
  counters : Tab Counter := []
  set      : InSet := {}
  fifo     : List Edge := []
  peeked   : Bool := false
  recBlock : Bool := false
  gapFrom  : Option Nat := none
  /-- ns64 of the last REC entry accepted -/
  lastRec  : Nat := 0
  cntDrop  : Nat := 0
  recRef   : Nat := 0
  /-- totals for `io.read` and `io.edges` -/
  cntDropAll : Nat := 0
  recRefAll  : Nat := 0
  edgesDrop  : Nat := 0
  /-- CNT entries dropped in the burst in progress (R344) -/
  burst    : Nat := 0
  recMask  : Nat := 0
  log      : List Edge := []
  lostBefore : Bool := false
deriving DecidableEq, Repr

end Sys2Proof.Machine
end

