-- ==== Sys2Proof/Machine/ElmTypes.lean ====
section
/-! DEFINITION. State of the element engine and the timer wheel (08 and 09 of the spec), as plain data. -/

namespace Sys2Proof.Machine
open Sys2Proof

/-- MODE of a timer (R191, R203). -/
inductive TMode where
  | idle | oneshot | periodic | stopwatch
deriving DecidableEq, Repr

/-- A timer of the wheel; instants in ns of ELAPSED (R191 to R203). -/
structure Timer where
  /-- 0 element, 1 logic, 2 firmware and fabric, 3 unallocated -/
  cls     : Nat := 3
  slot    : Nat := 255
  owner   : Nat := 0
  mode    : TMode := .idle
  paused  : Bool := false
  /-- S, and X of a ONESHOT -/
  start   : Nat := 0
  x       : Nat := 0
  /-- T of a PERIODIC in µs -/
  period  : Nat := 0
  remain  : Nat := 0
  /-- h of a PAUSE in µs and the instant p + h -/
  hold    : Nat := 0
  holdTo  : Nat := 0
  notify  : Bool := false
  /-- expiries notified and not yet taken; expiries of a PERIODIC already notified -/
  pend    : Nat := 0
  done    : Nat := 0
deriving DecidableEq, Repr

/-- The wheel's bookkeeping per class: HIGH and REFUSED (R203). -/
structure WheelSt where
  timers  : Tab Timer := []
  high    : List Nat := [0, 0, 2048]
  refused : List Nat := [0, 0, 0]
  /-- the timers as they stood at the latest P(E), and FREQ_INC at its tick, which `diag.wheel` reads (R23, R203) -/
  pub     : Tab Timer := []
  pubInc  : Nat := 0x400000000
deriving DecidableEq, Repr

/-- A user curve (R158). -/
structure Curve where
  npts : Nat := 0
  tr   : Word := 0
  pts  : List (Word × Word) := []
deriving DecidableEq, Repr

/-- A table buffer: the descriptors as stored, and the user curves (R149, R182). -/
structure TableBuf where
  descs  : Tab (List Byte) := []
  curves : Tab Curve := []
deriving DecidableEq, Repr

/-- A descriptor by field (R149); REAL32 fields as patterns. -/
structure Desc where
  ty      : Nat := 0
  flags   : Nat := 0
  skind   : Nat := 0
  sidx    : Nat := 0
  qty     : Nat := 0
  phsel   : Nat := 0
  curve   : Nat := 0
  reset   : Nat := 0
  pickup  : Word := 0
  tms     : Word := 0
  tOp     : Nat := 0
  tRst    : Nat := 0
  hyst    : Nat := 0
  mmax    : Nat := 0
  dirmode : Nat := 0
  dirRef  : Nat := 0xFFFF
  restrRef : Nat := 0xFFFF
  clpRef  : Nat := 0xFFFF
  sig1    : Nat := 0xFFFF
  sig2    : Nat := 0xFFFF
  owner   : Nat := 0
  doMask  : Nat := 0
  p1      : Word := 0
  p2      : Word := 0
  p3      : Word := 0
  p4      : Word := 0
  vset    : Nat := 0xFF
deriving DecidableEq, Repr

/-- The state of one element (R154 to R178). -/
structure ElSt where
  start   : Bool := false
  operate : Bool := false
  /-- started phases: 0 A, 1 B, 2 C, 3 N -/
  phases  : List Nat := []
  dir     : Nat := 0
  phdir   : Nat := 0
  restr   : Bool := false
  clp     : Bool := false
  latched : Bool := false
  /-- OPERATE by the element's own timing, without LATCH -/
  own     : Bool := false
  stage1  : Bool := false
  /-- the outputs that it has driven since LATCHED set (R160) -/
  drives  : Nat := 0
  /-- LATCHED stands at an index whose descriptor reads EN = 0: the published record is zeros (R160, R178) -/
  off     : Bool := false
  /-- PICKUP′ of the previous pass, at scale 2^−149 (R165) -/
  pk      : Nat := 0
  memory  : Bool := false
  qual    : Qual := {}
  progress : Nat := 0
  /-- the timing integral in units of 2^−64 (R156) -/
  integ   : Nat := 0
  /-- epoch of the first pass of the current start -/
  since   : Nat := 0
  /-- the wheel timers the element holds -/
  timers  : List Nat := []
  /-- memory of a DIRP: per phase the angle in 2^−32 degree and the generation stored (R162) -/
  mem     : Tab (Option (Int × Nat)) := []
  /-- HR: the phases in the T_RST that follows their restraint, each with its end in ns of ELAPSED (R164) -/
  held    : List (Nat × Nat) := []
  /-- CLP: armed, and SIG1 in the previous pass -/
  armed   : Bool := false
  sig     : Bool := false
  /-- TDDIR: passes accumulated and the torque, scaled by 2^−298; INCOC: consecutive passes of each phase -/
  count   : Nat := 0
  runs    : Tab Nat := []
  torque  : Int := 0
  /-- TWDIR: the record held for the next pass -/
  heldDir : Option Nat := none
deriving DecidableEq, Repr

/-- The detector data of a generation for one group (R170). -/
structure DetGen where
  dmax  : Tab Nat := []
  delta : Tab Int := []
  inc   : Bool := false
  dir   : Option Nat := none
deriving DecidableEq, Repr

/-- The element engine (R147 to R186). -/
structure ElmSt where
  active   : TableBuf := {}
  inactive : TableBuf := {}
  /-- descriptors that failed their CHK in a pass, blocked until the next swap (R182) -/
  bad      : List Nat := []
  states   : Tab ElSt := []
  /-- the published generation and the one before it -/
  pub      : Tab ElSt := []
  pubEpoch : Nat := 0
  /-- the epoch of the previous generation -/
  prevEpoch : Nat := 0
  /-- outputs the matrix drives in the generation in force; DO_MASK and DO_MASK1 of the table that pass used (R180) -/
  drive    : Nat := 0
  nextDrive : Nat := 0
  prev     : Tab ElSt := []
  /-- a swap accepted: S, KEEP -/
  swap     : Option (Nat × Bool) := none
  /-- timers allocated for the table that the swap brings, by element -/
  swapTimers : Tab (List Nat) := []
  /-- `elem.reset` waiting for S: FIRST, COUNT -/
  resets   : List (Nat × Nat × Nat) := []
  /-- the first pass after a table load is a swap with every state from reset (R57) -/
  fresh    : Bool := false
  /-- the pass whose results await publication -/
  passEpoch : Option Nat := none
  /-- |EMIN|, |EMAX| of the generations of the last half window, newest first, 2^−32 code -/
  peaks    : Tab (List Nat) := []
  /-- phase-to-phase voltages of the generations of two windows, newest first, per set (R162) -/
  vpol     : Tab (List (List (Int × Int))) := []
  /-- frequencies of the generations of the last 500 ms, newest first, per tracker; none when held or nominal (R167) -/
  freqs    : Tab (List (Option (Nat × Nat))) := []
  dets     : Tab DetGen := []
deriving DecidableEq, Repr

end Sys2Proof.Machine
end

