-- ==== Sys2Proof/Machine/Num.lean ====
section
/-! DEFINITION. Exact numbers and their rounding to REAL32 (binary32, round to nearest, ties to even). -/

namespace Sys2Proof.Machine
open Sys2Proof

/-- The sticky flags of an arithmetic step (R285): invalid, divide by zero, overflow, underflow, inexact. -/
structure FFlags where
  iv : Bool := false
  dz : Bool := false
  ovf : Bool := false
  uf : Bool := false
  nx : Bool := false
deriving DecidableEq, Repr

/-- The union of two sets of flags. -/
def FFlags.or (a b : FFlags) : FFlags :=
  { iv := a.iv || b.iv, dz := a.dz || b.dz, ovf := a.ovf || b.ovf, uf := a.uf || b.uf, nx := a.nx || b.nx }

/-- The canonical NaN of the interpreter (R284). -/
def qNaN : Word := 0x7FC00000

/-- A binary32 pattern taken apart. A finite value is (−1)^neg × man × 2^exp. -/
inductive F32 where
  | nan (signalling : Bool)
  | inf (neg : Bool)
  | fin (neg : Bool) (man : Nat) (exp : Int)
deriving DecidableEq, Repr

/-- Take a binary32 pattern apart. -/
def f32 (w : Word) : F32 :=
  let v := w.toNat
  let neg := decide (2 ^ 31 ≤ v)
  let e : Nat := v / 2 ^ 23 % 256
  let m : Nat := v % 2 ^ 23
  if e = 255 then (if m = 0 then .inf neg else .nan (decide (m < 2 ^ 22)))
  else if e = 0 then .fin neg m (-149)
  else .fin neg (m + 2 ^ 23) ((e : Int) - 150)

/-- Round half to even: the quotient `n / d`, and whether it is inexact. -/
def rne (n d : Nat) : Nat × Bool :=
  let q := n / d
  let r := n % d
  if r = 0 then (q, false)
  else if d < 2 * r then (q + 1, true)
  else if 2 * r < d then (q, true)
  else (if q % 2 = 0 then (q, true) else (q + 1, true))

/-- Round to nearest, ties to even, on integers. -/
def rneI (n : Int) (d : Nat) : Int :=
  if n < 0 then -((rne n.natAbs d).1 : Int) else ((rne n.natAbs d).1 : Int)

/-- `n / d × 2^(−q)` as a quotient of naturals. -/
def scaleQ (n d : Nat) (q : Int) : Nat × Nat :=
  if q < 0 then (n * 2 ^ q.natAbs, d) else (n, d * 2 ^ q.natAbs)

/-- ⌊log2 (n / d)⌋ for positive `n` and `d`. -/
def log2Q (n d : Nat) : Int :=
  let k : Int := (Nat.log2 n : Int) - (Nat.log2 d : Int)
  let s := scaleQ n d k
  if s.1 < s.2 then k - 1 else k

/-- The binary32 pattern nearest to ±n/d, ties to even, with the flags of the rounding (R283): overflow gives an infinity,
tininess is detected after rounding. `d` is positive. -/
def roundQ (neg : Bool) (n d : Nat) : Word × FFlags :=
  let s : Nat := if neg then 2 ^ 31 else 0
  if n = 0 then (BitVec.ofNat 32 s, {})
  else
    let k := log2Q n d
    let q : Int := if k - 23 < -149 then -149 else k - 23
    let sc := scaleQ n d q
    let r := rne sc.1 sc.2
    -- the same number rounded to 24 bits with an unbounded exponent decides tininess
    let u := scaleQ n d (k - 23)
    let ur := (rne u.1 u.2).1
    let tiny : Bool := if ur = 2 ^ 24 then decide (k + 1 < -126) else decide (k < -126)
    let mag : Nat := ((q + 149).toNat) * 2 ^ 23 + r.1
    if 255 * 2 ^ 23 ≤ mag then (BitVec.ofNat 32 (s + 255 * 2 ^ 23), { ovf := true, nx := true })
    else (BitVec.ofNat 32 (s + mag), { uf := tiny && r.2, nx := r.2 })

/-- The REAL32 nearest to a fraction. -/
def realQ (n : Int) (d : Nat) : Word := (roundQ (decide (n < 0)) n.natAbs d).1

/-- Bitwise integer square root by `fuel` steps from the highest bit. -/
def isqrtStep (fuel n r : Nat) : Nat :=
  match fuel with
  | 0 => r
  | k + 1 => let t := r + 2 ^ k; isqrtStep k n (if t * t ≤ n then t else r)

/-- ⌊√n⌋. -/
def isqrt (n : Nat) : Nat := isqrtStep (Nat.log2 n / 2 + 1) n 0

/-- The REAL32 nearest to √(n/d): the root is taken to 64 bits with a sticky bit and rounded once. -/
def realSqrtQ (n d : Nat) : Word × FFlags :=
  if n = 0 then (0, {})
  else
    let k := log2Q n d
    -- an even shift that leaves at least 2^128 under the root
    let e : Int := (k - 130) / 2 * 2
    let sc := scaleQ n d e
    let m := sc.1 / sc.2
    let r := isqrt m
    let exact := r * r = m ∧ sc.1 % sc.2 = 0
    let m2 := 2 * r + (if exact then 0 else 1)
    let h := e / 2 - 1
    if h < 0 then roundQ false m2 (2 ^ h.natAbs) else roundQ false (m2 * 2 ^ h.natAbs) 1

/-- A finite REAL32 as a fraction of an integer and a power of two: (numerator, denominator). -/
def realVal (w : Word) : Option (Int × Nat) :=
  match f32 w with
  | .fin neg m e =>
    let v : Int × Nat := if e < 0 then ((m : Int), 2 ^ e.natAbs) else ((m : Int) * 2 ^ e.natAbs, 1)
    some (if neg then (-v.1, v.2) else v)
  | _ => none

/-- Is the pattern finite? -/
def isFin (w : Word) : Bool := (realVal w).isSome

/-- a/b < c/d for positive denominators. -/
def ltQ (a : Int × Nat) (c : Int × Nat) : Bool := decide (a.1 * c.2 < c.1 * a.2)

end Sys2Proof.Machine
end

