-- ==== Sys2Proof/Machine/LgcTypes.lean ====
section
/-! DEFINITION. State of the logic slots and pairs, the Fjoask contexts, the process images and the remote stations (11 to
14 of the spec), as plain data. -/

namespace Sys2Proof.Machine
open Sys2Proof

/-- A type of a local (R243). -/
inductive Ty where
  | unused | bool | int | uint | real | time | qual | phasor | bad
deriving DecidableEq, Repr, Inhabited

/-- A task of the table (R226). -/
structure TaskDef where
  /-- 0 CYCLIC, 1 ERROR, 2 EVENT -/
  kind   : Nat := 0
  prio   : Nat := 0
  div    : Nat := 1
  phase  : Nat := 0
  trig   : Nat := 0
  source : Nat := 0
  entry  : Nat := 0
  /-- output-half words the task may write, as inclusive ranges -/
  outset : List (Nat × Nat) := []
  /-- outputs in its OUTSET, by bit -/
  outs   : Nat := 0
  types  : List Ty := []
deriving DecidableEq, Repr, Inhabited

/-- A remote point of a slot's point map (R300, R306). -/
structure MapPoint where
  station : Nat := 0
  member  : Nat := 0
  /-- 0 hold last, 1 fixed, 2 zero -/
  subst   : Nat := 0
  value   : Word := 0
  /-- SCALE of a sampled-value channel delivered as REAL32 -/
  scale   : Option Word := none
deriving DecidableEq, Repr, Inhabited

/-- What an FJ image declares (R220, R221, R226, R243, R299, R300, R446). DESIGN CHOICE (log 25). -/
structure FjImg where
  pcf     : Nat := 1
  n       : Nat := 4
  grace   : Nat := 10
  tasks   : List TaskDef := []
  /-- bytes of code -/
  code    : Nat := 0
  /-- mode of each slot timer (1 ONESHOT, 2 PERIODIC, 3 STOPWATCH) and NOTIFY -/
  timers  : List (Nat × Bool) := []
  /-- data words the retain map declares, as inclusive ranges -/
  retain  : List (Nat × Nat) := []
  init    : Tab Word := []
  feeders : Nat := 0
  outputs : Nat := 0
  /-- safe values of the owned outputs stand in `io.cfg`; fast counters the slot owns -/
  counters : Nat := 0
  elems   : List Nat := []
  objs    : List CtlDecl := []
  points  : List MapPoint := []
  /-- arm-relevant points (R58): the analogue-derived ones by the word of the input half that holds their quality, none where the
  compiler keeps the default; DI points; remote points by map index. DESIGN CHOICE (log 44). -/
  armAn : Option (List Nat) := none
  armDi : List Nat := []
  armRemote : List Nat := []
  /-- the bytes of the image as staged -/
  bytes   : List Byte := []
deriving DecidableEq, Repr, Inhabited

/-- A task's context (R246), with its count of consecutive faulting runs (R292). -/
structure Ctx where
  locals  : Tab DWord := []
  rstack  : List Nat := []
  pc      : Nat := 0
  lockcnt : Nat := 0
  flags   : FFlags := {}
  prog    : Nat := 0
  fault   : Nat := 0
  trap    : Nat := 0
  fpc     : Nat := 0
  fprog   : Nat := 0
  pstate  : DWord := 0
  faults  : Nat := 0
  /-- disabled after three faults; disabled by TDIS -/
  faultDis : Bool := false
  tdis    : Bool := false
  /-- its outputs stay lidded until a run without a fault (R230) -/
  lidOut  : Bool := false
deriving DecidableEq, Repr

/-- The trigger record of an EVENT task (R227): source, count, and the stamp of the first trigger. -/
structure Trig where
  source : Nat := 0
  count  : Nat := 0
  wall   : Nat := 0
  qual   : Nat := 0
deriving DecidableEq, Repr

/-- An operation on a timer (R192); instants and durations as FJ code stages them, ns of ELAPSED and µs. -/
inductive TOp where
  | start (s d : Nat)
  | startP (s t : Nat)
  | startW (s : Nat)
  | cancel
  | pause (p h : Nat)
  | resume (r : Nat)
deriving DecidableEq, Repr

/-- A staged effect of a task (R245), in execution order. -/
inductive Staged where
  | out (word mask : Nat) (value : Word)
  | timer (i : Nat) (op : TOp)
  | fcset (i : Nat) (v : Nat)
  | fcclr (i : Nat)
  | ack (o v : Nat)
  | ctlop (o v cls : Nat)
  | evt (q user : Nat)
  | tena (t : Nat)
  | tdis (t : Nat)
deriving DecidableEq, Repr

/-- The cycle in progress on a pair (R222 to R227). -/
structure Cyc where
  e        : Nat := 0
  /-- ELAPSED of READ-IN -/
  at_      : Nat := 0
  repeated : Bool := false
  /-- tasks ready and not started; the running task and those it preempted, innermost first; tasks ended -/
  ready    : List Nat := []
  stack    : List Nat := []
  ended    : List Nat := []
  faulted  : List Nat := []
  data     : Tab Word := []
  ctxs     : Tab Ctx := []
  staged   : List (Nat × Staged) := []
  /-- the pair on which the cycle first began (R228) -/
  pair     : Option Nat := none
  /-- triggers latched by this cycle, for a repetition -/
  trigs    : Tab Trig := []
  /-- trigger records that no run of their task has taken yet -/
  due      : Tab Trig := []
  /-- kicks latched for the next cycle, which reach the slot with the commit (R275) -/
  kicks    : Tab Trig := []
  /-- cause word, skipped count and mask of faulted tasks given to the error task -/
  cause    : Nat := 0
  skips    : Nat := 0
  fmask    : Nat := 0
  /-- the innermost task of `stack` is executing -/
  active   : Bool := false
  /-- the control objects as they stood at READ-IN (R277, R443) -/
  objs     : Tab CtlObj := []
deriving DecidableEq, Repr

/-- What one FJ instruction works on: the running task, its image, context, cycle and the halves it reads (R241). -/
structure Fj where
  slot    : Nat := 0
  t       : Nat := 0
  d       : TaskDef := {}
  img     : FjImg := {}
  x       : Ctx := {}
  c       : Cyc := {}
  inH     : Tab Word := []
  carried : Tab Word := []
  /-- the slot's timers as committed, by declared index -/
  timers  : List Timer := []
  /-- a halt or a step is to take effect at the next boundary (R497) -/
  halt    : Bool := false

/-- How an FJ instruction ends: a fault code (0 none) with its element and TRAP code, a taken jump, the end of the run, or an
interruption at an element boundary with PROG and PSTATE (R250, R271). -/
structure FjOut where
  f     : Fj
  fault : Nat := 0
  fprog : Nat := 0
  trap  : Nat := 0
  jump  : Option Nat := none
  ended : Bool := false
  pause : Option (Nat × DWord) := none

/-- STATE of a slot (R239). -/
inductive SlotSt where
  | empty | lidded | run | migrating | kettle | faulted
deriving DecidableEq, Repr

/-- A committed output half waiting for its publication (R19, R223, R224). -/
structure OutHalf where
  tag   : Nat := 0
  words : Tab Word := []
  /-- the first epoch whose publication puts it in force -/
  at_   : Nat := 0
  /-- FCSET and FCCLR that take effect with it (R320) -/
  fc    : List Staged := []
deriving DecidableEq, Repr

/-- A slot (R219, R239). -/
structure Slot where
  img      : Option FjImg := none
  /-- an activation waiting: S and the image (R221, R447) -/
  next     : Option (Nat × FjImg) := none
  state    : SlotSt := .empty
  pair     : Option Nat := none
  /-- the slot store: committed data and contexts -/
  data     : Tab Word := []
  ctxs     : Tab Ctx := []
  inHalf   : Tab Word := []
  inTag    : Nat := 0
  force    : Tab Word := []
  forceTag : Nat := 0
  waiting  : Option OutHalf := none
  /-- the half committed last (R26, R304) -/
  last     : Tab Word := []
  lastTag  : Nat := 0
  /-- that half as it stood at the latest P(E), which a pinned read returns (R24) -/
  pubLast  : Tab Word := []
  pubTag   : Nat := 0
  cyc      : Option Cyc := none
  /-- the interrupted cycle to be repeated (R233) -/
  redo     : Option Cyc := none
  /-- cycles since the last start or restart, skipped ones included -/
  count    : Nat := 0
  nextE    : Nat := 0
  /-- cycles of the outgoing image skipped before a new one took over, not reported yet (R221, R228) -/
  preSkip  : Nat := 0
  skipped  : Nat := 0
  overruns : Nat := 0
  runMax   : Nat := 0
  runMax1  : Nat := 0
  runSec   : Nat := 0
  /-- causes and the mask of faulted tasks for the error task's next run (R228) -/
  cause    : Nat := 0
  fmask    : Nat := 0
  trigs    : Tab Trig := []
  /-- R58 has been met, since ELAPSED; ordered by `sys.arm`; the lid has been left -/
  armOk    : Option Nat := none
  armCmd   : Bool := false
  free     : Bool := false
  /-- the first cycle has completed since startup -/
  cycled   : Bool := false
  /-- committed data, a context or an image buffer is damaged (R536) -/
  damaged  : Bool := false
  stnSeen  : Tab Nat := []
  /-- staging of `cyc.load`: the bytes the ladle wrote, and LOADED -/
  stage    : Mem := []
  loaded   : Option (FjImg × Nat) := none
  /-- the image of a `cyc.activate` whose journal entries are being written -/
  acting   : Option FjImg := none
  objs     : Tab CtlObj := []
  /-- a planned takeover in progress: 1 image loaded, 2 waiting for data; with the purpose 0 service, 1 image, 2 roll -/
  takeover : Option (Nat × Nat) := none
  /-- requests answered when the takeover or restart completes -/
  waitReq  : Option Req := none
  /-- detections whose quantity is recorded at the next READ-IN of the serving pair: the pair and the instant (R240) -/
  det      : List (Nat × Nat) := []
  /-- no cycle begins before this epoch (R224, R230) -/
  blockTo  : Nat := 0
  /-- the first cycle since the last start has been entered -/
  entered  : Bool := false
  /-- a shadow run (R496): the slot that pair p copies, held at index 8 + p -/
  shadow   : Option Nat := none
deriving DecidableEq, Repr

/-- PSTATE of a pair (R239). -/
inductive PairSt where
  | spare | running | stopped | testing | loading | service | halted | failed
deriving DecidableEq, Repr

/-- A pair (R218, R231 to R240). -/
structure Pair where
  state   : PairSt := .spare
  slot    : Option Nat := none
  cause   : Nat := 0
  transAt : List Nat := []
  /-- the request of a `cyc.service` EXIT (R238) -/
  exitReq : Option Req := none
  /-- the state to which a transient verdict returns the pair -/
  back    : PairSt := .running
  uc      : Nat := 0
  /-- the pair tests after a planned takeover or in the spare role, not after a detection -/
  planned : Bool := false
  /-- a spare loading after a lasting verdict: the instant of the verdict and the pair lost (R236) -/
  verdict : Option (Nat × Nat) := none
  /-- breakpoints 0 to 3 (R497) -/
  bps     : Tab (Option Nat) := []
  /-- a HALT (false) or STEP (true) that has not taken effect, with the `diag.` request it answers, and the instructions
  executed under a deferral (R497) -/
  hreq    : Option (Bool × Option Req) := none
  hcnt    : Nat := 0
deriving DecidableEq, Repr

/-- The type of a data-set member (R300). -/
inductive MemTy where
  | bool | int8 | int16 | int32 | uint8 | uint16 | uint32 | enum | dbpos | float | quality
deriving DecidableEq, Repr



/-- A station (R306 to R310). DESIGN CHOICE (log 71). -/
structure StnDecl where
  kind      : Nat := 0
  filter    : Nat := 0
  confRev   : Nat := 0
  missLim   : Nat := 3
  asdu      : Nat := 1
  rate      : Nat := 4800
  acceptSim : Bool := false
  /-- declared member types of the data set, or one `int32` per channel of a stream -/
  members   : List MemTy := []
deriving DecidableEq, Repr

/-- STATE of a station (R308). -/
inductive StnSt where
  | unused | wait | up | dropped | returning
deriving DecidableEq, Repr

/-- A station's supervision and values (R307 to R313). -/
structure Stn where
  decl    : Option StnDecl := none
  state   : StnSt := .unused
  miss    : Nat := 0
  drops   : Nat := 0
  dropsR  : Nat := 0
  bad     : Nat := 0
  /-- stNum and sqNum, or smpCnt, of the last good frame; the sequence test is off after a drop -/
  seq     : Nat × Nat := (0, 0)
  fresh   : Bool := true
  /-- a good frame has been received since the declaration took effect -/
  seen    : Bool := false
  ttl     : Nat := 0
  test    : Bool := false
  stamp   : Stamp := {}
  /-- ELAPSED of the last good frame and of the misses counted since -/
  goodAt  : Nat := 0
  values  : List (Word × Nat) := []
  /-- epoch of the last state change, and the count of drops and admissions (R311, R313) -/
  changed : Nat := 0
  chg     : Nat := 0
deriving DecidableEq, Repr

/-- The logic island and the remote stations. -/
structure LgcSt where
  slots  : Tab Slot := []
  pairs  : Tab Pair := []
  stns   : Tab Stn := []
  /-- the remote-point set latched at the latest tick (R18) -/
  stnSet : Tab Stn := []
deriving DecidableEq, Repr

end Sys2Proof.Machine
end

