-- ==== Sys2Proof/Machine/NetTypes.lean ====
section
/-! DEFINITION. State of the net island: ports, redundancy, transmit queues, subscriptions and publications, and the
frames that cross the ports (16 and 17 of the spec), as plain data. -/

namespace Sys2Proof.Machine
open Sys2Proof

/-- The counters of R393, in its order. -/
inductive NetCtr where
  | linkDowns | rxFrames | txFrames | rxErr | rxLong | rxUnsup | filtMiss | admitDrop | rxPoliced | dupDiscard | wrongLan
  | netLate | netSlip | txqDrop | pauseRx
deriving DecidableEq, Repr

/-- What every received frame carries beside its content: the port, the source address, a valid PRP trailer or an HSR tag
as (sequence, LanId), and NCOUNT at its SFD (R356, R378, R379). -/
structure RxHdr where
  port   : Nat := 0
  src    : Nat := 0
  seq    : Option (Nat × Nat) := none
  ncount : Nat := 0
deriving DecidableEq, Repr

/-- A received GOOSE frame (R307, R382). `ttl` is in ms; a member is its type and its value, 32 bits as R300 delivers it. -/
structure GooseRx where
  dst     : Nat := 0
  appid   : Nat := 0
  ref     : List Byte := []
  confRev : Nat := 0
  stNum   : Nat := 1
  sqNum   : Nat := 0
  ttl     : Nat := 0
  sim     : Bool := false
  members : List (MemTy × Word) := []
deriving DecidableEq, Repr

/-- A received sampled-value frame: per ASDU the channels as (value, quality) (R307, R388). -/
structure SvRx where
  dst     : Nat := 0
  appid   : Nat := 0
  ref     : List Byte := []
  confRev : Nat := 0
  smpCnt  : Nat := 0
  sim     : Bool := false
  asdus   : List (List (Word × Nat)) := []
deriving DecidableEq, Repr

/-- An entry of the subscription filter (R382). DESIGN CHOICE (log 71). -/
structure SubDecl where
  sv        : Bool := false
  /-- mask of logical ports; a redundant pair as its even port -/
  ports     : Nat := 0
  dst       : Nat := 0
  appid     : Nat := 0
  idHash    : Nat := 0
  /-- the full gocbRef or svID, compared after the hash -/
  ref       : List Byte := []
  station   : Nat := 255
  trigSlots : Nat := 0
  /-- what R306 declares of an entry that no station names, supervised as R383 says -/
  decl      : StnDecl := {}
deriving DecidableEq, Repr

/-- A published GOOSE control block (R385). DESIGN CHOICE (log 71). -/
structure PubDecl where
  dst     : Nat := 0
  appid   : Nat := 0
  vlan    : Nat := 0
  prio    : Nat := 4
  ports   : Nat := 0
  ref     : List Byte := []
  datSet  : List Byte := []
  goId    : List Byte := []
  confRev : Nat := 1
  queue   : Nat := 6
  tmin    : Nat := 4
  tmax    : Nat := 1000
  /-- members as (slot, publication point) -/
  members : List (Nat × Nat) := []
deriving DecidableEq, Repr

/-- A published sampled-value stream (R389). -/
structure SvDecl where
  dst      : Nat := 0
  appid    : Nat := 0
  vlan     : Nat := 0
  prio     : Nat := 4
  ref      : List Byte := []
  confRev  : Nat := 1
  ports    : Nat := 0
  rate     : Nat := 4800
  queue    : Nat := 5
  /-- PUB_DELAY, µs -/
  delay    : Nat := 50
  chans    : List Nat := []
deriving DecidableEq, Repr

/-- The setting of `net.cfg` (R392). DESIGN CHOICE (log 56). -/
structure NetCfg where
  red     : List Nat := [0, 0]
  mode    : List Nat := [0, 0, 0, 0]
  /-- LATE_LIM of queue q of port p at 8p + q -/
  lateLim : List Nat := List.replicate 32 10
  police  : List Nat := [20, 20, 20, 20]
deriving DecidableEq, Repr

/-- What a PTP port sends at its intervals. -/
inductive PtpKind where
  | sync | announce | pdelayReq
deriving DecidableEq, Repr

/-- A PTP message the engine sends (R357). -/
inductive PtpTx where
  | sync (seq : Nat)
  | followUp (seq : Nat) (origin : Nat)
  | announce (seq : Nat) (a : Announce) (tlv : Bool)
  | pdelayReq (seq : Nat)
  | pdelayResp (seq : Nat) (requester rx : Nat)
  | pdelayRespFollowUp (seq : Nat) (requester tx : Nat)
deriving DecidableEq, Repr

/-- The Morzor header (R396); `rsvd` says that a reserved bit or field was not 0. -/
structure FabHdr where
  ver    : Nat := 1
  hops   : Nat := 1
  bcast  : Bool := false
  mcast  : Bool := false
  zscope : Bool := false
  prob   : Bool := false
  seg    : Bool := false
  rsvd   : Bool := false
  svc    : Nat := 0
  dst    : Nat := 0
  src    : Nat := 0
  len    : Nat := 0
  seq    : Nat := 0
  tx32   : Nat := 0
deriving DecidableEq, Repr

/-- What a fabric frame carries: bytes, or the inner GOOSE frame of SVC 1, sent or received (R411). -/
inductive FabBody where
  | bytes (p : List Byte)
  | signal (f : GooseRx)
  | cb (cb st sq ttl : Nat) (vals : List (Word × Nat))
deriving DecidableEq, Repr

/-- The content of a frame the engine sends. -/
inductive TxBody where
  /-- control block, stNum, sqNum, TimeAllowedToLive in ms, members as (value, IEC 61850 quality) -/
  | goose (cb st sq ttl : Nat) (vals : List (Word × Nat))
  /-- stream, smpSynch, and per ASDU its smpCnt and channels -/
  | sv (stream synch : Nat) (asdus : List (Nat × List (Word × Nat)))
  | ptp (m : PtpTx)
  /-- an event message forwarded as a transparent clock: kind, sequence and its correctionField in 2^−16 ns -/
  | tc (kind seq : Nat) (corr : Int)
  /-- a PRP or HSR supervision frame -/
  | supervision
  /-- a ring frame forwarded for another node: its source and sequence -/
  | ring (src seq : Nat)
  /-- a fabric frame and the next hop's address, none for the group address -/
  | fabric (h : FabHdr) (body : FabBody) (next : Option Nat)
deriving DecidableEq, Repr

/-- A frame in a transmit queue (R362, R378). -/
structure TxFrame where
  body   : TxBody := .supervision
  queue  : Nat := 0
  launch : Option Nat := none
  seq    : Option (Nat × Nat) := none
deriving DecidableEq, Repr

/-- A port (R374 to R381, R393). -/
structure PortSt where
  link    : Bool := false
  /-- ELAPSED of the link down in progress, once it has been up -/
  downAt  : Option Nat := none
  ctrs    : Tab Nat := []
  queues  : Tab (List TxFrame) := []
  /-- the forwarding buffer of HSR -/
  fwd     : List TxFrame := []
  sending : Option TxFrame := none
  /-- frames that have left the port, newest first: the last few -/
  sent    : List TxFrame := []
  /-- consecutive bad frames; inbound frames dropped in the burst in progress -/
  badRun  : Nat := 0
  dropRun : Nat := 0
  /-- the token bucket of R381 in 10^−6 frame, and ELAPSED in ns at which it was reckoned; hellos of the interval -/
  bucket  : Nat := 1000000000
  bucketAt : Nat := 0
  hellos  : Nat := 0
  /-- the PRP port is lost, or the ring is open, since ELAPSED; ELAPSED of the last valid trailer, or of the own
  supervision frame that returned last -/
  lost    : Option Nat := none
  heardAt : Nat := 0
deriving DecidableEq, Repr

/-- An entry of a pair's duplicate table (R378, R379): source, sequence, ELAPSED, consumed, forwarded. -/
structure Dup where
  src      : Nat := 0
  seq      : Nat := 0
  at_      : Nat := 0
  consumed : Bool := false
  fwd      : Bool := false
deriving DecidableEq, Repr

/-- A published control block at work (R386). -/
structure CbSt where
  stNum  : Nat := 0
  sqNum  : Nat := 0
  /-- the data set as last sent -/
  last   : Option (List (Word × Nat)) := none
  /-- the interval to the next repetition in ms, and its ELAPSED instant -/
  gap    : Nat := 0
  nextAt : Nat := 0
deriving DecidableEq, Repr

/-- The net island. -/
structure NetSt where
  cfg     : NetCfg := {}
  cfgPend : List (Nat × NetCfg) := []
  ports   : Tab PortSt := []
  /-- duplicate tables and transmit sequence numbers of the pairs 0 and 1 -/
  dups    : Tab (List Dup) := []
  txSeq   : Tab Nat := []
  subs    : Tab (Option SubDecl) := []
  pubs    : Tab (Option PubDecl) := []
  svs     : Tab (Option SvDecl) := []
  cbs     : Tab CbSt := []
  /-- intervals of a stream's frame collected so far, and the last interval end handled per rate, in ns64 -/
  svBuf   : Tab (List (Nat × List (Word × Nat))) := []
  svAt    : Tab Nat := []
deriving DecidableEq, Repr

end Sys2Proof.Machine
end

