-- ==== Sys2Proof/Machine/FabTypes.lean ====
section
/-! DEFINITION. State of the Morzor fabric (18 of the spec), as plain data. -/

namespace Sys2Proof.Machine
open Sys2Proof

/-- Counters of `fab.stat`, in the order of R424. -/
inductive FabCtr where
  | tx | rx | fwd | noRoute | hopDrop | malformed | dupBcast | sieveHit | sieveMiss | stale | reasmFail
deriving DecidableEq, Repr

/-- The configuration of R422. -/
structure FabCfg where
  en     : Bool := false
  /-- no address until one is configured (R395) -/
  addr   : Option Nat := none
  etype  : Nat := 0x88B5
  hopMax : Nat := 15
  ports  : Nat := 15
  cost   : List Nat := [1, 1, 1, 1]
  groups : List Nat := List.replicate 16 0xFFFF
deriving DecidableEq, Repr

/-- An entry of the zone or node table (R403). -/
structure Route where
  port   : Nat := 255
  cost   : Nat := 15
  next   : Nat := 0
  gen    : Nat := 0
  pinned : Bool := false
  valid  : Bool := false
deriving DecidableEq, Repr

/-- STATE of a neighbour-table entry (R423). -/
inductive NbrSt where
  | probation | up | down
deriving DecidableEq, Repr

/-- A neighbour (R400). Advertised costs that are not listed are 15. -/
structure Nbr where
  addr    : Nat := 0
  port    : Nat := 0
  mac     : Nat := 0
  state   : NbrSt := .probation
  hcount  : Nat := 0
  /-- its hellos carry PROBATION -/
  flag    : Bool := false
  heardAt : Nat := 0
  /-- ELAPSED at admission, and at DOWN -/
  admAt   : Nat := 0
  downAt  : Nat := 0
  zcost   : Tab Nat := []
  ncost   : Tab Nat := []
deriving DecidableEq, Repr

/-- A node in the pending list (R66). -/
structure Pend where
  addr   : Nat := 0
  port   : Nat := 0
  mac    : Nat := 0
  hcount : Nat := 0
  flag   : Bool := false
deriving DecidableEq, Repr

/-- A received hello (R399). -/
structure Hello where
  src    : Nat := 0
  mac    : Nat := 0
  hcount : Nat := 0
  flag   : Bool := false
  tgen   : Nat := 0
  zcost  : Tab Nat := []
  ncost  : Tab Nat := []
deriving DecidableEq, Repr

/-- A sieve entry (R407). -/
structure SvEntry where
  dst  : Nat := 0
  port : Nat := 255
  next : Nat := 0
  gen  : Nat := 0
  at_  : Nat := 0
deriving DecidableEq, Repr

/-- A message of several segments being put together (R398). -/
structure Reasm where
  src   : Nat := 0
  msgId : Nat := 0
  svc   : Nat := 0
  count : Nat := 1
  total : Nat := 0
  port  : Nat := 0
  parts : Tab (Option (List Byte)) := []
  at_   : Nat := 0
deriving DecidableEq, Repr

/-- A consumed message that waits for its service. -/
structure FabMsg where
  svc   : Nat := 0
  src   : Nat := 0
  hdr   : RxHdr := {}
  seg   : Bool := false
  body  : FabBody := .bytes []
deriving DecidableEq, Repr

/-- The binding of a control block to the fabric (R412). -/
structure SigCfg where
  dst   : Nat := 0
  flags : Nat := 0
deriving DecidableEq, Repr

/-- The exchange setting of a feeder group (R413). -/
structure TwCfg where
  en     : Bool := false
  rgroup : Nat := 0
  remote : Nat := 0
  len    : Nat := 1
  vel    : Nat := 100000
  wait   : Nat := 100
deriving DecidableEq, Repr

/-- An unpaired arrival record (R414): group, which end, stamp, RSEQ, ELAPSED of its coming. -/
structure TwWait where
  group  : Nat := 0
  remote : Bool := false
  stamp  : Stamp := {}
  rseq   : Nat := 0
  at_    : Nat := 0
deriving DecidableEq, Repr

/-- A location record (R415). -/
structure TwLoc where
  loc     : Stamp := {}
  rem     : Stamp := {}
  group   : Nat := 0
  unsync  : Bool := false
  outside : Bool := false
  remote  : Nat := 0
  dist    : Nat := 0
  err     : Nat := 0
  lseq    : Nat := 0
  rseq    : Nat := 0
deriving DecidableEq, Repr

/-- A `fab.whisk` awaiting its answers (R416). -/
structure WhiskCall where
  req      : Req := {}
  w        : Nat := 0
  epoch    : Nat := 0
  dueAt    : Nat := 0
  armed    : Nat := 0
  unsync   : Nat := 0
  late     : Nat := 0
  conflict : Nat := 0
  recs     : List (Nat × Nat) := []
deriving DecidableEq, Repr

/-- A session that a remote node opened (R418), by its client number. -/
structure Sess where
  peer  : Nat := 0
  level : Nat := 0
  /-- ELAPSED of its last request -/
  reqAt : Nat := 0
  /-- request messages in the session's ring, not yet accepted -/
  queue : List (List Byte) := []
deriving DecidableEq, Repr

/-- A session that this engine opened (R419). -/
structure OutSess where
  target : Nat := 0
  level  : Nat := 0
  client : Nat := 0
deriving DecidableEq, Repr

/-- A `fab.call` (R419): waiting for its session, or for the inner response. -/
structure Call where
  req    : Req := {}
  target : Nat := 0
  level  : Nat := 0
  dueAt  : Nat := 0
  inner  : List Byte := []
  sent   : Bool := false
deriving DecidableEq, Repr

/-- A record of the access table (R420); AUTH 255 unused. -/
structure AccRec where
  addr : Nat := 0
  mask : Nat := 0
  auth : Nat := 255
deriving DecidableEq, Repr

/-- The fabric. -/
structure FabSt where
  cfg     : FabCfg := {}
  cfgPend : List (Nat × FabCfg) := []
  /-- hellos sent since the fabric started, wrapping; ELAPSED of the first hello of the own probation in progress -/
  hcount  : Nat := 0
  /-- the hello interval of the last hello, counted from ELAPSED 0 -/
  helloIv : Option Nat := none
  probing : Bool := true
  firstAt : Option Nat := none
  tgen    : Nat := 0
  zone    : Tab Route := []
  node    : Tab Route := []
  nbrs    : List Nbr := []
  pendq   : List Pend := []
  /-- blocked source addresses and the ELAPSED end of the block (R402) -/
  blocked : List (Nat × Nat) := []
  /-- the sieves of L0 to L3 and of locally originated frames, most recently used first -/
  sieves  : Tab (List SvEntry) := []
  /-- (SRC, SVC, SEQ, ELAPSED) of broadcasts and multicasts seen -/
  bdup    : List (Nat × Nat × Nat × Nat) := []
  seqs    : Tab Nat := []
  msgId   : Nat := 0
  reasm   : List Reasm := []
  inbox   : List FabMsg := []
  ctrs    : Tab Nat := []
  /-- frames in the bursts of NO_ROUTE, HOP_DROP and MALFORMED in progress -/
  burst   : Tab Nat := []
  sig     : Tab SigCfg := []
  sigPend : List (Nat × Tab SigCfg) := []
  tw      : Tab TwCfg := []
  twPend  : List (Nat × Tab TwCfg) := []
  unpaired : List TwWait := []
  locs    : List TwLoc := []
  twDrops : Nat := 0
  whisks  : List WhiskCall := []
  sess    : Tab (Option Sess) := []
  outs    : List OutSess := []
  calls   : List Call := []
  access  : List AccRec := List.replicate 32 {}
deriving DecidableEq, Repr

end Sys2Proof.Machine
end

