-- ==== Sys2Proof/Machine/DistTypes.lean ====
section
/-! DEFINITION. State of the disturbance recorder, of whisk snapshots and of the debug port (21 and 22 of the spec), as plain
data. -/

namespace Sys2Proof.Machine
open Sys2Proof

/-- The settings of `dist.cfg` (R477). -/
structure DistCfg where
  ovr     : Nat := 0
  d       : Nat := 40
  pre     : Nat := 2500
  post    : Nat := 12500
  maxlen  : Nat := 50000
  en      : Bool := true
  whisk   : Bool := false
  station : List Byte := List.replicate 32 0
  device  : List Byte := List.replicate 32 0
  /-- 32 trigger entries: SEL and EDGE -/
  trigs   : List (Nat × Nat) := List.replicate 32 (0, 0)
  /-- BSEL of channels 0 to 511 -/
  bsel    : Tab Nat := []
deriving DecidableEq, Repr

/-- A sample set (R467, R468): MEAN, MIN and MAX codes, the binary channels by bit, and the qualities of the inputs. -/
structure DSet where
  mean : Tab Int := []
  min  : Tab Int := []
  max  : Tab Int := []
  bin  : Nat := 0
  qual : Tab Nat := []
  /-- ns64 and the time-quality word of the start boundary -/
  at_  : Nat := 0
  tq   : Nat := 0xFF00
  /-- a word of the set is uncorrectable in LPDDR4X (R537) -/
  bad  : Bool := false
deriving DecidableEq, Repr

/-- A segment entry (R471): SET, KIND, CH and the value. -/
structure DSeg where
  set  : Nat := 0
  kind : Nat := 0
  ch   : Nat := 0
  val  : Nat := 0
deriving DecidableEq, Repr

/-- An exported input of a record: its number, gain, SCALE and INVERT at the record's start (R481). -/
structure DIn where
  n      : Nat := 0
  gain   : Nat := 1
  scale  : Word := 0
  invert : Bool := false
deriving DecidableEq, Repr

/-- A record (R473 to R479). Its segment list follows from the sets and the gap spans (R470, R471). -/
structure DRec where
  complete : Bool := false
  closed   : Bool := false
  keep     : Bool := false
  trunc    : Bool := false
  segFull  : Bool := false
  rseq     : Nat := 0
  t0       : Stamp := {}
  trigs    : List Stamp := []
  more     : Nat := 0
  preGot   : Nat := 0
  sets     : List DSet := []
  /-- spans of the binary gaps, in ns64 -/
  gaps     : List (Nat × Nat) := []
  ins      : List DIn := []
  bsel     : Tab Nat := []
  d        : Nat := 40
  p        : Nat := 40
  epoch    : Nat := 0
  pages    : Nat := 0
  /-- index of the last set; ELAPSED of the end of the last set's interval -/
  last     : Nat := 0
  endAt    : Nat := 0
deriving DecidableEq, Repr

/-- The disturbance recorder (R467 to R480). -/
structure DistSt where
  cfg      : DistCfg := {}
  cfgPend  : List (Nat × DistCfg) := []
  /-- the recorder runs, since READY -/
  run      : Bool := false
  /-- the header slot reserved or recording; none in FULL and DISABLED -/
  open_    : Option Nat := none
  /-- the record is open, by its first trigger -/
  recording : Bool := false
  /-- the ring of the last PRE sets in FORMING, oldest first, and the gap spans seen since -/
  ring     : List DSet := []
  gaps     : List (Nat × Nat) := []
  recs     : Tab (Option DRec) := []
  free     : Nat := 1520
  rseq     : Nat := 0
  /-- ns64 and time quality of the start boundary of the interval in progress; D in force -/
  start    : Option Nat := none
  tq       : Nat := 0xFF00
  d        : Nat := 40
  /-- channels that were 1 at an instant of the interval in progress -/
  seen     : Nat := 0
  /-- levels of the 64 DI from the recorder's edge entries -/
  di       : Nat := 0
  /-- levels of the selectors of the 32 trigger entries -/
  trig     : Nat := 0
  /-- a `dist.trigger` awaits the next tick (R478) -/
  manual   : Bool := false
  /-- ns64 of the latest recorder entry (R470) -/
  lastEdge : Nat := 0
deriving DecidableEq, Repr

/-- The whisk-at-time compare, armed (R360, R485): target, SOURCE, ns64 of the arming, and the `snap.fire` it answers. -/
structure WArm where
  at_     : Nat := 0
  source  : Nat := 2
  armedAt : Nat := 0
  req     : Option Req := none
deriving DecidableEq, Repr

/-- State of the snapshot (R486). -/
inductive SnapS where
  | empty | latching | held
deriving DecidableEq, Repr

/-- Whisk, snapshot and the debug port (R429, R483 to R493). -/
structure SnapSt where
  pinEn  : Bool := false
  outEn  : Bool := false
  atLo   : Word := 0
  atHi   : Word := 0
  last   : Nat := 0
  count  : Nat := 0
  arm    : Option WArm := none
  /-- WHISK_OUT is high until this ELAPSED instant -/
  outTo  : Option Nat := none
  state  : SnapS := .empty
  hdr    : SnapHdr := {}
  /-- ELAPSED of the latest whisk, and whether it latched the snapshot -/
  atEdge : Option (Nat × Bool) := none
  /-- the sections captured, by offset -/
  data   : List (Nat × List Byte) := []
  /-- the accumulators' and the element engine's parts of generation E are captured -/
  accHeld : Bool := false
  elmHeld : Bool := false
  /-- `snap.read` requests that wait for completion -/
  waits  : List Req := []
  /-- level of the debug port; ERR of the last DBGACC access and the word it returned -/
  level  : Nat := 1
  err    : Bool := false
  dr     : Word := 0
deriving DecidableEq, Repr

/-- What an uncorrectable LPDDR4X word belongs to (R537): sets of a record, a ladle transfer of a client by its SEQ with the bytes it
has moved, or another buffer of the SP. -/
inductive LpddrUse where
  | sets (rec_ : Nat) (hit : List Nat) | ladle (client seq : Nat) (moved : List Byte) | other
deriving DecidableEq, Repr

/-- The memory and the place of an error that scrubbing or an access finds (R533): a descriptor row of memory 0, a timer with its row,
a slot store with its row and whether the FJ image is hit, an input with its row, a pair, the SP's instruction (0) or data (1) memory,
the microcode store, and a bank of the LPDDR4X with what stands there. -/
inductive MemHit where
  | table (row : Nat) | timer (n row : Nat) | store (slot row : Nat) (image : Bool) | accum (input row : Nat) | pair (p : Nat)
  | sp (k : Nat) | microcode | lpddr (bank : Nat) (use : LpddrUse)
deriving DecidableEq, Repr

end Sys2Proof.Machine
end

