-- ==== Sys2Proof/Machine/SysTypes.lean ====
section
/-! DEFINITION. State of supplies, startup and the lands (02 and 03 of the spec), as plain data. -/

namespace Sys2Proof.Machine
open Sys2Proof

/-- Levels the host equipment drives onto the logic zone. -/
structure Lands where
  /-- the engine is held in reset: until PORST_N is released -/
  porst   : Bool := true
  /-- PWR_FAIL_N is high -/
  pwrFailN : Bool := true
deriving DecidableEq, Repr

/-- What started the orderly shutdown in progress (R68). -/
inductive ShutBy where
  | pwrFail | command
deriving DecidableEq, Repr

/-- Startup, SYS_STATE, supplies and the orderly shutdown (R35, R50 to R70). -/
structure SysSt where
  /-- how many steps of R50 are complete: 0 before the boot ROM ends, then 1 to 10 in the table's order -/
  step     : Nat := 0
  stage    : Nat := 0
  recovery : Bool := false
  /-- the running firmware came from image slot B -/
  slotB    : Bool := false
  backstop : Bool := false
  elemRun  : Bool := false
  logicRun : Bool := false
  ready    : Bool := false
  mbxRoot  : Bool := false
  mbxHost  : Bool := false
  mbxFab   : Bool := false
  degraded : Bool := false
  shutdown : Option ShutBy := none
  flushed  : Bool := false
  /-- PWR_FAIL_N has returned high during the shutdown: it is cancelled when the flush is complete (R70) -/
  cancel   : Bool := false
  hostSel  : Bool := false
  clkSel   : Bool := false
  /-- the first element table load has begun and waits for its pass (R57) -/
  tableLoaded : Bool := false
  /-- VCORE, VDDR, VIO and VANA are outside their windows (R35) -/
  rails    : List Bool := [false, false, false, false]
  /-- VANA has been outside its window during the epoch whose windows are open (R35) -/
  vanaQ    : Bool := false
  /-- arm policy and ARM_DELAY in ms (R59) -/
  armPolicy : Nat := 2
  armDelay  : Nat := 0
  /-- per port: the admission has ended, the last link-up in the first second, admission drops (R64, R65) -/
  admDone  : List Bool := [false, false, false, false]
  linkUpAt : List Nat := [0, 0, 0, 0]
  admDrop  : List Nat := [0, 0, 0, 0]
  /-- frames of the second class admitted in the 10 ms window that began at the instant given (R65) -/
  admCnt   : List (Nat × Nat) := [(0, 0), (0, 0), (0, 0), (0, 0)]
deriving DecidableEq, Repr

end Sys2Proof.Machine
end

