-- ==== Sys2Proof/Machine/FlashTypes.lean ====
section
/-! DEFINITION. What lives on the two flash devices, in the fuses and in the latch that outlives a reset
(20, 23 and 24 of the spec), as plain data. -/

namespace Sys2Proof.Machine
open Sys2Proof

/-- The 512-byte image header, by field (R508). -/
structure ImgHdr where
  kgen      : Nat := 0
  spVer     : Nat := 1
  ucVer     : Nat := 1
  cfgFmt    : Nat := 0x0100
  pcf       : Nat := 1
  pcfOldest : Nat := 1
  arb       : Nat := 0
  blobVer   : Nat := 1
  nblocks   : Nat := 2
  spLen     : Nat := 4096
  ucLen     : Nat := 4096
  order     : Nat := 6
  hwMin     : Nat := 0
  hwMax     : Nat := 255
  /-- the header as transmitted, for R515's comparison -/
  raw       : List Byte := []
deriving DecidableEq, Repr

/-- An image slot: the header it holds, whether its records and signature stand, and whether a boot may use it. -/
structure ImgSlot where
  hdr      : Option ImgHdr := none
  bootable : Bool := false
deriving DecidableEq, Repr

/-- A key slot: the generation of the key set it holds (R511). The keys themselves no path of the engine reads. -/
structure KeySlot where
  kgen : Option Nat := none
deriving DecidableEq, Repr

/-- What a word of the commit log says (R512): a key word or a boot word. -/
inductive LogWord where
  | key (kgen slot : Nat)
  | boot (confirmed : Bool) (slot : Nat)
deriving DecidableEq, Repr

/-- STATE of `upd.state` (R526). -/
inductive StgState where
  | idle | staging | complete | verifying | activating | rolling
deriving DecidableEq, Repr

/-- The staging and the running activation (R515 to R523). -/
structure Staging where
  state  : StgState := .idle
  hdr    : ImgHdr := {}
  /-- blocks stored in flash, rising -/
  stored : List Nat := []
  /-- stored blocks whose bytes are known: (block, record bytes) -/
  recs   : Tab (List Byte) := []
  /-- incomplete records in the assembly buffer: (block, bytes present) -/
  asmb   : Tab Mem := []
  /-- how many bytes of each incomplete record have arrived -/
  asmCnt : Tab (List Nat) := []
  /-- sectors of the target slot that the background erase has completed -/
  erased : Nat := 0
  /-- the request to be answered at the end, the completed step of R522, and H -/
  req    : Option Req := none
  step   : Nat := 0
  h      : Nat := 0
  cfgReset : Bool := false
  moved  : Nat := 0
  /-- rebuilt at startup: it continues only after `upd.begin` with RESUME (R517) -/
  held   : Bool := false
  /-- a `upd.confirm` that is burning fuse steps (R525) -/
  confirm : Option Req := none
deriving DecidableEq, Repr

/-- The update chain (R519, R520). -/
structure Chain where
  en      : Bool := false
  succ    : Nat := 0
  broken  : Bool := false
  /-- START has been acknowledged -/
  started : Bool := false
  sendPos : Nat := 0
  succNext : Nat := 0
  /-- sends of each block since the last ACK whose NEXT is beyond it, START at 65,536; ELAPSED of the last send -/
  sends   : Tab Nat := []
  sentAt  : Nat := 0
deriving DecidableEq, Repr

/-- A write waiting for the flash controller (R499, R503, R506). -/
inductive Job where
  /-- a journal entry: protection or configuration journal, its RID, and the request whose setting it records -/
  | journal (prot : Bool) (rid : Nat) (req : Req)
  /-- a backstop copy (R216): 1 is B, 0 is A -/
  | backstop (copy : Nat)
  /-- the wrapped key set, then its key word (R513) -/
  | key (kgen : Nat) (req : Req)
  /-- a summary record (R457) -/
  | summary (r : SumRec)
  /-- a lifetime copy (R460) -/
  | life
  /-- a boot word (R522, R525) and the request it answers -/
  | boot (confirmed : Bool) (slot : Nat) (req : Option Req)
  /-- a block record of the staging, and the chain peer to which its ACK goes (R516, R520) -/
  | block (i : Nat) (data : List Byte) (ack : Option Nat)
  /-- the power-cycle count (R453) -/
  | pcycle
deriving DecidableEq, Repr

/-- A job with the copy it writes next and the statuses its earlier programs returned. -/
structure FJob where
  job  : Job
  step : Nat := 0
  errs : List Nat := []
deriving DecidableEq, Repr

/-- What the controller returns of a program operation: done and read back; refused, the sector given not being blank (R501); or
refused for want of a replacement sector (R502). -/
inductive FlashRes where
  | good | notErased (sector : Nat) | worn
deriving DecidableEq, Repr

/-- An area of R518 on one device: retirements and erase counts. -/
structure Area where
  erases  : Tab Nat := []
  retired : List Nat := []
deriving DecidableEq, Repr

end Sys2Proof.Machine
end

