-- ==== Sys2Proof/Syntax.lean ====
section
/-! DEFINITION. The commands of the block: one constructor per row of the command table, in the table's order. The operands
are what the row's event brings from outside the block: a mailbox request, a frame, a level, a test's verdict. -/

namespace Sys2Proof
open Sys2Proof.Machine

/-- One command given to the block. What comes from outside it is an operand of the row that reports it. DESIGN CHOICE (log 5, 115). -/
inductive Instr where
  /-- PORST_N_ASSERT (R38): A low level on PORST_N held for 1 µs or longer resets all logic-side state, and the
  barrier link falls silent. -/
  | porstNAssert
  /-- PORST_N_RELEASE (R50): Release of PORST_N starts the startup sequence, clears the epoch and puts every port
  into admission. -/
  | porstNRelease (hostSel clkSel : Bool)
  /-- BOOT_ROM_COMPLETE (R53): The boot ROM verifies the active image slot, falls back to the other slot if needed,
  loads fuses, locks the PLLs and starts the SP (STAGE 0x1). -/
  | bootRomComplete (aOk bOk : Bool)
  /-- MEMORY_SELF_TEST_COMPLETE (R50): The targeted memory self-test and the verification of image, backstop
  settings and configuration complete, the power-cycle count is written and the barrier link starts (STAGE 0x2). -/
  | memorySelfTestComplete (bad lost : List Nat)
  /-- CONVERTER_CALIBRATION_COMPLETE (R55): Converter calibration and the twin-path check complete; failing
  converters are removed and DEGRADED is set. -/
  | converterCalibrationComplete (trims : List (Nat × Int × Int)) (results : List (Nat × TestRes))
  /-- BACKSTOP_ARM (R54): The backstop arms from a valid settings copy by 150 ms, or stays disarmed when both copies
  fail. -/
  | backstopArm (aOk bOk : Bool)
  /-- MAILBOX_ROOT_OPEN (R62): The mailbox begins to serve client 0 and the Ethernet ports are enabled; requests
  already in rings are answered. -/
  | mailboxRootOpen
  /-- ELEMENT_TABLE_LOAD (R57): The element table in force is loaded, and the first element pass begins as a table
  swap from reset. -/
  | elementTableLoad
  /-- FABRIC_CLIENTS_SERVED (R50): At the 1,000 ms step, fabric clients are served and MBX_FAB is set. -/
  | fabricClientsServed
  /-- ADMISSION_END (R64): The admission of a port ends at the later of 1,000 ms after release and 250 ms after its
  last link-up; ADMIT clears when no port is left in admission. -/
  | admissionEnd (p : Nat)
  /-- RAIL_OUT_OF_WINDOW (R35): A logic-side rail outside its window for 2 µs raises its event; for VANA,
  QUESTIONABLE is set on analogue-derived values. -/
  | railOutOfWindow (rail : Nat)
  /-- RAIL_RETURN (R35): A rail returns to its window, the deviation is recorded and VANA's QUESTIONABLE clears in
  the next epoch that closes. -/
  | railReturn (rail mV : Nat)
  /-- BROWN_OUT (R35): A rail below its brown-out level for 1 µs resets the engine as PORST_N does. -/
  | brownOut
  /-- REFERENCE_LOSS (R44): A 25 MHz reference absent for more than 1 µs resets the engine. -/
  | referenceLoss
  /-- TIM10M_LOSS (R44): Loss of the selected TIM10M_IN returns the tim island to the 25 MHz reference within 2 µs,
  sets LOST and raises event 354. -/
  | tim10mLoss
  /-- PWR_FAIL_FALL (R40): A falling edge on PWR_FAIL_N starts the orderly shutdown, sets SHUTDOWN and raises event
  478. -/
  | pwrFailFall
  /-- PWR_FAIL_RISE (R70): PWR_FAIL_N returning high cancels a PWR_FAIL shutdown once the flush completes; SHUTDOWN
  and FLUSHED clear. -/
  | pwrFailRise
  /-- SHUTDOWN_FLUSH_COMPLETE (R69): The shutdown flush completes flash operations, writes configuration updates and
  the shutdown summary record, and sets FLUSHED. -/
  | shutdownFlushComplete (res : FlashRes)
  /-- VFLD_LOCKOUT_ENTER (R36): VFLD falls below 17.5 V: the field side switches every output off and sets its
  lockout flag. -/
  | vfldLockoutEnter
  /-- VFLD_LOCKOUT_EXIT (R36): VFLD rises above 18.5 V: the field side leaves lockout and outputs take effect again.
  -/
  | vfldLockoutExit
  /-- FIELD_POWER_UP (R336): The field side powers up from reset values with every output off and an empty edge
  queue. -/
  | fieldPowerUp
  /-- RECOVERY_RESET (R53): Within 100 ms of an accepted recovery activation the engine resets and boots the new
  image. -/
  | recoveryReset
  /-- ELEMENT_TICK (R16): ELAPSED reaches the next multiple of 31,250 ns: the epoch advances, windows close and the
  tick is carried to every island. -/
  | elementTick (cnvBad accBad elmBad : Bool)
  /-- BACKSTOP_RELOAD (R217): The SP reloads a failed settings part from the copy in force, or clears BACKSTOP when
  no copy verifies. -/
  | backstopReload (aOk bOk : Bool)
  /-- ACC_GENERATION_PUBLISH (R123): Accumulator generation E is published at tick + 7.5 µs for all inputs. -/
  | accGenerationPublish
  /-- TRACKER_NOMINAL_TIMEOUT (R129): After 2 s held, a tracker publishes FNOM and sets NOMINAL. -/
  | trackerNominalTimeout (t : Nat)
  /-- ELEMENT_PASS (R147): Element pass E evaluates all 4,096 descriptors in two stages at tick + 7.8125 µs. -/
  | elementPass
  /-- ELEMENT_STATE_PUBLICATION (R18): At P(E) the element states are published, and the trip matrix and readers
  switch to generation E. -/
  | elementStatePublication
  /-- TIMER_EXPIRY (R198): A wheel tick completes a timer expiry, and the wheel resolves it and sends any NOTIFY to
  its owner. -/
  | timerExpiry (n : Nat)
  /-- TIMER_HOLD_EXPIRY (R192): A paused ONESHOT that receives no RESUME becomes idle at p + h. -/
  | timerHoldExpiry (n : Nat)
  /-- STROBE_EDGE (R92): At the strobe edge each converter starts entry 0, waits, skips or cuts. -/
  | strobeEdge (idx el : Nat)
  /-- KEPT_CONVERSION (R90): A kept conversion leaves the pipeline, is trimmed and is tested by the backstop
  comparator. -/
  | keptConversion (p : Path) (k idx : Nat) (raw : BitVec 16)
  /-- TAKE_SAMPLE (R89): A completed take is reduced to one sample with its instant and sent to the acc island. -/
  | takeSample (p : Path) (k : Nat)
  /-- TW_GROUP_CLOSE (R143): After 20 µs the arrival group writes one arrival record, decides DIR and sets TWF where
  the direction is forward. -/
  | twGroupClose (bsd : Bool) (d : Nat)
  /-- TW_DEAD_TIME_END (R209): The 1 ms dead time of an arrival group ends and TWF clears. -/
  | twDeadTimeEnd (bsd : Bool) (d : Nat)
  /-- INC_REFERENCE_RELEASE (R142): 2 × T_w after a start, the group's INC bits clear and the frozen reference is
  released. -/
  | incReferenceRelease (bsd : Bool) (d : Nat)
  /-- BACKSTOP_MIN_ON_EXPIRY (R211): The MIN_ON count of a cleared group ends and the group stops driving its
  outputs. -/
  | backstopMinOnExpiry (j : Nat)
  /-- TRIP_INSERTION (R15): A change in the barrier command register aborts the frame in flight and starts a new
  frame that carries the new state. -/
  | tripInsertion
  /-- WIRE_BREAK_EVALUATION (R81): At the end of a bias half-period the detector forms D, judges it open or not and
  reverses the bias. -/
  | wireBreakEvaluation (n : Nat)
  /-- RECORDER_INTERVAL_END (R140): A recorder averager interval ends and its mean, min and max are delivered to the
  sup island. -/
  | recorderIntervalEnd
  /-- SV_INTERVAL_END (R140): A sampled-value averager interval ends and its result is delivered for publication. -/
  | svIntervalEnd (rate : Nat)
  /-- URGENT_REQUEST_START (R100): An urgent request reaches its converter and pre-empts the running entry at the
  next cnv edge. -/
  | urgentRequestStart (p : Path) (k idx : Nat)
  /-- URGENT_TAKE_COMPLETE (R102): An urgent take completes, its result is delivered, and the abandoned entry
  restarts. -/
  | urgentTakeComplete (p : Path) (k : Nat)
  /-- HOUSEKEEPING_ROUND (R103): At its instant, a housekeeping round issues one urgent entry to every converter of
  one path. -/
  | housekeepingRound (p : Path)
  /-- CONVERTER_SELF_TEST_START (R113): The targeted self-test of an index starts at a strobe edge, and its
  comparators are held off. -/
  | converterSelfTestStart (k : Nat)
  /-- CONVERTER_SELF_TEST_VERDICT (R117): The self-test verdict is taken, removing converters or buffers or keeping
  TWIN. -/
  | converterSelfTestVerdict (k el : Nat)
  /-- DISPUTED_CLEAR (R119): DISPUTED clears after 60 s without a disagreeing generation. -/
  | disputedClear (k : Nat)
  /-- RETURNING_END (R122): After 32,000 consecutive agreeing generations, RETURNING and SINGLE_PATH clear. -/
  | returningEnd (k : Nat)
  /-- CYCLE_READ_IN (R222): A slot's cycle begins: input half E is made current, triggers and causes are latched,
  and the ready set is formed. -/
  | cycleReadIn (slot : Nat)
  /-- CYCLE_WRITE_OUT (R222): RUN ends, and the data, timer operations and output half are committed with one bundle
  to the elm island. -/
  | cycleWriteOut (slot : Nat) (pulseOk : Bool)
  /-- KETTLE_FIRE (R225): RUN has not ended at K: the pair stops, the slot's outputs are lidded and the slot enters
  KETTLE. -/
  | kettleFire (slot : Nat)
  /-- ARM_DELAY_EXPIRY (R59): ARM_DELAY after R58 is met expires under the DELAY policy, allowing release at the
  next boundary. -/
  | armDelayExpiry (slot : Nat)
  /-- TASK_SWITCH (R227): At an instruction or element boundary a ready higher-priority task preempts the running
  task, or a preempted task resumes. -/
  | taskSwitch (slot : Nat)
  /-- LOCKSTEP_MISMATCH (R231): The comparator finds main and checker results unequal; the pair stops and its self-
  test starts. -/
  | lockstepMismatch (p : Nat)
  /-- DELAY_PARITY_ERROR (R231): A delay-register stage reports a parity error; the pair stops and its self-test
  starts. -/
  | delayParityError (p : Nat)
  /-- PAIR_ECC_UNCORRECTABLE (R231): An uncorrectable ECC error in pair memory stops the pair and starts its self-
  test. -/
  | pairEccUncorrectable (p : Nat)
  /-- PAIR_ECC_CORRECTED (R231): A single-bit error in pair memory is corrected and counted, with event 454. -/
  | pairEccCorrected (p : Nat)
  /-- PAIR_SELF_TEST_VERDICT (R532): The pair self-test ends in a transient or lasting verdict, and a repeat or a
  migration follows. -/
  | pairSelfTestVerdict (p : Nat) (failed : Bool)
  /-- SPARE_LOAD_COMPLETE (R234): The spare has loaded the slot's code and committed data and starts READ-IN of the
  repeated cycle. -/
  | spareLoadComplete (p : Nat)
  /-- SPARE_PULSE_TEST (R232): The pair holding the spare role runs its pulse test every 125 µs. -/
  | sparePulseTest (p : Nat) (ok : Bool)
  /-- SPARE_SELF_TEST (R232): The pair holding the spare role runs its self-test every 1 s and enters FAILED on
  failure. -/
  | spareSelfTest (p : Nat) (ok : Bool)
  /-- TAKEOVER_IMAGE_LOADED (R237): In a planned takeover, the spare has loaded the slot's code image in the
  background. -/
  | takeoverImageLoaded (slot : Nat)
  /-- TAKEOVER_DATA_COPIED (R237): The spare has copied the committed data after P(E+N) and starts READ-IN of cycle
  E+N. -/
  | takeoverDataCopied (slot : Nat)
  /-- NOP (R252): Does nothing. -/
  | fjNop (slot : Nat)
  /-- END (R252): Ends the task's run. -/
  | fjEnd (slot : Nat)
  /-- TRAP (R253): Raises a USER fault and records k8. -/
  | fjTrap (slot : Nat) (k : BitVec 8)
  /-- ILLEGAL_OPCODE (R249): An undefined opcode or reserved escape is fetched and raises ILL. -/
  | fjIllegalOpcode (slot : Nat) (escape : Bool)
  /-- LOCK (R254): Opens a LOCK section that defers preemption and debug halt. -/
  | fjLock (slot : Nat)
  /-- UNLOCK (R254): Closes a LOCK section, after which deferred preemptions act. -/
  | fjUnlock (slot : Nat)
  /-- CALL (R253): Pushes the return offset and jumps to a24. -/
  | fjCall (slot : Nat) (a : BitVec 24)
  /-- RET (R253): Pops a return offset and jumps to it. -/
  | fjRet (slot : Nat)
  /-- JMP (R253): Branches relative by r16. -/
  | fjJmp (slot : Nat) (r : BitVec 16)
  /-- JT (R253): Branches when the BOOL operand is 1. -/
  | fjJt (slot : Nat) (c : BitVec 8) (r : BitVec 16)
  /-- JF (R253): Branches when the BOOL operand is 0. -/
  | fjJf (slot : Nat) (c : BitVec 8) (r : BitVec 16)
  /-- DJNZ (R253): Decrements a non-zero counter and branches when the result is not 0. -/
  | fjDjnz (slot : Nat) (u : BitVec 8) (r : BitVec 16)
  /-- LD (R255): Loads a 32-bit word into a local. -/
  | fjLd (slot : Nat) (d : BitVec 8) (as_ : BitVec 16)
  /-- LD2 (R256): Loads two words into a 64-bit local. -/
  | fjLd2 (slot : Nat) (d : BitVec 8) (as_ : BitVec 16)
  /-- ST (R255): Stores a 32-bit local, staging writes to the output half. -/
  | fjSt (slot : Nat) (ad : BitVec 16) (v : BitVec 8)
  /-- ST2 (R256): Stores a 64-bit local into two words. -/
  | fjSt2 (slot : Nat) (ad : BitVec 16) (v : BitVec 8)
  /-- LDX (R256): Loads the word at A16 + i. -/
  | fjLdx (slot : Nat) (d : BitVec 8) (as_ : BitVec 16) (i : BitVec 8)
  /-- STX (R256): Stores to the word at A16 + i. -/
  | fjStx (slot : Nat) (ad : BitVec 16) (i : BitVec 8) (v : BitVec 8)
  /-- LDB (R256): Loads one bit of a word into a BOOL local. -/
  | fjLdb (slot : Nat) (d : BitVec 8) (as_ : BitVec 16) (b5 : BitVec 8)
  /-- STB (R256): Stores one bit of a word. -/
  | fjStb (slot : Nat) (ad : BitVec 16) (b5 : BitVec 8) (v : BitVec 8)
  /-- MOV (R255): Copies a local to a local of the same type. -/
  | fjMov (slot : Nat) (d : BitVec 8) (a : BitVec 8)
  /-- LDK (R256): Loads a 32-bit constant. -/
  | fjLdk (slot : Nat) (d : BitVec 8) (k : Word)
  /-- LDK8 (R256): Loads an 8-bit constant, extended by destination type. -/
  | fjLdk8 (slot : Nat) (d : BitVec 8) (k : BitVec 8)
  /-- LDKH (R256): Replaces the high 32 bits of a TIME64 local. -/
  | fjLdkh (slot : Nat) (d : BitVec 8) (k : Word)
  /-- ADD (R281): Saturating integer or TIME64 addition. -/
  | fjAdd (slot : Nat) (d : BitVec 8) (a : BitVec 8) (b : BitVec 8)
  /-- SUB (R281): Saturating integer or TIME64 subtraction. -/
  | fjSub (slot : Nat) (d : BitVec 8) (a : BitVec 8) (b : BitVec 8)
  /-- MUL (R281): Saturating integer multiplication. -/
  | fjMul (slot : Nat) (d : BitVec 8) (a : BitVec 8) (b : BitVec 8)
  /-- DIV (R282): Integer division truncating toward zero, with a defined result for zero divisors. -/
  | fjDiv (slot : Nat) (d : BitVec 8) (a : BitVec 8) (b : BitVec 8)
  /-- REM (R282): Integer remainder with the sign of the dividend. -/
  | fjRem (slot : Nat) (d : BitVec 8) (a : BitVec 8) (b : BitVec 8)
  /-- NEG (R281): Saturating negation. -/
  | fjNeg (slot : Nat) (d : BitVec 8) (a : BitVec 8)
  /-- ABS (R281): Saturating absolute value. -/
  | fjAbs (slot : Nat) (d : BitVec 8) (a : BitVec 8)
  /-- MIN (R257): Integer or TIME64 minimum. -/
  | fjMin (slot : Nat) (d : BitVec 8) (a : BitVec 8) (b : BitVec 8)
  /-- MAX (R257): Integer or TIME64 maximum. -/
  | fjMax (slot : Nat) (d : BitVec 8) (a : BitVec 8) (b : BitVec 8)
  /-- AND (R257): Bitwise AND. -/
  | fjAnd (slot : Nat) (d : BitVec 8) (a : BitVec 8) (b : BitVec 8)
  /-- OR (R257): Bitwise OR. -/
  | fjOr (slot : Nat) (d : BitVec 8) (a : BitVec 8) (b : BitVec 8)
  /-- XOR (R257): Bitwise exclusive OR. -/
  | fjXor (slot : Nat) (d : BitVec 8) (a : BitVec 8) (b : BitVec 8)
  /-- NOT (R257): Bitwise complement. -/
  | fjNot (slot : Nat) (d : BitVec 8) (a : BitVec 8)
  /-- SHL (R258): Left shift. -/
  | fjShl (slot : Nat) (d : BitVec 8) (a : BitVec 8) (b : BitVec 8)
  /-- SHR (R258): Right shift, arithmetic for INT32. -/
  | fjShr (slot : Nat) (d : BitVec 8) (a : BitVec 8) (b : BitVec 8)
  /-- ADDK (R281): Adds a signed 8-bit constant with saturation. -/
  | fjAddk (slot : Nat) (d : BitVec 8) (a : BitVec 8) (k : BitVec 8)
  /-- FADD (R283): REAL32 addition. -/
  | fjFadd (slot : Nat) (d : BitVec 8) (a : BitVec 8) (b : BitVec 8)
  /-- FSUB (R283): REAL32 subtraction. -/
  | fjFsub (slot : Nat) (d : BitVec 8) (a : BitVec 8) (b : BitVec 8)
  /-- FMUL (R283): REAL32 multiplication. -/
  | fjFmul (slot : Nat) (d : BitVec 8) (a : BitVec 8) (b : BitVec 8)
  /-- FDIV (R283): REAL32 division. -/
  | fjFdiv (slot : Nat) (d : BitVec 8) (a : BitVec 8) (b : BitVec 8)
  /-- FMA (R258): Fused multiply-add with a single rounding. -/
  | fjFma (slot : Nat) (d : BitVec 8) (a : BitVec 8) (b : BitVec 8) (c : BitVec 8)
  /-- FSQRT (R283): REAL32 square root. -/
  | fjFsqrt (slot : Nat) (d : BitVec 8) (a : BitVec 8)
  /-- FNEG (R284): Flips the sign bit. -/
  | fjFneg (slot : Nat) (d : BitVec 8) (a : BitVec 8)
  /-- FABS (R284): Clears the sign bit. -/
  | fjFabs (slot : Nat) (d : BitVec 8) (a : BitVec 8)
  /-- FMIN (R258): minimumNumber of IEEE 754-2019. -/
  | fjFmin (slot : Nat) (d : BitVec 8) (a : BitVec 8) (b : BitVec 8)
  /-- FMAX (R258): maximumNumber of IEEE 754-2019. -/
  | fjFmax (slot : Nat) (d : BitVec 8) (a : BitVec 8) (b : BitVec 8)
  /-- FRND (R258): Rounds to an integral value, ties to even. -/
  | fjFrnd (slot : Nat) (d : BitVec 8) (a : BitVec 8)
  /-- CVT (R287): Converts between the allowed type pairs. -/
  | fjCvt (slot : Nat) (d : BitVec 8) (a : BitVec 8)
  /-- CMP (R261): Compares two locals under cond into a BOOL. -/
  | fjCmp (slot : Nat) (d : BitVec 8) (a : BitVec 8) (b : BitVec 8) (cond : BitVec 8)
  /-- BAND (R260): Boolean AND. -/
  | fjBand (slot : Nat) (d : BitVec 8) (a : BitVec 8) (b : BitVec 8)
  /-- BOR (R260): Boolean OR. -/
  | fjBor (slot : Nat) (d : BitVec 8) (a : BitVec 8) (b : BitVec 8)
  /-- BXOR (R260): Boolean exclusive OR. -/
  | fjBxor (slot : Nat) (d : BitVec 8) (a : BitVec 8) (b : BitVec 8)
  /-- BNOT (R260): Boolean NOT. -/
  | fjBnot (slot : Nat) (d : BitVec 8) (a : BitVec 8)
  /-- SEL (R260): Selects a or b by a BOOL. -/
  | fjSel (slot : Nat) (d : BitVec 8) (c : BitVec 8) (a : BitVec 8) (b : BitVec 8)
  /-- LIM (R260): Limits a value to [lo, hi]. -/
  | fjLim (slot : Nat) (d : BitVec 8) (a : BitVec 8) (lo : BitVec 8) (hi : BitVec 8)
  /-- TSTQ (R260): Tests a QUAL against a 16-bit mask. -/
  | fjTstq (slot : Nat) (d : BitVec 8) (q : BitVec 8) (k : BitVec 16)
  /-- EDGR (R260): Detects a rising edge and updates the state local. -/
  | fjEdgr (slot : Nat) (d : BitVec 8) (a : BitVec 8) (m : BitVec 8)
  /-- EDGF (R260): Detects a falling edge and updates the state local. -/
  | fjEdgf (slot : Nat) (d : BitVec 8) (a : BitVec 8) (m : BitVec 8)
  /-- EDGB (R260): Detects either edge and updates the state local. -/
  | fjEdgb (slot : Nat) (d : BitVec 8) (a : BitVec 8) (m : BitVec 8)
  /-- SR (R260): Set-dominant latch. -/
  | fjSr (slot : Nat) (q : BitVec 8) (m : BitVec 8) (r : BitVec 8)
  /-- RS (R260): Reset-dominant latch. -/
  | fjRs (slot : Nat) (q : BitVec 8) (m : BitVec 8) (r : BitVec 8)
  /-- TSTART (R262): Stages a ONESHOT START of a slot timer at t_E. -/
  | fjTstart (slot : Nat) (t : BitVec 16) (a : BitVec 8)
  /-- TSTARTP (R262): Stages a PERIODIC START of a slot timer. -/
  | fjTstartp (slot : Nat) (t : BitVec 16) (a : BitVec 8)
  /-- TSTARTW (R262): Stages a STOPWATCH START of a slot timer. -/
  | fjTstartw (slot : Nat) (t : BitVec 16)
  /-- TCANCEL (R262): Stages a CANCEL of a slot timer. -/
  | fjTcancel (slot : Nat) (t : BitVec 16)
  /-- TPAUSE (R262): Stages a PAUSE with a hold time. -/
  | fjTpause (slot : Nat) (t : BitVec 16) (a : BitVec 8)
  /-- TRESUME (R262): Stages a RESUME of a paused timer. -/
  | fjTresume (slot : Nat) (t : BitVec 16)
  /-- TREAD (R263): Reads DUE, REMAIN, SINCE, COUNT or MODE of a timer. -/
  | fjTread (slot : Nat) (d : BitVec 8) (t : BitVec 16) (sel : BitVec 8)
  /-- TON (R263): On-delay function on a ONESHOT timer. -/
  | fjTon (slot : Nat) (d : BitVec 8) (t : BitVec 16) (i : BitVec 8) (p : BitVec 8)
  /-- TNOW (R262): Returns t_E as ELAPSED ns. -/
  | fjTnow (slot : Nat) (d : BitVec 8)
  /-- WNOW (R263): Returns the wall time of tick E. -/
  | fjWnow (slot : Nat) (d : BitVec 8)
  /-- CTU (R263): Counts up on a rising edge, saturating. -/
  | fjCtu (slot : Nat) (c : BitVec 8) (i : BitVec 8) (m : BitVec 8)
  /-- CTD (R263): Counts down on a rising edge, saturating. -/
  | fjCtd (slot : Nat) (c : BitVec 8) (i : BitVec 8) (m : BitVec 8)
  /-- GATH (R266): Gathers indexed words or points, with a quality-fault mask. -/
  | fjGath (slot : Nat) (m : BitVec 8) (ad : BitVec 16) (as_ : BitVec 16) (ax : BitVec 16)
  /-- SCAT (R267): Scatters words to indexed locations. -/
  | fjScat (slot : Nat) (ad : BitVec 16) (as_ : BitVec 16) (ax : BitVec 16)
  /-- BMOV (R268): Copies a block of words with overlap handling. -/
  | fjBmov (slot : Nat) (ad : BitVec 16) (as_ : BitVec 16) (n : BitVec 8)
  /-- CURV (R269): Evaluates a curve table for each element. -/
  | fjCurv (slot : Nat) (ad : BitVec 16) (as_ : BitVec 16) (at_ : BitVec 16) (n : BitVec 8)
  /-- SUMV (R270): Sums REAL32 words in ascending order. -/
  | fjSumv (slot : Nat) (d : BitVec 8) (as_ : BitVec 16) (n : BitVec 8)
  /-- PMAKE (R272): Builds a phasor from real and imaginary parts. -/
  | fjPmake (slot : Nat) (d : BitVec 8) (re : BitVec 8) (im : BitVec 8)
  /-- PPOL (R288): Builds a phasor from magnitude and angle. -/
  | fjPpol (slot : Nat) (d : BitVec 8) (m : BitVec 8) (g : BitVec 8)
  /-- PRE (R272): Returns the real part of a phasor. -/
  | fjPre (slot : Nat) (d : BitVec 8) (a : BitVec 8)
  /-- PIM (R272): Returns the imaginary part of a phasor. -/
  | fjPim (slot : Nat) (d : BitVec 8) (a : BitVec 8)
  /-- PMAG (R273): Returns the phasor magnitude, correctly rounded. -/
  | fjPmag (slot : Nat) (d : BitVec 8) (a : BitVec 8)
  /-- PANG (R288): Returns the phasor angle in (−180, +180]. -/
  | fjPang (slot : Nat) (d : BitVec 8) (a : BitVec 8)
  /-- PADD (R273): Phasor addition. -/
  | fjPadd (slot : Nat) (d : BitVec 8) (a : BitVec 8) (b : BitVec 8)
  /-- PSUB (R273): Phasor subtraction. -/
  | fjPsub (slot : Nat) (d : BitVec 8) (a : BitVec 8) (b : BitVec 8)
  /-- PMUL (R288): Phasor multiplication. -/
  | fjPmul (slot : Nat) (d : BitVec 8) (a : BitVec 8) (b : BitVec 8)
  /-- PDIV (R288): Phasor division. -/
  | fjPdiv (slot : Nat) (d : BitVec 8) (a : BitVec 8) (b : BitVec 8)
  /-- PCONJ (R272): Phasor conjugate. -/
  | fjPconj (slot : Nat) (d : BitVec 8) (a : BitVec 8)
  /-- PSCL (R272): Scales a phasor by a REAL32. -/
  | fjPscl (slot : Nat) (d : BitVec 8) (a : BitVec 8) (r : BitVec 8)
  /-- PROT (R288): Rotates a phasor by an angle. -/
  | fjProt (slot : Nat) (d : BitVec 8) (a : BitVec 8) (g : BitVec 8)
  /-- PSEQ (R273): Forms a zero, positive or negative sequence component. -/
  | fjPseq (slot : Nat) (d : BitVec 8) (a : BitVec 8) (b : BitVec 8) (c : BitVec 8) (k : BitVec 8)
  /-- FLN (R272): Natural logarithm. -/
  | fjFln (slot : Nat) (d : BitVec 8) (a : BitVec 8)
  /-- FEXP (R272): Exponential. -/
  | fjFexp (slot : Nat) (d : BitVec 8) (a : BitVec 8)
  /-- FPOW (R272): Power a^b. -/
  | fjFpow (slot : Nat) (d : BitVec 8) (a : BitVec 8) (b : BitVec 8)
  /-- FLGRD (R275): Reads the task's sticky flags. -/
  | fjFlgrd (slot : Nat) (d : BitVec 8)
  /-- FLGCLR (R275): Clears the named sticky flags. -/
  | fjFlgclr (slot : Nat) (k : BitVec 8)
  /-- TENA (R275): Stages re-enabling of a task disabled by TDIS. -/
  | fjTena (slot : Nat) (k : BitVec 8)
  /-- TDIS (R275): Stages disabling of a task from the next cycle. -/
  | fjTdis (slot : Nat) (k : BitVec 8)
  /-- TKICK (R275): Makes an EVENT task ready at once. -/
  | fjTkick (slot : Nat) (k : BitVec 8)
  /-- FREC (R275): Reads a task's fault record. -/
  | fjFrec (slot : Nat) (d : BitVec 8) (k : BitVec 8) (sel : BitVec 8)
  /-- FCRD (R276): Reads a fast counter's COUNT or STAMP. -/
  | fjFcrd (slot : Nat) (d : BitVec 8) (k : BitVec 8) (sel : BitVec 8)
  /-- FCSET (R276): Stages a new compare value for a fast counter. -/
  | fjFcset (slot : Nat) (k : BitVec 8) (a : BitVec 8)
  /-- FCCLR (R276): Stages a reset of a fast counter. -/
  | fjFcclr (slot : Nat) (k : BitVec 8)
  /-- CTLRD (R277): Reads a field of a control object. -/
  | fjCtlrd (slot : Nat) (d : BitVec 8) (o : BitVec 8) (sel : BitVec 8)
  /-- CTLACK (R277): Stages the slot's answer to a pending operate. -/
  | fjCtlack (slot : Nat) (o : BitVec 8) (a : BitVec 8)
  /-- CTLOP (R277): Stages the slot's own order on a control object. -/
  | fjCtlop (slot : Nat) (o : BitVec 8) (a : BitVec 8) (cls : BitVec 8)
  /-- EVT (R278): Stages an event on source 297 + 2p. -/
  | fjEvt (slot : Nat) (a : BitVec 8) (k : BitVec 8)
  /-- GOOSE_FRAME_RECEIVED (R307): A subscribed GOOSE frame is checked, and if good its values become current and
  triggers latch. -/
  | gooseFrameReceived (h : RxHdr) (f : GooseRx)
  /-- SV_FRAME_RECEIVED (R307): A subscribed sampled-value frame is checked and, if good, its values become current.
  -/
  | svFrameReceived (h : RxHdr) (f : SvRx)
  /-- STATION_MISS (R308): A TimeAllowedToLive or a sampled-value frame interval elapses without a good frame, and a
  miss is counted. -/
  | stationMiss (k : Nat)
  /-- GOOSE_RETRANSMIT (R386): A GOOSE retransmission interval expires; the frame is repeated with sqNum + 1. -/
  | gooseRetransmit (k : Nat)
  /-- TIMED_LAUNCH (R362): The launch compare of a head frame fires and the frame is sent or discarded as late. -/
  | timedLaunch (p : Nat)
  /-- DI_CHANGE_ACCEPTED (R317): A DI raw state differing for DEB is accepted as a debounced change with a stamped
  edge entry. -/
  | diChangeAccepted (i : Nat) (mvs : List Nat) (ft : Nat)
  /-- WETTING_END (R316): The 2 ms wetting phase ends and the input returns to the held current. -/
  | wettingEnd (i ft : Nat)
  /-- FAST_INPUT_EDGE (R319): A selected edge on DI0–DI7 makes an edge entry. -/
  | fastInputEdge (i : Nat) (level : Bool) (ft : Nat)
  /-- OUTPUT_OVERCURRENT_ONSET (R323): An overcurrent on an ON output starts the peak phase and sets OVERLOAD. -/
  | outputOvercurrentOnset (j ft : Nat)
  /-- PEAK_PHASE_END (R323): After 100 µs, an overcurrent output enters regulation at 0.75 A. -/
  | peakPhaseEnd (j ft : Nat) (below : Bool)
  /-- FOLDBACK_START (R323): At 1 ms from onset the output enters foldback and sets FOLDBACK. -/
  | foldbackStart (j ft : Nat) (below : Bool)
  /-- RETRY_PULSE (R323): Every 10 ms in foldback a 100 µs retry pulse at 0.1 A starts. -/
  | retryPulse (j : Nat)
  /-- RETRY_PULSE_END (R323): A retry pulse ends; the output returns to normal drive if the land is above 4 V. -/
  | retryPulseEnd (j ft : Nat) (above : Bool)
  /-- OVERLOAD_CLEAR (R326): OVERLOAD clears after 1 ms of normal drive. -/
  | overloadClear (j ft : Nat)
  /-- OVERTEMP_ENTER (R326): A channel junction reaches 150 °C and OVERTEMP sets. -/
  | overtempEnter (j : Nat)
  /-- THERMAL_SHUTDOWN (R323): A channel junction reaches 170 °C and the channel switches off. -/
  | thermalShutdown (j : Nat)
  /-- THERMAL_RECOVERY (R323): The junction cools to 150 °C and the channel resumes with retry pulses. -/
  | thermalRecovery (j : Nat)
  /-- OPEN_WIRE_TEST (R326): Every 50 ms an OFF output receives a 0.5 ms test current and OPEN is judged. -/
  | openWireTest (j : Nat) (above : Bool)
  /-- BACKFEED_DETECT (R326): An OFF output whose readback has been ON for 1 ms sets BACKFEED. -/
  | backfeedDetect (j : Nat)
  /-- DOWNLINK_FRAME (R328): The field side receives a good downlink frame, applies OUT and the configuration word,
  and restarts its silence timer. -/
  | downlinkFrame (ft : Nat)
  /-- DOWNLINK_ABORT (R327): An ABORT ends the frame in flight without an error and restarts the silence timer. -/
  | downlinkAbort (ft : Nat)
  /-- BAD_DOWNLINK_FRAME (R327): A downlink frame with a bad SYNC or CRC is counted and changes no output. -/
  | badDownlinkFrame
  /-- SILENCE_EXPIRY (R334): The field silence timer expires and each output takes its SAFE state. -/
  | silenceExpiry (ft : Nat)
  /-- UPLINK_DI_FRAME (R331): A good DI uplink frame updates the DI register and raises DI events. -/
  | uplinkDiFrame
  /-- UPLINK_RB_FRAME (R331): A good RB uplink frame updates the readback and FAULT registers. -/
  | uplinkRbFrame (rb : BitVec 32)
  /-- AUX_IDLE (R331): An AUX frame carrying IDLE is received. -/
  | auxIdle
  /-- AUX_EDGES (R331): An EDGES record delivers up to two edge entries, which are counted and enter the edge FIFO.
  -/
  | auxEdges
  /-- AUX_DIAG (R331): A DIAG record updates one output's diagnostics and current. -/
  | auxDiag (j : Nat) (cur : BitVec 12)
  /-- AUX_TIME (R331): A TIME record maps FTIME to the time counter. -/
  | auxTime (ft : Nat)
  /-- AUX_STATUS (R331): A STATUS record reports VFLD, temperature and counts, raising events 332, 333, 338 and 339.
  -/
  | auxStatus (vfld : BitVec 12) (temp : Byte)
  /-- AUX_CFGECHO (R333): A CFGECHO record returns the configuration word held for comparison. -/
  | auxCfgecho (a : Nat)
  /-- BAD_UPLINK_FRAME (R333): A bad uplink frame is counted and event 330 is raised. -/
  | badUplinkFrame (aux : Bool)
  /-- UPLINK_LOSS (R333): No good uplink frame for 10 µs starts uplink loss and event 331. -/
  | uplinkLoss
  /-- CFGECHO_MISMATCH (R333): An echo still differs from the value sent 1 ms after it was first sent, and event 334
  is raised. -/
  | cfgechoMismatch (a : Nat)
  /-- LINK_DELAY_MEASURED (R538): After an uplink loss, the barrier link delay is measured again by round trip. -/
  | linkDelayMeasured (ns : Nat)
  /-- FIELD_EDGE_DISCARD (R332): A field edge entry older than 20 ms is discarded and counted as lost. -/
  | fieldEdgeDiscard (ft : Nat)
  /-- EDGE_FIFO_DRAIN (R339): The SP drains edge FIFO entries to the recorder and the edge log each epoch. -/
  | edgeFifoDrain
  /-- EDGE_POP_READ (R340): A read of EDGE_POP returns word 4 of the head entry and removes it; a tongs read sets
  PEEKED. -/
  | edgePopRead (tongs : Bool)
  /-- DROP_COUNTER_READ (R340): A read of CNT_DROP and REC_REFUSED returns them and clears them, except through the
  tongs. -/
  | dropCounterRead (tongs : Bool)
  /-- INC_TRANSFER (R348): A write of INC_HI transfers INC and the staged FREQ_INC together, with clamping. -/
  | incTransfer (v : Byte)
  /-- TIME_STEP_GO (R349): Writing GO applies an offset or absolute step to the time counter at the next tim edge.
  -/
  | timeStepGo (abs : Bool)
  /-- TC_NS_READ (R347): A read of TC_NS latches the SEC, FRAC and QUAL fields at one tim edge. -/
  | tcNsRead (tongs : Bool)
  /-- TIME_NS_READ (R368): A read of TIME_NS in BAR0 latches the time readout and the epoch. -/
  | timeNsRead (tongs : Bool)
  /-- EPOCH_LO_READ (R20): A read of EPOCH_LO returns the low word and latches the full 64-bit epoch. -/
  | epochLoRead (tongs : Bool)
  /-- TIM_SOURCE_SELECT (R347): A write of SRC REF10M selects or deselects TIM10M_IN and clears LOST. -/
  | timSourceSelect (ref : Bool)
  /-- INC_SLEW_LAPSE (R348): 2.5 s without an INC_HI write sets INC equal to FREQ_INC. -/
  | incSlewLapse
  /-- PTP_SYNC (R350): A Sync on the SLAVE port drives one servo step or time step and the state transitions. -/
  | ptpSync (p domain seq : Nat) (twoStep : Bool) (origin : Nat) (corr : Int)
  /-- PTP_FOLLOW_UP (R357): A Follow_Up gives the precise origin time of a two-step Sync. -/
  | ptpFollowUp (p domain seq origin : Nat) (corr : Int)
  /-- PTP_ANNOUNCE (R357): An Announce feeds the BMCA and the grandmaster accuracy. -/
  | ptpAnnounce (p domain : Nat) (a : Announce)
  /-- PTP_PDELAY_REQ (R357): A received Pdelay_Req is answered with a peer delay response. -/
  | ptpPdelayReq (p domain seq requester : Nat)
  /-- PTP_PDELAY_RESP (R357): A Pdelay response updates the link delay of its port. -/
  | ptpPdelayResp (p domain seq reqRx respTx : Nat) (corr : Int)
  /-- PTP_UNSUPPORTED (R359): A PTP message of an unsupported kind is discarded and counted in DISCARD. -/
  | ptpUnsupported (p : Nat)
  /-- PTP_TRANSMIT_INTERVAL (R357): The 1 s interval of Sync, Announce or Pdelay_Req transmission expires on a port.
  -/
  | ptpTransmitInterval (p : Nat) (k : PtpKind)
  /-- TRANSPARENT_CLOCK_FORWARD (R358): An event message is forwarded between ETH2 and ETH3 with its correctionField
  increased. -/
  | transparentClockForward (p seq : Nat) (twoStep : Bool) (corr : Int) (rx tx : Nat)
  /-- ANNOUNCE_TIMEOUT (R352): The announce receipt timeout on the SLAVE port moves LOCKED to HOLDOVER. -/
  | announceTimeout (p : Nat)
  /-- HOLDOVER_EXPIRY (R352): HOLD_MAX elapses in HOLDOVER; STATE becomes FREERUN and event 351 is raised. -/
  | holdoverExpiry
  /-- STEPPED_TIMEOUT (R352): 1 s after a step with no SLAVE port, STATE becomes FREERUN. -/
  | steppedTimeout
  /-- EST_RECOMPUTE (R353): In HOLDOVER, EST is recomputed every second. -/
  | estRecompute
  /-- STAMP_INTERRUPT (R355): A PTP SFD interrupt latches the counter into CAP and the SP forms a direct stamp. -/
  | stampInterrupt (wait : Nat)
  /-- PORT_BEACON (R356): A port's 1 ms beacon latches NCOUNT with a direct stamp for derived stamps. -/
  | portBeacon (port ncount : Nat)
  /-- PPS_PULSE (R367): At a second boundary reached by counting, PPS_OUT rises if the mode and state allow. -/
  | ppsPulse
  /-- PPS_PULSE_END (R367): PPS_OUT falls after WIDTH of elapsed time. -/
  | ppsPulseEnd
  /-- LINK_UP (R375): A port declares link up, starting or extending admission within the first second. -/
  | linkUp (p : Nat)
  /-- LINK_DOWN (R375): After 1 ms of continuous loss a port declares link down and raises its link event. -/
  | linkDown (p : Nat)
  /-- RX_BAD_FRAME (R376): A frame with a bad FCS, a symbol error, or an illegal length is discarded and counted. -/
  | rxBadFrame (p : Nat) (long : Bool)
  /-- RX_UNSUPPORTED_FRAME (R376): A frame of an unserved EtherType or with a second VLAN tag is discarded into
  RX_UNSUP. -/
  | rxUnsupportedFrame (h : RxHdr)
  /-- PAUSE_FRAME (R374): A received pause frame is ignored and counted in PAUSE_RX. -/
  | pauseFrame (p : Nat)
  /-- PRP_SUPERVISION_RX (R378): A PRP supervision or trailer frame proves its port alive and ends a loss. -/
  | prpSupervisionRx (h : RxHdr)
  /-- PRP_SUPERVISION_TX (R378): Every 2 s the engine sends PRP supervision frames on both ports. -/
  | prpSupervisionTx (pair : Nat)
  /-- PRP_PORT_LOST (R378): 6 s without a valid trailer on a port while the other port receives them declares the
  port lost. -/
  | prpPortLost (p : Nat)
  /-- DUP_ENTRY_EXPIRY (R378): A duplicate-table entry is forgotten after 400 ms. -/
  | dupEntryExpiry (pair : Nat)
  /-- HSR_FORWARD (R379): A ring frame is consumed and forwarded once, cut-through or from the forwarding buffer. -/
  | hsrForward (h : RxHdr) (own sup mine : Bool)
  /-- HSR_SUPERVISION_TX (R379): Every 2 s the engine sends its own HSR supervision frames. -/
  | hsrSupervisionTx (pair : Nat)
  /-- HSR_RING_OPEN (R379): The engine's own supervision frames have not returned on a port for 6 s: the ring is
  open. -/
  | hsrRingOpen (p : Nat)
  /-- HELLO_SEND (R399): At its offset in each hello interval, the engine sends a hello on each fabric port. -/
  | helloSend
  /-- HELLO_RECEIVED (R400): A received hello updates the neighbour state or enters the pending list. -/
  | helloReceived (h : RxHdr) (x : Hello)
  /-- CONFLICT_BLOCK_END (R402): The 10 s discard of frames from a conflicting SA ends. -/
  | conflictBlockEnd
  /-- PENDING_ADMISSION (R66): At each hello interval up to 32 pending nodes enter free neighbour-table entries in
  PROBATION. -/
  | pendingAdmission
  /-- PROBATION_END (R400): After 3 hello intervals a neighbour in PROBATION becomes UP. -/
  | probationEnd (addr l : Nat)
  /-- NEIGHBOUR_SILENT (R400): 3 hello intervals without a hello move a neighbour to DOWN. -/
  | neighbourSilent (addr l : Nat)
  /-- NEIGHBOUR_ENTRY_FREE (R400): A DOWN neighbour's entry is freed 10 s after DOWN. -/
  | neighbourEntryFree (addr l : Nat)
  /-- OWN_PROBATION_END (R401): The engine's own probation ends after 3 hello intervals, and event 410 is raised. -/
  | ownProbationEnd
  /-- FABRIC_UNICAST_FRAME (R405): A unicast fabric frame is consumed, forwarded via the sieve and tables, or
  discarded. -/
  | fabricUnicastFrame (h : RxHdr) (f : FabHdr) (body : FabBody)
  /-- FABRIC_BROADCAST_FRAME (R406): A broadcast or multicast fabric frame is consumed in scope and forwarded once
  on the other ports. -/
  | fabricBroadcastFrame (h : RxHdr) (f : FabHdr) (body : FabBody)
  /-- SEGMENT_REASSEMBLY_TIMEOUT (R398): A segmented message still incomplete 50 ms after its first segment is
  discarded into REASM_FAIL. -/
  | segmentReassemblyTimeout
  /-- PROTECTION_SIGNAL_RX (R411): An SVC 1 frame's inner GOOSE is presented to the subscription filter as if
  received locally. -/
  | protectionSignalRx
  /-- TW_RECORD_SEND (R414): Within 50 µs of an arrival record, it is sent to the remote end with SVC 2. -/
  | twRecordSend
  /-- TW_RECORD_RX (R414): A remote arrival record is paired and a location record is computed, raising event 402.
  -/
  | twRecordRx
  /-- TW_PAIR_WAIT_EXPIRY (R414): An arrival record unpaired for PAIR_WAIT is discarded and event 403 is raised. -/
  | twPairWaitExpiry
  /-- FABRIC_WHISK_RX (R416): A received SVC 3 whisk arms the compare at W or answers LATE or CONFLICT. -/
  | fabricWhiskRx
  /-- FABRIC_WHISK_ANSWER (R416): An answer to a fabric whisk reaches the originator and is tallied. -/
  | fabricWhiskAnswer
  /-- FABRIC_WHISK_WAIT_END (R416): At acceptance + WAIT, the fab.whisk response is sent with its counts. -/
  | fabricWhiskWaitEnd
  /-- CHAIN_START_RX (R520): An update-chain START is applied as upd.begin with RESUME and answered by ACK. -/
  | chainStartRx
  /-- CHAIN_DATA_RX (R520): A chain block record is tag-checked as block NEXT, stored and acknowledged. -/
  | chainDataRx
  /-- CHAIN_ACK_RX (R520): An ACK moves the sender's send position to NEXT. -/
  | chainAckRx
  /-- CHAIN_RESEND (R417): A block unacknowledged after 50 ms is resent; after 8 sends the chain breaks. -/
  | chainResend
  /-- SESSION_OPEN_RX (R418): A remote OPEN is granted a client number and level, or refused. -/
  | sessionOpenRx
  /-- SESSION_OPEN_REPLY_RX (R418): An OPEN_REPLY establishes a session for the caller. -/
  | sessionOpenReplyRx
  /-- SESSION_REQUEST_RX (R418): A remote REQUEST is placed in the session client's ring. -/
  | sessionRequestRx
  /-- SESSION_RESPONSE_RX (R419): A remote RESPONSE completes a pending fab.call. -/
  | sessionResponseRx
  /-- SESSION_CLOSE_RX (R418): A CLOSE ends a remote session. -/
  | sessionCloseRx
  /-- SESSION_IDLE_CLOSE (R418): A session without a request for 10 s closes once its rings are empty. -/
  | sessionIdleClose (c : Nat)
  /-- FAB_CALL_TIMEOUT (R419): No inner response within TIMEOUT answers fab.call LATE. -/
  | fabCallTimeout
  /-- DOORBELL_WRITE (R433): A write of DB[c] sets REQ_PROD and RSP_CONS and prompts consumption of the ring. -/
  | doorbellWrite (c : Nat) (v : Word)
  /-- RING_RESET (R436): RING_RST resets both rings of a client, cancels waiting commands and raises event 434. -/
  | ringReset (c : Nat)
  /-- PCIE_PERST (R436): PCIE_PERST_N resets the rings of every host client, the vectors and the MSI-X table. -/
  | pciePerst
  /-- PCIE_LINK_STATE_CHANGE (R448): The PCIe link enters or leaves L0, and event 426 is raised. -/
  | pcieLinkStateChange (up : Bool) (speed width : Nat)
  /-- REQUEST_ACCEPT (R439): The SP accepts a request in its pass order and applies the ordered checks. -/
  | requestAccept
  /-- RESPONSE_RING_ROOM (R435): A stalled response is written once the host frees room, and STALL clears. -/
  | responseRingRoom (c : Nat)
  /-- VECTOR_SIGNAL (R430): A held vector signal is sent once MASK is 0 and COAL has elapsed. -/
  | vectorSignal (v : Nat)
  /-- BAR0_ACCESS_ERROR (R428): An unaligned or wrongly sized BAR0 access is ignored or reads 0, and event 428 is
  raised. -/
  | bar0AccessError
  /-- QSPI_READ (R427): A QSPI READ transaction reads BAR0 or BAR2 words. -/
  | qspiRead (a : BitVec 24) (n : Nat) (cut : Bool)
  /-- QSPI_WRITE (R427): A QSPI WRITE transaction writes BAR0 or BAR2 words. -/
  | qspiWrite (a : BitVec 24) (l : List Word) (cut : Bool)
  /-- QSPI_STATUS (R427): A QSPI STATUS transaction returns INT, ERR and MBX_ROOT and clears ERR. -/
  | qspiStatus
  /-- QSPI_INVALID_OPCODE (R427): A QSPI transaction with an unknown opcode is ignored. -/
  | qspiInvalidOpcode (_op : Byte)
  /-- REGISTER_WRITE (R7): A write to a register without a row of its own, under its access code. -/
  | registerWrite (sp : RegSpace) (o : Nat) (v : Word)
  /-- WHISK_FIRE_WRITE (R429): Writing FIRE whisks at the tim edge at which the write arrives. -/
  | whiskFireWrite (v : Word)
  /-- WHISK_ARM_WRITE (R429): Writing ARM = 1 arms the whisk-at-time compare at WHISK_AT. -/
  | whiskArmWrite (v : Word)
  /-- WHISK_DISARM_WRITE (R429): Writing ARM = 0 disarms the whisk compare. -/
  | whiskDisarmWrite (v : Word)
  /-- WHISK_IN_EDGE (R483): A rising edge on WHISK_IN with PIN_EN whisks at the first tim edge that samples it high.
  -/
  | whiskInEdge
  /-- WHISK_COMPARE_FIRE (R483): The whisk-at-time compare fires at its target. -/
  | whiskCompareFire
  /-- SNAPSHOT_COMPLETE (R485): All blocks have captured their parts and the snapshot becomes HELD. -/
  | snapshotComplete
  /-- WHISK_OUT_END (R484): WHISK_OUT falls 1 µs after the latest whisk. -/
  | whiskOutEnd
  /-- DBGACC_ACCESS (R490): A DBGACC scan with START performs a tongs read or a permitted write. -/
  | dbgaccAccess (a : Word) (write : Bool) (w : Word)
  /-- SYS_INFO (R445): Returns identity, versions, formats and counts. -/
  | sysInfo (r : Req)
  /-- SYS_CLIENT (R440): Client 0 writes or reads client authority and disable settings. -/
  | sysClient (r : Req)
  /-- SYS_ARM (R60): Releases named slots from the startup lid, with FORCE if needed. -/
  | sysArm (r : Req)
  /-- SYS_SHUTDOWN (R68): Starts an orderly shutdown. -/
  | sysShutdown (r : Req)
  /-- SYS_BSTOP_READ (R216): Returns the backstop image in force. -/
  | sysBstopRead (r : Req)
  /-- SYS_BSTOP_STAGE (R216): Validates the backstop staging buffer and marks it staged. -/
  | sysBstopStage (r : Req)
  /-- SYS_BSTOP_COMMIT (R216): Writes both backstop copies and schedules loading at S. -/
  | sysBstopCommit (r : Req)
  /-- SYS_BSTOP_STATE (R216): Returns the comparator, detector and group states. -/
  | sysBstopState (r : Req)
  /-- BACKSTOP_COMMIT_EFFECT (R216): At S the committed settings load, states restart and BACKSTOP sets. -/
  | backstopCommitEffect
  /-- SYS_LADLE_READ (R441): Starts a ladle transfer from an engine object to the host. -/
  | sysLadleRead (r : Req)
  /-- SYS_LADLE_WRITE (R441): Starts a ladle transfer from the host into an engine object. -/
  | sysLadleWrite (r : Req)
  /-- SYS_LADLE_ABORT (R441): Stops a named ladle transfer. -/
  | sysLadleAbort (r : Req) (moved : List Byte)
  /-- LADLE_TRANSFER_END (R441): A ladle transfer completes with BYTES and its CRC-32. -/
  | ladleTransferEnd (c seq : Nat) (d : List Byte)
  /-- LADLE_BUS_ERROR (R441): A bus-master failure or 50 ms timeout stops the transfer with LINK_ERR. -/
  | ladleBusError (c seq : Nat) (moved : List Byte)
  /-- SYS_NOP (R445): Echoes its payload with the completion epoch. -/
  | sysNop (r : Req)
  /-- CNV_INPUT (R76): Writes or reads input records. -/
  | cnvInput (r : Req)
  /-- INPUT_RECORD_EFFECT (R77): At S a new input record restarts the input's windows and wire-break evaluations. -/
  | inputRecordEffect
  /-- CNV_SEQ (R96): Writes or reads the converter sequences and the strobe period. -/
  | cnvSeq (r : Req)
  /-- SEQUENCE_SET_EFFECT (R97): At the first strobe edge at or after S the new sequences start and affected inputs
  restart. -/
  | sequenceSetEffect
  /-- CNV_URGENT (R102): Queues an urgent conversion entry on one converter. -/
  | cnvUrgent (r : Req)
  /-- CNV_HOUSE (R103): Writes or reads the housekeeping interval and the converter trim records. -/
  | cnvHouse (r : Req)
  /-- HOUSE_EFFECT (R103): At S a new housekeeping interval sets a new origin for rounds. -/
  | houseEffect
  /-- CNV_PLAUS (R110): Writes or reads the plausibility thresholds. -/
  | cnvPlaus (r : Req)
  /-- PLAUS_EFFECT (R110): At S new thresholds apply and the disagreement count restarts. -/
  | plausEffect
  /-- CNV_TWIN_READ (R120): Returns the twin-path status records. -/
  | cnvTwinRead (r : Req)
  /-- CNV_TWIN_TEST (R121): Starts a self-test of an index and answers at the verdict. -/
  | cnvTwinTest (r : Req)
  /-- CNV_TWIN_RETURN (R122): Self-tests removed parts of a path and puts passing parts into RETURNING. -/
  | cnvTwinReturn (r : Req)
  /-- ACC_READ (R134): Returns RMS, MEAN and phasors of the selected inputs. -/
  | accRead (r : Req)
  /-- ACC_MM (R139): Returns epoch and hold extremes, optionally with a SWAP. -/
  | accMm (r : Req)
  /-- HOLD_SWAP_EFFECT (R139): At S the named hold trackers return generation S and restart. -/
  | holdSwapEffect
  /-- ACC_FREQ (R130): Returns tracker frequency records. -/
  | accFreq (r : Req)
  /-- ACC_TRACK (R130): Writes or reads FNOM, LEAK, window sources and MIN_MAG. -/
  | accTrack (r : Req)
  /-- TRACK_EFFECT (R130): At S the tracking settings apply, and affected inputs and trackers restart. -/
  | trackEffect
  /-- ACC_TD (R145): Writes or reads the time-domain detector thresholds. -/
  | accTd (r : Req)
  /-- TD_EFFECT (R145): At S the new detector values apply and groups lose their references. -/
  | tdEffect
  /-- ACC_TW (R146): Removes and returns arrival records from the FIFO. -/
  | accTw (r : Req)
  /-- ELEM_TABLE_WRITE (R182): Writes descriptors to the inactive buffer. -/
  | elemTableWrite (r : Req)
  /-- ELEM_TABLE_COPY (R182): Copies the active buffer into the inactive buffer. -/
  | elemTableCopy (r : Req)
  /-- ELEM_TABLE_READ (R182): Reads descriptors from either buffer. -/
  | elemTableRead (r : Req)
  /-- ELEM_CURVE (R158): Writes a user curve to the inactive buffer, or reads a curve. -/
  | elemCurve (r : Req)
  /-- ELEM_SWAP (R183): Validates the inactive table and schedules the swap epoch S. -/
  | elemSwap (r : Req)
  /-- ELEMENT_SWAP_EFFECT (R184): At S the buffers exchange roles, element states carry or reset, and event 314 is
  raised. -/
  | elementSwapEffect
  /-- ELEM_READ (R185): Returns element state records. -/
  | elemRead (r : Req)
  /-- ELEM_RESET (R186): Schedules clearing of LATCHED in the named elements. -/
  | elemReset (r : Req)
  /-- LATCH_CLEAR_EFFECT (R186): At S, LATCHED clears in the named elements and event 317 is raised. -/
  | latchClearEffect
  /-- CYC_LOAD_CHECK (R446): Checks a staged FJ image and marks it LOADED. -/
  | cycLoadCheck (r : Req)
  /-- CYC_LOAD_READ (R446): Returns the LOADED flag and length of a staging. -/
  | cycLoadRead (r : Req)
  /-- CYC_ACTIVATE (R447): Activates LOADED images at S. -/
  | cycActivate (r : Req)
  /-- IMAGE_TAKEOVER (R221): At the first cycle boundary at or after S a new FJ image takes over with retained data.
  -/
  | imageTakeover (slot : Nat)
  /-- CYC_RESTART (R230): Restarts a stopped slot or re-enables disabled tasks. -/
  | cycRestart (r : Req)
  /-- CYC_SERVICE_ENTER (R238): Moves a slot to the spare and puts the freed pair into SERVICE. -/
  | cycServiceEnter (r : Req)
  /-- CYC_SERVICE_EXIT (R238): Self-tests a pair in SERVICE or HALTED and returns it to the spare role or FAILED. -/
  | cycServiceExit (r : Req)
  /-- CYC_STATE (R239): Returns slot and pair records. -/
  | cycState (r : Req)
  /-- IMG_READ (R312): Returns words of a slot's input or output half. -/
  | imgRead (r : Req)
  /-- IMG_STATION (R313): Returns station records, optionally zeroing counters. -/
  | imgStation (r : Req)
  /-- IO_CFG (R342): Writes or reads the field configuration. -/
  | ioCfg (r : Req)
  /-- IO_CFG_EFFECT (R342): At S the field marks and STAMP_LOG apply and the downlink carries the new words. -/
  | ioCfgEffect
  /-- IO_READ (R343): Returns field states, diagnostics and counts. -/
  | ioRead (r : Req)
  /-- IO_EDGES (R341): Removes and returns entries from the edge log. -/
  | ioEdges (r : Req)
  /-- TIME_READ_NOW (R369): Returns a direct stamp and time status. -/
  | timeReadNow (r : Req)
  /-- TIME_READ_TICK (R369): Returns the counter value at the issuing edge of a given tick. -/
  | timeReadTick (r : Req)
  /-- TIME_CFG (R370): Writes or reads the PTP and time configuration. -/
  | timeCfg (r : Req)
  /-- TIME_CFG_EFFECT (R370): At S the time configuration applies, possibly moving LOCKED to HOLDOVER. -/
  | timeCfgEffect
  /-- TIME_SET (R371): Requests a time step at tick S. -/
  | timeSet (r : Req)
  /-- TIME_SET_EFFECT (R371): At S the requested step is applied and STATE becomes STEPPED. -/
  | timeSetEffect
  /-- TIME_PTP (R372): Returns per-port PTP records. -/
  | timePtp (r : Req)
  /-- NET_CFG (R392): Writes or reads port modes, redundancy, LATE_LIM and POLICE. -/
  | netCfg (r : Req)
  /-- NET_CFG_EFFECT (R392): At S changed ports go link down and their queues flush. -/
  | netCfgEffect
  /-- NET_STAT (R393): Returns port counters, optionally zeroing them. -/
  | netStat (r : Req)
  /-- FAB_CFG (R422): Writes or reads the fabric configuration. -/
  | fabCfg (r : Req)
  /-- FAB_CFG_EFFECT (R422): At S the fabric configuration applies; an address change closes sessions and restarts
  own probation. -/
  | fabCfgEffect
  /-- FAB_ROUTE_WRITE (R408): Writes and pins a route entry, optionally invalidating sieves. -/
  | fabRouteWrite (r : Req)
  /-- FAB_ROUTE_UNPIN (R408): Unpins a route entry, which is recomputed at once. -/
  | fabRouteUnpin (r : Req)
  /-- FAB_ROUTE_READ (R408): Returns the zone and node tables. -/
  | fabRouteRead (r : Req)
  /-- FAB_INVALIDATE (R408): Removes matching entries from every sieve. -/
  | fabInvalidate (r : Req)
  /-- FAB_NBR (R423): Returns neighbour table records. -/
  | fabNbr (r : Req)
  /-- FAB_STAT (R424): Returns fabric counters, optionally zeroing them. -/
  | fabStat (r : Req)
  /-- FAB_SIG (R412): Writes or reads the binding of GOOSE control blocks to the fabric. -/
  | fabSig (r : Req)
  /-- FAB_TW (R413): Writes or reads the travelling-wave exchange settings. -/
  | fabTw (r : Req)
  /-- FAB_TW_EFFECT (R413): At S the exchange settings apply and unpaired records of changed groups are discarded.
  -/
  | fabTwEffect
  /-- FAB_TWLOC (R415): Removes and returns location records. -/
  | fabTwloc (r : Req)
  /-- FAB_WHISK (R416): Arms a local whisk at W and sends the fabric whisk. -/
  | fabWhisk (r : Req)
  /-- FAB_CALL (R419): Sends an inner mailbox message to a remote engine over a session. -/
  | fabCall (r : Req)
  /-- FAB_ACCESS (R420): Writes or reads the fabric access table. -/
  | fabAccess (r : Req)
  /-- REC_NOTES (R456): Removes and returns notification records. -/
  | recNotes (r : Req)
  /-- REC_CODE (R462): Returns live lifetime records of event codes. -/
  | recCode (r : Req)
  /-- REC_INDEX (R463): Returns the history index. -/
  | recIndex (r : Req)
  /-- REC_CFG (R465): Writes or reads colander settings. -/
  | recCfg (r : Req)
  /-- REC_CFG_EFFECT (R465): At S new colander settings apply and the buckets refill. -/
  | recCfgEffect
  /-- COLANDER_REFILL (R454): Every 1 ms each colander bucket gains RATE units up to BURST. -/
  | colanderRefill
  /-- HOURLY_SUMMARY (R457): At an OPSEC multiple of 3,600 an hourly summary record is written. -/
  | hourlySummary
  /-- DIST_CFG (R477): Writes or reads the disturbance recorder configuration. -/
  | distCfg (r : Req)
  /-- DIST_CFG_EFFECT (R476): At S an open record closes with TRUNC and a new reservation is made. -/
  | distCfgEffect
  /-- DIST_TRIGGER (R478): Triggers a disturbance record at the next tick. -/
  | distTrigger (r : Req)
  /-- DIST_LIST (R479): Returns record entries. -/
  | distList (r : Req)
  /-- DIST_KEEP (R480): Marks a record KEEP. -/
  | distKeep (r : Req)
  /-- DIST_RELEASE (R480): Releases the KEEP mark of a record. -/
  | distRelease (r : Req)
  /-- DIST_DELETE (R480): Deletes a record and frees its pages. -/
  | distDelete (r : Req)
  /-- RECORD_CLOSE (R473): A record reaches its last set and closes, and a new reservation is made. -/
  | recordClose
  /-- RECORD_COMPLETE (R476): 1 ms after its last set, a record becomes COMPLETE. -/
  | recordComplete
  /-- SNAP_INFO (R489): Returns the snapshot state and header. -/
  | snapInfo (r : Req)
  /-- SNAP_READ (R489): Returns snapshot data, optionally releasing it. -/
  | snapRead (r : Req)
  /-- SNAP_RELEASE (R489): Returns a held snapshot to EMPTY. -/
  | snapRelease (r : Req)
  /-- SNAP_FIRE (R489): Whisks at once, or arms a timed whisk. -/
  | snapFire (r : Req)
  /-- UPD_BEGIN (R515): Starts or resumes a staging from an image header. -/
  | updBegin (r : Req)
  /-- UPD_ABORT (R517): Returns the staging to IDLE. -/
  | updAbort (r : Req)
  /-- UPD_FLASH (R518): Returns flash area records. -/
  | updFlash (r : Req)
  /-- UPD_CHAIN (R519): Writes or reads the update chain successor. -/
  | updChain (r : Req)
  /-- UPD_ACTIVATE (R521): Starts activation of the staged image. -/
  | updActivate (r : Req)
  /-- IMAGE_VERIFY_COMPLETE (R522): The signature verification of the staged image completes. -/
  | imageVerifyComplete (ok : Bool)
  /-- IMAGE_DECRYPT_COMPLETE (R522): The SP image and microcode are decrypted into standby memories. -/
  | imageDecryptComplete (ok : Bool)
  /-- BLOB_CHECK_COMPLETE (R522): The new image checks BLOB_VER against the running image's blob. -/
  | blobCheckComplete
  /-- SP_HANDOVER (R523): At tick H the old image writes its state blob and the new image takes over. -/
  | spHandover (us : Nat)
  /-- ROLLING_SLOT_MOVE (R523): One slot moves to a spare pair loaded with the new microcode. -/
  | rollingSlotMove (slot : Nat)
  /-- ROLL_END (R523): The rolling handover ends, the response is sent and event 464 is raised. -/
  | rollEnd
  /-- UPD_CONFIRM (R525): Burns anti-rollback steps and sets CONFIRMED. -/
  | updConfirm (r : Req)
  /-- UPD_STATE (R526): Returns update state. -/
  | updState (r : Req)
  /-- UPD_KEY (R513): Checks and commits a new key set. -/
  | updKey (r : Req)
  /-- BACKGROUND_ERASE_COMPLETE (R502): A sector erase completes, its count is written and the erase is checked. -/
  | backgroundEraseComplete (dev sector : Nat) (ok : Bool)
  /-- JOURNAL_COMPACTION (R506): A journal copy is compacted into erased sectors. -/
  | journalCompaction (prot : Bool) (copy : Nat) (sectors : List Nat)
  /-- DIAG_WHEEL_SUMMARY (R203): Returns the timer wheel summary. -/
  | diagWheelSummary (r : Req)
  /-- DIAG_WHEEL_READ (R203): Returns timer records. -/
  | diagWheelRead (r : Req)
  /-- DIAG_TONGS (R493): Returns words read through the tongs. -/
  | diagTongs (r : Req)
  /-- DIAG_DEBUG (R491): Writes or reads the debug port level. -/
  | diagDebug (r : Req)
  /-- DIAG_SHADOW (R496): Starts or stops a shadow run on a pair in SERVICE. -/
  | diagShadow (r : Req)
  /-- DIAG_HALT (R497): Halts a pair at the next boundary. -/
  | diagHalt (r : Req)
  /-- DIAG_STEP (R497): Steps a halted pair by one instruction or element. -/
  | diagStep (r : Req)
  /-- DIAG_RESUME (R497): Resumes a halted pair. -/
  | diagResume (r : Req)
  /-- DIAG_BREAKPOINT (R497): Sets or clears a breakpoint on a pair. -/
  | diagBreakpoint (r : Req)
  /-- DIAG_CTX (R494): Returns a task's committed context. -/
  | diagCtx (r : Req)
  /-- DIAG_ROUTE (R544): Writes or reads event-source routing. -/
  | diagRoute (r : Req)
  /-- ROUTE_EFFECT (R544): At S new event routes apply. -/
  | routeEffect
  /-- DIAG_FAULTS (R541): Returns the fault summary. -/
  | diagFaults (r : Req)
  /-- CTL_SELECT (R442): Enters a selection of a control object into arbitration. -/
  | ctlSelect (r : Req)
  /-- CTL_OPERATE (R442): Enters an operate of a control object into arbitration. -/
  | ctlOperate (r : Req)
  /-- CTL_CANCEL (R442): Releases the client's selection. -/
  | ctlCancel (r : Req)
  /-- CTL_READ (R442): Returns control object records. -/
  | ctlRead (r : Req)
  /-- CONTROL_ARBITRATION (R443): At tick E+1 the orders of epoch E on each object are ranked and the winner meets
  the object state. -/
  | controlArbitration
  /-- SELECTION_LAPSE (R442): A selection reaches SEL_TMO and the object returns to IDLE. -/
  | selectionLapse (slot i : Nat)
  /-- CONTROL_ANSWER_TIMEOUT (R442): No committed answer within ANS_TMO answers NO_ANSWER and raises event 435. -/
  | controlAnswerTimeout (slot i : Nat)
  /-- MEMORY_SCRUB_ERROR (R533): Scrubbing or access finds a corrected or uncorrectable error in a memory. -/
  | memoryScrubError (h : MemHit) (corrected : Bool)
  /-- ROW_MARCH_TEST_COMPLETE (R534): The march test of a row ends, restoring the row or leaving it remapped. -/
  | rowMarchTestComplete (mem row : Nat) (ok : Bool)
  /-- DESCRIPTOR_REPAIR (R534): The SP rewrites a failing active descriptor from the protection journal. -/
  | descriptorRepair (i : Nat)
  /-- TIMER_MEMORY_ERROR (R535): An uncorrectable timer state word makes the timer idle. -/
  | timerMemoryError (n row : Nat)
  /-- SLOT_STORE_ERROR (R536): An uncorrectable slot store error reloads the image or makes the slot FAULTED. -/
  | slotStoreError (slot row : Nat) (image : Bool)
  /-- LPDDR_ERROR (R537): An uncorrectable LPDDR4X word is handled by its consumer. -/
  | lpddrError (u : LpddrUse)
  /-- MICROCODE_RELOAD_COMPLETE (R537): The microcode store is reloaded from the running image slot after an
  uncorrectable error. -/
  | microcodeReloadComplete
  /-- SP_WATCHDOG_EXPIRY (R539): No SP write for 10 ms, or an SP memory error, starts an SP restart. -/
  | spWatchdogExpiry
  /-- SP_RESTART_COMPLETE (R539): The SP restart ends, rings are reset and event 499 is raised. -/
  | spRestartComplete
  /-- DIE_OVERTEMP (R546): The logic die temperature crosses its threshold and event 479 is raised. -/
  | dieOvertemp
  /-- FLASH_PROGRAM_COMPLETE (R499): A flash page program completes within 1 ms and is read back, after which the
  waiting journal append, backstop copy, key write or record write proceeds or is answered. -/
  | flashProgramComplete (res : FlashRes)
  /-- FUSE_STEP_BURNED (R525): One anti-rollback fuse step finishes burning within 10 ms, F grows by 1, and the next
  step or the CONFIRMED boot word follows. -/
  | fuseStepBurned
  /-- FRAME_TRANSMISSION_END (R363): A port finishes sending a frame and, after the interframe gap, starts the next
  frame from the forwarding buffer or the highest non-empty queue, counting NET_SLIP where due. -/
  | frameTransmissionEnd (p : Nat)
  /-- RING_RESET_COMPLETE (R436): A ring reset in progress ends within 1 ms: all four offsets are 0 and RST_BUSY
  clears. -/
  | ringResetComplete (c : Nat)
  /-- OVERTEMP_CLEAR (R326): A channel junction falls below 140 °C and OVERTEMP clears, changing FAULT[j]. -/
  | overtempClear (j : Nat)
  /-- BACKFEED_CLEAR (R326): An output's readback has been OFF for 1 ms, so BACKFEED clears and the event 264 + j
  condition ends with its duration. -/
  | backfeedClear (j : Nat)
deriving DecidableEq, Repr

end Sys2Proof
end

