-- ==== Sys2Proof/Decode.lean ====
section
/-! DEFINITION. The command words of the table, and the words that the manual does give for commands: the encoding of the
Fjoask instructions (R248, R249, R252 to R274). No row of the command table has a bit pattern, since commands come to the
block as requests, register accesses, frames, levels and the ends of its own timed processes. -/

namespace Sys2Proof
open Sys2Proof.Machine

/-- The command that a word of the table's bits spells: none, since no row has bits. DESIGN CHOICE (log 114). -/
def decodeTableWord (_nbits _w : Nat) : Option Instr := none

/-! ### Operand forms (R248) -/

/-- Bytes of a multi-byte operand, lowest first. -/
def le16 (v : BitVec 16) : List Byte := [v.extractLsb' 0 8, v.extractLsb' 8 8]
def le24 (v : BitVec 24) : List Byte := [v.extractLsb' 0 8, v.extractLsb' 8 8, v.extractLsb' 16 8]
def le32 (v : BitVec 32) : List Byte := [v.extractLsb' 0 8, v.extractLsb' 8 8, v.extractLsb' 16 8, v.extractLsb' 24 8]

/-- Take an operand off the bytes, and go on with the rest. -/
def take8 {β : Type} (l : List Byte) (k : Byte → List Byte → Option β) : Option β :=
  match l with | x :: r => k x r | [] => none
def take16 {β : Type} (l : List Byte) (k : BitVec 16 → List Byte → Option β) : Option β :=
  match l with | x :: y :: r => k (y ++ x) r | _ => none
def take24 {β : Type} (l : List Byte) (k : BitVec 24 → List Byte → Option β) : Option β :=
  match l with | x :: y :: z :: r => k (z ++ (y ++ x)) r | _ => none
def take32 {β : Type} (l : List Byte) (k : BitVec 32 → List Byte → Option β) : Option β :=
  match l with | x :: y :: z :: w :: r => k (w ++ (z ++ (y ++ x))) r | _ => none

/-! ### Decoding -/

/-- Page 0xF0: phasors and functions (R272). -/
def fjPageF0 (slot op : Nat) (r : List Byte) : Option (Instr × List Byte) :=
  match op with
  | 0x00 => take8 r fun a t => take8 t fun b t => take8 t fun c t => some (.fjPmake slot a b c, t)
  | 0x01 => take8 r fun a t => take8 t fun b t => take8 t fun c t => some (.fjPpol slot a b c, t)
  | 0x02 => take8 r fun a t => take8 t fun b t => some (.fjPre slot a b, t)
  | 0x03 => take8 r fun a t => take8 t fun b t => some (.fjPim slot a b, t)
  | 0x04 => take8 r fun a t => take8 t fun b t => some (.fjPmag slot a b, t)
  | 0x05 => take8 r fun a t => take8 t fun b t => some (.fjPang slot a b, t)
  | 0x06 => take8 r fun a t => take8 t fun b t => take8 t fun c t => some (.fjPadd slot a b c, t)
  | 0x07 => take8 r fun a t => take8 t fun b t => take8 t fun c t => some (.fjPsub slot a b c, t)
  | 0x08 => take8 r fun a t => take8 t fun b t => take8 t fun c t => some (.fjPmul slot a b c, t)
  | 0x09 => take8 r fun a t => take8 t fun b t => take8 t fun c t => some (.fjPdiv slot a b c, t)
  | 0x0A => take8 r fun a t => take8 t fun b t => some (.fjPconj slot a b, t)
  | 0x0B => take8 r fun a t => take8 t fun b t => take8 t fun c t => some (.fjPscl slot a b c, t)
  | 0x0C => take8 r fun a t => take8 t fun b t => take8 t fun c t => some (.fjProt slot a b c, t)
  | 0x0D => take8 r fun a t => take8 t fun b t => take8 t fun c t => take8 t fun d t => take8 t fun e t => some (.fjPseq slot a b c d e, t)
  | 0x10 => take8 r fun a t => take8 t fun b t => some (.fjFln slot a b, t)
  | 0x11 => take8 r fun a t => take8 t fun b t => some (.fjFexp slot a b, t)
  | 0x12 => take8 r fun a t => take8 t fun b t => take8 t fun c t => some (.fjFpow slot a b c, t)
  | _ => none

/-- Page 0xF1: task control, field, control objects and events (R274). -/
def fjPageF1 (slot op : Nat) (r : List Byte) : Option (Instr × List Byte) :=
  match op with
  | 0x00 => take8 r fun a t => some (.fjFlgrd slot a, t)
  | 0x01 => take8 r fun a t => some (.fjFlgclr slot a, t)
  | 0x02 => take8 r fun a t => some (.fjTena slot a, t)
  | 0x03 => take8 r fun a t => some (.fjTdis slot a, t)
  | 0x04 => take8 r fun a t => some (.fjTkick slot a, t)
  | 0x05 => take8 r fun a t => take8 t fun b t => take8 t fun c t => some (.fjFrec slot a b c, t)
  | 0x06 => take8 r fun a t => take8 t fun b t => take8 t fun c t => some (.fjFcrd slot a b c, t)
  | 0x07 => take8 r fun a t => take8 t fun b t => some (.fjFcset slot a b, t)
  | 0x08 => take8 r fun a t => some (.fjFcclr slot a, t)
  | 0x09 => take8 r fun a t => take8 t fun b t => take8 t fun c t => some (.fjCtlrd slot a b c, t)
  | 0x0A => take8 r fun a t => take8 t fun b t => some (.fjCtlack slot a b, t)
  | 0x0B => take8 r fun a t => take8 t fun b t => take8 t fun c t => some (.fjCtlop slot a b c, t)
  | 0x0C => take8 r fun a t => take8 t fun b t => some (.fjEvt slot a b, t)
  | _ => none

/-- The primary opcodes and the escapes (R249, R252 to R264). -/
def fjPrimary (slot op : Nat) (r : List Byte) : Option (Instr × List Byte) :=
  match op with
  | 0x00 => some (.fjNop slot, r)
  | 0x01 => some (.fjEnd slot, r)
  | 0x02 => take8 r fun a t => some (.fjTrap slot a, t)
  | 0x03 => some (.fjLock slot, r)
  | 0x04 => some (.fjUnlock slot, r)
  | 0x05 => take24 r fun a t => some (.fjCall slot a, t)
  | 0x06 => some (.fjRet slot, r)
  | 0x07 => take16 r fun a t => some (.fjJmp slot a, t)
  | 0x08 => take8 r fun a t => take16 t fun b t => some (.fjJt slot a b, t)
  | 0x09 => take8 r fun a t => take16 t fun b t => some (.fjJf slot a b, t)
  | 0x0A => take8 r fun a t => take16 t fun b t => some (.fjDjnz slot a b, t)
  | 0x10 => take8 r fun a t => take16 t fun b t => some (.fjLd slot a b, t)
  | 0x11 => take8 r fun a t => take16 t fun b t => some (.fjLd2 slot a b, t)
  | 0x12 => take16 r fun a t => take8 t fun b t => some (.fjSt slot a b, t)
  | 0x13 => take16 r fun a t => take8 t fun b t => some (.fjSt2 slot a b, t)
  | 0x14 => take8 r fun a t => take16 t fun b t => take8 t fun c t => some (.fjLdx slot a b c, t)
  | 0x15 => take16 r fun a t => take8 t fun b t => take8 t fun c t => some (.fjStx slot a b c, t)
  | 0x16 => take8 r fun a t => take16 t fun b t => take8 t fun c t => some (.fjLdb slot a b c, t)
  | 0x17 => take16 r fun a t => take8 t fun b t => take8 t fun c t => some (.fjStb slot a b c, t)
  | 0x18 => take8 r fun a t => take8 t fun b t => some (.fjMov slot a b, t)
  | 0x19 => take8 r fun a t => take32 t fun b t => some (.fjLdk slot a b, t)
  | 0x1A => take8 r fun a t => take8 t fun b t => some (.fjLdk8 slot a b, t)
  | 0x1B => take8 r fun a t => take32 t fun b t => some (.fjLdkh slot a b, t)
  | 0x20 => take8 r fun a t => take8 t fun b t => take8 t fun c t => some (.fjAdd slot a b c, t)
  | 0x21 => take8 r fun a t => take8 t fun b t => take8 t fun c t => some (.fjSub slot a b c, t)
  | 0x22 => take8 r fun a t => take8 t fun b t => take8 t fun c t => some (.fjMul slot a b c, t)
  | 0x23 => take8 r fun a t => take8 t fun b t => take8 t fun c t => some (.fjDiv slot a b c, t)
  | 0x24 => take8 r fun a t => take8 t fun b t => take8 t fun c t => some (.fjRem slot a b c, t)
  | 0x25 => take8 r fun a t => take8 t fun b t => some (.fjNeg slot a b, t)
  | 0x26 => take8 r fun a t => take8 t fun b t => some (.fjAbs slot a b, t)
  | 0x27 => take8 r fun a t => take8 t fun b t => take8 t fun c t => some (.fjMin slot a b c, t)
  | 0x28 => take8 r fun a t => take8 t fun b t => take8 t fun c t => some (.fjMax slot a b c, t)
  | 0x29 => take8 r fun a t => take8 t fun b t => take8 t fun c t => some (.fjAnd slot a b c, t)
  | 0x2A => take8 r fun a t => take8 t fun b t => take8 t fun c t => some (.fjOr slot a b c, t)
  | 0x2B => take8 r fun a t => take8 t fun b t => take8 t fun c t => some (.fjXor slot a b c, t)
  | 0x2C => take8 r fun a t => take8 t fun b t => some (.fjNot slot a b, t)
  | 0x2D => take8 r fun a t => take8 t fun b t => take8 t fun c t => some (.fjShl slot a b c, t)
  | 0x2E => take8 r fun a t => take8 t fun b t => take8 t fun c t => some (.fjShr slot a b c, t)
  | 0x2F => take8 r fun a t => take8 t fun b t => take8 t fun c t => some (.fjAddk slot a b c, t)
  | 0x30 => take8 r fun a t => take8 t fun b t => take8 t fun c t => some (.fjFadd slot a b c, t)
  | 0x31 => take8 r fun a t => take8 t fun b t => take8 t fun c t => some (.fjFsub slot a b c, t)
  | 0x32 => take8 r fun a t => take8 t fun b t => take8 t fun c t => some (.fjFmul slot a b c, t)
  | 0x33 => take8 r fun a t => take8 t fun b t => take8 t fun c t => some (.fjFdiv slot a b c, t)
  | 0x34 => take8 r fun a t => take8 t fun b t => take8 t fun c t => take8 t fun d t => some (.fjFma slot a b c d, t)
  | 0x35 => take8 r fun a t => take8 t fun b t => some (.fjFsqrt slot a b, t)
  | 0x36 => take8 r fun a t => take8 t fun b t => some (.fjFneg slot a b, t)
  | 0x37 => take8 r fun a t => take8 t fun b t => some (.fjFabs slot a b, t)
  | 0x38 => take8 r fun a t => take8 t fun b t => take8 t fun c t => some (.fjFmin slot a b c, t)
  | 0x39 => take8 r fun a t => take8 t fun b t => take8 t fun c t => some (.fjFmax slot a b c, t)
  | 0x3A => take8 r fun a t => take8 t fun b t => some (.fjFrnd slot a b, t)
  | 0x3B => take8 r fun a t => take8 t fun b t => some (.fjCvt slot a b, t)
  | 0x40 => take8 r fun a t => take8 t fun b t => take8 t fun c t => take8 t fun d t => some (.fjCmp slot a b c d, t)
  | 0x41 => take8 r fun a t => take8 t fun b t => take8 t fun c t => some (.fjBand slot a b c, t)
  | 0x42 => take8 r fun a t => take8 t fun b t => take8 t fun c t => some (.fjBor slot a b c, t)
  | 0x43 => take8 r fun a t => take8 t fun b t => take8 t fun c t => some (.fjBxor slot a b c, t)
  | 0x44 => take8 r fun a t => take8 t fun b t => some (.fjBnot slot a b, t)
  | 0x45 => take8 r fun a t => take8 t fun b t => take8 t fun c t => take8 t fun d t => some (.fjSel slot a b c d, t)
  | 0x46 => take8 r fun a t => take8 t fun b t => take8 t fun c t => take8 t fun d t => some (.fjLim slot a b c d, t)
  | 0x47 => take8 r fun a t => take8 t fun b t => take16 t fun c t => some (.fjTstq slot a b c, t)
  | 0x48 => take8 r fun a t => take8 t fun b t => take8 t fun c t => some (.fjEdgr slot a b c, t)
  | 0x49 => take8 r fun a t => take8 t fun b t => take8 t fun c t => some (.fjEdgf slot a b c, t)
  | 0x4A => take8 r fun a t => take8 t fun b t => take8 t fun c t => some (.fjEdgb slot a b c, t)
  | 0x4B => take8 r fun a t => take8 t fun b t => take8 t fun c t => some (.fjSr slot a b c, t)
  | 0x4C => take8 r fun a t => take8 t fun b t => take8 t fun c t => some (.fjRs slot a b c, t)
  | 0x50 => take16 r fun a t => take8 t fun b t => some (.fjTstart slot a b, t)
  | 0x51 => take16 r fun a t => take8 t fun b t => some (.fjTstartp slot a b, t)
  | 0x52 => take16 r fun a t => some (.fjTstartw slot a, t)
  | 0x53 => take16 r fun a t => some (.fjTcancel slot a, t)
  | 0x54 => take16 r fun a t => take8 t fun b t => some (.fjTpause slot a b, t)
  | 0x55 => take16 r fun a t => some (.fjTresume slot a, t)
  | 0x56 => take8 r fun a t => take16 t fun b t => take8 t fun c t => some (.fjTread slot a b c, t)
  | 0x57 => take8 r fun a t => take16 t fun b t => take8 t fun c t => take8 t fun d t => some (.fjTon slot a b c d, t)
  | 0x58 => take8 r fun a t => some (.fjTnow slot a, t)
  | 0x59 => take8 r fun a t => some (.fjWnow slot a, t)
  | 0x60 => take8 r fun a t => take8 t fun b t => take8 t fun c t => some (.fjCtu slot a b c, t)
  | 0x61 => take8 r fun a t => take8 t fun b t => take8 t fun c t => some (.fjCtd slot a b c, t)
  | 0x70 => take8 r fun a t => take16 t fun b t => take16 t fun c t => take16 t fun d t => some (.fjGath slot a b c d, t)
  | 0x71 => take16 r fun a t => take16 t fun b t => take16 t fun c t => some (.fjScat slot a b c, t)
  | 0x72 => take16 r fun a t => take16 t fun b t => take8 t fun c t => some (.fjBmov slot a b c, t)
  | 0x73 => take16 r fun a t => take16 t fun b t => take16 t fun c t => take8 t fun d t => some (.fjCurv slot a b c d, t)
  | 0x74 => take8 r fun a t => take16 t fun b t => take8 t fun c t => some (.fjSumv slot a b c, t)
  | 0xF0 => take8 r fun a t => fjPageF0 slot a.toNat t
  | 0xF1 => take8 r fun a t => fjPageF1 slot a.toNat t
  | _ => none

/-- The instruction at the front of code bytes, as a command for the slot that runs them, with the bytes that follow. None
where the opcode is undefined or the bytes end before the instruction does: both are faults of R250, which ILLEGAL_OPCODE and
the fetch raise. DESIGN CHOICE (log 26). -/
def fjDecode (slot : Nat) (l : List Byte) : Option (Instr × List Byte) := take8 l fun a t => fjPrimary slot a.toNat t

/-! ### Encoding -/

/-- The code bytes of an Fjoask instruction; none for every other command. -/
def fjEncode (i : Instr) : Option (List Byte) :=
  match i with
  | .fjNop _ => some [0x00]
  | .fjEnd _ => some [0x01]
  | .fjTrap _ a => some ([0x02] ++ [a])
  | .fjLock _ => some [0x03]
  | .fjUnlock _ => some [0x04]
  | .fjCall _ a => some ([0x05] ++ le24 a)
  | .fjRet _ => some [0x06]
  | .fjJmp _ a => some ([0x07] ++ le16 a)
  | .fjJt _ a b => some ([0x08] ++ [a] ++ le16 b)
  | .fjJf _ a b => some ([0x09] ++ [a] ++ le16 b)
  | .fjDjnz _ a b => some ([0x0A] ++ [a] ++ le16 b)
  | .fjLd _ a b => some ([0x10] ++ [a] ++ le16 b)
  | .fjLd2 _ a b => some ([0x11] ++ [a] ++ le16 b)
  | .fjSt _ a b => some ([0x12] ++ le16 a ++ [b])
  | .fjSt2 _ a b => some ([0x13] ++ le16 a ++ [b])
  | .fjLdx _ a b c => some ([0x14] ++ [a] ++ le16 b ++ [c])
  | .fjStx _ a b c => some ([0x15] ++ le16 a ++ [b] ++ [c])
  | .fjLdb _ a b c => some ([0x16] ++ [a] ++ le16 b ++ [c])
  | .fjStb _ a b c => some ([0x17] ++ le16 a ++ [b] ++ [c])
  | .fjMov _ a b => some ([0x18] ++ [a] ++ [b])
  | .fjLdk _ a b => some ([0x19] ++ [a] ++ le32 b)
  | .fjLdk8 _ a b => some ([0x1A] ++ [a] ++ [b])
  | .fjLdkh _ a b => some ([0x1B] ++ [a] ++ le32 b)
  | .fjAdd _ a b c => some ([0x20] ++ [a] ++ [b] ++ [c])
  | .fjSub _ a b c => some ([0x21] ++ [a] ++ [b] ++ [c])
  | .fjMul _ a b c => some ([0x22] ++ [a] ++ [b] ++ [c])
  | .fjDiv _ a b c => some ([0x23] ++ [a] ++ [b] ++ [c])
  | .fjRem _ a b c => some ([0x24] ++ [a] ++ [b] ++ [c])
  | .fjNeg _ a b => some ([0x25] ++ [a] ++ [b])
  | .fjAbs _ a b => some ([0x26] ++ [a] ++ [b])
  | .fjMin _ a b c => some ([0x27] ++ [a] ++ [b] ++ [c])
  | .fjMax _ a b c => some ([0x28] ++ [a] ++ [b] ++ [c])
  | .fjAnd _ a b c => some ([0x29] ++ [a] ++ [b] ++ [c])
  | .fjOr _ a b c => some ([0x2A] ++ [a] ++ [b] ++ [c])
  | .fjXor _ a b c => some ([0x2B] ++ [a] ++ [b] ++ [c])
  | .fjNot _ a b => some ([0x2C] ++ [a] ++ [b])
  | .fjShl _ a b c => some ([0x2D] ++ [a] ++ [b] ++ [c])
  | .fjShr _ a b c => some ([0x2E] ++ [a] ++ [b] ++ [c])
  | .fjAddk _ a b c => some ([0x2F] ++ [a] ++ [b] ++ [c])
  | .fjFadd _ a b c => some ([0x30] ++ [a] ++ [b] ++ [c])
  | .fjFsub _ a b c => some ([0x31] ++ [a] ++ [b] ++ [c])
  | .fjFmul _ a b c => some ([0x32] ++ [a] ++ [b] ++ [c])
  | .fjFdiv _ a b c => some ([0x33] ++ [a] ++ [b] ++ [c])
  | .fjFma _ a b c d => some ([0x34] ++ [a] ++ [b] ++ [c] ++ [d])
  | .fjFsqrt _ a b => some ([0x35] ++ [a] ++ [b])
  | .fjFneg _ a b => some ([0x36] ++ [a] ++ [b])
  | .fjFabs _ a b => some ([0x37] ++ [a] ++ [b])
  | .fjFmin _ a b c => some ([0x38] ++ [a] ++ [b] ++ [c])
  | .fjFmax _ a b c => some ([0x39] ++ [a] ++ [b] ++ [c])
  | .fjFrnd _ a b => some ([0x3A] ++ [a] ++ [b])
  | .fjCvt _ a b => some ([0x3B] ++ [a] ++ [b])
  | .fjCmp _ a b c d => some ([0x40] ++ [a] ++ [b] ++ [c] ++ [d])
  | .fjBand _ a b c => some ([0x41] ++ [a] ++ [b] ++ [c])
  | .fjBor _ a b c => some ([0x42] ++ [a] ++ [b] ++ [c])
  | .fjBxor _ a b c => some ([0x43] ++ [a] ++ [b] ++ [c])
  | .fjBnot _ a b => some ([0x44] ++ [a] ++ [b])
  | .fjSel _ a b c d => some ([0x45] ++ [a] ++ [b] ++ [c] ++ [d])
  | .fjLim _ a b c d => some ([0x46] ++ [a] ++ [b] ++ [c] ++ [d])
  | .fjTstq _ a b c => some ([0x47] ++ [a] ++ [b] ++ le16 c)
  | .fjEdgr _ a b c => some ([0x48] ++ [a] ++ [b] ++ [c])
  | .fjEdgf _ a b c => some ([0x49] ++ [a] ++ [b] ++ [c])
  | .fjEdgb _ a b c => some ([0x4A] ++ [a] ++ [b] ++ [c])
  | .fjSr _ a b c => some ([0x4B] ++ [a] ++ [b] ++ [c])
  | .fjRs _ a b c => some ([0x4C] ++ [a] ++ [b] ++ [c])
  | .fjTstart _ a b => some ([0x50] ++ le16 a ++ [b])
  | .fjTstartp _ a b => some ([0x51] ++ le16 a ++ [b])
  | .fjTstartw _ a => some ([0x52] ++ le16 a)
  | .fjTcancel _ a => some ([0x53] ++ le16 a)
  | .fjTpause _ a b => some ([0x54] ++ le16 a ++ [b])
  | .fjTresume _ a => some ([0x55] ++ le16 a)
  | .fjTread _ a b c => some ([0x56] ++ [a] ++ le16 b ++ [c])
  | .fjTon _ a b c d => some ([0x57] ++ [a] ++ le16 b ++ [c] ++ [d])
  | .fjTnow _ a => some ([0x58] ++ [a])
  | .fjWnow _ a => some ([0x59] ++ [a])
  | .fjCtu _ a b c => some ([0x60] ++ [a] ++ [b] ++ [c])
  | .fjCtd _ a b c => some ([0x61] ++ [a] ++ [b] ++ [c])
  | .fjGath _ a b c d => some ([0x70] ++ [a] ++ le16 b ++ le16 c ++ le16 d)
  | .fjScat _ a b c => some ([0x71] ++ le16 a ++ le16 b ++ le16 c)
  | .fjBmov _ a b c => some ([0x72] ++ le16 a ++ le16 b ++ [c])
  | .fjCurv _ a b c d => some ([0x73] ++ le16 a ++ le16 b ++ le16 c ++ [d])
  | .fjSumv _ a b c => some ([0x74] ++ [a] ++ le16 b ++ [c])
  | .fjPmake _ a b c => some ([0xF0, 0x00] ++ [a] ++ [b] ++ [c])
  | .fjPpol _ a b c => some ([0xF0, 0x01] ++ [a] ++ [b] ++ [c])
  | .fjPre _ a b => some ([0xF0, 0x02] ++ [a] ++ [b])
  | .fjPim _ a b => some ([0xF0, 0x03] ++ [a] ++ [b])
  | .fjPmag _ a b => some ([0xF0, 0x04] ++ [a] ++ [b])
  | .fjPang _ a b => some ([0xF0, 0x05] ++ [a] ++ [b])
  | .fjPadd _ a b c => some ([0xF0, 0x06] ++ [a] ++ [b] ++ [c])
  | .fjPsub _ a b c => some ([0xF0, 0x07] ++ [a] ++ [b] ++ [c])
  | .fjPmul _ a b c => some ([0xF0, 0x08] ++ [a] ++ [b] ++ [c])
  | .fjPdiv _ a b c => some ([0xF0, 0x09] ++ [a] ++ [b] ++ [c])
  | .fjPconj _ a b => some ([0xF0, 0x0A] ++ [a] ++ [b])
  | .fjPscl _ a b c => some ([0xF0, 0x0B] ++ [a] ++ [b] ++ [c])
  | .fjProt _ a b c => some ([0xF0, 0x0C] ++ [a] ++ [b] ++ [c])
  | .fjPseq _ a b c d e => some ([0xF0, 0x0D] ++ [a] ++ [b] ++ [c] ++ [d] ++ [e])
  | .fjFln _ a b => some ([0xF0, 0x10] ++ [a] ++ [b])
  | .fjFexp _ a b => some ([0xF0, 0x11] ++ [a] ++ [b])
  | .fjFpow _ a b c => some ([0xF0, 0x12] ++ [a] ++ [b] ++ [c])
  | .fjFlgrd _ a => some ([0xF1, 0x00] ++ [a])
  | .fjFlgclr _ a => some ([0xF1, 0x01] ++ [a])
  | .fjTena _ a => some ([0xF1, 0x02] ++ [a])
  | .fjTdis _ a => some ([0xF1, 0x03] ++ [a])
  | .fjTkick _ a => some ([0xF1, 0x04] ++ [a])
  | .fjFrec _ a b c => some ([0xF1, 0x05] ++ [a] ++ [b] ++ [c])
  | .fjFcrd _ a b c => some ([0xF1, 0x06] ++ [a] ++ [b] ++ [c])
  | .fjFcset _ a b => some ([0xF1, 0x07] ++ [a] ++ [b])
  | .fjFcclr _ a => some ([0xF1, 0x08] ++ [a])
  | .fjCtlrd _ a b c => some ([0xF1, 0x09] ++ [a] ++ [b] ++ [c])
  | .fjCtlack _ a b => some ([0xF1, 0x0A] ++ [a] ++ [b])
  | .fjCtlop _ a b c => some ([0xF1, 0x0B] ++ [a] ++ [b] ++ [c])
  | .fjEvt _ a b => some ([0xF1, 0x0C] ++ [a] ++ [b])
  | _ => none

/-- The slot or shadow run an Fjoask instruction runs on. -/
def fjSlot (i : Instr) : Option Nat :=
  match i with
  | .fjNop s => some s
  | .fjEnd s => some s
  | .fjTrap s _ => some s
  | .fjLock s => some s
  | .fjUnlock s => some s
  | .fjCall s _ => some s
  | .fjRet s => some s
  | .fjJmp s _ => some s
  | .fjJt s _ _ => some s
  | .fjJf s _ _ => some s
  | .fjDjnz s _ _ => some s
  | .fjLd s _ _ => some s
  | .fjLd2 s _ _ => some s
  | .fjSt s _ _ => some s
  | .fjSt2 s _ _ => some s
  | .fjLdx s _ _ _ => some s
  | .fjStx s _ _ _ => some s
  | .fjLdb s _ _ _ => some s
  | .fjStb s _ _ _ => some s
  | .fjMov s _ _ => some s
  | .fjLdk s _ _ => some s
  | .fjLdk8 s _ _ => some s
  | .fjLdkh s _ _ => some s
  | .fjAdd s _ _ _ => some s
  | .fjSub s _ _ _ => some s
  | .fjMul s _ _ _ => some s
  | .fjDiv s _ _ _ => some s
  | .fjRem s _ _ _ => some s
  | .fjNeg s _ _ => some s
  | .fjAbs s _ _ => some s
  | .fjMin s _ _ _ => some s
  | .fjMax s _ _ _ => some s
  | .fjAnd s _ _ _ => some s
  | .fjOr s _ _ _ => some s
  | .fjXor s _ _ _ => some s
  | .fjNot s _ _ => some s
  | .fjShl s _ _ _ => some s
  | .fjShr s _ _ _ => some s
  | .fjAddk s _ _ _ => some s
  | .fjFadd s _ _ _ => some s
  | .fjFsub s _ _ _ => some s
  | .fjFmul s _ _ _ => some s
  | .fjFdiv s _ _ _ => some s
  | .fjFma s _ _ _ _ => some s
  | .fjFsqrt s _ _ => some s
  | .fjFneg s _ _ => some s
  | .fjFabs s _ _ => some s
  | .fjFmin s _ _ _ => some s
  | .fjFmax s _ _ _ => some s
  | .fjFrnd s _ _ => some s
  | .fjCvt s _ _ => some s
  | .fjCmp s _ _ _ _ => some s
  | .fjBand s _ _ _ => some s
  | .fjBor s _ _ _ => some s
  | .fjBxor s _ _ _ => some s
  | .fjBnot s _ _ => some s
  | .fjSel s _ _ _ _ => some s
  | .fjLim s _ _ _ _ => some s
  | .fjTstq s _ _ _ => some s
  | .fjEdgr s _ _ _ => some s
  | .fjEdgf s _ _ _ => some s
  | .fjEdgb s _ _ _ => some s
  | .fjSr s _ _ _ => some s
  | .fjRs s _ _ _ => some s
  | .fjTstart s _ _ => some s
  | .fjTstartp s _ _ => some s
  | .fjTstartw s _ => some s
  | .fjTcancel s _ => some s
  | .fjTpause s _ _ => some s
  | .fjTresume s _ => some s
  | .fjTread s _ _ _ => some s
  | .fjTon s _ _ _ _ => some s
  | .fjTnow s _ => some s
  | .fjWnow s _ => some s
  | .fjCtu s _ _ _ => some s
  | .fjCtd s _ _ _ => some s
  | .fjGath s _ _ _ _ => some s
  | .fjScat s _ _ _ => some s
  | .fjBmov s _ _ _ => some s
  | .fjCurv s _ _ _ _ => some s
  | .fjSumv s _ _ _ => some s
  | .fjPmake s _ _ _ => some s
  | .fjPpol s _ _ _ => some s
  | .fjPre s _ _ => some s
  | .fjPim s _ _ => some s
  | .fjPmag s _ _ => some s
  | .fjPang s _ _ => some s
  | .fjPadd s _ _ _ => some s
  | .fjPsub s _ _ _ => some s
  | .fjPmul s _ _ _ => some s
  | .fjPdiv s _ _ _ => some s
  | .fjPconj s _ _ => some s
  | .fjPscl s _ _ _ => some s
  | .fjProt s _ _ _ => some s
  | .fjPseq s _ _ _ _ _ => some s
  | .fjFln s _ _ => some s
  | .fjFexp s _ _ => some s
  | .fjFpow s _ _ _ => some s
  | .fjFlgrd s _ => some s
  | .fjFlgclr s _ => some s
  | .fjTena s _ => some s
  | .fjTdis s _ => some s
  | .fjTkick s _ => some s
  | .fjFrec s _ _ _ => some s
  | .fjFcrd s _ _ _ => some s
  | .fjFcset s _ _ => some s
  | .fjFcclr s _ => some s
  | .fjCtlrd s _ _ _ => some s
  | .fjCtlack s _ _ => some s
  | .fjCtlop s _ _ _ => some s
  | .fjEvt s _ _ => some s
  | _ => none

end Sys2Proof
end

