-- ==== Sys2Proof/Config.lean ====
section
/-! DEFINITION. What an implementation of the ZW32 fixes and the manual does not number (fuse and ROM contents, the
factory image), and the free values: constants without a body, for every result the manual leaves open. -/

namespace Sys2Proof.Config
open Sys2Proof

/-- ORDER of SYS_ID, a fuse value: 1 ZW32-S, 2 ZW32-X (R429). -/
opaque order : BitVec 4
/-- HW_MINOR and HW_MAJOR of SYS_REV, fuse values (R429). -/
opaque hwMinor : Byte
opaque hwMajor : Byte
/-- The manufacturer code of the debug port's IDCODE: the mechanical data package gives it (R490). -/
opaque jtagMaker : BitVec 11
/-- The boot ROM revision (R429). -/
opaque romRev : Byte
/-- SERIAL of `sys.info` (R445). -/
opaque serial : DWord

/-- A fresh value each time it is asked, by a counter in State: what the manual leaves open and the machine goes on.
DESIGN CHOICE (log 9). -/
opaque freeWord : Nat → Word
opaque freeDWord : Nat → DWord

/-- The trimmed code of a conversion, by offset, gain error and raw code, where a trim other than zero is in force
(R88 states no formula). DESIGN CHOICE (log 10). -/
opaque trimCode : Int → Int → Int → BitVec 16
/-- The smoothing delay and the calibrated group delay of the analogue path, 2^−32 ns (R143). -/
opaque twDelay : Nat
/-- Which of the REAL32 within 1 ulp of the exact value a function of R273 delivers, by function number and operands. DESIGN CHOICE
(log 40). -/
opaque ulpPick : Nat → List Word → Nat
/-- How far an input's ON or OFF level lies from the table's figure, within its 5 % (R315). DESIGN CHOICE (log 21). -/
opaque diTol : Nat → Bool → Nat
/-- What CTLRD returns of an object that holds no order and no selection, by selector (R277 states no value).
DESIGN CHOICE (log 39). -/
opaque ctlIdle : Nat → Word

/-- The CFG and HDR sections and the section heads of a record's combined file (R481), from the record's entry, texts, channels,
triggers and segments: IEEE C37.111 gives their characters, the manual does not. DESIGN CHOICE (log 77). -/
opaque cffText : List Byte → List Byte

/-- The length of a protection-signal payload (R411) by control block, stNum, sqNum, TimeAllowedToLive and members: the encoding
of the GOOSE PDU is IEC 61850's, not the manual's. PRESUMED (log 60). -/
opaque signalLen : Nat → Nat → Nat → Nat → List (Word × Nat) → Nat

end Sys2Proof.Config
end

