-- ==== Sys2Proof/Machine/State.lean ====
section
/-! DEFINITION. The state of the engine: everything the manual gives the block, the queue of waiting commands, and the
state at reset. -/

namespace Sys2Proof.Machine
open Sys2Proof

/-- Why a command stops the model with a fault. The manual describes every failure of the engine as state (an event, a
status, a part held off), so no command faults; the type has the one reason a later extension could use.
DESIGN CHOICE (log 112). -/
inductive Fault where
  /-- An access to an address the manual says does not exist: raised by no command today, because R429 gives every
  unlisted offset a reading. Safe. -/
  | noSuchAddress
deriving DecidableEq, Repr

/-- Why the model refuses a command. DESIGN CHOICE (log 112). -/
inductive Refusal where
  /-- No meaning has been written for the command yet; raised by `exec` alone. Safe. -/
  | notModelled (mnemonic : String)
deriving DecidableEq, Repr

/-- The configuration and protection records in the flash journals: what a startup puts in force (R504 to R506). -/
structure Store where
  /-- the arm policy and ARM_DELAY record (R59). No command of the spec writes it: the model holds it as given in the store, and startup
  loads it. DESIGN CHOICE (log 135). -/
  armPolicy : Nat := 2
  armDelay  : Nat := 0
  /-- `sys.client`: authority and DISABLE of clients 1 to 127 -/
  auth      : Tab (Nat × Bool) := []
  hkInt     : Nat := 1000
  time      : TimeCfg := {}
  col       : Tab (Nat × Nat) := []
  routes    : Tab Nat := []
  inRecs    : Tab InRec := []
  p         : Nat := 40
  seqs      : Tab (List Nat) := []
  plaus     : Tab Plaus := []
  track     : TrackCfg := {}
  td        : TdCfg := {}
  io        : FldCfg := {}
  table     : TableBuf := {}
  images    : Tab (Option FjImg) := []
  stns      : Tab (Option StnDecl) := []
  subs      : Tab (Option SubDecl) := []
  pubs      : Tab (Option PubDecl) := []
  svs       : Tab (Option SvDecl) := []
  net       : NetCfg := {}
  fab       : FabCfg := {}
  sig       : Tab SigCfg := []
  tw        : Tab TwCfg := []
  access    : List AccRec := List.replicate 32 {}
  /-- pinned routes: table (0 zone, 1 node) × 256 + index -/
  pins      : Tab (Option Route) := []
  dist      : DistCfg := {}
  chain     : Bool × Nat := (false, 0)
  /-- GEN of each record identity, and the format under which the protection records of it were written last -/
  gens      : Tab Nat := []
  fmts      : Tab Nat := []
deriving DecidableEq, Repr

/-- What outlives a reset: flash, fuses, and the RESET_CAUSE latch (23, R38, R541). -/
structure NvSt where
  fuse     : Nat := 0
  imgA     : ImgSlot := { hdr := some {}, bootable := true }
  imgB     : ImgSlot := {}
  key0     : KeySlot := { kgen := some 0 }
  key1     : KeySlot := {}
  /-- the programmed words of the commit log; none for one left partly programmed (R512) -/
  log      : List (Option Word) := []
  /-- copies A and B of the backstop settings; the factory image until a commit replaces it (R212, R216) -/
  bsA      : Option (List Byte) := none
  bsB      : Option (List Byte) := none
  /-- the copy whose programming a reset cut off (0 A, 1 B), and whether power was lost before the S of a commit (R216) -/
  bsTorn   : Option Nat := none
  bsCut    : Bool := false
  /-- the newest entry of each record identity in journal copies 0 and 1 (R505, R506) -/
  jour0    : Tab (List Byte) := []
  jour1    : Tab (List Byte) := []
  sums     : Tab (Option SumRec) := []
  nextRseq : Nat := 0
  lifeA    : LifeCopy := {}
  lifeB    : LifeCopy := {}
  /-- SUPPRESSED counts still pending, which a reset does not clear (R456) -/
  supp     : Tab Nat := []
  pcycle   : Nat := 0
  /-- entries carried from a shutdown record that could not be written (R461) -/
  carry    : Option (Nat × Tab Tally) := none
  store    : Store := {}
  stg      : Staging := {}
  chain    : Chain := {}
  areas    : Tab Area := []
  spares   : Tab (List Nat) := []
  jobs     : List FJob := []
  resetCause : Nat := 0
deriving DecidableEq, Repr

/-- The block: all state but the queue of waiting commands. -/
structure Block where
  lands : Lands := {}
  nv    : NvSt := {}
  sys   : SysSt := {}
  time  : TimeSt := {}
  evr   : RecSt := {}
  mbx   : MbxSt := {}
  flt   : FltSt := {}
  cnv   : CnvSt := {}
  acc   : AccSt := {}
  bs    : BsSt := {}
  fside : FldSt := {}
  bar   : BarSt := {}
  wheel : WheelSt := {}
  elm   : ElmSt := {}
  lgc   : LgcSt := {}
  net   : NetSt := {}
  fab   : FabSt := {}
  dist  : DistSt := {}
  snap  : SnapSt := {}
  /-- the model's own counter of free values taken -/
  fresh : Nat := 0
deriving DecidableEq, Repr

/-- The machine: the block and the commands waiting for it, first in, first out. -/
structure State where
  blk     : Block := {}
  pending : List Instr := []
deriving DecidableEq, Repr

/-- The engine as manufactured, with PORST_N held low: logic side in reset, field side unpowered, factory flash.
DESIGN CHOICE (log 1, 2, 114). -/
def State.reset : State := {}

end Sys2Proof.Machine
end

