-- ==== Sys2Proof/Machine/Base.lean ====
section
/-! DEFINITION. The operations that everything shares: completing a command, time readings, raising an event, signalling a
vector, and counting a fault. -/

namespace Sys2Proof.Machine
open Sys2Proof

/-- A command completes with the block's new contents; the queue is not the command's to change. -/
def State.done (s : State) (b : Block) : Host.Outcome State Fault Refusal := .next { s with blk := b }

/-! ### Time readings -/

/-- 1 ns on the ELAPSED scale. -/
def nsE : Nat := 2 ^ 32
/-- 1 µs, 1 ms and 1 s on the ELAPSED scale. -/
def usE : Nat := 1000 * nsE
def msE : Nat := 1000 * usE
def secE : Nat := 1000 * msE

/-- ELAPSED in 2^−32 ns. -/
def Block.now (b : Block) : Nat := b.time.elapsed
/-- ELAPSED in whole ns, microseconds and milliseconds. -/
def Block.nowNs (b : Block) : Nat := b.time.elapsed / nsE
def Block.nowUs (b : Block) : Nat := b.time.elapsed / usE
def Block.nowMs (b : Block) : Nat := b.time.elapsed / msE

/-- The nominal instant of tick E, t_E, on the ELAPSED scale (R190). -/
def tickE (e : Nat) : Nat := e * 31250 * nsE

/-- ns64 of a counter reading (R346). -/
def ns64Of (sec ns : Nat) : Nat := (sec * 1000000000 + ns) % 2 ^ 64
/-- ns64 now. -/
def Block.ns64 (b : Block) : Nat := ns64Of b.time.sec b.time.ns
/-- The signed distance of R360, from `target` to `now`. -/
def dist64 (now target : Nat) : Int := toSigned 64 ((now + 2 ^ 64 - target % 2 ^ 64) % 2 ^ 64)

/-- A stamp of the present counter reading. -/
def Block.stamp (b : Block) : Stamp := { sec := b.time.sec, ns := b.time.ns, qual := b.time.tcQual }

/-- The stamp of a past instant on the ELAPSED scale, by the counter's present reading. -/
def Block.stampAt (b : Block) (inst : Nat) : Stamp :=
  let back := (b.now - inst) / nsE
  let t := b.time.sec * 1000000000 + b.time.ns
  let u := t - back
  { sec := u / 1000000000, ns := u % 1000000000, qual := b.time.tcQual }

/-- The 12 bytes of a stamp (R354). -/
def Stamp.bytes (t : Stamp) : List Byte := leBytes 6 t.sec ++ leBytes 4 t.ns ++ leBytes 2 t.qual

/-- S of a setting: the first tick that follows by at least one full epoch (R24, R25). DESIGN CHOICE (log 7). -/
def Block.effS (b : Block) : Nat := b.time.epoch + 2

/-! ### The event recorder: raising an event (R449 to R455) -/

/-- Whole operating seconds since manufacture (R453). -/
def Block.opsec (b : Block) : Nat :=
  if b.evr.started then b.evr.opBase + (b.now - b.evr.opStart) / secE else b.evr.opBase

/-- The bin of a quantity (R450). -/
def binOf (q : Nat) : Nat := if q = 0 then 0 else if 16384 ≤ q then 15 else Nat.log2 q + 1

/-- A quantity as the recorder takes it: the magnitude, at most 0xFFFF_FFFF (R450). -/
def qty (q : Int) : Nat := satN 0xFFFFFFFF q.natAbs

/-- One more raise. -/
def Tally.raise (t : Tally) : Tally := { t with count := t.count + 1 }

/-- One more quantity, bins saturating at `cap` (R450, R452, R458). -/
def Tally.quantity (cap q opsec pcycle : Nat) (t : Tally) : Tally :=
  let n := tget (fun _ => 0) t.bins (binOf q)
  let x : Extreme := { q := q, opsec := opsec, pcycle := pcycle }
  { t with
    bins := tset (fun _ => 0) t.bins (binOf q) (satN cap (n + 1))
    binSat := t.binSat || decide (cap < n + 1)
    min := match t.min with | none => some x | some m => if q < m.q then some x else some m
    max := match t.max with | none => some x | some m => if m.q < q then some x else some m }

def tallyD (_ : Nat) : Tally := {}
def colD (_ : Nat) : Colander := {}
def natD (_ : Nat) : Nat := 0
def vecD (_ : Nat) : Vec := {}
def clientD (c : Nat) : Client := { auth := if c = 0 then 3 else 0 }

/-- Record a quantity in the lifetime state and in the interval. A condition's quantity comes at its end (R451). -/
def Block.quantity (src : Nat) (q : Int) (b : Block) : Block :=
  let o := b.opsec
  let p := b.evr.pcycle
  { b with evr := { b.evr with
      life := tupd tallyD b.evr.life src (Tally.quantity 0xFFFFFFFF (qty q) o p)
      intv := tupd tallyD b.evr.intv src (Tally.quantity 65535 (qty q) o p) } }

/-- The vector a source is routed to by default (R543). -/
def routeD (n : Nat) : Nat :=
  if n ∈ [296, 298, 300, 302, 304, 306, 308, 310, 312, 322, 331, 333, 344, 447, 449, 451, 459, 474, 475, 476, 477, 499]
  then 15
  else if n ≤ 159 then 0 else if n ≤ 199 then 1 else if n ≤ 263 then 2 else if n ≤ 295 then 3
  else if n ≤ 313 then 4 else if n ≤ 329 then 5 else if n ≤ 345 then 6 else if n ≤ 361 then 7
  else if n ≤ 393 then 8 else if n ≤ 425 then 9 else if n ≤ 441 then 10 else if n ≤ 457 then 11
  else if n ≤ 473 then 12 else if n ≤ 489 then 13 else 14

/-- The vector signals if PEND is set, MASK is 0 and COAL has passed; otherwise the signal is held (R430). -/
def Vec.signal (now : Nat) (v : Vec) : Vec :=
  let spaced := match v.last with | none => true | some l => decide (l + v.coal * usE ≤ now)
  if v.pend && !v.mask && spaced then { v with held := false, last := some now, signals := v.signals + 1 }
  else { v with held := true }

/-- A cause reaches a vector: PEND is set and a signal leaves or is held (R430). -/
def Block.vecCause (v : Nat) (b : Block) : Block :=
  { b with mbx := { b.mbx with vec := tupd vecD b.mbx.vec v fun x => Vec.signal b.now { x with pend := true } } }

/-- VEC_SUM: the vectors with PEND = 1 and MASK = 0 (R429). -/
def Block.vecSum (b : Block) : Nat :=
  maskOf ((List.range 32).filter fun v => let x := tget vecD b.mbx.vec v; x.pend && !x.mask)

/-- A notification: SRC_PEND, the vector, and the FIFO of 1,024 records (R455). DESIGN CHOICE (log 111). -/
def Block.notify (src : Nat) (st : Stamp) (q : Option Int) (user : Nat) (b : Block) : Block :=
  let n : Note :=
    { stamp := st, source := src, supp := satN 65535 (tget natD b.nv.supp src), qty := qty (q.getD 0), user := user,
      valid := q.isSome, epoch := b.time.epoch }
  let full := decide (1024 ≤ b.evr.notes.length)
  let b : Block := { b with
    mbx := { b.mbx with srcPend := insNat src b.mbx.srcPend }
    nv := { b.nv with supp := if full then b.nv.supp else tset natD b.nv.supp src 0 }
    evr := { b.evr with
      notes := if full then b.evr.notes else b.evr.notes ++ [n]
      drops := if full then b.evr.drops + 1 else b.evr.drops
      dropsInt := if full then b.evr.dropsInt + 1 else b.evr.dropsInt } }
  b.vecCause (tget routeD b.mbx.routes src)

/-- The colander of a raise: a token and a notification, or one more SUPPRESSED (R454). -/
def Block.sieve (src : Nat) (st : Stamp) (q : Option Int) (user : Nat) (b : Block) : Block :=
  let c := tget colD b.evr.col src
  if 1000 ≤ c.bucket then
    Block.notify src st q user
      { b with evr := { b.evr with col := tset colD b.evr.col src { c with bucket := c.bucket - 1000 } } }
  else { b with nv := { b.nv with supp := tupd natD b.nv.supp src (· + 1) } }

/-- An event raised on source `src` with the stamp the source gives it: counted at once, its quantity recorded where
known, its notification through the colander (R449, R451, R454). While the recorder does not run, the raise is held in
the source's hardware counter (R449, R539). -/
def Block.raiseAt (src : Nat) (st : Stamp) (q : Option Int) (user : Nat) (b : Block) : Block :=
  if b.evr.started && b.flt.spRestarting.isNone && !b.flt.spStopped then
    let b : Block := { b with evr := { b.evr with
      life := tupd tallyD b.evr.life src Tally.raise
      intv := tupd tallyD b.evr.intv src Tally.raise } }
    let b := match q with | none => b | some v => b.quantity src v
    b.sieve src st q user
  else { b with evr := { b.evr with hw := tupd natD b.evr.hw src (· + 1) } }

/-- An event with its quantity, stamped now. DESIGN CHOICE (log 110). -/
def Block.raise (src : Nat) (q : Int) (b : Block) : Block := b.raiseAt src b.stamp (some q) 0
/-- An event whose quantity is recorded when its condition ends. -/
def Block.raiseOpen (src : Nat) (b : Block) : Block := b.raiseAt src b.stamp none 0
/-- A raise only where the condition holds. -/
def Block.raiseIf (c : Bool) (src : Nat) (q : Int) (b : Block) : Block := if c then b.raise src q else b

/-! ### Fault classes (R528, R541) -/

/-- The classes that `diag.faults` counts. -/
inductive FClass where
  | corrected | transient | lasting | loss
deriving DecidableEq, Repr

/-- Count a fault of a class; LASTING and LOSS set DEGRADED and hold the epoch (R528, R541). -/
def Block.fault (c : FClass) (b : Block) : Block :=
  let f := b.flt
  match c with
  | .corrected => { b with flt := { f with corrected := f.corrected + 1 } }
  | .transient => { b with flt := { f with transient := f.transient + 1 } }
  | .lasting => { b with flt := { f with lasting := f.lasting + 1, lastBad := b.time.epoch },
                         sys := { b.sys with degraded := true } }
  | .loss => { b with flt := { f with loss := f.loss + 1, lastBad := b.time.epoch },
                      sys := { b.sys with degraded := true } }

end Sys2Proof.Machine
end

