-- ==== Sys2Proof/Machine/NetTx.lean ====
section
/-! DEFINITION. The ports' transmit side: counters, queues, timed launch and redundant copies (16 and 17 of the spec, R362 to
R364, R377 to R380). -/

namespace Sys2Proof.Config
open Sys2Proof

/-- The MAC address of a port. -/
opaque ownMac : Nat → Nat

end Sys2Proof.Config

namespace Sys2Proof.Machine
open Sys2Proof

def ptpD (_ : Nat) : PtpPort := {}
def portD (_ : Nat) : PortSt := {}
def txqD (_ : Nat) : List TxFrame := []

def Block.port (b : Block) (p : Nat) : PortSt := tget portD b.net.ports p
def Block.putPort (p : Nat) (f : PortSt → PortSt) (b : Block) : Block :=
  { b with net := { b.net with ports := tupd portD b.net.ports p f } }

/-- The place of a counter in R393's order. -/
def NetCtr.ix : NetCtr → Nat
  | .linkDowns => 0 | .rxFrames => 1 | .txFrames => 2 | .rxErr => 3 | .rxLong => 4 | .rxUnsup => 5 | .filtMiss => 6
  | .admitDrop => 7 | .rxPoliced => 8 | .dupDiscard => 9 | .wrongLan => 10 | .netLate => 11 | .netSlip => 12
  | .txqDrop => 13 | .pauseRx => 14

/-- The largest value of a counter: they saturate (R393). -/
def NetCtr.cap (c : NetCtr) : Nat := if c = .rxFrames ∨ c = .txFrames then 2 ^ 64 - 1 else 2 ^ 32 - 1

/-- One more on a counter of a port. -/
def PortSt.count (c : NetCtr) (x : PortSt) : PortSt :=
  { x with ctrs := tupd natD x.ctrs c.ix fun n => satN c.cap (n + 1) }
def Block.countNet (p : Nat) (c : NetCtr) (b : Block) : Block := b.putPort p (PortSt.count c)

/-- The line mode in force of a port (R374), and the redundancy of its pair (R377). -/
def Block.mode (b : Block) (p : Nat) : Nat := b.net.cfg.mode.getD p 0
def Block.red (b : Block) (p : Nat) : Nat := b.net.cfg.red.getD (p / 2) 0

/-- The bit that stands for a port in a mask of logical ports: a redundant pair counts as its even port (R382, R394). -/
def Block.logical (b : Block) (p : Nat) : Nat := if b.red p = 0 then p else p / 2 * 2

/-- Event k of port p (R394). -/
def netSrc (p k : Nat) : Nat := 362 + 8 * p + k

/-- The port is open to frames. -/
def Block.alive (b : Block) (p : Nat) : Bool := decide (p < 4) && b.mode p != 0 && (b.port p).link

/-! ### Transmission -/

/-- The transmission time of a 1,542-byte frame in ns, rounded up (R363). -/
def guardNs (mode : Nat) : Nat := if mode = 2 then 1234 else 12336

/-- A head frame's distance d of R360. -/
def Block.headD (b : Block) (f : TxFrame) : Option Int := f.launch.map fun l => dist64 b.ns64 l

/-- Drop the late frames at the head of a queue: what remains, and the latenesses in ns (R362). -/
def Block.late (b : Block) (lim : Nat) (l : List TxFrame) : List TxFrame × List Nat :=
  match l with
  | [] => ([], [])
  | f :: r => match b.headD f with
    | some d => if (lim * 1000 : Int) < d then let x := b.late lim r; (x.1, d.toNat :: x.2) else (l, [])
    | none => (l, [])

/-- Discard the late head frames of queue q (R362). -/
def Block.purge (p : Nat) (b : Block) (q : Nat) : Block :=
  let x := b.late (b.net.cfg.lateLim.getD (8 * p + q) 10) (tget txqD (b.port p).queues q)
  let b := b.putPort p fun y => { y with queues := tset txqD y.queues q x.1 }
  x.2.foldl (fun b d => (b.countNet p .netLate).raise (netSrc p 3) ((d / 1000 : Nat) : Int)) b

/-- A frame is enqueued; a full queue drops it (R380). -/
def Block.enqueue (p : Nat) (f : TxFrame) (b : Block) : Block :=
  if b.mode p = 0 then b
  else
    let l := tget txqD (b.port p).queues f.queue
    if 64 ≤ l.length then (b.countNet p .txqDrop).raise (netSrc p 6) f.queue
    else b.putPort p fun x => { x with queues := tset txqD x.queues f.queue (l ++ [f]) }

/-- What the start of a frame brings with it: the stamp interrupt of a PTP event message, from which the second message of
a two-step pair and the peer-delay measurement take their instant (R355, R357). -/
def Block.txStamp (p : Nat) (f : TxFrame) (b : Block) : Block :=
  let putP (g : PtpPort → PtpPort) : Block := { b with time := { b.time with ports := tupd ptpD b.time.ports p g } }
  match f.body with
  | .ptp (.sync s) => b.enqueue p { body := .ptp (.followUp s b.ns64), queue := 7 }
  | .ptp (.pdelayReq s) => putP fun q => { q with pdelayWait := some (s, b.ns64) }
  | .ptp (.pdelayResp s r _) => b.enqueue p { body := .ptp (.pdelayRespFollowUp s r b.ns64), queue := 7 }
  | _ => b

/-- A frame starts to leave the port (R362, R366). -/
def Block.start (p : Nat) (f : TxFrame) (b : Block) : Block :=
  let b := b.putPort p fun x => { x.count .txFrames with sending := some f }
  let b := b.txStamp p f
  if b.time.cfg.ppsMode = 2 ∧ b.time.cfg.ppsPort = p ∧ b.time.cfg.ppsQueue = f.queue ∧ f.launch.isSome then
    { b with time := { b.time with ppsHigh := some (b.now + 100 * nsE) } }
  else b

/-- Take the head of queue q and start it. DESIGN CHOICE (log 62). -/
def Block.startHead (p q : Nat) (b : Block) : Block :=
  match tget txqD (b.port p).queues q with
  | f :: r => (b.putPort p fun x => { x with queues := tset txqD x.queues q r }).start p f
  | [] => b

/-- The queues whose head has a LAUNCH, with d, the highest queue first. -/
def Block.timedHeads (b : Block) (p : Nat) : List (Nat × Int) :=
  ((List.range 8).reverse.map fun q => match tget txqD (b.port p).queues q with
    | f :: _ => (b.headD f).map fun d => (q, d)
    | [] => none).filterMap id

/-- The first entry with the largest d: the earliest LAUNCH, and at equal LAUNCH the higher queue (R363). -/
def earliest (l : List (Nat × Int)) : Option (Nat × Int) :=
  l.foldl (fun m x => match m with | none => some x | some y => if y.2 < x.2 then some x else some y) none

/-- The port, idle, starts its next frame: a due timed frame, else the forwarding buffer and the highest queue without
LAUNCH where the guard allows it (R362, R363, R379, R380). `slip` counts a start more than 8 ns late. -/
def Block.kick (p : Nat) (slip : Bool) (b : Block) : Block :=
  if !b.alive p || (b.port p).sending.isSome then b
  else
    let b := (List.range 8).foldl (Block.purge p) b
    let t := b.timedHeads p
    match earliest (t.filter fun x => decide (0 ≤ x.2)) with
    | some (q, d) =>
      let b := if slip && decide (8 < d) then b.countNet p .netSlip else b
      b.startHead p q
    | none =>
      if t.any fun x => decide (-(guardNs (b.mode p) : Int) ≤ x.2) then b
      else match (b.port p).fwd with
        | f :: r => (b.putPort p fun x => { x with fwd := r }).start p f
        | [] =>
          match (List.range 8).reverse.find? fun q => match tget txqD (b.port p).queues q with
            | f :: _ => f.launch.isNone
            | [] => false with
          | some q => b.startHead p q
          | none => b

/-- Send a frame on the logical ports of a mask: on an independent port once, on a redundant pair as two copies with their
trailer or tag (R378, R379). -/
def Block.sendOn (ports q : Nat) (launch : Option Nat) (body : TxBody) (b : Block) : Block :=
  (List.range 4).foldl (fun b p =>
    if !bitOf ports p then b
    else if b.red p = 0 then (b.enqueue p { body := body, queue := q, launch := launch }).kick p false
    else if p % 2 = 1 then b
    else
      let s := tget natD b.net.txSeq (p / 2)
      let b : Block := { b with net := { b.net with txSeq := tset natD b.net.txSeq (p / 2) ((s + 1) % 65536) } }
      [0, 1].foldl (fun b k =>
        (b.enqueue (p + k) { body := body, queue := q, launch := launch, seq := some (s, k) }).kick (p + k) false) b) b

end Sys2Proof.Machine
end

