-- ==== Sys2Proof/Machine/FabTx.lean ====
section
/-! DEFINITION. The fabric's tables and sieves, and how a frame or a message leaves the engine (18 of the spec, R395, R396,
R398, R403, R405 to R408, R410). -/

namespace Sys2Proof.Machine
open Sys2Proof

def routeEntD (_ : Nat) : Route := {}
def svD (_ : Nat) : List SvEntry := []

/-! ### Logical ports, counters and bursts -/

/-- A logical port that exists: L1 and L3 only where their pair is independent (R395). -/
def Block.lport (b : Block) (l : Nat) : Bool := decide (l < 4) && (l % 2 == 0 || b.red l == 0)
/-- A logical port that the fabric uses (R422). -/
def Block.fabPort (b : Block) (l : Nat) : Bool := b.lport l && bitOf b.fab.cfg.ports l
def Block.fabPorts (b : Block) : List Nat := (List.range 4).filter b.fabPort
/-- The link of a logical port: either port of a redundant pair. -/
def Block.lportUp (b : Block) (l : Nat) : Bool :=
  if b.red l = 0 then b.alive l else b.alive l || b.alive (l + 1)

/-- The fabric is enabled and has an address (R395). -/
def Block.fabOn (b : Block) : Bool := b.fab.cfg.en && b.fab.cfg.addr.isSome
def Block.fabAddr (b : Block) : Nat := b.fab.cfg.addr.getD 0

/-- The place of a counter in R424's record; a port's counters begin at 16 × port, the local-origin record is port 4. -/
def FabCtr.ix : FabCtr → Nat
  | .tx => 0 | .rx => 1 | .fwd => 2 | .noRoute => 3 | .hopDrop => 4 | .malformed => 5 | .dupBcast => 6 | .sieveHit => 7
  | .sieveMiss => 8 | .stale => 9 | .reasmFail => 10

/-- DESIGN CHOICE (log 63). -/
def Block.countFab (l : Nat) (c : FabCtr) (b : Block) : Block :=
  { b with fab := { b.fab with ctrs := tupd natD b.fab.ctrs (16 * l + c.ix) fun n => satN (2 ^ 32 - 1) (n + 1) } }

/-- A discard of the kinds 399 NO_ROUTE, 400 HOP_DROP and 401 MALFORMED: counted, and the burst's event (R425). -/
def Block.fabDiscard (l : Nat) (c : FabCtr) (src : Nat) (b : Block) : Block :=
  let b := b.countFab l c
  let n := tget natD b.fab.burst src
  let b : Block := { b with fab := { b.fab with burst := tset natD b.fab.burst src (n + 1) } }
  if n = 0 then b.raiseOpen src else b

/-- A frame that is not discarded ends the bursts: their lengths are recorded. -/
def Block.fabPass (b : Block) : Block :=
  let b2 := [399, 400, 401].foldl (fun b s =>
    let n := tget natD b.fab.burst s
    if n = 0 then b else b.quantity s n) b
  { b2 with fab := { b2.fab with burst := [] } }

/-! ### Routing tables and sieves -/

/-- The table and index of a destination (R405). -/
def Block.routeOf (b : Block) (dst : Nat) : Route :=
  if dst / 256 = b.fabAddr / 256 then tget routeEntD b.fab.node (dst % 256) else tget routeEntD b.fab.zone (dst / 256)

/-- Does a destination fall under entry `i` of the node (true) or zone table? -/
def Block.under (b : Block) (node : Bool) (i dst : Nat) : Bool :=
  if node then dst / 256 == b.fabAddr / 256 && dst % 256 == i else dst / 256 != b.fabAddr / 256 && dst / 256 == i

/-- Remove sieve entries from every sieve (R408). -/
def Block.unsieve (f : SvEntry → Bool) (b : Block) : Block :=
  { b with fab := { b.fab with sieves := (List.range 5).foldl (fun t k => tupd svD t k (·.filter fun e => !f e)) b.fab.sieves } }

/-- Write a table entry: a change increments GEN and TGEN (R403); `inval` invalidates the affected sieve entries (R408).
Whether it changed. -/
def Block.putRoute (node : Bool) (i : Nat) (r : Route) (inval : Bool) (b : Block) : Bool × Block :=
  let t := if node then b.fab.node else b.fab.zone
  let o := tget routeEntD t i
  let n := { r with gen := o.gen }
  if n = o then (false, b)
  else
    let t := tset routeEntD t i { r with gen := (o.gen + 1) % 65536 }
    let f := { b.fab with tgen := (b.fab.tgen + 1) % 2 ^ 32 }
    let b : Block := { b with fab := if node then { f with node := t } else { f with zone := t } }
    (true, if inval then b.unsieve fun e => b.under node i e.dst else b)

/-- The egress of a destination by the sieve of ingress `k` (4 for locally originated frames) (R407): a live entry is used,
otherwise the table is read and the entry refilled; the least recently used of 256 goes. -/
def Block.sieveLook (k dst : Nat) (b : Block) : Option (Nat × Nat) × Block :=
  let l := tget svD b.fab.sieves k
  let put (x : List SvEntry) (b : Block) : Block := { b with fab := { b.fab with sieves := tset svD b.fab.sieves k x } }
  let r := b.routeOf dst
  let rest := l.filter fun e => e.dst != dst
  match l.find? fun e => e.dst == dst && decide (b.now < e.at_ + 2 * msE) with
  | some e =>
    let b := (put (e :: rest) b).countFab k .sieveHit
    (some (e.port, e.next), if e.gen = r.gen then b else b.countFab k .stale)
  | none =>
    let b := b.countFab k .sieveMiss
    if !r.valid then (none, put rest b)
    else
      let e : SvEntry := { dst := dst, port := r.port, next := r.next, gen := r.gen, at_ := b.now }
      (some (r.port, r.next), put ((e :: rest).take 256) b)

/-- The egress of a frame: a neighbour in PROBATION receives what is addressed to it, whatever the vectors say; any other
destination goes by the sieve (R401, R405, R407). DEDUCED (log 120). -/
def Block.egress (k dst : Nat) (b : Block) : Option (Nat × Nat) × Block :=
  match b.fab.nbrs.find? fun n => n.addr == dst && n.state == .probation with
  | some n => if (b.routeOf dst).pinned then b.sieveLook k dst else (some (n.port, n.addr), b)
  | none => b.sieveLook k dst

/-! ### Sending -/

/-- The transmit queue of a service (R410). -/
def svcQueue (svc : Nat) : Nat := if svc = 1 then 7 else if svc = 5 then 1 else 2

/-- A frame leaves by logical port l. DESIGN CHOICE (log 63). -/
def Block.fabEmit (l : Nat) (h : FabHdr) (body : FabBody) (next : Option Nat) (b : Block) : Block :=
  (b.countFab l .tx).sendOn (2 ^ l) (svcQueue h.svc) none (.fabric h body next)

/-- The next SEQ of a service (R396). -/
def Block.nextSeq (svc : Nat) (b : Block) : Nat × Block :=
  let n := tget natD b.fab.seqs svc
  (n, { b with fab := { b.fab with seqs := tset natD b.fab.seqs svc ((n + 1) % 65536) } })

/-- Keep a broadcast in the duplicate table of 1,024 entries, for 1 s (R406). -/
def Block.bdupPut (src svc seq : Nat) (b : Block) : Block :=
  let l := b.fab.bdup.filter fun x => decide (b.now < x.2.2.2 + secE)
  let l := if 1024 ≤ l.length then l.drop (l.length - 1023) else l
  { b with fab := { b.fab with bdup := l ++ [(src, svc, seq, b.now)] } }
def Block.bdupHas (b : Block) (src svc seq : Nat) : Bool :=
  b.fab.bdup.any fun x => x.1 == src && x.2.1 == svc && x.2.2.1 == seq && decide (b.now < x.2.2.2 + secE)

/-- Length of what a frame carries, where the manual fixes it: bytes, or a control block's frame by `Config.signalLen`. -/
def FabBody.len : FabBody → Option Nat
  | .bytes p => some p.length
  | .cb k st sq ttl vals => some (Config.signalLen k st sq ttl vals)
  | .signal _ => none

/-- The engine originates a frame (R395, R396, R405 to R407). A unicast to its own address it consumes. -/
def Block.fabSend (svc dst : Nat) (bcast mcast zscope seg : Bool) (body : FabBody) (b : Block) : Block :=
  if !b.fabOn then b
  else
    let s := b.nextSeq svc
    let b := s.2.countFab 4 .tx
    let h : FabHdr :=
      { hops := b.fab.cfg.hopMax, bcast := bcast, mcast := mcast, zscope := zscope, seg := seg, svc := svc, dst := dst,
        src := b.fabAddr, len := body.len.getD 0, seq := s.1, tx32 := b.ns64 % 2 ^ 32 }
    if bcast || mcast then b.fabPorts.foldl (fun b l => b.fabEmit l h body none) (b.bdupPut h.src svc s.1)
    else if dst = b.fabAddr then
      { b with fab := { b.fab with inbox := b.fab.inbox ++ [{ svc := svc, src := dst, seg := seg, body := body }] } }
    else
      let x := b.egress 4 dst
      match x.1 with
      | some (l, n) => (x.2.fabPass).fabEmit l h body (some n)
      | none => x.2.fabDiscard 4 .noRoute 399

/-- A message of up to 4,112 bytes: one frame, or 1 to 3 segments of 1,490 bytes where it is longer than a frame's payload
or `seg` asks for them (R398). -/
def Block.fabMessage (svc dst : Nat) (force : Bool) (p : List Byte) (b : Block) : Block :=
  if p.length ≤ 1498 && !force then b.fabSend svc dst false false false false (.bytes p)
  else
    let n := (p.length + 1489) / 1490
    let id := b.fab.msgId
    (List.range n).foldl (fun b i =>
        b.fabSend svc dst false false false true (.bytes (leBytes 2 id ++ leBytes 1 i ++ leBytes 1 n ++ leBytes 2 p.length ++
          zeros 2 ++ cut p (1490 * i) 1490)))
      { b with fab := { b.fab with msgId := (id + 1) % 65536 } }

end Sys2Proof.Machine
end

