-- ==== Sys2Proof/Machine/Ops.lean ====
section
/-! DEFINITION. The named operations that commands share: answering a request, reaching a session, and ordering a flash
write. -/

namespace Sys2Proof.Machine
open Sys2Proof

/-! ### Mailbox answers (R431 to R438) -/

/-- Status codes of R438. -/
def stOK : Nat := 0x0000
def stBUSY : Nat := 0x0001
def stBADCMD : Nat := 0x0010
def stBADARG : Nat := 0x0011
def stNOAUTH : Nat := 0x0020
def stCONFLICT : Nat := 0x0021
def stNOTSEL : Nat := 0x0022
def stNOTREADY : Nat := 0x0030
def stLINKERR : Nat := 0x0031
def stNOTERASED : Nat := 0x0040
def stWORN : Nat := 0x0041
def stBADTAG : Nat := 0x0050
def stBADSIG : Nat := 0x0051
def stLATE : Nat := 0x0060
def stTOOLONG : Nat := 0x0061
def stREFUSED : Nat := 0x0070
def stNOANSWER : Nat := 0x0071

/-- Bytes a message occupies: 16 × ⌈(16 + LEN)/16⌉ (R432). -/
def msgSize (len : Nat) : Nat := 16 * ((16 + len + 15) / 16)

/-- The bytes of a message with its padding (R432, R437). -/
def msgBytes (client flags cmd seq status epoch : Nat) (payload : List Byte) : List Byte :=
  leBytes 1 client ++ leBytes 1 flags ++ leBytes 2 cmd ++ leBytes 4 seq ++ leBytes 2 status ++
  leBytes 2 payload.length ++ leBytes 4 epoch ++ payload ++ zeros (msgSize payload.length - 16 - payload.length)

/-- Write a response into the response ring, behind a PAD where it does not fit before the end; none without room
(R432, R433). -/
def Client.write (c : Client) (r : Rsp) : Option Client :=
  let n := msgSize r.payload.length
  let m := msgBytes (r.echo.getD r.client) (r.flags.toNat % 2 + 0x80) r.cmd r.seq r.status (r.epoch % 2 ^ 32) r.payload
  let p := c.rspProd
  let at_ (a : Nat) (ring : Mem) : Client := { c with rspRing := memWrite ring a m, rspProd := (a + n) % 8192 }
  let pad := memWrite c.rspRing p (msgBytes r.client 0 0xFFFF 0 0 0 [] |>.take 10) |> fun g =>
    memWrite g (p + 10) (leBytes 2 (8192 - p - 16) ++ leBytes 4 0)
  if c.rspCons ≤ p then
    if p + n < 8192 || (p + n = 8192 && 0 < c.rspCons) then some (at_ p c.rspRing)
    else if p + n = 8192 then none
    else if n < c.rspCons then some (at_ 0 pad) else none
  else if p + n < c.rspCons then some (at_ p c.rspRing) else none

/-- Deliver a response of a host client: into its ring with a signal, or to wait with STALL and event 433 (R430, R433,
R435). -/
def Block.deliver (r : Rsp) (b : Block) : Block :=
  let c := tget clientD b.mbx.clients r.client
  let put (x : Client) : Block := { b with mbx := { b.mbx with clients := tset clientD b.mbx.clients r.client x } }
  if c.stall then put { c with waiting := c.waiting ++ [r] }
  else match c.write r with
    | some x => if r.flags.toNat / 2 % 2 = 1 then put x else (put x).vecCause (16 + r.client % 16)
    | none => (put { c with waiting := [r], stall := true }).raise 433 r.client

def sessD (_ : Nat) : Option Sess := none

/-- Send a response to its client: host clients by their rings, fabric clients by their sessions (R418, R433). A session that
has closed receives nothing. -/
def Block.send (r : Rsp) (b : Block) : Block :=
  if r.client < 128 then b.deliver r
  else match tget sessD b.fab.sess r.client with
    | some x => b.fabMessage 5 x.peer false (leBytes 1 3 ++ zeros 1 ++ leBytes 1 r.client ++ zeros 1 ++
        (msgBytes (r.echo.getD r.client) (r.flags.toNat % 2 + 0x80) r.cmd r.seq r.status (r.epoch % 2 ^ 32) r.payload).take
          (16 + r.payload.length))
    | none => b

/-- Is the request accepted and without a response? -/
def Block.has (r : Req) (b : Block) : Bool := b.mbx.accepted.any fun a => a.req == r

/-- Take a request off the accepted list. -/
def Block.drop (r : Req) (b : Block) : Block :=
  { b with mbx := { b.mbx with accepted := b.mbx.accepted.eraseP fun a => a.req == r } }

/-- Answer an accepted request: exactly one response under its SEQ (R433, R437). One that a reset of its rings, or the close of
its session, has cancelled gets none (R436). Event 430 goes with NO_AUTH (R448). DESIGN CHOICE (log 83). -/
def Block.answer (r : Req) (status epoch : Nat) (payload : List Byte) (b : Block) : Block :=
  if !b.has r then b else
  let b := b.drop r
  let b := b.raiseIf (status == stNOAUTH) 430 r.client
  b.send { client := r.client, flags := r.flags &&& 3, cmd := r.cmd, seq := r.seq, status := status,
           epoch := epoch, payload := payload }

/-- Answer with a status alone; word 3 carries the epoch of completion (R24). -/
def Block.status (r : Req) (st : Nat) (b : Block) : Block := b.answer r st b.time.epoch []

/-- Answer OK with data of the epoch of completion. -/
def Block.ok (r : Req) (payload : List Byte) (b : Block) : Block := b.answer r stOK b.time.epoch payload

/-- The level a client holds (R440). -/
def Block.authOf (c : Nat) (b : Block) : Nat := if c = 0 then 3 else (tget clientD b.mbx.clients c).auth

/-- RD: the read form of a command that has one (R437). -/
def Req.rd (r : Req) : Bool := r.flags.toNat % 2 == 1

/-- The SP runs: it is neither restarting nor stopped (R539, R540). -/
def Block.spUp (b : Block) : Bool := b.flt.spRestarting.isNone && !b.flt.spStopped

/-- The meaning of a mailbox row: the SP executes an accepted request of its command code; the row cannot occur for any
other, or while no SP runs, and then changes nothing. -/
def Block.onReq (cmd : Nat) (r : Req) (f : Block → Block) (b : Block) : Block :=
  if b.has r && r.cmd == cmd && b.spUp then f b else b

/-- The same for a row that stands for one OP of its command: a request of another row's OP is not this row's. -/
def Block.onOp (cmd : Nat) (r : Req) (mine : Bool) (f : Block → Block) (b : Block) : Block :=
  if mine then b.onReq cmd r f else b

/-- A ladle transfer reads or writes the object: every write to it is answered BUSY (R441). -/
def Block.ladleOn (obj : Nat) (b : Block) : Bool := b.mbx.ladles.any fun l => l.obj == obj

/-! ### Flash writes (R499, R503, R506) -/

/-- Flash writes are refused while an orderly shutdown is in progress (R69). -/
def Block.flashBusy (b : Block) : Bool := b.sys.shutdown.isSome

/-- Order a flash write; FLASH_PROGRAM_COMPLETE carries it on. -/
def Block.order (j : Job) (b : Block) : Block := { b with nv := { b.nv with jobs := b.nv.jobs ++ [{ job := j }] } }

/-- A configuration command whose setting is one journal record: BUSY in a shutdown, otherwise the entry is ordered and
the command is answered when both appends are done (R506). DESIGN CHOICE (log 8). -/
def Block.journal (prot : Bool) (rid : Nat) (r : Req) (b : Block) : Block :=
  if b.flashBusy then b.status r stBUSY else b.order (.journal prot rid r)

end Sys2Proof.Machine
end

