-- ==== Sys2Proof/Machine/Time.lean ====
section
/-! DEFINITION. The tim island: ELAPSED and the time counter, their registers, the servo and time quality, the step,
and the `time.` commands (R16 to R20, R187 to R190, R345 to R373). -/

namespace Sys2Proof.Machine
open Sys2Proof

/-- What every meaning answers with. -/
abbrev Out := Host.Outcome State Fault Refusal

/-! ### Counting -/

/-- PPS may pulse in mode 1 (R367). -/
def TimeSt.ppsAllowed (t : TimeSt) : Bool :=
  t.cfg.ppsMode == 1 && (t.cfg.ppsAlways || t.servo.state == .locked || t.servo.state == .holdover)

/-- A second of the counter in its finest unit. -/
def secF : Nat := 1000000000 * nsE

/-- `n` tim edges: ELAPSED adds FREQ_INC and the counter adds INC at each; a carry of NS is a second boundary reached by counting (R187,
R345, R366). DESIGN CHOICE (log 3). -/
def TimeSt.advance (n : Nat) (t : TimeSt) : TimeSt :=
  let f := t.ns * nsE + t.frac + n * t.inc
  let ns := f / nsE
  let el := t.elapsed + n * t.freqInc
  { t with
    elapsed := el
    sec := (t.sec + ns / 1000000000) % 2 ^ 48
    ns := ns % 1000000000
    frac := f % nsE
    carryAt := if f < secF then t.carryAt else if t.ppsAllowed then some (el - f % secF / t.inc * t.freqInc) else none }

/-- Tim edges to the issuing edge of tick `e`: the first at which ELAPSED is at or above t_e (R190). -/
def TimeSt.edgesTo (e : Nat) (t : TimeSt) : Nat :=
  (tickE e - t.elapsed + t.freqInc - 1) / t.freqInc

/-- The issuing edge of tick `e` on the ELAPSED scale, for the latest 17 ticks, which are all that any rule looks back (R17,
R138); before a tick, its nominal value. -/
def TimeSt.edge (t : TimeSt) (e : Nat) : Nat := if t.epoch < e then tickE e else t.edges.getD (t.epoch - e) (tickE e)

/-- The epoch of an instant: the issuing edges alone bound it (R17). -/
def TimeSt.epochAt (t : TimeSt) (inst : Nat) : Nat := t.epoch - (t.edges.takeWhile fun x => decide (inst < x)).length

/-- The counter `n` tim edges ago, to the nanosecond. -/
def TimeSt.ago (n : Nat) (t : TimeSt) : Stamp :=
  let v := ((t.sec * 1000000000 + t.ns) * nsE + t.frac - n * t.inc) / nsE
  { sec := v / 1000000000, ns := v % 1000000000, qual := t.tcQual }

/-- The clock runs to the issuing edge of the next tick, the first tim edge at or above its nominal value; where that edge has passed,
the tick is the edge that it was. The epoch advances by 1, and the edge and its counter reading are kept (R16, R17, R190, R369). -/
def TimeSt.tick (t : TimeSt) : TimeSt :=
  let e := t.epoch + 1
  let t := t.advance (t.edgesTo e)
  let late := (t.elapsed - tickE e) / t.freqInc
  { t with
    epoch := e, freqTick := t.freqInc, ticks := (e, t.ago late) :: t.ticks.take 65536
    edges := (t.elapsed - late * t.freqInc) :: t.edges.take 16 }

/-- The clock runs to an instant on the ELAPSED scale: to the first tim edge at or after it; an instant that has passed moves
nothing. DESIGN CHOICE (log 3). -/
def Block.runTo (inst : Nat) (b : Block) : Block :=
  if b.time.run then { b with time := b.time.advance ((inst - b.time.elapsed + b.time.freqInc - 1) / b.time.freqInc) } else b

/-- The issuing edge of the latest tick. -/
def Block.edgeNow (b : Block) : Nat := b.time.edge b.time.epoch

/-- ns64 of an instant on the ELAPSED scale, past or to come, by the counter's present reading and rate. -/
def Block.ns64At (b : Block) (inst : Nat) : Nat :=
  let t := b.time
  ofSigned 64 ((((t.sec * 1000000000 + t.ns) * nsE + t.frac : Nat) + ((inst : Int) - t.elapsed) * t.inc / t.freqInc) / (nsE : Nat))

/-- One tim cycle without a command: the model's idle step, once the clock runs. DESIGN CHOICE (log 3). -/
def Block.idle (b : Block) : Block := if b.time.run then { b with time := b.time.advance 1 } else b

/-! ### Time quality -/

/-- STATE's code (R351). -/
def TState.code : TState → Nat
  | .freerun => 0 | .locked => 1 | .holdover => 2 | .stepped => 3

/-- The time-quality word (R351). -/
def TimeSt.qualWord (t : TimeSt) : Nat :=
  t.servo.state.code + 8 * b2n t.servo.synt + 16 * b2n (t.ref10m && !t.lost) + 32 * b2n t.gm.traceable +
    256 * t.servo.est

/-- The servo writes TC_QUAL from its state (R347). -/
def Block.requal (b : Block) : Block := { b with time := { b.time with tcQual := b.time.qualWord } }

/-- The smallest EST whose 2^EST ns is at least `n` ns (R353). -/
def estOf (n : Nat) : Nat := if n ≤ 1 then 0 else Nat.log2 (n - 1) + 1

/-- The bound in ns that a clockAccuracy code announces; none where it is unknown (IEEE 1588, R353). PRESUMED (log 73). -/
def accuracyNs (c : Nat) : Option Nat :=
  if c < 0x20 then some 25 else if 0x31 < c then none
  else [25, 100, 250, 1000, 2500, 10000, 25000, 100000, 250000, 1000000, 2500000, 10000000, 25000000, 100000000,
        250000000, 1000000000, 10000000000, 10000000000][c - 0x20]?

/-- The grandmaster's announced bound: clockAccuracy or the TLV's inaccuracy, whichever is tighter (R353). -/
def Announce.bound (a : Announce) : Option Nat :=
  match accuracyNs a.accuracy, a.inaccuracy with
  | some x, some y => some (if x < y then x else y)
  | some x, none => some x
  | none, some y => some y
  | none, none => none

/-- The bound of the time error in LOCKED, ns (R353). -/
def TimeSt.lockedBound (t : TimeSt) : Option Nat :=
  t.gm.bound.map fun a => a + t.servo.last16.foldl (fun m x => if m < x then x else m) 0 + 4

/-- EST as R353 forms it for the state in force; STEPPED keeps what the step set. -/
def TimeSt.formEst (t : TimeSt) : Nat :=
  match t.servo.state with
  | .locked => match t.lockedBound with | some n => estOf n | none => 255
  | .holdover => match t.servo.lastBound with
    | some n => estOf (n + (t.cfg.holdDrift * (t.elapsed - t.servo.leftAt) + secE - 1) / secE)
    | none => 255
  | .freerun => 255
  | .stepped => t.servo.est

/-- Form EST again and write TC_QUAL. -/
def Block.reEst (b : Block) : Block :=
  let t := b.time
  Block.requal { b with time := { t with servo := { t.servo with
    est := t.formEst
    lastBound := if t.servo.state = .locked then t.lockedBound else t.servo.lastBound } } }

/-- A change of STATE: event 346 with the new STATE; leaving LOCKED raises event 350 with the last |θ| (R352, R373). A
STATE that is already in force is no change. -/
def Block.setTState (st : TState) (b : Block) : Block :=
  let s := b.time.servo
  if s.state = st then b
  else
    let left := decide (s.state = .locked)
    let s2 : Servo := { s with
      state := st, inLock := 0, overUnl := 0, bigRun := []
      leftAt := if left then b.now else s.leftAt
      holdAt := if st = .holdover then b.now else s.holdAt }
    let b : Block := { b with time := { b.time with servo := s2 } }
    let b := (b.raise 346 st.code).raiseIf left 350 s.lastTheta.natAbs
    b.reEst

/-! ### INC and FREQ_INC -/

/-- The limits of FREQ_INC: 3.9992 and 4.0008 ns (R188). -/
def freqLo : Nat := 17176433211
def freqHi : Nat := 17183305157

/-- FREQ_INC and INC reach the counter together: FREQ_INC clamped with event 318, INC clamped to 500 ppm of FREQ_INC
with event 353 (R188, R348). -/
def Block.writeInc (inc freq : Nat) (b : Block) : Block :=
  let f := if freq < freqLo then freqLo else if freqHi < freq then freqHi else freq
  let dev := ((freq : Int) - 2 ^ 34) * 1000000 / 2 ^ 34
  let lim := f * 500 / 1000000
  let i := if inc + lim < f then f - lim else if f + lim < inc then f + lim else inc
  let dif := ((inc : Int) - f) * 1000000 / f
  let clamped := decide (f ≠ freq)
  let b : Block := { b with time := { b.time with
    freqInc := f, inc := i, incAt := b.now, clamps := b.time.clamps + b2n clamped } }
  (b.raiseIf clamped 318 dev).raiseIf (decide (i ≠ inc)) 353 dif

/-- INC_TRANSFER: the write of INC_HI (R347, R348). -/
def Block.incTransfer (v : Byte) (b : Block) : Block :=
  let t := b.time
  Block.writeInc (v.toNat * 2 ^ 32 + t.incLo.toNat) (t.freqHi.toNat * 2 ^ 32 + t.freqLo.toNat)
    { b with time := { t with incHi := v } }

/-- INC_SLEW_LAPSE: 2.5 s of ELAPSED without a write of INC_HI (R348). -/
def Block.incLapse (b : Block) : Block :=
  if b.time.incAt + 5 * secE / 2 ≤ b.now then { b with time := { b.time with inc := b.time.freqInc } } else b

/-! ### The step -/

/-- The cnv cycles by which the delivered strobe grid stands behind the stepped one after a step of `off` ns: the phase modulo
25 × P ns, taken the shorter way round (R93). A positive shift shortens periods, a negative one lengthens them. -/
def strobeShift (p : Nat) (off : Int) : Int :=
  let m : Int := 25 * (p : Int)
  let d := off % m
  if 2 * d ≤ m then rneI d 25 else -(rneI (m - d) 25)

/-- The step of R349: the counter moves, ELAPSED does not; event 347; the strobe grid realigns (R93); derived stamps add
the step until two beacons follow it (R356). -/
def Block.applyStep (abs : Bool) (v : Int) (b : Block) : Block :=
  let t := b.time
  let old : Int := b.ns64
  let new := if abs then ofSigned 64 v else ofSigned 64 (old + v)
  let off := dist64 new b.ns64
  let c := b.cnv
  let sh := strobeShift c.p (off + 25 * c.shift)
  let b : Block := { b with
    time := { t with
      sec := new / 1000000000, ns := new % 1000000000, frac := if abs then 0 else t.frac
      servo := { t.servo with stepAt := b.now }
      ports := tupdAll ptpD t.ports (List.range 4) fun _ p =>
        let two := decide (p.beacons.length = 2)
        { p with beacons := [], old := if two then p.beacons else p.old, stepAdd := (if two then 0 else p.stepAdd) + off } }
    cnv := { c with shift := sh } }
  b.raise 347 ((off.natAbs / 1000 : Nat) : Int)

/-- A step and the change to STEPPED it makes; a step that finds STEPPED runs the 1 s again (R352). -/
def Block.stepTo (abs : Bool) (v : Int) (est : Nat) (b : Block) : Block :=
  let b := (b.applyStep abs v).setTState .stepped
  Block.requal { b with time := { b.time with servo := { b.time.servo with est := est, inLock := 0, last5 := [] } } }

/-! ### The servo (R350) -/

/-- Insert into a rising list. -/
def insI (x : Int) (l : List Int) : List Int :=
  match l with
  | [] => [x]
  | y :: r => if x ≤ y then x :: y :: r else y :: insI x r

/-- The median of five. -/
def median5 (l : List Int) : Int := (l.foldl (fun s x => insI x s) []).getD 2 0

/-- The frequency integrator and the two increments of R350, for an offset below STEP_TH. DESIGN CHOICE (log 74). -/
def Block.servoSlew (theta : Int) (b : Block) : Block :=
  let s := b.time.servo
  let y := s.y + rneI (theta * 2 ^ 64) 16000000000
  let k := (2 ^ 64 + y).toNat
  let sl := clampI (-1000000) 1000000 theta
  let freq := (rne (2 ^ 34 * 2 ^ 64) k).1
  let inc := (rne (2 ^ 34 * 2 ^ 64 * (2000000000 - sl).toNat) (k * 2000000000)).1
  Block.requal (Block.writeInc inc freq { b with time := { b.time with
    servo := { s with y := y, synt := true }
    incLo := BitVec.ofNat 32 inc, incHi := BitVec.ofNat 8 (inc / 2 ^ 32)
    freqLo := BitVec.ofNat 32 freq, freqHi := BitVec.ofNat 8 (freq / 2 ^ 32) } })

/-- The bookkeeping of an offset that is used: |θ| history, lock and unlock counts, and the transitions they make
(R352, R353). DESIGN CHOICE (log 74). -/
def Block.servoJudge (theta : Int) (b : Block) : Block :=
  let t := b.time
  let s := t.servo
  let a := theta.natAbs
  let inL := if a ≤ t.cfg.lockTh then s.inLock + 1 else 0
  let ov := if t.cfg.unlockTh < a && a < t.cfg.stepTh then s.overUnl + 1 else 0
  let b : Block := { b with time := { t with servo := { s with
    inLock := inL, overUnl := ov, last5 := (theta :: s.last5).take 5, last16 := (a :: s.last16).take 16,
    outlier := false, bigRun := [], lastTheta := theta } } }
  if 8 ≤ inL && s.state != .locked then b.setTState .locked
  else if 3 ≤ ov && s.state == .locked then b.setTState .holdover
  else b.reEst

/-- One run of the servo on an offset θ = local − master, in ns; while the SP restarts the servo writes nothing (R350, R352, R539). DESIGN CHOICE (log 74). -/
def Block.servo (theta : Int) (b : Block) : Block :=
  if !b.spUp then b else
  let t := b.time
  let s := t.servo
  let a := theta.natAbs
  if a < t.cfg.stepTh && s.last5.length == 5 && decide (t.cfg.unlockTh < (theta - median5 s.last5).natAbs) && !s.outlier then
    Block.raise 352 a
      { b with time := { t with servo := { s with
        outlier := true, last5 := (theta :: s.last5).take 5, bigRun := [], inLock := if a ≤ t.cfg.lockTh then s.inLock else 0 } } }
  else if t.cfg.stepTh ≤ a || (s.state == .freerun && decide (t.cfg.lockTh < a)) then
    if s.state = .holdover then
      let agree := s.bigRun.all fun x => decide ((x - theta).natAbs ≤ t.cfg.unlockTh)
      let run := if agree then theta :: s.bigRun else [theta]
      let b : Block := { b with time := { t with servo := { s with bigRun := run, lastTheta := theta, inLock := 0, outlier := false } } }
      if 8 ≤ run.length then b.stepTo false (-theta) (match t.gm.bound with | some n => estOf n | none => 255) else b
    else
      Block.stepTo false (-theta) (match t.gm.bound with | some n => estOf n | none => 255)
        { b with time := { t with servo := { s with lastTheta := theta, outlier := false } } }
  else (b.servoSlew theta).servoJudge theta

/-! ### Registers of the tim block and the readouts -/

/-- TC_NS_READ: NS is returned; the other fields are latched at the same edge, except through the tongs (R347). -/
def Block.tcNsRead (tongs : Bool) (b : Block) : Block :=
  let t := b.time
  let b : Block := { b with mbx := { b.mbx with rdData := leBytes 4 t.ns } }
  if tongs then b
  else { b with time := { t with latSec := t.sec, latFrac := t.frac, latQual := t.tcQual } }

/-- TIME_NS_READ: the BAR0 readout (R368). -/
def Block.timeNsRead (tongs : Bool) (b : Block) : Block :=
  let t := b.time
  let b : Block := { b with mbx := { b.mbx with rdData := leBytes 4 t.ns ++ if tongs then [] else leBytes 4 t.sec } }
  if tongs then b
  else { b with time := { t with rdSec := t.sec, rdQual := t.tcQual, rdEpoch := t.epoch } }

/-- EPOCH_LO_READ: the low word is returned and the 64 bits are latched; a tongs read latches nothing (R20, R429). -/
def Block.epochLoRead (tongs : Bool) (b : Block) : Block :=
  let b : Block := { b with mbx := { b.mbx with rdData := leBytes (if tongs then 4 else 8) b.time.epoch } }
  if tongs then b else { b with time := { b.time with epochLatch := b.time.epoch } }

/-- TIM_SOURCE_SELECT: a write of SRC (R347). -/
def Block.timSource (ref : Bool) (b : Block) : Block :=
  Block.requal { b with time := { b.time with ref10m := ref, lost := false } }

/-- TIM10M_LOSS: the 25 MHz reference takes over, LOST sets, event 354, and LOCKED becomes HOLDOVER (R44, R352). -/
def Block.tim10mLoss (b : Block) : Block :=
  if b.time.ref10m && !b.time.lost then
    let b := Block.raise 354 0 { b with time := { b.time with lost := true } }
    if b.time.servo.state = .locked then b.setTState .holdover else b.requal
  else b

/-- STAMP_INTERRUPT: the last cycle of entry latches the counter into CAP; CAP_WAIT counts the wait (R355). -/
def Block.stampInterrupt (wait : Nat) (b : Block) : Block :=
  { b with time := { b.time with capNs := b.time.ns, capSec := b.time.sec, capWait := satN 255 wait } }

/-- T_path of R355, ns. -/
def tPath (tenGig tx : Bool) : Nat :=
  match tenGig, tx with
  | false, false => 112 | false, true => 96 | true, false => 64 | true, true => 52

/-- The direct stamp the SP forms from CAP (R355), as ns64; the correction is rounded to the nearest ns.
DESIGN CHOICE (log 57). -/
def TimeSt.directStamp (tenGig tx : Bool) (t : TimeSt) : Nat :=
  let back := (rne ((t.capWait + 8) * 2 * t.inc) (2 ^ 34)).1
  ofSigned 64 ((ns64Of t.capSec t.capNs : Int) - back - tPath tenGig tx)

/-- PORT_BEACON: NCOUNT with a direct stamp; two beacons after a step end its addition (R356). -/
def Block.portBeacon (port ncount : Nat) (b : Block) : Block :=
  { b with time := { b.time with ports := tupd ptpD b.time.ports port fun p =>
    let bs := ((ncount, b.ns64) :: p.beacons).take 2
    { p with beacons := bs, old := if bs.length = 2 then [] else p.old, stepAdd := if bs.length = 2 then 0 else p.stepAdd } } }

/-- EST_RECOMPUTE: every second in HOLDOVER, by the servo (R353, R539). -/
def Block.estRecompute (b : Block) : Block := if b.time.servo.state = .holdover ∧ b.spUp = true then b.reEst else b

/-- HOLDOVER_EXPIRY: HOLD_MAX has elapsed in HOLDOVER (R352). DESIGN CHOICE (log 4). -/
def Block.holdoverExpiry (b : Block) : Block :=
  let s := b.time.servo
  if b.spUp && s.state = .holdover && decide (s.holdAt + b.time.cfg.holdMax * secE ≤ b.now) then
    (b.setTState .freerun).raise 351 (((b.now - s.holdAt) / secE : Nat) : Int)
  else b

/-- STEPPED_TIMEOUT: 1 s after the latest step while no port is SLAVE (R352). -/
def Block.steppedTimeout (b : Block) : Block :=
  let s := b.time.servo
  if b.spUp && s.state = .stepped && b.time.slave.isNone && decide (s.stepAt + secE ≤ b.now) then b.setTState .freerun else b


/-- PPS_PULSE: PPS_OUT rises at the second boundary that counting has reached, or with the clock at the next one it reaches (R366,
R367). DESIGN CHOICE (log 4). -/
def Block.ppsPulse (b : Block) : Block :=
  let t := b.time
  let t := if t.carryAt.isSome || !t.run then t else t.advance ((secF - (t.ns * nsE + t.frac) + t.inc - 1) / t.inc)
  match b.time.ppsAllowed, t.carryAt with
  | true, some c => { b with time := { t with ppsHigh := some (c + t.cfg.width * msE), carryAt := none } }
  | _, _ => b

/-- PPS_PULSE_END: WIDTH of elapsed time (R366, R367). -/
def Block.ppsPulseEnd (b : Block) : Block :=
  match b.time.ppsHigh with
  | some t => if t ≤ b.now then { b with time := { b.time with ppsHigh := none } } else b
  | none => b

/-! ### The `time.` commands -/

/-- The 56-byte response of `time.read` (R369). -/
def Block.timeReadBytes (st : Stamp) (epoch : Nat) (b : Block) : List Byte :=
  let t := b.time
  st.bytes ++ leBytesInt 2 t.gm.utcOfs ++ leBytes 1 (b2n t.gm.utcValid) ++ leBytes 1 (t.slave.getD 255) ++
  leBytes 8 epoch ++ leBytes 8 t.inc ++ leBytes 8 t.freqInc ++
  leBytesInt 4 (clampI (-(2 ^ 31)) (2 ^ 31 - 1) t.servo.lastTheta) ++
  leBytes 4 (match t.slave with | some p => (tget ptpD t.ports p).linkDelay | none => 0) ++ leBytes 8 t.gmId

/-- TIME_READ_NOW (R369). -/
def timeReadNow (r : Req) (b : Block) : Block :=
  b.onOp 0x0801 r (fld r.payload 0 1 != 1) fun b =>
    if fld r.payload 0 1 != 0 || fld r.payload 1 3 != 0 then b.status r stBADARG else b.ok r (b.timeReadBytes b.stamp b.time.epoch)

/-- The stamp kept for a tick; tick 0 is the start of the clock (R369). -/
def TimeSt.tickStamp (e : Nat) (t : TimeSt) : Option Stamp :=
  if e = 0 then some {} else (t.ticks.find? fun x => x.1 == e).map (·.2)

/-- TIME_READ_TICK (R369). -/
def timeReadTick (r : Req) (b : Block) : Block :=
  b.onOp 0x0801 r (fld r.payload 0 1 == 1) fun b =>
    let e := fld r.payload 4 8
    if fld r.payload 1 3 != 0 || b.time.epoch < e || e + 65536 < b.time.epoch then b.status r stBADARG
    else match b.time.tickStamp e with
      | some st => b.ok r (b.timeReadBytes st e)
      | none => b.status r stBADARG

/-- The settings a `time.cfg` payload carries (R370). -/
def timeCfgOf (p : List Byte) : TimeCfg :=
  { profile := fld p 1 1, domain := fld p 2 1, prio1 := fld p 3 1, prio2 := fld p 4 1,
    slaveOnly := bitOf (fld p 5 1) 0
    ptpEn := (List.range 4).map fun i => bitOf (fld p (8 + i) 1) 0
    tc := (List.range 4).map fun i => bitOf (fld p (8 + i) 1) 1
    stepTh := fld p 12 4, lockTh := fld p 16 4, unlockTh := fld p 20 4, holdMax := fld p 24 4
    holdDrift := fld p 28 4, src := fld p 32 1
    ppsMode := bits (fld p 33 1) 1 0, ppsAlways := bitOf (fld p 33 1) 2, ppsPort := bits (fld p 33 1) 4 3
    ppsQueue := bits (fld p 33 1) 7 5, width := fld p 34 2 }

/-- The reserved fields of the `time.cfg` layout are 0 (R9, R370). -/
def timeCfgRsv (p : List Byte) : Bool :=
  decide (fld p 5 1 ≤ 1) && fld p 6 2 == 0 && ((List.range 4).all fun i => decide (fld p (8 + i) 1 ≤ 3)) && fld p 36 4 == 0

/-- Every field in range and every reserved field 0 (R370). -/
def timeCfgOk (p : List Byte) : Bool :=
  let c := timeCfgOf p
  fld p 0 1 == 0 && decide (c.profile ≤ 2) && timeCfgRsv p && decide (fld p 8 1 ≤ 1) && decide (fld p 9 1 ≤ 1) &&
  decide (1000 ≤ c.stepTh && c.stepTh ≤ 1000000000) && decide (20 ≤ c.lockTh && c.lockTh ≤ 10000) &&
  decide (c.lockTh < c.unlockTh && c.unlockTh ≤ 100000) && decide (1 ≤ c.holdMax && c.holdMax ≤ 86400) &&
  decide (1 ≤ c.holdDrift && c.holdDrift ≤ 50000) && decide (c.src ≤ 1) && decide (c.ppsMode ≤ 2) &&
  decide (1 ≤ c.width && c.width ≤ 500)

/-- The 40-byte layout of R370. -/
def timeCfgBytes (c : TimeCfg) : List Byte :=
  leBytes 1 2 ++ leBytes 1 c.profile ++ leBytes 1 c.domain ++ leBytes 1 c.prio1 ++ leBytes 1 c.prio2 ++
  leBytes 1 (b2n c.slaveOnly) ++ zeros 2 ++
  ((List.range 4).map fun i => BitVec.ofNat 8 (b2n (c.ptpEn.getD i false) + 2 * b2n (c.tc.getD i false))) ++
  leBytes 4 c.stepTh ++ leBytes 4 c.lockTh ++ leBytes 4 c.unlockTh ++ leBytes 4 c.holdMax ++ leBytes 4 c.holdDrift ++
  leBytes 1 c.src ++ leBytes 1 (c.ppsMode + 4 * b2n c.ppsAlways + 8 * c.ppsPort + 32 * c.ppsQueue) ++
  leBytes 2 c.width ++ zeros 4

/-- TIME_CFG (R370). -/
def timeCfg (r : Req) (b : Block) : Block :=
  b.onReq 0x0802 r fun b =>
    if fld r.payload 0 1 = 2 then (if timeCfgRsv r.payload then b.ok r (timeCfgBytes b.time.cfg) else b.status r stBADARG)
    else if timeCfgOk r.payload then b.journal false 0x0802 r else b.status r stBADARG

/-- Both appends of a `time.cfg` are done: the setting takes S (R370, R506). -/
def timeCfgCommit (r : Req) (b : Block) : Block :=
  let c := timeCfgOf r.payload
  let b : Block := { b with
    time := { b.time with cfgPend := b.time.cfgPend ++ [(b.effS, c)] }
    nv := { b.nv with store := { b.nv.store with time := c } } }
  b.answer r stOK b.effS []

/-- One time configuration takes effect; PROFILE, DOMAIN or SRC changed moves LOCKED to HOLDOVER (R370). -/
def Block.timeCfgApply (c : TimeCfg) (b : Block) : Block :=
  let o := b.time.cfg
  let hit := o.profile != c.profile || o.domain != c.domain || o.src != c.src
  let b : Block := { b with time := { b.time with
    cfg := c
    ref10m := c.src == 1, lost := if o.src = c.src then b.time.lost else false
    ports := tupdAll ptpD b.time.ports (List.range 4) fun i p =>
      if c.profile = 0 || !c.ptpEn.getD i false then { p with pstate := 3, best := none }
      else if p.pstate = 3 then { p with pstate := 4 } else p } }
  if hit && b.time.servo.state == .locked then b.setTState .holdover else b.requal

/-- TIME_CFG_EFFECT: the settings whose S has come, in acceptance order. -/
def timeCfgEffect (b : Block) : Block :=
  let due := b.time.cfgPend.filter fun x => decide (x.1 ≤ b.time.epoch)
  let b : Block := { b with time := { b.time with cfgPend := b.time.cfgPend.filter fun x => decide (b.time.epoch < x.1) } }
  due.foldl (fun b x => b.timeCfgApply x.2) b

/-- TIME_SET (R371). -/
def timeSet (r : Req) (b : Block) : Block :=
  b.onReq 0x0803 r fun b =>
    let op := fld r.payload 0 1
    let fl := fld r.payload 1 1
    if 1 < op || 1 < fl || fld r.payload 2 2 != 0 then b.status r stBADARG
    else if b.time.slave.isSome && fl == 0 then b.status r stCONFLICT
    else
      let v : Int := if op = 0 then fldInt r.payload 4 8 else fld r.payload 4 8
      Block.answer r stOK b.effS []
        { b with time := { b.time with setPend := b.time.setPend ++ [(b.effS, op == 1, v)] } }

/-- TIME_SET_EFFECT: the step is applied at tick S and STATE becomes STEPPED with EST 0xFF (R352, R353, R371). -/
def timeSetEffect (b : Block) : Block :=
  let due := b.time.setPend.filter fun x => decide (x.1 ≤ b.time.epoch)
  let b : Block := { b with time := { b.time with setPend := b.time.setPend.filter fun x => decide (b.time.epoch < x.1) } }
  due.foldl (fun b x => b.stepTo x.2.1 x.2.2 255) b

/-- TIME_PTP: the four port records; the timeout flags clear with the read (R372). -/
def timePtp (r : Req) (b : Block) : Block :=
  b.onReq 0x0804 r fun b =>
    if !allZero r.payload then b.status r stBADARG
    else
      let rec_ (i : Nat) : List Byte :=
        let p := tget ptpD b.time.ports i
        leBytes 1 i ++ leBytes 1 p.pstate ++ leBytes 1 (b2n (b.time.cfg.tc.getD i false) + 2 * b2n p.annTo) ++
          zeros 1 ++ leBytes 4 p.linkDelay ++ leBytes 4 p.discard ++ leBytes 4 p.pdelayFail
      let out := (List.range 4).flatMap rec_
      Block.ok r out { b with time := { b.time with
        ports := tupdAll ptpD b.time.ports (List.range 4) fun _ p => { p with annTo := false } } }

/-! ### Meanings -/

def execIncTransfer (v : Byte) (s : State) : Out := s.done (s.blk.incTransfer v)
def execIncSlewLapse (s : State) : Out := s.done s.blk.incLapse
/-- TIME_STEP_GO: the write of GO takes the step value of STEP_HI and STEP_LO (R349). -/
def execTimeStepGo (abs : Bool) (s : State) : Out :=
  let v : Nat := s.blk.time.stepHi.toNat * 2 ^ 32 + s.blk.time.stepLo.toNat
  s.done (s.blk.applyStep abs (if abs then (v : Int) else toSigned 64 v))
def execTcNsRead (tongs : Bool) (s : State) : Out := s.done (s.blk.tcNsRead tongs)
def execTimeNsRead (tongs : Bool) (s : State) : Out := s.done (s.blk.timeNsRead tongs)
def execEpochLoRead (tongs : Bool) (s : State) : Out := s.done (s.blk.epochLoRead tongs)
def execTimSourceSelect (ref : Bool) (s : State) : Out := s.done (s.blk.timSource ref)
def execTim10mLoss (s : State) : Out := s.done s.blk.tim10mLoss
def execStampInterrupt (wait : Nat) (s : State) : Out := s.done (s.blk.stampInterrupt wait)
def execPortBeacon (port ncount : Nat) (s : State) : Out := s.done (s.blk.portBeacon port ncount)
def execEstRecompute (s : State) : Out := s.done s.blk.estRecompute
def execHoldoverExpiry (s : State) : Out := s.done s.blk.holdoverExpiry
def execSteppedTimeout (s : State) : Out := s.done s.blk.steppedTimeout
def execPpsPulse (s : State) : Out := s.done s.blk.ppsPulse
def execPpsPulseEnd (s : State) : Out := s.done s.blk.ppsPulseEnd
def execTimeReadNow (r : Req) (s : State) : Out := s.done (timeReadNow r s.blk)
def execTimeReadTick (r : Req) (s : State) : Out := s.done (timeReadTick r s.blk)
def execTimeCfg (r : Req) (s : State) : Out := s.done (timeCfg r s.blk)
def execTimeSet (r : Req) (s : State) : Out := s.done (timeSet r s.blk)
def execTimeSetEffect (s : State) : Out := s.done (timeSetEffect s.blk)
def execTimePtp (r : Req) (s : State) : Out := s.done (timePtp r s.blk)

end Sys2Proof.Machine
end

