-- ==== Sys2Proof/Machine/Convert.lean ====
section
/-! DEFINITION. Converters, sequences and the input side: the strobe, kept conversions, urgent requests, housekeeping,
wire-break detection and the `cnv.` settings (04 and 05 of the spec, R71 to R104). -/

namespace Sys2Proof.Machine
open Sys2Proof

/-! ### Sequence entries (R94) -/

def entInput (e : Nat) : Nat := bits e 3 0
def entSettle (e : Nat) : Nat := bits e 6 4
def entTake (e : Nat) : Nat := bits e 11 8 + 1
def entGain (e : Nat) : Nat := 2 ^ bits e 14 12
def entDiff (e : Nat) : Bool := bitOf e 16
def entLast (e : Nat) : Bool := bitOf e 17
/-- Cycles of an entry. -/
def entLen (e : Nat) : Nat := entSettle e + entTake e

/-- The default sequence (R94). -/
def seqD (_ : Nat) : List Nat :=
  ((List.range 7).map fun i => 0x00010310 + i) ++ [0x00030317] ++ List.replicate 8 0

def convD (_ : Nat) : Conv := {}
def twinD (_ : Nat) : Twin := {}
def ainD (_ : Nat) : AIn := {}
def inRecD (_ : Nat) : InRec := {}
def plausD (_ : Nat) : Plaus := {}

/-- Table index of converter k of a path. -/
def cix (p : Path) (k : Nat) : Nat := match p with | .a => k | .b => 20 + k
/-- Table index of input n on a path. -/
def pix (p : Path) (n : Nat) : Nat := match p with | .a => n | .b => 160 + n

/-- Put a converter, an index's twin state or an input's bookkeeping back. -/
def Block.putConv (j : Nat) (x : Conv) (b : Block) : Block :=
  { b with cnv := { b.cnv with convs := tset convD b.cnv.convs j x } }
def Block.putTwin (k : Nat) (x : Twin) (b : Block) : Block :=
  { b with cnv := { b.cnv with twins := tset twinD b.cnv.twins k x } }
def Block.putAin (n : Nat) (x : AIn) (b : Block) : Block :=
  { b with cnv := { b.cnv with ains := tset ainD b.cnv.ains n x } }

/-- The sequence of index k. -/
def CnvSt.seq (c : CnvSt) (k : Nat) : List Nat := tget seqD c.seqs k
/-- The entry i of a sequence. -/
def entAt (s : List Nat) (i : Nat) : Nat := s.getD i 0

/-- The record of input n. -/
def Block.inRec (b : Block) (n : Nat) : InRec := tget inRecD b.cnv.inRecs n
/-- The entries of the input's converter that select it, in sequence order. -/
def Block.entriesOf (b : Block) (n : Nat) : List Nat :=
  let s := b.cnv.seq (n / 8)
  (List.range 16).filter fun i => decide (entAt s i ≠ 0) && entInput (entAt s i) == n % 8
/-- The gain of the entries that select the input. -/
def Block.gainOf (b : Block) (n : Nat) : Nat :=
  match b.entriesOf n with | [] => 1 | i :: _ => entGain (entAt (b.cnv.seq (n / 8)) i)
/-- The twin state of an index. -/
def Block.twin (b : Block) (k : Nat) : Twin := tget twinD b.cnv.twins k
/-- The protection path of input n: the index's, or the other where the input's buffer there is removed (R105, R117). -/
def Block.protPath (b : Block) (n : Nat) : Path :=
  let t := b.twin (n / 8)
  if t.onPathB then (if n % 8 ∈ t.bufB then .a else .b) else (if n % 8 ∈ t.bufA then .b else .a)
/-- Is the input removed on the path? -/
def Twin.lost (t : Twin) (p : Path) (i : Nat) : Bool :=
  match p with
  | .a => t.removedA || decide (i ∈ t.bufA)
  | .b => t.removedB || decide (i ∈ t.bufB)
/-- Neither path of the input remains (R117). -/
def Block.bothLost (b : Block) (n : Nat) : Bool := (b.twin (n / 8)).lost .a (n % 8) && (b.twin (n / 8)).lost .b (n % 8)

/-- The instant the analogue side has reached: the latest strobe edge. -/
def Block.anNow (b : Block) : Nat := if b.cnv.strobeEl < b.now then b.now else b.cnv.strobeEl

/-! ### The strobe (R91 to R93) -/

/-- Walk the sequence to the entry that holds cnv cycle `idx`, at most to its last entry. -/
def seek (s : List Nat) (fuel entry base idx : Nat) : Nat × Nat :=
  match fuel with
  | 0 => (entry, base)
  | k + 1 =>
    let e := entAt s entry
    if entLast e || idx < base + entLen e then (entry, base) else seek s k (entry + 1) (base + entLen e) idx

/-- The converter's state at a cnv edge (R92). -/
inductive CPos where
  | ended | idle | running (entry base left : Nat) | off
deriving DecidableEq, Repr

/-- Where the converter stands at cnv edge `idx`. -/
def Conv.pos (s : List Nat) (c : Conv) (idx : Nat) : CPos :=
  if !c.on then .off
  else
    let x := seek s 16 c.entry c.base idx
    let fin := x.2 + entLen (entAt s x.1)
    if idx < fin then .running x.1 x.2 (fin - idx) else if idx = fin then .ended else .idle

/-- Start entry 0 at cnv edge `idx`: the strobe edge's stamp is that of every sample of the sequence (R91). -/
def Conv.start (idx grid el ns : Nat) (c : Conv) : Conv :=
  { c with on := true, entry := 0, base := idx, grid := grid, stEl := el, stNs := ns, stIdx := idx }

/-- One converter at a strobe edge (R92). An urgent entry in progress runs on into the period that begins (R101).
DESIGN CHOICE (log 109). -/
def Conv.strobe (s : List Nat) (idx grid el ns : Nat) (c : Conv) : Conv :=
  if c.urgent.isSome then { c with skips := c.skips + 1, urgGrid := some grid }
  else match c.pos s idx with
    | .off => c.start idx grid el ns
    | .ended => c.start idx grid el ns
    | .idle => { c.start idx grid el ns with waits := c.waits + 1 }
    | .running e _ left =>
      if !entLast (entAt s e) || 1 < left then { c with skips := c.skips + 1 }
      else { c.start idx grid el ns with cuts := c.cuts + 1, cutTake := true }

/-- A complete second of counts (R103). -/
def Conv.newSecond (c : Conv) : Conv :=
  { c with skips1 := c.skips, cuts1 := c.cuts, waits1 := c.waits, skips := 0, cuts := 0, waits := 0 }

/-- The converter stops: nothing of the take in progress is kept, and an urgent entry in progress goes back to the head of its queue. -/
def Conv.halt (c : Conv) : Conv :=
  match c.urgent with
  | some (u, _) => { c with urgent := none, resume := false, queue := u :: c.queue, kept := [], on := false }
  | none => { c with kept := [], on := false }

/-! ### Verdicts and their effect (R117 to R122) -/

/-- CAUSE of a self-test and the buffers that failed on each path (R114). -/
def verdictOf (gain : Nat) (ofsA ofsB : Int) (t : TestRes) : Nat × List Nat × List Nat :=
  let ref : Int := 51200 * 16
  let far (lim : Int) (x y : Int) : Bool := decide (lim * 16 < ((x - y).natAbs : Int))
  -- Z1 is taken at gain 1, Z2 at the highest gain: the offset in force is referred to the gain of the phase
  let zF (ofs : Int) (z : List Int) : Bool :=
    (z.take 8).any (fun x => far 32 x ofs) || (z.drop 8).any (fun x => far 32 x (ofs * gain))
  let zA := zF ofsA t.zA
  let zB := zF ofsB t.zB
  let rA := far 256 t.rA ref
  let rB := far 256 t.rB ref
  -- the reference is at fault when the other converter reads it with the same deviation
  let refvA := rA && !far 32 t.xBA t.rA
  let refvB := rB && !far 32 t.xAB t.rB
  let convA := zA || (rA && !refvA)
  let convB := zB || (rB && !refvB)
  let badBuf (x : Int × Int) : Bool :=
    decide (64 * 2 * 16 < ((x.1 - x.2 - 2 * 12800 * 16).natAbs : Int)) || decide (16 * 2 * 16 < ((x.1 + x.2).natAbs : Int))
  let bufs (ok : Bool) (l : List (Int × Int)) : List Nat :=
    if ok then (List.range 8).filter fun i => match l[i]? with | some x => badBuf x | none => false else []
  let bA := bufs (!(convA || refvA)) t.tA
  let bB := bufs (!(convB || refvB)) t.tB
  (bitsOf [convA, convB, refvA, refvB, !bA.isEmpty, !bB.isEmpty], bA, bB)

/-- The union of two rising lists of numbers. -/
def unionNat (a c : List Nat) : List Nat := c.foldl (fun l x => insNat x l) a

/-- Which path protection takes after a removal: A unless A's converter is gone (R105, R117). -/
def Twin.choose (t : Twin) : Twin :=
  if t.removedA && !t.removedB then { t with onPathB := true }
  else if t.removedB && !t.removedA then { t with onPathB := false } else t

/-- MODE of R120. -/
def Twin.mode (t : Twin) : TwinMode :=
  if t.removedA && t.removedB then .none else if t.removedA then .onB else if t.removedB then .onA else .twin

/-- The events of a verdict (R118); an input with SENSOR 0 raises none (R77). -/
def Block.verdictEvents (k : Nat) (cause : Nat) (bA bB : List Nat) (q : Nat) (b : Block) : Block :=
  let cA := bitOf cause 0 || bitOf cause 2
  let cB := bitOf cause 1 || bitOf cause 3
  let b := (b.raiseIf (cA || cause == 0) (160 + k) q).raiseIf (cB || cause == 0) (180 + k) q
  ((unionNat bA bB).filter fun i => (b.inRec (8 * k + i)).sensor != 0).foldl (fun b i => b.raise (8 * k + i) q) b

/-- The parts of a path that stay in RETURNING after a verdict: those that it did not fail (R117, R122). -/
def Twin.stillReturning (cA cB : Bool) (bA bB : List Nat) (t : Twin) : Option (Path × Bool × List Nat × Nat) :=
  match t.returning with
  | none => none
  | some (p, c, bf, m) =>
    let gone := match p with | .a => cA | .b => cB
    let bad := match p with | .a => bA | .b => bB
    let c2 := c && !gone
    let bf2 := if gone then [] else bf.filter fun i => !decide (i ∈ bad)
    if c2 || !bf2.isEmpty then some (p, c2, bf2, m) else none

/-- The verdict takes effect at the resumption of sampling (R117, R118, R119, R122). -/
def Block.verdictApply (k : Nat) (b : Block) : Block :=
  let t := b.twin k
  match t.testing, t.verdict with
  | some (by_, _), some (cause, bA, bB) =>
    let cA := bitOf cause 0 || bitOf cause 2
    let cB := bitOf cause 1 || bitOf cause 3
    let ordered : Bool := match by_ with | .engine => false | .hk => false | .test _ => true | .ret _ _ => true
    let recentT := (t.transAt.filter fun x => decide (b.now < x + 60 * secE))
    let trans := if cause = 0 then b.now :: recentT else recentT
    let counted := cause = 0 ∧ !ordered
    let t2 : Twin :=
      { t with
        testing := none, verdict := none, resumed := false, count := 0, suspect := false, largest := 0
        cause := cause, verdictEp := b.time.epoch
        transAt := if counted then trans else recentT
        transOrd := (if cause = 0 ∧ ordered then b.now :: t.transOrd else t.transOrd).filter fun x => decide (b.now < x + 60 * secE)
        lastDis := if counted ∧ 3 ≤ trans.length ∧ by_ = .hk then b.now else t.lastDis
        disputed := t.disputed || decide (counted ∧ 3 ≤ trans.length) }
    let t3 : Twin := match by_ with
      | .ret _ p =>
        -- parts that pass enter RETURNING; parts that fail stay removed
        let pass := match p with | .a => t.removedA && !cA | .b => t.removedB && !cB
        let gone := match p with | .a => t.bufA | .b => t.bufB
        let back := gone.filter fun i => match p with | .a => !decide (i ∈ bA) && !cA | .b => !decide (i ∈ bB) && !cB
        if pass || !back.isEmpty then { t2 with returning := some (p, pass, back, 0) } else { t2 with returning := none }
      | _ => { t2 with returning := t.stillReturning cA cB bA bB }
    let t4 : Twin :=
      { t3 with
        removedA := t3.removedA || cA, removedB := t3.removedB || cB
        bufA := unionNat t3.bufA bA, bufB := unionNat t3.bufB bB }.choose
    let b : Block := b.putTwin k t4
    let b := b.verdictEvents k cause bA bB t.largest
    let both := (cA && cB) || !((bA.filter fun i => decide (i ∈ bB)).isEmpty)
    b.fault (if cause = 0 then .transient else if both then .loss else .lasting)
  | _, _ => b

/-- Sampling resumes at the first strobe edge at or after cycle 2,256 of the schedule (R113). -/
def Block.resume (idx el : Nat) (k : Nat) (b : Block) : Block :=
  let t := b.twin k
  match t.testing with
  | some (_, st) =>
    if st + 2256 ≤ idx && !t.resumed then
      let b : Block := { b with cnv := { b.cnv with
        twins := tset twinD b.cnv.twins k { t with resumed := true, testEnd := el }
        convs := tupdAll convD b.cnv.convs [k, 20 + k] fun _ c => { c with on := false } } }
      b.verdictApply k
    else b
  | none => b

/-- Is the index in its schedule, so that its converters follow no sequence? -/
def Twin.inSchedule (t : Twin) : Bool := t.testing.isSome && !t.resumed

/-- Entry 0 of a sequence of the converter that serves a biased input begins at `el`: the first one after a restart begins a
half-period, the fourth after that ends it and reverses the bias (R79). -/
def AIn.entry0 (el : Nat) (a : AIn) : AIn :=
  match a.start with
  | none => { a with start := some el, seqs := 0, half := [] }
  | some s =>
    if a.seqs < 3 then { a with seqs := a.seqs + 1 }
    else { a with pos := !a.pos, start := some el, seqs := 0, half := [], closed := a.closed ++ [{ pos := a.pos, start := s, fin := el, kept := a.half }] }

/-- A strobe edge lies 0 to 25 ns after an instant of the delivered grid: ns64 a multiple of 25 × P ns, but for the shift that a step
has left (R91, R93). -/
def Block.onGrid (b : Block) (el : Nat) : Bool :=
  let m : Int := 25 * (b.cnv.p : Int)
  decide (((b.ns64At el : Int) - 25 * b.cnv.shift) % m ≤ 25)

/-- STROBE_EDGE: the common strobe reaches every converter at cnv edge `idx` and ELAPSED `el`; an instant off the grid carries no
strobe. A biased input's half-periods go by the entry-0 starts of its protection path's converter. DESIGN CHOICE (log 109). -/
def Block.strobe (idx el : Nat) (b : Block) : Block :=
  if !b.onGrid el then b
  else
    let b := b.runTo el
    let c := b.cnv
    let g := c.grid + 1
    let ns := b.ns64At el
    let sec := el / secE
    let b : Block := { b with cnv := { c with
      idx := idx, strobeEl := el, strobeNs := ns, grid := g, secAt := sec
      shift := if 0 < c.shift then c.shift - 1 else if c.shift < 0 then c.shift + 1 else 0 } }
    let b := (List.range 20).foldl (fun b k => b.resume idx el k) b
    let step (j : Nat) (x : Conv) : Conv :=
      let x := if sec = c.secAt then x else x.newSecond
      if (tget twinD b.cnv.twins (j % 20)).inSchedule then x else x.strobe (b.cnv.seq (j % 20)) idx g el ns
    let b : Block := { b with cnv := { b.cnv with convs := tupdAll convD b.cnv.convs (List.range 40) step } }
    let began (n : Nat) : Bool := let x := tget convD b.cnv.convs (cix (b.protPath n) (n / 8)); x.on && x.grid == g
    { b with cnv := { b.cnv with
      ains := tupdAll ainD b.cnv.ains ((List.range 160).filter fun n => (b.inRec n).wbEn && (b.inRec n).sensor != 0 && began n)
        fun _ a => a.entry0 el } }

/-! ### Input records and their restart at S (R76, R77) -/

/-- A restart of an input's windows at `el` (R77): samples before it belong to no window, QUESTIONABLE until the first
window wholly after it, the integrator starts from 0, hold trackers restart, and the first half-period of the bias begins at the next
entry-0 start. The polarity stands: no rule sets it at a restart. DESIGN CHOICE (log 124). -/
def Block.restartInput (el n : Nat) (b : Block) : Block :=
  { b with
    cnv := { b.cnv with ains := tupd ainD b.cnv.ains n fun a =>
      { a with qUntil := el, recentre := some el, half := [], start := none, closed := [], posLast := none, negLast := none,
               dc := none, opens := 0, closes := 0, seqs := 0 } }
    acc := { b.acc with
      hist := tset (fun _ => []) (tset (fun _ => []) b.acc.hist n []) (160 + n) []
      holds := tupdAll (fun _ => ({} : Hold)) b.acc.holds [n, 160 + n] fun _ _ => { since := b.time.epoch } } }

/-- A declared break ends at `el` without a restoration, or with one: its event records the duration from Tb in ms,
rounded up (R77, R86). -/
def Block.endBreak (el n : Nat) (b : Block) : Block :=
  let a := tget ainD b.cnv.ains n
  match a.broken with
  | none => b
  | some tb =>
    Block.quantity n (((el - tb + msE - 1) / msE : Nat) : Int)
      (b.putAin n { a with broken := none, wbUntil := some el, opens := 0, closes := 0 })

/-- The fields of an input record (R76). -/
def inRecOf (p : List Byte) : InRec :=
  { sensor := fld p 1 1, wbEn := bitOf (fld p 2 1) 0, integ := bitOf (fld p 2 1) 1, invert := bitOf (fld p 2 1) 2
    scale := BitVec.ofNat 32 (fld p 4 4), fref := fld p 8 2, phase := fldInt p 10 2 }

/-- The checks of R76 on one 16-byte record. -/
def inRecOk (p : List Byte) : Bool :=
  let r := inRecOf p
  let pos : Bool := match realVal r.scale with | some v => decide (0 < v.1) | none => false
  decide (fld p 0 1 ≤ 159) && decide (r.sensor ≤ 3) && decide (fld p 2 1 ≤ 7) && fld p 3 1 == 0 && fld p 12 4 == 0 &&
  (if r.sensor = 0 then allZero (p.drop 2)
   else r.integ == (r.sensor == 1) && (if r.sensor = 1 then r.fref == 50 || r.fref == 60 else r.fref == 0) && pos &&
     decide (-9000 ≤ r.phase ∧ r.phase ≤ 9000))

/-- The 16 bytes of an input record (R76). -/
def inRecBytes (n : Nat) (r : InRec) : List Byte :=
  leBytes 1 n ++ leBytes 1 r.sensor ++ leBytes 1 (b2n r.wbEn + 2 * b2n r.integ + 4 * b2n r.invert) ++ zeros 1 ++
  leBytes 4 r.scale.toNat ++ leBytes 2 r.fref ++ leBytesInt 2 r.phase ++ zeros 4

/-- CNV_INPUT (R76). -/
def cnvInput (r : Req) (b : Block) : Block :=
  b.onReq 0x0201 r fun b =>
    if r.rd then
      let f := fld r.payload 0 1
      let n := fld r.payload 1 1
      if n = 0 || 160 < f + n || fld r.payload 2 2 != 0 then b.status r stBADARG
      else b.ok r ((List.range n).flatMap fun i => inRecBytes (f + i) (b.inRec (f + i)))
    else if inRecOk r.payload then b.journal true 0x0201 r else b.status r stBADARG

/-- Both appends of an input record are done. -/
def cnvInputCommit (r : Req) (b : Block) : Block :=
  let n := fld r.payload 0 1
  let x := inRecOf r.payload
  Block.answer r stOK b.effS [] { b with
    cnv := { b.cnv with inPend := b.cnv.inPend ++ [(b.effS, n, x)] }
    nv := { b.nv with store := { b.nv.store with inRecs := tset inRecD b.nv.store.inRecs n x } } }

/-- One input record takes effect (R77). -/
def Block.inApply (n : Nat) (x : InRec) (b : Block) : Block :=
  let b := b.restartInput b.now n
  let b := if !x.wbEn || x.sensor == 0 then b.endBreak b.now n else b
  { b with cnv := { b.cnv with inRecs := tset inRecD b.cnv.inRecs n x } }

/-- INPUT_RECORD_EFFECT: the records whose S has come. -/
def inputRecordEffect (b : Block) : Block :=
  let due := b.cnv.inPend.filter fun x => decide (x.1 ≤ b.time.epoch)
  let b : Block := { b with cnv := { b.cnv with inPend := b.cnv.inPend.filter fun x => decide (b.time.epoch < x.1) } }
  due.foldl (fun b x => b.inApply x.2.1 x.2.2) b

/-! ### Sequences (R95 to R97) -/

/-- The rules of R95 on the sequence of index k, against P and the input records. -/
def Block.seqOk (b : Block) (p k : Nat) (s : List Nat) : Bool :=
  let lasts := (List.range 16).filter fun i => entLast (entAt s i)
  match lasts with
  | [l] =>
    let used := s.take (l + 1)
    let ok1 (e : Nat) : Bool :=
      let i := entInput e
      let res := bitOf e 7 || bitOf e 15 || decide (2 ^ 18 ≤ e)
      !res && decide (bits e 14 12 ≤ 4) &&
      (if i < 8 then entDiff e && (used.all fun x => !(entInput x == i) || entGain x == entGain e)
       else if i < 12 then false
       else if i = 15 then true
       else bits e 14 12 == 0 && !entDiff e)
    s.length == 16 && (s.drop (l + 1)).all (· == 0) && used.all ok1 &&
    (used.foldl (fun a e => a + entLen e) 0) == p &&
    ((List.range 8).all fun i => (b.inRec (8 * k + i)).sensor == 0 || used.any fun e => entInput e == i)
  | _ => false

/-- The sequences a `cnv.seq` request carries, by index. -/
def seqsOf (p : List Byte) : List (Nat × List Nat) :=
  let ks := bitList (fld p 4 4) 20
  (List.range ks.length).map fun j =>
    (ks.getD j 0, (List.range 16).map fun i => fld p (8 + 64 * j + 4 * i) 4)

/-- The layout of R96 with all 20 sequences. -/
def CnvSt.seqBytes (c : CnvSt) : List Byte :=
  leBytes 2 c.p ++ zeros 2 ++ leBytes 4 0xFFFFF ++
  ((List.range 20).flatMap fun k => (c.seq k).flatMap fun e => leBytes 4 e)

/-- CNV_SEQ (R96). -/
def cnvSeq (r : Req) (b : Block) : Block :=
  b.onReq 0x0202 r fun b =>
    if r.rd then b.ok r b.cnv.seqBytes
    else
      let p := fld r.payload 0 2
      let m := fld r.payload 4 4
      let ss := seqsOf r.payload
      let ok := fld r.payload 2 2 == 0 && decide (m < 2 ^ 20) && decide (16 ≤ p ∧ p ≤ 368) &&
        r.payload.length == 8 + 64 * ss.length && (p == b.cnv.pAcc || ss.length == 20) &&
        ss.all fun x => b.seqOk p x.1 x.2
      if !ok then b.status r stBADARG
      else if b.flashBusy then b.status r stBUSY
      else Block.journal true 0x0202 r { b with cnv := { b.cnv with pAcc := p } }

/-- Both appends of a sequence set are done. -/
def cnvSeqCommit (r : Req) (b : Block) : Block :=
  let p := fld r.payload 0 2
  let ss := seqsOf r.payload
  let put (t : Tab (List Nat)) : Tab (List Nat) := ss.foldl (fun t x => tset seqD t x.1 x.2) t
  Block.answer r stOK b.effS [] { b with
    cnv := { b.cnv with seqPend := b.cnv.seqPend ++ [(b.effS, p, ss)] }
    nv := { b.nv with store := { b.nv.store with p := p, seqs := put b.nv.store.seqs } } }

/-- One sequence set takes effect at a strobe edge: the named converters end their sequences, the inputs whose entries
change restart; comparators go on (R97). An urgent entry in progress goes back to the head of its queue. DESIGN CHOICE (log 125). -/
def Block.seqApply (p : Nat) (ss : List (Nat × List Nat)) (b : Block) : Block :=
  let c := b.cnv
  let pCh := decide (c.p ≠ p)
  let ks := if pCh then List.range 20 else ss.map (·.1)
  let seqs := ss.foldl (fun t x => tset seqD t x.1 x.2) c.seqs
  let sel (s : List Nat) (i : Nat) : List Nat := s.filter fun e => decide (e ≠ 0) && entInput e == i
  let changed (n : Nat) : Bool := pCh || sel (c.seq (n / 8)) (n % 8) != sel (tget seqD seqs (n / 8)) (n % 8)
  let ins := (List.range 160).filter fun n => decide (n / 8 ∈ ks) && changed n && (b.inRec n).sensor != 0
  let b := ins.foldl (fun b n => b.restartInput b.now n) b
  { b with cnv := { b.cnv with
    p := p, seqs := seqs
    convs := tupdAll convD b.cnv.convs (ks ++ ks.map (20 + ·)) fun _ x => x.halt
    twins := tupdAll twinD b.cnv.twins ks fun _ t => { t with count := 0 } } }

/-- SEQUENCE_SET_EFFECT: at the first strobe edge at or after S. -/
def sequenceSetEffect (b : Block) : Block :=
  let due := b.cnv.seqPend.filter fun x => decide (x.1 ≤ b.time.epoch)
  let b : Block := { b with cnv := { b.cnv with seqPend := b.cnv.seqPend.filter fun x => decide (b.time.epoch < x.1) } }
  due.foldl (fun b x => b.seqApply x.2.1 x.2.2) b

/-! ### Urgent requests and housekeeping (R99 to R103) -/

/-- The gain, mode and length rules an urgent entry must meet: those of R99 bind the internal channels alone (R99, R100, R102).
DEDUCED (log 116). -/
def urgentOk (e : Nat) : Bool :=
  let i := entInput e
  let res := bitOf e 7 || bitOf e 15 || decide (2 ^ 18 ≤ e)
  !res && !entLast e && decide (4 ≤ entTake e) && decide (bits e 14 12 ≤ 4) &&
  (if i < 8 then true else if i < 12 then false else if i = 15 then true else bits e 14 12 == 0 && !entDiff e)

/-- CNV_URGENT: the request joins the converter's queue of four; the answer comes with the take (R101, R102). -/
def cnvUrgent (r : Req) (b : Block) : Block :=
  b.onReq 0x0203 r fun b =>
    let k := bits (fld r.payload 0 1) 4 0
    let p : Path := if bitOf (fld r.payload 0 1) 5 then .b else .a
    if 19 < k || 63 < fld r.payload 0 1 || 1 < fld r.payload 1 1 || fld r.payload 2 2 != 0 ||
        !urgentOk (fld r.payload 4 4) then b.status r stBADARG
    else
      let c := tget convD b.cnv.convs (cix p k)
      if 4 ≤ c.queue.length then b.status r stBUSY
      else b.putConv (cix p k) { c with queue := c.queue ++ [{ entry := fld r.payload 4 4, by_ := some r }] }

/-- The urgent entry of a housekeeping round: SETTLE 3 + TAKE 4 in the rotation ZERO, REF, SUP, TEMP (R103). -/
def hkEntry (rot : Nat) : Nat :=
  match rot % 4 with
  | 0 => 0x0001033F | 1 => 0x0000033C | 2 => 0x0000033D | _ => 0x0000033E

/-- The instant of the next round of a path (R103). -/
def CnvSt.roundAt (c : CnvSt) (p : Path) : Nat :=
  match p with
  | .a => c.hkOrg + (c.hkA + 1) * c.hkInt * msE
  | .b => c.hkOrg + (2 * c.hkB + 1) * c.hkInt * msE / 2

/-- A round's entry joins the converter's queue of at most four (R101, R103). -/
def Conv.ask (c : Conv) : Conv :=
  if 4 ≤ c.queue.length then c
  else { c with queue := c.queue ++ [{ entry := hkEntry c.rot, by_ := none }], rot := (c.rot + 1) % 4 }

/-- HOUSEKEEPING_ROUND: at its instant, one urgent entry to every converter of the path. A converter whose queue is full gets none, and
its rotation stands (R101, R103). DESIGN CHOICE (log 126). -/
def Block.hkRound (p : Path) (b : Block) : Block :=
  if b.cnv.calib && b.cnv.hkInt != 0 && decide (b.cnv.roundAt p ≤ b.now) then
    let ks := (List.range 20).map fun k => cix p k
    { b with cnv := { b.cnv with
      convs := tupdAll convD b.cnv.convs ks fun _ c => c.ask
      hkA := match p with | .a => b.cnv.hkA + 1 | .b => b.cnv.hkA
      hkB := match p with | .a => b.cnv.hkB | .b => b.cnv.hkB + 1 } }
  else b

/-- The urgent request that may start at cnv edge `idx`, and the rest of the queue: a round's entry waits for the first cycle of
entry 0, and does not hold up the requests behind it (R103). DESIGN CHOICE (log 126). -/
def Conv.nextUrgent (idx : Nat) (c : Conv) : Option (Urg × List Urg) :=
  let atStart := c.on && c.entry == 0 && c.base == idx
  let may (u : Urg) : Bool := u.by_.isSome || atStart
  (c.queue.find? may).map fun u => (u, c.queue.eraseP may)

/-- URGENT_REQUEST_START: at cnv edge `idx` a waiting request abandons the running entry, where there is one, unless the converter runs
an urgent entry already, its index is in self-test, or the other path has one in this period (R100, R101). -/
def Block.urgentStart (p : Path) (k idx : Nat) (b : Block) : Block :=
  let c := tget convD b.cnv.convs (cix p k)
  let o := tget convD b.cnv.convs (match p with | .a => 20 + k | .b => k)
  match c.nextUrgent idx, c.urgent with
  | some (u, q), none =>
    if (b.twin k).testing.isSome || o.urgent.isSome || o.urgGrid == some b.cnv.grid then b
    else
      let c : Conv := { c with queue := q, urgent := some (u, idx), urgGrid := some b.cnv.grid, kept := [] }
      match c.pos (b.cnv.seq k) idx with
      | .running e base _ => b.putConv (cix p k) { c with entry := e, base := base, resume := true }
      | _ => b.putConv (cix p k) { c with resume := false }
  | _, _ => b

/-- A cause of HK_FAIL comes or goes: the event with the cause as USER and its quantity at the rise, and a self-test at
the next strobe edge unless the converter is already removed; one rising after the resumption of a self-test whose verdict is due
starts another after it (R103, R112). The cause ends with the next result of its channel that is within the limit: the manual gives
no other end. DESIGN CHOICE (log 127). -/
def Block.hkCause (p : Path) (k cause : Nat) (bad : Bool) (q : Int) (b : Block) : Block :=
  let c := tget convD b.cnv.convs (cix p k)
  let had := decide (cause ∈ c.hkFails)
  let b : Block := b.putConv (cix p k) { c with hkFails := if bad then insNat cause c.hkFails else remNat cause c.hkFails }
  if bad && !had then
    let b := b.raiseAt ((match p with | .a => 160 | .b => 180) + k) b.stamp (some q) cause
    let t := b.twin k
    let gone := match p with | .a => t.removedA | .b => t.removedB
    if gone || t.want.isSome then b else b.putTwin k { t with want := some .hk }
  else b

/-- One housekeeping result judged and then used: the cause first, then the trim, which is held while any cause stands. While
housekeeping is off nothing is judged and the trims hold. -/
def Block.hkJudge (p : Path) (k cause : Nat) (bad : Bool) (q : Int) (trim : Conv → Conv) (b : Block) : Block :=
  if b.cnv.hkInt = 0 then b
  else
    let b := b.hkCause p k cause bad q
    let c := tget convD b.cnv.convs (cix p k)
    if c.hkFails.isEmpty then b.putConv (cix p k) (trim c) else b

/-- A housekeeping result: record, limits and trim (R103). `sum` is the sum of `n` kept codes. The causes 1 and 2 are judged on the
value in force plus what the result adds to it. DESIGN CHOICE (log 127). -/
def Block.hkResult (p : Path) (k input : Nat) (sum : Int) (n : Nat) (b : Block) : Block :=
  let c := tget convD b.cnv.convs (cix p k)
  let put (x : Conv) : Block := b.putConv (cix p k) x
  let toward (v r : Int) : Int := if 0 < r then v + 1 else if r < 0 then v - 1 else v
  if input = 15 then
    let res := rneI (sum * 16) n
    let dep := c.zeroOfs + res - c.zeroCal
    b.hkJudge p k 1 (decide (64 * 16 < dep.natAbs)) dep fun c => { c with zeroOfs := toward c.zeroOfs res }
  else if input = 12 then
    let err := rneI ((sum - 51200 * n) * 100000) (51200 * n)
    let tot := c.gainErr + err
    b.hkJudge p k 2 (decide (500 < tot.natAbs)) tot fun c => { c with gainErr := toward c.gainErr err }
  else if input = 13 then
    let mv := (rneI (sum * 3200) (65536 * n)).toNat
    (put { c with vana := mv }).hkJudge p k 3 (decide (mv < 1746) || decide (1854 < mv)) mv id
  else
    let t := rneI (sum * 8000) (65536 * n) - 3250
    (put { c with temp := t }).hkJudge p k 4 (decide (1250 < t)) t id

/-- The take of an internal channel feeds the housekeeping record; a ZERO take is referred to gain 1, and single-ended it shows no
offset (R99). -/
def Block.hkTake (p : Path) (k e : Nat) (kept : List (Int × Nat)) (b : Block) : Block :=
  let i := entInput e
  if i < 8 || (i == 15 && !entDiff e) then b
  else b.hkResult p k i (kept.foldl (fun s x => s + x.1) 0) (kept.length * if i = 15 then entGain e else 1)

/-- A code as a 32-bit word of R104: ALIGN 0 right, 1 left; a mean with `n` conversions. -/
def codeWord (align diff : Bool) (sum : Int) (n : Nat) : Nat :=
  if align then ofSigned 32 (rneI (sum * 65536) n) else
    if diff then ofSigned 32 (rneI sum n) else (rneI sum n).toNat

/-- The clipped codes of R75, whichever way the mode reads them: 0x7FFF and 0x8000 (R102). DEDUCED (log 128). -/
def clipCode (v : Int) : Bool := v == 32767 || v == -32768 || v == 32768

/-- The instant of cnv cycle sum `s` over `n` conversions, 2^−32 ns after the strobe edge's stamp (R89, R91). -/
def Block.cycles (b : Block) (s n idx : Nat) : Int := ((s : Int) - n * idx) * 25 * b.time.freqInc / (4 * n)

/-- URGENT_TAKE_COMPLETE: the take's result is delivered, an internal channel's feeds the housekeeping record, and the abandoned entry
restarts. Word 3 is the epoch of the take's last conversion (R99, R100, R102, R103). -/
def Block.urgentDone (p : Path) (k : Nat) (b : Block) : Block :=
  let c := tget convD b.cnv.convs (cix p k)
  match c.urgent with
  | none => b
  | some (u, idx) =>
    let n := c.kept.length
    if n < entTake u.entry then b
    else
      let codes := c.kept.map (·.1)
      let sum : Int := codes.foldl (· + ·) 0
      let lo := codes.foldl min (codes.headD 0)
      let hi := codes.foldl max (codes.headD 0)
      let sumI : Nat := (c.kept.map (·.2)).foldl (· + ·) 0
      let last := (c.kept.map (·.2)).foldl max 0
      let b : Block := b.putConv (cix p k)
        { c with urgent := none, resume := false, kept := [], base := if c.resume then idx + entLen u.entry else c.base }
      let b := b.hkTake p k u.entry c.kept
      match u.by_ with
      | none => b
      | some r =>
        let al := bitOf (fld r.payload 1 1) 0
        let d := entDiff u.entry
        let inst := ((b.cnv.strobeEl : Int) + b.cycles sumI n b.cnv.idx).toNat
        let fin := ((b.cnv.strobeEl : Int) + b.cycles last 1 b.cnv.idx).toNat
        b.answer r stOK (b.time.epochAt fin) (
          leBytes 4 (codeWord al d sum n) ++ leBytes 4 (codeWord al d lo 1) ++ leBytes 4 (codeWord al d hi 1) ++
          leBytes 1 n ++ leBytes 1 (b2n (codes.any clipCode)) ++ zeros 2 ++ (b.stampAt inst).bytes)

/-- The 16-byte housekeeping record (R103): the trims are held while a cause stands and while housekeeping is off. -/
def Conv.hkBytes (slew off : Bool) (c : Conv) : List Byte :=
  leBytesInt 2 c.zeroOfs ++ leBytesInt 2 c.gainErr ++ leBytes 2 c.vana ++ leBytesInt 2 c.temp ++
  leBytes 2 (b2n (!c.hkFails.isEmpty) + 2 * b2n (off || !c.hkFails.isEmpty) + 4 * b2n slew) ++
  leBytes 2 c.skips1 ++ leBytes 2 c.cuts1 ++ leBytes 2 c.waits1

/-- CNV_HOUSE (R103). -/
def cnvHouse (r : Req) (b : Block) : Block :=
  b.onReq 0x0204 r fun b =>
    if r.rd then
      b.ok r (leBytes 4 b.cnv.hkInt ++
        ((List.range 40).flatMap fun j => (tget convD b.cnv.convs j).hkBytes (b.cnv.shift != 0) (b.cnv.hkInt == 0)))
    else
      let i := fld r.payload 0 4
      if i = 0 || (100 ≤ i && i ≤ 10000) then b.journal false 0x0204 r else b.status r stBADARG

/-- Both appends of a housekeeping interval are done. -/
def cnvHouseCommit (r : Req) (b : Block) : Block :=
  let i := fld r.payload 0 4
  Block.answer r stOK b.effS [] { b with
    cnv := { b.cnv with hkPend := b.cnv.hkPend ++ [(b.effS, i)] }
    nv := { b.nv with store := { b.nv.store with hkInt := i } } }

/-- HOUSE_EFFECT: a new interval, with the tick S as the origin C (R103). -/
def houseEffect (b : Block) : Block :=
  let due := b.cnv.hkPend.filter fun x => decide (x.1 ≤ b.time.epoch)
  let b : Block := { b with cnv := { b.cnv with hkPend := b.cnv.hkPend.filter fun x => decide (b.time.epoch < x.1) } }
  due.foldl (fun b x => { b with cnv := { b.cnv with hkInt := x.2, hkOrg := tickE x.1, hkA := 0, hkB := 0 } }) b

/-! ### Wire-break evaluation (R79 to R86) -/

/-- D_th in mV by gain (R82). -/
def dthMv (g : Nat) : Nat := if g ≤ 4 then 400 else if g = 8 then 320 else 160

/-- Is D at or above D_th? `d` is the sum of two samples less the sum of two, in 1/16 code (R81). -/
def openD (g : Nat) (d : Int) : Bool := decide (((dthMv g * 2 * 16 * 65536 * g : Nat) : Int) ≤ d * 3200)

/-- The last two kept samples of a half, where it kept two (R81). -/
def lastTwo (l : List Int) : Option (Int × Int) :=
  match l with | x :: y :: _ => some (x, y) | _ => none

/-- WIRE_BREAK_EVALUATION of input n: the oldest half-period that has ended is evaluated. D is formed from the most recent positive and
negative half that kept two samples and judged; two open evaluations declare, with Tb the start of the earlier of the two halves that
the first of them compares, and two below restore (R81, R84, R86). Where the half just before kept fewer than two samples, the last
older one of its polarity stands for it. DESIGN CHOICE (log 124). -/
def Block.wbEval (n : Nat) (b : Block) : Block :=
  let r := b.inRec n
  let a := tget ainD b.cnv.ains n
  match a.closed with
  | [] => b
  | h :: rest =>
    if !(r.wbEn && r.sensor != 0 && b.cnv.calib) then b
    else
      let cur : Option ((Int × Int) × Nat) := (lastTwo h.kept).map fun x => (x, h.start)
      let posL := if h.pos then cur.orElse fun _ => a.posLast else a.posLast
      let negL := if h.pos then a.negLast else cur.orElse fun _ => a.negLast
      let a1 : AIn := { a with closed := rest, posLast := posL, negLast := negL }
      let put (x : AIn) : Block := b.putAin n x
      match cur, posL, negL with
      | some _, some (p, sp), some (m, sn) =>
        let d := p.1 + p.2 - m.1 - m.2
        if openD (b.gainOf n) d then
          let cand := if a.opens = 0 then (if sp < sn then sp else sn) else a.tbCand
          let a2 : AIn := { a1 with opens := a.opens + 1, closes := 0, tbCand := cand }
          if 2 ≤ a2.opens && a.broken.isNone then
            let b := put { a2 with broken := some cand, wbUntil := none }
            b.raiseAt n (b.stampAt cand) none 0
          else put a2
        else
          let below := if a.closes = 0 then h.fin else a.belowAt
          let a2 : AIn := { a1 with opens := 0, closes := a.closes + 1, belowAt := below, dc := some d }
          if 2 ≤ a2.closes && a.broken.isSome then
            let b := (put a2).endBreak h.fin n
            { b with cnv := { b.cnv with ains := tupd ainD b.cnv.ains n fun x => { x with wbUntil := some below } } }
          else put a2
      | _, _, _ => put a1

/-! ### Meanings -/

def execUrgentRequestStart (p : Path) (k idx : Nat) (s : State) : Out := s.done (s.blk.urgentStart p k idx)
def execHousekeepingRound (p : Path) (s : State) : Out := s.done (s.blk.hkRound p)
def execCnvInput (r : Req) (s : State) : Out := s.done (cnvInput r s.blk)
def execCnvSeq (r : Req) (s : State) : Out := s.done (cnvSeq r s.blk)
def execCnvUrgent (r : Req) (s : State) : Out := s.done (cnvUrgent r s.blk)
def execCnvHouse (r : Req) (s : State) : Out := s.done (cnvHouse r s.blk)
def execHouseEffect (s : State) : Out := s.done (houseEffect s.blk)

end Sys2Proof.Machine
end

