-- ==== Sys2Proof/Machine/Backstop.lean ====
section
/-! DEFINITION. The backstop: protected settings, comparators, qualifier, trip groups, and the `sys.bstop` commands
(10 of the spec, R205 to R217). -/

namespace Sys2Proof.Machine
open Sys2Proof

def cmpD (_ : Nat) : Cmp := {}
def groupD (_ : Nat) : Group := {}
def detD (_ : Nat) : Det := {}

/-! ### The settings image (R212, R213) -/

/-- The factory image: GEN 0, OUT_EN 0, everything disabled, in format `pcf`, with its CRC-32 (R212). -/
def factoryImage (pcf : Nat) : List Byte :=
  let p := leBytes 4 0 ++ leBytes 2 pcf ++ zeros 4086
  p ++ leBytes 4 (crc32 p)

/-- The comparator record of AIn: TH, HYS, CNT. -/
def bsTh (g : List Byte) (n : Nat) : Nat := fld g (16 + 8 * n) 4
def bsHys (g : List Byte) (n : Nat) : Nat := fld g (20 + 8 * n) 2
def bsCnt (g : List Byte) (n : Nat) : Nat := fld g (22 + 8 * n) 1
/-- The detector record of group d: 0 to 31 feeders, 32 to 39 voltage sets. -/
def bsDet (g : List Byte) (d : Nat) : TdRec :=
  { incTh := fld g (1296 + 8 * d) 2, incK := fld g (1298 + 8 * d) 1, twTh := fld g (1300 + 8 * d) 2 }
def bsVset (g : List Byte) (d : Nat) : Nat := fld g (1299 + 8 * d) 1
/-- The trip group record j. -/
def bsMember (g : List Byte) (j i : Nat) : Nat := fld g (1616 + 32 * j + 2 * i) 2
def bsVote (g : List Byte) (j : Nat) : Nat := fld g (1632 + 32 * j) 1
def bsEn (g : List Byte) (j : Nat) : Bool := bitOf (fld g (1633 + 32 * j) 1) 0
def bsMinOn (g : List Byte) (j : Nat) : Nat := fld g (1634 + 32 * j) 2
def bsMask (g : List Byte) (j : Nat) : Nat := fld g (1636 + 32 * j) 4
def bsOutEn (g : List Byte) : Nat := fld g 8 4
def bsGen (g : List Byte) : Nat := fld g 0 4

/-- The non-empty members of a group. -/
def bsMembers (g : List Byte) (j : Nat) : List Nat :=
  ((List.range 8).map fun i => bsMember g j i).filter (· != 0xFFFF)

/-- The first of the checks that fails, as (offset, ok) pairs. -/
def firstBad (l : List (Nat × Bool)) : Option Nat :=
  match l with | [] => none | (o, ok) :: r => if ok then firstBad r else some o

/-- The checks of R213 in offset order. -/
def bsChecks (pcf : Nat) (g : List Byte) : List (Nat × Bool) :=
  [(4, fld g 4 2 == pcf), (6, fld g 6 2 == 0), (12, fld g 12 4 == 0)] ++
  ((List.range 160).flatMap fun n =>
    let o := 16 + 8 * n
    let off := bsTh g n == 0
    [(o, off || decide (bsTh g n ≤ 1600000)), (o + 4, off || decide (bsHys g n ≤ 200)),
     (o + 6, off || decide (1 ≤ bsCnt g n ∧ bsCnt g n ≤ 4)), (o + 7, fld g (o + 7) 1 == 0)]) ++
  ((List.range 40).flatMap fun d =>
    let o := 1296 + 8 * d
    let r := bsDet g d
    [(o + 2, r.incTh == 0 || decide (1 ≤ r.incK ∧ r.incK ≤ 16)),
     (o + 3, r.twTh == 0 || (if d < 32 then decide (bsVset g d ≤ 7) || bsVset g d == 255 else bsVset g d == 255)),
     (o + 6, fld g (o + 6) 2 == 0)]) ++
  ((List.range 64).flatMap fun j =>
    let o := 1616 + 32 * j
    let off := !bsEn g j
    let ms := bsMembers g j
    ((List.range 8).map fun i =>
      let m := bsMember g j i
      (o + 2 * i, off || m == 0xFFFF || (decide (m ≤ 231) && decide (((List.range i).filter fun h => bsMember g j h == m) = []))))
    ++ [(o + 16, off || decide (1 ≤ bsVote g j ∧ bsVote g j ≤ 8 ∧ bsVote g j ≤ ms.length)),
        (o + 17, decide (fld g (o + 17) 1 ≤ 1)), (o + 18, off || decide (bsMinOn g j ≤ 1000)),
        (o + 20, off || Nat.land (bsMask g j) (bsOutEn g) == bsMask g j), (o + 24, fld g (o + 24) 8 == 0)]) ++
  [(3664, allZero (cut g 3664 428)), (4092, fld g 4092 4 == crc32 (g.take 4092))]

/-- The offset of the first failing field of a staged image; none when it may be staged. -/
def bsInvalid (pcf : Nat) (g : List Byte) : Option Nat :=
  if g.length = 4096 then firstBad (bsChecks pcf g) else some 0

/-- The protection-content format of the running image (R508). -/
def Block.pcf (b : Block) : Nat :=
  let i := if b.sys.slotB then b.nv.imgB else b.nv.imgA
  match i.hdr with | some h => h.pcf | none => 1

/-- A copy of the settings as read from flash: a committed image, or the factory image. -/
def NvSt.bsCopy (n : NvSt) (pcf : Nat) (a : Bool) : List Byte := (if a then n.bsA else n.bsB).getD (factoryImage pcf)

/-! ### Qualifier (R206) -/

/-- Input n's sources are held off: SENSOR 0, a declared break, a self-test of its index, both paths lost, or a settings
part that fails its check (R206, R115, R117). -/
def Block.heldOff (b : Block) (n : Nat) : Bool :=
  (b.inRec n).sensor == 0 || (tget ainD b.cnv.ains n).broken.isSome || (b.twin (n / 8)).testing.isSome ||
  b.bothLost n || decide (0 ∈ b.bs.bad) || decide (1 ∈ b.bs.bad)

/-- The comparator state of AIn after the qualifier: the protection path's (R106, R206). -/
def Block.cmpSet (b : Block) (n : Nat) : Bool :=
  !b.heldOff n && (tget cmpD b.bs.cmps (pix (b.protPath n) n)).on

/-- The member inputs of detector group d (R71). -/
def groupInputs (d : Nat) : List Nat := (List.range 4).map fun i => if d < 32 then 4 * d + i else 128 + 4 * (d - 32) + i

/-- The path of a detector group: that of its converter index (R105, R106). -/
def Block.grpPath (b : Block) (d : Nat) : Path := if (b.twin ((groupInputs d).headD 0 / 8)).onPathB then .b else .a
/-- Table index of detector group d on a path. -/
def dix (p : Path) (d : Nat) : Nat := match p with | .a => d | .b => 40 + d

/-- A group source of the backstop detector: INC or TWF with the members that set it, of which one at least is not held off (R206). -/
def Block.detSrc (b : Block) (d : Nat) (f : Det → Bool) (by_ : Det → List Nat) : Bool :=
  let g := tget detD b.bs.det (dix (b.grpPath d) d)
  f g && (by_ g).any fun i => !b.heldOff ((groupInputs d).getD i 0)
/-- INC and TWF of group d. -/
def Block.incSrc (b : Block) (d : Nat) : Bool := b.detSrc d (·.inc) (·.incBy)
def Block.twfSrc (b : Block) (d : Nat) : Bool := b.detSrc d (·.twf) (·.twfBy)

/-- Is a source of R210 set? -/
def Block.srcSet (b : Block) (m : Nat) : Bool :=
  if m ≤ 159 then b.cmpSet m
  else if m ≤ 191 then b.incSrc (m - 160)
  else if m ≤ 199 then b.incSrc (32 + m - 192)
  else if m ≤ 231 then b.twfSrc (m - 200)
  else false

/-! ### Trip groups (R210, R211) -/

/-- Is group j set: enabled, and at least VOTE members set? The elm part failing its check stops every group (R217). -/
def Block.groupSet (b : Block) (g : List Byte) (j : Nat) : Bool :=
  bsEn g j && b.sys.backstop && !decide (2 ∈ b.bs.bad) &&
  decide (bsVote g j ≤ ((bsMembers g j).filter b.srcSet).length)

/-- A drive ends: its time in ms is the quantity of event 320 (R211). -/
def Block.driveEnd (j : Nat) (b : Block) : Block :=
  let x := tget groupD b.bs.groups j
  if x.driving then
    Block.quantity 320 (((b.now - x.since) / msE : Nat) : Int)
      { b with bs := { b.bs with groups := tset groupD b.bs.groups j { x with driving := false, set := false } } }
  else b

/-- One group against its sources: a rising edge raises event 320 and drives, a clear starts MIN_ON (R211). -/
def Block.groupStep (g : List Byte) (j : Nat) (b : Block) : Block :=
  let x := tget groupD b.bs.groups j
  let on := b.groupSet g j
  let put (y : Group) (b : Block) : Block := { b with bs := { b.bs with groups := tset groupD b.bs.groups j y } }
  if on && !x.set then
    Block.raiseOpen 320 (put { x with set := true, driving := true, edges := x.edges + 1
                                      since := if x.driving then x.since else b.now } b)
  else if !on && x.set then
    let b := put { x with set := false, holdTo := b.now + bsMinOn g j * msE } b
    if bsMinOn g j = 0 then b.driveEnd j else b
  else b

/-- Every enabled group follows its sources. -/
def Block.groups (b : Block) : Block :=
  match b.bs.img with
  | none => b
  | some g => ((List.range 64).filter fun j => bsEn g j).foldl (fun b j => b.groupStep g j) b

/-- The outputs the backstop drives (R214). -/
def Block.bsDrive (b : Block) : Nat :=
  match b.bs.img with
  | none => 0
  | some g =>
    Nat.land (bsOutEn g) (((List.range 64).filter fun j => bsEn g j && (tget groupD b.bs.groups j).driving).foldl
      (fun m j => Nat.lor m (bsMask g j)) 0)

/-- BACKSTOP_MIN_ON_EXPIRY of group j (R211). DESIGN CHOICE (log 4). -/
def Block.minOnExpiry (j : Nat) (b : Block) : Block :=
  let x := tget groupD b.bs.groups j
  if x.driving && !x.set && decide (x.holdTo ≤ b.now) then b.driveEnd j else b

/-! ### Comparators (R207) -/

/-- THc in codes at gain g (R207). -/
def thCode (th g : Nat) : Nat := satN 32767 ((th * 65536 * g + 3199999) / 3200000)

/-- One kept conversion at a comparator. -/
def Cmp.test (thc hys cnt : Nat) (code : Int) (c : Cmp) : Cmp :=
  let a := code.natAbs
  let above := decide (thc ≤ a) || code == 32767 || code == -32768
  let below := !above && decide (a * 1000 < thc * (1000 - hys))
  if above then { on := c.on || decide (cnt ≤ c.run + 1), run := satN cnt (c.run + 1) }
  else { on := c.on && !below, run := if c.on && !below then c.run else 0 }

/-- The comparator of input n on a path tests a kept conversion (R90, R207). -/
def Block.compare (p : Path) (n gain : Nat) (code : Int) (b : Block) : Block :=
  match b.bs.img with
  | none => b
  | some g =>
    if bsTh g n = 0 then b
    else
      Block.groups { b with bs := { b.bs with
        cmps := tupd cmpD b.bs.cmps (pix p n) (Cmp.test (thCode (bsTh g n) gain) (bsHys g n) (bsCnt g n) code) } }

/-! ### Arming, commit and reload (R54, R216, R217) -/

/-- The settings load: comparator states, detector groups and group drives restart from clear (R216). -/
def Block.bsLoad (g : List Byte) (b : Block) : Block :=
  let b := (List.range 64).foldl (fun b j => b.driveEnd j) b
  let gs := tmap groupD b.bs.groups fun _ x => { edges := x.edges }
  { b with bs := { b.bs with img := some g, bad := [], cmps := [], det := [], groups := gs }
           sys := { b.sys with backstop := true } }

/-- Both copies hold the image the boot ROM armed from, after a power loss before the S of a commit; event 321 (R216). -/
def Block.bsRewrite (w : List Byte) (b : Block) : Block :=
  Block.raise 321 (bsGen w) { b with nv := { b.nv with bsA := some w, bsB := some w, bsTorn := none, bsCut := false } }

/-- BACKSTOP_ARM: the boot ROM arms from the copy that verifies with the higher GEN; one bad copy raises event 459 and DEGRADED; with
none the engine stays disarmed; after a commit that lost power before its S the other copy is rewritten (R54, R216). Whether each copy
verifies is what the boot ROM reads of flash; a copy whose programming was cut off does not. -/
def Block.arm (aOk bOk : Bool) (b : Block) : Block :=
  let g := b.nv.bsCopy b.pcf true
  let h := b.nv.bsCopy b.pcf false
  let worse : Block := { b with sys := { b.sys with degraded := true } }
  let again (w : List Byte) (x : Block) : Block := if b.nv.bsCut then x.bsRewrite w else x
  match aOk && b.nv.bsTorn != some 0, bOk && b.nv.bsTorn != some 1 with
  | false, false => worse.raise 459 2
  | true, false => again g ((worse.bsLoad g).raise 459 1)
  | false, true => again h ((worse.bsLoad h).raise 459 0)
  | true, true =>
    let w := if bsGen g < bsGen h then h else g
    if g = h then again w (b.bsLoad w) else (b.bsLoad w).bsRewrite w

/-- BACKSTOP_RELOAD: the SP reloads the failing parts from the copy in force; where no copy verifies BACKSTOP clears
(R217). A stopped SP reloads nothing (R540). -/
def Block.bsReload (aOk bOk : Bool) (b : Block) : Block :=
  if b.bs.bad.isEmpty || b.flt.spStopped then b
  else if aOk || bOk then Block.fault .transient (Block.groups { b with bs := { b.bs with bad := [] } })
  else
    let b := (List.range 64).foldl (fun b j => b.driveEnd j) b
    Block.fault .loss { b with bs := { b.bs with img := none, bad := [], groups := tmap groupD b.bs.groups fun _ x => { edges := x.edges } }
                               sys := { b.sys with backstop := false } }

/-- The CRC of an island's settings part fails at a tick: its sources are held off, the groups stop driving, and event 322
names the part (R206, R217). -/
def Block.bsCrcFail (part : Nat) (b : Block) : Block :=
  if b.bs.img.isSome && !decide (part ∈ b.bs.bad) then
    (List.range 64).foldl (fun b j => b.driveEnd j) (Block.raise 322 part { b with bs := { b.bs with bad := insNat part b.bs.bad } })
  else b

/-- The reserved bytes of `sys.bstop` are 0 and nothing follows the operand that OP takes (R9, R216). -/
def bstopArgs (p : List Byte) : Bool := fld p 1 3 == 0 && p.length == (if fld p 0 1 = 2 then 8 else 4)

/-- SYS_BSTOP_READ, and the reserved operations. -/
def bstopRead (r : Req) (b : Block) : Block :=
  b.onOp 0x0105 r (fld r.payload 0 1 == 0 || decide (3 < fld r.payload 0 1)) fun b =>
    if 3 < fld r.payload 0 1 ∨ !bstopArgs r.payload then b.status r stBADARG
    else match b.bs.img with | some g => b.ok r g | none => b.status r stNOTREADY

/-- SYS_BSTOP_STAGE (R213, R216). -/
def bstopStage (r : Req) (b : Block) : Block :=
  b.onOp 0x0105 r (fld r.payload 0 1 == 1) fun b =>
    if !bstopArgs r.payload then b.status r stBADARG
    else match bsInvalid b.pcf (memRead b.bs.stage 0 4096) with
    | none => Block.ok r [] { b with bs := { b.bs with staged := true } }
    | some o => b.answer r stBADARG b.time.epoch (leBytes 2 o)

/-- SYS_BSTOP_COMMIT: the image with GEN + 1 and its CRC-32 is ordered into copy B, then copy A (R216).
DESIGN CHOICE (log 119). -/
def bstopCommit (r : Req) (b : Block) : Block :=
  b.onOp 0x0105 r (fld r.payload 0 1 == 2) fun b =>
    let g := memRead b.bs.stage 0 4096
    if 128 ≤ r.client then b.status r stNOAUTH
    else if !bstopArgs r.payload || !b.bs.staged || fld g 4092 4 != fld r.payload 4 4 then b.status r stBADARG
    else if b.bs.commit.isSome || b.flashBusy then b.status r stBUSY
    else
      let gen := match b.bs.img with | some i => bsGen i + 1 | none => 1
      let h := leBytes 4 gen ++ (g.drop 4).take 4088
      let h := h ++ leBytes 4 (crc32 h)
      Block.order (.backstop 1) { b with bs := { b.bs with commit := some (r, h) } }

/-- A copy verified by read-back is torn no more. -/
def NvSt.bsWritten (copy : Nat) (g : List Byte) (n : NvSt) : NvSt :=
  let t := if n.bsTorn = some copy then none else n.bsTorn
  if copy = 1 then { n with bsB := some g, bsTorn := t } else { n with bsA := some g, bsTorn := t }

/-- A backstop copy has been programmed and read back, or has failed with a status. The commit runs until S, the first tick after both
copies (R216). -/
def bstopCopyDone (copy st : Nat) (b : Block) : Block :=
  match b.bs.commit with
  | none => b
  | some (r, g) =>
    if copy = 1 then
      if st = stOK then Block.order (.backstop 0) { b with nv := b.nv.bsWritten 1 g }
      else Block.status r st { b with bs := { b.bs with commit := none } }
    else
      let b : Block := { b with bs := { b.bs with load := some (b.time.epoch + 1, g) } }
      if st = stOK then Block.answer r stOK (b.time.epoch + 1) [] { b with nv := b.nv.bsWritten 0 g }
      else Block.answer r stWORN (b.time.epoch + 1) []
        (Block.raise 459 0 { b with sys := { b.sys with degraded := true } })

/-- BACKSTOP_COMMIT_EFFECT: at S the registers load, BACKSTOP sets and event 321 is raised with GEN (R216, R217). -/
def bstopEffect (b : Block) : Block :=
  match b.bs.load with
  | some (s, g) =>
    if s ≤ b.time.epoch then (Block.bsLoad g { b with bs := { b.bs with load := none, commit := none }, nv := { b.nv with bsCut := false } }).raise 321 (bsGen g) else b
  | none => b

/-- The 296 bytes of STATE (R216). -/
def Block.bstopBytes (b : Block) : List Byte :=
    let cm := maskOf ((List.range 160).filter b.cmpSet)
    let dm := maskOf ((List.range 40).filter b.incSrc)
    let tw := maskOf ((List.range 32).filter b.twfSrc)
    let gm := maskOf ((List.range 64).filter fun j => (tget groupD b.bs.groups j).driving)
    (leBytes 20 cm ++ leBytes 8 dm ++ leBytes 4 tw ++ leBytes 8 gm ++
      ((List.range 64).flatMap fun j => leBytes 4 (tget groupD b.bs.groups j).edges))

/-- SYS_BSTOP_STATE (R216). -/
def bstopState (r : Req) (b : Block) : Block :=
  b.onOp 0x0105 r (fld r.payload 0 1 == 3) fun b =>
    if bstopArgs r.payload then b.ok r b.bstopBytes else b.status r stBADARG

/-! ### Meanings -/

def execSysBstopRead (r : Req) (s : State) : Out := s.done (bstopRead r s.blk)
def execSysBstopStage (r : Req) (s : State) : Out := s.done (bstopStage r s.blk)
def execSysBstopCommit (r : Req) (s : State) : Out := s.done (bstopCommit r s.blk)
def execSysBstopState (r : Req) (s : State) : Out := s.done (bstopState r s.blk)

end Sys2Proof.Machine
end

