-- ==== Sys2Proof/Machine/Real.lean ====
section
/-! DEFINITION. The real functions that rules name (R131, R156, R158, R162, R269, R272): sine and cosine, arc, natural logarithm and
exponential, in fixed point at the scale 2^−256, and the rounding of their results to REAL32. The series are carried to that scale,
so that a result stands within 2^−240 of the exact value. DEDUCED (log 123). -/

namespace Sys2Proof.Machine
open Sys2Proof

/-- One at the scale of this file. -/
def rOne : Nat := 2 ^ 256
/-- π and ln 2 at that scale. -/
def rPi : Nat := 363771576891766324280234942777729862653393377328392429958772151117938894466185
def rLn2 : Nat := 80260960185991308862233904206310070533990667611589946606122867505419956976172

/-- A product at scale. -/
def rMul (a b : Int) : Int := a * b / (rOne : Int)

/-! ### Sine and cosine -/

/-- The alternating series of sine and cosine from term `t`, whose power is `k`. -/
def trigTerms (fuel k : Nat) (x2 t acc : Int) : Int :=
  match fuel with
  | 0 => acc
  | n + 1 => let u := -(rMul t x2) / ((k + 1) * (k + 2) : Nat); trigTerms n (k + 2) x2 u (acc + u)

/-- Cosine and sine of `n / d` turns. The angle is reduced exactly; at the multiples of 30° the values ½ are exact. -/
def cis (n : Int) (d : Nat) : Int × Int :=
  let f := (n % (d : Int)).toNat
  let q := 4 * f / d
  let r := 4 * f - q * d
  let x : Int := (2 * rPi * r / (4 * d) : Nat)
  let x2 := rMul x x
  let c : Int := if 3 * r = 2 * d then (rOne / 2 : Nat) else trigTerms 36 0 x2 rOne rOne
  let s : Int := if 3 * r = d then (rOne / 2 : Nat) else trigTerms 36 1 x2 x x
  match q with
  | 0 => (c, s)
  | 1 => (-s, c)
  | 2 => (-c, -s)
  | _ => (s, -c)

/-! ### Arc -/

/-- √ at scale. -/
def rSqrt (v : Nat) : Nat := isqrt (v * rOne)

/-- The tangent of half an arc from its tangent, at scale. -/
def halfTan (t : Nat) : Nat := t * rOne / (rOne + rSqrt (rOne + t * t / rOne))

/-- The series of the arc tangent from power `p` of order `k`. -/
def atanTerms (fuel k : Nat) (t2 p acc : Int) : Int :=
  match fuel with
  | 0 => acc
  | n + 1 => let u := -(rMul p t2); atanTerms n (k + 2) t2 u (acc + u / ((k + 2 : Nat) : Int))

/-- The arc, in degrees at scale, whose tangent is `y / x`, for `0 ≤ y ≤ x` and `x` positive. -/
def atanDeg (y x : Nat) : Nat :=
  if y = x then 45 * rOne
  else
    let t : Int := (halfTan (halfTan (halfTan (y * rOne / x))) : Nat)
    (8 * atanTerms 44 1 (rMul t t) t t).toNat * (180 * rOne) / rPi

/-- arg of x + j·y in (−180°, 180°], in degrees at scale; 0 for 0. -/
def argDegS (x y : Int) : Int :=
  let a := x.natAbs
  let c := y.natAbs
  let u : Int := if a = 0 ∧ c = 0 then 0 else if c ≤ a then (atanDeg c a : Nat) else ((90 * rOne : Nat) : Int) - (atanDeg a c : Nat)
  let v : Int := if x < 0 then ((180 * rOne : Nat) : Int) - u else u
  if y < 0 then -v else v

/-- arg in 2^−32 degree, to nearest. -/
def argDeg (x y : Int) : Int := rneI (argDegS x y) (2 ^ 224)

/-! ### Logarithm and exponential -/

/-- The series of 2·artanh from power `p` of order `k`. -/
def lnTerms (fuel k : Nat) (z2 p acc : Int) : Int :=
  match fuel with
  | 0 => acc
  | n + 1 => let u := rMul p z2; lnTerms n (k + 2) z2 u (acc + u / ((k + 2 : Nat) : Int))

/-- ln (n / d) at scale, for positive n and d. -/
def rLn (n d : Nat) : Int :=
  let k := log2Q n d
  let s := scaleQ n d k
  let z : Int := ((s.1 - s.2) * rOne / (s.1 + s.2) : Nat)
  2 * lnTerms 84 1 (rMul z z) z z + k * (rLn2 : Int)

/-- The exponential series from term `t` of order `k`. -/
def expTerms (fuel k : Nat) (x t acc : Int) : Int :=
  match fuel with
  | 0 => acc
  | n + 1 => let u := rMul t x / ((k + 1 : Nat) : Int); expTerms n (k + 1) x u (acc + u)

/-- e^x of x at scale, as a mantissa at scale and a power of two. -/
def rExp (x : Int) : Nat × Int :=
  let k := x / (rLn2 : Int)
  ((expTerms 66 0 (x - k * rLn2) rOne rOne).toNat, k)

/-- A mantissa at scale times a power of two, as a fraction. -/
def expQ (e : Nat × Int) : Nat × Nat := if e.2 < 0 then (e.1, rOne * 2 ^ e.2.natAbs) else (e.1 * 2 ^ e.2.natAbs, rOne)

/-! ### Rounding -/

/-- A fraction to 200 significant bits: an exact result of fewer bits is met exactly. -/
def snapQ (n d : Nat) : Nat × Nat :=
  if n = 0 then (0, 1)
  else
    let q := log2Q n d - 200
    let m := (rne (scaleQ n d q).1 (scaleQ n d q).2).1
    if q < 0 then (m, 2 ^ q.natAbs) else (m * 2 ^ q.natAbs, 1)

/-- The REAL32 nearest to a result of this file, with the flags of the rounding. -/
def roundR (neg : Bool) (n d : Nat) : Word × FFlags := let s := snapQ n d; roundQ neg s.1 s.2

/-- √2 times a signed fraction, and the modulus of a pair over a denominator, as REAL32 rounded once. -/
def root2Q (n : Int) (d : Nat) : Word :=
  let r := (realSqrtQ (2 * n.natAbs * n.natAbs) (d * d)).1
  if n < 0 then r ||| 0x80000000 else r

/-! ### M^0.02, and the line in the logarithms (R156, R158) -/

/-- M^0.02 of M = n / d at scale 2^−256, exact where M is a whole power of 2^50. -/
def pow002 (n d : Nat) : Nat :=
  let q := expQ (rExp (rLn n d / 50))
  let s := snapQ q.1 q.2
  s.1 * rOne / s.2

/-- T on the line through (M0, T0) and (M1, T1) in the logarithms, at M; every quantity a positive fraction. -/
def logLine (m0 t0 m1 t1 m : Nat × Nat) : Nat × Nat :=
  if t0.1 * t1.2 = t1.1 * t0.2 then t0
  else
    let dm := rLn (m1.1 * m0.2) (m1.2 * m0.1)
    let dt := rLn (t1.1 * t0.2) (t1.2 * t0.1)
    let q := expQ (rExp (rLn t0.1 t0.2 + dt * rLn (m.1 * m0.2) (m.2 * m0.1) / dm))
    snapQ q.1 q.2

end Sys2Proof.Machine
end

