-- ==== Sys2Proof/Machine/Accum.lean ====
section
/-! DEFINITION. Kept conversions, take samples and the time-domain detector (05 and 07 of the spec, R88 to R90, R135,
R141 to R146). -/

namespace Sys2Proof.Machine
open Sys2Proof

def smpD (_ : Nat) : List Smp := []
def holdD (_ : Nat) : Hold := {}
def trackerD (_ : Nat) : Tracker := {}
def genD (_ : Nat) : Gen := {}
def tdRecD (_ : Nat) : TdRec := {}
/-- Default voltage set of a feeder (R145). -/
def vsetD (f : Nat) : Nat := f / 4
/-- Default window source: set v uses tracker v, feeder f tracker ⌊f/4⌋ (R130). -/
def wsrcD (i : Nat) : Nat := if i < 8 then i else (i - 8) / 4

/-! ### Windows (R125) -/

/-- WSRC index of the group of an input: 0–7 voltage sets, 8–39 feeders (R71, R130). -/
def wsrcIx (n : Nat) : Nat := if n < 128 then 8 + n / 4 else (n - 128) / 4
/-- Detector group of an input: 0–31 feeders, 32–39 voltage sets (R146). -/
def detIx (n : Nat) : Nat := if n < 128 then n / 4 else 32 + (n - 128) / 4
/-- The member number of an input in its group. -/
def memIx (n : Nat) : Nat := n % 4

/-- The window frequency of an input as a fraction in Hz, and whether its source is HELD or NOMINAL (R125, R129). -/
def Block.winFreq (b : Block) (n : Nat) : (Nat × Nat) × Bool :=
  let w := tget wsrcD b.acc.track.wsrc (wsrcIx n)
  if w = 0xFF then ((b.acc.track.fnom, 1), false)
  else let t := tget trackerD b.acc.cur.tracks w; (t.freq, t.held || t.nominal)

/-- T_w in 2^−32 ns. -/
def Block.tw (b : Block) (n : Nat) : Nat :=
  let f := (b.winFreq n).1
  if f.1 = 0 then secE / 50 else (rne (f.2 * secE) f.1).1

/-! ### Kept conversions (R88, R90) -/

/-- The trimmed code of a raw conversion: the raw code where no trim is in force (R88, R103). DESIGN CHOICE (log 10). -/
def Conv.code (c : Conv) (entry : Nat) (raw : BitVec 16) : Int :=
  let w : BitVec 16 := if c.zeroOfs = 0 ∧ c.gainErr = 0 then raw
    else Config.trimCode c.zeroOfs c.gainErr (if entDiff entry then raw.toInt else raw.toNat)
  if entDiff entry then w.toInt else w.toNat

/-- The take of the self-test schedule that cnv cycle `o` from its start belongs to (R113): 48 takes of SETTLE 3 + TAKE 16 in the phases
Z1, Z2, R and X, then per input 16 cycles of switch settling and 8 such takes. -/
def schedTake (o : Nat) : Option Nat :=
  if o < 912 then (if 3 ≤ o % 19 then some (o / 19) else none)
  else if 2256 ≤ o then none
  else
    let u := o - 912
    let v := u % 168
    if v < 16 ∨ (v - 16) % 19 < 3 then none else some (48 + 8 * (u / 168) + (v - 16) / 19)

/-- A conversion of the schedule joins its take. The takes of ZERO are held as converted, so that the offset in force can be set against
them (R114); REF is single-ended, the buffer test differential (R99, R113). DEDUCED (log 129). -/
def Conv.testConv (o : Nat) (raw : BitVec 16) (c : Conv) : Conv :=
  match schedTake o with
  | none => c
  | some t =>
    let v : Int := if t < 16 then raw.toInt else if t < 48 then c.code 0 raw else c.code 0x10000 raw
    { c with test := tupd (fun _ => ((0, 0) : Int × Nat)) c.test t fun x => (x.1 + v, x.2 + 1) }

/-- KEPT_CONVERSION: the conversion sampled at cnv edge `idx` is kept if that instant falls in the TAKE part of the
entry in progress, or of a take of the self-test schedule; it is trimmed and, for a differential entry of an external input, tested by the
input's comparator (R88, R90, R113, R207). DESIGN CHOICE (log 15). -/
def Block.keptConv (p : Path) (k idx : Nat) (raw : BitVec 16) (b : Block) : Block :=
  let c := tget convD b.cnv.convs (cix p k)
  let cmp (e : Nat) (code : Int) (b : Block) : Block :=
    if entInput e < 8 && entDiff e then b.compare p (8 * k + entInput e) (entGain e) code else b
  match (b.twin k).inSchedule, (b.twin k).testing with
  | true, some (_, st) => if st ≤ idx then b.putConv (cix p k) (c.testConv (idx - st) raw) else b
  | true, none => b
  | false, _ =>
    match c.urgent with
    | some (u, st) =>
      if st + entSettle u.entry ≤ idx && idx < st + entLen u.entry then
        let v := c.code u.entry raw
        cmp u.entry v (b.putConv (cix p k) { c with kept := (v, idx) :: c.kept })
      else b
    | none =>
      match c.pos (b.cnv.seq k) idx with
      | .running ei base _ =>
        let e := entAt (b.cnv.seq k) ei
        if base + entSettle e ≤ idx then
          let v := c.code e raw
          let old := if c.takeEnt = ei ∧ c.takeBase = base then c.kept else []
          cmp e v (b.putConv (cix p k)
            { c with kept := (v, idx) :: old, takeEnt := ei, takeBase := base, entry := ei, base := base, cutTake := false
                     takeGrid := c.grid, takeEl := c.stEl, takeNs := c.stNs, takeIdx := c.stIdx })
        else b
      | _ => b

/-! ### The time-domain detector (R141 to R144) -/

/-- Sum of `f` over the four newest samples, where there are four. -/
def sum4 (f : Smp → Int) (h : List Smp) : Option Int :=
  match h with | a :: b :: c :: d :: _ => some (f a + f b + f c + f d) | _ => none

/-- 4 × x̄ at an instant at or before the newest sample, interpolated linearly between samples. -/
def meanAt (h : List Smp) (t : Nat) : Option Int :=
  match h with
  | [] => none
  | s :: r =>
    if s.inst = t then sum4 (·.w) (s :: r)
    else match r with
      | [] => none
      | q :: _ =>
        if q.inst ≤ t then
          match sum4 (·.w) (s :: r), sum4 (·.w) r with
          | some m1, some m0 => some (m0 + rneI ((m1 - m0) * ((t - q.inst : Nat) : Int)) (s.inst - q.inst))
          | _, _ => none
        else meanAt r t

/-- The instant one window length before `t`, or in the repeated cycle before a start (R142). -/
def refAt (tw t : Nat) (startAt : Option Nat) : Nat :=
  match startAt with
  | some s => if t ≤ s then t - tw else t - ((t - s + tw - 1) / tw) * tw
  | none => t - tw

/-- Δ_n of the newest sample, in 2^−32 code (R141, R142). -/
def deltaOf (tw : Nat) (startAt : Option Nat) (h : List Smp) : Option Int :=
  match h with
  | [] => none
  | s :: _ =>
    match sum4 (·.w) h, meanAt h (refAt tw s.inst startAt) with
    | some a, some r => some (rneI (a - r) 4)
    | _, _ => none

/-- d_n of the newest sample as a fraction in codes per µs: (numerator, denominator); none across a gap (R141). -/
def slopeOf (h : List Smp) : Option (Int × Nat) :=
  if (h.take 4).any (·.gap) then none
  else match sum4 (·.x) h, sum4 (·.x) (h.drop 4), sum4 (fun s => (s.inst : Int)) h, sum4 (fun s => (s.inst : Int)) (h.drop 4) with
    | some a, some r, some ta, some tr => if tr < ta then some ((a - r) * usE, 64 * (ta - tr).toNat) else none
    | _, _, _, _ => none

/-- |d| in codes per µs, rounded, at most 65,535 (R146). -/
def slopeMag (d : Int × Nat) : Nat := satN 65535 (rne d.1.natAbs d.2).1

/-- An arrival: the instant at which d crosses TW_TH, on the side of the newest derivative, on the line between the previous one and
it, less the delays of the path (R143). -/
def crossAt (th : Nat) (t0 t1 : Nat) (d0 : Option (Int × Nat)) (d1 : Int × Nat) : Nat :=
  let t := match d0 with
    | none => t1
    | some d0 =>
      -- on the scale d0.2 × d1.2: from a0 to a1, both turned so that the newest is positive; u is where the line reaches TW_TH
      let sg : Int := if d1.1 < 0 then -1 else 1
      let a0 : Int := sg * d0.1 * d1.2
      let a1 : Int := sg * d1.1 * d0.2
      let lim : Int := th * d0.2 * d1.2
      if a0 < a1 && a0 < lim then t0 + ((lim - a0) * ((t1 - t0 : Nat) : Int) / (a1 - a0)).toNat else t1
  t - Config.twDelay

/-- One sample of member `m` at a detector group: incremental start, then travelling-wave arrival (R142, R143). `off`
holds its outputs off (R144); `ovrq` is the sample's OVERRANGE (R137). -/
def Det.sample (tw m : Nat) (invert off ovrq : Bool) (th : TdRec) (h : List Smp) (g : Det) : Det :=
  match h with
  | [] => g
  | s :: r =>
    let sg (v : Int) : Int := if invert then -v else v
    let g : Det := { g with ovrq := if ovrq then insNat m g.ovrq else remNat m g.ovrq }
    let g := match deltaOf tw g.startAt h with
      | none => g
      | some dl =>
        let hit := th.incTh != 0 && decide (((th.incTh * 2 ^ 32 : Nat) : Int) ≤ dl.natAbs)
        let run := if hit then tget natD g.runs m + 1 else 0
        let g : Det := { g with
          delta := tset (fun _ => (0 : Int)) g.delta m (sg dl), runs := tset natD g.runs m (satN 16 run)
          dmax := tupd natD g.dmax m fun x => if x < dl.natAbs && !off then dl.natAbs else x }
        if th.incK ≤ run && hit && !off then
          if g.inc then { g with incBy := insNat m g.incBy }
          else if g.againAt ≤ s.inst then { g with inc := true, incBy := [m], startAt := some s.inst } else g
        else g
    match slopeOf h with
    | none => { g with ovr := remNat m g.ovr }
    | some d =>
      let hit := th.twTh != 0 && decide (th.twTh * d.2 ≤ d.1.natAbs)
      let was := decide (m ∈ g.ovr)
      let g : Det := { g with ovr := if hit then insNat m g.ovr else remNat m g.ovr }
      let pos := decide (0 < sg d.1)
      let peak (g : Det) : Det :=
        if g.openAt.isSome then
          { g with peaks := tupd natD g.peaks m fun x => if x < slopeMag d then slopeMag d else x }
        else g
      if hit && !was && !off && decide (g.deadTo ≤ s.inst) then
        let at_ := crossAt th.twTh ((r.head?.map (·.inst)).getD s.inst) s.inst (slopeOf r) d
        match g.openAt with
        | none =>
          peak { g with openAt := some at_, lastAt := at_, arrived := [m], pol := if pos then [m] else [], peaks := [] }
        | some t0 =>
          if at_ < t0 + 20 * usE && !decide (m ∈ g.arrived) then
            peak { g with arrived := insNat m g.arrived, pol := if pos then insNat m g.pol else g.pol }
          else peak g
      else peak g

/-- Detector outputs of an input are held off by a declared break, a self-test of its index or a lost input (R144). -/
def Block.detOff (b : Block) (n : Nat) : Bool :=
  (tget ainD b.cnv.ains n).broken.isSome || (b.twin (n / 8)).testing.isSome || b.bothLost n

/-- A sample of input n on a path reaches both instances of the detector: the groups of the index's path take the input's protection
path, the groups of the other path the other one (R106, R141, R144, R209). -/
def Block.detSample (p : Path) (n : Nat) (b : Block) : Block :=
  let d := detIx n
  let g := b.grpPath d
  let j := dix (if p = b.protPath n then g else (match g with | .a => .b | .b => .a)) d
  let h := tget smpD b.acc.hist (pix p n)
  let inv := (b.inRec n).invert
  let tw := b.tw n
  let ovr := (h.head?.map (·.clip)).getD false || (tget ainD b.cnv.ains n).overInt
  let b : Block := { b with acc := { b.acc with
    det := tupd detD b.acc.det j (Det.sample tw (memIx n) inv (b.detOff n) ovr (tget tdRecD b.acc.td.recs n) h) } }
  match b.bs.img with
  | none => b
  | some g =>
    Block.groups { b with bs := { b.bs with
      det := tupd detD b.bs.det j (Det.sample tw (memIx n) inv (b.heldOff n) ovr (bsDet g d) h) } }

/-! ### Take samples (R89) -/

/-- The value of a take in 1/16 code, and whether it is clipped: the first clipped conversion decides (R75, R89). -/
def takeValue (kept : List (Int × Nat)) : Int × Bool :=
  match kept.reverse.find? fun x => clipCode x.1 with
  | some x => (16 * x.1, true)
  | none => (rneI ((kept.foldl (fun s x => s + x.1) 0) * 16) kept.length, false)

/-- The mean instant of a take, 2^−32 ns on the ELAPSED scale, from the stamp of the strobe edge that began its sequence (R89, R91). -/
def Block.takeInst (b : Block) (el idx : Nat) (kept : List (Int × Nat)) : Nat :=
  ((el : Int) + b.cycles ((kept.map (·.2)).foldl (· + ·) 0) kept.length idx).toNat

/-- Overrange bookkeeping of the protection path's samples (R87, R137). -/
def Block.overrange (n : Nat) (inst : Nat) (clip : Bool) (b : Block) : Block :=
  let a := tget ainD b.cnv.ains n
  let integ := (b.inRec n).integ
  match clip, a.clipAt with
  | true, none => Block.raiseOpen n (b.putAin n { a with clipAt := some inst, overInt := integ })
  | false, some t0 =>
    Block.quantity n (((inst - t0 + usE - 1) / usE : Nat) : Int)
      (b.putAin n { a with clipAt := none, recentre := if integ then some inst else a.recentre })
  | _, _ => b

/-- How far back samples are kept: two windows at 45 Hz, and the sixteen epochs of R138. -/
def histSpan : Nat := 70 * msE

/-- One step of the leaky trapezoidal integrator (R135), rounded to 2^−32 code: the state, the previous and the present sample in 1/64
code, the interval in 2^−32 ns, FREF and LEAK in ms. DESIGN CHOICE (log 11). -/
def integStep (y x0 x1 : Int) (dt fref leak : Nat) : Int :=
  let keep := rneI (y * ((leak * msE : Nat) - (dt : Int))) (leak * msE)
  keep + rneI ((x0 + x1) * 2 ^ 25 * ((dt * 2 * fref * rPi : Nat) : Int)) (secE * rOne)

/-- The bias polarity at an instant: that of the half in progress, or of the one before it for an instant before its start (R80). -/
def AIn.polAt (inst : Nat) (a : AIn) : Bool :=
  match a.start with | some s => if inst < s then !a.pos else a.pos | none => a.pos

/-- A kept sample joins the half-period that its instant lies in (R79, R81). -/
def AIn.keep (inst : Nat) (v : Int) (a : AIn) : AIn :=
  match a.start with
  | none => a
  | some s =>
    if s ≤ inst then { a with half := v :: a.half.take 1 }
    else { a with closed := lupd a.closed (a.closed.length - 1) fun h => { h with kept := v :: h.kept.take 1 } }

/-- Was every sample between two samples of an input produced? The next one after `s` comes from the input's next entry, or from its
first entry in the next period (R92). -/
def Smp.follows (m grid ord : Nat) (s : Smp) : Bool :=
  if s.ord + 1 < m then s.grid == grid && s.ord + 1 == ord else s.grid + 1 == grid && ord == 0

/-- TAKE_SAMPLE: the take in progress of a converter is reduced to one sample (R89), corrected for the bias (R80),
integrated (R135) and given to the windows, the wire-break halves and the detector; an internal channel feeds the
housekeeping record (R99). A clipped sample stands as converted (R87), and so counts as uncorrected. The wire-break detector takes the
protection path's samples: no rule names a path. DESIGN CHOICE (log 124). -/
def Block.takeSample (p : Path) (k : Nat) (b : Block) : Block :=
  let c := tget convD b.cnv.convs (cix p k)
  let e := entAt (b.cnv.seq k) c.takeEnt
  let full := decide (entTake e ≤ c.kept.length) || (c.cutTake && entLast e)
  if c.urgent.isSome || c.kept.isEmpty || !full || (b.twin k).inSchedule then b
  else
    let kept := c.kept
    let b : Block := b.putConv (cix p k) { c with kept := [], cutTake := false }
    let i := entInput e
    if 8 ≤ i then b.hkTake p k e kept
    else
      let n := 8 * k + i
      let r := b.inRec n
      if r.sensor = 0 || !b.cnv.calib then b
      else
        let v := takeValue kept
        let a := tget ainD b.cnv.ains n
        let h := tget smpD b.acc.hist (pix p n)
        let inst := b.takeInst c.takeEl c.takeIdx kept
        let biased := r.wbEn && !v.2
        let x : Int := 4 * v.1 - (if biased then (match a.dc with | some d => if a.polAt inst then d else -d | none => 0) else 0)
        let w : Int := if r.integ then
            (match h with
             | [] => 0
             | s :: _ => integStep s.w s.x x (inst - s.inst) r.fref b.acc.track.leak)
          else x * 2 ^ 26
        let es := b.entriesOf n
        let ord := es.idxOf c.takeEnt
        let gap := match h with | [] => false | s :: _ => !s.follows es.length c.takeGrid ord
        let s : Smp := { inst := inst, idx := (kept.getLast?.map (·.2)).getD 0 % 2 ^ 32, n := kept.length, grid := c.takeGrid, ord := ord
                         x := x, w := w, clip := v.2, gap := gap, raw := r.wbEn && (a.dc.isNone || v.2), gain := entGain e }
        let b : Block := { b with acc := { b.acc with
          hist := tset smpD b.acc.hist (pix p n) (s :: h.filter fun q => decide (inst < q.inst + histSpan)) } }
        if p = b.protPath n then
          let b := if r.wbEn && ord == 0 then b.putAin n (a.keep inst v.1) else b
          (b.overrange n inst v.2).detSample p n
        else b.detSample p n

/-! ### Closing the detector's groups (R142, R143, R146) -/

/-- Rewrite a detector group of the bank or of the backstop, on a path. -/
def Block.updDet (bsd : Bool) (p : Path) (d : Nat) (f : Det → Det) (b : Block) : Block :=
  if bsd then Block.groups { b with bs := { b.bs with det := tupd detD b.bs.det (dix p d) f } }
  else { b with acc := { b.acc with det := tupd detD b.acc.det (dix p d) f } }

/-- The detector group of an instance on a path. -/
def Block.detOf (bsd : Bool) (p : Path) (d : Nat) (b : Block) : Det := tget detD (if bsd then b.bs.det else b.acc.det) (dix p d)

/-- The voltage set of a feeder in an instance of the detector (R145, R212). -/
def Block.vsetOf (bsd : Bool) (f : Nat) (b : Block) : Nat :=
  if bsd then (match b.bs.img with | some g => bsVset g f | none => 255) else tget vsetD b.acc.td.vset f

/-- DIR of a closing feeder group: 0 without a voltage set, 3 where no phase arrived on both, else by the polarities on
the common phase with the largest current peak (R143). The arrivals of the two belong together where their first ones lie within 20 µs of
each other: the manual does not say which do. DESIGN CHOICE (log 130). -/
def dirOf (g : Det) (v : Option Det) : Nat :=
  match v with
  | none => 0
  | some v =>
    let near := decide ((v.lastAt : Int) - g.lastAt < 20 * usE ∧ (g.lastAt : Int) - v.lastAt < 20 * usE)
    let common := if near then [0, 1, 2].filter fun i => decide (i ∈ g.arrived) && decide (i ∈ v.arrived) else []
    match common with
    | [] => 3
    | i :: r =>
      let best := r.foldl (fun m j => if tget natD g.peaks m < tget natD g.peaks j then j else m) i
      if decide (best ∈ g.pol) == decide (best ∈ v.pol) then 2 else 1

/-- The close of an arrival group on one path. Only the published path writes a record (R106, R143, R146). -/
def Block.twClosePath (bsd : Bool) (d : Nat) (p : Path) (b : Block) : Block :=
  let g := b.detOf bsd p d
  match g.openAt with
  | none => b
  | some t0 =>
    if b.anNow < t0 + 20 * usE then b
    else
      let vs := b.vsetOf bsd d
      let pv := if p = b.grpPath d then b.grpPath (32 + vs) else (match b.grpPath (32 + vs) with | .a => .b | .b => .a)
      let dir := if d < 32 && vs != 255 then dirOf g (some (b.detOf bsd pv (32 + vs))) else 0
      let twf := bsd && decide (d < 32) && dir == 1
      let b := b.updDet bsd p d fun g =>
        { g with openAt := none, deadTo := t0 + 20 * usE + msE, dir := dir, dirAt := some b.time.epoch
                 twf := twf, twfBy := if twf then g.arrived else [] }
      if bsd || p != b.grpPath d then b
      else
        let r : Arrival := { stamp := b.stampAt t0, group := d, arrived := g.arrived, pol := g.pol, dir := dir, peaks := g.peaks,
                             rseq := b.acc.rseq }
        let full := decide (256 ≤ b.acc.fifo.length)
        { b with acc := { b.acc with
          rseq := b.acc.rseq + 1, toFab := b.acc.toFab ++ [r]
          fifo := if full then b.acc.fifo else b.acc.fifo ++ [r]
          drops := if full then b.acc.drops + 1 else b.acc.drops } }

/-- TW_GROUP_CLOSE: 20 µs after the first arrival the record is written, the group is dead for 1 ms, and for the
backstop instance a FORWARD feeder group sets TWF (R143, R146, R209). DESIGN CHOICE (log 15). -/
def Block.twClose (bsd : Bool) (d : Nat) (b : Block) : Block := (b.twClosePath bsd d .a).twClosePath bsd d .b

/-- The end of the dead time on one path. -/
def Block.twDeadPath (bsd : Bool) (d : Nat) (p : Path) (b : Block) : Block :=
  let g := b.detOf bsd p d
  if g.deadTo != 0 && decide (g.deadTo ≤ b.anNow) then b.updDet bsd p d fun g => { g with deadTo := 0, twf := false, twfBy := [] } else b

/-- TW_DEAD_TIME_END: the group may open again, and TWF clears (R143, R209). -/
def Block.twDeadEnd (bsd : Bool) (d : Nat) (b : Block) : Block := (b.twDeadPath bsd d .a).twDeadPath bsd d .b

/-- The release of the frozen reference on one path. -/
def Block.incReleasePath (bsd : Bool) (d : Nat) (p : Path) (b : Block) : Block :=
  let g := b.detOf bsd p d
  let tw := b.tw (if d < 32 then 4 * d else 128 + 4 * (d - 32))
  match g.startAt with
  | none => b
  | some t0 =>
    if t0 + 2 * tw ≤ b.anNow then
      b.updDet bsd p d fun g => { g with inc := false, incBy := [], startAt := none, againAt := t0 + 3 * tw, runs := [] }
    else b

/-- INC_REFERENCE_RELEASE: 2 × T_w after a start the INC bits clear and the reference is released; the group may start
again after a further T_w (R142). -/
def Block.incRelease (bsd : Bool) (d : Nat) (b : Block) : Block := (b.incReleasePath bsd d .a).incReleasePath bsd d .b

end Sys2Proof.Machine
end

