-- ==== Sys2Proof/Machine/Generation.lean ====
section
/-! DEFINITION. The published generation: windows, quality, plausibility, recentring, min-max and frequency trackers
(06 and 07 of the spec, R108 to R112, R119, R122, R123 to R133, R136 to R138). -/

namespace Sys2Proof.Machine
open Sys2Proof

/-! ### Exact sums over a window -/

/-- Sum of two fractions. DESIGN CHOICE (log 14). -/
def addQ (a c : Int × Nat) : Int × Nat := if a.2 = c.2 then (a.1 + c.1, a.2) else (a.1 * c.2 + c.1 * a.2, a.2 * c.2)

/-- Twice the integral over [lo, hi) of the line from (t0, v0) to (t1, v1) (R125). -/
def segInt (lo hi t0 : Nat) (v0 : Int) (t1 : Nat) (v1 : Int) : Int × Nat :=
  let u := if t0 < lo then lo else t0
  let w := if hi < t1 then hi else t1
  if w ≤ u then (0, 1)
  else if u = t0 ∧ w = t1 then (((t1 - t0 : Nat) : Int) * (v0 + v1), 1)
  else (((w - u : Nat) : Int) * (2 * v0 * ((t1 - t0 : Nat) : Int) + (v1 - v0) * ((u + w - 2 * t0 : Nat) : Int)), t1 - t0)

/-- Twice the integral over [lo, hi) of the broken line through points in time order (R125). DESIGN CHOICE (log 12). -/
def trapz (lo hi : Nat) (l : List (Nat × Int)) : Int × Nat :=
  match l with
  | (t0, v0) :: (t1, v1) :: r => addQ (segInt lo hi t0 v0 t1 v1) (trapz lo hi ((t1, v1) :: r))
  | _ => (0, 1)

/-- Samples (newest first) back to the first at or before `lo`. DESIGN CHOICE (log 13). -/
def backTo (lo : Nat) (h : List Smp) : List Smp :=
  match h with
  | [] => []
  | s :: r => if s.inst ≤ lo then [s] else s :: backTo lo r

/-- Drop the samples after `hi` but the earliest of them, which brackets the edge. DESIGN CHOICE (log 13). -/
def dropTo (hi : Nat) (h : List Smp) : List Smp :=
  match h with
  | s :: t :: r => if hi ≤ t.inst then dropTo hi (t :: r) else s :: t :: r
  | l => l

/-- The samples that a window's integral uses, oldest first: those inside it and the two that bracket its edges.
DESIGN CHOICE (log 13). -/
def winSamples (lo hi : Nat) (h : List Smp) : List Smp := (backTo lo (dropTo hi h)).reverse

/-- Gaps in a window: (length of the longest, total inside the window), 2^−32 ns (R126). `p` is the strobe period. A
restart of the window is no gap (R77). -/
def gapsIn (lo hi p : Nat) (l : List Smp) : Nat × Nat :=
  let cutIn (a c : Nat) : Nat := (if hi < c then hi else c) - (if a < lo then lo else a)
  let add (g : Nat × Nat) (a c : Nat) : Nat × Nat := ((if g.1 < c - a then c - a else g.1), g.2 + cutIn a c)
  let inner := (l.zip (l.drop 1)).foldl (fun g x => if x.2.gap then add g x.1.inst x.2.inst else g) (0, 0)
  match l.head?, l.getLast? with
  | some f, some e =>
    let g := if lo + 2 * p < f.inst then add inner lo f.inst else inner
    if e.inst + 2 * p < hi then add g e.inst hi else g
  | _, _ => (hi - lo, hi - lo)

/-! ### Quality (R175) -/

/-- The quality word: the bits in the order in which R175 names them. DEDUCED (log 6). -/
def Qual.word (q : Qual) : Nat :=
  bitsOf [q.valid, q.quest, q.single, q.ovr, q.wbreak, q.blocked, q.subst, q.stale, q.test, q.remote]

/-- Bitwise union. -/
def Qual.or (a c : Qual) : Qual :=
  { valid := a.valid || c.valid, quest := a.quest || c.quest, single := a.single || c.single, ovr := a.ovr || c.ovr
    wbreak := a.wbreak || c.wbreak, blocked := a.blocked || c.blocked, subst := a.subst || c.subst
    stale := a.stale || c.stale, test := a.test || c.test, remote := a.remote || c.remote }

/-- SINGLE_PATH of an input: one path is lost and the other is not (R117). -/
def Block.single (b : Block) (n : Nat) : Bool :=
  let t := b.twin (n / 8)
  t.lost .a (n % 8) != t.lost .b (n % 8)

/-- The quality of a value of input `n` over a window that starts at `lo`, from the input's standing: wire break, twin
state, self-tests, restarts, the bias correction and the supply (R35, R77, R80, R84, R86, R112, R115, R117, R119). -/
def Block.standing (b : Block) (n lo hi : Nat) (raw : Bool) : Qual :=
  let a := tget ainD b.cnv.ains n
  let t := b.twin (n / 8)
  let wb := a.broken.isSome || (match a.wbUntil with | some u => decide (lo < u) | none => false)
  { valid := (b.inRec n).sensor != 0 && !b.bothLost n && !wb
    quest := raw || decide (lo < a.qUntil) || (t.testing.isSome && decide (t.testBeg < hi)) || decide (lo < t.testEnd) || t.suspect || t.disputed ||
      b.sys.vanaQ
    single := b.single n
    wbreak := wb }

/-! ### Extremes (R138) -/

/-- Minimum and maximum of a non-empty list of integers. DESIGN CHOICE (log 16). -/
def minMax (l : List Int) : Int × Int := (l.foldl min (l.headD 0), l.foldl max (l.headD 0))

/-- The samples of the epoch tracker of generation E: the shortest run of whole epochs before tick E, up to 16, with at least four
samples. The issuing edges bound the epochs (R17, R138). -/
def epochWin (t : TimeSt) (fuel k : Nat) (h : List Smp) : List Smp :=
  let l := h.filter fun s => decide (t.edge (t.epoch - k) ≤ s.inst ∧ s.inst < t.edge t.epoch)
  match fuel with
  | 0 => l
  | m + 1 => if 4 ≤ l.length then l else epochWin t m (k + 1) h

/-- A hold tracker takes the samples of the epoch that closed at tick E (R138). DESIGN CHOICE (log 16). -/
def Hold.take (e : Nat) (l : List Smp) (o : Hold) : Hold :=
  l.foldl (fun o s =>
    { o with
      n := o.n + 1, ovr := o.ovr || s.clip, raw := o.raw || s.raw
      min := if o.n = 0 ∨ s.w < o.min then s.w else o.min
      minAt := if o.n = 0 ∨ s.w < o.min then e else o.minAt
      max := if o.n = 0 ∨ o.max < s.w then s.w else o.max
      maxAt := if o.n = 0 ∨ o.max < s.w then e else o.maxAt }) o

/-! ### Plausibility (R108 to R112) -/

/-- √2 times a signed fraction, to the nearest integer. -/
def root2I (n : Int) (d : Nat) : Int :=
  let v : Int := ((isqrt (8 * n.natAbs * n.natAbs / (d * d)) + 1) / 2 : Nat)
  if n < 0 then -v else v

/-- The angle in turns that leads a correlator result to its published one, over 9 × 10^9: the reference of FNOM at the nanoseconds of the
tick, PHASE_CORR, and 180° for INVERT (R131). -/
def refTurns (h fnom ns : Nat) (phase : Int) (inv : Bool) : Int :=
  -((h * fnom * ns * 9 : Nat) : Int) + phase * 250000 + (if inv then 4500000000 else 0)

/-- The correlator of harmonic `h` over the window [lo, te) (R125, R131), turned by `turns` / (9 × 10^9) and, where `leak` ms is not 0,
compensated for the integrator's leak at h × f_w, which is 1 − j / (ω τ_L) (R135): 2^−48 code rms. `f` is the window frequency in Hz; the
points are (instant, value in 2^−32 code). The width of the result is the model's. DESIGN CHOICE (log 11). -/
def corr (h lo te : Nat) (f : Nat × Nat) (turns : Int) (leak : Nat) (l : List (Nat × Int)) : Int × Int :=
  let e (t : Nat) : Int × Int := cis (((te : Int) - t) * h * f.1) (f.2 * secE)
  let re := trapz lo te (l.map fun x => (x.1, x.2 * (e x.1).1))
  let im := trapz lo te (l.map fun x => (x.1, x.2 * (e x.1).2))
  let c := cis turns 9000000000
  let a : Int := re.1 * im.2
  let b : Int := im.1 * re.2
  let x : Int := a * c.1 - b * c.2
  let y : Int := a * c.2 + b * c.1
  let q : Int := if leak = 0 ∨ h * f.1 = 0 then 0 else (rOne * rOne * 1000 * f.2 / (2 * rPi * h * f.1 * leak) : Nat)
  let den := 2 * (te - lo) * re.2 * im.2 * rOne * rOne * rOne
  (root2I ((x * rOne + y * q) * 2 ^ 16) den, root2I ((y * rOne - x * q) * 2 ^ 16) den)

/-- wrap180 in 2^−32 degree: into (−180°, 180°]. -/
def wrap180 (a : Int) : Int :=
  let full : Int := 360 * 2 ^ 32
  let m := a % full
  if 180 * 2 ^ 32 < m then m - full else m

/-- Does the window from `lo` to the tick recentre the integrator of an input (R137)? -/
def Block.recentreDue (b : Block) (n lo : Nat) : Bool :=
  let a := tget ainD b.cnv.ains n
  match a.recentre with | some t => (b.inRec n).integ && decide (t ≤ lo) && a.clipAt.isNone | none => false

/-- The samples of an input's path as points (instant, value). -/
def Block.points (b : Block) (p : Path) (n lo hi : Nat) : List (Nat × Int) :=
  (winSamples lo hi (tget smpD b.acc.hist (pix p n))).map fun s => (s.inst, s.w)

/-- The mean of a path's samples over [lo, hi), in 2^−32 code (R132, R137). -/
def Block.recentreMean (b : Block) (n lo hi : Nat) (p : Path) : Int :=
  let i := trapz lo hi (b.points p n lo hi)
  rneI i.1 (2 * i.2 * (hi - lo))

/-- A phasor of an input on a path in the generation that closes at the latest tick, turned to the published reference (R131, R133,
R135): 2^−48 code rms. -/
def Block.phasorOn (b : Block) (p : Path) (n h : Nat) : Int × Int :=
  let r := b.inRec n
  let te := b.edgeNow
  corr h (te - b.tw n) te (b.winFreq n).1
    (refTurns h b.acc.track.fnom ((b.time.ticks.head?.map (·.2.ns)).getD 0) r.phase r.invert)
    (if r.integ then b.acc.track.leak else 0) (b.points p n (te - b.tw n) te)

/-- The comparison of an input's two paths in generation E: whether it disagrees, and the difference of the magnitudes in
0.1 % of the larger (R108, R109). -/
def Block.disagree (b : Block) (n : Nat) : Bool × Nat :=
  let te := b.edgeNow
  let tw := b.tw n
  let x := (b.twin (n / 8)).plaus
  let c (p : Path) : Int × Int := corr 1 (te - tw) te (b.winFreq n).1 0 0 (b.points p n (te - tw) te)
  let mag (p : Path) : Nat := isqrt ((c p).1 * (c p).1 + (c p).2 * (c p).2).toNat
  let mA := mag .a
  let mB := mag .b
  let mx := if mA < mB then mB else mA
  let df := if mA < mB then mB - mA else mA - mB
  let u : Nat := 2 ^ 48
  let magBad := decide (x.magRel * mx + x.magAbs * 1000 * u < df * 1000)
  let phBad := decide (x.phaseMin * u ≤ mA) && decide (x.phaseMin * u ≤ mB) &&
    decide (x.phase * 2 ^ 32 < (wrap180 (argDeg (c .a).1 (c .a).2 - argDeg (c .b).1 (c .b).2)).natAbs * 100)
  let wA := epochWin b.time 15 1 (tget smpD b.acc.hist (pix .a n))
  let wB := epochWin b.time 15 1 (tget smpD b.acc.hist (pix .b n))
  let pA := wA.filter fun s => wB.any fun q => q.idx == s.idx
  let pB := wB.filter fun s => wA.any fun q => q.idx == s.idx
  -- a recentring window's extremes are compared as corrected (R137)
  let sh (p : Path) : Int := if b.recentreDue n (te - tw) then b.recentreMean n (te - tw) te p else 0
  let a := minMax (pA.map fun s => s.w - sh .a)
  let d := minMax (pB.map fun s => s.w - sh .b)
  let big (m : Int × Int) : Nat := if m.1.natAbs < m.2.natAbs then m.2.natAbs else m.1.natAbs
  let xm := if big a < big d then big d else big a
  let d1 := (a.1 - d.1).natAbs
  let d2 := (a.2 - d.2).natAbs
  let dm := if d1 < d2 then d2 else d1
  let mmBad := decide (x.mmRel * xm + x.mmAbs * 1000 * 2 ^ 32 < dm * 1000)
  (magBad || phBad || mmBad, if mx = 0 then 0 else df * 1000 / mx)

/-- Is the part of input `i` (0 to 7) RETURNING on one path with the other path there to compare with (R122)? A return while the other
path is lost too is compared with nothing, and so neither ends nor fails: the manual gives no end. DESIGN CHOICE (log 18). -/
def Twin.comesBack (t : Twin) (i : Nat) : Bool :=
  match t.returning with
  | none => false
  | some (p, c, bf, _) =>
    let gone := match p with | .a => t.removedA | .b => t.removedB
    let buf := match p with | .a => t.bufA | .b => t.bufB
    ((c && !decide (i ∈ buf)) || decide (i ∈ bf)) && (c || !gone) && !t.lost (match p with | .a => .b | .b => .a) i

/-- The inputs of an index that are compared (R107, R108, R111, R122): those with SENSOR ≠ 0 whose two paths are both there, or which are
RETURNING; with a declared break or without. DESIGN CHOICE (log 19). -/
def Block.compared (b : Block) (k : Nat) (back broken : Bool) : List Nat :=
  let t := b.twin k
  ((List.range 8).filter fun i =>
    let n := 8 * k + i
    (b.inRec n).sensor != 0 && (tget ainD b.cnv.ains n).broken.isSome == broken &&
    (if back then t.comesBack i else !(t.lost .a i || t.lost .b i))).map (8 * k + ·)

/-- The parts of RETURNING are removed again and raise their events (R122). -/
def Block.returnFail (k q : Nat) (b : Block) : Block :=
  let t := b.twin k
  match t.returning with
  | none => b
  | some (p, c, bf, _) =>
    let b := b.putTwin k { t with returning := none }
    let b := b.raiseIf c ((match p with | .a => 160 | .b => 180) + k) q
    bf.foldl (fun b i => b.raise (8 * k + i) q) b

/-- The largest magnitude difference among comparisons. -/
def worst (m : Nat) (l : List (Bool × Nat)) : Nat := l.foldl (fun m x => if m < x.2 then x.2 else m) m

/-- What a generation says of the RETURNING parts of an index: a disagreement removes them, agreement is one more generation; one that
comes from an input with a declared break says nothing (R111, R122). -/
def Block.backStep (k : Nat) (b : Block) : Block :=
  let t := b.twin k
  let rs := (b.compared k true false).map b.disagree
  if rs.any (·.1) then
    (b.putTwin k { t with largest := worst t.largest rs, lastDis := b.now }).returnFail k (worst t.largest rs)
  else if (b.compared k true true).any fun n => (b.disagree n).1 then b
  else if rs.isEmpty then b
  else b.putTwin k { t with returning := t.returning.map fun x => (x.1, x.2.1, x.2.2.1, x.2.2.2 + 1) }

/-- The comparator of an index in the generation that closes now (R109, R111, R112, R119, R122): a disagreement of an input whose two
paths are there counts and makes the index QUESTIONABLE; one that comes from a declared break alone leaves the count as it is.
DESIGN CHOICE (log 19). -/
def Block.plausStep (k : Nat) (b : Block) : Block :=
  let te := b.edgeNow
  let all := b.compared k false false ++ b.compared k false true ++ b.compared k true false ++ b.compared k true true
  let lo := all.foldl (fun m n => let s := te - b.tw n; if s < m then s else m) te
  let t := b.twin k
  if all.isEmpty || b.sys.rails.getD 3 false || t.testing.isSome || decide (lo < t.testEnd) then b
  else
    let rs := (b.compared k false false).map b.disagree
    let brk := (b.compared k false true).any fun n => (b.disagree n).1
    let b := b.backStep k
    let t := b.twin k
    if rs.any (·.1) then
      let go := decide (3 ≤ t.count + 1) && !t.disputed && t.want.isNone
      b.putTwin k { t with largest := worst t.largest rs, lastDis := b.now, count := satN 255 (t.count + 1), suspect := true
                           want := if go then some .engine else t.want }
    else if brk then b
    else b.putTwin k { t with count := 0, suspect := false, largest := if t.returning.isSome then t.largest else 0 }

/-! ### One input (R125 to R133, R137, R138) -/

/-- SCALE × 3.2 V / (65,536 × g) per 2^−32 code, as a fraction (R75, R133). -/
def unitQ (scale : Word) (gain : Nat) : Int × Nat :=
  match realVal scale with
  | some v => (v.1 * 16, v.2 * 5 * 65536 * gain * 2 ^ 32)
  | none => (0, 1)

/-- Recentring of an input at the close of its window: on each path the mean is taken from the integrator's state and from
the hold extremes, and from every sample held, so that later windows meet one level throughout: the manual says nothing of these
samples (R137). DESIGN CHOICE (log 131). -/
def Block.recentrePath (n lo hi : Nat) (p : Path) (b : Block) : Block :=
  let h := tget smpD b.acc.hist (pix p n)
  let m := b.recentreMean n lo hi p
  { b with acc := { b.acc with
    hist := tset smpD b.acc.hist (pix p n) (h.map fun s => { s with w := s.w - m })
    holds := tupd holdD b.acc.holds (pix p n) fun o => if o.n = 0 then o else { o with min := o.min - m, max := o.max - m } } }

/-- The hold trackers of an input take the samples of the epoch that closes at the latest tick, on both paths (R17, R138). -/
def Block.feedHolds (n : Nat) (b : Block) : Block :=
  let t := b.time
  let feed (p : Path) (b : Block) : Block :=
    let h := tget smpD b.acc.hist (pix p n)
    let ep := (h.filter fun s => decide (t.edge (t.epoch - 1) ≤ s.inst ∧ s.inst < t.edge t.epoch)).reverse
    { b with acc := { b.acc with holds := tupd holdD b.acc.holds (pix p n) (Hold.take t.epoch ep) } }
  feed .b (feed .a b)

/-- The generation of one input (R123): its new record, with the trackers' bookkeeping in the block. The window closes at the issuing edge
of the tick (R17, R125). DESIGN CHOICE (log 12). -/
def Block.genInput (n : Nat) (b : Block) : Block × Gen :=
  let r := b.inRec n
  let te := b.edgeNow
  let tw := b.tw n
  let lo := te - tw
  let p := b.protPath n
  let a := tget ainD b.cnv.ains n
  let rec_ := b.recentreDue n lo
  let px := (List.range 15).map fun k => b.phasorOn p n (k + 1)
  let b := b.feedHolds n
  let h0 := tget smpD b.acc.hist (pix p n)
  let l := winSamples lo te h0
  let fin := (l.getLast?.map (·.inst)).getD te
  let beg := (l.head?.map (·.inst)).getD lo
  let cover := (if fin < te then fin else te) - (if lo < beg then beg else lo)
  let i1 := trapz lo te (l.map fun s => (s.inst, s.w))
  let i2 := trapz lo te (l.map fun s => (s.inst, s.w * s.w))
  let b := if rec_ then
      Block.putAin n { a with recentre := none, overInt := false } (b.recentrePath n lo te .a |>.recentrePath n lo te .b)
    else b
  let u := unitQ r.scale (b.gainOf n)
  let u48 : Int × Nat := (u.1, u.2 * 2 ^ 16)
  let dur := 2 * (if cover = 0 then 1 else cover)
  -- mean = i1 / dur, mean square = i2 / dur, in 2^−32 code and its square
  let m : Int × Nat := (i1.1, i1.2 * dur)
  let ms : Int × Nat := (i2.1, i2.2 * dur)
  let ms := if rec_ then (ms.1 * m.2 * m.2 - m.1 * m.1 * ms.2, ms.2 * m.2 * m.2) else ms
  let inner := l.filter fun s => decide (lo ≤ s.inst ∧ s.inst < te)
  let gp := gapsIn (if lo < a.qUntil then a.qUntil else lo) te (b.cnv.p * 25 * nsE) l
  let ew := epochWin b.time 15 1 (tget smpD b.acc.hist (pix p n))
  let few := decide (ew.length < 4)
  let mm := minMax (ew.map (·.w))
  let st := b.standing n lo te (inner.any (·.raw))
  let sgn : Int := if r.invert then -1 else 1
  if r.sensor = 0 then (b, { qual := { st with valid := false } })
  else
  (b,
   { rms := (realSqrtQ (ms.1 * u.1 * u.1).toNat (ms.2 * u.2 * u.2)).1,
     mean := if rec_ then 0 else realQ (sgn * m.1 * u.1) (m.2 * u.2),
     ph := px.map fun x => (realQ (x.1 * u48.1) u48.2, realQ (x.2 * u48.1) u48.2), px := px, unit := u48
     held := (b.winFreq n).2, gap := decide (0 < gp.2), recent := rec_,
     qual := { st with
       valid := st.valid && decide (gp.2 * 4 ≤ tw),
       quest := st.quest || decide (64 * usE < gp.1) || decide (tw < gp.2 * 50),
       ovr := inner.any (·.clip) },
     emin := if few then 0 else mm.1, emax := if few then 0 else mm.2,
     few := few, eover := ew.any (·.clip), eraw := ew.any (·.raw)
     hold := tget holdD b.acc.holds (pix p n) })

/-! ### Frequency trackers (R127 to R129) -/

/-- The three phase inputs of a tracker (R71, R127). -/
def trackInputs (t : Nat) : List Nat := (List.range 3).map fun i => if t < 8 then 128 + 4 * t + i else 4 * (t - 8) + i

/-- M of R128. -/
def trackM (fnom : Nat) : Nat := if fnom = 60 then 533 else 640

/-- 32 code steps at an input's gain, in primary units (R129). -/
def Block.floorMag (b : Block) (n : Nat) : Int × Nat :=
  let u := unitQ (b.inRec n).scale (b.gainOf n)
  (32 * 2 ^ 32 * u.1, u.2)

/-- What a tracker takes of an input: its fundamental phasor in 2^−48 code, what one of these is in primary units, whether it may be used,
and its quality. -/
structure TrkIn where
  px   : Int × Int := (0, 0)
  unit : Int × Nat := (0, 1)
  ok   : Bool := false
  qual : Qual := {}
deriving DecidableEq, Repr

/-- The positive-sequence phasor (A + a·B + a²·C) / 3 of three inputs in primary units, or the phasor of one: ((re, im), denominator)
(R127). -/
def seqPhasor (l : List TrkIn) : (Int × Int) × Nat :=
  match l with
  | [x, y, z] =>
    let d := x.unit.2 * y.unit.2 * z.unit.2
    let v (i : TrkIn) (o : Nat) (c : Int × Int) : Int × Int :=
      let k : Int := i.unit.1 * (o : Int)
      (k * (i.px.1 * c.1 - i.px.2 * c.2), k * (i.px.1 * c.2 + i.px.2 * c.1))
    let a := v x (y.unit.2 * z.unit.2) (rOne, 0)
    let b := v y (x.unit.2 * z.unit.2) (cis 1 3)
    let c := v z (x.unit.2 * y.unit.2) (cis 2 3)
    ((a.1 + b.1 + c.1, a.2 + b.2 + c.2), 3 * d * rOne)
  | [x] => ((x.px.1 * x.unit.1, x.px.2 * x.unit.1), x.unit.2)
  | _ => ((0, 0), 1)

/-- One tracker in one generation (R127 to R129). -/
def Block.trackStep (src : Nat → TrkIn) (t : Nat) (x : Tracker) (b : Block) : Tracker :=
  let m := trackM b.acc.track.fnom
  let ok := (trackInputs t).filter fun n => (src n).ok
  let use := if ok.length = 3 then ok else ok.take 1
  let v := seqPhasor (use.map src)
  let sq : Int × Nat := (v.1.1 * v.1.1 + v.1.2 * v.1.2, v.2 * v.2)
  let mag : Word := (realSqrtQ sq.1.toNat sq.2).1
  let ang : Int := argDeg v.1.1 v.1.2
  let un := match x.theta with | [] => ang | o :: _ => o + wrap180 (ang - o)
  let theta := (un :: x.theta).take (m + 1)
  let thr := ((use.map b.floorMag) ++ [(realVal (tget (fun _ => (0 : Word)) b.acc.track.minMag t)).getD (0, 1)])
  let low := use.isEmpty || thr.any fun q => ltQ sq (q.1 * q.1, q.2 * q.2)
  let good := if low then 0 else satN (m + 1) (x.good + 1)
  let q0 := use.foldl (fun (q : Qual) n => q.or (src n).qual) {}
  let allV := !use.isEmpty && use.all fun n => (src n).qual.valid
  let live := !low && (!x.held || decide (m + 1 ≤ good))
  if live then
    let num : Int := (un - theta.getD m un) * 100000000 + (b.acc.track.fnom * (2 ^ 32 * 360 * m * 3125) : Nat)
    let den : Nat := 2 ^ 32 * 360 * m * 3125
    let lim := decide (num < 45 * (den : Int)) || decide (65 * (den : Int) < num)
    let f : Nat × Nat := if num < 45 * (den : Int) then (45, 1) else if 65 * (den : Int) < num then (65, 1) else (num.toNat, den)
    { x with freq := f, held := false, nominal := false, limit := lim, mag := mag, theta := theta, good := good, used := use,
             qual := { q0 with valid := allV } }
  else
    { x with held := true, heldAt := if x.held then x.heldAt else b.now, mag := mag, theta := theta, good := good, used := use,
             qual := { q0 with valid := false } }

/-- The detector group with a tracker's inputs: it has the tracker's converter index. -/
def trackGrp (t : Nat) : Nat := if t < 8 then 32 + t else t - 8

/-- What a tracker takes of an input on its protection path, from the generation in `gens`, or on its check path (R106, R127). -/
def Block.trkIn (b0 : Block) (gens : Tab Gen) (pub : Bool) (n : Nat) : TrkIn :=
  let g := tget genD gens n
  let sens := (b0.inRec n).sensor != 0
  if pub then { px := g.px.headD (0, 0), unit := g.unit, ok := sens && g.qual.valid, qual := g.qual }
  else
    let q : Path := match b0.protPath n with | .a => .b | .b => .a
    { px := b0.phasorOn q n 1, unit := g.unit, ok := sens && g.qual.valid && !(b0.twin (n / 8)).lost q (n % 8), qual := g.qual }

/-- Every tracker on both paths: the published one takes the protection paths of its inputs, the other one their check paths
(R106, R123). -/
def Block.trackAll (b0 : Block) (gens : Tab Gen) : Tab Tracker :=
  (List.range 40).foldl (fun tr t =>
    let p := b0.grpPath (trackGrp t)
    let q : Path := match p with | .a => .b | .b => .a
    let one (p : Path) (pub : Bool) (tr : Tab Tracker) : Tab Tracker :=
      tset trackerD tr (dix p t) (b0.trackStep (b0.trkIn gens pub) t (tget trackerD b0.acc.trk (dix p t)))
    one q false (one p true tr)) b0.acc.trk

/-! ### Publication -/

/-- Generation E of every input and tracker is published at once, with its plausibility result (R18, R22, R108, R123). -/
def Block.generate (b : Block) : Block :=
  let e := b.time.epoch
  let b0 := (List.range 20).foldl (fun b k => b.plausStep k) b
  let r := (List.range 160).foldl (fun (x : Block × Tab Gen) n =>
    let y := x.1.genInput n
    (y.1, tset genD x.2 n y.2)) (b0, [])
  let b := r.1
  let trk := b0.trackAll r.2
  let pub := (List.range 40).foldl (fun tr t => tset trackerD tr t (tget trackerD trk (dix (b0.grpPath (trackGrp t)) t))) []
  { b with acc := { b.acc with
    prev := b.acc.cur, cur := { epoch := e, gens := r.2, tracks := pub, twins := b.cnv.twins }, trk := trk } }

/-- ACC_GENERATION_PUBLISH: 7.5 µs after tick E, once in the epoch, generation E is published (R18). DESIGN CHOICE (log 4). -/
def Block.publish (b : Block) : Block :=
  if b.time.run && decide (b.acc.cur.epoch < b.time.epoch) then (b.runTo (b.edgeNow + 7500 * nsE)).generate else b

/-- A tracker held for 2 s publishes FNOM (R129). -/
def Tracker.lapse (now fnom : Nat) (x : Tracker) : Tracker :=
  if x.held && !x.nominal && decide (x.heldAt + 2 * secE ≤ now) then { x with nominal := true, freq := (fnom, 1) } else x

/-- TRACKER_NOMINAL_TIMEOUT: 2 s held, on either path (R106, R129). -/
def Block.trackNominal (t : Nat) (b : Block) : Block :=
  { b with acc := { b.acc with trk := tupdAll trackerD b.acc.trk [t, 40 + t] fun _ x => x.lapse b.now b.acc.track.fnom } }

/-! ### Averagers (R140) -/

/-- The mean (2^−16 code), minimum and maximum codes of an interval, with its quality and GAP (R104, R140). Those of an integrated
input are equivalent codes and may lie beyond the range of a code: each reader says how it saturates them (R136, R389, R468). -/
structure Avg where
  mean : Int := 0
  min  : Int := 0
  max  : Int := 0
  qual : Qual := {}
  gap  : Bool := true
deriving DecidableEq, Repr

/-- A value in 2^−32 code as a whole code. An integrated input's never reads as a clipped one: beyond the range of the codes it stands
at the last one inside (R136). DESIGN CHOICE (log 14). -/
def codeOf (integ : Bool) (w : Int) : Int :=
  if integ then clampI (-32767) 32766 (rneI w (2 ^ 32)) else clampI (-32768) 32767 (rneI w (2 ^ 32))

/-- The averager of input `n` over [lo, hi) on the protection path; GAP stands for an interval of fewer than four samples alone
(R136, R140). DESIGN CHOICE (log 14). -/
def Block.average (b : Block) (n lo hi : Nat) : Avg :=
  let l := (tget smpD b.acc.hist (pix (b.protPath n) n)).filter fun s => decide (lo ≤ s.inst ∧ s.inst < hi)
  let st := b.standing n lo hi (l.any (·.raw))
  let ovr := l.any (·.clip) || (tget ainD b.cnv.ains n).overInt
  if l.length < 4 then { qual := { st with valid := false, ovr := ovr } }
  else
    let mm := minMax (l.map (·.w))
    let m := rneI ((l.map (·.w)).foldl (· + ·) 0) (l.length * 65536)
    { mean := m, min := rneI mm.1 (2 ^ 32), max := rneI mm.2 (2 ^ 32), qual := { st with ovr := ovr }, gap := false }

/-! ### Meanings -/

def execTrackerNominalTimeout (t : Nat) (s : State) : Out := s.done (s.blk.trackNominal t)

end Sys2Proof.Machine
end

