-- ==== Sys2Proof/Machine/Twin.lean ====
section
/-! DEFINITION. The targeted self-test, its verdict and the return of a path; `cnv.plaus` and `cnv.twin` (06 of the
spec, R110 to R122). -/

namespace Sys2Proof.Machine
open Sys2Proof

/-- The highest gain among the entries of an index's sequence (R113). -/
def Block.topGain (b : Block) (k : Nat) : Nat :=
  ((b.cnv.seq k).filter fun e => decide (e ≠ 0)).foldl (fun m e => if m < entGain e then entGain e else m) 1

/-- CONVERTER_SELF_TEST_START: at a strobe edge the schedule replaces the sequences of both converters of an index whose
self-test is wanted; an urgent entry in progress goes back to the head of its queue (R100, R101, R112, R113, R115). -/
def Block.testStart (k : Nat) (b : Block) : Block :=
  let t := b.twin k
  match t.want, t.testing with
  | some by_, none =>
    Block.groups { b with cnv := { b.cnv with
      twins := tset twinD b.cnv.twins k { t with
        want := none, testing := some (by_, b.cnv.idx), testBeg := b.cnv.strobeEl, resumed := false, verdict := none }
      convs := tupdAll convD b.cnv.convs [k, 20 + k] fun _ c => { c.halt with test := [] } } }
  | _, _ => b

/-- The takes of a schedule are all there: 112 of 16 conversions (R113). -/
def takesDone (t : TestTakes) : Bool := (List.range 112).all fun i => (tget (fun _ => ((0, 0) : Int × Nat)) t i).2 == 16

/-- What the takes of the two converters of an index show (R113, R114): means in 1/16 code. -/
def takesRes (ta tb : TestTakes) : TestRes :=
  let at_ (t : TestTakes) (i : Nat) : Int × Nat := tget (fun _ => ((0, 0) : Int × Nat)) t i
  let mean (t : TestTakes) (i n : Nat) : Int :=
    let s := ((List.range n).map fun j => at_ t (i + j)).foldl (fun a x => (a.1 + x.1, a.2 + x.2)) ((0, 0) : Int × Nat)
    rneI (s.1 * 16) s.2
  let z (t : TestTakes) : List Int := (List.range 16).map fun i => mean t i 1
  let bufs (t : TestTakes) : List (Int × Int) := (List.range 8).map fun i => (mean t (48 + 8 * i) 4, mean t (52 + 8 * i) 4)
  { zA := z ta, zB := z tb, rA := mean ta 16 16, rB := mean tb 16 16, xAB := mean ta 40 8, xBA := mean tb 32 8, tA := bufs ta, tB := bufs tb }

/-- CONVERTER_SELF_TEST_VERDICT at the ELAPSED instant `el`, within 1 µs after the last conversion: once the schedule's takes are complete on both converters they are judged, and the request that ordered
the test is answered: with CAUSE, and in word 3 the first generation published after the verdict. The verdict takes effect at the
resumption of sampling, at once where that has passed (R114, R117, R121, R122). -/
def Block.testVerdict (k el : Nat) (b : Block) : Block :=
  let b := b.runTo el
  let t := b.twin k
  let ta := (tget convD b.cnv.convs k).test
  let tb := (tget convD b.cnv.convs (20 + k)).test
  match t.testing, t.verdict with
  | some (by_, _), none =>
    if !(takesDone ta && takesDone tb) then b
    else
      let v := verdictOf (b.topGain k) (tget convD b.cnv.convs k).zeroOfs (tget convD b.cnv.convs (20 + k)).zeroOfs (takesRes ta tb)
      let b : Block := b.putTwin k { t with verdict := some v }
      let b := if t.resumed then (b.verdictApply k).groups else b
      match by_ with
      | .test r => b.answer r stOK (b.acc.cur.epoch + 1) [BitVec.ofNat 8 v.1]
      | .ret r _ => b.answer r stOK (b.acc.cur.epoch + 1) [BitVec.ofNat 8 v.1]
      | .engine => b
      | .hk => b
  | _, _ => b

/-- DISPUTED_CLEAR: 60 s without a disagreeing generation (R119). -/
def Block.disputedClear (k : Nat) (b : Block) : Block :=
  let t := b.twin k
  if t.disputed && decide (t.lastDis + 60 * secE ≤ b.now) then b.putTwin k { t with disputed := false } else b

/-- RETURNING_END: 32,000 consecutive agreeing generations; the parts are back, and the protection path returns to A if
A was the path returned (R122). -/
def Block.returningEnd (k : Nat) (b : Block) : Block :=
  let t := b.twin k
  match t.returning with
  | some (p, c, bf, m) =>
    if m < 32000 then b
    else
      let t2 : Twin := match p with
        | .a => { t with removedA := t.removedA && !c, bufA := t.bufA.filter fun i => !decide (i ∈ bf), returning := none
                         onPathB := if c then false else t.onPathB }
        | .b => { t with removedB := t.removedB && !c, bufB := t.bufB.filter fun i => !decide (i ∈ bf), returning := none }
      (b.putTwin k t2).groups
  | none => b

/-! ### `cnv.plaus` (R110) -/

/-- The thresholds of a 16-byte record. -/
def plausOf (p : List Byte) : Plaus :=
  { magRel := fld p 0 2, magAbs := fld p 2 2, phase := fld p 4 2, phaseMin := fld p 6 2, mmRel := fld p 8 2, mmAbs := fld p 10 2 }

/-- Every field in its range (R110). -/
def plausOk (p : List Byte) : Bool :=
  let x := plausOf p
  let r (lo hi v : Nat) : Bool := decide (lo ≤ v ∧ v ≤ hi)
  r 5 200 x.magRel && r 1 1024 x.magAbs && r 50 1000 x.phase && r 16 4096 x.phaseMin && r 5 200 x.mmRel &&
  r 1 1024 x.mmAbs && fld p 12 4 == 0

/-- The 16 bytes of a record. -/
def Plaus.bytes (x : Plaus) : List Byte :=
  leBytes 2 x.magRel ++ leBytes 2 x.magAbs ++ leBytes 2 x.phase ++ leBytes 2 x.phaseMin ++ leBytes 2 x.mmRel ++
  leBytes 2 x.mmAbs ++ zeros 4

/-- The records of a write: (index, bytes) in ascending index. -/
def maskRecs (off w n m : Nat) (p : List Byte) : List (Nat × List Byte) :=
  let ks := bitList m n
  (List.range ks.length).map fun j => (ks.getD j 0, cut p (off + w * j) w)

/-- CNV_PLAUS. -/
def cnvPlaus (r : Req) (b : Block) : Block :=
  b.onReq 0x0205 r fun b =>
    if r.rd then b.ok r (leBytes 4 0xFFFFF ++ (List.range 20).flatMap fun k => (b.twin k).plaus.bytes)
    else
      let m := fld r.payload 0 4
      let rs := maskRecs 4 16 20 m r.payload
      if m < 2 ^ 20 && r.payload.length == 4 + 16 * rs.length && rs.all fun x => plausOk x.2 then b.journal true 0x0205 r
      else b.status r stBADARG

/-- Both appends of a `cnv.plaus` are done. -/
def cnvPlausCommit (r : Req) (b : Block) : Block :=
  let xs := (maskRecs 4 16 20 (fld r.payload 0 4) r.payload).map fun x => (x.1, plausOf x.2)
  Block.answer r stOK b.effS [] { b with
    cnv := { b.cnv with plPend := b.cnv.plPend ++ [(b.effS, xs)] }
    nv := { b.nv with store := { b.nv.store with plaus := xs.foldl (fun t x => tset plausD t x.1 x.2) b.nv.store.plaus } } }

/-- PLAUS_EFFECT: the thresholds apply and the count restarts from 0 (R110, R111). -/
def plausEffect (b : Block) : Block :=
  let due := b.cnv.plPend.filter fun x => decide (x.1 ≤ b.time.epoch)
  let b : Block := { b with cnv := { b.cnv with plPend := b.cnv.plPend.filter fun x => decide (b.time.epoch < x.1) } }
  due.foldl (fun b x => x.2.foldl (fun b y => b.putTwin y.1 { b.twin y.1 with plaus := y.2, count := 0 }) b) b

/-! ### `cnv.twin` (R120 to R122) -/

/-- MODE's code. -/
def TwinMode.code : TwinMode → Nat
  | .twin => 0 | .onA => 1 | .onB => 2 | .none => 3

/-- The 16-byte status record (R120). -/
def Block.twinBytes (b : Block) (t : Twin) : List Byte :=
  leBytes 1 (t.mode.code + 8 * b2n t.testing.isSome + 16 * b2n t.disputed + 32 * b2n t.returning.isSome) ++
  leBytes 1 (satN 255 t.count) ++ leBytes 1 (maskOf t.bufA) ++ leBytes 1 (maskOf t.bufB) ++
  leBytes 2 (satN 65535 ((t.transAt ++ t.transOrd).filter fun x => decide (b.now < x + 60 * secE)).length) ++ leBytes 1 t.cause ++ zeros 1 ++
  leBytes 8 t.verdictEp

/-- CNV_TWIN_READ: the status as of the newest published generation, whose epoch word 3 names (R22, R23, R120). -/
def cnvTwinRead (r : Req) (b : Block) : Block :=
  b.onOp 0x0206 r (fld r.payload 0 1 == 0 || decide (2 < fld r.payload 0 1)) fun b =>
    if fld r.payload 0 1 != 0 || fld r.payload 1 3 != 0 then b.status r stBADARG
    else b.answer r stOK b.acc.cur.epoch ((List.range 20).flatMap fun k => b.twinBytes (tget twinD b.acc.cur.twins k))

/-- Does an order for the index stand or run?. DESIGN CHOICE (log 18). -/
def Twin.busy (t : Twin) : Bool :=
  t.testing.isSome || (match t.want with | some (.test _) => true | some (.ret _ _) => true | _ => false)

/-- CNV_TWIN_TEST: a self-test at the next strobe edge; the answer comes with the verdict (R121). It takes the place of one that the engine
or housekeeping wants and that has not begun, so that the verdict counts as an ordered one (R119). DESIGN CHOICE (log 18). -/
def cnvTwinTest (r : Req) (b : Block) : Block :=
  b.onOp 0x0206 r (fld r.payload 0 1 == 1) fun b =>
    let k := fld r.payload 1 1
    if fld r.payload 0 1 != 1 || 19 < k || fld r.payload 2 2 != 0 then b.status r stBADARG
    else if (b.twin k).busy then b.status r stBUSY
    else b.putTwin k { b.twin k with want := some (.test r) }

/-- CNV_TWIN_RETURN (R122). DESIGN CHOICE (log 18). -/
def cnvTwinReturn (r : Req) (b : Block) : Block :=
  b.onOp 0x0206 r (fld r.payload 0 1 == 2) fun b =>
    let k := fld r.payload 1 1
    let pn := fld r.payload 2 1
    if fld r.payload 0 1 != 2 || 19 < k || 1 < pn || fld r.payload 3 1 != 0 then b.status r stBADARG
    else
      let t := b.twin k
      let none_ := if pn = 0 then !t.removedA && t.bufA.isEmpty else !t.removedB && t.bufB.isEmpty
      if none_ then b.status r stBADARG
      else if t.busy then b.status r stBUSY
      else b.putTwin k { t with want := some (.ret r (if pn = 0 then .a else .b)) }

/-! ### Meanings -/

def execConverterSelfTestStart (k : Nat) (s : State) : Out := s.done (s.blk.testStart k)
def execConverterSelfTestVerdict (k el : Nat) (s : State) : Out := s.done (s.blk.testVerdict k el)
def execDisputedClear (k : Nat) (s : State) : Out := s.done (s.blk.disputedClear k)
def execReturningEnd (k : Nat) (s : State) : Out := s.done (s.blk.returningEnd k)
def execCnvPlaus (r : Req) (s : State) : Out := s.done (cnvPlaus r s.blk)
def execPlausEffect (s : State) : Out := s.done (plausEffect s.blk)
def execCnvTwinRead (r : Req) (s : State) : Out := s.done (cnvTwinRead r s.blk)
def execCnvTwinTest (r : Req) (s : State) : Out := s.done (cnvTwinTest r s.blk)
def execCnvTwinReturn (r : Req) (s : State) : Out := s.done (cnvTwinReturn r s.blk)

end Sys2Proof.Machine
end

