-- ==== Sys2Proof/Machine/AccCmd.lean ====
section
/-! DEFINITION. The `acc.` commands: readouts of the pinned generation and the settings of trackers and detectors (07 of
the spec, R130, R134, R139, R145, R146). -/

namespace Sys2Proof.Machine
open Sys2Proof

/-- A mask field as the rising list of its bits. -/
def maskAt (p : List Byte) (o w : Nat) : List Nat := bitList (fld p o w) (8 * w)

/-- A phasor of a generation as two REAL32, each rounded once from the value held: rectangular, or magnitude and angle in degrees
(R124, R134). -/
def Gen.phBytes (polar : Bool) (h : Nat) (g : Gen) : List Byte :=
  if polar then
    let x := g.px.getD (h - 1) (0, 0)
    let a := argDegS x.1 x.2
    leBytes 4 (realSqrtQ ((x.1 * x.1 + x.2 * x.2) * g.unit.1 * g.unit.1).toNat (g.unit.2 * g.unit.2)).1.toNat ++
    let w := (roundR (decide (a < 0)) a.natAbs rOne).1
    -- the range excludes −180° (R131)
    leBytes 4 (if w = 0xC3340000 then 0x43340000 else w).toNat
  else
    let x := g.ph.getD (h - 1) (0, 0)
    leBytes 4 x.1.toNat ++ leBytes 4 x.2.toNat

/-- The record of an input in a generation, with the harmonics `hs` after the first (R134). -/
def GenSet.inBytes (s : GenSet) (hs : List Nat) (polar : Bool) (n : Nat) : List Byte :=
  let g := tget genD s.gens n
  leBytes 1 n ++ leBytes 1 (b2n g.held + 2 * b2n g.gap + 4 * b2n g.recent) ++ leBytes 2 g.qual.word ++
  leBytes 4 g.rms.toNat ++ leBytes 4 g.mean.toNat ++
  ((1 :: hs).flatMap fun h => g.phBytes polar h)

/-- ACC_READ (R134). -/
def accRead (r : Req) (b : Block) : Block :=
  b.onReq 0x0301 r fun b =>
    let ins := maskAt r.payload 0 20
    let hm := fld r.payload 20 2
    let hs := (List.range 16).filter fun h => bitOf hm h
    let fl := fld r.payload 22 1
    if hm % 4 != 0 || 1 < fl || fld r.payload 23 1 != 0 || 4096 < ins.length * (20 + 8 * hs.length) then b.status r stBADARG
    else b.answer r stOK b.acc.cur.epoch (ins.flatMap (b.acc.cur.inBytes hs (fl == 1)))

/-- The 44-byte record of `acc.mm` (R139). DESIGN CHOICE (log 17). -/
def Block.mmBytes (b : Block) (al : Bool) (n : Nat) : List Byte :=
  let g := tget genD b.acc.cur.gens n
  let o := g.hold
  let hf := decide (4 ≤ o.n)
  let w (v : Int) : List Byte := leBytes 4 (codeWord al true (codeOf (b.inRec n).integ v) 1)
  let q : Qual := { g.qual with valid := g.qual.valid && !g.few, ovr := g.eover || o.ovr, quest := g.qual.quest || g.eraw || o.raw }
  leBytes 1 n ++ leBytes 1 (b2n g.few + 2 * b2n (b.inRec n).integ) ++ leBytes 2 q.word ++
  w g.emin ++ w g.emax ++ w (if hf then o.min else 0) ++ w (if hf then o.max else 0) ++
  leBytes 8 (if hf then o.minAt else 0) ++ leBytes 8 (if hf then o.maxAt else 0) ++ leBytes 8 o.since

/-- ACC_MM: without SWAP the pinned generation; with SWAP the answer comes with generation S (R139). -/
def accMm (r : Req) (b : Block) : Block :=
  b.onReq 0x0302 r fun b =>
    let ins := maskAt r.payload 0 20
    let fl := fld r.payload 20 1
    if 3 < fl || fld r.payload 21 3 != 0 || 93 < ins.length then b.status r stBADARG
    else if bitOf fl 1 then { b with acc := { b.acc with swapPend := b.acc.swapPend ++ [(b.effS, r)] } }
    else b.answer r stOK b.acc.cur.epoch (ins.flatMap (b.mmBytes (bitOf fl 0)))

/-- One SWAP at S: generation S is returned, and the named holds restart with the samples of epoch S (R139). -/
def Block.holdSwap (s : Nat) (r : Req) (b : Block) : Block :=
  let ins := maskAt r.payload 0 20
  let b := b.answer r stOK s (ins.flatMap (b.mmBytes (bitOf (fld r.payload 20 1) 0)))
  { b with acc := { b.acc with
    holds := tupdAll holdD b.acc.holds (ins ++ ins.map (160 + ·)) fun _ _ => { since := s } } }

/-- HOLD_SWAP_EFFECT: the swaps whose generation S has been published. -/
def holdSwapEffect (b : Block) : Block :=
  let due := b.acc.swapPend.filter fun x => decide (x.1 ≤ b.acc.cur.epoch)
  let b : Block := { b with acc := { b.acc with swapPend := b.acc.swapPend.filter fun x => decide (b.acc.cur.epoch < x.1) } }
  due.foldl (fun b x => b.holdSwap x.1 x.2) b

/-- The frequency a tracker publishes, REAL32 (R128). -/
def Tracker.word (x : Tracker) : Word := realQ x.freq.1 x.freq.2

/-- The 16-byte record of a tracker in a generation (R130). -/
def GenSet.trackBytes (s : GenSet) (t : Nat) : List Byte :=
  let x := tget trackerD s.tracks t
  leBytes 1 t ++ leBytes 1 (b2n x.held + 2 * b2n x.limit + 4 * b2n x.nominal) ++ leBytes 2 x.qual.word ++
  leBytes 4 x.word.toNat ++ leBytes 4 x.mag.toNat ++ zeros 4

/-- ACC_FREQ (R130). -/
def accFreq (r : Req) (b : Block) : Block :=
  b.onReq 0x0303 r fun b =>
    let m := fld r.payload 0 8
    if 2 ^ 40 ≤ m then b.status r stBADARG
    else b.answer r stOK b.acc.cur.epoch ((bitList m 40).flatMap b.acc.cur.trackBytes)

/-! ### `acc.track` (R130) -/

def wordD (_ : Nat) : Word := 0

/-- The settings of a 204-byte payload. -/
def trackOf (p : List Byte) : TrackCfg :=
  { fnom := fld p 0 1, leak := fld p 2 2
    wsrc := tsetRun wsrcD [] 0 ((List.range 40).map fun i => fld p (4 + i) 1)
    minMag := tsetRun wordD [] 0 ((List.range 40).map fun i => BitVec.ofNat 32 (fld p (44 + 4 * i) 4)) }

/-- Every field in its range (R130). -/
def trackOk (p : List Byte) : Bool :=
  let nonneg (w : Word) : Bool := match realVal w with | some v => decide (0 ≤ v.1) | none => false
  (fld p 0 1 == 50 || fld p 0 1 == 60) && fld p 1 1 == 0 && decide (500 ≤ fld p 2 2 ∧ fld p 2 2 ≤ 60000) &&
  ((List.range 40).all fun i => let w := fld p (4 + i) 1; decide (w ≤ 39) || w == 0xFF) &&
  ((List.range 40).all fun i => nonneg (BitVec.ofNat 32 (fld p (44 + 4 * i) 4)))

/-- The 204-byte record. -/
def TrackCfg.bytes (c : TrackCfg) : List Byte :=
  leBytes 1 c.fnom ++ zeros 1 ++ leBytes 2 c.leak ++
  ((List.range 40).flatMap fun i => leBytes 1 (tget wsrcD c.wsrc i)) ++
  ((List.range 40).flatMap fun i => leBytes 4 (tget wordD c.minMag i).toNat)

/-- ACC_TRACK. -/
def accTrack (r : Req) (b : Block) : Block :=
  b.onReq 0x0304 r fun b =>
    if r.rd then b.ok r b.acc.track.bytes
    else if trackOk r.payload then b.journal true 0x0304 r else b.status r stBADARG

/-- Both appends of an `acc.track` are done. -/
def accTrackCommit (r : Req) (b : Block) : Block :=
  let c := trackOf r.payload
  Block.answer r stOK b.effS [] { b with
    acc := { b.acc with trackPend := b.acc.trackPend ++ [(b.effS, c)] }
    nv := { b.nv with store := { b.nv.store with track := c } } }

/-- New tracker settings: changed inputs restart as in R77, and on a new FNOM every tracker starts again (R129, R130). -/
def Block.trackApply (c : TrackCfg) (b : Block) : Block :=
  let o := b.acc.track
  let fn := decide (o.fnom ≠ c.fnom)
  let hit (n : Nat) : Bool :=
    (b.inRec n).sensor != 0 &&
    (fn || tget wsrcD o.wsrc (wsrcIx n) != tget wsrcD c.wsrc (wsrcIx n) || (o.leak != c.leak && (b.inRec n).integ))
  let b := ((List.range 160).filter hit).foldl (fun b n => b.restartInput b.now n) b
  let trk := if fn then
      tupdAll trackerD b.acc.trk (List.range 80) fun _ _ => { freq := (c.fnom, 1), heldAt := b.now }
    else b.acc.trk
  { b with acc := { b.acc with track := c, trk := trk } }

/-- TRACK_EFFECT. -/
def trackEffect (b : Block) : Block :=
  let due := b.acc.trackPend.filter fun x => decide (x.1 ≤ b.time.epoch)
  let b : Block := { b with acc := { b.acc with trackPend := b.acc.trackPend.filter fun x => decide (b.time.epoch < x.1) } }
  due.foldl (fun b x => b.trackApply x.2) b

/-! ### `acc.td` and `acc.tw` (R145, R146) -/

/-- One 8-byte detector record. -/
def tdRecOf (p : List Byte) : TdRec := { incTh := fld p 0 2, incK := fld p 2 1, twTh := fld p 4 2 }

/-- The settings that a write leaves, from those in `o`. -/
def tdOf (o : TdCfg) (p : List Byte) : TdCfg :=
  { vset := tsetRun vsetD [] 0 ((List.range 32).map fun f => fld p f 1)
    recs := (maskRecs 52 8 160 (fld p 32 20) p).foldl (fun t x => tset tdRecD t x.1 (tdRecOf x.2)) o.recs }

/-- The layout of R145 with all 160 records. -/
def TdCfg.bytes (c : TdCfg) : List Byte :=
  ((List.range 32).flatMap fun f => leBytes 1 (tget vsetD c.vset f)) ++ leBytes 20 (2 ^ 160 - 1) ++
  ((List.range 160).flatMap fun n =>
    let x := tget tdRecD c.recs n
    leBytes 2 x.incTh ++ leBytes 1 x.incK ++ zeros 1 ++ leBytes 2 x.twTh ++ zeros 2)

/-- ACC_TD. -/
def accTd (r : Req) (b : Block) : Block :=
  b.onReq 0x0305 r fun b =>
    if r.rd then b.ok r b.acc.td.bytes
    else
      let rs := maskRecs 52 8 160 (fld r.payload 32 20) r.payload
      let ok := ((List.range 32).all fun f => let v := fld r.payload f 1; decide (v ≤ 7) || v == 0xFF) &&
        r.payload.length == 52 + 8 * rs.length &&
        rs.all fun x => decide (1 ≤ fld x.2 2 1 ∧ fld x.2 2 1 ≤ 16) && fld x.2 3 1 == 0 && fld x.2 6 2 == 0
      if ok then b.journal true 0x0305 r else b.status r stBADARG

/-- Both appends of an `acc.td` are done. -/
def accTdCommit (r : Req) (b : Block) : Block :=
  let c := tdOf b.nv.store.td r.payload
  Block.answer r stOK b.effS [] { b with
    acc := { b.acc with tdPend := b.acc.tdPend ++ [(b.effS, c)] }
    nv := { b.nv with store := { b.nv.store with td := c } } }

/-- TD_EFFECT: a changed input's group loses its frozen reference and its open arrival group (R145). -/
def Block.tdApply (c : TdCfg) (b : Block) : Block :=
  let o := b.acc.td
  let ch := (List.range 160).filter fun n => tget tdRecD o.recs n != tget tdRecD c.recs n
  let ds := (List.range 40).filter fun d => ch.any fun n => detIx n == d
  { b with acc := { b.acc with
    td := c
    det := tupdAll detD b.acc.det (ds ++ ds.map (40 + ·)) fun _ g =>
      { g with inc := false, incBy := [], startAt := none, runs := [], openAt := none } } }

def tdEffect (b : Block) : Block :=
  let due := b.acc.tdPend.filter fun x => decide (x.1 ≤ b.time.epoch)
  let b : Block := { b with acc := { b.acc with tdPend := b.acc.tdPend.filter fun x => decide (b.time.epoch < x.1) } }
  due.foldl (fun b x => b.tdApply x.2) b

/-- The 32-byte arrival record (R146). -/
def Arrival.bytes (x : Arrival) : List Byte :=
  x.stamp.bytes ++ leBytes 1 x.group ++ leBytes 1 (maskOf x.arrived) ++ leBytes 1 (maskOf x.pol) ++ leBytes 1 x.dir ++
  ((List.range 4).flatMap fun i => leBytes 2 (tget natD x.peaks i)) ++ zeros 4 ++ leBytes 4 x.rseq

/-- ACC_TW: records leave the FIFO oldest first; DROPS is zeroed (R146). -/
def accTw (r : Req) (b : Block) : Block :=
  b.onReq 0x0306 r fun b =>
    let mx := fld r.payload 0 1
    if mx = 0 || 64 < mx || fld r.payload 1 3 != 0 then b.status r stBADARG
    else
      let out := b.acc.fifo.take mx
      let left := b.acc.fifo.drop mx
      Block.ok r (leBytes 2 out.length ++ leBytes 2 left.length ++ leBytes 4 b.acc.drops ++ out.flatMap Arrival.bytes)
        { b with acc := { b.acc with fifo := left, drops := 0 } }

/-! ### Meanings -/

def execAccRead (r : Req) (s : State) : Out := s.done (accRead r s.blk)
def execAccMm (r : Req) (s : State) : Out := s.done (accMm r s.blk)
def execHoldSwapEffect (s : State) : Out := s.done (holdSwapEffect s.blk)
def execAccFreq (r : Req) (s : State) : Out := s.done (accFreq r s.blk)
def execAccTrack (r : Req) (s : State) : Out := s.done (accTrack r s.blk)
def execTrackEffect (s : State) : Out := s.done (trackEffect s.blk)
def execAccTd (r : Req) (s : State) : Out := s.done (accTd r s.blk)
def execTdEffect (s : State) : Out := s.done (tdEffect s.blk)
def execAccTw (r : Req) (s : State) : Out := s.done (accTw r s.blk)

end Sys2Proof.Machine
end

