-- ==== Sys2Proof/Machine/Slots.lean ====
section
/-! DEFINITION. Slots, pairs and the command register: what the field block, the element engine and the cycle share (R214,
R219, R220, R226). -/

namespace Sys2Proof.Machine
open Sys2Proof

/-- Slot s is served by LP s at startup, and LP8 holds the spare role (R219). -/
def slotD (s : Nat) : Slot := if s < 8 then { pair := some s } else {}
def pairD (p : Nat) : Pair := if p < 8 then { state := .running, slot := some p } else {}
def stnD (_ : Nat) : Stn := {}
def ctxD (_ : Nat) : Ctx := {}
def trigD (_ : Nat) : Trig := {}
def chanD (_ : Nat) : Chan := {}
def counterD (_ : Nat) : Counter := {}
def diagD (_ : Nat) : DiagRec := {}
def timerD (_ : Nat) : Timer := {}
def ctlD (_ : Nat) : CtlObj := {}

/-- Slot s. -/
def Block.slot (b : Block) (s : Nat) : Slot := tget slotD b.lgc.slots s
def Block.putSlot (s : Nat) (x : Slot) (b : Block) : Block :=
  { b with lgc := { b.lgc with slots := tset slotD b.lgc.slots s x } }
def Block.pair (b : Block) (p : Nat) : Pair := tget pairD b.lgc.pairs p
def Block.putPair (p : Nat) (x : Pair) (b : Block) : Block :=
  { b with lgc := { b.lgc with pairs := tset pairD b.lgc.pairs p x } }

/-- The owner of an output: the slot whose image declares it; a slot without an image owns its default outputs (R220).
DESIGN CHOICE (log 43). -/
def Block.ownerOf (b : Block) (j : Nat) : Option Nat :=
  match (List.range 8).find? fun s => match (b.slot s).img with | some i => bitOf i.outputs j | none => false with
  | some s => some s
  | none => if j < 32 ∧ (b.slot (j / 4)).img.isNone then some (j / 4) else none

/-- Is the output's logic term lidded: its slot in a lid, or its task disabled after faults (R56, R225, R229, R236)?.
DESIGN CHOICE (log 24). -/
def Slot.lids (x : Slot) (j : Nat) : Bool :=
  !x.free ||
  (match x.img with
   | some i => (List.range i.tasks.length).any fun t =>
       let c := tget ctxD x.ctxs t
       (c.faultDis || c.lidOut) && bitOf ((i.tasks[t]?.map (·.outs)).getD 0) j
   | none => false)

/-- The mask of lidded outputs; an output without an owner has no lid (R220). -/
def Block.lidMask (b : Block) : Nat :=
  maskOf ((List.range 32).filter fun j => match b.ownerOf j with | some s => (b.slot s).lids j | none => false)

/-- The barrier command register as R214 forms it. DESIGN CHOICE (log 23). -/
def Block.formCmd (b : Block) : Nat :=
  let logic := maskOf ((List.range 32).filter fun j => match b.ownerOf j with
    | some s => if (b.slot s).lids j then bitOf b.bar.cfg.safe j else bitOf (tget wordD0 (b.slot s).force 0).toNat j
    | none => false)
  Nat.lor (Nat.lor b.bsDrive b.elm.drive) logic
where
  wordD0 (_ : Nat) : Word := 0

/-- The task is disabled, after faults or by TDIS (R229, R275). -/
def Ctx.off (c : Ctx) : Bool := c.faultDis || c.tdis

/-- A trigger of a kind reaches every EVENT task that names its source: several latch as one, with a count. During RUN it makes the task
ready, again where it has run already; after RUN has ended it is latched for the next cycle (R226, R227). -/
def Slot.trigger (kind source wall qual : Nat) (x : Slot) (n : Nat := 1) : Slot :=
  match x.img with
  | none => x
  | some i =>
    (List.range i.tasks.length).foldl (fun x t =>
      match i.tasks[t]? with
      | some d =>
        if d.kind = 2 ∧ d.trig = kind ∧ d.source = source then
          let add (o : Trig) : Trig := if o.count = 0 then { source := source, count := n, wall := wall, qual := qual }
            else { o with count := o.count + n }
          match x.cyc with
          | some c =>
            if (c.ready = [] ∧ c.stack = []) ∨ (tget ctxD c.ctxs t).off then { x with trigs := tupd trigD x.trigs t add }
            else { x with cyc := some { c with
              ready := insNat t c.ready, trigs := tupd trigD c.trigs t add, due := tupd trigD c.due t add } }
          | none => { x with trigs := tupd trigD x.trigs t add }
        else x
      | none => x) x

/-- A trigger reaches the tasks of one slot. -/
def Block.trigger (s kind source wall qual : Nat) (b : Block) (n : Nat := 1) : Block :=
  b.putSlot s ((b.slot s).trigger kind source wall qual n)

/-- The slot that owns a fast counter (R320). -/
def Block.counterOwner (b : Block) (i : Nat) : Option Nat :=
  (List.range 8).find? fun s => match (b.slot s).img with | some g => bitOf g.counters i | none => false



end Sys2Proof.Machine
end

