-- ==== Sys2Proof/Machine/Field.lean ====
section
/-! DEFINITION. The field side and the isolation barrier: inputs, outputs, diagnostics, the frames of the link, the edge
FIFO and the `io.` commands (15 of the spec, R314 to R344; R36, R42). -/

namespace Sys2Proof.Machine
open Sys2Proof

/-! ### The field side -/

/-- Reset value of a configuration word (R329). -/
def fwordD (a : Nat) : Nat := if a = 0 then 100 else 0
def FldSt.word (f : FldSt) (a : Nat) : Nat := tget fwordD f.words a
/-- SILENCE in fld cycles, SAFE, OW_EN, RB_IN and EDGE_SEL as the field side holds them. -/
def FldSt.silence (f : FldSt) : Nat := f.word 0 * 100
def FldSt.safe (f : FldSt) : Nat := f.word 1 % 65536 + 65536 * (f.word 2 % 65536)
def FldSt.owEn (f : FldSt) : Nat := f.word 3 % 65536 + 65536 * (f.word 4 % 65536)
def FldSt.rbIn (f : FldSt) (j : Nat) : Bool := decide (24 ≤ j) && bitOf (f.word 5) (j - 24)
def FldSt.edgeSel (f : FldSt) (i : Nat) : Nat := bits (f.word 6) (2 * i + 1) (2 * i)

/-- The commanded states the field side applies (R36, R42, R334, R335). -/
def FldSt.cmd (f : FldSt) : Nat :=
  if !f.powered || f.lockout || !f.seen then 0 else if f.silent then f.safe else f.out

/-- Every diagnostic bit of an output, in the order of R326. -/
def Chan.bits (c : Chan) : Nat := bitsOf [c.overload, c.fold, c.open_, c.overtemp, c.shut, c.backfeed]

/-- A command of OFF ends the overcurrent sequence (R323, R326). -/
def FldSt.follow (f : FldSt) : FldSt :=
  let c := f.cmd
  { f with chans := tmap chanD f.chans fun j x =>
      if bitOf c j then x else { x with phase := .normal, overload := false, fold := false } }

/-- Rewrite the field side while it has supply. -/
def Block.onField (f : FldSt → FldSt) (b : Block) : Block :=
  if b.fside.powered then { b with fside := f b.fside } else b

/-- Rewrite one output. -/
def FldSt.updChan (j : Nat) (g : Chan → Chan) (f : FldSt) : FldSt := { f with chans := tupd chanD f.chans j g }
def FldSt.chan (f : FldSt) (j : Nat) : Chan := tget chanD f.chans j

/-- An edge entry joins the queue of 64, or is lost (R331, R332). -/
def FldSt.enqueue (e : FEdge) (f : FldSt) : FldSt :=
  if 64 ≤ f.fastQ.length + f.slowQ.length then { f with lost := satN 255 (f.lost + 1), lostNow := true }
  else if e.input < 8 then { f with fastQ := f.fastQ ++ [e] } else { f with slowQ := f.slowQ ++ [e] }

/-- Set or clear bit i of a mask. -/
def setBit (m i : Nat) (v : Bool) : Nat := if bitOf m i == v then m else if v then m + 2 ^ i else m - 2 ^ i

def optD (_ : Nat) : Option Nat := none

/-- FIELD_POWER_UP: the field side starts from the reset values, outputs off, with an empty queue (R42, R336). -/
def Block.fieldPowerUp (b : Block) : Block := { b with fside := { powered := true } }

/-- VFLD_LOCKOUT_ENTER: below 17.5 V every output is off (R36). -/
def Block.lockEnter (b : Block) : Block := b.onField fun f => ({ f with lockout := true } : FldSt).follow
/-- VFLD_LOCKOUT_EXIT: above 18.5 V (R36). -/
def Block.lockExit (b : Block) : Block := b.onField fun f => { f with lockout := false }


/-- ON and OFF levels of a PRESET in mV (R315). -/
def presetOn (p : Nat) : Nat := if p = 0 then 16000 else if p = 1 then 32000 else 77000
def presetOff (p : Nat) : Nat := if p = 0 then 10000 else if p = 1 then 20000 else 50000

/-- A level of a unit: within 5 % of the table's figure (R315). DESIGN CHOICE (log 21). -/
def diLevel (i : Nat) (on : Bool) (mv : Nat) : Nat := mv * (950 + Config.diTol i on % 101) / 1000

/-- The PRESET of an input's group and its DEB in 0.1 ms, as the field side holds them (R329). -/
def FldSt.presetOf (f : FldSt) (i : Nat) : Nat := bits (f.word 5) (2 * (i / 8) + 7) (2 * (i / 8) + 6)
def FldSt.debOf (f : FldSt) (i : Nat) : Nat := f.word (7 + (i - 8) / 3) / 256 ^ ((i - 8) % 3) % 256

/-- One sample of DIi, 8 to 63, at FTIME `ft`: the raw state, the wetting phase of a rising crossing, at most once per second, and the
acceptance of a change after DEB, with the first sample of its run less the input delay as the stamp (R315 to R317). -/
def FldSt.diSample (i ft mv : Nat) (f : FldSt) : FldSt :=
  let p := f.presetOf i
  let was := bitOf f.diRaw i
  let raw := if diLevel i true (presetOn p) ≤ mv then true else if mv ≤ diLevel i false (presetOff p) then false else was
  let wet := raw && !was && (match tget optD f.wetLast i with | none => true | some t => decide (t + 100000000 ≤ ft))
  let f : FldSt := { f with
    ft := ft, diRaw := setBit f.diRaw i raw
    wet := if wet then tset optD f.wet i (some ft) else f.wet
    wetLast := if wet then tset optD f.wetLast i (some ft) else f.wetLast }
  if raw == bitOf f.di i then { f with diRun := tset optD f.diRun i none }
  else
    let t := (tget optD f.diRun i).getD ft
    if t + 10000 * f.debOf i ≤ ft then
      ({ f with di := setBit f.di i raw, diRun := tset optD f.diRun i none } : FldSt).enqueue { input := i, level := raw, ft := t - 2000 }
    else { f with diRun := tset optD f.diRun i (some t) }

/-- DI_CHANGE_ACCEPTED: samples of DIi in mV, one per µs, the last of them at FTIME `ft`. Between the samples of two commands the level is
taken to stand. DESIGN CHOICE (log 21). -/
def FldSt.diChange (i : Nat) (mvs : List Nat) (ft : Nat) (f : FldSt) : FldSt :=
  (List.range mvs.length).foldl (fun f k => f.diSample i (ft - 100 * (mvs.length - 1 - k)) (mvs.getD k 0)) f

/-- WETTING_END: 2 ms of wetting current have passed (R316). DESIGN CHOICE (log 21). -/
def FldSt.wetEnd (i ft : Nat) (f : FldSt) : FldSt :=
  match tget optD f.wet i with
  | some t => if t + 200000 ≤ ft then { f with ft := ft, wet := tset optD f.wet i none } else f
  | none => f

/-- FAST_INPUT_EDGE: the level changes; a selected edge makes an entry, with the delay of 200 ns taken off (R318,
R319). -/
def FldSt.fastEdge (i : Nat) (level : Bool) (ft : Nat) (f : FldSt) : FldSt :=
  if bitOf f.di i == level then f
  else
    let f : FldSt := { f with di := setBit f.di i level, ft := ft }
    let sel := f.edgeSel i
    if sel = 2 || (sel == 0 && level) || (sel == 1 && !level) then f.enqueue { input := i, level := level, ft := ft - 20 }
    else f

/-- OUTPUT_OVERCURRENT_ONSET: the peak phase begins on an output that is ON (R323, R326). -/
def FldSt.overOnset (j ft : Nat) (f : FldSt) : FldSt :=
  let c := f.chan j
  if bitOf f.cmd j && c.phase = .normal && !c.shut then
    { f with ft := ft, chans := tset chanD f.chans j { c with phase := .peak, overload := true } }
  else f

/-- The load current has fallen below 0.75 A: normal drive. -/
def Chan.recover (ft : Nat) (c : Chan) : Chan := { c with phase := .normal, normalAt := ft, fold := false }

/-- PEAK_PHASE_END: 100 µs after onset regulation begins, or before it where the load recovers, normal drive (R323). -/
def FldSt.peakEnd (j ft : Nat) (below : Bool) (f : FldSt) : FldSt :=
  ({ f with ft := ft } : FldSt).updChan j fun c =>
    if c.phase = .peak && !c.shut then (if below then c.recover ft else { c with phase := .regulation }) else c

/-- FOLDBACK_START: at 1 ms from onset, or normal drive where the load recovers in regulation (R323, R326). -/
def FldSt.foldStart (j ft : Nat) (below : Bool) (f : FldSt) : FldSt :=
  ({ f with ft := ft } : FldSt).updChan j fun c =>
    if c.phase = .regulation && !c.shut then (if below then c.recover ft else { c with phase := .foldback, fold := true }) else c

/-- RETRY_PULSE: 0.1 A for 100 µs every 10 ms of foldback (R323). -/
def FldSt.retry (j : Nat) (f : FldSt) : FldSt :=
  f.updChan j fun c => if c.phase = .foldback && !c.shut && bitOf f.cmd j then { c with phase := .retry } else c

/-- RETRY_PULSE_END: the land above 4 V ends the foldback (R323). -/
def FldSt.retryEnd (j ft : Nat) (above : Bool) (f : FldSt) : FldSt :=
  ({ f with ft := ft } : FldSt).updChan j fun c => if c.phase = .retry then (if above then c.recover ft else { c with phase := .foldback }) else c

/-- OVERLOAD_CLEAR: normal drive for 1 ms (R326). -/
def FldSt.overClear (j ft : Nat) (f : FldSt) : FldSt :=
  ({ f with ft := ft } : FldSt).updChan j fun c =>
    if c.overload && c.phase = .normal && decide (c.normalAt + 100000 ≤ ft) then { c with overload := false } else c

/-- OVERTEMP_ENTER and OVERTEMP_CLEAR: 150 °C and 140 °C (R326). -/
def FldSt.tempEnter (j : Nat) (f : FldSt) : FldSt := f.updChan j fun c => { c with overtemp := true }
def FldSt.tempClear (j : Nat) (f : FldSt) : FldSt := f.updChan j fun c => { c with overtemp := false }

/-- THERMAL_SHUTDOWN: 170 °C switches the channel off in any phase (R323, R326). -/
def FldSt.thermal (j : Nat) (f : FldSt) : FldSt := f.updChan j fun c => { c with shut := true, overtemp := true }

/-- THERMAL_RECOVERY: at 150 °C or below it continues with foldback retry pulses while commanded ON (R323). -/
def FldSt.thermalBack (j : Nat) (f : FldSt) : FldSt :=
  f.updChan j fun c =>
    if c.shut then
      if bitOf f.cmd j then { c with shut := false, phase := .foldback, fold := true } else { c with shut := false }
    else c

/-- OPEN_WIRE_TEST: an OFF output with OW_EN outside input mode; two tests above 12 V report OPEN, the first at or below
clears it (R326). -/
def FldSt.openWire (j : Nat) (above : Bool) (f : FldSt) : FldSt :=
  if !bitOf f.cmd j && bitOf f.owEn j && !f.rbIn j then
    f.updChan j fun c =>
      if above then { c with owRun := satN 2 (c.owRun + 1), open_ := c.open_ || decide (2 ≤ c.owRun + 1) }
      else { c with owRun := 0, open_ := false }
  else f

/-- BACKFEED_DETECT: an OFF output outside input mode reads back ON for 1 ms (R326). -/
def FldSt.backfeed (j : Nat) (f : FldSt) : FldSt :=
  if !bitOf f.cmd j && !f.rbIn j then f.updChan j fun c => { c with backfeed := true } else f
/-- BACKFEED_CLEAR: the readback is OFF for 1 ms (R326). -/
def FldSt.backfeedEnd (j : Nat) (f : FldSt) : FldSt := f.updChan j fun c => { c with backfeed := false }

/-! ### Downlink (R327 to R329, R334, R335) -/

/-- The configuration word that the logic side sends at an address (R329). -/
def FldCfg.word (c : FldCfg) (a : Nat) : Nat :=
  let d (i : Nat) : Nat := if i < 64 then tget natD c.deb i else 0
  if a = 0 then c.silence
  else if a = 1 then c.safe % 65536 else if a = 2 then c.safe / 65536
  else if a = 3 then c.owEn % 65536 else if a = 4 then c.owEn / 65536
  else if a = 5 then c.rbIn + 256 * c.preset
  else if a = 6 then c.edgeSel
  else if a ≤ 0x19 then d (8 + 3 * (a - 7)) + 256 * d (9 + 3 * (a - 7)) + 65536 * d (10 + 3 * (a - 7))
  else 0

/-- A good downlink frame at the field side (R327, R329, R334, R335). -/
def FldSt.down (ft out caddr cdata : Nat) (f : FldSt) : FldSt :=
  let run := satN 2 (f.goodRun + 1)
  let lock := f.locked || decide (2 ≤ run)
  let f : FldSt := { f with
    ft := ft, seen := true, goodRun := run, locked := lock, silAt := ft, silRun := true
    silent := f.silent && !lock
    out := if lock then out else f.out
    words := if caddr ≤ 0x19 then tset fwordD f.words caddr cdata else f.words
    got := if caddr ≤ 0x19 then insNat caddr f.got else f.got }
  f.follow

/-- A bad downlink frame: it is counted, and a lock in the making starts again (R327, R331). -/
def FldSt.downBad (f : FldSt) : FldSt := { f with goodRun := 0, badDn := satN 255 (f.badDn + 1) }

/-- The downlink frame on the line (R328). -/
def dnFrame (seq : Nat) (ins : Bool) (out caddr cdata : Nat) : List Byte :=
  let p := leBytes 1 0xB4 ++ leBytes 1 (seq % 16 + 16 * b2n ins) ++ leBytes 4 out ++ leBytes 1 caddr ++ leBytes 3 cdata
  p ++ leBytes 2 (crc16Line p)

/-- SYNC, length and CRC-16 of a frame are right (R327). -/
def lineGood (sync : Nat) (p : List Byte) : Bool :=
  p.length == 12 && fld p 0 1 == sync && fld p 10 2 == crc16Line (p.take 10)

/-- The field side takes in the frame on the line. -/
def FldSt.takeFrame (ft : Nat) (p : List Byte) (f : FldSt) : FldSt :=
  if lineGood 0xB4 p then f.down ft (fld p 2 4) (fld p 6 1) (fld p 7 3) else f.downBad

/-- The transmitter starts a frame with the command of R214 as it is now and the configuration word whose turn it is; SEQ counts frames
started, this one included. A rising command of an output in input mode raises event 340 (R325, R328, R329). DESIGN CHOICE (log 23). -/
def Block.startFrame (ins : Bool) (b : Block) : Block :=
  let c := b.formCmd
  let r := b.bar
  let rise := (List.range 32).filter fun j => bitOf c j && !bitOf r.cmd j && decide (24 ≤ j) && bitOf r.cfg.rbIn (j - 24)
  let n := (r.seqDn + 1) % 16
  let b : Block := { b with bar := { r with
    seqDn := n, ins := ins, cmd := c, tx := dnFrame n ins c r.caddr (r.cfg.word r.caddr)
    sentAt := if tget natD r.sentAt r.caddr = 0 then tset natD r.sentAt r.caddr b.now else r.sentAt } }
  rise.foldl (fun b (j : Nat) => b.raise 340 j) b

/-- The frame in flight is completed: the address advances and the next frame follows it at once (R327, R329). -/
def Block.nextFrame (b : Block) : Block :=
  Block.startFrame false { b with bar := { b.bar with caddr := (b.bar.caddr + 1) % 26 } }

/-- The barrier link starts with a first frame that carries the command as R214 forms it (R56). -/
def Block.linkStart (b : Block) : Block := Block.startFrame false { b with bar := { b.bar with run := true } }

/-- TRIP_INSERTION: the command has changed since the frame in flight was started; that frame is abandoned, and an inserted frame starts
(R15, R214, R328). The abort reaches the field side as one that restarts its silence timer (R334). DESIGN CHOICE (log 23). -/
def Block.tripInsert (b : Block) : Block :=
  if !b.bar.run || b.formCmd = b.bar.cmd then b
  else
    let b : Block := if b.fside.powered then { b with fside := { b.fside with silAt := b.fside.ft, silRun := true } } else b
    Block.startFrame true { b with bar := { b.bar with inserted := b.bar.inserted + 1 } }

/-- DOWNLINK_FRAME: the frame in flight arrives good at the field side (R328). -/
def Block.downFrame (ft : Nat) (b : Block) : Block :=
  if !b.bar.run || !b.fside.powered then b else (b.onField (FldSt.takeFrame ft b.bar.tx)).nextFrame

/-- DOWNLINK_ABORT: the frame in flight is discarded without an error and the silence timer restarts (R327, R334). -/
def Block.downAbort (ft : Nat) (b : Block) : Block :=
  if b.bar.run then b.onField fun f => { f with ft := ft, silAt := ft, silRun := true } else b

/-- BAD_DOWNLINK_FRAME: the frame in flight is completed and arrives bad (R327, R329, R331). -/
def Block.downBad (b : Block) : Block := if b.bar.run && b.fside.powered then (b.onField FldSt.downBad).nextFrame else b

/-- SILENCE_EXPIRY: the timer, restarted by a good frame or an ABORT, has run out: the count grows, the lock is lost, and the outputs take
and hold their safe states until the field side locks again (R334, R335). -/
def FldSt.silenceEnd (ft : Nat) (f : FldSt) : FldSt :=
  if f.silRun && decide (f.silAt + f.silence ≤ ft) then
    { f with ft := ft, silRun := false, silent := true, locked := false, goodRun := 0, silCnt := satN 255 (f.silCnt + 1) }.follow
  else f

/-- FIELD_EDGE_DISCARD: entries older than 20 ms are discarded and counted as lost (R332). -/
def FldSt.edgeDiscard (ft : Nat) (f : FldSt) : FldSt :=
  let old (e : FEdge) : Bool := decide (e.ft + 2000000 < ft)
  let n := (f.fastQ.filter old).length + (f.slowQ.filter old).length
  { f with ft := ft, fastQ := f.fastQ.filter fun e => !old e, slowQ := f.slowQ.filter fun e => !old e
           lost := satN 255 (f.lost + n), lostNow := f.lostNow || decide (0 < n) }

/-! ### Uplink (R330 to R338) -/

/-- UNCONF of the field side: not all 26 words received since power-up (R337). -/
def FldSt.unconf (f : FldSt) : Bool := decide (f.got.length < 26)

/-- What the AUX frame due next carries (R331, R332). -/
inductive AuxDue where
  | edges
  | diag (j : Nat)
  | time
  | status
  | echo (a : Nat)
deriving DecidableEq, Repr

/-- The next record of the round of 35. -/
def FldSt.roundDue (f : FldSt) : AuxDue :=
  if f.round < 32 then .diag f.round else if f.round = 32 then .time else if f.round = 33 then .status else .echo f.echoA

/-- Every eighth AUX slot carries the round's next record; the others carry EDGES while the queue holds entries, else the round (R332). -/
def FldSt.auxDue (f : FldSt) : AuxDue := if f.auxN % 8 = 7 ∨ (f.fastQ = [] ∧ f.slowQ = []) then f.roundDue else .edges

/-- A frame has been sent: SEQ and the fixed order advance (R330). -/
def FldSt.upNext (f : FldSt) : FldSt := { f with seqUp := (f.seqUp + 1) % 16, upPos := (f.upPos + 1) % 4 }

/-- The AUX frame due has been sent: what it carried is not sent again (R331, R332). -/
def FldSt.auxSent (f : FldSt) : FldSt :=
  let f := f.upNext
  match f.auxDue with
  | .edges =>
    let k := (f.fastQ.take 2).length
    { f with auxN := (f.auxN + 1) % 8, fastQ := f.fastQ.drop 2, slowQ := f.slowQ.drop (2 - k), lostNow := false }
  | .status => { f with auxN := (f.auxN + 1) % 8, round := 34, badDn := 0 }
  | .echo _ => { f with auxN := (f.auxN + 1) % 8, round := 0, echoA := (f.echoA + 1) % 26 }
  | _ => { f with auxN := (f.auxN + 1) % 8, round := f.round + 1 }

/-- The uplink frame on the line: KIND 0 DI, 1 RB, 2 AUX (R330). -/
def FldSt.upFrame (f : FldSt) (kind payload : Nat) : List Byte :=
  let p := leBytes 1 0x4B ++ leBytes 1 (f.seqUp + 16 * kind + 64 * b2n f.lockout + 128 * b2n f.unconf) ++ leBytes 8 payload
  p ++ leBytes 2 (crc16Line p)

/-- An edge entry in 30 bits (R331). -/
def FEdge.pack (e : FEdge) : Nat := e.input + 64 * b2n e.level + 128 + 256 * (e.ft % 2 ^ 22)

/-- The counters' QUESTIONABLE marks (R333, R337). -/
def BarSt.questAll (r : BarSt) : BarSt := { r with counters := tupdAll counterD r.counters (List.range 8) fun _ c => { c with quest := true } }

/-- A good uplink frame at the logic side: the flags it carries, and the end of a loss at the fourth in a row (R330, R333, R36, R337). A
restart of the field side starts its counts since power-up again. DESIGN CHOICE (log 22). -/
def Block.upGood (p : List Byte) (b : Block) : Block :=
  let r := b.bar
  let f := b.fside
  let run := r.goodRun + 1
  let ends := r.loss.isSome && decide (4 ≤ run)
  let lockUp := f.lockout && !r.lockout
  let lockDn := !f.lockout && r.lockout
  let unUp := f.unconf && !r.unconf && r.confd
  let b : Block := { b with
    bar := { (if unUp then { r.questAll with silSeen := 0, lostSeen := 0 } else r) with
      rx := p, goodRun := run, badRun := 0, goodAt := b.now, loss := if ends then none else r.loss
      lockout := f.lockout, lockAt := if lockUp then b.now else r.lockAt, unconf := f.unconf, confd := r.confd || !f.unconf } }
  let b := if ends then b.quantity 331 (((b.now - r.loss.getD 0) / usE : Nat) : Int) else b
  let b := if lockUp then b.raiseOpen 344 else b
  let b := if lockDn then b.quantity 344 (((b.now - r.lockAt) / msE : Nat) : Int) else b
  b.raiseIf unUp 335 0

/-- The field side sends the frame whose turn it is, with the fields `x`, and goes on with `sent`; the logic side takes it in while its
link runs (R330, R334). -/
def Block.onUp (kind payload : Nat) (sent : FldSt → FldSt) (g : Block → Block) (b : Block) : Block :=
  let p := b.fside.upFrame kind payload
  let b1 := if b.bar.run then g (b.upGood p) else b
  { b1 with fside := sent b1.fside }

/-- An AUX frame of a record type that is due (R331, R332). -/
def Block.onAux (due : AuxDue) (type rec_ : Nat) (g : Block → Block) (b : Block) : Block :=
  if b.fside.powered && b.fside.upPos % 2 == 1 && b.fside.auxDue == due then b.onUp 2 (type * 2 ^ 60 + rec_) FldSt.auxSent g else b

/-- UPLINK_DI_FRAME (R331, R333). -/
def Block.upDi (b : Block) : Block :=
  if b.fside.powered && b.fside.upPos == 0 then
    b.onUp 0 b.fside.di FldSt.upNext fun b => { b with bar := { b.bar with diReg := b.fside.di } }
  else b

/-- UPLINK_RB_FRAME: the readback states and FAULT (R324, R326, R331). -/
def Block.upRb (rb : BitVec 32) (b : Block) : Block :=
  if b.fside.powered && b.fside.upPos == 2 then
    let fault := maskOf ((List.range 32).filter fun j => (b.fside.chan j).bits != 0)
    Block.onUp 1 (rb.toNat + 2 ^ 32 * fault) FldSt.upNext
      (fun b => { b with bar := { b.bar with rbReg := rb.toNat, faultReg := fault } }) { b with fside := { b.fside with rb := rb.toNat } }
  else b

/-- The counter reading, in ns64, of an FTIME stamp of 22 bits (R331). -/
def BarSt.stampNs (r : BarSt) (ft : Nat) : Nat := ofSigned 64 ((r.mapNs : Int) + 10 * toSigned 22 ((ft + 2 ^ 32 - r.mapFt % 2 ^ 32) % 2 ^ 22))

/-- A time-stamp of a counter reading in ns64, with the time quality in force. -/
def Block.stampNs (b : Block) (n : Nat) : Stamp := { sec := n / 1000000000, ns := n % 1000000000, qual := b.time.tcQual }

/-- An edge enters the FIFO under the arbitration of R339. -/
def Block.fifoPut (e : Edge) (b : Block) : Block :=
  let r := b.bar
  let n := r.fifo.length
  let e : Edge := { e with lostB := r.lostBefore }
  if e.cnt then
    if 1024 ≤ n then
      let b1 : Block := { b with bar := { r with
        cntDrop := satN 65535 (r.cntDrop + 1), cntDropAll := r.cntDropAll + 1, edgesDrop := r.edgesDrop + 1
        burst := r.burst + 1 } }
      if r.burst = 0 then b1.raiseOpen 336 else b1
    else
      let b := if 0 < r.burst then b.quantity 336 r.burst else b
      let ns := ns64Of e.stamp.sec e.stamp.ns
      let gap := if e.rec_ && !r.recBlock then r.gapFrom else none
      let b1 : Block := { b with bar := { b.bar with
        fifo := r.fifo ++ [{ e with gapEnd := gap.isSome, gapNs := gap.getD 0 }], burst := 0, lostBefore := false
        gapFrom := if gap.isSome then none else r.gapFrom
        lastRec := if e.rec_ then ns else r.lastRec } }
      match gap with
      | some t => b1.raise 337 ((dist64 ns t).natAbs / 1000 : Nat)
      | none => b1
  else if e.rec_ then
    let blk := r.recBlock || decide (768 ≤ n)
    if blk then
      { b with bar := { r with
        recBlock := true, recRef := satN 65535 (r.recRef + 1), recRefAll := r.recRefAll + 1
        gapFrom := match r.gapFrom with | some t => some t | none => some r.lastRec } }
    else
      let ns := ns64Of e.stamp.sec e.stamp.ns
      let e : Edge := { e with gapEnd := r.gapFrom.isSome, gapNs := r.gapFrom.getD 0 }
      let b1 : Block := { b with bar := { r with fifo := r.fifo ++ [e], gapFrom := none, lastRec := ns, lostBefore := false } }
      match r.gapFrom with
      | some t => b1.raise 337 ((dist64 ns t).natAbs / 1000 : Nat)
      | none => b1
  else b

/-- One counted edge of a fast input (R319, R320). -/
def Block.countEdge (i ns : Nat) (b : Block) : Block :=
  let c := tget counterD b.bar.counters i
  let n := (c.count + 1) % 2 ^ 32
  let hit := c.cmp != 0 && n == c.cmp
  let c2 : Counter := { c with count := n, stamp := ns, matchAt := if hit then some b.now else c.matchAt }
  let b : Block := { b with bar := { b.bar with counters := tset counterD b.bar.counters i c2 } }
  if hit then
    let b := match b.counterOwner i with
      | some s => b.trigger s 2 i ns b.time.tcQual
      | none => b
    b.raise (200 + i) (match c.matchAt with | some t => ((b.now - t) / msE : Nat) | none => 0)
  else b

/-- One edge entry received (R319, R331, R339, R344). DESIGN CHOICE (log 20). -/
def Block.edgeIn (e : FEdge) (b : Block) : Block :=
  let ns := b.bar.stampNs e.ft
  let i := e.input
  let b := if i < 8 then b.countEdge i ns
    else
      let t := tget natD b.bar.diAt i
      Block.raiseAt (200 + i) (b.stampNs ns) (some (((b.now - t) / msE : Nat) : Int)) 0
        { b with bar := { b.bar with diAt := tset natD b.bar.diAt i b.now } }
  let cnt := decide (i < 8) && bitOf b.bar.cfg.stampLog i
  b.fifoPut { stamp := b.stampNs ns, input := i, level := e.level, cnt := cnt, rec_ := bitOf b.bar.recMask i,
              count := if cnt then (tget counterD b.bar.counters i).count else 0 }

/-- AUX_IDLE: an AUX slot without a record (R331). -/
def Block.auxIdle (b : Block) : Block :=
  if b.fside.powered && b.fside.upPos % 2 == 1 then
    b.onUp 2 0 (fun f => { f.upNext with auxN := (f.auxN + 1) % 8 }) id
  else b

/-- AUX_EDGES: up to two entries, fast inputs first (R331, R332). -/
def Block.auxEdges (b : Block) : Block :=
  let q := (b.fside.fastQ ++ b.fside.slowQ).take 2
  b.onAux .edges 1 ((q.map FEdge.pack).foldr (fun v n => v + 2 ^ 30 * n) 0) fun b => q.foldl (fun b e => b.edgeIn e) b

/-- AUX_DIAG of DOj (R331, R344). DESIGN CHOICE (log 22). -/
def Block.auxDiag (j : Nat) (cur : BitVec 12) (b : Block) : Block :=
  b.onAux (.diag j) 2 (j + 32 * (b.fside.chan j).bits + 4096 * cur.toNat) fun b =>
    let c := b.fside.chan j
    let d := tget diagD b.bar.diag j
    let cond := c.overload || c.open_ || c.shut || c.backfeed
    let d2 : DiagRec := { bits := c.bits, cur := cur.toNat
                          since := if cond then (match d.since with | some t => some t | none => some b.now) else none }
    let b : Block := { b with bar := { b.bar with diag := tset diagD b.bar.diag j d2 } }
    match cond, d.since with
    | true, none => b.raiseOpen (264 + j)
    | false, some t => b.quantity (264 + j) (((b.now - t) / msE : Nat) : Int)
    | _, _ => b

/-- AUX_TIME: FTIME is mapped to the time counter, less the link delay (R331). -/
def Block.auxTime (ft : Nat) (b : Block) : Block :=
  b.onAux .time 3 (ft % 2 ^ 32) fun b => { b with
    fside := { b.fside with ft := ft }
    bar := { b.bar with mapFt := ft % 2 ^ 32, mapNs := ofSigned 64 ((b.ns64 : Int) - b.bar.delay) } }

/-- What a count since field power-up, which stays at 255, has grown by since it was last seen. -/
def grown (now seen : Nat) : Nat := if seen ≤ now then now - seen else now

/-- AUX_STATUS (R331, R333, R344). -/
def Block.auxStatus (vfld : BitVec 12) (temp : Byte) (b : Block) : Block :=
  let f := b.fside
  b.onAux .status 4 (vfld.toNat + 2 ^ 12 * temp.toNat + 2 ^ 20 * f.badDn + 2 ^ 28 * f.silCnt + 2 ^ 36 * f.lost) fun b =>
    let r := b.bar
    let t : Int := temp.toNat - 64
    let lost := grown f.lost r.lostSeen
    let sil := grown f.silCnt r.silSeen
    let b : Block := { b with
      bar := { r with
        vfld := vfld.toNat, temp := t, badDn := r.badDn + f.badDn, silSeen := f.silCnt, lostSeen := f.lost
        silAll := r.silAll + sil, lostAll := r.lostAll + lost
        lostBefore := r.lostBefore || decide (0 < lost) } }
    let b := if 0 < lost then { b with bar := b.bar.questAll } else b
    (((b.raiseIf (0 < f.badDn) 332 f.badDn).raiseIf (0 < sil) 333 0).raiseIf (0 < lost) 338 lost).raiseIf
      (decide (125 ≤ t)) 339 t

/-- AUX_CFGECHO: the word held at an address, compared with the one sent (R331, R333). -/
def Block.auxEcho (a : Nat) (b : Block) : Block :=
  b.onAux (.echo a) 5 (a + 256 * b.fside.word a) fun b =>
    let bad := a ≤ 0x19 && b.fside.word a != b.bar.cfg.word a
    { b with bar := { b.bar with differ := if bad then insNat a b.bar.differ else remNat a b.bar.differ } }

/-- CFGECHO_MISMATCH: an echo differs for longer than 1 ms after the value was first sent (R333). -/
def Block.echoBad (a : Nat) (b : Block) : Block :=
  let t := tget natD b.bar.sentAt a
  if decide (a ∈ b.bar.differ) && t != 0 && decide (t + msE < b.now) then
    Block.raise 334 a { b with bar := { b.bar with differ := remNat a b.bar.differ } }
  else b

/-- BAD_UPLINK_FRAME in an AUX position or another: what it carried is lost. The logic side counts it, with event 330; in an AUX position
the counters become QUESTIONABLE (R332, R333). DESIGN CHOICE (log 22). -/
def Block.upBad (aux : Bool) (b : Block) : Block :=
  if b.fside.powered && (b.fside.upPos % 2 == 1) == aux then
    let b : Block := { b with fside := if aux then b.fside.auxSent else b.fside.upNext }
    if b.bar.run then
      let r := if aux then b.bar.questAll else b.bar
      Block.raise 330 (r.badRun + 1 : Nat) { b with bar := { r with badRun := r.badRun + 1, goodRun := 0, badUp := r.badUp + 1 } }
    else b
  else b

/-- UPLINK_LOSS: 10 µs without a good frame (R333). -/
def Block.upLoss (b : Block) : Block :=
  if b.bar.run && b.bar.loss.isNone && decide (b.bar.goodAt + 10 * usE ≤ b.now) then
    Block.raiseOpen 331 { b with bar := { b.bar with loss := some b.now, goodRun := 0, losses := b.bar.losses + 1 } }
  else b

/-- LINK_DELAY_MEASURED: by round trip when the barrier starts (R331). -/
def Block.linkDelay (ns : Nat) (b : Block) : Block := { b with bar := { b.bar with delay := ns } }

/-! ### The edge FIFO (R339, R340) -/

/-- Occupancy below 512 clears REC_BLOCK. -/
def BarSt.reblock (r : BarSt) : BarSt := if r.fifo.length < 512 then { r with recBlock := false } else r

/-- A CNT entry joins the edge log of 4,096, over the oldest where it is full (R339). -/
def BarSt.logPut (e : Edge) (r : BarSt) : BarSt :=
  if 4096 ≤ r.log.length then { r with log := r.log.drop 1 ++ [e], edgesDrop := r.edgesDrop + 1 } else { r with log := r.log ++ [e] }

/-- The 20-byte entry (R339). -/
def Edge.bytes (e : Edge) : List Byte :=
  e.stamp.bytes ++ leBytes 1 e.input ++ leBytes 1 (bitsOf [e.level, e.cnt, e.rec_, e.gapEnd, e.lostB]) ++ zeros 2 ++
  leBytes 4 e.count

/-- EDGE_POP_READ: word 4 of the head entry; a read removes it, a tongs read sets PEEKED (R340). -/
def Block.edgePop (tongs : Bool) (b : Block) : Block :=
  let w := match b.bar.fifo with | [] => zeros 4 | e :: _ => e.bytes.drop 16
  let b : Block := { b with mbx := { b.mbx with rdData := w } }
  if tongs then { b with bar := { b.bar with peeked := true } }
  else { b with bar := ({ b.bar with fifo := b.bar.fifo.drop 1 } : BarSt).reblock }

/-- DROP_COUNTER_READ: CNT_DROP and REC_REFUSED are returned and cleared; a tongs read leaves them (R340). -/
def Block.dropRead (tongs : Bool) (b : Block) : Block :=
  let b : Block := { b with mbx := { b.mbx with rdData := leBytes 2 b.bar.cntDrop ++ leBytes 2 b.bar.recRef } }
  if tongs then b else { b with bar := { b.bar with cntDrop := 0, recRef := 0 } }

/-! ### The latch at a tick (R18, R298, R338) -/

/-- The field inputs as they stand now. -/
def Block.inSetNow (b : Block) : InSet :=
  let r := b.bar
  {   epoch := b.time.epoch, di := r.diReg, rb := r.rbReg, fault := r.faultReg, lockout := r.lockout, unconf := r.unconf
      loss := r.loss.isSome
      count := r.counters.foldl (fun t x => tset natD t x.1 x.2.count) []
      stamp := r.counters.foldl (fun t x => tset natD t x.1 x.2.stamp) []
      cquest := maskOf ((List.range 8).filter fun i => (tget counterD r.counters i).quest)
      inOn := maskOf ((List.range 8).filterMap fun i => if bitOf r.cfg.rbIn i && bitOf b.formCmd (24 + i) then some (24 + i) else none)
      cmd := b.formCmd, lid := b.lidMask
      diag := r.diag, vfld := r.vfld, temp := r.temp, inMode := r.cfg.rbIn
      cmp := r.counters.foldl (fun t x => tset natD t x.1 x.2.cmp) []
      totals := [r.badUp, r.badDn, r.silAll, r.losses, r.inserted, r.cntDropAll, r.recRefAll, r.lostAll] }

/-- The field input set of epoch E. -/
def Block.latchField (b : Block) : Block := { b with bar := { b.bar with set := b.inSetNow } }

/-- The quality of a DI, readback or counter point of the latched set (R298, R338). -/
def InSet.qualOf (s : InSet) (test quest off : Bool) : Qual :=
  { valid := !s.lockout && !s.loss && !off, quest := s.lockout || s.loss || quest || off, stale := s.loss, test := test }
def Block.diQual (b : Block) (i : Nat) : Qual := b.bar.set.qualOf (bitOf b.bar.cfg.diTest i) b.bar.set.unconf false
def Block.rbQual (b : Block) (j : Nat) : Qual := b.bar.set.qualOf (bitOf b.bar.cfg.rbTest j) false (bitOf b.bar.set.inOn j)
def Block.ctQual (b : Block) (i : Nat) : Qual :=
  b.bar.set.qualOf (bitOf b.bar.cfg.diTest i) (b.bar.set.unconf || bitOf b.bar.set.cquest i) false

/-! ### `io.` commands (R341 to R343) -/

/-- The settings of a 96-byte request (R342). -/
def fldCfgOf (p : List Byte) : FldCfg :=
  { silence := fld p 4 4, safe := fld p 8 4, owEn := fld p 12 4, rbIn := fld p 16 1, stampLog := fld p 17 1
    preset := fld p 18 2, edgeSel := fld p 20 2
    deb := tsetRun natD [] 8 ((List.range 56).map fun i => fld p (24 + i) 1)
    diTest := fld p 80 8, rbTest := fld p 88 4 }

/-- The reserved fields of an `io.cfg` request are 0 (R9, R342). -/
def fldCfgRsv (p : List Byte) : Bool :=
  fld p 1 3 == 0 && decide (fld p 18 2 < 2 ^ 14) && fld p 22 2 == 0 && fld p 92 4 == 0

/-- Every field in range, every reserved field 0 (R342). -/
def fldCfgOk (p : List Byte) : Bool :=
  let c := fldCfgOf p
  p.length == 96 && fld p 1 3 == 0 && decide (2 ≤ c.silence ∧ c.silence ≤ 10000) && decide (c.preset < 2 ^ 14) &&
  ((List.range 7).all fun g => decide (bits c.preset (2 * g + 1) (2 * g) ≤ 2)) && fld p 22 2 == 0 &&
  ((List.range 56).all fun i => decide (fld p (24 + i) 1 ≤ 160)) && fld p 92 4 == 0

/-- The 96-byte layout. -/
def FldCfg.bytes (c : FldCfg) : List Byte :=
  leBytes 1 2 ++ zeros 3 ++ leBytes 4 c.silence ++ leBytes 4 c.safe ++ leBytes 4 c.owEn ++ leBytes 1 c.rbIn ++
  leBytes 1 c.stampLog ++ leBytes 2 c.preset ++ leBytes 2 c.edgeSel ++ zeros 2 ++
  ((List.range 56).map fun i => BitVec.ofNat 8 (tget natD c.deb (8 + i))) ++ leBytes 8 c.diTest ++ leBytes 4 c.rbTest ++ zeros 4

/-- IO_CFG (R342; output writes R63). -/
def ioCfg (r : Req) (b : Block) : Block :=
  b.onReq 0x0701 r fun b =>
    let op := fld r.payload 0 1
    if op = 2 then (if fldCfgRsv r.payload then b.ok r b.bar.cfg.bytes else b.status r stBADARG)
    else if op != 0 || !fldCfgOk r.payload then b.status r stBADARG
    else
      let c := fldCfgOf r.payload
      let o := b.bar.cfg
      let held := (List.range 32).any fun j =>
        (bitOf c.safe j != bitOf o.safe j || (decide (24 ≤ j) && bitOf c.rbIn (j - 24) != bitOf o.rbIn (j - 24))) &&
        (match b.ownerOf j with | some s => !(b.slot s).free | none => false)
      if held then b.status r stNOTREADY else b.journal true 0x0701 r

/-- Both appends of an `io.cfg` are done. -/
def ioCfgCommit (r : Req) (b : Block) : Block :=
  let c := fldCfgOf r.payload
  Block.answer r stOK b.effS [] { b with
    bar := { b.bar with cfgPend := b.bar.cfgPend ++ [(b.effS, c)] }
    nv := { b.nv with store := { b.nv.store with io := c } } }

/-- IO_CFG_EFFECT: from S the marks and STAMP_LOG apply and the downlink carries the new words (R342). -/
def ioCfgEffect (b : Block) : Block :=
  let due := b.bar.cfgPend.filter fun x => decide (x.1 ≤ b.time.epoch)
  let b : Block := { b with bar := { b.bar with cfgPend := b.bar.cfgPend.filter fun x => decide (b.time.epoch < x.1) } }
  due.foldl (fun b x =>
    let ch := (List.range 26).filter fun a => b.bar.cfg.word a != x.2.word a
    { b with bar := { b.bar with cfg := x.2, sentAt := ch.foldl (fun t a => tset natD t a 0) b.bar.sentAt } }) b

/-- The 256 bytes of `io.read` on an input set (R343). -/
def InSet.bytes (s : InSet) : List Byte :=
  let outp (j : Nat) : List Byte :=
    let d := tget diagD s.diag j
    leBytes 4 (d.bits + 64 * b2n (decide (24 ≤ j) && bitOf s.inMode (j - 24)) + 256 * d.cur)
  leBytes 8 s.di ++ leBytes 4 s.rb ++ leBytes 4 s.cmd ++ leBytes 4 s.lid ++ leBytes 4 s.fault ++
  leBytes 4 (bitsOf [s.lockout, s.unconf, s.loss]) ++ leBytes 2 s.vfld ++ leBytesInt 2 s.temp ++
  ((List.range 32).flatMap outp) ++
  ((List.range 8).flatMap fun i => leBytes 4 (tget natD s.count i) ++ leBytes 4 (tget natD s.cmp i)) ++
  ((List.range 8).flatMap fun i => leBytes 4 ((s.totals[i]?).getD 0))

/-- IO_READ (R343). -/
def ioRead (r : Req) (b : Block) : Block :=
  b.onReq 0x0702 r fun b =>
    if fld r.payload 0 4 != 0 then b.status r stBADARG else b.answer r stOK b.bar.set.epoch b.bar.set.bytes

/-- IO_EDGES: entries leave the log oldest first; DROPS is zeroed (R341). -/
def ioEdges (r : Req) (b : Block) : Block :=
  b.onReq 0x0703 r fun b =>
    let mx := fld r.payload 0 1
    if mx = 0 || 64 < mx || fld r.payload 1 3 != 0 then b.status r stBADARG
    else
      let out := b.bar.log.take mx
      let left := b.bar.log.drop mx
      Block.ok r (leBytes 2 out.length ++ leBytes 2 left.length ++ leBytes 4 b.bar.edgesDrop ++ out.flatMap Edge.bytes)
        { b with bar := { b.bar with log := left, edgesDrop := 0 } }

/-! ### Meanings -/

def execFieldPowerUp (s : State) : Out := s.done s.blk.fieldPowerUp
def execVfldLockoutEnter (s : State) : Out := s.done s.blk.lockEnter
def execVfldLockoutExit (s : State) : Out := s.done s.blk.lockExit
def execDiChangeAccepted (i : Nat) (mvs : List Nat) (ft : Nat) (s : State) : Out := s.done (s.blk.onField (FldSt.diChange i mvs ft))
def execWettingEnd (i ft : Nat) (s : State) : Out := s.done (s.blk.onField (FldSt.wetEnd i ft))
def execFastInputEdge (i : Nat) (level : Bool) (ft : Nat) (s : State) : Out := s.done (s.blk.onField (FldSt.fastEdge i level ft))
def execOutputOvercurrentOnset (j ft : Nat) (s : State) : Out := s.done (s.blk.onField (FldSt.overOnset j ft))
def execPeakPhaseEnd (j ft : Nat) (below : Bool) (s : State) : Out := s.done (s.blk.onField (FldSt.peakEnd j ft below))
def execFoldbackStart (j ft : Nat) (below : Bool) (s : State) : Out := s.done (s.blk.onField (FldSt.foldStart j ft below))
def execRetryPulse (j : Nat) (s : State) : Out := s.done (s.blk.onField (FldSt.retry j))
def execRetryPulseEnd (j ft : Nat) (above : Bool) (s : State) : Out := s.done (s.blk.onField (FldSt.retryEnd j ft above))
def execOverloadClear (j ft : Nat) (s : State) : Out := s.done (s.blk.onField (FldSt.overClear j ft))
def execOvertempEnter (j : Nat) (s : State) : Out := s.done (s.blk.onField (FldSt.tempEnter j))
def execOvertempClear (j : Nat) (s : State) : Out := s.done (s.blk.onField (FldSt.tempClear j))
def execThermalShutdown (j : Nat) (s : State) : Out := s.done (s.blk.onField (FldSt.thermal j))
def execThermalRecovery (j : Nat) (s : State) : Out := s.done (s.blk.onField (FldSt.thermalBack j))
def execOpenWireTest (j : Nat) (above : Bool) (s : State) : Out := s.done (s.blk.onField (FldSt.openWire j above))
def execBackfeedDetect (j : Nat) (s : State) : Out := s.done (s.blk.onField (FldSt.backfeed j))
def execBackfeedClear (j : Nat) (s : State) : Out := s.done (s.blk.onField (FldSt.backfeedEnd j))
def execDownlinkFrame (ft : Nat) (s : State) : Out := s.done (s.blk.downFrame ft)
def execDownlinkAbort (ft : Nat) (s : State) : Out := s.done (s.blk.downAbort ft)
def execBadDownlinkFrame (s : State) : Out := s.done s.blk.downBad
def execSilenceExpiry (ft : Nat) (s : State) : Out := s.done (s.blk.onField (FldSt.silenceEnd ft))
def execUplinkDiFrame (s : State) : Out := s.done s.blk.upDi
def execAuxIdle (s : State) : Out := s.done s.blk.auxIdle
def execAuxEdges (s : State) : Out := s.done s.blk.auxEdges
def execAuxDiag (j : Nat) (cur : BitVec 12) (s : State) : Out := s.done (s.blk.auxDiag j cur)
def execAuxTime (ft : Nat) (s : State) : Out := s.done (s.blk.auxTime ft)
def execAuxStatus (vfld : BitVec 12) (temp : Byte) (s : State) : Out := s.done (s.blk.auxStatus vfld temp)
def execAuxCfgecho (a : Nat) (s : State) : Out := s.done (s.blk.auxEcho a)
def execBadUplinkFrame (aux : Bool) (s : State) : Out := s.done (s.blk.upBad aux)
def execUplinkLoss (s : State) : Out := s.done s.blk.upLoss
def execCfgechoMismatch (a : Nat) (s : State) : Out := s.done (s.blk.echoBad a)
def execLinkDelayMeasured (ns : Nat) (s : State) : Out := s.done (s.blk.linkDelay ns)
def execFieldEdgeDiscard (ft : Nat) (s : State) : Out := s.done (s.blk.onField (FldSt.edgeDiscard ft))
def execEdgePopRead (tongs : Bool) (s : State) : Out := s.done (s.blk.edgePop tongs)
def execDropCounterRead (tongs : Bool) (s : State) : Out := s.done (s.blk.dropRead tongs)
def execIoCfg (r : Req) (s : State) : Out := s.done (ioCfg r s.blk)
def execIoCfgEffect (s : State) : Out := s.done (ioCfgEffect s.blk)
def execIoRead (r : Req) (s : State) : Out := s.done (ioRead r s.blk)
def execIoEdges (r : Req) (s : State) : Out := s.done (ioEdges r s.blk)

end Sys2Proof.Machine
end

