-- ==== Sys2Proof/Machine/Wheel.lean ====
section
/-! DEFINITION. The timer wheel: operations, readings, allocation, expiry notifications and `diag.wheel` (09 of the spec,
R191 to R204). -/

namespace Sys2Proof.Machine
open Sys2Proof

/-- The longest duration, in µs (R191). -/
def durMax : Nat := 2 ^ 48 - 1

/-- An operation on a timer (R192). -/
def Timer.op (o : TOp) (t : Timer) : Timer :=
  match o with
  | .start s d => { t with mode := .oneshot, paused := false, start := s, x := s + satN durMax d * 1000, done := 0 }
  | .startP s p => { t with mode := .periodic, paused := false, start := s, period := p, done := 0 }
  | .startW s => { t with mode := .stopwatch, paused := false, start := s, done := 0 }
  | .cancel => { t with mode := .idle, paused := false }
  | .pause p h =>
    if t.mode = .oneshot && !t.paused then
      { t with paused := true, remain := t.x - p, hold := satN durMax h, holdTo := p + satN durMax h * 1000 }
    else t
  | .resume r =>
    if t.paused then
      if r < t.holdTo then { t with paused := false, x := r + t.remain } else { t with mode := .idle, paused := false }
    else t

/-- Expiries of a PERIODIC at or before an instant (R192). -/
def Timer.count (ref : Nat) (t : Timer) : Nat :=
  if t.mode = .periodic && t.period != 0 then (ref - t.start) / (t.period * 1000) else 0

/-- DUE at a reader's reference instant (R192). -/
def Timer.due (ref : Nat) (t : Timer) : Bool :=
  match t.mode with
  | .oneshot => !t.paused && decide (t.x ≤ ref)
  | .periodic => decide (0 < t.count ref)
  | _ => false

/-- A paused timer whose hold has passed is idle (R192). -/
def Timer.lapse (ref : Nat) (t : Timer) : Timer :=
  if t.paused && decide (t.holdTo ≤ ref) then { t with mode := .idle, paused := false } else t

/-- The services' reserve of the firmware and fabric class (R199). -/
def timerR (n : Nat) : Timer := if 114688 ≤ n ∧ n < 116736 then { cls := 2 } else {}

def WheelSt.get (w : WheelSt) (n : Nat) : Timer := tget timerR w.timers n
def WheelSt.upd (w : WheelSt) (n : Nat) (f : Timer → Timer) : WheelSt := { w with timers := tupd timerR w.timers n f }

/-- First timer number and quota of each class (R199). DESIGN CHOICE (log 28). -/
def clsBase (c : Nat) : Nat := if c = 0 then 0 else if c = 1 then 65536 else 114688
def clsQuota (c : Nat) : Nat := if c = 0 then 65536 else if c = 1 then 49152 else 16384

/-- Timers of a class in use. -/
def WheelSt.used (w : WheelSt) (c : Nat) : Nat :=
  (w.timers.filter fun x => x.2.cls == c).length + (if c = 2 then 2048 - (w.timers.filter fun x => decide (114688 ≤ x.1 ∧ x.1 < 116736)).length else 0)

/-- The lowest number from `n` on that no timer uses. -/
def freeFrom (used : List Nat) (fuel n : Nat) : Nat :=
  match fuel with
  | 0 => n
  | k + 1 => if n ∈ used then freeFrom used k (n + 1) else n

/-- Allocate one timer of a class: its number, the lowest free (R199). -/
def WheelSt.alloc (c slot owner : Nat) (notify : Bool) (w : WheelSt) : WheelSt × Nat :=
  let used := (w.timers.filter fun x => x.2.cls != 3).map (·.1)
  let base := if c = 2 then 116736 else clsBase c
  let n := freeFrom used (used.length + 1) base
  let w : WheelSt := w.upd n fun _ => { cls := c, slot := slot, owner := owner, notify := notify }
  ({ w with high := lupd w.high c fun h => if h < w.used c then w.used c else h }, n)

/-- Allocate several. DESIGN CHOICE (log 28). -/
def WheelSt.allocN (k c slot owner : Nat) (w : WheelSt) : WheelSt × List Nat :=
  match k with
  | 0 => (w, [])
  | m + 1 =>
    let a := w.alloc c slot owner false
    let r := WheelSt.allocN m c slot owner a.1
    (r.1, a.2 :: r.2)

/-- Release timers. -/
def WheelSt.release (ns : List Nat) (w : WheelSt) : WheelSt := ns.foldl (fun w n => w.upd n fun _ => {}) w

/-- Timer i of a slot: its number. -/
def WheelSt.slotTimer (w : WheelSt) (s i : Nat) : Option Nat :=
  (w.timers.find? fun x => x.2.cls == 1 && x.2.slot == s && x.2.owner == i).map (·.1)

/-- TIMER_EXPIRY: a NOTIFY timer of the logic or firmware class has expired at the wheel tick; the owner is notified unless
a notification is pending already (R198). DESIGN CHOICE (log 4). -/
def Block.timerExpiry (n : Nat) (b : Block) : Block :=
  let t := b.wheel.get n
  let now := b.nowNs / 1000 * 1000
  let total := match t.mode with | .oneshot => b2n (t.due now) | .periodic => t.count now | _ => 0
  if t.notify && decide (t.done < total) && t.cls != 0 && t.cls != 3 then
    let b1 : Block := { b with wheel := b.wheel.upd n fun t => { t with pend := t.pend + (total - t.done), done := total } }
    if t.cls = 1 then b1.trigger t.slot 0 t.owner b.ns64 b.time.tcQual (total - t.done) else b1
  else b

/-- The earliest instant that an operation or a reading of the timer can still refer to: the tick of the latest epoch, or of the cycle
that its slot is running or is to repeat (R194 to R196). -/
def Block.timerRef (b : Block) (t : Timer) : Nat :=
  if t.cls = 1 then
    let y := b.slot t.slot
    let e := match y.cyc, y.redo with | some c, _ => c.e | none, some c => c.e | none, none => b.time.epoch
    (if e < b.time.epoch then e else b.time.epoch) * 31250
  else if t.cls = 0 then b.time.epoch * 31250 else b.nowNs

/-- TIMER_HOLD_EXPIRY: no RESUME before p + h can come any more, so the paused timer is idle (R192, R194, R195). -/
def Block.timerHold (n : Nat) (b : Block) : Block := { b with wheel := b.wheel.upd n (Timer.lapse (b.timerRef (b.wheel.get n))) }

/-- The epoch a read pins: the newest generation published (R23). DEDUCED (log 86). -/
def Block.pin (b : Block) : Nat := if b.sys.elemRun then b.elm.pubEpoch else b.time.epoch

/-- DIAG_WHEEL_SUMMARY (R203). -/
def diagWheelSummary (r : Req) (b : Block) : Block :=
  b.onOp 0x0F01 r (fld r.payload 0 1 != 1) fun b =>
    if fld r.payload 0 1 != 0 || !allZero (r.payload.drop 1) then b.status r stBADARG
    else
      b.answer r stOK b.pin (leBytes 8 (if b.sys.elemRun then b.wheel.pubInc else b.time.freqTick) ++ leBytes 4 b.time.clamps ++ zeros 4 ++
        ((List.range 3).flatMap fun c => leBytes 4 (clsQuota c) ++ leBytes 4 (b.wheel.used c) ++
          leBytes 4 (b.wheel.high.getD c 0) ++ leBytes 4 (b.wheel.refused.getD c 0)))

/-- MODE's code (R203). -/
def TMode.code : TMode → Nat
  | .idle => 0 | .oneshot => 1 | .periodic => 2 | .stopwatch => 3

/-- The 16-byte timer record, DUE against the pinned tick (R203). -/
def Timer.bytes (ref : Nat) (t : Timer) : List Byte :=
  let t := t.lapse ref
  let value := if t.paused then t.remain else match t.mode with
    | .idle => 0 | .oneshot => t.x | .periodic => t.start + (t.count ref + 1) * t.period * 1000 | .stopwatch => t.start
  leBytes 1 (t.mode.code + 4 * b2n t.paused + 8 * b2n (t.due ref) + 16 * b2n t.notify + 32 * b2n (t.pend != 0) + 64 * t.cls) ++
  leBytes 1 (if t.cls = 1 then t.slot else 255) ++ leBytes 2 t.owner ++ leBytes 8 value ++
  leBytes 4 (if t.paused then t.hold else if t.mode = .periodic then t.period else 0)

/-- DIAG_WHEEL_READ: the timers as published with the pinned epoch; it never changes a timer (R23, R203, R204). -/
def diagWheelRead (r : Req) (b : Block) : Block :=
  b.onOp 0x0F01 r (fld r.payload 0 1 == 1) fun b =>
    let n := fld r.payload 2 2
    let f := fld r.payload 4 4
    if fld r.payload 0 1 != 1 || fld r.payload 1 1 != 0 || n = 0 || 255 < n || 131072 < f + n then b.status r stBADARG
    else
      let w := if b.sys.elemRun then b.wheel.pub else b.wheel.timers
      b.answer r stOK b.pin ((List.range n).flatMap fun i => (tget timerR w (f + i)).bytes (b.pin * 31250))

/-! ### Meanings -/

def execTimerExpiry (n : Nat) (s : State) : Out := s.done (s.blk.timerExpiry n)
def execTimerHoldExpiry (n : Nat) (s : State) : Out := s.done (s.blk.timerHold n)
def execDiagWheelSummary (r : Req) (s : State) : Out := s.done (diagWheelSummary r s.blk)
def execDiagWheelRead (r : Req) (s : State) : Out := s.done (diagWheelRead r s.blk)

end Sys2Proof.Machine
end

