-- ==== Sys2Proof/Machine/Element.lean ====
section
/-! DEFINITION. The element pass: quantities, starting, timing, direction, restraint, quality and the trip matrix (08 of
the spec, R147 to R181). Quantities are exact integers at the scale of the smallest REAL32, 2^−149. -/

namespace Sys2Proof.Machine
open Sys2Proof

/-! ### Numbers -/

/-- One, at the scale of the element engine. -/
def one149 : Nat := 2 ^ 149

/-- A REAL32 at scale 2^−149; a NaN counts as 0 and an infinity as more than any finite value. DESIGN CHOICE (log 29). -/
def fx (w : Word) : Int :=
  match f32 w with
  | .fin neg m e => let v : Int := ((m * 2 ^ (e + 149).toNat : Nat) : Int); if neg then -v else v
  | .inf neg => if neg then -(2 ^ 300 : Int) else 2 ^ 300
  | .nan _ => 0

/-- Magnitude and argument of a complex pair. DESIGN CHOICE (log 29). -/
def cMag (c : Int × Int) : Nat := isqrt (c.1 * c.1 + c.2 * c.2).toNat
def cArg (c : Int × Int) : Int := argDeg c.1 c.2
def cAdd (c d : Int × Int) : Int × Int := (c.1 + d.1, c.2 + d.2)
def cSub (c d : Int × Int) : Int × Int := (c.1 - d.1, c.2 - d.2)

/-- √3 at scale 2^−128. -/
def root3 : Nat := isqrt (3 * 2 ^ 256)

/-- Multiply by a = 1∠120°, or by a² = 1∠−120° (R152). -/
def cRot (sq : Bool) (c : Int × Int) : Int × Int :=
  let s : Int := if sq then -(root3 : Int) else root3
  ((-(c.1 * 2 ^ 128) - s * c.2) / 2 ^ 129, (s * c.1 - c.2 * 2 ^ 128) / 2 ^ 129)

/-- (a + ρ·b + ρ²·c) / 3 with ρ = a (positive sequence) or a² (negative sequence); ACB exchanges them (R152). -/
def symComp (neg acb : Bool) (x y z : Int × Int) : Int × Int :=
  let sq := neg != acb
  let t := cAdd x (cAdd (cRot sq y) (cRot (!sq) z))
  (t.1 / 3, t.2 / 3)

/-! ### Descriptors (R149) -/

/-- An unused descriptor: 62 zero bytes and their CHK (R153). DESIGN CHOICE (log 27). -/
def descBlank : List Byte := zeros 62 ++ leBytes 2 (crc16 (zeros 62))
def descD (_ : Nat) : List Byte := descBlank
def curveD (_ : Nat) : Curve := {}
def elStD (_ : Nat) : ElSt := {}
def detGenD (_ : Nat) : DetGen := {}

/-- A descriptor by field (R149). -/
def descOf (p : List Byte) : Desc :=
  let w (o : Nat) : Word := BitVec.ofNat 32 (fld p o 4)
  { ty := fld p 0 1, flags := fld p 1 1, skind := fld p 2 1, sidx := fld p 3 1, qty := fld p 4 1, phsel := fld p 5 1
    curve := fld p 6 1, reset := fld p 7 1, pickup := w 8, tms := w 12, tOp := fld p 16 4, tRst := fld p 20 4
    hyst := fld p 24 2, mmax := fld p 26 1, dirmode := fld p 27 1, dirRef := fld p 28 2, restrRef := fld p 30 2
    clpRef := fld p 32 2, sig1 := fld p 34 2, sig2 := fld p 36 2, owner := fld p 38 1, doMask := fld p 40 4
    p1 := w 44, p2 := w 48, p3 := w 52, p4 := w 56, vset := fld p 60 1 }

/-- Is the CHK right (R149)? -/
def chkOk (p : List Byte) : Bool := crc16 (p.take 62) == fld p 62 2

/-- Is the element enabled, with a TYPE? -/
def Desc.en (d : Desc) : Bool := d.ty != 0 && bitOf d.flags 0
def Desc.matrix (d : Desc) : Bool := bitOf d.flags 1
def Desc.latch (d : Desc) : Bool := bitOf d.flags 2
def Desc.qblock (d : Desc) : Bool := bitOf d.flags 3
def Desc.acb (d : Desc) : Bool := bitOf d.flags 4
def Desc.comb (d : Desc) : Nat := bits d.phsel 5 4
def Desc.dmode (d : Desc) : Nat := bits d.dirmode 1 0
def Desc.ndirOp (d : Desc) : Bool := bitOf d.dirmode 2

/-- Descriptor i of a buffer. -/
def TableBuf.desc (t : TableBuf) (i : Nat) : Desc := descOf (tget descD t.descs i)

/-- Types evaluated in stage 1 (R148). -/
def Desc.stage1 (d : Desc) : Bool := d.ty == 4 || d.ty == 5 || d.ty == 6 || d.ty == 0x12 || d.ty == 0x0F || d.ty == 0x10
/-- Types with a direction (R149). -/
def Desc.isDir (d : Desc) : Bool := d.ty == 4 || d.ty == 5 || d.ty == 6 || d.ty == 0x12
/-- Elements with a single operating quantity, which counts as phase N (R154). -/
def Desc.single (d : Desc) : Bool :=
  d.ty == 2 || d.ty == 3 || d.ty == 9 || d.ty == 0x0E || ((d.ty == 7 || d.ty == 8) && d.qty == 2)
/-- Elements on a frequency tracker. DESIGN CHOICE (log 35). -/
def Desc.isFreq (d : Desc) : Bool := d.ty == 0x0A || d.ty == 0x0B || d.ty == 0x0C
/-- The phases of PHSEL. -/
def Desc.sel (d : Desc) : List Nat := bitList d.phsel 4
/-- The phases whose quantity the element judges. -/
def Desc.phs (d : Desc) : List Nat := if d.isFreq then [3] else d.sel
/-- Elements that start at or below PICKUP. -/
def Desc.under (d : Desc) : Bool := d.ty == 7 || d.ty == 0x0A

/-- Wheel timers of an enabled element; a type without a curve takes none for CURVE 0 (R151, R159). DEDUCED (log 117). -/
def Desc.needs (d : Desc) : Nat :=
  if !d.en || d.isDir then 0
  else if d.ty = 0x0D ∨ d.ty = 0x10 then 2
  else if d.ty = 0x0F then (if d.tRst = 0 then 0 else 1)
  else if d.ty = 0x13 ∨ d.curve = 0 ∨ bits d.reset 1 0 = 1 then 1 else 0

/-! ### Sources -/

/-- Input of phase `ph` of the element's feeder or voltage set, and of its VSET (R71). -/
def Desc.inp (d : Desc) (ph : Nat) : Nat := if d.skind = 0 then 4 * d.sidx + ph else 128 + 4 * d.sidx + ph
def Desc.vin (d : Desc) (ph : Nat) : Nat := 128 + 4 * d.vset + ph

/-- Generation E of an input. -/
def Block.gen (b : Block) (n : Nat) : Gen := tget genD b.acc.cur.gens n
/-- Phasor of harmonic h of an input (R131). -/
def Block.phasor (b : Block) (n h : Nat) : Int × Int :=
  let x := (b.gen n).ph.getD (h - 1) (0, 0)
  (fx x.1, fx x.2)

/-- Sum of three phasors of the inputs from `n` (3I0, 3V0). -/
def Block.zero3 (b : Block) (n : Nat) : Int × Int := cAdd (b.phasor n 1) (cAdd (b.phasor (n + 1) 1) (b.phasor (n + 2) 1))
/-- Positive or negative sequence of the inputs from `n` (R152). -/
def Block.seqOf (b : Block) (neg acb : Bool) (n : Nat) : Int × Int :=
  symComp neg acb (b.phasor n 1) (b.phasor (n + 1) 1) (b.phasor (n + 2) 1)
/-- Phase-to-phase voltage: 0 AB, 1 BC, 2 CA; 3 is the fourth input (R152). -/
def Block.ppOf (b : Block) (n ph : Nat) : Int × Int :=
  if ph = 3 then b.phasor (n + 3) 1 else cSub (b.phasor (n + ph) 1) (b.phasor (n + (ph + 1) % 3) 1)

/-- The measured sources that an element uses (R175). -/
def Desc.sources (d : Desc) : List Nat :=
  let i3 := [0, 1, 2].map d.inp
  let v3 := [0, 1, 2].map d.vin
  match d.ty with
  | 2 => if d.qty = 1 then i3 else [d.inp 3]
  | 3 | 0x0E => i3
  | 4 => d.sel.map d.inp ++ (d.sel.flatMap fun p => [d.vin ((p + 1) % 3), d.vin ((p + 2) % 3)])
  | 5 => (if bitOf d.qty 0 then i3 else [d.inp 3]) ++ (if bitOf d.qty 1 then v3 else [d.vin 3])
  | 6 => i3 ++ v3
  | 7 | 8 =>
    if d.qty = 2 then i3
    else if d.qty = 1 then d.sel.flatMap fun p => if p = 3 then [d.inp 3] else [d.inp p, d.inp ((p + 1) % 3)]
    else d.sel.map d.inp
  | 9 => if d.qty = 1 then i3 else [d.inp 3]
  | 0x0A | 0x0B | 0x0C | 0x10 => []
  | 0x12 | 0x13 => d.sel.map d.inp ++ (d.sel.map d.vin)
  | _ => d.sel.map d.inp

/-- Does the element read the epoch extremes? -/
def Desc.usesPeak (d : Desc) : Bool := (d.ty == 1 && d.qty == 2) || d.ty == 0x0D

/-- The quality of the sources: VALID of all, the other bits of any (R175). -/
def Block.srcQual (b : Block) (d : Desc) : Qual :=
  if d.isFreq then (tget trackerD b.acc.cur.tracks d.sidx).qual
  else
    let qs := d.sources.map fun n =>
      let g := b.gen n
      if d.usesPeak then { g.qual with valid := g.qual.valid && !g.few, ovr := g.qual.ovr || g.eover } else g.qual
    let u := qs.foldl Qual.or {}
    { u with valid := qs.all (·.valid) }

/-- The inputs whose wire-break state blocks the element: those it uses, or those behind its tracker (R85). -/
def Block.usedInputs (b : Block) (d : Desc) : List Nat := if d.isFreq then (tget trackerD b.acc.cur.tracks d.sidx).used else d.sources

/-- Is a break declared on an input that the element uses, as it stands at the start of the pass (R85)? -/
def Block.srcBroken (b : Block) (d : Desc) : Bool := (b.usedInputs d).any fun n => (tget ainD b.cnv.ains n).broken.isSome

/-- A word of the element control area of a slot, in the output half in force (R302, R303). -/
def Block.ctlWord (b : Block) (owner w : Nat) : Nat := (tget (fun _ => (0 : Word)) (b.slot owner).force w).toNat

/-- A signal reference: its value, and whether its source carries VALID (R150). -/
def Block.signal (b : Block) (owner ref : Nat) : Bool × Bool :=
  let k := ref / 4096
  let i := ref % 4096
  if ref = 0xFFFF ∨ k = 0 then (false, true)
  else if k = 1 ∨ k = 2 then
    let e := tget elStD b.elm.pub i
    (e.qual.valid && (if k = 1 then e.operate else e.start), e.qual.valid)
  else if k = 3 then (bitOf b.bar.set.di i && (b.diQual i).valid, (b.diQual i).valid)
  else if k = 4 then (bitOf (b.ctlWord owner (0x90 + i / 32)) (i % 32), true)
  else (false, true)

/-- The signals that an element uses. -/
def Desc.signals (d : Desc) : List Nat :=
  if d.ty = 0x10 then [d.sig1] else if d.ty = 0x0D then (if d.qty = 1 then [d.sig1, d.sig2] else [d.sig1]) else []

/-! ### Operating quantities -/

/-- A value in 2^−32 code of an input as a primary quantity at scale 2^−149; INVERT reverses it (R75, R76, R133). -/
def Block.primary (b : Block) (n : Nat) (v : Int) : Int :=
  let u := unitQ (b.inRec n).scale (b.gainOf n)
  let x := v * u.1 * (2 ^ 149 : Nat) / (u.2 : Int)
  if (b.inRec n).invert then -x else x

/-- The largest of |EMIN| and |EMAX| over the generations of the last half window, in primary units (R161, R168).
DESIGN CHOICE (log 14). -/
def Block.peakOf (b : Block) (n : Nat) : Nat :=
  let l := tget (fun _ => []) b.elm.peaks n
  (b.primary n ((l.foldl (fun m v => if m < v then v else m) 0 : Nat) : Int)).natAbs

/-- df/dt of a tracker over K generations, at scale 2^−149 Hz/s; none where a reading is held or nominal (R167). -/
def Block.rocof (b : Block) (t k : Nat) : Option Int :=
  let l := tget (fun _ => []) b.elm.freqs t
  match l.getD 0 none, l.getD k none with
  | some f, some g =>
    if k = 0 then none
    else some (((f.1 * g.2 : Nat) - (g.1 * f.2 : Nat) : Int) * (2 ^ 149 * 32000 : Nat) / ((f.2 * g.2 * k : Nat) : Int))
  | _, _ => none

/-- The operating quantity G of a phase, at scale 2^−149 (R151 to R154, R166, R167, R169, R171). -/
def Block.opVal (b : Block) (d : Desc) (ph : Nat) : Nat :=
  let n := d.inp ph
  let n0 := d.inp 0
  let rms (m : Nat) : Nat := (fx (b.gen m).rms).toNat
  match d.ty with
  | 1 => if d.qty = 0 then cMag (b.phasor n 1) else if d.qty = 1 then rms n else isqrt (b.peakOf n * b.peakOf n / 2)
  | 2 => if d.qty = 0 then cMag (b.phasor (d.inp 3) 1) else if d.qty = 1 then cMag (b.zero3 n0) else rms (d.inp 3)
  | 3 => cMag (b.seqOf true d.acb n0)
  | 7 | 8 =>
    if d.qty = 0 then cMag (b.phasor n 1) else if d.qty = 1 then cMag (b.ppOf n0 ph) else cMag (b.seqOf (d.ty == 8) d.acb n0)
  | 9 => if d.qty = 0 then cMag (b.phasor (d.inp 3) 1) else cMag (b.zero3 n0)
  | 0x0A | 0x0B =>
    let f := (tget trackerD b.acc.cur.tracks d.sidx).freq
    f.1 * 2 ^ 149 / f.2
  | 0x0C =>
    match b.rocof d.sidx (d.p1.toNat * 32) with
    | some v => if d.qty = 0 then v.natAbs else if d.qty = 1 then v.toNat else (-v).toNat
    | none => 0
  | 0x0E =>
    let i1 := cMag (b.seqOf false d.acb n0)
    if i1 = 0 then 0 else cMag (b.seqOf true d.acb n0) * 2 ^ 149 / i1
  | 0x11 => (b.primary n ((tget natD (tget detGenD b.elm.dets (detIx n)).dmax (memIx n) : Nat) : Int)).natAbs
  | _ => 0

/-- PICKUP′: PICKUP, times the multiplier while the referenced CLP element is active (R154, R165). -/
def pickupOf (d : Desc) (clp : Option (Desc × ElSt)) : Nat :=
  let p := (fx d.pickup).toNat
  match clp with
  | some (c, st) => if st.clp then p * (fx c.pickup).toNat / 2 ^ 149 else p
  | none => p

/-- A phase above or below its levels: started, dropped, or as it was (R154). -/
def levelOf (d : Desc) (pk g : Nat) (was : Bool) : Bool :=
  let hz := d.hyst * 2 ^ 149 / 1000
  if d.under then
    if g ≤ pk then true
    else if d.isFreq then was && decide (g ≤ pk + hz) else was && decide (g * 1000 ≤ pk * (1000 + d.hyst))
  else
    if pk ≤ g then true
    else if d.isFreq then was && decide (pk ≤ g + hz) else was && decide (pk * (1000 - d.hyst) ≤ g * 1000)

/-- One phase before supervision: the level with the gates of UV, BC and INCOC (R166, R169, R171). -/
def Block.phaseOn (b : Block) (d : Desc) (pk ph run : Nat) (was : Bool) : Bool :=
  let g := b.opVal d ph
  if d.ty = 7 then
    let v := (fx d.p1).toNat
    if 0 < v ∧ g < v then false else levelOf d pk g was
  else if d.ty = 0x0E then decide ((fx d.p1).toNat ≤ cMag (b.seqOf false d.acb (d.inp 0))) && levelOf d pk g was
  else if d.ty = 0x11 then (if was then levelOf d pk g true else decide (d.p1.toNat ≤ run))
  else levelOf d pk g was

/-! ### Direction (R162, R163) -/

/-- FORWARD 1, REVERSE 2 or undetermined 3, from φ in 2^−32 degree (R162). -/
def dirOfAngle (phi : Int) (margin : Word) : Nat :=
  let a : Int := (phi.natAbs * 2 ^ 117 : Nat)
  let q : Int := 90 * 2 ^ 149
  if a ≤ q - fx margin then 1 else if q + fx margin ≤ a then 2 else 3

/-- The direction of one pair of operating and polarising phasors; 0 where either is too small (R162). -/
def dirPair (d : Desc) (iop : Int × Int) (vpol : Option Int) : Nat :=
  if cMag iop < (fx d.p4).toNat then 0
  else match vpol with
    | none => 0
    | some a => dirOfAngle (wrap180 (cArg iop - a - fx d.p1 / 2 ^ 117)) d.p2

/-- Polarisation by a phasor alone: its angle, or none below VMIN. -/
def polAngle (d : Desc) (v : Int × Int) : Option Int := if cMag v < (fx d.p3).toNat then none else some (cArg v)

def cNeg (c : Int × Int) : Int × Int := (-c.1, -c.2)

/-- The overall DIR of per-phase directions (R162). DESIGN CHOICE (log 31). -/
def overallDir (l : List Nat) : Nat :=
  let f := l.any (· == 1)
  let r := l.any (· == 2)
  if f && !r then 1 else if r && !f then 2 else if (f && r) || l.any (· == 3) then 3 else 0

/-- Two bits per phase, coded as DIR (R178). DESIGN CHOICE (log 31). -/
def phdirOf (l : List (Nat × Nat)) : Nat := l.foldl (fun m x => m + x.2 * 4 ^ x.1) 0

/-- The memory of a phase after the pass, and the angle it polarises with where V_pol is below VMIN (R162). -/
def Block.memPol (b : Block) (d : Desc) (ph : Nat) (m : Option (Int × Nat)) : Option (Int × Nat) × Option Int :=
  let e := b.time.epoch
  let w := trackM b.acc.track.fnom
  let hist := tget (fun _ => []) b.elm.vpol d.vset
  let old := (hist[2 * w]?).bind fun l => l[ph]?
  let m := match old with
    | some v => if (fx d.p3).toNat ≤ cMag v then some (cArg v, e - 2 * w) else m
    | none => m
  let f := (b.winFreq (d.vin 0)).1
  let rot (el : Nat) : Int :=
    ((f.1 : Int) - ((b.acc.track.fnom * f.2 : Nat) : Int)) * ((360 * 2 ^ 32 * el * 31250 : Nat) : Int) / ((f.2 * 1000000000 : Nat) : Int)
  (m, match m with
      | some (a, g) => if e - g ≤ 16000 then some (a + rot (e - g)) else none
      | none => none)

/-- DIRP in one pass (R162). -/
def Block.evalDirp (b : Block) (d : Desc) (o : ElSt) : ElSt :=
  let r := d.sel.filter (· < 3) |>.map fun ph =>
    let v := b.ppOf (d.vin 0) ((ph + 1) % 3)
    let m := b.memPol d ph (tget (fun _ => none) o.mem ph)
    let low := decide (cMag v < (fx d.p3).toNat)
    let pol := if low then m.2 else some (cArg v)
    (ph, dirPair d (b.phasor (d.inp ph) 1) pol, m.1, low && m.2.isSome)
  let dirs := r.map fun x => (x.1, x.2.1)
  let dir := overallDir (dirs.map (·.2))
  { o with
    dir := dir, phdir := phdirOf dirs, start := dir == 1 || dir == 2
    phases := (dirs.filter fun x => x.2 == 1 || x.2 == 2).map (·.1)
    memory := r.any (·.2.2.2)
    mem := r.foldl (fun t x => tset (fun _ => none) t x.1 x.2.2.1) o.mem }

/-- DIRN in one pass: it publishes phase N (R162). -/
def Block.evalDirn (b : Block) (d : Desc) (o : ElSt) : ElSt :=
  let i := if bitOf d.qty 0 then b.zero3 (d.inp 0) else b.phasor (d.inp 3) 1
  let v := if bitOf d.qty 1 then b.zero3 (d.vin 0) else b.phasor (d.vin 3) 1
  let dir := dirPair d i (polAngle d (cNeg v))
  let on := dir == 1 || dir == 2
  { o with dir := dir, phdir := dir * 64, start := on, phases := if on then [3] else [] }

/-- DIRQ in one pass (R162). -/
def Block.evalDirq (b : Block) (d : Desc) (o : ElSt) : ElSt :=
  let dir := dirPair d (b.seqOf true d.acb (d.inp 0)) (polAngle d (cNeg (b.seqOf true d.acb (d.vin 0))))
  { o with dir := dir, start := dir == 1 || dir == 2 }

/-- TDDIR in one pass (R172). DESIGN CHOICE (log 31). -/
def Block.evalTddir (b : Block) (d : Desc) (o : ElSt) : ElSt :=
  let g := tget detGenD b.elm.dets (detIx (d.inp 0))
  let gv := tget detGenD b.elm.dets (detIx (d.vin 0))
  if !g.inc then { o with count := 0, torque := 0, dir := 0, start := false }
  else if d.p1.toNat ≤ o.count then o
  else
    let dlt (x : DetGen) (n : Nat) : Int := b.primary n (tget (fun _ => (0 : Int)) x.delta (memIx n))
    let t := (d.sel.filter (· < 3)).foldl (fun t ph => t - dlt gv (d.vin ph) * dlt g (d.inp ph)) o.torque
    let p := fx d.pickup * (2 ^ 149 : Nat)
    let n := o.count + 1
    if n < d.p1.toNat then { o with count := n, torque := t }
    else { o with count := n, torque := t, start := true, dir := if p ≤ t then 1 else if t ≤ -p then 2 else 3 }

/-- Does the direction for a phase allow a start (R163)? -/
def dirAllows (d : Desc) (ref : Option (Desc × ElSt)) (ph : Nat) : Bool :=
  if d.dmode = 0 then true
  else
    let dir := match ref with
      | none => 0
      | some (r, st) =>
        let own := (r.ty == 4 && decide (ph < 3) && bitOf r.phsel ph) || (r.ty == 5 && ph == 3)
        if own then st.phdir / 4 ^ ph % 4 else st.dir
    if dir = 1 ∨ dir = 2 then dir == d.dmode else d.ndirOp

/-- Is a phase restrained by the referenced HR element (R164)? -/
def restrained (ref : Option (Desc × ElSt)) (ph : Nat) : Bool :=
  match ref with
  | none => false
  | some (r, st) =>
    if r.comb = 0 then !st.phases.isEmpty else if r.comb = 1 then decide (ph ∈ st.phases) else decide (2 ≤ st.phases.length)

/-! ### Element timers -/

/-- Operate on timer `k` of an element. -/
def elOp (ns : List Nat) (k : Nat) (op : TOp) (w : WheelSt) : WheelSt :=
  match ns[k]? with | some t => w.upd t (Timer.op op) | none => w
/-- Timer `k` of an element. -/
def elTimer (ns : List Nat) (k : Nat) (w : WheelSt) : Timer := match ns[k]? with | some t => w.get t | none => {}
/-- Cancel every timer of an element. -/
def elCancel (ns : List Nat) (w : WheelSt) : WheelSt := ns.foldl (fun w t => w.upd t (Timer.op .cancel)) w
/-- Is a ONESHOT set and not yet due? -/
def Timer.pulse (te : Nat) (t : Timer) : Bool := t.mode == .oneshot && decide (te < t.x)

/-- HR in one pass: the ratio per phase, and the T_RST that follows (R164). DESIGN CHOICE (log 32). -/
def Block.evalHr (b : Block) (d : Desc) (o : ElSt) (w : WheelSt) : WheelSt × ElSt :=
  let te := b.time.epoch * 31250
  let p := (fx d.pickup).toNat
  let after (ph : Nat) : Bool := o.held.any (·.1 == ph)
  let core := d.sel.filter fun ph =>
    let i1 := cMag (b.phasor (d.inp ph) 1)
    let ih := cMag (b.phasor (d.inp ph) d.qty)
    let was := decide (ph ∈ o.phases) && !after ph
    (decide (p * i1 ≤ ih * 2 ^ 149) && decide ((fx d.p1).toNat ≤ i1)) ||
    (was && i1 != 0 && decide (p * (1000 - d.hyst) * i1 ≤ ih * 2 ^ 149 * 1000))
  let gone := o.phases.filter fun ph => !after ph && !decide (ph ∈ core)
  let w := if gone.isEmpty then w else elOp o.timers 0 (.start te d.tRst) w
  let held := (o.held ++ gone.map fun ph => (ph, te + d.tRst * 1000)).filter fun x => decide (te < x.2) && !decide (x.1 ∈ core)
  let all := held.foldl (fun l x => insNat x.1 l) core
  (w, { o with phases := all, held := held, start := !all.isEmpty, restr := false })

/-- CLP in one pass (R165). DESIGN CHOICE (log 32). -/
def Block.evalClp (b : Block) (d : Desc) (o : ElSt) (w : WheelSt) : WheelSt × ElSt :=
  let te := b.time.epoch * 31250
  let v := (b.signal d.owner d.sig1).1
  let t0 := elTimer o.timers 0 w
  let w := if v then elOp o.timers 0 .cancel w
    else if t0.mode = .oneshot then w else elOp o.timers 0 (.start te d.tOp) w
  let armed := !v && (elTimer o.timers 0 w).due te
  let w := if v && !o.sig && o.armed then elOp o.timers 1 (.start te d.tRst) w else w
  let on := (elTimer o.timers 1 w).pulse te
  (w, { o with sig := v, armed := armed, start := on, clp := on })

/-- Elapsed part of a CURVE 0 timer in ns, its duration being T_OP. -/
def elapsedOf (te : Nat) (d : Desc) (t : Timer) : Nat :=
  if t.mode != .oneshot then 0
  else d.tOp * 1000 - (if t.paused then t.remain else t.x - te)

/-- PROGRESS of R178. -/
def progressOf (num den : Nat) : Nat := if den = 0 then 0 else satN 65535 (65535 * num / den)

/-- BF in one pass (R168). -/
def Block.evalBf (b : Block) (d : Desc) (o : ElSt) (w : WheelSt) : WheelSt × ElSt :=
  let te := b.time.epoch * 31250
  let p := (fx d.pickup).toNat
  let on := d.sel.filter fun ph => decide (2 * p * p < b.peakOf (d.inp ph) * b.peakOf (d.inp ph))
  let chk := !on.isEmpty || (d.qty == 1 && (b.signal d.owner d.sig2).1)
  let st := (b.signal d.owner d.sig1).1 && chk
  let w := if st && !o.start then elOp o.timers 1 (.start te d.tOp) (elOp o.timers 0 (.start te d.p1.toNat) w)
    else if st then w else elCancel o.timers w
  (w, { o with
        start := st, phases := if st then on else []
        stage1 := st && (elTimer o.timers 0 w).due te, operate := st && (elTimer o.timers 1 w).due te
        progress := progressOf (if st then elapsedOf te d (elTimer o.timers 1 w) else 0) (d.tOp * 1000) })

/-- TWDIR in one pass (R173). -/
def Block.evalTwdir (b : Block) (d : Desc) (o : ElSt) (w : WheelSt) : WheelSt × ElSt :=
  let te := b.time.epoch * 31250
  let g := tget detGenD b.elm.dets (detIx (d.inp 0))
  let sup := d.p1.toNat == 1
  let act : Option Nat := match g.dir with
    | some x => if !sup || g.inc then some x else none
    | none => match o.heldDir with | some x => if g.inc then some x else none | none => none
  let hold : Option Nat := if sup && !g.inc then g.dir else none
  let go := match act with
    | some x => d.dmode == 0 || (if x = 1 ∨ x = 2 then x == d.dmode else d.ndirOp)
    | none => false
  let w := if go then elOp o.timers 0 (.start te d.tRst) w else w
  let on := go || (elTimer o.timers 0 w).pulse te
  (w, { o with
        heldDir := hold, start := on, operate := on, progress := 0
        dir := if go then act.getD 0 else if on then o.dir else 0 })

/-! ### Timing (R155 to R158) -/

/-- 1.0 of the timing integral. -/
def oneI : Nat := 2 ^ 64

/-- A and B of the curves 2 to 7 in 10^−4, the exponent (0 stands for 0.02), and tr in 10^−2 s (R156).
DESIGN CHOICE (log 30). -/
def curveK (c : Nat) : Nat × Nat × Nat × Nat :=
  match c with
  | 2 => (1400, 0, 0, 0) | 3 => (135000, 0, 1, 0) | 4 => (800000, 0, 2, 0)
  | 5 => (515, 1140, 0, 485) | 6 => (196100, 4910, 2, 2160) | _ => (282000, 1217, 2, 2910)

/-- T(M) of a user curve at scale 2^−64 s; none below the first point (R158). M = n / k. -/
def userT (pts : List (Word × Word)) (n k : Nat) : Option Nat :=
  match pts with
  | [] => none
  | [x] => if (fx x.1).toNat * k ≤ n * 2 ^ 149 then some ((fx x.2).toNat / 2 ^ 85) else none
  | x :: y :: r =>
    if n * 2 ^ 149 < (fx x.1).toNat * k then none
    else if (fx x.1).toNat * k = n * 2 ^ 149 then some ((fx x.2).toNat / 2 ^ 85)
    else if n * 2 ^ 149 < (fx y.1).toNat * k then (let t := logLine ((fx x.1).toNat, 2 ^ 149) ((fx x.2).toNat, 2 ^ 149) ((fx y.1).toNat, 2 ^ 149) ((fx y.2).toNat, 2 ^ 149) (n, k)
      some (t.1 * 2 ^ 64 / t.2))
    else userT (y :: r) n k

/-- What a started pass adds to I: 31.25 µs / t(M), M = n / k (R156, R158). -/
def incOf (cs : Tab Curve) (d : Desc) (n k : Nat) : Nat :=
  let tms := (fx d.tms).toNat
  if n ≤ k ∨ tms = 0 then 0
  else if d.curve < 8 then
    let c := curveK d.curve
    -- 1/(M^p − 1) = x.2 / x.1
    let x : Nat × Nat := if c.2.2.1 = 1 then (n - k, k) else if c.2.2.1 = 2 then (n * n - k * k, k * k)
      else (pow002 n k - rOne, rOne)
    if x.1 = 0 then 0 else oneI * 10000 * x.1 * 2 ^ 149 / (32000 * tms * (c.1 * x.2 + c.2.1 * x.1))
  else
    match userT (tget curveD cs (d.curve - 8)).pts n k with
    | some t => if t = 0 then oneI else oneI * 2 ^ 64 * 2 ^ 149 / (32000 * tms * t)
    | none => 0

/-- What a pass without START subtracts under RESET 2: 31.25 µs / t_r(M) (R157). DESIGN CHOICE (log 32). -/
def decOf (cs : Tab Curve) (d : Desc) (n k : Nat) : Nat :=
  let tms := (fx d.tms).toNat
  let tr : Nat × Nat := if d.curve < 8 then ((curveK d.curve).2.2.2, 100) else ((fx (tget curveD cs (d.curve - 8)).tr).toNat, 2 ^ 149)
  if k ≤ n ∨ tms = 0 ∨ tr.1 = 0 then 0
  else oneI * (k * k - n * n) * 2 ^ 149 * tr.2 / (32000 * k * k * tms * tr.1)

/-- The smallest and the largest of a list, and its second largest. -/
def minN (l : List Nat) : Nat := l.foldl (fun m v => if v < m then v else m) (l.headD 0)
def maxN (l : List Nat) : Nat := l.foldl (fun m v => if m < v then v else m) 0
def secondN (l : List Nat) : Nat := maxN (l.eraseP (· == maxN l))

/-- G of the curve: with START by R156, without it by the phase that would complete COMB. -/
def gOf (d : Desc) (started all : List Nat) (start : Bool) : Nat :=
  if start then (if d.comb = 0 then maxN started else minN started)
  else if d.comb = 0 then maxN all else if d.comb = 1 then minN all else secondN all

/-- OPERATE, I and PROGRESS of an element whose START of this pass is known (R155 to R157). `o` is its state before. -/
def Block.timing (b : Block) (d : Desc) (g pk : Nat) (o n : ElSt) (w : WheelSt) : WheelSt × ElSt :=
  let te := b.time.epoch * 31250
  let cs := b.elm.active.curves
  let rst := bits d.reset 1 0
  if d.curve = 1 then (w, { n with operate := n.start, progress := 0 })
  else if d.curve = 0 then
    let t := (elTimer n.timers 0 w).lapse te
    let w :=
      if n.start then
        (if o.start && t.mode == .oneshot && !t.paused then w
         else if t.paused then elOp n.timers 0 (.resume te) w else elOp n.timers 0 (.start te d.tOp) w)
      else if o.start then (if rst = 1 then elOp n.timers 0 (.pause te d.tRst) w else elOp n.timers 0 .cancel w)
      else w
    let t := (elTimer n.timers 0 w).lapse te
    (w, { n with operate := n.start && t.due te, progress := progressOf (elapsedOf te d t) (d.tOp * 1000) })
  else
    let t := elTimer n.timers 0 w
    let i0 := if rst = 1 ∧ t.due te then 0 else o.integ
    if n.start then
      let m : Nat × Nat := if d.mmax * pk < g then (d.mmax, 1) else (g, pk)
      let sum := i0 + incOf cs d m.1 m.2
      let op := decide (oneI ≤ sum) && decide (d.tOp * 1000 ≤ (b.time.epoch - n.since) * 31250)
      let i := if op then oneI else sum
      let w := if rst = 1 then elOp n.timers 0 .cancel w else w
      (w, { n with operate := op, integ := i, progress := progressOf i oneI })
    else
      let w := if rst = 1 ∧ o.start then elOp n.timers 0 (.start te d.tRst) w else w
      let i := if rst = 0 then 0
        else if rst = 1 then (if (elTimer n.timers 0 w).due te then 0 else i0)
        else i0 - decOf cs d g pk
      (w, { n with operate := false, integ := i, progress := progressOf i oneI })

/-! ### One element in one pass -/

/-- The element referenced by a field, with its state of this pass. -/
def Block.refOf (b : Block) (sts : Tab ElSt) (r : Nat) : Option (Desc × ElSt) :=
  if r = 0xFFFF then none else some (b.elm.active.desc r, tget elStD sts r)

/-- Is the element blocked in this pass (R166, R167, R176)? -/
def Block.elBlocked (b : Block) (i : Nat) (d : Desc) (q : Qual) : Bool :=
  let t := tget trackerD b.acc.cur.tracks d.sidx
  let vmin := if d.ty = 0x0C then d.p2 else d.p1
  bitOf (b.ctlWord d.owner (0x10 + i / 32)) (i % 32) || !q.valid || b.srcBroken d || (d.qblock && q.quest) || decide (i ∈ b.elm.bad) ||
  (d.isFreq && (t.held || t.nominal || decide (fx t.mag < fx vmin))) ||
  (d.ty == 0x0C && (b.rocof d.sidx (d.p1.toNat * 32)).isNone)

/-- The overcurrent, voltage, frequency and ratio types: phases, COMB and timing (R154 to R157). -/
def Block.evalLevel (b : Block) (d : Desc) (sts : Tab ElSt) (o : ElSt) (w : WheelSt) : WheelSt × ElSt :=
  let dr := b.refOf sts d.dirRef
  let rr := b.refOf sts d.restrRef
  let pk := pickupOf d (b.refOf sts d.clpRef)
  let runs := if d.ty = 0x11 then
      d.phs.map fun ph => (ph, if pk ≤ b.opVal d ph then satN 16 (tget natD o.runs ph + 1) else 0)
    else []
  let was (ph : Nat) : Bool := if d.isFreq then o.start else decide (ph ∈ o.phases)
  let runOf (ph : Nat) : Nat := ((runs.find? (·.1 == ph)).map (·.2)).getD 0
  let restr := d.phs.filter (restrained rr)
  let on := d.phs.filter fun ph => b.phaseOn d pk ph (runOf ph) (was ph) && !restrained rr ph && dirAllows d dr ph
  let start := if d.isFreq then !on.isEmpty
    else if d.comb = 0 then !on.isEmpty else if d.comb = 1 then !on.isEmpty && on.length == d.phs.length else decide (2 ≤ on.length)
  let g := gOf d (on.map (b.opVal d)) (d.phs.map (b.opVal d)) start
  -- a change of PICKUP′ changes M on a running curve from the next pass (R165)
  let pm := if (o.start || o.integ != 0) && o.pk != 0 then o.pk else pk
  let n : ElSt := { o with
    start := start, phases := if d.isFreq then [] else on, restr := !restr.isEmpty, pk := pk
    since := if start then (if o.start then o.since else b.time.epoch) else 0
    runs := runs.foldl (fun t x => tset natD t x.1 x.2) [] }
  b.timing d g pm o n w

/-- The outputs that an element drives by its own state: DO_MASK while it operates, DO_MASK1 in stage 1 (R149, R168, R180). -/
def drivenBy (d : Desc) (operate stage1 : Bool) : Nat :=
  if d.matrix then Nat.lor (if operate then d.doMask else 0) (if d.ty = 0x0D ∧ stage1 then d.p2.toNat else 0) else 0

/-- Evaluate element `i` (R147 to R178): its state of this pass, on the states of stage 1, and the wheel. -/
def Block.evalElement (b : Block) (i : Nat) (sts : Tab ElSt) (w : WheelSt) : WheelSt × ElSt :=
  let d := b.elm.active.desc i
  let o := tget elStD b.elm.states i
  if !d.en then (w, { timers := o.timers, latched := o.latched, operate := o.latched, drives := o.drives, off := o.latched })
  else
    let q := b.srcQual d
    let sg := d.signals.map (b.signal d.owner)
    let refs := [d.dirRef, d.restrRef, d.clpRef].filterMap (b.refOf sts)
    let u := refs.foldl (fun q x => q.or x.2.qual) q
    let blk := b.elBlocked i d q
    let qual : Qual :=
      { valid := q.valid && sg.all (·.2) && !blk, quest := u.quest || sg.any fun x => !x.2
        single := u.single, ovr := u.ovr, wbreak := u.wbreak, blocked := blk }
    if blk then
      (elCancel o.timers w,
       { timers := o.timers, latched := o.latched, operate := o.latched, drives := o.drives, qual := qual, progress := if o.latched then 65535 else 0 })
    else
      let r := match d.ty with
        | 4 => (w, b.evalDirp d o) | 5 => (w, b.evalDirn d o) | 6 => (w, b.evalDirq d o) | 0x12 => (w, b.evalTddir d o)
        | 0x0F => b.evalHr d o w | 0x10 => b.evalClp d o w | 0x0D => b.evalBf d o w | 0x13 => b.evalTwdir d o w
        | _ => b.evalLevel d sts o w
      let n := r.2
      let rise := n.operate && !o.own
      let lat := o.latched || (d.latch && rise)
      let since := if n.start then (if o.start then o.since else b.time.epoch) else 0
      let drv := if lat then Nat.lor (if o.latched then o.drives else 0) (drivenBy d (n.operate || lat) n.stage1) else 0
      (r.1, { n with
        drives := drv, off := false
        qual := qual, latched := lat, own := n.operate, operate := n.operate || lat, since := since, clp := n.clp && d.ty == 0x10
        progress := if n.operate || lat then 65535 else n.progress })

/-- Evaluate the elements of a list one after another, with their event 316 (R148, R181). -/
def Block.evalAll (is_ : List Nat) (b : Block) : Block :=
  is_.foldl (fun (b : Block) i =>
    let r := b.evalElement i b.elm.states b.wheel
    let o := tget elStD b.elm.states i
    let b : Block := { b with wheel := r.1, elm := { b.elm with states := tset elStD b.elm.states i r.2 } }
    b.raiseIf (r.2.operate && !o.operate) 316 ((b.time.epoch - r.2.since) * 31250 / 1000000 : Nat)) b

/-! ### The pass (R147, R148, R180 to R182) -/

/-- What the pass keeps of generation E for the windows that reach back: extremes, polarising voltages and frequencies. -/
def Block.passHistory (b : Block) : Block :=
  let tick : Nat := 31250 * nsE
  let ins := (List.range 160).filter fun n => (b.inRec n).sensor != 0
  let pk := ins.foldl (fun t n =>
    let g := b.gen n
    let v := if g.emin.natAbs < g.emax.natAbs then g.emax.natAbs else g.emin.natAbs
    let k := (b.tw n / 2 + tick - 1) / tick
    tupd (fun _ => ([] : List Nat)) t n fun l => (v :: l).take k) b.elm.peaks
  let w := trackM b.acc.track.fnom
  let sets := (List.range 8).filter fun v => (List.range 3).any fun i => (b.inRec (128 + 4 * v + i)).sensor != 0
  let vp := sets.foldl (fun t v =>
    tupd (fun _ => ([] : List (List (Int × Int)))) t v fun l =>
      ([b.ppOf (128 + 4 * v) 1, b.ppOf (128 + 4 * v) 2, b.ppOf (128 + 4 * v) 0] :: l).take (2 * w + 1)) b.elm.vpol
  let fq := (List.range 40).foldl (fun t i =>
    let x := tget trackerD b.acc.cur.tracks i
    tupd (fun _ => ([] : List (Option (Nat × Nat)))) t i fun l =>
      ((if x.held || x.nominal then none else some x.freq) :: l).take 16001) b.elm.freqs
  { b with elm := { b.elm with peaks := pk, vpol := vp, freqs := fq } }

/-- Descriptors that fail their CHK in this pass: blocked until the next swap, event 315 (R182). -/
def Block.passChk (b : Block) : Block :=
  let bad := (b.elm.active.descs.filter fun x => !chkOk x.2).map (·.1)
  let new := bad.filter fun i => !decide (i ∈ b.elm.bad)
  new.foldl (fun (b : Block) (i : Nat) => Block.raise 315 i { b with elm := { b.elm with bad := insNat i b.elm.bad } }) b

/-- The outputs that the trip matrix drives: by each element's state, and by what a LATCHED one has driven (R160, R180).
DEDUCED (log 118). -/
def Block.matrixOf (b : Block) : Nat :=
  b.elm.states.foldl (fun m x =>
    Nat.lor m (Nat.lor x.2.drives (if x.2.off then 0 else drivenBy (b.elm.active.desc x.1) x.2.operate x.2.stage1))) 0

/-- ELEMENT_PASS: pass E over the whole active table, stage 1 and then stage 2 (R147, R148). No pass runs before the table
has been loaded (R57). -/
def Block.pass (b : Block) : Block :=
  if !b.sys.tableLoaded then b
  else
    let b := b.passHistory.passChk
    let ix := b.elm.active.descs.map (·.1)
    let s1 := ix.filter fun i => (b.elm.active.desc i).stage1
    let s2 := ix.filter fun i => !(b.elm.active.desc i).stage1
    let b := (b.evalAll s1).evalAll s2
    { b with elm := { b.elm with nextDrive := b.matrixOf, passEpoch := some b.time.epoch, fresh := false }
             sys := { b.sys with elemRun := true } }

/-! ### State records (R178) -/

/-- FLAGS of a state record. -/
def ElSt.flags (s : ElSt) : Nat :=
  bitsOf [s.start, s.operate, decide (0 ∈ s.phases), decide (1 ∈ s.phases), decide (2 ∈ s.phases), decide (3 ∈ s.phases)] +
  s.dir * 64 + 256 * bitsOf [s.restr, s.clp, s.latched, s.stage1, s.memory]

/-- The 8-byte state record. -/
def ElSt.bytes (s : ElSt) : List Byte :=
  if s.off then zeros 8
  else leBytes 2 s.flags ++ leBytes 2 s.qual.word ++ leBytes 1 s.phdir ++ zeros 1 ++ leBytes 2 s.progress

end Sys2Proof.Machine
end

