-- ==== Sys2Proof/Machine/ElemCmd.lean ====
section
/-! DEFINITION. The element tables: validation, the swap, and the `elem.` commands (08 of the spec, R153, R158, R182 to
R186). -/

namespace Sys2Proof.Machine
open Sys2Proof

/-! ### Validation (R151, R153, R183) -/

/-- SKIND, the QTY values and the CURVE values that a TYPE allows (R151). -/
def typeRow (ty : Nat) : Option (Nat × List Nat × List Nat) :=
  let all := List.range 16
  match ty with
  | 1 => some (0, [0, 1, 2], all) | 2 => some (0, [0, 1, 2], all) | 3 => some (0, [0], all)
  | 4 => some (0, [0], [0]) | 5 => some (0, [0, 1, 2, 3], [0]) | 6 => some (0, [0], [0])
  | 7 => some (1, [0, 1, 2], [0, 1]) | 8 => some (1, [0, 1, 2], [0, 1]) | 9 => some (1, [0, 1], [0, 1])
  | 0x0A => some (2, [0], [0, 1]) | 0x0B => some (2, [0], [0, 1]) | 0x0C => some (2, [0, 1, 2], [0, 1])
  | 0x0D => some (0, [0, 1], [0]) | 0x0E => some (0, [0], [0])
  | 0x0F => some (0, (List.range 14).map (· + 2), [0]) | 0x10 => some (0, [0], [0])
  | 0x11 => some (0, [0], [0, 1]) | 0x12 => some (0, [0], [0]) | 0x13 => some (0, [0], [1])
  | _ => none

/-- Types with phase starts and timing under R154 to R157. -/
def Desc.isLevel (d : Desc) : Bool :=
  d.ty == 1 || d.ty == 2 || d.ty == 3 || d.ty == 7 || d.ty == 8 || d.ty == 9 || d.isFreq || d.ty == 0x0E || d.ty == 0x11
/-- Types on a feeder whose starts may be supervised by direction and restraint. -/
def Desc.isFed (d : Desc) : Bool := d.isLevel && d.skind == 0

/-- Finite, and within [lo, hi] at scale 2^−149. -/
def realIn (lo hi : Int) (w : Word) : Bool := isFin w && decide (lo ≤ fx w) && decide (fx w ≤ hi)
def realNonneg (w : Word) : Bool := isFin w && decide (0 ≤ fx w)
def realPos (w : Word) : Bool := isFin w && decide (0 < fx w)
/-- A whole number at scale 2^−149. -/
def whole (n : Int) : Int := n * (2 ^ 149 : Nat)

/-- Reserved bits and codes (R149, R150). DEDUCED (log 53). -/
def reservedOk (p : List Byte) (d : Desc) : Bool :=
  let sig (s : Nat) : Bool := s == 0xFFFF || (decide (s / 4096 ≤ 4) && (s / 4096 != 0 || s == 0))
  bits d.flags 7 5 == 0 && bits d.phsel 7 6 == 0 && d.comb != 3 && bits d.reset 7 2 == 0 && bits d.reset 1 0 != 3 &&
  bits d.dirmode 7 3 == 0 && d.dmode != 3 && decide (d.owner ≤ 7) && fld p 39 1 == 0 && fld p 61 1 == 0 && sig d.sig1 && sig d.sig2

/-- P1 to P4 and VSET of a type (R151). -/
def paramOk (d : Desc) : Bool :=
  let z (w : Word) : Bool := w == 0
  let noV := d.vset == 0xFF
  let v := decide (d.vset ≤ 7)
  match d.ty with
  | 4 | 5 | 6 => realIn (whole (-180)) (whole 180) d.p1 && realIn 0 (whole 10) d.p2 && realNonneg d.p3 && realNonneg d.p4 && v
  | 7 | 0x0A | 0x0B => realNonneg d.p1 && z d.p2 && z d.p3 && z d.p4 && noV
  | 0x0C => decide (20 ≤ d.p1.toNat ∧ d.p1.toNat ≤ 500) && realNonneg d.p2 && z d.p3 && z d.p4 && noV
  | 0x0D => decide (d.p1.toNat ≤ 3600000000) && z d.p3 && z d.p4 && noV
  | 0x0E | 0x0F => realPos d.p1 && z d.p2 && z d.p3 && z d.p4 && noV
  | 0x11 => decide (1 ≤ d.p1.toNat ∧ d.p1.toNat ≤ 16) && z d.p2 && z d.p3 && z d.p4 && noV
  | 0x12 => decide (4 ≤ d.p1.toNat ∧ d.p1.toNat ≤ 32) && z d.p2 && z d.p3 && z d.p4 && v
  | 0x13 => decide (d.p1.toNat ≤ 1) && z d.p2 && z d.p3 && z d.p4 && v
  | _ => z d.p1 && z d.p2 && z d.p3 && z d.p4 && noV

/-- Every field in its range, and 0 where the type does not use it (R149, R153, R154). DESIGN CHOICE (log 35). -/
def rangeOk (d : Desc) : Bool :=
  let curved := decide (2 ≤ d.curve)
  decide (d.sidx < (if d.skind = 0 then 32 else if d.skind = 1 then 8 else 40)) &&
  (if d.ty = 4 ∨ d.ty = 5 ∨ d.ty = 6 ∨ d.ty = 0x13 then d.pickup == 0
   else if d.ty = 0x10 then realIn (whole 1) (whole 10) d.pickup else realPos d.pickup) &&
  (if curved then realIn (fx 0x3C23D70A) (whole 10) d.tms && decide (2 ≤ d.mmax ∧ d.mmax ≤ 40) else d.tms == 0 && d.mmax == 0) &&
  (if d.isLevel || d.ty == 0x0D || d.ty == 0x10 then decide (d.tOp ≤ 3600000000) else d.tOp == 0) &&
  (if d.isLevel || d.ty == 0x0F || d.ty == 0x10 || d.ty == 0x13 then decide (d.tRst ≤ 3600000000) else d.tRst == 0) &&
  (if d.isFreq then decide (5 ≤ d.hyst ∧ d.hyst ≤ 1000)
   else if d.isLevel || d.ty == 0x0D || d.ty == 0x0F then decide (5 ≤ d.hyst ∧ d.hyst ≤ 200) else d.hyst == 0) &&
  (d.isLevel || d.reset == 0) && (bits d.reset 1 0 != 2 || decide (5 ≤ d.curve)) &&
  (d.isFed || d.ty == 0x13 || d.dirmode == 0) &&
  (if d.single then d.phsel == 8 else if d.ty = 5 ∨ d.ty = 6 ∨ d.ty = 0x10 ∨ d.isFreq then d.phsel == 0 else true) &&
  -- types that never operate drive no output
  (!(d.isDir || d.ty == 0x0F || d.ty == 0x10) || d.doMask == 0) && paramOk d

/-- References name enabled elements of the required type on the same source; unused ones are 0xFFFF (R149, R150, R153). -/
def refsOk (t : TableBuf) (d : Desc) : Bool :=
  let ok (r : Nat) (use same : Bool) (f : Desc → Bool) : Bool :=
    r == 0xFFFF || (use && decide (r < 4096) &&
      (let x := t.desc r; x.en && f x && (!same || (x.skind == d.skind && x.sidx == d.sidx))))
  let sig (s : Nat) (use : Bool) : Bool :=
    s == 0xFFFF || (use &&
      (let k := s / 4096; let i := s % 4096
       if k = 1 ∨ k = 2 then (t.desc i).en else if k = 3 then decide (i < 64) else if k = 4 then decide (i < 256) else true))
  ok d.dirRef d.isFed true Desc.isDir && ok d.restrRef d.isFed true (·.ty == 0x0F) && ok d.clpRef d.isLevel false (·.ty == 0x10) &&
  sig d.sig1 (d.ty == 0x0D || d.ty == 0x10) && sig d.sig2 (d.ty == 0x0D)

/-- A user curve that a descriptor names is loaded, and allows its RESET (R153, R157). -/
def curveUseOk (t : TableBuf) (d : Desc) : Bool :=
  d.curve < 8 || (let c := tget curveD t.curves (d.curve - 8); c.npts != 0 && (bits d.reset 1 0 != 2 || fx c.tr != 0))

/-- REASON of a descriptor of the table, 0 when it passes (R153, R183). DESIGN CHOICE (log 33). DEDUCED (log 53). -/
def descReason (t : TableBuf) (i : Nat) : Nat :=
  let p := tget descD t.descs i
  let d := descOf p
  if !bitOf d.flags 0 then (if chkOk p then 0 else 3)
  else match typeRow d.ty with
    | none => 1
    | some r =>
      if d.skind != r.1 || !decide (d.qty ∈ r.2.1) || !decide (d.curve ∈ r.2.2) then 1
      else if !reservedOk p d then 2
      else if !chkOk p then 3
      else if !rangeOk d then 4
      else if !refsOk t d then 5
      else if !curveUseOk t d then 6
      else 0

/-- The first descriptor with a REASON; unlisted indexes are unused descriptors and pass. DESIGN CHOICE (log 33). -/
def firstReason (t : TableBuf) (l : List Nat) : Option (Nat × Nat) :=
  match l with
  | [] => none
  | i :: r => let x := descReason t i; if x = 0 then firstReason t r else some (i, x)

/-- The first index at which the timers of the table no longer fit (R153, R159). -/
def timerShort (t : TableBuf) (free : Nat) (l : List Nat) : Option Nat :=
  match l with
  | [] => none
  | i :: r => let n := (t.desc i).needs; if free < n then some i else timerShort t (free - n) r

/-- R153 on the inactive buffer: the first failing index and REASON. DESIGN CHOICE (log 33). -/
def Block.tableFail (b : Block) : Option (Nat × Nat) :=
  let t := b.elm.inactive
  let ix := t.descs.map (·.1)
  match firstReason t ix with
  | some x => some x
  | none => (timerShort t (65536 - b.wheel.used 0) ix).map fun i => (i, 7)

/-! ### The swap (R159, R182 to R184, R199) -/

/-- A swap is accepted and not yet in force, or its journal entry is being written (R183, R506). -/
def Block.swapBusy (b : Block) : Bool :=
  b.elm.swap.isSome || b.nv.jobs.any fun j => match j.job with | .journal _ _ r => r.cmd == 0x0403 | _ => false

/-- Allocate the timers of a table: element index and timer numbers (R159, R199). -/
def WheelSt.allocTable (t : TableBuf) (w : WheelSt) : WheelSt × Tab (List Nat) :=
  t.descs.foldl (fun (x : WheelSt × Tab (List Nat)) p =>
    let n := (descOf p.2).needs
    if n = 0 then x
    else let a := x.1.allocN n 0 255 p.1; (a.1, tset (fun _ => []) x.2 p.1 a.2)) (w, [])

/-- The user curve that a descriptor names. -/
def TableBuf.curveOf (t : TableBuf) (i : Nat) : Option Curve :=
  let d := t.desc i
  if d.curve < 8 then none else some (tget curveD t.curves (d.curve - 8))

/-- Is descriptor `i` unchanged between two tables (R184)? -/
def unchanged (o n : TableBuf) (i : Nat) : Bool :=
  (tget descD o.descs i).take 62 == (tget descD n.descs i).take 62 && o.curveOf i == n.curveOf i

/-- The timer of an element that counts its CURVE 0 operate time: a BF's second one (R155, R159, R168). -/
def Desc.opTimer (d : Desc) : Option Nat := if d.curve ≠ 0 then none else if d.ty = 0x0D then some 1 else if d.isLevel then some 0 else none

/-- Move the running timers of a carried element onto the numbers allocated for the new table; the operate timer moves by the change of
T_OP. -/
def WheelSt.carry (from_ to_ : List Nat) (op : Option Nat) (add : Int) (w : WheelSt) : WheelSt :=
  (List.range from_.length).foldl (fun w k =>
    match from_[k]?, to_[k]? with
    | some f, some n =>
      let o := w.get f
      let a := if op = some k then add else 0
      w.upd n fun t => { o with slot := t.slot, owner := t.owner, x := ((o.x : Int) + a).toNat, remain := ((o.remain : Int) + a).toNat }
    | _, _ => w) w

/-- One index at S (R184). -/
def Block.swapIndex (o n : TableBuf) (keep : Bool) (nt : Tab (List Nat)) (b : Block) (i : Nat) : Block :=
  let st := tget elStD b.elm.states i
  let od := o.desc i
  let nd := n.desc i
  let ts := tget (fun _ => []) nt i
  let same := unchanged o n i
  let kept := keep && od.ty == nd.ty && od.skind == nd.skind && od.sidx == nd.sidx
  let put (s : ElSt) (w : WheelSt) : Block :=
    { b with wheel := w.release st.timers, elm := { b.elm with states := tset elStD b.elm.states i s } }
  if same || kept then
    let op := if same || od.opTimer != nd.opTimer then none else nd.opTimer
    put (if same then { st with timers := ts } else { st with timers := ts, pk := 0, drives := 0 })
      (b.wheel.carry st.timers ts op (((nd.tOp : Int) - od.tOp) * 1000))
  else put { timers := ts } b.wheel

/-- ELEMENT_SWAP_EFFECT: at S the buffers exchange roles, each index carries its state over, and event 314 tells how many
descriptors changed (R25, R183, R184). -/
def elementSwapEffect (b : Block) : Block :=
  match b.elm.swap with
  | none => b
  | some (s, keep) =>
    if b.time.epoch < s then b
    else
      let o := b.elm.active
      let n := b.elm.inactive
      let ix := (o.descs.map (·.1)).foldl (fun l i => insNat i l) (n.descs.map (·.1))
      let changed := (ix.filter fun i => !unchanged o n i).length
      let b := ix.foldl (Block.swapIndex o n keep b.elm.swapTimers) b
      Block.raise 314 changed { b with elm := { b.elm with
        active := n, inactive := o, swap := none, swapTimers := [], bad := [] } }

/-- ELEMENT_TABLE_LOAD: the table in force enters the active buffer and is copied into the inactive one; every element starts
from reset (R57, R182). DESIGN CHOICE (log 35). -/
def elementTableLoad (b : Block) : Block :=
  let t := b.nv.store.table
  let w := b.wheel.release (b.elm.states.flatMap fun x => x.2.timers)
  let a := w.allocTable t
  { b with
    wheel := a.1
    elm := { b.elm with
      active := t, inactive := t, bad := [], fresh := true, swap := none, swapTimers := [], resets := []
      states := a.2.foldl (fun s x => tset elStD s x.1 { timers := x.2 }) [] }
    sys := { b.sys with tableLoaded := true } }

/-- LATCH_CLEAR_EFFECT: the resets whose S has come (R186). -/
def latchClearEffect (b : Block) : Block :=
  let due := b.elm.resets.filter fun x => decide (x.1 ≤ b.time.epoch)
  let b : Block := { b with elm := { b.elm with resets := b.elm.resets.filter fun x => decide (b.time.epoch < x.1) } }
  due.foldl (fun b x =>
    let hit (i : Nat) (s : ElSt) : Bool := s.latched && decide (x.2.1 ≤ i ∧ i < x.2.1 + x.2.2)
    let n := (b.elm.states.filter fun y => hit y.1 y.2).length
    let b : Block := { b with elm := { b.elm with
      states := tmap elStD b.elm.states fun i s => if hit i s then { s with latched := false, operate := s.own, drives := 0, off := false } else s } }
    b.raiseIf (n != 0) 317 n) b

/-! ### Commands -/

/-- ELEM_TABLE_WRITE: it does not validate (R182). -/
def elemTableWrite (r : Req) (b : Block) : Block :=
  b.onOp 0x0401 r (fld r.payload 0 1 == 0 || decide (2 < fld r.payload 0 1)) fun b =>
    let p := r.payload
    let f := fld p 2 2
    let n := fld p 4 2
    if fld p 0 1 != 0 || fld p 1 1 != 0 || fld p 6 2 != 0 || n = 0 || 63 < n || 4096 < f + n || p.length != 8 + 64 * n then b.status r stBADARG
    else if b.swapBusy || b.ladleOn 2 then b.status r stBUSY
    else
      let ds := (List.range n).map fun i => cut p (8 + 64 * i) 64
      Block.status r stOK { b with elm := { b.elm with inactive := { b.elm.inactive with descs := tsetRun descD b.elm.inactive.descs f ds } } }

/-- ELEM_TABLE_COPY: the active buffer, curves included, into the inactive one (R182). -/
def elemTableCopy (r : Req) (b : Block) : Block :=
  b.onOp 0x0401 r (fld r.payload 0 1 == 1) fun b =>
    let p := r.payload
    if fld p 0 1 != 1 || fld p 1 1 != 0 || 4095 < fld p 2 2 || fld p 4 2 != 0 || fld p 6 2 != 0 || p.length != 8 then b.status r stBADARG
    else if b.swapBusy || b.ladleOn 2 then b.status r stBUSY
    else Block.status r stOK { b with elm := { b.elm with inactive := b.elm.active } }

/-- ELEM_TABLE_READ (R182). DESIGN CHOICE (log 34). -/
def elemTableRead (r : Req) (b : Block) : Block :=
  b.onOp 0x0401 r (fld r.payload 0 1 == 2) fun b =>
    let p := r.payload
    let f := fld p 2 2
    let n := fld p 4 2
    if fld p 0 1 != 2 || 1 < fld p 1 1 || fld p 6 2 != 0 || n = 0 || 63 < n || 4096 < f + n || p.length != 8 then b.status r stBADARG
    else
      let t := if fld p 1 1 = 0 then b.elm.active else b.elm.inactive
      b.ok r ((List.range n).flatMap fun i => tget descD t.descs (f + i))

/-- A curve from the layout of `elem.curve`. -/
def curveIn (p : List Byte) : Curve :=
  let n := fld p 3 1
  let w (o : Nat) : Word := BitVec.ofNat 32 (fld p o 4)
  { npts := n, tr := w 4, pts := (List.range n).map fun k => (w (8 + 8 * k), w (12 + 8 * k)) }

/-- M rising above 1.0 up to 40.0, T positive and not rising (R158). -/
def ptsOk (l : List (Word × Word)) : Bool :=
  match l with
  | [] => true
  | x :: r =>
    realIn (whole 1) (whole 40) x.1 && decide (whole 1 < fx x.1) && realPos x.2 &&
    (match r with | [] => true | y :: _ => decide (fx x.1 < fx y.1) && decide (fx y.2 ≤ fx x.2)) && ptsOk r

/-- The 264-byte layout of a curve. -/
def Curve.bytes (i op buf : Nat) (c : Curve) : List Byte :=
  let b := c.pts.flatMap fun x => leBytes 4 x.1.toNat ++ leBytes 4 x.2.toNat
  leBytes 1 i ++ leBytes 1 op ++ leBytes 1 buf ++ leBytes 1 c.npts ++ leBytes 4 c.tr.toNat ++ b ++ zeros (256 - b.length)

/-- ELEM_CURVE: write to the inactive buffer, or read (R158, R182). -/
def elemCurve (r : Req) (b : Block) : Block :=
  b.onReq 0x0402 r fun b =>
    let p := r.payload
    let i := fld p 0 1
    let op := fld p 1 1
    let buf := fld p 2 1
    if p.length != 264 || 7 < i || 1 < buf || (op != 0 && op != 2) then b.status r stBADARG
    else if op = 2 then
      if !allZero (p.drop 3) then b.status r stBADARG
      else b.ok r ((tget curveD (if buf = 0 then b.elm.active.curves else b.elm.inactive.curves) i).bytes i 2 buf)
    else
      let c := curveIn p
      if buf != 0 || c.npts < 2 || 32 < c.npts || !realNonneg c.tr || !ptsOk c.pts || !allZero (p.drop (8 + 8 * c.npts)) then b.status r stBADARG
      else if b.swapBusy then b.status r stBUSY
      else Block.status r stOK { b with elm := { b.elm with inactive := { b.elm.inactive with curves := tset curveD b.elm.inactive.curves i c } } }

/-- ELEM_SWAP: validate, then write the table to the protection journal (R153, R183, R504, R506). -/
def elemSwap (r : Req) (b : Block) : Block :=
  b.onReq 0x0403 r fun b =>
    if 1 < fld r.payload 0 4 then b.status r stBADARG
    else if b.swapBusy then b.status r stBUSY
    else match b.tableFail with
      | some (i, why) => b.answer r stBADARG b.time.epoch (leBytes 2 i ++ leBytes 2 why)
      | none => b.journal true 0x0403 r

/-- Both appends of a swap are done: S is named, and the new table's timers are allocated (R183, R199).
DESIGN CHOICE (log 34). -/
def elemSwapCommit (r : Req) (b : Block) : Block :=
  let a := b.wheel.allocTable b.elm.inactive
  Block.answer r stOK b.effS [] { b with
    wheel := a.1
    elm := { b.elm with swap := some (b.effS, bitOf (fld r.payload 0 4) 0), swapTimers := a.2 }
    nv := { b.nv with store := { b.nv.store with table := b.elm.inactive } } }

/-- ELEM_READ: state records of one published epoch (R185). -/
def elemRead (r : Req) (b : Block) : Block :=
  b.onReq 0x0404 r fun b =>
    let f := fld r.payload 0 2
    let n := fld r.payload 2 2
    if n = 0 || 512 < n || 4096 < f + n || fld r.payload 4 4 != 0 then b.status r stBADARG
    else b.answer r stOK b.elm.pubEpoch ((List.range n).flatMap fun i => (tget elStD b.elm.pub (f + i)).bytes)

/-- ELEM_RESET: LATCHED of the named elements clears at S (R186). -/
def elemReset (r : Req) (b : Block) : Block :=
  b.onReq 0x0405 r fun b =>
    let f := fld r.payload 0 2
    let n := fld r.payload 2 2
    if n = 0 || 4096 < n || 4096 < f + n then b.status r stBADARG
    else Block.answer r stOK b.effS [] { b with elm := { b.elm with resets := b.elm.resets ++ [(b.effS, f, n)] } }

/-! ### Meanings -/

def execElementSwapEffect (s : State) : Out := s.done (elementSwapEffect s.blk)
def execLatchClearEffect (s : State) : Out := s.done (latchClearEffect s.blk)
def execElemTableWrite (r : Req) (s : State) : Out := s.done (elemTableWrite r s.blk)
def execElemTableCopy (r : Req) (s : State) : Out := s.done (elemTableCopy r s.blk)
def execElemTableRead (r : Req) (s : State) : Out := s.done (elemTableRead r s.blk)
def execElemCurve (r : Req) (s : State) : Out := s.done (elemCurve r s.blk)
def execElemSwap (r : Req) (s : State) : Out := s.done (elemSwap r s.blk)
def execElemRead (r : Req) (s : State) : Out := s.done (elemRead r s.blk)
def execElemReset (r : Req) (s : State) : Out := s.done (elemReset r s.blk)

end Sys2Proof.Machine
end

