-- ==== Sys2Proof/Machine/Fp.lean ====
section
/-! DEFINITION. REAL32 and phasor arithmetic of the interpreter: results, NaN rules and sticky flags (13 of the spec, R258,
R283, R284, R287, R288). -/

namespace Sys2Proof.Machine
open Sys2Proof

/-- A REAL32 result with the flags it sets. -/
abbrev FRes := Word × FFlags

def isNaN (w : Word) : Bool := match f32 w with | .nan _ => true | _ => false
def isSig (w : Word) : Bool := match f32 w with | .nan s => s | _ => false
def isInf (w : Word) : Bool := match f32 w with | .inf _ => true | _ => false
/-- The sign bit. -/
def sgnOf (w : Word) : Bool := decide (2 ^ 31 ≤ w.toNat)
/-- ±∞ and ±0. -/
def infW (neg : Bool) : Word := if neg then 0xFF800000 else 0x7F800000
def zeroW (neg : Bool) : Word := if neg then 0x80000000 else 0
/-- The invalid result (R284). -/
def invalid : FRes := (qNaN, { iv := true })
/-- A NaN made quiet (R284). -/
def quiet (w : Word) : Word := w ||| 0x00400000

/-- A finite REAL32 at scale 2^−149, as an integer; 0 for the rest. -/
def fin149 (w : Word) : Int :=
  match f32 w with
  | .fin neg m e => let v : Int := ((m * 2 ^ (e + 149).toNat : Nat) : Int); if neg then -v else v
  | _ => 0

/-- The NaN rule: with a NaN among the operands, the first of them made quiet, IV for a signalling one (R283, R284). -/
def nanOf (ops : List Word) : Option FRes :=
  match ops.find? isNaN with
  | some w => some (quiet w, { iv := ops.any isSig })
  | none => none

/-- Round an exact value `v × 2^(−k)`; an exact zero takes the sign given. -/
def roundZ (v : Int) (k : Nat) (zneg : Bool) : FRes :=
  if v = 0 then (zeroW zneg, {}) else roundQ (decide (v < 0)) v.natAbs (2 ^ k)

/-- A term of an exact sum: not a number of it is infinite, or its value at scale 2^−298 with its sign. -/
inductive Term where
  | inf (neg : Bool)
  | bad
  | val (neg : Bool) (v : Int)
deriving DecidableEq, Repr

/-- A word as a term, and the exact product of two words (R283: 0 × ∞ is invalid). -/
def termOf (w : Word) : Term :=
  match f32 w with
  | .inf n => .inf n
  | .fin n _ _ => .val n (fin149 w * (2 ^ 149 : Nat))
  | .nan _ => .bad
def termMul (a b : Word) : Term :=
  let n := sgnOf a != sgnOf b
  match f32 a, f32 b with
  | .inf _, .inf _ => .inf n
  | .inf _, .fin _ m _ => if m = 0 then .bad else .inf n
  | .fin _ m _, .inf _ => if m = 0 then .bad else .inf n
  | .fin _ _ _, .fin _ _ _ => .val n (fin149 a * fin149 b)
  | _, _ => .bad
def Term.neg : Term → Term
  | .inf n => .inf !n
  | .bad => .bad
  | .val n v => .val (!n) (-v)

/-- The sum of terms rounded once: ∞ − ∞ is invalid, and an exact zero is −0 only where every term is negative (R283). -/
def sumTerms (l : List Term) : FRes :=
  let pos := l.any fun t => t == .inf false
  let neg := l.any fun t => t == .inf true
  if l.any (· == .bad) || (pos && neg) then invalid
  else if pos then (infW false, {}) else if neg then (infW true, {})
  else
    let v := l.foldl (fun s t => match t with | .val _ x => s + x | _ => s) (0 : Int)
    roundZ v 298 (l.all fun t => match t with | .val n _ => n | _ => false)

/-- FADD, FSUB, FMUL, FMA (R257, R258). -/
def fAdd (a b : Word) : FRes := (nanOf [a, b]).getD (sumTerms [termOf a, termOf b])
def fSub (a b : Word) : FRes := (nanOf [a, b]).getD (sumTerms [termOf a, (termOf b).neg])
def fMul (a b : Word) : FRes := (nanOf [a, b]).getD (sumTerms [termMul a b])
def fMa (a b c : Word) : FRes :=
  match nanOf [a, b, c] with
  | some r => if !isNaN a && !isNaN b && termMul a b == .bad then (r.1, { r.2 with iv := true }) else r
  | none => sumTerms [termMul a b, termOf c]

/-- FDIV (R283). -/
def fDiv (a b : Word) : FRes :=
  let n := sgnOf a != sgnOf b
  match nanOf [a, b] with
  | some r => r
  | none =>
    match f32 a, f32 b with
    | .inf _, .inf _ => invalid
    | .inf _, _ => (infW n, {})
    | _, .inf _ => (zeroW n, {})
    | _, _ =>
      let x := (fin149 a).natAbs
      let y := (fin149 b).natAbs
      if y = 0 then (if x = 0 then invalid else (infW n, { dz := true }))
      else if x = 0 then (zeroW n, {}) else roundQ n x y

/-- FSQRT. -/
def fSqrt (a : Word) : FRes :=
  match nanOf [a] with
  | some r => r
  | none =>
    match f32 a with
    | .inf n => if n then invalid else (infW false, {})
    | _ =>
      let v := fin149 a
      if v = 0 then (a, {}) else if v < 0 then invalid else realSqrtQ v.natAbs (2 ^ 149)

/-- FNEG and FABS change only the sign bit (R258). -/
def fNeg (a : Word) : Word := a ^^^ 0x80000000
def fAbs (a : Word) : Word := a &&& 0x7FFFFFFF

/-- The value order of two words that are no NaN, with −0 below +0. -/
def fLess (a b : Word) : Bool :=
  let key (w : Word) : Int × Nat := match f32 w with
    | .inf n => (if n then -(2 ^ 300 : Int) else 2 ^ 300, 0)
    | _ => (fin149 w, if sgnOf w then 0 else 1)
  let x := key a
  let y := key b
  decide (x.1 < y.1) || (decide (x.1 = y.1) && decide (x.2 < y.2))

/-- FMIN and FMAX: minimumNumber and maximumNumber (R258). -/
def fMinMax (max : Bool) (a b : Word) : FRes :=
  let fl : FFlags := { iv := isSig a || isSig b }
  if isNaN a && isNaN b then (quiet a, fl)
  else if isNaN a then (b, fl) else if isNaN b then (a, fl)
  else ((if (if max then fLess a b else fLess b a) then b else a), fl)

/-- FRND: to an integral value, ties to even (R258). -/
def fRnd (a : Word) : FRes :=
  match nanOf [a] with
  | some r => r
  | none =>
    match f32 a with
    | .fin n m e =>
      if 0 ≤ e then (a, {})
      else
        let q := rne m (2 ^ e.natAbs)
        ((if q.1 = 0 then zeroW n else (roundQ n q.1 1).1), { nx := q.2 })
    | _ => (a, {})

/-- The numeric comparison of two words; none with a NaN. −0 equals +0. -/
def fCmp (a b : Word) : Option Ordering :=
  if isNaN a || isNaN b then none
  else
    let key (w : Word) : Int := match f32 w with | .inf n => if n then -(2 ^ 300 : Int) else 2 ^ 300 | _ => fin149 w
    some (compare (key a) (key b))

/-- CMP on REAL32: result and IV (R261). -/
def fCompare (cond : Nat) (a b : Word) : Bool × Bool :=
  let iv := if cond ≤ 1 then isSig a || isSig b else isNaN a || isNaN b
  (match fCmp a b with
   | none => cond == 1
   | some o =>
     (match cond with | 0 => o == .eq | 1 => o != .eq | 2 => o == .lt | 3 => o != .gt | 4 => o == .gt | _ => o != .lt), iv)

/-- REAL32 to an integer type of the limits given, scaled by `k` (10^9 for TIME64) (R287). -/
def fToInt (lo hi : Int) (k : Nat) (a : Word) : Int × FFlags :=
  match f32 a with
  | .nan _ => (0, { iv := true })
  | .inf n => (if n then lo else hi, { iv := true })
  | _ =>
    let v := fin149 a * k
    let r := rneI v (2 ^ 149)
    if hi < r then (hi, { iv := true }) else if r < lo then (lo, { iv := true })
    else (r, { nx := decide (r * (2 ^ 149 : Nat) ≠ v) })

/-- An integer over a divisor as REAL32 (R287). -/
def intToF (v : Int) (d : Nat) : FRes := if v = 0 then (0, {}) else roundQ (decide (v < 0)) v.natAbs d

/-! ### Phasors (R272, R273, R288) -/

/-- A phasor: real part, imaginary part. -/
abbrev Ph := Word × Word

/-- Two parts with the union of their flags (R288). -/
def phRes (re im : FRes) : Ph × FFlags := ((re.1, im.1), re.2.or im.2)

/-- PRESUMED (log 41). -/
def pAdd (a b : Ph) : Ph × FFlags := phRes (fAdd a.1 b.1) (fAdd a.2 b.2)
def pSub (a b : Ph) : Ph × FFlags := phRes (fSub a.1 b.1) (fSub a.2 b.2)
def pScl (a : Ph) (r : Word) : Ph × FFlags := phRes (fMul a.1 r) (fMul a.2 r)

/-- PMUL: (ac − bd) + j(ad + bc), each part from exact products, rounded once. PRESUMED (log 41). -/
def pMul (x y : Ph) : Ph × FFlags :=
  let n := nanOf [x.1, x.2, y.1, y.2]
  phRes (n.getD (sumTerms [termMul x.1 y.1, (termMul x.2 y.2).neg])) (n.getD (sumTerms [termMul x.1 y.2, termMul x.2 y.1]))

/-- One part of PDIV: the numerator over |y|², rounded once. PRESUMED (log 41). -/
def pQuot (l : List Term) (den : Nat) (denInf : Bool) : FRes :=
  let s := sumTerms l
  if s.2.iv then invalid
  else if isInf s.1 && l.any (fun t => t == .inf true || t == .inf false) then
    (if denInf then invalid else (s.1, {}))
  else
    let v := l.foldl (fun s t => match t with | .val _ x => s + x | _ => s) (0 : Int)
    if denInf || v = 0 then (zeroW (sgnOf s.1), {}) else roundQ (decide (v < 0)) v.natAbs den

/-- PDIV (R288). -/
def pDiv (x y : Ph) : Ph × FFlags :=
  match nanOf [x.1, x.2, y.1, y.2] with
  | some r => phRes r r
  | none =>
    let zero (p : Ph) : Bool := fAbs p.1 == 0 && fAbs p.2 == 0
    if zero y then ((qNaN, qNaN), if zero x then { iv := true } else { dz := true })
    else
      let den := (fin149 y.1 * fin149 y.1 + fin149 y.2 * fin149 y.2).natAbs
      let di := isInf y.1 || isInf y.2
      phRes (pQuot [termMul x.1 y.1, termMul x.2 y.2] den di) (pQuot [termMul x.2 y.1, (termMul x.1 y.2).neg] den di)

/-- PMAG: √(re² + im²) rounded once (R273, R288). -/
def pMag (a : Ph) : FRes :=
  if isInf a.1 || isInf a.2 then (infW false, {})
  else match nanOf [a.1, a.2] with
    | some r => r
    | none => realSqrtQ (fin149 a.1 * fin149 a.1 + fin149 a.2 * fin149 a.2).natAbs (2 ^ 298)

/-- (P + Q·√3) / (6 × 2^149) rounded once: the root is carried far beyond any distance to a rounding boundary. -/
def rootPart (p q : Int) (zneg : Bool) : FRes :=
  if q = 0 then (if p = 0 then (zeroW zneg, {}) else roundQ (decide (p < 0)) p.natAbs (6 * 2 ^ 149))
  else
    let k := 800
    let r : Int := (isqrt (3 * q.natAbs * q.natAbs * 2 ^ (2 * k)) : Nat)
    let v := if q < 0 then 2 * (p * (2 ^ k : Nat) - r) - 1 else 2 * (p * (2 ^ k : Nat) + r) + 1
    roundQ (decide (v < 0)) v.natAbs (6 * 2 ^ 149 * 2 ^ (k + 1))

/-- A part of PSEQ from the words of its terms, with their coefficients on 1/6 and on √3/6. -/
def seqPart (l : List (Word × Int × Int)) : FRes :=
  let used := l.filter fun x => x.2.1 != 0 || x.2.2 != 0
  match nanOf (used.map (·.1)) with
  | some r => r
  | none =>
    let sg (x : Word × Int × Int) : Bool := sgnOf x.1 != decide (x.2.1 + x.2.2 < 0)
    let pos := used.any fun x => isInf x.1 && !sg x
    let neg := used.any fun x => isInf x.1 && sg x
    if pos && neg then invalid else if pos then (infW false, {}) else if neg then (infW true, {})
    else
      let p := used.foldl (fun s x => s + fin149 x.1 * x.2.1) (0 : Int)
      let q := used.foldl (fun s x => s + fin149 x.1 * x.2.2) (0 : Int)
      rootPart p q (used.all sg)

/-- PSEQ: 0 zero, 1 positive, 2 negative sequence; ACB exchanges a and a². The terms stand in the order of the operands, which decides
the NaN (R273, R284). -/
def pSeq (sel : Nat) (acb : Bool) (a b c : Ph) : Ph × FFlags :=
  if sel = 0 then
    phRes (seqPart [(a.1, 2, 0), (b.1, 2, 0), (c.1, 2, 0)]) (seqPart [(a.2, 2, 0), (b.2, 2, 0), (c.2, 2, 0)])
  else
    let s : Int := if (sel == 2) != acb then -1 else 1
    phRes (seqPart [(a.1, 2, 0), (b.1, -1, 0), (b.2, 0, -s), (c.1, -1, 0), (c.2, 0, s)])
          (seqPart [(a.2, 2, 0), (b.1, 0, s), (b.2, -1, 0), (c.1, 0, -s), (c.2, -1, 0)])

/-- Flags from a mask of bits 0 IV to 4 NX. -/
def flagsOf (n : Nat) : FFlags := { iv := bitOf n 0, dz := bitOf n 1, ovf := bitOf n 2, uf := bitOf n 3, nx := bitOf n 4 }

/-! ### Functions within one unit in the last place (R272, R273, R288) -/

/-- A result within 1 ulp of the exact value ±n/d (R273): the correctly rounded REAL32, or the REAL32 on the other side of the exact
value, or, where the exact value is itself a REAL32, one of its two neighbours. Which it is, is free: the manual bounds the result
and does not fix it. The flags go with the result delivered. An exact zero is delivered as it is. DESIGN CHOICE (log 40). -/
def oneUlp (fn : Nat) (ops : List Word) (neg : Bool) (n d : Nat) : FRes :=
  if n = 0 then (zeroW neg, {})
  else
    let x := snapQ n d
    let r := roundQ neg x.1 x.2
    if r.2.ovf then r
    else
      let pick := Config.ulpPick fn ops % 3
      let m := r.1.toNat % 2 ^ 31
      let v := (fin149 (BitVec.ofNat 32 m)).natAbs
      let below := decide (v * x.2 < x.1 * 2 ^ 149)
      let up := if r.2.nx then decide (pick ≠ 0) && below else decide (pick = 1)
      let down := if r.2.nx then decide (pick ≠ 0) && !below else decide (pick = 2) && decide (0 < m)
      let k := if up && m + 1 != 0x7F800000 then m + 1 else if down then m - 1 else m
      let nx := r.2.nx || k != m
      (BitVec.ofNat 32 (k + if neg then 2 ^ 31 else 0), { uf := nx && (r.2.uf || decide (k < 2 ^ 23)), nx := nx })

/-- PANG: 0 for a = 0, +180 on the negative real axis, never above 180 and never −180; an infinite part outweighs a finite one
(R272, R283, R288). -/
def pAng (a : Ph) : FRes :=
  match nanOf [a.1, a.2] with
  | some r => r
  | none =>
    let any := isInf a.1 || isInf a.2
    let part (w : Word) : Int := if any then (if isInf w then (if sgnOf w then -1 else 1) else 0) else fin149 w
    let y := part a.2
    if y = 0 then (if part a.1 < 0 then (0x43340000, {}) else (0, {}))
    else
      let g := argDegS (part a.1) y
      let r := if g = 0 then oneUlp 0 [a.1, a.2] (decide (y < 0)) 1 (2 ^ 300) else oneUlp 0 [a.1, a.2] (decide (g < 0)) g.natAbs rOne
      let w : Word :=
        if 0x43340000 < (fAbs r.1).toNat then (if sgnOf r.1 then 0xC333FFFF else 0x43340000)
        else if r.1 = 0xC3340000 then 0xC333FFFF else r.1
      (w, { nx := r.2.nx })

/-- A part of a rotated phasor: the sum of words times cosines and sines at the scale of `cis`. -/
def rotPart (fn : Nat) (ops : List Word) (l : List (Word × Int)) : FRes :=
  let sg (x : Word × Int) : Bool := sgnOf x.1 != decide (x.2 < 0)
  let infs := l.filter fun x => isInf x.1
  let pos := infs.any fun x => !sg x
  let neg := infs.any sg
  if infs.any (fun x => x.2 == 0) || (pos && neg) then invalid
  else if pos then (infW false, {}) else if neg then (infW true, {})
  else
    let v := l.foldl (fun s x => s + fin149 x.1 * x.2) (0 : Int)
    if v = 0 then (zeroW (l.all sg), {}) else oneUlp fn ops (decide (v < 0)) v.natAbs (2 ^ 149 * rOne)

/-- The angle of PROT and PPOL as cosine and sine: reduced exactly before evaluation (R288). -/
def angOf (g : Word) : Int × Int := cis (fin149 g) (360 * 2 ^ 149)

/-- The NaN of an operation with an angle: the first NaN operand, or the default one for an infinite angle; IV for every angle that
is not finite (R284, R288). -/
def angNaN (ops : List Word) (g : Word) : Option FRes :=
  match nanOf (ops ++ [g]) with
  | some r => some (r.1, { r.2 with iv := r.2.iv || isNaN g || isInf g })
  | none => if isInf g then some invalid else none

/-- PROT: a × 1∠g (R272). PRESUMED (log 41). -/
def pRot (a : Ph) (g : Word) : Ph × FFlags :=
  match angNaN [a.1, a.2] g with
  | some r => phRes r r
  | none =>
    let z := angOf g
    phRes (rotPart 1 [a.1, a.2, g] [(a.1, z.1), (a.2, -z.2)]) (rotPart 2 [a.1, a.2, g] [(a.1, z.2), (a.2, z.1)])

/-- PPOL: m∠g (R272). -/
def pPol (m g : Word) : Ph × FFlags :=
  match angNaN [m] g with
  | some r => phRes r r
  | none =>
    let z := angOf g
    phRes (rotPart 3 [m, g] [(m, z.1)]) (rotPart 4 [m, g] [(m, z.2)])

/-- FLN (R283). -/
def fLn (a : Word) : FRes :=
  match nanOf [a] with
  | some r => r
  | none =>
    if fAbs a = 0 then (infW true, { dz := true })
    else if sgnOf a then invalid
    else if isInf a then (infW false, {})
    else let v := rLn (fin149 a).natAbs (2 ^ 149); oneUlp 5 [a] (decide (v < 0)) v.natAbs rOne

/-- e^x for x at scale: overflow and underflow beyond the range of REAL32 (R283). -/
def expR (fn : Nat) (ops : List Word) (neg : Bool) (x : Int) : FRes :=
  if ((100 * rOne : Nat) : Int) < x then (infW neg, { ovf := true, nx := true })
  else if x < -((200 * rOne : Nat) : Int) then oneUlp fn ops neg 1 (2 ^ 260)
  else let q := expQ (rExp x); oneUlp fn ops neg q.1 q.2

/-- FEXP. -/
def fExp (a : Word) : FRes :=
  match nanOf [a] with
  | some r => r
  | none =>
    if isInf a then (if sgnOf a then (0, {}) else (infW false, {}))
    else expR 6 [a] false (fin149 a * 2 ^ 107)

/-- Is a finite word a whole number, and an odd one? -/
def isWhole (a : Word) : Bool := decide (fin149 a % (2 ^ 149 : Nat) = 0)
def isOdd (a : Word) : Bool := isWhole a && decide (fin149 a / (2 ^ 149 : Nat) % 2 = 1)

/-- FPOW: pow of IEEE 754-2019, with DZ for ±0 to a finite negative power (R283). A quiet NaN does not spoil x^±0 and 1^y.
PRESUMED (log 41). -/
def fPow (a b : Word) : FRes :=
  let one := fAbs b == 0 || a == 0x3F800000
  if one && !isSig a && !isSig b then (0x3F800000, {})
  else match nanOf [a, b] with
    | some r => r
    | none =>
      let odd := !isInf b && isOdd b
      if fAbs a = 0 then
        if sgnOf b then (infW (sgnOf a && odd), { dz := !isInf b }) else (zeroW (sgnOf a && odd), {})
      else if isInf b then
        let u := fAbs a
        if u = 0x3F800000 then (0x3F800000, {})
        else if decide (0x3F800000 < u.toNat) == sgnOf b then (0, {}) else (infW false, {})
      else if isInf a then
        if sgnOf b then (zeroW (sgnOf a && odd), {}) else (infW (sgnOf a && odd), {})
      else if sgnOf a && !isWhole b then invalid
      else expR 7 [a, b] (sgnOf a && odd) (rLn (fin149 a).natAbs (2 ^ 149) * fin149 b / (2 ^ 149 : Nat))

end Sys2Proof.Machine
end

