-- ==== Sys2Proof/Machine/Operands.lean ====
section
/-! DEFINITION. The operand forms of the Fjoask instructions: locals with their types, memory words with their areas and the
staging of the output half (12 of the spec, R241 to R251). -/

namespace Sys2Proof.Machine
open Sys2Proof

/-- An operand byte that names a local (R248). -/
abbrev Loc := BitVec 8

def dwD (_ : Nat) : DWord := 0
def wzD (_ : Nat) : Word := 0

/-- The type sets of R251: W any 32-bit type, D any 64-bit type. -/
def tyW : List Ty := [.bool, .int, .uint, .real, .qual]
def tyD : List Ty := [.time, .phasor]
/-- Every type. -/
def tyAll : List Ty := tyW ++ tyD

/-- Type of a local, and whether an operand byte names a local of an allowed type with its reserved bits 0 (R243, R248). -/
def Fj.ty (f : Fj) (v : Loc) : Ty := f.d.types.getD (v.toNat % 64) .unused
def Fj.is (f : Fj) (l : List Ty) (v : Loc) : Bool := decide (v.toNat < 64) && l.contains (f.ty v)
/-- The operands are all of one type of the set. -/
def Fj.same (f : Fj) (l : List Ty) (vs : List Loc) : Bool :=
  vs.all (f.is l) && vs.all fun v => f.ty v == f.ty (vs.headD 0)

/-- The value of a local, its low word, and its signed value by type (R244). -/
def Fj.val (f : Fj) (v : Loc) : Nat := (tget dwD f.x.locals (v.toNat % 64)).toNat
def Fj.word (f : Fj) (v : Loc) : Word := BitVec.ofNat 32 (f.val v)
def Fj.flag (f : Fj) (v : Loc) : Bool := f.val v % 2 == 1
def Fj.int (f : Fj) (v : Loc) : Int :=
  match f.ty v with
  | .int => toSigned 32 (f.val v)
  | .time => toSigned 64 (f.val v)
  | _ => (f.val v : Int)
/-- A phasor local: the real part in the low word (R288). -/
def Fj.ph (f : Fj) (v : Loc) : Ph := (BitVec.ofNat 32 (f.val v), BitVec.ofNat 32 (f.val v / 2 ^ 32))

/-- Write a local; a 32-bit type leaves bits 63:32 at 0, a QUAL bits 31:16, a BOOL holds 0 or 1 (R244). -/
def Fj.set (v : Loc) (n : Nat) (f : Fj) : Fj :=
  let m := match f.ty v with
    | .bool => n % 2 | .qual => n % 2 ^ 16 | .time | .phasor => n % 2 ^ 64 | _ => n % 2 ^ 32
  { f with x := { f.x with locals := tset dwD f.x.locals (v.toNat % 64) (BitVec.ofNat 64 m) } }
def Fj.setB (v : Loc) (c : Bool) (f : Fj) : Fj := f.set v (b2n c)
def Fj.setI (v : Loc) (n : Int) (f : Fj) : Fj := f.set v (ofSigned 64 n)
def Fj.setW (v : Loc) (w : Word) (f : Fj) : Fj := f.set v w.toNat
def Fj.setPh (v : Loc) (p : Ph) (f : Fj) : Fj := f.set v (p.1.toNat + 2 ^ 32 * p.2.toNat)
/-! ### Memory (R242, R245) -/

/-- First word past the area of an address. -/
def areaEnd (a : Nat) : Nat := if a < 0x8000 then 0x8000 else if a < 0xC000 then 0xC000 else 0x10000
/-- `n` words from `a + i` lie within the area of `a` (R242). -/
def inArea (a i n : Nat) : Bool := decide (a + i + n ≤ areaEnd a)

/-- The task's own view of an output word: its staged writes over the word carried (R245). -/
def Fj.outWord (f : Fj) (w : Nat) : Word :=
  f.c.staged.foldl (fun v s =>
    if s.1 = f.t then
      match s.2 with
      | .out x m y => if x = w then (v &&& ~~~(BitVec.ofNat 32 m)) ||| (y &&& BitVec.ofNat 32 m) else v
      | _ => v
    else v) (tget wzD f.carried w)

/-- Read a word (R241, R245). -/
def Fj.rd (f : Fj) (a : Nat) : Word :=
  if a < 0x8000 then tget wzD f.c.data a
  else if a < 0xC000 then tget wzD f.inH (a - 0x8000)
  else f.outWord (a - 0xC000)

/-- An ACCESS fault on a write of the word: the input half, or an output word outside the OUTSET (R250). -/
def Fj.noWrite (f : Fj) (a : Nat) : Bool :=
  if a < 0x8000 then false
  else if a < 0xC000 then true
  else !f.d.outset.any fun r => decide (r.1 ≤ a - 0xC000 ∧ a - 0xC000 ≤ r.2)

/-- Stage an effect of the running task (R245). -/
def Fj.stage (x : Staged) (f : Fj) : Fj := { f with c := { f.c with staged := f.c.staged ++ [(f.t, x)] } }

/-- Write bits of a word: data memory at once, the output half staged (R245, R305). -/
def Fj.wrMask (a mask : Nat) (v : Word) (f : Fj) : Fj :=
  if a < 0x8000 then
    let o := tget wzD f.c.data a
    let m := BitVec.ofNat 32 mask
    { f with c := { f.c with data := tset wzD f.c.data a ((o &&& ~~~m) ||| (v &&& m)) } }
  else f.stage (.out (a - 0xC000) mask v)
/-- Write a whole word. -/
def Fj.wr (a : Nat) (v : Word) (f : Fj) : Fj := f.wrMask a 0xFFFFFFFF v

/-- A memory word as a value of a 32-bit local (R244). -/
def loadAs (t : Ty) (w : Word) : Nat := match t with | .bool => b2n (w != 0) | .qual => w.toNat % 2 ^ 16 | _ => w.toNat

end Sys2Proof.Machine
end

