-- ==== Sys2Proof/Machine/Flags.lean ====
section
/-! DEFINITION. The flags of the Fjoask: the sticky exception flags of a task, and the saturation that sets OF (R281, R285).
The flags of each real operation stand with the operation, in Machine/Num.lean and Machine/Fp.lean. -/

namespace Sys2Proof.Machine
open Sys2Proof

/-- Set sticky flags; none clears (R285). -/
def Fj.flags (l : FFlags) (f : Fj) : Fj := { f with x := { f.x with flags := f.x.flags.or l } }

/-- Limits of an integer type (R281). -/
def limits (t : Ty) : Int × Int :=
  match t with
  | .int => (-(2 ^ 31), 2 ^ 31 - 1)
  | .time => (-(2 ^ 63), 2 ^ 63 - 1)
  | .qual => (0, 2 ^ 16 - 1)
  | _ => (0, 2 ^ 32 - 1)

/-- Deliver an exact result, saturated, with OF where it lies outside the type (R281). -/
def Fj.sat (d : Loc) (v : Int) (f : Fj) : Fj :=
  let l := limits (f.ty d)
  (f.setI d (clampI l.1 l.2 v)).flags { ovf := decide (v < l.1) || decide (l.2 < v) }

end Sys2Proof.Machine
end

