-- ==== Sys2Proof/Machine/Fj.lean ====
section
/-! DEFINITION. The Fjoask interpreter: the order of the checks, faults, and the
running of one instruction (12 and 13 of the spec, R241 to R254, R290). -/

namespace Sys2Proof.Machine
open Sys2Proof

/-! ### The order of the checks (R250) -/

/-- The steps ILL, RANGE and ACCESS; the first that fails decides, and a faulting instruction writes nothing.
DESIGN CHOICE (log 26). -/
def Fj.checks (ill range access : Bool) (f : Fj) (k : FjOut) : FjOut :=
  if ill then { f := f, fault := 1 } else if range then { f := f, fault := 2 } else if access then { f := f, fault := 3 } else k

/-- An instruction whose only check is step 1. DESIGN CHOICE (log 26). -/
def Fj.op (legal : Bool) (f : Fj) (k : Fj → Fj) : FjOut := f.checks (!legal) false false { f := k f }

/-- May the pair execute for slot `s`? Indexes 8 to 16 are the shadow runs of pairs 0 to 8, which a halt stops (R495, R497). -/
def Block.mayRun (b : Block) (s : Nat) : Bool :=
  decide (s < 8) ||
  (let p := b.pair (s - 8)
   p.state == .service || (p.state == .halted && match p.hreq with | some (st, _) => st | none => false))

/-- Is the instruction inside a LOCK section? DESIGN CHOICE (log 37). -/
def Fj.locked (f : Fj) : Bool := f.x.lockcnt != 0

/-- Is a task of higher priority than the running one ready, and no LOCK section defers it? The error task is never preempted
(R227). -/
def Fj.preempted (f : Fj) : Bool :=
  (f.c.ready.any fun r =>
    match f.img.tasks[r]? with | some d => d.kind == 1 || decide (d.prio < f.d.prio) | none => false) && f.d.kind != 1 && !f.locked

/-- Does a long instruction stop at its element boundary, for a task of higher priority or a halt (R271, R497)?
DESIGN CHOICE (log 42). -/
def Fj.wanted (f : Fj) : Bool := f.preempted || (!f.locked && f.halt)

/-- The running task of a slot, with what its instruction works on; none from the instruction boundary at which a task of
higher priority is ready until the task switch (R227). -/
def Block.fjNow (b : Block) (s : Nat) : Option Fj :=
  let y := b.slot s
  match y.img, y.cyc with
  | some i, some c =>
    match c.stack, c.active with
    | t :: _, true =>
      if !b.mayRun s then none else
      let f : Fj :=
           { slot := s, t := t, d := (i.tasks[t]?).getD {}, img := i, x := tget ctxD c.ctxs t, c := c,
             inH := y.inHalf, carried := y.last
             halt := decide (8 ≤ s) && (b.pair (s - 8)).hreq.isSome
             timers := (List.range i.timers.length).map fun k => match b.wheel.slotTimer (y.shadow.getD s) k with | some n => b.wheel.get n | none => {} }
      if f.preempted then none else some f
    | _, _ => none
  | _, _ => none

/-- The run ends: the task leaves the stack, and none executes until the next task switch (R227, R247). -/
def Cyc.endTask (t : Nat) (c : Cyc) : Cyc := { c with stack := c.stack.drop 1, active := false, ended := insNat t c.ended }

/-- The result of an instruction back into the slot: the next PC, or the fault record and the discarded staging (R250, R290,
R291). `lc` is LOCKCNT before the instruction. -/
def Block.fjPut (b : Block) (s len lc : Nat) (o : FjOut) : Block :=
  let f := o.f
  let put (x : Ctx) (c : Cyc) : Block :=
    let y := b.slot s
    b.putSlot s { y with cyc := some { c with ctxs := tset ctxD c.ctxs f.t x } }
  let pc := f.x.pc
  if o.fault ≠ 0 then
    let c := { f.c with staged := f.c.staged.filter fun z => z.1 != f.t, faulted := insNat f.t f.c.faulted }
    put { f.x with
      lockcnt := lc, fault := o.fault, trap := o.trap, fpc := pc, fprog := o.fprog
      pstate := (tget ctxD (b.slot s).ctxs f.t).pstate } (c.endTask f.t)
  else match o.pause with
    | some (k, ps) => put { f.x with prog := k, pstate := ps } f.c
    | none =>
      let x := { f.x with pc := o.jump.getD (pc + len), prog := 0 }
      put x (if o.ended then f.c.endTask f.t else f.c)

/-- PC, PROG, DEFERRED and the deferred count of a pair that has stopped (R497). -/
def Block.haltBytes (b : Block) (p : Nat) : List Byte :=
  let x : Ctx := match (b.slot (8 + p)).cyc with
    | some c => tget ctxD c.ctxs (c.stack.headD 0)
    | none => {}
  let n := (b.pair p).hcnt
  leBytes 4 x.pc ++ leBytes 2 x.prog ++ leBytes 1 (b2n (n != 0)) ++ leBytes 1 n

/-- The pair stops, and a HALT or STEP is answered (R497). DESIGN CHOICE (log 49). -/
def Block.haltNow (p : Nat) (b : Block) : Block :=
  let x := b.pair p
  let b1 := b.putPair p { x with state := .halted, hreq := none, hcnt := 0 }
  match x.hreq with
  | some (_, some r) => b1.ok r (b.haltBytes p)
  | _ => b1

/-- The boundary after an instruction of a shadow run: a breakpoint, a halt or the end of a step, each deferred inside a
LOCK section (R497). -/
def Block.debugAfter (s : Nat) (b : Block) : Block :=
  if s < 8 then b
  else
    let p := s - 8
    let x := b.pair p
    let locked := match (b.slot s).cyc with
      | some c => c.active && (tget ctxD c.ctxs (c.stack.headD 0)).lockcnt != 0
      | none => false
    let atBp := match (b.slot s).cyc with
      | some c => c.active && (List.range 4).any fun i => tget (fun _ => (none : Option Nat)) x.bps i == some (tget ctxD c.ctxs (c.stack.headD 0)).pc
      | none => false
    if locked then
      match x.hreq with
      | some (false, _) => b.putPair p { x with hcnt := x.hcnt + 1 }
      | _ => if atBp then b.putPair p { x with hreq := some (false, none) } else b
    else
      match x.hreq with
      | some (false, _) => (b.putPair p { x with hcnt := x.hcnt + 1 }).haltNow p
      | some (true, _) => b.haltNow p
      | none => if atBp then b.haltNow p else b

/-- One instruction of the running task of slot `s`: LOCKX, then the fetch of its bytes, then its own steps (R247, R250,
R254). Without a running task nothing happens. -/
def Block.fj (s len : Nat) (body : Fj → FjOut) (b : Block) : Block :=
  match b.fjNow s with
  | none => b
  | some f =>
    let lc := f.x.lockcnt
    let o : FjOut :=
      if lc = 64 then { f := f, fault := 5 }
      else if f.img.code < f.x.pc + len then { f := f, fault := 2 }
      else body { f with x := { f.x with lockcnt := if lc = 0 then 0 else lc + 1 } }
    (b.fjPut s len lc o).debugAfter s

/-! ### Flow, calls and LOCK sections (R252 to R254) -/

def fjEnd (f : Fj) : FjOut := f.checks f.locked false false { f := f, ended := true }
def fjTrap (k : BitVec 8) (f : Fj) : FjOut := { f := f, fault := 6, trap := k.toNat }
def fjIllegal (f : Fj) : FjOut := { f := f, fault := 1 }
/-- LOCK is the first instruction of its section (R254). DESIGN CHOICE (log 37). -/
def fjLock (f : Fj) : FjOut := f.checks f.locked false false { f := { f with x := { f.x with lockcnt := 1 } } }
def fjUnlock (f : Fj) : FjOut := f.checks (!f.locked) false false { f := { f with x := { f.x with lockcnt := 0 } } }

/-- A taken jump whose target must lie within the code (R253). -/
def Fj.jumpTo (f : Fj) (t : Int) : FjOut :=
  if 0 ≤ t ∧ t < f.img.code then { f := f, jump := some t.toNat } else { f := f, fault := 2 }
def fjJmp (r : BitVec 16) (len : Nat) (f : Fj) : FjOut := f.jumpTo ((f.x.pc + len : Nat) + r.toInt)
def fjJcc (want : Bool) (c : Loc) (r : BitVec 16) (f : Fj) : FjOut :=
  if !f.is [.bool] c then { f := f, fault := 1 } else if f.flag c == want then fjJmp r 4 f else { f := f }
def fjDjnz (u : Loc) (r : BitVec 16) (f : Fj) : FjOut :=
  if !f.is [.uint] u then { f := f, fault := 1 }
  else if f.val u = 0 then { f := f }
  else if f.val u = 1 then { f := f.set u 0 }
  else
    -- the range check comes before anything is written (R250)
    let o := fjJmp r 4 f
    if o.fault ≠ 0 then o else { o with f := f.set u (f.val u - 1) }
def fjCall (a : BitVec 24) (f : Fj) : FjOut :=
  if f.img.code ≤ a.toNat then { f := f, fault := 2 }
  else if 16 ≤ f.x.rstack.length then { f := f, fault := 4 }
  else { f := { f with x := { f.x with rstack := (f.x.pc + 4) :: f.x.rstack } }, jump := some a.toNat }
def fjRet (f : Fj) : FjOut :=
  match f.x.rstack with
  | [] => { f := f, fault := 4 }
  | p :: r => { f := { f with x := { f.x with rstack := r } }, jump := some p }

/-! ### Load, store and move (R255, R256) -/

def fjLd (d : Loc) (as_ : BitVec 16) (f : Fj) : FjOut := f.op (f.is tyW d) fun f => f.set d (loadAs (f.ty d) (f.rd as_.toNat))
def fjLd2 (d : Loc) (as_ : BitVec 16) (f : Fj) : FjOut :=
  let a := as_.toNat
  f.checks (!f.is tyD d) (!inArea a 0 2) false { f := f.set d ((f.rd a).toNat + 2 ^ 32 * (f.rd (a + 1)).toNat) }
def fjSt (ad : BitVec 16) (v : Loc) (f : Fj) : FjOut :=
  f.checks (!f.is tyW v) false (f.noWrite ad.toNat) { f := f.wr ad.toNat (f.word v) }
def fjSt2 (ad : BitVec 16) (v : Loc) (f : Fj) : FjOut :=
  let a := ad.toNat
  f.checks (!f.is tyD v) (!inArea a 0 2) (f.noWrite a || f.noWrite (a + 1))
    { f := (f.wr a (f.word v)).wr (a + 1) (BitVec.ofNat 32 (f.val v / 2 ^ 32)) }
def fjLdx (d : Loc) (as_ : BitVec 16) (i : Loc) (f : Fj) : FjOut :=
  let a := as_.toNat
  f.checks (!(f.is tyW d && f.is [.uint] i)) (!inArea a (f.val i) 1) false { f := f.set d (loadAs (f.ty d) (f.rd (a + f.val i))) }
def fjStx (ad : BitVec 16) (i v : Loc) (f : Fj) : FjOut :=
  let a := ad.toNat
  f.checks (!(f.is [.uint] i && f.is tyW v)) (!inArea a (f.val i) 1) (f.noWrite (a + f.val i)) { f := f.wr (a + f.val i) (f.word v) }
def fjLdb (d : Loc) (as_ : BitVec 16) (b5 : BitVec 8) (f : Fj) : FjOut :=
  f.op (f.is [.bool] d && decide (b5.toNat < 32)) fun f => f.setB d (bitOf (f.rd as_.toNat).toNat b5.toNat)
def fjStb (ad : BitVec 16) (b5 : BitVec 8) (v : Loc) (f : Fj) : FjOut :=
  f.checks (!(f.is [.bool] v && decide (b5.toNat < 32))) false (f.noWrite ad.toNat)
    { f := f.wrMask ad.toNat (2 ^ b5.toNat) (if f.flag v then 0xFFFFFFFF else 0) }
def fjMov (d a : Loc) (f : Fj) : FjOut := f.op (f.same tyAll [d, a]) fun f => f.set d (f.val a)
def fjLdk (d : Loc) (k : Word) (f : Fj) : FjOut :=
  f.op (f.is (.time :: tyW) d) fun f => if f.ty d = .time then f.setI d k.toInt else f.set d (loadAs (f.ty d) k)
def fjLdkh (d : Loc) (k : Word) (f : Fj) : FjOut :=
  f.op (f.is [.time] d) fun f => f.set d (f.val d % 2 ^ 32 + 2 ^ 32 * k.toNat)
def fjLdk8 (d : Loc) (k : BitVec 8) (f : Fj) : FjOut :=
  f.op (f.is (.time :: tyW) d && (f.ty d != .bool || decide (k.toNat < 2))) fun f =>
    match f.ty d with
    | .int => f.set d (ofSigned 32 k.toInt)
    | .time => f.setI d k.toInt
    | .real => f.setW d (intToF k.toInt 1).1
    | _ => f.set d k.toNat

/-! ### Integer (R257, R258, R281, R282) -/

def tyIUT : List Ty := [.int, .uint, .time]
def tyIU : List Ty := [.int, .uint]
def tyIT : List Ty := [.int, .time]
def tyIUQ : List Ty := [.int, .uint, .qual]

def fjInt3 (l : List Ty) (g : Int → Int → Int) (d a b : Loc) (f : Fj) : FjOut :=
  f.op (f.same l [d, a, b]) fun f => f.sat d (g (f.int a) (f.int b))
def fjDiv (d a b : Loc) (f : Fj) : FjOut :=
  f.op (f.same tyIU [d, a, b]) fun f =>
    if f.int b = 0 then
      let l := limits (f.ty d)
      (f.setI d (if f.int a = 0 then 0 else if f.int a < 0 then l.1 else l.2)).flags { dz := true }
    else f.sat d (Int.tdiv (f.int a) (f.int b))
def fjRem (d a b : Loc) (f : Fj) : FjOut :=
  f.op (f.same tyIU [d, a, b]) fun f =>
    if f.int b = 0 then (f.setI d (f.int a)).flags { dz := true } else f.setI d (Int.tmod (f.int a) (f.int b))
def fjNeg (d a : Loc) (f : Fj) : FjOut := f.op (f.same tyIT [d, a]) fun f => f.sat d (-(f.int a))
def fjAbs (d a : Loc) (f : Fj) : FjOut := f.op (f.same tyIT [d, a]) fun f => f.sat d (f.int a).natAbs
def fjBits (g : Nat → Nat → Nat) (d a b : Loc) (f : Fj) : FjOut :=
  f.op (f.same tyIUQ [d, a, b]) fun f => f.set d (g (f.val a) (f.val b))
/-- Width of a bit operand. -/
def widthOf (t : Ty) : Nat := if t = .qual then 16 else 32
def fjNot (d a : Loc) (f : Fj) : FjOut :=
  f.op (f.same tyIUQ [d, a]) fun f => f.set d (2 ^ widthOf (f.ty d) - 1 - f.val a)
def fjShl (d a b : Loc) (f : Fj) : FjOut :=
  f.op (f.same tyIUQ [d, a] && f.is [.uint] b) fun f =>
    f.set d (if widthOf (f.ty d) ≤ f.val b then 0 else f.val a * 2 ^ f.val b)
def fjShr (d a b : Loc) (f : Fj) : FjOut :=
  f.op (f.same tyIUQ [d, a] && f.is [.uint] b) fun f =>
    let n := if widthOf (f.ty d) ≤ f.val b then widthOf (f.ty d) else f.val b
    f.setI d (f.int a / (2 ^ n : Nat))
def fjAddk (d a : Loc) (k : BitVec 8) (f : Fj) : FjOut := f.op (f.same tyIUT [d, a]) fun f => f.sat d (f.int a + k.toInt)

/-! ### Real and conversion (R257 to R259) -/

def fjReal (g : Word → FRes) (d a : Loc) (f : Fj) : FjOut :=
  f.op (f.same [.real] [d, a]) fun f => let r := g (f.word a); (f.setW d r.1).flags r.2
def fjReal2 (g : Word → Word → FRes) (d a b : Loc) (f : Fj) : FjOut :=
  f.op (f.same [.real] [d, a, b]) fun f => let r := g (f.word a) (f.word b); (f.setW d r.1).flags r.2
def fjFma (d a b c : Loc) (f : Fj) : FjOut :=
  f.op (f.same [.real] [d, a, b, c]) fun f => let r := fMa (f.word a) (f.word b) (f.word c); (f.setW d r.1).flags r.2

/-- CVT (R259, R287). -/
def fjCvt (d a : Loc) (f : Fj) : FjOut :=
  let toR (k : Nat) : Fj := let r := intToF (f.int a) k; (f.setW d r.1).flags r.2
  let ofR (k : Nat) : Fj := let l := limits (f.ty d); let r := fToInt l.1 l.2 k (f.word a); (f.setI d r.1).flags r.2
  if !(f.is tyAll d && f.is tyAll a) then { f := f, fault := 1 }
  else match f.ty a, f.ty d with
    | .int, .real | .uint, .real => { f := toR 1 }
    | .time, .real => { f := toR 1000000000 }
    | .real, .int | .real, .uint => { f := ofR 1 }
    | .real, .time => { f := ofR 1000000000 }
    | .int, .uint | .uint, .int => { f := f.sat d (f.int a) }
    | .bool, .int | .bool, .uint => { f := f.set d (f.val a) }
    | .int, .bool | .uint, .bool => { f := f.setB d (f.val a != 0) }
    | _, _ => { f := f, fault := 1 }

/-! ### Compare, boolean and edge (R260, R261) -/

def fjCmp (d a b : Loc) (cond : BitVec 8) (f : Fj) : FjOut :=
  let c := cond.toNat
  let eqOnly := f.ty a == .qual || f.ty a == .bool
  f.op (f.is [.bool] d && f.same [.int, .uint, .real, .time, .qual, .bool] [a, b] && decide (c ≤ 5) && (!eqOnly || decide (c ≤ 1))) fun f =>
    if f.ty a = .real then
      let r := fCompare c (f.word a) (f.word b)
      (f.setB d r.1).flags { iv := r.2 }
    else
      let x := f.int a
      let y := f.int b
      f.setB d (match c with
        | 0 => x == y | 1 => x != y | 2 => decide (x < y) | 3 => decide (x ≤ y) | 4 => decide (y < x) | _ => decide (y ≤ x))
def fjBool (g : Bool → Bool → Bool) (d a b : Loc) (f : Fj) : FjOut :=
  f.op (f.same [.bool] [d, a, b]) fun f => f.setB d (g (f.flag a) (f.flag b))
def fjBnot (d a : Loc) (f : Fj) : FjOut := f.op (f.same [.bool] [d, a]) fun f => f.setB d (!f.flag a)
def fjSel (d c a b : Loc) (f : Fj) : FjOut :=
  f.op (f.is [.bool] c && f.same tyAll [d, a, b]) fun f => f.set d (if f.flag c then f.val a else f.val b)
def fjLim (d a lo hi : Loc) (f : Fj) : FjOut :=
  f.op (f.same [.int, .uint, .real, .time] [d, a, lo, hi]) fun f =>
    if f.ty d = .real then
      let x := fMinMax true (f.word a) (f.word lo)
      let y := fMinMax false x.1 (f.word hi)
      (f.setW d y.1).flags (x.2.or y.2)
    else f.setI d (min (max (f.int a) (f.int lo)) (f.int hi))
def fjTstq (d q : Loc) (k : BitVec 16) (f : Fj) : FjOut :=
  f.op (f.is [.bool] d && f.is [.qual] q) fun f => f.setB d (Nat.land (f.val q) k.toNat != 0)
/-- The edge instructions: the state is written first, so that a shared local keeps the result (R261). -/
def fjEdge (g : Bool → Bool → Bool) (d a s : Loc) (f : Fj) : FjOut :=
  f.op (f.same [.bool] [d, a, s]) fun f => (f.setB s (f.flag a)).setB d (g (f.flag a) (f.flag s))
def fjLatch (setDominant : Bool) (q s r : Loc) (f : Fj) : FjOut :=
  f.op (f.same [.bool] [q, s, r]) fun f =>
    f.setB q (if setDominant then f.flag s || (f.flag q && !f.flag r) else !f.flag r && (f.flag s || f.flag q))

/-! ### Timers, time and counters (R262, R263) -/

/-- t_E of the cycle, ns (R195). -/
def Fj.te (f : Fj) : Nat := f.c.e * 31250

/-- A timer as the task reads it: the committed state with the task's own staged operations (R195). -/
def Fj.timer (f : Fj) (i : Nat) : Timer :=
  (f.c.staged.foldl (fun (t : Timer) s =>
    if s.1 = f.t then match s.2 with | .timer k o => if k = i then (t.lapse f.te).op o else t | _ => t else t)
    (f.timers.getD i {})).lapse f.te

/-- Declared mode of a timer: 1 ONESHOT, 2 PERIODIC, 3 STOPWATCH. -/
def Fj.tmode (f : Fj) (i : Nat) : Nat := ((f.img.timers[i]?).map (·.1)).getD 0
/-- ILL for a timer operation of another mode than declared; an index outside is RANGE (R263). DEDUCED (log 38). -/
def Fj.tIll (f : Fj) (i mode : Nat) : Bool := decide (i < f.img.timers.length) && f.tmode i != mode
def Fj.tOut (f : Fj) (i : Nat) : Bool := decide (f.img.timers.length ≤ i)

/-- ns rounded up to µs, at most 2^48 − 1 (R191). -/
def usOf (n : Nat) : Nat := satN durMax ((n + 999) / 1000)

def fjTstart (t : BitVec 16) (a : Loc) (f : Fj) : FjOut :=
  let i := t.toNat
  f.checks (!f.is [.time] a || f.tIll i 1) (f.tOut i || decide (f.int a < 0)) false
    { f := f.stage (.timer i (.start f.te (usOf (f.int a).toNat))) }
def fjTstartp (t : BitVec 16) (a : Loc) (f : Fj) : FjOut :=
  let i := t.toNat
  let p := usOf (f.int a).toNat
  f.checks (!f.is [.time] a || f.tIll i 2) (f.tOut i || decide (f.int a ≤ 0) || decide (2 ^ 32 ≤ p)) false
    { f := f.stage (.timer i (.startP f.te p)) }
def fjTstartw (t : BitVec 16) (f : Fj) : FjOut :=
  f.checks (f.tIll t.toNat 3) (f.tOut t.toNat) false { f := f.stage (.timer t.toNat (.startW f.te)) }
def fjTcancel (t : BitVec 16) (f : Fj) : FjOut :=
  f.checks false (f.tOut t.toNat) false { f := f.stage (.timer t.toNat .cancel) }
/-- DEDUCED (log 38). -/
def fjTpause (t : BitVec 16) (a : Loc) (f : Fj) : FjOut :=
  let i := t.toNat
  f.checks (!f.is [.time] a || f.tIll i 1) (f.tOut i || decide (f.int a < 0)) false
    { f := f.stage (.timer i (.pause f.te (usOf (f.int a).toNat))) }
def fjTresume (t : BitVec 16) (f : Fj) : FjOut :=
  f.checks (f.tIll t.toNat 1) (f.tOut t.toNat) false { f := f.stage (.timer t.toNat (.resume f.te)) }

/-- REMAIN and SINCE of a timer at t_E (R263). DEDUCED (log 54). -/
def Timer.remainAt (te : Nat) (t : Timer) : Nat :=
  if t.paused then t.remain
  else if t.due te then 0
  else match t.mode with | .oneshot => t.x - te | .periodic => t.start + t.period * 1000 - te | _ => 0
def Timer.sinceAt (te : Nat) (t : Timer) : Nat :=
  if t.paused then 0
  else match t.mode with
    | .idle => 0 | .oneshot => if t.due te then 0 else te - t.start | _ => te - t.start

/-- DEDUCED (log 54). -/
def fjTread (d : Loc) (t : BitVec 16) (sel : BitVec 8) (f : Fj) : FjOut :=
  let i := t.toNat
  let s := sel.toNat
  let want : List Ty := if s = 0 then [.bool] else if s ≤ 2 then [.time] else [.uint]
  let x := f.timer i
  f.checks (decide (4 < s) || !f.is want d) (f.tOut i) false { f :=
    (match s with
     | 0 => f.setB d (x.due f.te)
     | 1 => f.set d (x.remainAt f.te)
     | 2 => f.set d (x.sinceAt f.te)
     | 3 => f.set d (satN 0xFFFFFFFF (x.count f.te))
     | _ => f.set d (x.mode.code + 4 * b2n x.paused)) }

/-- TON (R263). -/
def fjTon (d : Loc) (t : BitVec 16) (i p : Loc) (f : Fj) : FjOut :=
  let k := t.toNat
  f.checks (!(f.is [.bool] d && f.is [.bool] i && f.is [.time] p) || f.tIll k 1) (f.tOut k || decide (f.int p < 0)) false { f :=
    (if !f.flag i then (f.stage (.timer k .cancel)).setB d false
     else
       let x := f.timer k
       let g := if x.mode = .idle then f.stage (.timer k (.start f.te (usOf (f.int p).toNat))) else f
       g.setB d ((g.timer k).due f.te)) }

def fjTnow (d : Loc) (f : Fj) : FjOut := f.op (f.is [.time] d) fun f => f.set d f.te
/-- WNOW: TWALL of the input half's header (R263, R296). -/
def fjWnow (d : Loc) (f : Fj) : FjOut :=
  f.op (f.is [.time] d) fun f => f.set d ((tget wzD f.inH 4).toNat + 2 ^ 32 * (tget wzD f.inH 5).toNat)
def fjCount (up : Bool) (c i s : Loc) (f : Fj) : FjOut :=
  f.op (f.is [.uint] c && f.is [.bool] i && f.is [.bool] s) fun f =>
    let g := f.setB s (f.flag i)
    if f.flag i && !f.flag s then g.sat c (if up then (f.val c : Int) + 1 else (f.val c : Int) - 1) else g

/-! ### Long instructions (R264 to R271) -/

/-- Elements from `k` to `n − 1`, with the boundary check after each (R271). `p` is PSTATE. DESIGN CHOICE (log 36, 42). -/
def fjElems (body : Fj → Nat → Nat → Nat × Fj × Nat) (fin_ : Fj → Nat → Fj) (fuel k n : Nat) (f : Fj) (p : Nat) : FjOut :=
  match fuel with
  | 0 => { f := fin_ f p }
  | m + 1 =>
    if n ≤ k then { f := fin_ f p }
    else
      let r := body f k p
      if r.1 ≠ 0 then { f := f, fault := r.1, fprog := k }
      else if k + 1 < n && r.2.1.wanted then { f := r.2.1, pause := some (k + 1, BitVec.ofNat 64 r.2.2) }
      else fjElems body fin_ m (k + 1) n r.2.1 r.2.2

/-- A long instruction after its checks: it begins at PROG, with PSTATE where it was interrupted. DESIGN CHOICE (log 36). -/
def Fj.long (n : Nat) (body : Fj → Nat → Nat → Nat × Fj × Nat) (fin_ : Fj → Nat → Fj) (f : Fj) : FjOut :=
  fjElems body fin_ n f.x.prog n f (if f.x.prog = 0 then 0 else f.x.pstate.toNat)

/-- N, KIND, BOUND of an index list, none for a RANGE fault (R265). DESIGN CHOICE (log 36). -/
def Fj.header (f : Fj) (ax : Nat) (scat : Bool) : Option (Nat × Nat × Nat) :=
  let h := (f.rd ax).toNat
  let n := bits h 4 0
  let kind := bits h 15 8
  let bound := bits h 31 16
  if n = 0 ∨ 16 < n ∨ 1 < kind ∨ (scat ∧ kind = 1) ∨ bits h 7 5 ≠ 0 ∨ bound = 0 ∨ !inArea ax 0 (n + 1) then none
  else some (n, kind, bound)

/-- Any of `n` words from `a` refuses a write. -/
def Fj.noWrites (f : Fj) (a n : Nat) : Bool := (List.range n).any fun i => f.noWrite (a + i)

def fjGath (m : Loc) (ad as_ ax : BitVec 16) (f : Fj) : FjOut :=
  let a := ad.toNat
  let s := as_.toNat
  let x := ax.toNat
  let h := f.header x false
  let n := (h.map (·.1)).getD 0
  let kind := (h.map (·.2.1)).getD 0
  let bound := (h.map (·.2.2)).getD 0
  let cnt := if kind = 1 then 2 * n else n
  f.checks (!f.is [.uint] m || f.locked) (h.isNone || !inArea a 0 cnt) (f.noWrites a cnt)
    (f.long n (fun f i p =>
      let idx := (f.rd (x + 1 + i)).toNat
      let w := kind + 1
      if bound ≤ idx ∨ !inArea s (w * idx) w then (2, f, p)
      else
        let g := f.wr (a + i) (f.rd (s + w * idx))
        if kind = 0 then (0, g, p)
        else
          let q := f.rd (s + 2 * idx + 1)
          let bad := !bitOf q.toNat 0 || bitOf q.toNat 6 || bitOf q.toNat 7
          (0, g.wr (a + n + i) q, if bad then Nat.lor p (2 ^ i) else p))
      (fun f p => f.set m (p % 2 ^ 16)))

def fjScat (ad as_ ax : BitVec 16) (f : Fj) : FjOut :=
  let a := ad.toNat
  let s := as_.toNat
  let x := ax.toNat
  let h := f.header x true
  let n := (h.map (·.1)).getD 0
  let bound := (h.map (·.2.2)).getD 0
  f.checks f.locked (h.isNone || !inArea s 0 n) (decide (0x8000 ≤ a ∧ a < 0xC000))
    (f.long n (fun f i p =>
      let idx := (f.rd (x + 1 + i)).toNat
      if bound ≤ idx ∨ !inArea a idx 1 then (2, f, p)
      else if f.noWrite (a + idx) then (3, f, p)
      else (0, f.wr (a + idx) (f.rd (s + i)), p))
      (fun f _ => f))

/-- A count byte in which 0 means 256 (R264). -/
def n256 (n : BitVec 8) : Nat := if n = 0 then 256 else n.toNat

def fjBmov (ad as_ : BitVec 16) (n8 : BitVec 8) (f : Fj) : FjOut :=
  let a := ad.toNat
  let s := as_.toNat
  let n := n256 n8
  f.checks f.locked (!inArea a 0 n || !inArea s 0 n) (f.noWrites a n)
    (f.long n (fun f i p =>
      let k := if a ≤ s then i else n - 1 - i
      (0, f.wr (a + k) (f.rd (s + k)), p)) (fun f _ => f))

def fjSumv (d : Loc) (as_ : BitVec 16) (n8 : BitVec 8) (f : Fj) : FjOut :=
  let s := as_.toNat
  let n := n256 n8
  f.checks (!f.is [.real] d || f.locked) (!inArea s 0 n) false
    (f.long n (fun f i p =>
      let w := f.rd (s + i)
      if i = 0 then (0, f, w.toNat)
      else let r := fAdd (BitVec.ofNat 32 p) w; (0, f.flags r.2, r.1.toNat)) (fun f p => f.set d p))

/-- The points of a CURV table (R269). -/
def Fj.curvPts (f : Fj) (at_ n : Nat) : List (Word × Word) :=
  (List.range n).map fun k => (f.rd (at_ + 2 + 2 * k), f.rd (at_ + 3 + 2 * k))

/-- KIND, TMS and points of a CURV table; none for a RANGE fault (R269). -/
def Fj.curvTable (f : Fj) (at_ : Nat) : Option (Nat × Word × List (Word × Word)) :=
  if !inArea at_ 0 2 then none
  else
    let w := (f.rd at_).toNat
    let n := bits w 7 0
    let kind := bits w 15 8
    let tms := f.rd (at_ + 1)
    if bits w 31 16 ≠ 0 ∨ kind = 1 ∨ 7 < kind then none
    else if kind ≠ 0 then (if n = 0 then some (kind, tms, []) else none)
    else if n < 2 ∨ 32 < n ∨ !inArea at_ 2 (2 * n) then none
    else
      let pts := f.curvPts at_ n
      if ptsOk pts then some (0, tms, pts) else none

/-- TMS × n/d rounded once; a NaN or infinite TMS by the rules of a product (R283, R284). -/
def tmsMul (tms : Word) (n d : Nat) : FRes :=
  match nanOf [tms] with
  | some r => r
  | none =>
    if isInf tms then (if n = 0 then invalid else (tms, {}))
    else
      let v := fin149 tms
      if v = 0 ∨ n = 0 then (zeroW (sgnOf tms), {}) else roundR (sgnOf tms) (v.natAbs * n) (2 ^ 149 * d)

/-- A positive finite word as a fraction. -/
def posQ (w : Word) : Nat × Nat := ((fin149 w).natAbs, 2 ^ 149)

/-- T on the user points, with TMS, rounded once (R158, R269, R273). -/
def curvUser (tms m : Word) (pts : List (Word × Word)) : FRes :=
  match pts with
  | [] => (infW false, {})
  | [x] => tmsMul tms (fin149 x.2).natAbs (2 ^ 149)
  | x :: y :: r =>
    if m = x.1 then tmsMul tms (fin149 x.2).natAbs (2 ^ 149)
    else if fLess m y.1 then
      let t := logLine (posQ x.1) (posQ x.2) (posQ y.1) (posQ y.2) (posQ m)
      tmsMul tms t.1 t.2
    else curvUser tms m (y :: r)

/-- One value of CURV: TMS × T(M) rounded once (R156, R158, R269, R273). -/
def curvOf (kind : Nat) (tms m : Word) (pts : List (Word × Word)) : FRes :=
  if isNaN m then (quiet m, { iv := true })
  else if kind = 0 then (if (match pts with | x :: _ => fLess m x.1 | [] => true) then (infW false, {}) else curvUser tms m pts)
  else if fLess m 0x3F800001 then (infW false, {})
  else
    let c := curveK kind
    if isInf m then tmsMul tms c.2.1 10000
    else
      let v := (fin149 m).natAbs
      let u := 2 ^ 149
      let x : Nat × Nat :=
        if c.2.2.1 = 0 then (pow002 v u - rOne, rOne) else if c.2.2.1 = 1 then (v - u, u) else (v * v - u * u, u * u)
      tmsMul tms (c.1 * x.2 + c.2.1 * x.1) (10000 * x.1)

def fjCurv (ad as_ at_ : BitVec 16) (n8 : BitVec 8) (f : Fj) : FjOut :=
  let a := ad.toNat
  let s := as_.toNat
  let n := n8.toNat
  let t := f.curvTable at_.toNat
  f.checks f.locked (n = 0 || decide (64 < n) || !inArea a 0 n || !inArea s 0 n || t.isNone) (f.noWrites a n)
    (f.long n (fun f i p =>
      let y := (f.curvTable at_.toNat).orElse fun _ => t
      let r := match y with | some z => curvOf z.1 z.2.1 (f.rd (s + i)) z.2.2 | none => (0, {})
      (0, (f.wr (a + i) r.1).flags r.2, p)) (fun f _ => f))

end Sys2Proof.Machine
end

