-- ==== Sys2Proof/Machine/FjTask.lean ====
section
/-! DEFINITION. The pages 0xF0 and 0xF1 of Fjoask code: phasors and functions, task control, fast counters, control objects
and events (12 of the spec, R272 to R278). -/

namespace Sys2Proof.Machine
open Sys2Proof

/-! ### Page 0xF0 (R272, R273) -/

def fjPmake (d re im : Loc) (f : Fj) : FjOut :=
  f.op (f.is [.phasor] d && f.same [.real] [re, im]) fun f => f.setPh d (f.word re, f.word im)
def fjPpol (d m g : Loc) (f : Fj) : FjOut :=
  f.op (f.is [.phasor] d && f.same [.real] [m, g]) fun f =>
    let r := pPol (f.word m) (f.word g)
    (f.setPh d r.1).flags r.2
def fjPart (im : Bool) (d a : Loc) (f : Fj) : FjOut :=
  f.op (f.is [.real] d && f.is [.phasor] a) fun f => f.setW d (if im then (f.ph a).2 else (f.ph a).1)
/-- PMAG and PANG. -/
def fjPreal (g : Ph → FRes) (d a : Loc) (f : Fj) : FjOut :=
  f.op (f.is [.real] d && f.is [.phasor] a) fun f => let r := g (f.ph a); (f.setW d r.1).flags r.2
def fjPh2 (g : Ph → Ph → Ph × FFlags) (d a b : Loc) (f : Fj) : FjOut :=
  f.op (f.same [.phasor] [d, a, b]) fun f => let r := g (f.ph a) (f.ph b); (f.setPh d r.1).flags r.2
def fjPconj (d a : Loc) (f : Fj) : FjOut :=
  f.op (f.same [.phasor] [d, a]) fun f => f.setPh d ((f.ph a).1, fNeg (f.ph a).2)
/-- PSCL and PROT. -/
def fjPhR (g : Ph → Word → Ph × FFlags) (d a r : Loc) (f : Fj) : FjOut :=
  f.op (f.same [.phasor] [d, a] && f.is [.real] r) fun f => let y := g (f.ph a) (f.word r); (f.setPh d y.1).flags y.2
def fjPseq (d a b c : Loc) (k : BitVec 8) (f : Fj) : FjOut :=
  let n := k.toNat
  f.op (f.same [.phasor] [d, a, b, c] && decide (n < 8) && decide (n % 4 ≠ 3)) fun f =>
    let r := pSeq (n % 4) (bitOf n 2) (f.ph a) (f.ph b) (f.ph c)
    (f.setPh d r.1).flags r.2

/-! ### Page 0xF1 (R274 to R278) -/

/-- FLAGS as a word (R246). -/
def FFlags.word (l : FFlags) : Nat := bitsOf [l.iv, l.dz, l.ovf, l.uf, l.nx]

def fjFlgrd (d : Loc) (f : Fj) : FjOut := f.op (f.is [.uint] d) fun f => f.set d f.x.flags.word
def fjFlgclr (k : BitVec 8) (f : Fj) : FjOut :=
  f.op (decide (k.toNat < 32)) fun f =>
    let m := flagsOf k.toNat
    let l := f.x.flags
    { f with x := { f.x with flags :=
      { iv := l.iv && !m.iv, dz := l.dz && !m.dz, ovf := l.ovf && !m.ovf, uf := l.uf && !m.uf, nx := l.nx && !m.nx } } }

/-- The kind of a task of the table. -/
def Fj.kindOf (f : Fj) (k : Nat) : Option Nat := (f.img.tasks[k]?).map (·.kind)

/-- TENA and TDIS (R275). -/
def fjTask (on : Bool) (k : BitVec 8) (f : Fj) : FjOut :=
  let t := f.kindOf k.toNat
  f.checks false (t.isNone || t == some 1) false { f := f.stage (if on then .tena k.toNat else .tdis k.toNat) }

/-- TKICK: it acts at once; a kick of a task running or ended in this cycle latches for the next (R275). Kicks are not among the triggers
that a repetition takes over, since the repetition kicks again (R233, R289). -/
def fjTkick (k : BitVec 8) (f : Fj) : FjOut :=
  let t := k.toNat
  let wall := (tget wzD f.inH 4).toNat + 2 ^ 32 * (tget wzD f.inH 5).toNat
  let q := (tget wzD f.inH 6).toNat % 2 ^ 16
  let add (o : Trig) : Trig := if o.count = 0 then { source := 0xFFFFFFFF, count := 1, wall := wall, qual := q } else { o with count := o.count + 1 }
  f.checks false (f.kindOf t != some 2) false { f := { f with c :=
    (if t ∈ f.c.ended ∨ t ∈ f.c.stack ∨ (tget ctxD f.c.ctxs t).off then { f.c with kicks := tupd trigD f.c.kicks t add }
     else { f.c with ready := insNat t f.c.ready, due := tupd trigD f.c.due t add }) } }

def fjFrec (d : Loc) (k sel : BitVec 8) (f : Fj) : FjOut :=
  let x := if k.toNat = f.t then f.x else tget ctxD f.c.ctxs k.toNat
  f.checks (!f.is [.uint] d || decide (3 < sel.toNat)) (f.kindOf k.toNat).isNone false
    { f := f.set d (match sel.toNat with | 0 => x.fault | 1 => x.fpc | 2 => x.fprog | _ => x.trap) }

/-- FCRD: COUNT or STAMP of a fast counter from the input half (R276, R295). -/
def fjFcrd (d : Loc) (k sel : BitVec 8) (f : Fj) : FjOut :=
  let n := k.toNat
  let o := 0x18 + 4 * n
  f.op (decide (n < 8) && ((sel == 0 && f.is [.uint] d) || (sel == 1 && f.is [.time] d))) fun f =>
    if sel = 0 then f.setW d (tget wzD f.inH o)
    else f.set d ((tget wzD f.inH (o + 2)).toNat + 2 ^ 32 * (tget wzD f.inH (o + 3)).toNat)
def fjFcset (k : BitVec 8) (a : Loc) (f : Fj) : FjOut :=
  f.checks (!(decide (k.toNat < 8) && f.is [.uint] a)) false (!bitOf f.img.counters k.toNat) { f := f.stage (.fcset k.toNat (f.val a)) }
def fjFcclr (k : BitVec 8) (f : Fj) : FjOut :=
  f.checks (!decide (k.toNat < 8)) false (!bitOf f.img.counters k.toNat) { f := f.stage (.fcclr k.toNat) }

/-- The client word and authority of an object, its value (R277, R443). -/
def CtlObj.client (o : CtlObj) : Option Nat :=
  match o.state with
  | .idle => none
  | .selected c _ k _ _ => some (c + 256 * k)
  | .pending c _ k _ _ _ _ _ => some (c + 256 * k)
def CtlObj.auth (o : CtlObj) : Option Nat :=
  match o.state with | .idle => none | .selected _ a _ _ _ => some a | .pending _ a _ _ _ _ _ _ => some a
def CtlObj.value (o : CtlObj) : Option Nat :=
  match o.state with | .idle => none | .selected _ _ _ v _ => some v | .pending _ _ _ v _ _ _ _ => some v
/-- A control object as it stands: a selection past its lapse epoch has returned to IDLE (R442). -/
def CtlObj.at (e : Nat) (o : CtlObj) : CtlObj :=
  match o.state with
  | .selected _ _ _ _ l => if l ≤ e then { o with state := .idle } else o
  | _ => o

def CtlObj.isPending (o : CtlObj) : Bool := match o.state with | .pending .. => true | _ => false
def CtlObj.isSelected (o : CtlObj) : Bool := match o.state with | .selected .. => true | _ => false

/-- CTLRD: the object as it stood at READ-IN (R277, R443). DESIGN CHOICE (log 39). -/
def fjCtlrd (d : Loc) (o sel : BitVec 8) (f : Fj) : FjOut :=
  let s := sel.toNat
  let x := tget ctlD f.c.objs o.toNat
  let free (v : Option Nat) : Nat := v.getD (Config.ctlIdle s).toNat
  f.checks (decide (5 < s) || !f.is (if s = 0 ∨ s = 5 then [.bool] else [.uint]) d) (decide (f.img.objs.length ≤ o.toNat)) false { f :=
    (match s with
     | 0 => f.setB d x.isPending
     | 1 => f.set d (free x.value)
     | 2 => f.set d (free x.client)
     | 3 => f.set d (free x.auth)
     | 4 => f.set d x.result
     | _ => f.setB d x.isSelected) }
def fjCtlack (o : BitVec 8) (a : Loc) (f : Fj) : FjOut :=
  f.checks (!f.is [.uint] a) (decide (f.img.objs.length ≤ o.toNat)) false { f := f.stage (.ack o.toNat (f.val a)) }
def fjCtlop (o : BitVec 8) (a : Loc) (cls : BitVec 8) (f : Fj) : FjOut :=
  f.checks (!f.is [.bool, .uint] a || decide (3 < cls.toNat)) (decide (f.img.objs.length ≤ o.toNat)) false
    { f := f.stage (.ctlop o.toNat (f.val a) cls.toNat) }
def fjEvt (a : Loc) (k : BitVec 8) (f : Fj) : FjOut := f.op (f.is [.uint] a) fun f => f.stage (.evt (f.val a) k.toNat)

end Sys2Proof.Machine
end

