-- ==== Sys2Proof/Machine/FjExec.lean ====
section
/-! DEFINITION. The Fjoask instructions: each runs as the next instruction of the task that executes on the slot named, with
its length in bytes (12 of the spec, R248, R252 to R278). The operands are the instruction's own bytes after the opcode. -/

namespace Sys2Proof.Machine
open Sys2Proof

/-- An undefined opcode is ILL with length 1, an undefined second byte of an escape page with length 2 (R249, R250). -/
def execFjIllegalOpcode (slot : Nat) (escape : Bool) (s : State) : Out :=
  s.done (s.blk.fj slot (if escape then 2 else 1) fjIllegal)
def execFjNop (slot : Nat) (s : State) : Out := s.done (s.blk.fj slot 1 (fun f => { f := f }))
def execFjEnd (slot : Nat) (s : State) : Out := s.done (s.blk.fj slot 1 fjEnd)
def execFjTrap (slot : Nat) (k : BitVec 8) (s : State) : Out := s.done (s.blk.fj slot 2 (fjTrap k))
def execFjLock (slot : Nat) (s : State) : Out := s.done (s.blk.fj slot 1 fjLock)
def execFjUnlock (slot : Nat) (s : State) : Out := s.done (s.blk.fj slot 1 fjUnlock)
def execFjCall (slot : Nat) (a : BitVec 24) (s : State) : Out := s.done (s.blk.fj slot 4 (fjCall a))
def execFjRet (slot : Nat) (s : State) : Out := s.done (s.blk.fj slot 1 fjRet)
def execFjJmp (slot : Nat) (r : BitVec 16) (s : State) : Out := s.done (s.blk.fj slot 3 (fjJmp r 3))
def execFjJt (slot : Nat) (c : Loc) (r : BitVec 16) (s : State) : Out := s.done (s.blk.fj slot 4 (fjJcc true c r))
def execFjJf (slot : Nat) (c : Loc) (r : BitVec 16) (s : State) : Out := s.done (s.blk.fj slot 4 (fjJcc false c r))
def execFjDjnz (slot : Nat) (u : Loc) (r : BitVec 16) (s : State) : Out := s.done (s.blk.fj slot 4 (fjDjnz u r))
def execFjLd (slot : Nat) (d : Loc) (as_ : BitVec 16) (s : State) : Out := s.done (s.blk.fj slot 4 (fjLd d as_))
def execFjLd2 (slot : Nat) (d : Loc) (as_ : BitVec 16) (s : State) : Out := s.done (s.blk.fj slot 4 (fjLd2 d as_))
def execFjSt (slot : Nat) (ad : BitVec 16) (v : Loc) (s : State) : Out := s.done (s.blk.fj slot 4 (fjSt ad v))
def execFjSt2 (slot : Nat) (ad : BitVec 16) (v : Loc) (s : State) : Out := s.done (s.blk.fj slot 4 (fjSt2 ad v))
def execFjLdx (slot : Nat) (d : Loc) (as_ : BitVec 16) (i : Loc) (s : State) : Out := s.done (s.blk.fj slot 5 (fjLdx d as_ i))
def execFjStx (slot : Nat) (ad : BitVec 16) (i : Loc) (v : Loc) (s : State) : Out := s.done (s.blk.fj slot 5 (fjStx ad i v))
def execFjLdb (slot : Nat) (d : Loc) (as_ : BitVec 16) (b5 : BitVec 8) (s : State) : Out := s.done (s.blk.fj slot 5 (fjLdb d as_ b5))
def execFjStb (slot : Nat) (ad : BitVec 16) (b5 : BitVec 8) (v : Loc) (s : State) : Out := s.done (s.blk.fj slot 5 (fjStb ad b5 v))
def execFjMov (slot : Nat) (d : Loc) (a : Loc) (s : State) : Out := s.done (s.blk.fj slot 3 (fjMov d a))
def execFjLdk (slot : Nat) (d : Loc) (k : Word) (s : State) : Out := s.done (s.blk.fj slot 6 (fjLdk d k))
def execFjLdk8 (slot : Nat) (d : Loc) (k : BitVec 8) (s : State) : Out := s.done (s.blk.fj slot 3 (fjLdk8 d k))
def execFjLdkh (slot : Nat) (d : Loc) (k : Word) (s : State) : Out := s.done (s.blk.fj slot 6 (fjLdkh d k))
def execFjAdd (slot : Nat) (d : Loc) (a : Loc) (b : Loc) (s : State) : Out := s.done (s.blk.fj slot 4 (fjInt3 tyIUT (· + ·) d a b))
def execFjSub (slot : Nat) (d : Loc) (a : Loc) (b : Loc) (s : State) : Out := s.done (s.blk.fj slot 4 (fjInt3 tyIUT (· - ·) d a b))
def execFjMul (slot : Nat) (d : Loc) (a : Loc) (b : Loc) (s : State) : Out := s.done (s.blk.fj slot 4 (fjInt3 tyIU (· * ·) d a b))
def execFjDiv (slot : Nat) (d : Loc) (a : Loc) (b : Loc) (s : State) : Out := s.done (s.blk.fj slot 4 (fjDiv d a b))
def execFjRem (slot : Nat) (d : Loc) (a : Loc) (b : Loc) (s : State) : Out := s.done (s.blk.fj slot 4 (fjRem d a b))
def execFjNeg (slot : Nat) (d : Loc) (a : Loc) (s : State) : Out := s.done (s.blk.fj slot 3 (fjNeg d a))
def execFjAbs (slot : Nat) (d : Loc) (a : Loc) (s : State) : Out := s.done (s.blk.fj slot 3 (fjAbs d a))
def execFjMin (slot : Nat) (d : Loc) (a : Loc) (b : Loc) (s : State) : Out := s.done (s.blk.fj slot 4 (fjInt3 tyIUT min d a b))
def execFjMax (slot : Nat) (d : Loc) (a : Loc) (b : Loc) (s : State) : Out := s.done (s.blk.fj slot 4 (fjInt3 tyIUT max d a b))
def execFjAnd (slot : Nat) (d : Loc) (a : Loc) (b : Loc) (s : State) : Out := s.done (s.blk.fj slot 4 (fjBits Nat.land d a b))
def execFjOr (slot : Nat) (d : Loc) (a : Loc) (b : Loc) (s : State) : Out := s.done (s.blk.fj slot 4 (fjBits Nat.lor d a b))
def execFjXor (slot : Nat) (d : Loc) (a : Loc) (b : Loc) (s : State) : Out := s.done (s.blk.fj slot 4 (fjBits Nat.xor d a b))
def execFjNot (slot : Nat) (d : Loc) (a : Loc) (s : State) : Out := s.done (s.blk.fj slot 3 (fjNot d a))
def execFjShl (slot : Nat) (d : Loc) (a : Loc) (b : Loc) (s : State) : Out := s.done (s.blk.fj slot 4 (fjShl d a b))
def execFjShr (slot : Nat) (d : Loc) (a : Loc) (b : Loc) (s : State) : Out := s.done (s.blk.fj slot 4 (fjShr d a b))
def execFjAddk (slot : Nat) (d : Loc) (a : Loc) (k : BitVec 8) (s : State) : Out := s.done (s.blk.fj slot 4 (fjAddk d a k))
def execFjFadd (slot : Nat) (d : Loc) (a : Loc) (b : Loc) (s : State) : Out := s.done (s.blk.fj slot 4 (fjReal2 fAdd d a b))
def execFjFsub (slot : Nat) (d : Loc) (a : Loc) (b : Loc) (s : State) : Out := s.done (s.blk.fj slot 4 (fjReal2 fSub d a b))
def execFjFmul (slot : Nat) (d : Loc) (a : Loc) (b : Loc) (s : State) : Out := s.done (s.blk.fj slot 4 (fjReal2 fMul d a b))
def execFjFdiv (slot : Nat) (d : Loc) (a : Loc) (b : Loc) (s : State) : Out := s.done (s.blk.fj slot 4 (fjReal2 fDiv d a b))
def execFjFma (slot : Nat) (d : Loc) (a : Loc) (b : Loc) (c : Loc) (s : State) : Out := s.done (s.blk.fj slot 5 (fjFma d a b c))
def execFjFsqrt (slot : Nat) (d : Loc) (a : Loc) (s : State) : Out := s.done (s.blk.fj slot 3 (fjReal fSqrt d a))
def execFjFneg (slot : Nat) (d : Loc) (a : Loc) (s : State) : Out := s.done (s.blk.fj slot 3 (fjReal (fun w => (fNeg w, {})) d a))
def execFjFabs (slot : Nat) (d : Loc) (a : Loc) (s : State) : Out := s.done (s.blk.fj slot 3 (fjReal (fun w => (fAbs w, {})) d a))
def execFjFmin (slot : Nat) (d : Loc) (a : Loc) (b : Loc) (s : State) : Out := s.done (s.blk.fj slot 4 (fjReal2 (fMinMax false) d a b))
def execFjFmax (slot : Nat) (d : Loc) (a : Loc) (b : Loc) (s : State) : Out := s.done (s.blk.fj slot 4 (fjReal2 (fMinMax true) d a b))
def execFjFrnd (slot : Nat) (d : Loc) (a : Loc) (s : State) : Out := s.done (s.blk.fj slot 3 (fjReal fRnd d a))
def execFjCvt (slot : Nat) (d : Loc) (a : Loc) (s : State) : Out := s.done (s.blk.fj slot 3 (fjCvt d a))
def execFjCmp (slot : Nat) (d : Loc) (a : Loc) (b : Loc) (cond : BitVec 8) (s : State) : Out := s.done (s.blk.fj slot 5 (fjCmp d a b cond))
def execFjBand (slot : Nat) (d : Loc) (a : Loc) (b : Loc) (s : State) : Out := s.done (s.blk.fj slot 4 (fjBool (· && ·) d a b))
def execFjBor (slot : Nat) (d : Loc) (a : Loc) (b : Loc) (s : State) : Out := s.done (s.blk.fj slot 4 (fjBool (· || ·) d a b))
def execFjBxor (slot : Nat) (d : Loc) (a : Loc) (b : Loc) (s : State) : Out := s.done (s.blk.fj slot 4 (fjBool (· != ·) d a b))
def execFjBnot (slot : Nat) (d : Loc) (a : Loc) (s : State) : Out := s.done (s.blk.fj slot 3 (fjBnot d a))
def execFjSel (slot : Nat) (d : Loc) (c : Loc) (a : Loc) (b : Loc) (s : State) : Out := s.done (s.blk.fj slot 5 (fjSel d c a b))
def execFjLim (slot : Nat) (d : Loc) (a : Loc) (lo : Loc) (hi : Loc) (s : State) : Out := s.done (s.blk.fj slot 5 (fjLim d a lo hi))
def execFjTstq (slot : Nat) (d : Loc) (q : Loc) (k : BitVec 16) (s : State) : Out := s.done (s.blk.fj slot 5 (fjTstq d q k))
def execFjEdgr (slot : Nat) (d : Loc) (a : Loc) (m : Loc) (s : State) : Out := s.done (s.blk.fj slot 4 (fjEdge (fun a s => a && !s) d a m))
def execFjEdgf (slot : Nat) (d : Loc) (a : Loc) (m : Loc) (s : State) : Out := s.done (s.blk.fj slot 4 (fjEdge (fun a s => !a && s) d a m))
def execFjEdgb (slot : Nat) (d : Loc) (a : Loc) (m : Loc) (s : State) : Out := s.done (s.blk.fj slot 4 (fjEdge ((· != ·)) d a m))
def execFjSr (slot : Nat) (q : Loc) (m : Loc) (r : Loc) (s : State) : Out := s.done (s.blk.fj slot 4 (fjLatch true q m r))
def execFjRs (slot : Nat) (q : Loc) (m : Loc) (r : Loc) (s : State) : Out := s.done (s.blk.fj slot 4 (fjLatch false q m r))
def execFjTstart (slot : Nat) (t : BitVec 16) (a : Loc) (s : State) : Out := s.done (s.blk.fj slot 4 (fjTstart t a))
def execFjTstartp (slot : Nat) (t : BitVec 16) (a : Loc) (s : State) : Out := s.done (s.blk.fj slot 4 (fjTstartp t a))
def execFjTstartw (slot : Nat) (t : BitVec 16) (s : State) : Out := s.done (s.blk.fj slot 3 (fjTstartw t))
def execFjTcancel (slot : Nat) (t : BitVec 16) (s : State) : Out := s.done (s.blk.fj slot 3 (fjTcancel t))
def execFjTpause (slot : Nat) (t : BitVec 16) (a : Loc) (s : State) : Out := s.done (s.blk.fj slot 4 (fjTpause t a))
def execFjTresume (slot : Nat) (t : BitVec 16) (s : State) : Out := s.done (s.blk.fj slot 3 (fjTresume t))
def execFjTread (slot : Nat) (d : Loc) (t : BitVec 16) (sel : BitVec 8) (s : State) : Out := s.done (s.blk.fj slot 5 (fjTread d t sel))
def execFjTon (slot : Nat) (d : Loc) (t : BitVec 16) (i : Loc) (p : Loc) (s : State) : Out := s.done (s.blk.fj slot 6 (fjTon d t i p))
def execFjTnow (slot : Nat) (d : Loc) (s : State) : Out := s.done (s.blk.fj slot 2 (fjTnow d))
def execFjWnow (slot : Nat) (d : Loc) (s : State) : Out := s.done (s.blk.fj slot 2 (fjWnow d))
def execFjCtu (slot : Nat) (c : Loc) (i : Loc) (m : Loc) (s : State) : Out := s.done (s.blk.fj slot 4 (fjCount true c i m))
def execFjCtd (slot : Nat) (c : Loc) (i : Loc) (m : Loc) (s : State) : Out := s.done (s.blk.fj slot 4 (fjCount false c i m))
def execFjGath (slot : Nat) (m : Loc) (ad : BitVec 16) (as_ : BitVec 16) (ax : BitVec 16) (s : State) : Out := s.done (s.blk.fj slot 8 (fjGath m ad as_ ax))
def execFjScat (slot : Nat) (ad : BitVec 16) (as_ : BitVec 16) (ax : BitVec 16) (s : State) : Out := s.done (s.blk.fj slot 7 (fjScat ad as_ ax))
def execFjBmov (slot : Nat) (ad : BitVec 16) (as_ : BitVec 16) (n : BitVec 8) (s : State) : Out := s.done (s.blk.fj slot 6 (fjBmov ad as_ n))
def execFjCurv (slot : Nat) (ad : BitVec 16) (as_ : BitVec 16) (at_ : BitVec 16) (n : BitVec 8) (s : State) : Out := s.done (s.blk.fj slot 8 (fjCurv ad as_ at_ n))
def execFjSumv (slot : Nat) (d : Loc) (as_ : BitVec 16) (n : BitVec 8) (s : State) : Out := s.done (s.blk.fj slot 5 (fjSumv d as_ n))
def execFjPmake (slot : Nat) (d : Loc) (re : Loc) (im : Loc) (s : State) : Out := s.done (s.blk.fj slot 5 (fjPmake d re im))
def execFjPpol (slot : Nat) (d : Loc) (m : Loc) (g : Loc) (s : State) : Out := s.done (s.blk.fj slot 5 (fjPpol d m g))
def execFjPre (slot : Nat) (d : Loc) (a : Loc) (s : State) : Out := s.done (s.blk.fj slot 4 (fjPart false d a))
def execFjPim (slot : Nat) (d : Loc) (a : Loc) (s : State) : Out := s.done (s.blk.fj slot 4 (fjPart true d a))
def execFjPmag (slot : Nat) (d : Loc) (a : Loc) (s : State) : Out := s.done (s.blk.fj slot 4 (fjPreal pMag d a))
def execFjPang (slot : Nat) (d : Loc) (a : Loc) (s : State) : Out := s.done (s.blk.fj slot 4 (fjPreal pAng d a))
def execFjPadd (slot : Nat) (d : Loc) (a : Loc) (b : Loc) (s : State) : Out := s.done (s.blk.fj slot 5 (fjPh2 pAdd d a b))
def execFjPsub (slot : Nat) (d : Loc) (a : Loc) (b : Loc) (s : State) : Out := s.done (s.blk.fj slot 5 (fjPh2 pSub d a b))
def execFjPmul (slot : Nat) (d : Loc) (a : Loc) (b : Loc) (s : State) : Out := s.done (s.blk.fj slot 5 (fjPh2 pMul d a b))
def execFjPdiv (slot : Nat) (d : Loc) (a : Loc) (b : Loc) (s : State) : Out := s.done (s.blk.fj slot 5 (fjPh2 pDiv d a b))
def execFjPconj (slot : Nat) (d : Loc) (a : Loc) (s : State) : Out := s.done (s.blk.fj slot 4 (fjPconj d a))
def execFjPscl (slot : Nat) (d : Loc) (a : Loc) (r : Loc) (s : State) : Out := s.done (s.blk.fj slot 5 (fjPhR pScl d a r))
def execFjProt (slot : Nat) (d : Loc) (a : Loc) (g : Loc) (s : State) : Out := s.done (s.blk.fj slot 5 (fjPhR pRot d a g))
def execFjPseq (slot : Nat) (d : Loc) (a : Loc) (b : Loc) (c : Loc) (k : BitVec 8) (s : State) : Out := s.done (s.blk.fj slot 7 (fjPseq d a b c k))
def execFjFln (slot : Nat) (d : Loc) (a : Loc) (s : State) : Out := s.done (s.blk.fj slot 4 (fjReal fLn d a))
def execFjFexp (slot : Nat) (d : Loc) (a : Loc) (s : State) : Out := s.done (s.blk.fj slot 4 (fjReal fExp d a))
def execFjFpow (slot : Nat) (d : Loc) (a : Loc) (b : Loc) (s : State) : Out := s.done (s.blk.fj slot 5 (fjReal2 fPow d a b))
def execFjFlgrd (slot : Nat) (d : Loc) (s : State) : Out := s.done (s.blk.fj slot 3 (fjFlgrd d))
def execFjFlgclr (slot : Nat) (k : BitVec 8) (s : State) : Out := s.done (s.blk.fj slot 3 (fjFlgclr k))
def execFjTena (slot : Nat) (k : BitVec 8) (s : State) : Out := s.done (s.blk.fj slot 3 (fjTask true k))
def execFjTdis (slot : Nat) (k : BitVec 8) (s : State) : Out := s.done (s.blk.fj slot 3 (fjTask false k))
def execFjTkick (slot : Nat) (k : BitVec 8) (s : State) : Out := s.done (s.blk.fj slot 3 (fjTkick k))
def execFjFrec (slot : Nat) (d : Loc) (k : BitVec 8) (sel : BitVec 8) (s : State) : Out := s.done (s.blk.fj slot 5 (fjFrec d k sel))
def execFjFcrd (slot : Nat) (d : Loc) (k : BitVec 8) (sel : BitVec 8) (s : State) : Out := s.done (s.blk.fj slot 5 (fjFcrd d k sel))
def execFjFcset (slot : Nat) (k : BitVec 8) (a : Loc) (s : State) : Out := s.done (s.blk.fj slot 4 (fjFcset k a))
def execFjFcclr (slot : Nat) (k : BitVec 8) (s : State) : Out := s.done (s.blk.fj slot 3 (fjFcclr k))
def execFjCtlrd (slot : Nat) (d : Loc) (o : BitVec 8) (sel : BitVec 8) (s : State) : Out := s.done (s.blk.fj slot 5 (fjCtlrd d o sel))
def execFjCtlack (slot : Nat) (o : BitVec 8) (a : Loc) (s : State) : Out := s.done (s.blk.fj slot 4 (fjCtlack o a))
def execFjCtlop (slot : Nat) (o : BitVec 8) (a : Loc) (cls : BitVec 8) (s : State) : Out := s.done (s.blk.fj slot 5 (fjCtlop o a cls))
def execFjEvt (slot : Nat) (a : Loc) (k : BitVec 8) (s : State) : Out := s.done (s.blk.fj slot 4 (fjEvt a k))

end Sys2Proof.Machine
end

