-- ==== Sys2Proof/Machine/Startup.lean ====
section
/-! DEFINITION. The steps of the startup sequence, and what SYS_STATE says of the logic slots (03 of the spec, R50, R51). -/

namespace Sys2Proof.Machine
open Sys2Proof

/-- STAGE once the first `k` steps of R50 are complete. -/
def stageOf (k : Nat) : Nat := [0, 1, 2, 3, 3, 4, 5, 6, 7, 7, 7].getD k 7

/-- Step `k` of R50 completes, where the step before it is complete; STAGE stays 0xF in recovery (R53). -/
def Block.reach (k : Nat) (b : Block) : Block :=
  if b.sys.step + 1 = k then { b with sys := { b.sys with step := k, stage := if b.sys.recovery then 0xF else stageOf k } } else b

/-- A slot whose image declares at least one feeder (R220). -/
def Slot.owning (x : Slot) : Bool := match x.img with | some i => i.feeders != 0 | none => false

/-- The slot's program is being run: STATE LIDDED, RUN or MIGRATING (R234, R239). -/
def Slot.running (x : Slot) : Bool := x.state == .lidded || x.state == .run || x.state == .migrating

/-- LOGIC_RUN: every feeder-owning slot is running (R51, R236). -/
def Block.logicNow (b : Block) : Bool :=
  decide (7 ≤ b.sys.step) && (List.range 8).all fun s =>
    let x := b.slot s
    !x.owning || (x.running && x.entered)

/-- The steps at 400 ms and 450 ms follow from the slots: every feeder-owning slot that has a serving pair has entered, and
then completed, its first cycle; a FAULTED slot counts as complete (R50, R55). -/
def Block.logicSteps (b : Block) : Block :=
  let all (f : Slot → Bool) : Bool := (List.range 8).all fun s => let x := b.slot s; !x.owning || x.state == .faulted || f x
  let b1 := if b.sys.step = 6 ∧ all (·.entered) then b.reach 7 else b
  let b2 : Block := { b1 with sys := { b1.sys with logicRun := b1.logicNow } }
  if b2.sys.step = 7 ∧ all (·.cycled) then
    let b3 := b2.reach 8
    Block.raise 490 b.nv.resetCause { b3 with sys := { b3.sys with ready := true, mbxHost := true } }
  else b2

/-- ARMED: every feeder-owning slot's outputs have left the startup lid (R51). -/
def Block.armed (b : Block) : Bool := (List.range 8).all fun s => let x := b.slot s; !x.owning || (x.free && x.running)

end Sys2Proof.Machine
end

