-- ==== Sys2Proof/Machine/InHalf.lean ====
section
/-! DEFINITION. The input half of a slot (14 of the spec, R295 to R301, R308, R309). -/

namespace Sys2Proof.Machine
open Sys2Proof

/-- A run of words at an offset, without the words that read 0. -/
def wordRun (o : Nat) (ws : List Nat) : Tab Word :=
  ((List.range ws.length).map fun i => (o + i, BitVec.ofNat 32 (ws.getD i 0))).filter fun x => x.2 != 0

/-- A 64-bit number as two words, low first. -/
def two (v : Nat) : List Nat := [v % 2 ^ 32, v / 2 ^ 32 % 2 ^ 32]

/-- Words and quality of the points of an analogue record (R298). -/
def Block.aiWords (b : Block) (fs : Nat) (n : Nat) : List Nat :=
  if n < 128 && !bitOf fs (n / 4) then List.replicate 8 0
  else
    let g := tget genD b.acc.cur.gens n
    let p := g.ph.getD 0 (0, 0)
    let q := g.qual.word
    [g.rms.toNat, q, g.mean.toNat, q, p.1.toNat, q, p.2.toNat, q]

/-- The elements whose records a slot sees: its own by rising index, then those its image adds (R299).
DESIGN CHOICE (log 43). -/
def Block.elemList (b : Block) (s : Nat) (i : FjImg) : List Nat :=
  let own := (b.elm.active.descs.filter fun x => let d := descOf x.2; d.ty != 0 && d.owner == s).map (·.1)
  (own ++ i.elems.filter fun e => !decide (e ∈ own)).take 2048

/-- The two words of an element state record (R299). -/
def Block.elemWords (b : Block) (e : Nat) : List Nat :=
  if !(b.elm.active.desc e).en then [0, 0]
  else
    let x := tget elStD b.elm.pub e
    [x.flags + 2 ^ 16 * x.qual.word, x.phdir + 2 ^ 16 * x.progress]

/-- The state code of a station (R308). -/
def StnSt.code : StnSt → Nat
  | .unused => 0 | .wait => 1 | .up => 2 | .dropped => 3 | .returning => 4

/-- Does the image map a point of the station? -/
def FjImg.maps (i : FjImg) (k : Nat) : Bool := i.points.any fun p => p.station == k

/-- The station status word (R308). -/
def Stn.word (x : Stn) (owned : Bool) : Nat :=
  x.state.code + 8 * b2n owned + 256 * satN 255 x.miss + 65536 * satN 65535 x.drops

/-- SUBSTITUTED, STALE and SOURCE_REMOTE, with TEST where the last good frame carried it (R309). DESIGN CHOICE (log 59). -/
def Stn.substQual (x : Stn) : Nat := ({ subst := true, stale := true, test := x.test, remote := true } : Qual).word

/-- A sampled-value channel delivered with a scale (R300). DESIGN CHOICE (log 46). -/
def scaled (v : Word) (sc : Word) : Word :=
  match realVal sc with
  | some q => realQ (v.toInt * q.1) q.2
  | none => (fMul (intToF v.toInt 1).1 sc).1

/-- The two words of a remote point (R297, R300, R301, R309). -/
def Stn.point (x : Stn) (p : MapPoint) : List Nat :=
  let sc (v : Word) : Word := match p.scale with | some k => scaled v k | none => v
  let v := x.values.getD p.member (0, 0)
  if x.state = .up then [(sc v.1).toNat, v.2 + 2 ^ 16 * p.station]
  else
    let w := match p.subst with | 0 => (sc v.1).toNat | 1 => p.value.toNat | _ => 0
    [w, x.substQual + 2 ^ 16 * p.station]

/-- The input half of epoch E (R295 to R301). -/
def Block.inputHalf (b : Block) (s : Nat) (i : FjImg) (count : Nat) (lidded : Bool) : Tab Word :=
  let e := b.time.epoch
  let st := (b.time.tickStamp e).getD {}
  let f := b.bar.set
  wordRun 0 (two e ++ two (e * 31250) ++ two (ns64Of st.sec st.ns) ++ [st.qual % 65536, count, s + 16 * b2n lidded]) ++
  wordRun 0x10 (two f.di ++ [f.rb, b2n f.lockout]) ++
  wordRun 0x18 ((List.range 8).flatMap fun k => [tget natD f.count k, (b.ctQual k).word] ++ two (tget natD f.stamp k)) ++
  wordRun 0x40 ((List.range 64).flatMap fun k => [b2n (bitOf f.di k), (b.diQual k).word]) ++
  wordRun 0xC0 ((List.range 32).flatMap fun k => [b2n (bitOf f.rb k), (b.rbQual k).word]) ++
  wordRun 0x100 ((List.range 256).map fun k => (tget stnD b.lgc.stnSet k).word (i.maps k)) ++
  wordRun 0x200 ((List.range 160).flatMap (b.aiWords i.feeders)) ++
  wordRun 0x700 ((List.range 40).flatMap fun t => let x := tget trackerD b.acc.cur.tracks t; [x.word.toNat, x.qual.word]) ++
  wordRun 0x800 ((b.elemList s i).flatMap b.elemWords) ++
  wordRun 0x1800 ((i.points.take 4096).flatMap fun p => (tget stnD b.lgc.stnSet p.station).point p)

end Sys2Proof.Machine
end

