-- ==== Sys2Proof/Machine/Cycle.lean ====
section
/-! DEFINITION. The cycle of a slot: READ-IN, task switches, WRITE-OUT, the kettle and the taking over of an image (11 of the
spec, R219 to R229, R290 to R294; 14 of the spec, R302 to R305). -/

namespace Sys2Proof.Machine
open Sys2Proof

/-! ### Instants (R222) -/

/-- P(E) on the ELAPSED scale (R18). -/
def pubE (e : Nat) : Nat := tickE e + 46875 * nsE / 2

/-- The period of a slot. -/
def FjImg.period (i : FjImg) : Nat := i.n * 31250 * nsE

/-- D of a cycle; a repeated cycle counts it from its own READ-IN (R222, R233). DESIGN CHOICE (log 47). -/
def Cyc.dead (i : FjImg) (c : Cyc) : Nat := (if c.repeated then c.at_ + i.period else pubE (c.e + i.n)) - 750 * nsE

/-- K of a cycle. DESIGN CHOICE (log 47). -/
def Cyc.kettle (i : FjImg) (c : Cyc) : Nat := c.dead i + i.grace * i.period / 100

/-- The first epoch at or after `e` at which the slot may begin a cycle. DESIGN CHOICE (log 45). -/
def alignUp (n e : Nat) : Nat := if n = 0 then e else (e + n - 1) / n * n

/-- The first aligned epoch whose P follows an instant. -/
def alignAfter (n inst : Nat) : Nat :=
  let e := (inst - 46875 * nsE / 2 + 31250 * nsE - 1) / (31250 * nsE)
  alignUp n e

/-- The first publication after an instant (R224, R233). -/
def nextPub (inst : Nat) : Nat :=
  let e := inst / (31250 * nsE)
  if inst < pubE e then e else e + 1

/-! ### Events and orders of a slot -/

/-- The event source of the serving pair's program events (R240). -/
def progSrc (p : Nat) : Nat := 297 + 2 * p
def pairSrc (p : Nat) : Nat := 296 + 2 * p

/-- The slot leaves RUN: its pending orders are answered NOT_READY (R442). -/
def Block.dropOrders (s : Nat) (b : Block) : Block :=
  let y := b.slot s
  let b := y.objs.foldl (fun (b : Block) x =>
    match x.2.state with
    | .pending c _ _ _ q _ _ _ =>
      match b.mbx.accepted.find? fun a => a.req.client == c && a.req.seq == q && a.req.cmd == 0x1002 with
      | some a => b.status a.req stNOTREADY
      | none => b
    | _ => b) b
  let z := b.slot s
  b.putSlot s { z with objs := tmap ctlD z.objs fun _ o => if o.isPending then { o with state := .idle } else o }

/-! ### Images and starts (R196, R221, R230) -/

/-- The data a slot begins with. -/
def initData (i : FjImg) : Tab Word := i.init

/-- Timers of the new image: those of the same index and mode run on under their numbers, the others are released, and new
ones are allocated (R196, R199). -/
def WheelSt.takeImage (s : Nat) (o : Option FjImg) (n : FjImg) (w : WheelSt) : WheelSt :=
  let ot := match o with | some i => i.timers | none => []
  let keep (k : Nat) : Bool := match ot[k]?, n.timers[k]? with | some a, some c => a.1 == c.1 | _, _ => false
  let gone := (w.timers.filter fun x => x.2.cls == 1 && x.2.slot == s && !keep x.2.owner).map (·.1)
  let w := w.release gone
  (List.range n.timers.length).foldl (fun w k =>
    let nf := match n.timers[k]? with | some t => t.2 | none => false
    match w.slotTimer s k with
    | some t => w.upd t fun x => { x with notify := nf }
    | none => (w.alloc 1 s k nf).1) w

/-- The context a task begins with anew: its fault record is never cleared (R285, R290). -/
def Ctx.anew (x : Ctx) : Ctx := { fault := x.fault, trap := x.trap, fpc := x.fpc, fprog := x.fprog }

/-- The image takes over: data of the retain map is carried, all other data and the contexts start anew; cycles of the image before it
that were skipped are still to be reported (R221, R228, R285, R290). -/
def Block.takeImage (s : Nat) (i : FjImg) (cold : Bool) (b : Block) : Block :=
  let y := b.slot s
  let kept (k : Nat) : Bool := !cold && y.img.isSome && i.retain.any fun r => decide (r.1 ≤ k ∧ k ≤ r.2)
  let data := (y.data.filter fun x => kept x.1).foldl (fun t x => tset wzD t x.1 x.2) (i.init.filter fun x => !kept x.1)
  let n := match y.img with | some o => o.n | none => 0
  let sk := if y.entered && n != 0 then (b.time.epoch - y.nextE) / n else 0
  let b : Block := { b with wheel := b.wheel.takeImage s y.img i }
  b.putSlot s { y with
    img := some i, next := none, data := data, ctxs := tmap ctxD y.ctxs fun _ x => x.anew, objs := [], fmask := 0
    cause := Nat.lor y.cause 256, preSkip := y.preSkip + sk, nextE := if y.entered then alignUp i.n b.time.epoch else y.nextE }

/-- A slot begins anew on a pair: it re-enters the startup lid, and its first cycle is the first aligned epoch from `e` on
(R50, R230, R236). -/
def Block.startSlot (s p e cause : Nat) (cold keep : Bool) (b : Block) : Block :=
  let b := match (b.slot s).next with
    | some (_, i) => b.takeImage s i cold
    | none => b
  let y := b.slot s
  match y.img with
  | none => b
  | some i =>
    let ts := (b.wheel.timers.filter fun x => x.2.cls == 1 && x.2.slot == s).map (·.1)
    let w := if keep then b.wheel else ts.foldl (fun w t => w.upd t (Timer.op .cancel)) b.wheel
    let z : Slot := { y with
      data := if cold then initData i else y.data, ctxs := if cold then tmap ctxD y.ctxs fun _ x => x.anew else y.ctxs, state := .lidded
      pair := some p, cyc := none, redo := none, count := 0, preSkip := 0, nextE := alignUp i.n e, blockTo := 0, armOk := none
      armCmd := false, free := false, cause := Nat.lor y.cause cause, entered := false
      damaged := y.damaged && !cold, takeover := none }
    let b : Block := { b with wheel := w }
    (b.putSlot s z).putPair p { b.pair p with state := .running, slot := some s }

/-- The slots whose images startup has loaded begin with the first element pass (R50, R55, R57). -/
def Block.startSlots (b : Block) : Block :=
  (List.range 8).foldl (fun (b : Block) s =>
    let y := b.slot s
    if y.img.isSome && y.state == .empty then
      match y.pair with
      | some p => b.startSlot s p b.time.epoch 0 true true
      | none => (b.putSlot s { y with state := .faulted }).raiseOpen (pairSrc s)
    else b) b

/-- The pair that holds the spare role (R219). -/
def Block.spare (b : Block) : Option Nat := (List.range 9).find? fun p => (b.pair p).state == .spare

/-- The pair that is loading for a slot. -/
def Block.loader (s : Nat) (b : Block) : Option Nat :=
  (List.range 9).find? fun p => let x := b.pair p; x.state == .loading && x.slot == some s

/-- The stopped pair assigned to a slot, and whether it may run again. -/
def Block.ownPair (b : Block) (s : Nat) : Option Nat :=
  (List.range 9).find? fun p => let x := b.pair p; x.slot == some s && x.state == .stopped

/-- The restart of a stopped slot on a pair: the first aligned epoch whose P follows the pair's loading, taken at its bound
of 30 µs (R230, R234, R236). Answers the epoch. DESIGN CHOICE (log 45). -/
def Block.restartEpoch (s : Nat) (b : Block) : Nat :=
  let y := b.slot s
  let n := match y.next with | some (_, i) => i.n | none => (y.img.map (·.n)).getD 4
  alignAfter n (b.now + 30 * usE)

def Block.restart (s p : Nat) (cold keep : Bool) (b : Block) : Block :=
  let e := b.restartEpoch s
  let own := b.ownPair s
  let b := b.startSlot s p e 128 cold keep
  -- a stopped pair freed by a restart elsewhere is tested for the spare role (R219, R237)
  let b := match own with
    | some o => if o = p then b
      else b.putPair o { b.pair o with state := .testing, slot := none, planned := true, back := .spare }
    | none => b
  { b with sys := { b.sys with logicRun := b.logicNow } }

/-- The lowest-numbered FAULTED slot that has an image. DEDUCED (log 55). -/
def Block.faultedSlot (b : Block) : Option Nat :=
  (List.range 8).find? fun s => let y := b.slot s; y.state == .faulted && (y.img.isSome || y.next.isSome)

/-- A planned takeover ends without effect: its request is answered NOT_READY, and a slot that was to move in the rolling
handover has not moved. DESIGN CHOICE (log 50). -/
def Block.cancelTakeover (s : Nat) (b : Block) : Block :=
  let y := b.slot s
  let b := match y.takeover with
    | some (_, 2) => { b with nv := { b.nv with stg := { b.nv.stg with moved := b.nv.stg.moved - 1 } } }
    | _ => b
  let b := b.putSlot s { y with takeover := none, waitReq := none }
  match y.waitReq with | some r => b.status r stNOTREADY | none => b

/-- The takeover of a slot that stops or migrates ends, and the pair that was loading for it holds the spare role again.
DESIGN CHOICE (log 50). -/
def Block.dropTakeover (s : Nat) (b : Block) : Block :=
  match (b.slot s).takeover with
  | some (k, _) =>
    let c := b.cancelTakeover s
    match b.loader s with
    | some q => if k < 2 then c.putPair q { c.pair q with state := .spare, slot := none, planned := false } else c
    | none => c
  | none => b

/-- While slots are FAULTED, the lowest of them restarts at once on a pair that enters the spare role, with KEEP_TIMERS and,
after damage under R536, with COLD (R236). -/
def Block.spareWork (b : Block) : Block :=
  match b.spare, b.faultedSlot with
  | some q, some s => b.restart s q (b.slot s).damaged true
  | _, _ => b

/-- Memory and barrier lids of a slot that stops: its outputs are lidded and LOGIC_RUN is formed again (R225, R236). -/
def Block.stopSlot (s : Nat) (st : SlotSt) (b : Block) : Block :=
  let moving := (b.slot s).takeover.isSome
  let b := (b.dropOrders s).dropTakeover s
  let y := b.slot s
  let b := b.putSlot s { y with
    state := st, cyc := none, redo := none, free := false, armOk := none, armCmd := false, det := [] }
  let b : Block := { b with sys := { b.sys with logicRun := b.logicNow } }
  if moving then b.spareWork else b

/-! ### READ-IN (R222, R227, R228, R304, R311) -/

/-- Latch the state of the stations for the STATION cause: the counts of changes seen. -/
def Block.stnSeenNow (b : Block) : Tab Nat := tmap natD (b.lgc.stnSet.map fun x => (x.1, x.2.chg)) fun _ v => v

/-- A mapped station has changed since the slot's previous READ-IN (R311). -/
def Block.stnCause (b : Block) (y : Slot) (i : FjImg) : Bool :=
  b.lgc.stnSet.any fun x => i.maps x.1 && decide (tget natD y.stnSeen x.1 ≠ x.2.chg)

/-- The first task of a kind, disabled or not. DESIGN CHOICE (log 47). -/
def FjImg.errorTask (i : FjImg) : Option Nat := (List.range i.tasks.length).find? fun t => ((i.tasks[t]?).map (·.kind)) == some 1

/-- The ready set (R227). -/
def readySet (i : FjImg) (ctxs : Tab Ctx) (count cause : Nat) (trigs : Tab Trig) : List Nat :=
  (List.range i.tasks.length).filter fun t =>
    match i.tasks[t]? with
    | none => false
    | some d =>
      !(tget ctxD ctxs t).off &&
      (match d.kind with
       | 0 => count % d.div == d.phase
       | 1 => cause != 0
       | _ => (tget trigD trigs t).count != 0)

/-- Triggers latched by an interrupted cycle, with those that have arrived since (R233). -/
def mergeTrigs (a c : Tab Trig) : Tab Trig :=
  c.foldl (fun t x => tupd trigD t x.1 fun o => if o.count = 0 then x.2 else { o with count := o.count + x.2.count }) a

/-- Triggers of tasks that are disabled stay latched. -/
def splitTrigs (ctxs : Tab Ctx) (t : Tab Trig) : Tab Trig × Tab Trig :=
  (t.filter fun x => !(tget ctxD ctxs x.1).off, t.filter fun x => (tget ctxD ctxs x.1).off)

/-- The quantity of a pair fault is recorded at the serving pair's READ-IN (R240). -/
def Block.detEnd (s : Nat) (b : Block) : Block :=
  let y := b.slot s
  let b1 := y.det.foldl (fun (b : Block) d => b.quantity (pairSrc d.1) ((b.now - d.2) / usE : Nat)) b
  b1.putSlot s { y with det := [] }

/-- The lid is left at a cycle boundary under the arm policy (R58, R59, R60). DESIGN CHOICE (log 24). -/
def Block.releaseLid (s : Nat) (b : Block) : Block :=
  let y := b.slot s
  let go := y.armCmd || (b.sys.armPolicy == 0 && y.armOk.isSome)
  if !y.free && go then b.putSlot s { y with free := true, state := if y.state = .lidded then .run else y.state } else b

/-- The STATE a slot takes up again after a migration. DESIGN CHOICE (log 45). -/
def Slot.live (y : Slot) : SlotSt := if y.free then .run else .lidded

/-- The notifications that a cycle has taken are no longer pending at their timers (R198). -/
def Block.takeNotes (s : Nat) (i : FjImg) (t : Tab Trig) (b : Block) : Block :=
  let taken := t.filterMap fun x => match i.tasks[x.1]? with
    | some d => if d.trig = 0 && x.2.count != 0 then b.wheel.slotTimer s d.source else none
    | none => none
  { b with wheel := taken.foldl (fun w t => w.upd t fun x => { x with pend := 0 }) b.wheel }

/-- READ-IN of a new cycle at epoch E on the serving pair. -/
def Block.beginCycle (s : Nat) (b : Block) : Block :=
  let e := b.time.epoch
  -- a new image takes over at this boundary (R221)
  let b := match (b.slot s).next with
    | some (q, i) => if q ≤ e then b.takeImage s i false else b
    | none => b
  let y := b.slot s
  match y.img with
  | none => b
  | some i =>
    if e % i.n ≠ 0 then b.putSlot s { y with nextE := alignUp i.n e }
    else
      let b := (b.putSlot s { y with state := y.live }).releaseLid s |>.detEnd s
      let y := b.slot s
      let sk := y.preSkip + (if y.entered && i.n != 0 then (e - y.nextE) / i.n else 0)
      let cause := Nat.lor y.cause (64 * b2n (sk != 0) + b2n (b.stnCause y i))
      let err := i.errorTask
      let deaf := match err with | some t => (tget ctxD y.ctxs t).off | none => true
      let count := y.count + sk
      let tr := splitTrigs y.ctxs y.trigs
      let c : Cyc := {
        e := e, at_ := b.now, ready := readySet i y.ctxs count (if deaf then 0 else cause) tr.1, data := y.data
        ctxs := y.ctxs, pair := y.pair, trigs := tr.1, due := tr.1, cause := cause, skips := sk, fmask := y.fmask
        objs := tmap ctlD y.objs fun _ o => o.at e }
      let z : Slot := { y with
        cyc := some c, redo := none, inHalf := b.inputHalf s i count (!y.free), inTag := e, count := count + 1
        nextE := e + i.n, preSkip := 0, skipped := y.skipped + sk, cause := if deaf then cause else 0
        fmask := if deaf then y.fmask else 0, trigs := tr.2, stnSeen := b.stnSeenNow, entered := true, blockTo := 0 }
      ((b.takeNotes s i c.trigs).putSlot s z).logicSteps

/-- READ-IN of the repetition of an interrupted cycle, on the same pair or on a new one (R233, R234). DESIGN CHOICE (log 46). -/
def Block.repeatCycle (s : Nat) (b : Block) : Block :=
  let b := b.detEnd s
  let y := b.slot s
  match y.img, y.redo with
  | some i, some c =>
    let tr := splitTrigs y.ctxs (mergeTrigs c.trigs y.trigs)
    let deaf := match i.errorTask with | some t => (tget ctxD y.ctxs t).off | none => true
    let n : Cyc := {
      e := c.e, at_ := b.now, repeated := true, data := y.data, ctxs := y.ctxs, pair := c.pair, trigs := tr.1, due := tr.1
      cause := c.cause, skips := c.skips, fmask := c.fmask, objs := c.objs
      ready := readySet i y.ctxs (y.count - 1) (if deaf then 0 else c.cause) tr.1 }
    (b.takeNotes s i tr.1).putSlot s { y with
      cyc := some n, redo := none, trigs := tr.2, state := y.live, cause := Nat.lor y.cause (if c.pair = y.pair then 16 else 32) }
  | _, _ => b

/-- READ-IN of a shadow cycle: the pair runs on the slot's current input half with its own data and contexts (R496).
DESIGN CHOICE (log 48). -/
def Block.shadowCycle (s : Nat) (b : Block) : Block :=
  let y := b.slot s
  match y.shadow, y.img with
  | some o, some i =>
    let x := b.slot o
    let e := b.time.epoch
    let count := (tget wzD x.inHalf 7).toNat
    let src : Cyc := x.cyc.getD {}
    if (b.pair (s - 8)).state != .service || x.inTag != e || e % i.n != 0 then b
    else
      let c : Cyc := {
        e := e, at_ := b.now, data := y.data, ctxs := y.ctxs, trigs := src.trigs, due := src.trigs, cause := src.cause, skips := src.skips
        fmask := src.fmask, objs := src.objs, ready := readySet i y.ctxs count src.cause src.trigs }
      b.putSlot s { y with cyc := some c, inHalf := x.inHalf, inTag := e }
  | _, _ => b

/-- CYCLE_READ_IN: at P(E) of an aligned epoch, on a slot whose pair runs and is free (R222). -/
def Block.readIn (s : Nat) (b : Block) : Block :=
  if 8 ≤ s then b.shadowCycle s
  else
    let y := b.slot s
    let e := b.time.epoch
    let ready := match y.pair with | some p => (b.pair p).state == .running | none => false
    match y.img with
    | none =>
      -- an EMPTY slot whose activation is due starts as at startup (R239, R447)
      match y.next, y.pair with
      | some (q, i), some p =>
        if ready && decide (q ≤ e) && b.elm.pubEpoch == e && e % i.n == 0 then (b.startSlot s p e 256 true true).beginCycle s else b
      | _, _ => b
    | some i =>
      if y.running && ready && y.cyc.isNone && y.redo.isNone && e % i.n == 0 && decide (y.nextE ≤ e) && decide (y.blockTo ≤ e) &&
          b.elm.pubEpoch == e then
        if y.damaged then
          -- damaged committed data, context or buffer: FAULTED at the next cycle boundary (R536)
          match y.pair with
          | some p => ((b.putPair p { b.pair p with state := .stopped }).stopSlot s .faulted).raiseOpen (pairSrc p)
          | none => b
        else b.beginCycle s
      else b

/-- IMAGE_TAKEOVER: at the first cycle boundary at or after S, outside a cycle; READ-IN carries it out where it has not come
before (R221). -/
def Block.imageTakeover (s : Nat) (b : Block) : Block :=
  let y := b.slot s
  match y.next, y.img with
  | some (q, i), some o =>
    if y.running && y.cyc.isNone && y.redo.isNone && decide (q ≤ b.time.epoch) && b.time.epoch % o.n == 0 && b.elm.pubEpoch == b.time.epoch then
      b.takeImage s i false
    else b
  | _, _ => b

/-! ### RUN (R227, R247) -/

/-- (error first, PRIO, number): the order in which ready tasks run. -/
def FjImg.rank (i : FjImg) (t : Nat) : Nat :=
  match i.tasks[t]? with
  | some d => if d.kind = 1 then 0 else 16 + d.prio * 16 + t
  | none => 100000

/-- The best of the ready tasks. -/
def FjImg.best (i : FjImg) (l : List Nat) : Option Nat :=
  l.foldl (fun m t => match m with | none => some t | some u => if i.rank t < i.rank u then some t else some u) none

/-- Task `t` outranks task `u`: a strictly higher priority (R227). -/
def FjImg.outranks (i : FjImg) (t u : Nat) : Bool :=
  match i.tasks[t]?, i.tasks[u]? with
  | some a, some c => c.kind != 1 && (a.kind == 1 || decide (a.prio < c.prio))
  | _, _ => false

/-- A task's run begins: ENTRY, and the locals that the engine writes (R228, R243, R247). -/
def Cyc.startTask (i : FjImg) (t : Nat) (c : Cyc) : Cyc :=
  match i.tasks[t]? with
  | none => c
  | some d =>
    let x := tget ctxD c.ctxs t
    let put (l : Tab DWord) (k v : Nat) : Tab DWord := tset dwD l k (BitVec.ofNat 64 v)
    let g := tget trigD c.due t
    let loc := match d.kind with
      | 1 => put (put (put x.locals 0 c.cause) 1 (c.skips % 2 ^ 32)) 2 c.fmask
      | 2 => put (put (put (put x.locals 0 g.source) 1 (g.count % 2 ^ 32)) 2 g.wall) 3 (g.qual % 2 ^ 16)
      | _ => x.locals
    { c with
      ctxs := tset ctxD c.ctxs t { x with pc := d.entry, rstack := [], lockcnt := 0, prog := 0, locals := loc }
      due := tset trigD c.due t {}, ready := remNat t c.ready, stack := t :: c.stack, active := true }

/-- TASK_SWITCH: the next task by R227 starts or resumes. -/
def Block.taskSwitch (s : Nat) (b : Block) : Block :=
  let y := b.slot s
  match y.img, y.cyc with
  | some i, some c =>
    if !b.mayRun s then b
    else
      let b1 := match c.stack with
        | [] =>
          match i.best c.ready with
          | some t => b.putSlot s { y with cyc := some (c.startTask i t) }
          | none => b
        | u :: _ =>
          let locked := (tget ctxD c.ctxs u).lockcnt != 0
          match i.best c.ready with
          | some t =>
            if i.outranks t u && !(c.active && locked) then b.putSlot s { y with cyc := some (c.startTask i t) }
            else b.putSlot s { y with cyc := some { c with active := true } }
          | none => b.putSlot s { y with cyc := some { c with active := true } }
      if 8 ≤ s ∧ (b.pair (s - 8)).hreq.isNone then b1.debugAfter s else b1
  | _, _ => b

/-! ### WRITE-OUT (R195, R219, R223, R224, R229, R291, R292, R305) -/

/-- Merge the staged output words over the half carried, in execution order (R305). -/
def mergeOut (l : List (Nat × Staged)) (o : Tab Word) : Tab Word :=
  l.foldl (fun t x => match x.2 with
    | .out w m v =>
      let k := BitVec.ofNat 32 m
      tupd wzD t w fun u => (u &&& ~~~k) ||| (v &&& k)
    | _ => t) o

/-- Of two tasks that staged operations on one timer, those of the task that staged last commit (R195). -/
def lastTask (l : List (Nat × Staged)) (k : Nat) : Option Nat :=
  l.foldl (fun m x => match x.2 with | .timer i _ => if i = k then some x.1 else m | _ => m) none

/-- The staged timer operations reach the wheel (R192, R195). -/
def WheelSt.commit (s te : Nat) (l : List (Nat × Staged)) (w : WheelSt) : WheelSt :=
  l.foldl (fun w x => match x.2 with
    | .timer k o =>
      if lastTask l k = some x.1 then
        match w.slotTimer s k with
        | some n => w.upd n fun t => (t.lapse te).op o
        | none => w
      else w
    | _ => w) w

/-- Fault counts and disabling at the commit: the new context, and whether the task is disabled by this cycle (R229, R230,
R292). A CYCLIC task outside its DIV did not run. -/
def Ctx.commit (ran bad : Bool) (x : Ctx) : Ctx × Bool :=
  if !ran then (x, false)
  else if bad then
    let n := x.faults + 1
    let off := decide (3 ≤ n) && !x.faultDis
    ({ x with faults := n, faultDis := x.faultDis || off }, off)
  else ({ x with faults := 0, lidOut := false }, false)

/-- The codes of the status table (R438). -/
def statusCodes : List Nat := [0x0000, 0x0001, 0x0010, 0x0011, 0x0020, 0x0021, 0x0022, 0x0030, 0x0031, 0x0040, 0x0041, 0x0050,
  0x0051, 0x0060, 0x0061, 0x0070, 0x0071]

/-- CTLACK of a committed cycle: a pending order is answered, unless its ANS_TMO has passed (R277, R442). -/
def Block.ctlAck (s o v e : Nat) (b : Block) : Block :=
  let y := b.slot s
  let x := tget ctlD y.objs o
  match x.state with
  | .pending c _ _ _ q _ dl _ =>
    if dl < b.now then b
    else
      let b := b.putSlot s { y with objs := tset ctlD y.objs o { x with state := .idle } }
      match b.mbx.accepted.find? fun a => a.req.client == c && a.req.seq == q && a.req.cmd == 0x1002 with
      | some a => b.answer a.req (if v ∈ statusCodes then v else stREFUSED) e []
      | none => b
  | _ => b

/-- CTLACK, EVT, CTLOP, TENA and TDIS of a committed cycle (R275, R277, R278, R442, R443). -/
def Block.effect (s p n e : Nat) (x : Staged) (b : Block) : Block :=
  let y := b.slot s
  let ctx (t : Nat) (f : Ctx → Ctx) : Block := b.putSlot s { y with ctxs := tupd ctxD y.ctxs t f }
  match x with
  | .ack o v => b.ctlAck s o v (e + n)
  | .ctlop o v k =>
    { b with mbx := { b.mbx with orders := b.mbx.orders ++ [{ slot := s, index := o, cls := k, value := v, epoch := b.time.epoch }] } }
  | .evt q u => b.raiseAt (progSrc p) b.stamp (some (q : Int)) u
  | .tena t => ctx t fun c => { c with tdis := false }
  | .tdis t => ctx t fun c => { c with tdis := true }
  | _ => b

/-- R58: every arm-relevant point of the input half carries VALID and not STALE: the analogue-derived points that the image marks, by
default the records of the slot's feeders whose input has a sensor, and the DI and remote points that it marks.
DESIGN CHOICE (log 24, 44). -/
def Slot.armMet (x : Slot) (sensors : List Nat) (i : FjImg) : Bool :=
  let q (o : Nat) : Bool := let w := (tget wzD x.inHalf o).toNat; bitOf w 0 && !bitOf w 7
  let an := match i.armAn with
    | some l => l
    | none => (sensors.filter fun n => decide (n < 128) && bitOf i.feeders (n / 4)).map fun n => 0x200 + 8 * n + 1
  an.all q && (i.armDi.all fun k => q (0x40 + 2 * (k % 64) + 1)) && (i.armRemote.all fun k => q (0x1800 + 2 * k + 1))

/-- The data, contexts, timers and output half of a cycle commit as one step (R219). -/
def Block.commitCycle (s : Nat) (y : Slot) (i : FjImg) (c : Cyc) (p : Nat) (b : Block) : Block :=
  let run := b.now - c.at_
  let late := decide (c.dead i < b.now)
  let ls := c.staged.filter fun x => !decide (x.1 ∈ c.faulted)
  let res := fun t => (tget ctxD c.ctxs t).commit (decide (t ∈ c.ended)) (decide (t ∈ c.faulted))
  let ctxs := tupdAll ctxD c.ctxs (List.range i.tasks.length) fun t _ => (res t).1
  let offs := (List.range i.tasks.length).filter fun t => (res t).2
  let fc := ls.filterMap fun x => match x.2 with | .fcset k v => some (.fcset k v) | .fcclr k => some (.fcclr k) | _ => none
  let half : OutHalf := {
    tag := c.e, words := mergeOut ls y.last, at_ := if late || c.repeated then nextPub b.now else c.e + i.n
    fc := (match y.waiting with | some h => h.fc | none => []) ++ fc }
  let sec := b.now / secE
  let rmax := if y.runSec = sec then (if y.runMax1 < run / nsE then run / nsE else y.runMax1) else run / nsE
  let prev := if y.runSec = sec then y.runMax else if y.runSec + 1 = sec then y.runMax1 else 0
  let cause := 2 * b2n (c.faulted != []) + 4 * b2n (offs != []) + 8 * b2n late
  let met := y.armMet ((List.range 160).filter fun n => (b.inRec n).sensor != 0) i
  let z : Slot := { y with
    cyc := none, data := c.data, ctxs := ctxs, trigs := mergeTrigs y.trigs c.kicks, last := half.words, lastTag := c.e, waiting := some half
    overruns := y.overruns + b2n late, blockTo := if late && !c.repeated then c.e + 2 * i.n else y.blockTo
    cause := Nat.lor y.cause cause, fmask := Nat.lor y.fmask (maskOf c.faulted), runMax := prev, runMax1 := rmax, runSec := sec
    armOk := if met then (match y.armOk with | some a => some a | none => some b.now) else y.armOk, cycled := true }
  let b : Block := { b with wheel := b.wheel.commit s (c.e * 31250) ls }
  let b := b.putSlot s z
  let b := b.raiseIf late (progSrc p) ((b.now - c.dead i) / usE : Nat)
  let b := c.faulted.foldl (fun (b : Block) t => b.raiseAt (progSrc p) b.stamp (some 0) (t * 16 + (tget ctxD c.ctxs t).fault)) b
  let b := offs.foldl (fun (b : Block) t => b.raiseAt (progSrc p) b.stamp (some 0) (t * 16)) b
  ls.foldl (fun (b : Block) x => b.effect s p i.n c.e x.2) b

/-- The commit of a shadow cycle: data, contexts and output words go to the pair's own memories, everything else is discarded
(R496). DESIGN CHOICE (log 48). -/
def Block.commitShadow (s : Nat) (y : Slot) (i : FjImg) (c : Cyc) (b : Block) : Block :=
  let ls := c.staged.filter fun x => !decide (x.1 ∈ c.faulted)
  let ctxs := tupdAll ctxD c.ctxs (List.range i.tasks.length) fun t x => (x.commit (decide (t ∈ c.ended)) (decide (t ∈ c.faulted))).1
  b.putSlot s { y with cyc := none, data := c.data, ctxs := ctxs, last := mergeOut ls y.last, lastTag := c.e }

/-- KETTLE_FIRE: no WRITE-OUT has come by K, whatever state the pair is in: it may be under its self-test, or loading for a repetition
(R225). DESIGN CHOICE (log 46). -/
def Block.kettleFire (s : Nat) (b : Block) : Block :=
  let y := b.slot s
  match y.img, (match y.cyc with | some c => some c | none => y.redo), y.pair with
  | some i, some c, some p =>
    if 8 ≤ s ∨ b.now < c.kettle i then b
    else
      let x := b.pair p
      let b := b.raise (progSrc p) ((b.now - c.dead i) / usE : Nat)
      (b.putPair p (if x.state = .testing then { x with back := .stopped } else { x with state := .stopped })).stopSlot s .kettle
  | _, _, _ => b

/-- ARM_DELAY_EXPIRY: under DELAY the slot may leave the lid at its next boundary (R59). -/
def Block.armDelay (s : Nat) (b : Block) : Block :=
  let y := b.slot s
  match y.armOk with
  | some a => if b.sys.armPolicy = 1 ∧ a + b.sys.armDelay * msE ≤ b.now then b.putSlot s { y with armCmd := true } else b
  | none => b

end Sys2Proof.Machine
end

