-- ==== Sys2Proof/Machine/Pairs.lean ====
section
/-! DEFINITION. The pairs: detections, verdicts, repetition, migration, planned takeovers and the spare role (11 of the
spec, R231 to R238; 24 of the spec, R531, R532). -/

namespace Sys2Proof.Machine
open Sys2Proof

/-- CAUSE of a detection (R239). -/
inductive Detect where
  | mismatch | parity | ecc | pulse
deriving DecidableEq, Repr

def Detect.code : Detect → Nat
  | .mismatch => 1 | .parity => 2 | .ecc => 4 | .pulse => 8

/-- A slot without a pair becomes FAULTED: a LOSS (R236, R530). DESIGN CHOICE (log 45). DEDUCED (log 55). -/
def Block.faultSlot (s p : Nat) (b : Block) : Block := ((b.fault .loss).stopSlot s .faulted).raiseOpen (pairSrc p)

/-- The header of the image slot whose firmware runs. -/
def Block.runHdr (b : Block) : ImgHdr := ((if b.sys.slotB then b.nv.imgB.hdr else b.nv.imgA.hdr)).getD {}

/-- The microcode in the store, which a pair loads: the running image's. -/
def Block.ucNow (b : Block) : Nat := b.runHdr.ucVer

/-- A pair enters the spare role, for a FAULTED slot where there is one (R236). -/
def Block.enterSpare (p : Nat) (b : Block) : Block :=
  let x := b.pair p
  (b.putPair p { x with state := .spare, slot := none, planned := false, uc := b.ucNow }).spareWork

/-- The slot's next cycle goes to the spare. Of lasting verdicts at one instant the lower slot number has the spare; a slot without one is
FAULTED (R233, R234, R236). `p` is the pair lost. -/
def Block.migrate (s p : Nat) (b : Block) : Block :=
  let b := b.dropTakeover s
  let give (q : Nat) (b : Block) : Block :=
    ((b.fault .lasting).putSlot s { b.slot s with state := .migrating, pair := some q }).putPair q
      { b.pair q with state := .loading, slot := some s, planned := false, verdict := some (b.now, p) }
  match b.spare with
  | some q => give q b
  | none =>
    match (List.range 9).find? fun q => let x := b.pair q
        x.state == .loading && (match x.slot, x.verdict with | some t, some (at_, _) => decide (s < t) && at_ == b.now | _, _ => false) with
    | some q =>
      let x := b.pair q
      let t := x.slot.getD 0
      let o := match x.verdict with | some (_, o) => o | none => q
      ((give q b).putSlot t { b.slot t with pair := none }).faultSlot t o
    | none => (b.putSlot s { b.slot s with pair := none }).faultSlot s p

/-- A `cyc.service` EXIT is answered with its verdict (R238): 0 the pair takes the spare role, 1 it enters FAILED.
DESIGN CHOICE (log 51). -/
def Block.exitAnswer (p : Nat) (failed : Bool) (b : Block) : Block :=
  let x := b.pair p
  match x.exitReq with
  | some r => (b.putPair p { x with exitReq := none }).ok r [if failed then 1 else 0]
  | none => b

/-- A pair is found to have a lasting fault: it serves nothing until a reset (R234, R532). -/
def Block.failPair (p : Nat) (b : Block) : Block :=
  let x := b.pair p
  b.putPair p { x with state := .failed, slot := none, cause := Nat.lor x.cause 16, planned := false, hreq := none }

/-- A detection stops the pair, raises event 296 + 2p and starts the pair self-test; an interrupted cycle is kept for its
repetition, and the slot is MIGRATING from the detection on (R231, R233, R234). DESIGN CHOICE (log 50). -/
def Block.detect (p : Nat) (d : Detect) (b : Block) : Block :=
  let x := b.pair p
  let go (back : PairSt) (b : Block) : Block :=
    let z : Pair := { b.pair p with state := .testing, cause := d.code, back := back, hreq := none, planned := false }
    (b.raiseOpen (pairSrc p)).putPair p z
  match x.state, x.slot with
  | .stopped, _ => go .stopped b
  | .running, some s =>
    let y := b.slot s
    if !y.running then go .running b
    else
    let b := b.putSlot s { y with
      cyc := none, redo := match y.cyc with | some c => some c | none => y.redo, state := .migrating, det := y.det ++ [(p, b.now)] }
    go .running b
  | .loading, some s =>
    let y := b.slot s
    match y.takeover with
    | some (2, _) =>
      go .running ((b.putSlot s { y with takeover := none, pair := some p, state := .migrating, det := y.det ++ [(p, b.now)] }).cancelTakeover s)
    | some _ => go .spare ((b.cancelTakeover s).putPair p { x with slot := none })
    | none => go .running (b.putSlot s { y with det := y.det ++ [(p, b.now)] })
  | .spare, _ => go .spare b
  | .service, _ => go .service (b.putSlot (8 + p) {})
  | .halted, _ => go .service (b.putSlot (8 + p) {})
  | _, _ => b

/-- PAIR_SELF_TEST_VERDICT: a lasting verdict fails the pair, the third transient one within 60 s counts as lasting, and
otherwise the pair resumes (R233 to R237, R532). -/
def Block.verdict (p : Nat) (failed : Bool) (b : Block) : Block :=
  let x := b.pair p
  if x.state != .testing then b
  else
    let recent := x.transAt.filter fun a => decide (b.now < a + 60 * secE)
    if failed || (!x.planned && decide (2 ≤ recent.length)) then
      let b := (b.failPair p).exitAnswer p true
      match x.back, x.slot with
      | .running, some s => if (b.slot s).running then b.migrate s p else (b.putSlot s { b.slot s with pair := none }).fault .lasting
      | .stopped, some s => (b.putSlot s { b.slot s with pair := none }).fault .lasting
      | _, _ => b.fault .lasting
    else
      let b := if x.planned then b else b.fault .transient
      let z : Pair := { x with transAt := if x.planned then recent else b.now :: recent }
      match x.back, x.slot with
      | .running, some s =>
        let b := b.putPair p { z with state := .running }
        if (b.slot s).redo.isSome then b.repeatCycle s
        else if (b.slot s).state == .migrating then b.putSlot s { b.slot s with state := (b.slot s).live } else b
      | .service, _ => b.putPair p { z with state := .service, slot := none }
      | .stopped, _ => b.putPair p { z with state := .stopped }
      | _, _ => ((b.putPair p z).exitAnswer p false).enterSpare p

/-- SPARE_LOAD_COMPLETE: the spare serves the slot and starts READ-IN of the repeated cycle, or waits for the next aligned
one (R233, R234). -/
def Block.spareLoaded (p : Nat) (b : Block) : Block :=
  let x := b.pair p
  match x.state, x.slot with
  | .loading, some s =>
    let y := b.slot s
    -- a load waits for a reload of the microcode store (R537)
    if y.state != .migrating || b.flt.ucReload then b
    else
      let b := (b.putPair p { x with state := .running }).putSlot s { y with pair := some p }
      if y.redo.isSome then b.repeatCycle s else b
  | _, _ => b

/-- SPARE_PULSE_TEST and SPARE_SELF_TEST: a failure moves the pair in the spare role to FAILED (R232).
DESIGN CHOICE (log 50). -/
def Block.spareTest (p : Nat) (pulse ok : Bool) (b : Block) : Block :=
  let x := b.pair p
  if x.state != .spare || ok then b
  else ((b.putPair p { x with cause := if pulse then 8 else 0 }).failPair p).fault .lasting |>.raiseOpen (pairSrc p)

/-- PAIR_ECC_CORRECTED: counted, event 454, nothing stops (R231, R533). -/
def Block.eccCorrected (p : Nat) (b : Block) : Block := (b.fault .corrected).raise 454 p

/-! ### Planned takeovers (R237, R238) -/

/-- A planned takeover begins: the spare loads the slot's code image in the background. Purpose 0 is `cyc.service` ENTER, 2 the
rolling handover. -/
def Block.takeoverStart (s q purpose : Nat) (r : Option Req) (b : Block) : Block :=
  let y := b.slot s
  (b.putSlot s { y with takeover := some (0, purpose), waitReq := r }).putPair q
    { b.pair q with state := .loading, slot := some s, planned := true }

/-- TAKEOVER_IMAGE_LOADED. -/
def Block.takeoverLoaded (s : Nat) (b : Block) : Block :=
  let y := b.slot s
  match y.takeover with
  | some (0, k) => if b.flt.ucReload then b else b.putSlot s { y with takeover := some (1, k) }
  | _ => b

/-- TAKEOVER_DATA_COPIED: from P(E+N) the spare holds the committed data and starts READ-IN of cycle E+N (R237). -/
def Block.takeoverCopied (s : Nat) (b : Block) : Block :=
  let y := b.slot s
  match y.takeover, b.loader s, y.img with
  | some (2, _), some q, some i =>
    if b.elm.pubEpoch == b.time.epoch && decide (y.nextE ≤ b.time.epoch ∧ y.blockTo ≤ b.time.epoch) && b.time.epoch % i.n == 0 then
      let b := (b.putPair q { b.pair q with state := .running, slot := some s, planned := false }).putSlot s
        { y with takeover := none, pair := some q, waitReq := none }
      let b := b.beginCycle s
      match y.waitReq with | some r => b.answer r stOK b.time.epoch [] | none => b
    else b
  | _, _, _ => b

/-- After a commit: the outgoing pair of a takeover is freed, to SERVICE or to its self-test (R237, R238). -/
def Block.takeoverCommit (s p : Nat) (b : Block) : Block :=
  let y := b.slot s
  match y.takeover with
  | some (1, k) =>
    let x := b.pair p
    (b.putSlot s { y with takeover := some (2, k), pair := none }).putPair p
      (if k = 0 then { x with state := .service, slot := none }
       else { x with state := .testing, slot := none, planned := true, back := .spare })
  | _ => b

/-- CYCLE_WRITE_OUT: RUN has ended at or before K, the cycle commits, and the pulse test of the idle gap follows (R219, R222 to
R224, R232). -/
def Block.writeOut (s : Nat) (pulseOk : Bool) (b : Block) : Block :=
  let y := b.slot s
  match y.img, y.cyc with
  | some i, some c =>
    if c.ready != [] || c.stack != [] || !b.mayRun s && (b.pair (s - 8)).state != .service then b
    else if 8 ≤ s then
      let b := b.commitShadow s y i c
      if pulseOk then b
      else
        -- the pair in SERVICE fails, and its shadow run ends (R232)
        let p := s - 8
        ((((b.raiseOpen (pairSrc p)).putPair p { b.pair p with cause := 8 }).failPair p).putSlot s {}).fault .lasting
    else
      match y.pair with
      | none => b
      | some p =>
        if decide (c.kettle i < b.now) then b
        else
          let b := (b.commitCycle s y i c p).takeoverCommit s p |>.logicSteps
          let x := b.pair p
          if pulseOk then b
          else
            -- a lasting fault without a self-test: the half just committed stands (R232)
            let b := b.raiseOpen (pairSrc p)
            match x.state, x.slot with
            | .running, some s =>
              let z := b.slot s
              let b := b.putSlot s { z with det := z.det ++ [(p, b.now)] }
              if !z.running then ((b.putPair p { x with cause := 8 }).failPair p).fault .lasting
              else
              ((b.putPair p { x with cause := 8 }).failPair p).migrate s p
            | _, _ => ((b.putPair p { x with cause := 8 }).failPair p).fault .lasting
  | _, _ => b

/-! ### Meanings -/

def execKettleFire (slot : Nat) (s : State) : Out := s.done (s.blk.kettleFire slot)
def execArmDelayExpiry (slot : Nat) (s : State) : Out := s.done (s.blk.armDelay slot)
def execTaskSwitch (slot : Nat) (s : State) : Out := s.done (s.blk.taskSwitch slot)
def execLockstepMismatch (p : Nat) (s : State) : Out := s.done (s.blk.detect p .mismatch)
def execDelayParityError (p : Nat) (s : State) : Out := s.done (s.blk.detect p .parity)
def execPairEccUncorrectable (p : Nat) (s : State) : Out := s.done (s.blk.detect p .ecc)
def execPairEccCorrected (p : Nat) (s : State) : Out := s.done (s.blk.eccCorrected p)
def execPairSelfTestVerdict (p : Nat) (failed : Bool) (s : State) : Out := s.done (s.blk.verdict p failed)
def execSpareLoadComplete (p : Nat) (s : State) : Out := s.done (s.blk.spareLoaded p)
def execSparePulseTest (p : Nat) (ok : Bool) (s : State) : Out := s.done (s.blk.spareTest p true ok)
def execSpareSelfTest (p : Nat) (ok : Bool) (s : State) : Out := s.done (s.blk.spareTest p false ok)
def execTakeoverImageLoaded (slot : Nat) (s : State) : Out := s.done (s.blk.takeoverLoaded slot)
def execTakeoverDataCopied (slot : Nat) (s : State) : Out := s.done (s.blk.takeoverCopied slot)
def execImageTakeover (slot : Nat) (s : State) : Out := s.done (s.blk.imageTakeover slot)

end Sys2Proof.Machine
end

