-- ==== Sys2Proof/Machine/CycCmd.lean ====
section
/-! DEFINITION. The `cyc.` and `img.read` commands (11 and 14 of the spec, R221, R230, R238, R239, R312; 19 of the spec, R446,
R447). -/

namespace Sys2Proof
open Sys2Proof.Machine

/-- What the bytes of an FJ image declare, none where they are no image. No rule lays the image out in bytes.
DESIGN CHOICE (log 25). -/
opaque Config.fjImage : List Byte → Option FjImg
/-- OFFSET of a refused `cyc.load` CHECK, by the bytes and the REASON (R446 names no rule for it). DESIGN CHOICE (log 25). -/
opaque Config.fjOffset : List Byte → Nat → Word

end Sys2Proof

namespace Sys2Proof.Machine
open Sys2Proof

/-! ### `cyc.load` (R446) -/

/-- Largest FJ image. -/
def imgMax : Nat := 786432

/-- The type maps satisfy R243. -/
def TaskDef.typesOk (d : TaskDef) : Bool :=
  !d.types.contains .bad && decide (d.types.length = 64) &&
  (match d.kind with
   | 1 => d.types.take 3 == [.uint, .uint, .uint]
   | 2 => d.types.take 4 == [.uint, .uint, .time, .qual]
   | _ => true)

/-- The task table satisfies R226, and N and GRACE lie in the ranges of R221. -/
def FjImg.tasksOk (i : FjImg) : Bool :=
  decide (1 ≤ i.n ∧ i.n ≤ 640 ∧ i.grace ≤ 50 ∧ i.tasks.length ≤ 16) &&
  (i.tasks.filter fun d => d.kind == 1).length == 1 &&
  i.tasks.all fun d =>
    decide (d.kind ≤ 2) && decide (d.prio ≤ 15) && (d.kind != 0 || decide (1 ≤ d.div ∧ d.div ≤ 64 ∧ d.phase < d.div)) &&
    (d.kind != 2 || decide (d.trig ≤ 3))

/-- Every OUTSET lies within the output-half words that may be written and the slot's owned outputs (R302, R446). -/
def FjImg.outsetOk (i : FjImg) : Bool :=
  i.tasks.all fun d =>
    (d.outset.all fun r =>
      decide (r.1 ≤ r.2 ∧ r.2 < 16384) && (decide (r.2 = 0) || decide (16 ≤ r.1)) && !(decide (r.1 < 256) && decide (0x98 ≤ r.2))) &&
    (List.range 32).all fun j => !bitOf d.outs j || bitOf i.outputs j

/-- At most 256 control objects with every field in range (R442). -/
def FjImg.objsOk (i : FjImg) : Bool :=
  decide (i.objs.length ≤ 256) &&
  i.objs.all fun o => decide (o.classes < 16) && (o.minAuth == 2 || o.minAuth == 3) &&
    decide (1 ≤ o.selTmo ∧ o.selTmo ≤ 300 ∧ 10 ≤ o.ansTmo ∧ o.ansTmo ≤ 10000)

/-- Bytes of a pair's code memory (R218). -/
def codeMax : Nat := 524288

/-- The first REASON for which an image is refused. -/
def Block.imgReason (b : Block) (i : FjImg) : Option Nat :=
  if i.pcf ≠ b.runHdr.pcf then some 2
  else if !i.tasks.all TaskDef.typesOk then some 3
  else if !i.tasksOk then some 4
  else if !i.outsetOk then some 5
  else if clsQuota 1 < i.timers.length || !i.timers.all (fun t => decide (1 ≤ t.1 ∧ t.1 ≤ 3)) then some 6
  else if !i.objsOk then some 7 else none

/-- CYC_LOAD_CHECK. -/
def cycLoadCheck (r : Req) (b : Block) : Block :=
  b.onOp 0x0501 r (fld r.payload 1 1 != 2) fun b =>
    let s := fld r.payload 0 1
    let n := fld r.payload 4 4
    let y := b.slot s
    let bad (p : List Byte) (why : Nat) : Block := b.answer r stBADARG b.time.epoch (leBytes 4 (Config.fjOffset p why).toNat ++ leBytes 2 why)
    if 7 < s ∨ fld r.payload 1 1 ≠ 0 ∨ fld r.payload 2 2 ≠ 0 then b.status r stBADARG
    else if b.ladleOn (0x10 + s) then b.status r stBUSY
    else if imgMax < n then bad [] 1
    else
      let p := memRead y.stage 0 n
      if crc32 p ≠ fld r.payload 8 4 then bad p 1
      else match Config.fjImage p with
        | none => bad p 2
        | some i =>
          -- the code must fit a pair's code memory (R218)
          if codeMax < i.code then bad p 1 else
          match b.imgReason i with
          | some why => bad p why
          | none => (b.putSlot s { y with loaded := some ({ i with bytes := p }, n) }).status r stOK

/-- CYC_LOAD_READ. -/
def cycLoadRead (r : Req) (b : Block) : Block :=
  b.onOp 0x0501 r (fld r.payload 1 1 == 2) fun b =>
    let s := fld r.payload 0 1
    if 7 < s ∨ fld r.payload 1 1 ≠ 2 ∨ fld r.payload 2 2 ≠ 0 then b.status r stBADARG
    else match (b.slot s).loaded with
      | some x => b.ok r (leBytes 4 1 ++ leBytes 4 x.2)
      | none => b.ok r (zeros 8)

/-! ### `cyc.activate` (R221, R447) -/

/-- CYC_ACTIVATE: each named slot is LOADED, and the declarations of all images in force or to come fit the logic quota at every boundary
at which one of them takes over (R199); the images are protection content (R504). -/
def cycActivate (r : Req) (b : Block) : Block :=
  b.onReq 0x0502 r fun b =>
    let m := fld r.payload 0 1
    let ss := bitList m 8
    let decl (s : Nat) : Nat :=
      let y := b.slot s
      let l : List (Option FjImg) := [y.img, if s ∈ ss then y.loaded.map (·.1) else y.acting, y.next.map (·.2)]
      l.foldl (fun n o => match o with | some i => if n < i.timers.length then i.timers.length else n | none => n) 0
    let total := (List.range 8).foldl (fun n s => n + decl s) 0
    if !allZero (r.payload.drop 1) || !ss.all (fun s => (b.slot s).loaded.isSome) then b.status r stBADARG
    else if clsQuota 1 < total then
      Block.status r stBADARG (Block.raise 319 1 { b with wheel := { b.wheel with refused := lupd b.wheel.refused 1 (· + 1) } })
    else if b.flashBusy then b.status r stBUSY
    else
      (ss.foldl (fun (b : Block) s => let y := b.slot s
                                      b.putSlot s { y with acting := y.loaded.map (·.1), loaded := none }) b).journal true 0x0502 r

/-- Both appends of an activation are done: S is named (R221, R447). -/
def cycActivateCommit (r : Req) (b : Block) : Block :=
  let q := b.effS
  let b := (bitList (fld r.payload 0 1) 8).foldl (fun (b : Block) s =>
    let y := b.slot s
    match y.acting with
    | some i =>
      { b.putSlot s { y with acting := none, next := some (q, i) } with
        nv := { b.nv with store := { b.nv.store with images := tset (fun _ => none) b.nv.store.images s (some i) } } }
    | none => b) b
  b.answer r stOK q []

/-! ### `cyc.restart` (R230) -/

/-- CYC_RESTART. DESIGN CHOICE (log 51). -/
def cycRestart (r : Req) (b : Block) : Block :=
  b.onReq 0x0503 r fun b =>
    let p := r.payload
    let s := fld p 0 1
    let fl := fld p 1 1
    let tasks := fld p 2 2
    let pr := fld p 4 1
    if 7 < s ∨ 3 < fl ∨ (8 < pr ∧ pr ≠ 255) ∨ fld p 5 3 ≠ 0 then b.status r stBADARG
    else
      let y := b.slot s
      match y.state with
      | .kettle | .faulted =>
        if tasks ≠ 0 ∨ (y.damaged && fl % 2 == 0) then b.status r stBADARG
        else
          let own := b.ownPair s
          let q := if pr = 255 then (match own with | some q => some q | none => b.spare)
            else if own = some pr ∨ (b.pair pr).state = .spare then some pr else none
          match q with
          | none => b.status r stNOTREADY
          | some q =>
            let e := b.restartEpoch s
            (b.restart s q (bitOf fl 0) (bitOf fl 1)).answer r stOK e []
      | .empty => b.status r stNOTREADY
      | _ =>
        if tasks = 0 then b.status r stBADARG
        else
          let re (t : Nat) (c : Ctx) : Ctx := if bitOf tasks t then
              { c with lidOut := c.lidOut || c.faultDis, faultDis := false, tdis := false, faults := 0 } else c
          let all (x : Tab Ctx) : Tab Ctx := tupdAll ctxD x (List.range 16) re
          (b.putSlot s { y with
            ctxs := all y.ctxs, cyc := match y.cyc with | some c => some { c with ctxs := all c.ctxs } | none => none }).answer
            r stOK y.nextE []

/-! ### `cyc.service` (R238) -/

/-- CYC_SERVICE_ENTER: a planned takeover of a running slot; the freed pair enters SERVICE. -/
def cycServiceEnter (r : Req) (b : Block) : Block :=
  b.onOp 0x0504 r (fld r.payload 0 1 == 0) fun b =>
    let s := fld r.payload 1 1
    if fld r.payload 0 1 ≠ 0 ∨ 7 < s ∨ fld r.payload 2 2 ≠ 0 then b.status r stBADARG
    -- an activation is running (R522)
    else if b.nv.stg.req.isSome then b.status r stBUSY
    else
      let y := b.slot s
      match b.spare, y.pair with
      | some q, some _ =>
        if (y.state == .lidded || y.state == .run) && y.takeover.isNone then b.takeoverStart s q 0 (some r) else b.status r stNOTREADY
      | _, _ => b.status r stNOTREADY

/-- CYC_SERVICE_EXIT: the pair is self-tested, and the response carries the verdict. Another OP is answered BAD_ARG. -/
def cycServiceExit (r : Req) (b : Block) : Block :=
  b.onOp 0x0504 r (fld r.payload 0 1 != 0) fun b =>
    let p := fld r.payload 1 1
    if fld r.payload 0 1 ≠ 1 ∨ 8 < p ∨ fld r.payload 2 2 ≠ 0 then b.status r stBADARG
    else
      let x := b.pair p
      if x.state == .service || x.state == .halted then
        -- the halt and the shadow run end (R497)
        (b.putSlot (8 + p) {}).putPair p
          { x with state := .testing, planned := true, back := .spare, exitReq := some r, hreq := none, slot := none, bps := [] }
      else b.status r stNOTREADY

/-! ### `cyc.state` (R239) -/

def SlotSt.code : SlotSt → Nat
  | .empty => 0 | .lidded => 1 | .run => 2 | .migrating => 3 | .kettle => 4 | .faulted => 5
def PairSt.code : PairSt → Nat
  | .spare => 0 | .running => 1 | .stopped => 2 | .testing => 3 | .loading => 4 | .service => 5 | .halted => 6 | .failed => 7

/-- Feeders and outputs a slot owns, its defaults while it has no image (R220). DESIGN CHOICE (log 43). -/
def Block.feedersOf (b : Block) (s : Nat) : Nat := match (b.slot s).img with | some i => i.feeders | none => 15 * 16 ^ s
def Block.outputsOf (b : Block) (s : Nat) : Nat := maskOf ((List.range 32).filter fun j => b.ownerOf j == some s)

/-- The aligned epochs already past at which a busy or stopped slot has begun no cycle. -/
def Block.missed (b : Block) (s : Nat) : Nat :=
  let y := b.slot s
  match y.img with
  | some i => y.preSkip + if y.running && y.entered && i.n != 0 && decide (y.nextE < b.time.epoch) then (b.time.epoch - y.nextE + i.n - 1) / i.n else 0
  | none => 0

def Block.slotBytes (b : Block) (s : Nat) : List Byte :=
  let y := b.slot s
  let i := y.img.getD { n := 0, grace := 0 }
  let dis := maskOf ((List.range 16).filter fun t => (tget ctxD y.ctxs t).off)
  let sec := b.now / secE
  let rm := if y.runSec = sec then y.runMax else if y.runSec + 1 = sec then y.runMax1 else 0
  leBytes 1 s ++ leBytes 1 y.state.code ++ leBytes 1 (y.pair.getD 255) ++ leBytes 1 i.grace ++ leBytes 2 i.n ++ leBytes 2 dis ++
  leBytes 4 (b.feedersOf s) ++ leBytes 4 (b.outputsOf s) ++ leBytes 4 (satN 0xFFFFFFFF y.overruns) ++
  leBytes 4 (satN 0xFFFFFFFF (y.skipped + b.missed s)) ++ leBytes 4 (satN 0xFFFFFFFF rm) ++ leBytes 4 (y.forceTag % 2 ^ 32)

def Block.pairBytes (b : Block) (p : Nat) : List Byte :=
  let x := b.pair p
  let n := (x.transAt.filter fun a => decide (b.now < a + 60 * secE)).length
  leBytes 1 p ++ leBytes 1 x.state.code ++ leBytes 1 (x.slot.getD 255) ++ leBytes 1 x.cause ++ leBytes 2 (satN 65535 n) ++ zeros 2

/-- The 328 bytes of `cyc.state`. -/
def Block.cycBytes (b : Block) : List Byte := (List.range 8).flatMap b.slotBytes ++ (List.range 9).flatMap b.pairBytes


/-- CYC_STATE. DESIGN CHOICE (log 51). -/
def cycState (r : Req) (b : Block) : Block :=
  b.onReq 0x0505 r fun b => if allZero r.payload then b.answer r stOK b.pin b.cycBytes else b.status r stBADARG

/-! ### `img.read` (R24, R312) -/

/-- IMG_READ. -/
def imgRead (r : Req) (b : Block) : Block :=
  b.onReq 0x0601 r fun b =>
    let p := r.payload
    let s := fld p 0 1
    let h := fld p 1 1
    let f := fld p 2 2
    let n := fld p 4 2
    if 7 < s ∨ 1 < h ∨ n = 0 ∨ 1021 < n ∨ 16384 < f + n ∨ fld p 6 2 ≠ 0 then b.status r stBADARG
    else
      let y := b.slot s
      if y.state = .empty then b.status r stNOTREADY
      else
        -- the output half is the one committed by the cycle before the one in progress (R24)
        let t := if h = 0 then y.inHalf else y.pubLast
        b.answer r stOK b.pin (leBytes 8 (if h = 0 then y.inTag else y.pubTag) ++ leBytes 1 y.state.code ++ zeros 3 ++
          ((tgetRun wzD t f n).flatMap fun w => leBytes 4 w.toNat))

/-! ### Meanings -/

def execCycLoadCheck (r : Req) (s : State) : Out := s.done (cycLoadCheck r s.blk)
def execCycLoadRead (r : Req) (s : State) : Out := s.done (cycLoadRead r s.blk)
def execCycActivate (r : Req) (s : State) : Out := s.done (cycActivate r s.blk)
def execCycRestart (r : Req) (s : State) : Out := s.done (cycRestart r s.blk)
def execCycServiceEnter (r : Req) (s : State) : Out := s.done (cycServiceEnter r s.blk)
def execCycServiceExit (r : Req) (s : State) : Out := s.done (cycServiceExit r s.blk)
def execCycState (r : Req) (s : State) : Out := s.done (cycState r s.blk)
def execImgRead (r : Req) (s : State) : Out := s.done (imgRead r s.blk)

end Sys2Proof.Machine
end

