-- ==== Sys2Proof/Machine/Ctl.lean ====
section
/-! DEFINITION. Control objects: the `ctl.` commands, arbitration, lapses and answers (19 of the spec, R442, R443). -/

namespace Sys2Proof.Machine
open Sys2Proof

/-- The declaration of an object, none where the slot's image declares no such object. -/
def Block.ctlDecl (b : Block) (s i : Nat) : Option CtlDecl := match (b.slot s).img with | some g => g.objs[i]? | none => none


def Block.ctlObj (b : Block) (s i : Nat) : CtlObj := (tget ctlD (b.slot s).objs i).at b.time.epoch
def Block.putCtl (s i : Nat) (o : CtlObj) (b : Block) : Block :=
  let y := b.slot s
  b.putSlot s { y with objs := tset ctlD y.objs i o }

/-- The checks that `ctl.select` and `ctl.operate` share (R442). -/
def Block.ctlBad (b : Block) (select : Bool) (p : List Byte) : Bool :=
  let k := fld p 2 1
  match b.ctlDecl (fld p 0 1) (fld p 1 1) with
  | none => true
  | some d => decide (7 < fld p 0 1) || decide (3 < k) || !bitOf d.classes k || fld p 3 1 != 0 || (k != 3 && fld p 4 4 != 0) || (select && !d.sbo)

/-- An order of a client for the arbitration at the next tick (R443). -/
def Block.ctlOrder (r : Req) (select : Bool) (b : Block) : Block :=
  let p := r.payload
  let o : Order := {
    slot := fld p 0 1, index := fld p 1 1, cls := fld p 2 1, value := fld p 4 4, client := some r.client, auth := b.authOf r.client
    select := select, seq := r.seq, flags := r.flags, epoch := b.time.epoch }
  { b with mbx := { b.mbx with orders := b.mbx.orders ++ [o] } }

/-- CTL_SELECT. -/
def ctlSelect (r : Req) (b : Block) : Block :=
  b.onReq 0x1001 r fun b => if b.ctlBad true r.payload then b.status r stBADARG else b.ctlOrder r true

/-- The client's own selection, in CLASS and VALUE. -/
def CtlObj.selectedBy (o : CtlObj) (c k v : Nat) : Bool :=
  match o.state with | .selected d _ l w _ => d == c && l == k && w == v | _ => false

/-- CTL_OPERATE. -/
def ctlOperate (r : Req) (b : Block) : Block :=
  b.onReq 0x1002 r fun b =>
    let p := r.payload
    let s := fld p 0 1
    let i := fld p 1 1
    if b.ctlBad false p then b.status r stBADARG
    else
      let sbo := match b.ctlDecl s i with | some d => d.sbo | none => false
      if sbo && !(b.ctlObj s i).selectedBy r.client (fld p 2 1) (fld p 4 4) then b.status r stNOTSEL else b.ctlOrder r false

/-- CTL_CANCEL: the client's selection is released at once; a pending order is never withdrawn. -/
def ctlCancel (r : Req) (b : Block) : Block :=
  b.onReq 0x1003 r fun b =>
    let p := r.payload
    let s := fld p 0 1
    let i := fld p 1 1
    if 7 < s ∨ (b.ctlDecl s i).isNone ∨ fld p 2 1 ≠ 0 ∨ fld p 3 1 ≠ 0 ∨ fld p 4 4 ≠ 0 then b.status r stBADARG
    else
      let o := b.ctlObj s i
      match o.state with
      | .selected c _ _ _ _ => if c = r.client then (b.putCtl s i { o with state := .idle }).status r stOK else b.status r stNOTSEL
      | _ => b.status r stNOTSEL

/-- The 16-byte record of an object. -/
def Block.ctlBytes (b : Block) (s i : Nat) : List Byte :=
  match b.ctlDecl s i with
  | none => leBytes 1 i ++ [3] ++ zeros 2 ++ [255] ++ zeros 11
  | some d =>
    let o := b.ctlObj s i
    let x : Nat × Nat × Nat × Nat × Nat × Nat := match o.state with
      | .idle => (0, 0, 255, 0, 0, 0)
      | .selected c a k v l => (1, k, c, a, v, l)
      | .pending c a k v _ _ _ _ => (2, k, c, a, v, 0)
    leBytes 1 i ++ leBytes 1 x.1 ++ leBytes 1 x.2.1 ++ leBytes 1 (b2n d.sbo) ++ leBytes 1 x.2.2.1 ++ leBytes 1 x.2.2.2.1 ++
    leBytes 2 o.result ++ leBytes 4 x.2.2.2.2.1 ++ leBytes 4 (x.2.2.2.2.2 % 2 ^ 32)

/-- CTL_READ. -/
def ctlRead (r : Req) (b : Block) : Block :=
  b.onReq 0x1004 r fun b =>
    let p := r.payload
    let s := fld p 0 1
    let f := fld p 1 1
    let n := fld p 2 1
    if 7 < s ∨ n = 0 ∨ 256 < f + n ∨ fld p 3 1 ≠ 0 then b.status r stBADARG
    else b.ok r ((List.range n).flatMap fun k => b.ctlBytes s (f + k))

/-! ### Arbitration (R443) -/

/-- The keys of R443: class, source, authority, client; the lower ranks above. -/
def rankOf (cls : Nat) (client : Option Nat) (auth : Nat) : List Nat :=
  match client with | none => [cls, 0, 0, 0] | some c => [cls, 1, 4 - auth, c]

/-- DESIGN CHOICE (log 52). -/
def Order.rank (o : Order) : List Nat := rankOf o.cls o.client o.auth

/-- Lexicographic order of keys. DESIGN CHOICE (log 52). -/
def lexLt : List Nat → List Nat → Bool
  | [], [] => false
  | [], _ => true
  | _, [] => false
  | a :: r, c :: q => decide (a < c) || (a == c && lexLt r q)

/-- The highest-ranked order, the first accepted among equals. DESIGN CHOICE (log 52). -/
def topOrder (l : List Order) : Option Order :=
  l.foldl (fun m o => match m with | none => some o | some w => if lexLt o.rank w.rank then some o else some w) none

/-- The request of an order. -/
def Block.orderReq (b : Block) (cmd client seq : Nat) : Option Req :=
  (b.mbx.accepted.find? fun a => a.req.client == client && a.req.seq == seq && a.req.cmd == cmd).map (·.req)

/-- Answer an order of a client; a slot's order takes the status as its RESULT. -/
def Block.orderAnswer (o : Order) (st : Nat) (p : List Byte) (b : Block) : Block :=
  match o.client with
  | none => b.putCtl o.slot o.index { b.ctlObj o.slot o.index with result := st }
  | some c => match b.orderReq (if o.select then 0x1001 else 0x1002) c o.seq with
    | some r => b.answer r st b.time.epoch p
    | none => b

/-- CONFLICT, with its event. -/
def Block.orderConflict (o : Order) (b : Block) : Block := (b.orderAnswer o stCONFLICT []).raise 431 (o.slot * 256 + o.index : Nat)

/-- The winner proceeds as from IDLE: a select holds the object, an operate is pending and latches TRIG 3, and the slot's own
order leaves it IDLE with RESULT OK. -/
def Block.orderIdle (o : Order) (d : CtlDecl) (b : Block) : Block :=
  let x := b.ctlObj o.slot o.index
  match o.client with
  | none => (b.putCtl o.slot o.index { x with state := .idle }).orderAnswer o stOK []
  | some c =>
    if o.select then
      let l := b.time.epoch + d.selTmo * 32000
      (b.putCtl o.slot o.index { x with state := .selected c o.auth o.cls o.value l }).orderAnswer o stOK (leBytes 8 l)
    else
      let b := b.putCtl o.slot o.index { x with state := .pending c o.auth o.cls o.value o.seq b.now (tickE b.time.epoch + d.ansTmo * msE) o.flags }
      let y := b.slot o.slot
      -- the order is visible from the first cycle after this tick, so its trigger is latched for a READ-IN
      let y1 := ({ y with cyc := none } : Slot).trigger 3 o.index b.ns64 b.time.tcQual
      b.putSlot o.slot { y1 with cyc := y.cyc }

/-- The winner meets the object's state (R443). -/
def Block.orderMeet (o : Order) (d : CtlDecl) (b : Block) : Block :=
  let x := b.ctlObj o.slot o.index
  match x.state with
  | .idle => b.orderIdle o d
  | .selected c _ k _ _ =>
    if o.client = some c && !o.select then b.orderIdle o d
    else if o.cls < k ∨ (o.cls = k ∧ o.client = none) then b.orderIdle o d
    else b.orderConflict o
  | .pending c a k _ q _ _ _ =>
    if o.cls = 0 && lexLt o.rank (rankOf k (some c) a) then
      let b := match b.orderReq 0x1002 c q with
        | some r => (b.status r stCONFLICT).raise 431 (o.slot * 256 + o.index : Nat)
        | none => b
      b.orderIdle o d
    else b.orderConflict o

/-- The orders of one object that reached the SP in epoch e. -/
def Block.arbitrate (e s i : Nat) (b : Block) : Block :=
  let mine (o : Order) : Bool := o.slot == s && o.index == i && o.epoch == e
  let due := b.mbx.orders.filter mine
  let b : Block := { b with mbx := { b.mbx with orders := b.mbx.orders.filter fun o => !mine o } }
  match topOrder due, b.ctlDecl s i with
  | some w, some d =>
    let b := (due.erase w).foldl (fun (b : Block) o => b.orderConflict o) b
    if w.client.isSome && !w.select && (b.slot s).state != .run && (b.slot s).state != .migrating then b.orderAnswer w stNOTREADY []
    else b.orderMeet w d
  | _, _ => due.foldl (fun (b : Block) o => b.orderAnswer o stNOTREADY []) b

/-- CONTROL_ARBITRATION at a tick: every object with orders of an epoch that has ended, epoch by epoch. -/
def Block.arbitrateAll (b : Block) : Block :=
  let keys := (b.mbx.orders.filter fun o => decide (o.epoch < b.time.epoch)).map fun o => (o.epoch, o.slot, o.index)
  keys.eraseDups.foldl (fun (b : Block) k => b.arbitrate k.1 k.2.1 k.2.2) b

/-- SELECTION_LAPSE: without a message. -/
def Block.selLapse (s i : Nat) (b : Block) : Block := b.putCtl s i (b.ctlObj s i)

/-- CONTROL_ANSWER_TIMEOUT (R442). -/
def Block.ansTimeout (s i : Nat) (b : Block) : Block :=
  let x := b.ctlObj s i
  match x.state with
  | .pending c _ _ _ q _ dl _ =>
    if dl ≤ b.now then
      let b := (b.putCtl s i { x with state := .idle }).raise 435 (s * 256 + i : Nat)
      match b.orderReq 0x1002 c q with | some r => b.status r stNOANSWER | none => b
    else b
  | _ => b

/-! ### Meanings -/

def execCtlSelect (r : Req) (s : State) : Out := s.done (ctlSelect r s.blk)
def execCtlOperate (r : Req) (s : State) : Out := s.done (ctlOperate r s.blk)
def execCtlCancel (r : Req) (s : State) : Out := s.done (ctlCancel r s.blk)
def execCtlRead (r : Req) (s : State) : Out := s.done (ctlRead r s.blk)
def execControlArbitration (s : State) : Out := s.done s.blk.arbitrateAll
def execSelectionLapse (slot i : Nat) (s : State) : Out := s.done (s.blk.selLapse slot i)
def execControlAnswerTimeout (slot i : Nat) (s : State) : Out := s.done (s.blk.ansTimeout slot i)

end Sys2Proof.Machine
end

