-- ==== Sys2Proof/Machine/Net.lean ====
section
/-! DEFINITION. The net island: ports, redundant pairs, transmit queues and timed launch, and the `net.` commands (R362 to
R364, R374 to R381, R392 to R394). -/

namespace Sys2Proof.Machine
open Sys2Proof

/-! ### Reception -/

/-- A good frame ends a run of bad ones; its length is recorded (R394). -/
def Block.goodRx (p : Nat) (b : Block) : Block :=
  let x := b.port p
  let b := if x.badRun = 0 then b else b.quantity (netSrc p 1) x.badRun
  b.putPort p fun x => { x.count .rxFrames with badRun := 0 }

/-- A valid trailer, or the own supervision frame in a ring, is heard on a port: it ends a loss (R378, R379). -/
def Block.heard (p : Nat) (b : Block) : Block :=
  let b := match (b.port p).lost with
    | some t => b.quantity (netSrc p 4) (((b.now - t) / msE : Nat) : Int)
    | none => b
  b.putPort p fun x => { x with heardAt := b.now, lost := none }

/-- The duplicate table of a pair. -/
def Block.dups (b : Block) (k : Nat) : List Dup := tget (fun _ => []) b.net.dups k
def Block.putDups (k : Nat) (l : List Dup) (b : Block) : Block :=
  { b with net := { b.net with dups := tset (fun _ => []) b.net.dups k l } }

/-- The live entry of a source and a sequence number: it is forgotten after 400 ms (R378). -/
def Block.dupOf (b : Block) (k src seq : Nat) : Option Dup :=
  (b.dups k).find? fun d => d.src == src && d.seq == seq && decide (b.now < d.at_ + 400 * msE)

/-- Enter or change an entry; a full table of 1,024 loses its oldest (R378). -/
def Block.dupPut (k src seq : Nat) (f : Dup → Dup) (b : Block) : Block :=
  match b.dupOf k src seq with
  | some _ => b.putDups k ((b.dups k).map fun d => if d.src = src ∧ d.seq = seq then f d else d)
  | none =>
    let l := (b.dups k).filter fun d => !(d.src == src && d.seq == seq)
    let l := if 1024 ≤ l.length then l.drop (l.length - 1023) else l
    b.putDups k (l ++ [f { src := src, seq := seq, at_ := b.now }])

/-- The source address is blocked after an address conflict (R402). -/
def Block.isBlocked (b : Block) (mac : Nat) : Bool := b.fab.blocked.any fun x => x.1 == mac && decide (b.now < x.2)

/-- A frame with a good FCS comes in at a port: it is counted, and the redundancy of the pair accepts it or discards it as
a copy; a blocked source is discarded (R376, R378, R379, R402). DESIGN CHOICE (log 64). -/
def Block.rxIn (h : RxHdr) (b : Block) : Bool × Block :=
  let p := h.port
  if !b.alive p then (false, b)
  else
    let b := b.goodRx p
    if b.isBlocked h.src then (false, b)
    else match b.red p, h.seq with
    | 1, some (sq, lan) =>
      let b := b.heard p
      let b := if lan = p % 2 then b else b.countNet p .wrongLan
      match b.dupOf (p / 2) h.src sq with
      | some _ => (false, b.countNet p .dupDiscard)
      | none => (true, b.dupPut (p / 2) h.src sq fun d => { d with consumed := true })
    | 2, some (sq, _) =>
      match b.dupOf (p / 2) h.src sq with
      | some d => if d.consumed then (false, b.countNet p .dupDiscard)
        else (true, b.dupPut (p / 2) h.src sq fun d => { d with consumed := true })
      | none => (true, b.dupPut (p / 2) h.src sq fun d => { d with consumed := true })
    | _, _ => (true, b)

/-- A frame dropped at the entry of the SP: counted, and event k = 2 for the burst (R394). -/
def Block.rxDrop (p : Nat) (c : NetCtr) (b : Block) : Block :=
  let first := (b.port p).dropRun = 0
  let b := b.putPort p fun x => { x.count c with dropRun := x.dropRun + 1 }
  if first then b.raiseOpen (netSrc p 2) else b

/-- A frame passes: a burst of dropped ones has ended. -/
def Block.rxPass (p : Nat) (b : Block) : Block :=
  let n := (b.port p).dropRun
  let b := if n = 0 then b else b.quantity (netSrc p 2) n
  b.putPort p fun x => { x with dropRun := 0 }

/-- The port is in admission (R64). -/
def Block.admitting (b : Block) (p : Nat) : Bool := !b.sys.admDone.getD p false

/-- Admission of a frame of the second class: 1,000 per 10 ms while the port is in admission (R65), the token bucket of
R381 afterwards. A hello is governed by R66 in admission; afterwards it takes a token, and 16 per hello interval pass
without one. -/
def Block.police (p : Nat) (hello : Bool) (b : Block) : Bool × Block :=
  if b.admitting p then
    if hello then (true, b.rxPass p)
    else
      let w := b.sys.admCnt.getD p (0, 0)
      let w := if w.1 + 10 * msE ≤ b.now then (b.now / (10 * msE) * (10 * msE), 0) else w
      if w.2 < 1000 then
        (true, Block.rxPass p { b with sys := { b.sys with admCnt := lupd b.sys.admCnt p fun _ => (w.1, w.2 + 1) } })
      else
        (false, Block.rxDrop p .admitDrop { b with sys := { b.sys with
          admCnt := lupd b.sys.admCnt p (fun _ => w), admDrop := lupd b.sys.admDrop p (· + 1) } })
  else
    let x := b.port p
    let have_ := satN 1000000000 (x.bucket + (b.nowNs - x.bucketAt) * b.net.cfg.police.getD p 20)
    let free := hello && decide (x.hellos < 16)
    let take := if 1000000 ≤ have_ then have_ - 1000000 else have_
    let b := b.putPort p fun x => { x with
      bucket := take, bucketAt := b.nowNs, hellos := if hello then x.hellos + 1 else x.hellos }
    if 1000000 ≤ have_ || free then (true, b.rxPass p) else (false, b.rxDrop p .rxPoliced)

/-- The derived stamp of a frame, as ns64: linear extrapolation from the two latest beacons before it, with a step added
until two beacons follow the step (R356). Without two beacons the manual gives no value. DESIGN CHOICE (log 57). -/
def Block.derived (h : RxHdr) (b : Block) : Nat × Block :=
  let q := tget ptpD b.time.ports h.port
  let ext (n1 t1 n0 t0 : Nat) (add : Int) : Nat :=
    ofSigned 64 ((t1 : Int) + rneI (((h.ncount : Int) - n1) * dist64 t1 t0) (n1 - n0) + add)
  match q.beacons, q.old with
  | (n1, t1) :: (n0, t0) :: _, _ => if n0 < n1 then (ext n1 t1 n0 t0 0, b) else (t1, b)
  | _, (n1, t1) :: (n0, t0) :: _ => if n0 < n1 then (ext n1 t1 n0 t0 q.stepAdd, b) else (t1, b)
  | _, _ => ((Config.freeDWord b.fresh).toNat, { b with fresh := b.fresh + 1 })

/-- An ns64 instant that has passed, on the ELAPSED scale; an instant ahead of the counter reads as now. -/
def Block.elapsedOf (b : Block) (t : Nat) : Nat := b.now - (dist64 b.ns64 t).toNat * nsE

/-! ### Launch -/

/-- TIMED_LAUNCH: the launch compare of a head frame fires (R360, R362). -/
def Block.timedLaunch (p : Nat) (b : Block) : Block := b.kick p false

/-- FRAME_TRANSMISSION_END: the frame and its interframe gap have ended (R363). -/
def Block.txEnd (p : Nat) (b : Block) : Block :=
  match (b.port p).sending with
  | none => b
  | some f => (b.putPort p fun x => { x with sending := none, sent := (f :: x.sent).take 16 }).kick p true

/-! ### Link state -/

/-- LINK_UP (R64, R375, R394). -/
def Block.linkUp (p : Nat) (b : Block) : Block :=
  if 4 ≤ p || b.sys.step < 5 || b.mode p = 0 || (b.port p).link then b
  else
    let b := match (b.port p).downAt with
      | some t => b.quantity (netSrc p 0) (((b.now - t) / msE : Nat) : Int)
      | none => b
    let b := b.putPort p fun x => { x with link := true, downAt := none, heardAt := b.now, lost := none }
    let b : Block := if b.now < secE then
        { b with sys := { b.sys with linkUpAt := lupd b.sys.linkUpAt p fun _ => b.now } } else b
    b.kick p false

/-- A port goes link down (R375, R389, R394). -/
def Block.goDown (p : Nat) (b : Block) : Block :=
  if (b.port p).link then
    (b.putPort p fun x => { x.count .linkDowns with link := false, downAt := some b.now, sending := none }).raiseOpen
      (netSrc p 0)
  else b

/-- RX_BAD_FRAME: bad FCS, symbol error or fewer than 64 bytes (RX_ERR), or more than 1,542 bytes (RX_LONG) (R376). -/
def Block.rxBad (p : Nat) (long : Bool) (b : Block) : Block :=
  if !b.alive p then b
  else
    let first := (b.port p).badRun = 0
    let b := b.putPort p fun x => { x.count (if long then .rxLong else .rxErr) with badRun := x.badRun + 1 }
    if first then b.raiseOpen (netSrc p 1) else b

/-- RX_UNSUPPORTED_FRAME (R10, R376). -/
def Block.rxUnsup (h : RxHdr) (b : Block) : Block :=
  let r := b.rxIn h
  if r.1 then r.2.countNet h.port .rxUnsup else r.2

/-- PAUSE_FRAME (R374). -/
def Block.pauseRx (p : Nat) (b : Block) : Block := if b.alive p then (b.goodRx p).countNet p .pauseRx else b

/-- PRP_SUPERVISION_RX: a supervision frame of another node, with its trailer; it is bound for the SP (R378, R381). -/
def Block.prpRx (h : RxHdr) (b : Block) : Block :=
  let r := b.rxIn h
  if r.1 then (r.2.police h.port false).2 else r.2

/-- The 2 s supervision frames of a PRP pair or a ring (R378, R379). -/
def Block.supervise (kind k : Nat) (b : Block) : Block :=
  if k < 2 ∧ b.red (2 * k) = kind then b.sendOn (2 ^ (2 * k)) 0 none .supervision else b

/-- PRP_PORT_LOST (R378). DESIGN CHOICE (log 62). -/
def Block.prpLost (p : Nat) (b : Block) : Block :=
  let x := b.port p
  let o := b.port (if p % 2 = 0 then p + 1 else p - 1)
  if p < 4 ∧ b.red p = 1 ∧ x.lost.isNone ∧ x.heardAt + 6 * secE ≤ b.now ∧ x.heardAt < o.heardAt then
    (b.putPort p fun x => { x with lost := some b.now }).raiseOpen (netSrc p 4)
  else b

/-- HSR_RING_OPEN (R379). -/
def Block.ringOpen (p : Nat) (b : Block) : Block :=
  let x := b.port p
  if p < 4 ∧ b.red p = 2 ∧ x.lost.isNone ∧ x.heardAt + 6 * secE ≤ b.now then
    (b.putPort p fun x => { x with lost := some b.now }).raiseOpen (netSrc p 4)
  else b

/-- DUP_ENTRY_EXPIRY (R378). -/
def Block.dupExpire (k : Nat) (b : Block) : Block :=
  b.putDups k ((b.dups k).filter fun d => decide (b.now < d.at_ + 400 * msE))

/-- HSR_FORWARD: a frame of the ring. A frame this engine originated is removed; `sup` says that it is its own supervision
frame. Any other frame is forwarded once on the other port, at once where the port is idle and the guard allows it, else
from the forwarding buffer of 8 (R379). What the frame brings to this engine is the row of its kind. DESIGN CHOICE (log 62). -/
def Block.hsrForward (h : RxHdr) (own sup mine : Bool) (b : Block) : Block :=
  let p := h.port
  if !b.alive p || b.red p != 2 then b
  else if own then (if sup then (b.goodRx p).heard p else b.goodRx p)
  else match h.seq with
  | none => b
  | some (sq, _) =>
    let seen := (b.dupOf (p / 2) h.src sq).any (·.fwd)
    if seen then (if mine then b else (b.goodRx p).countNet p .dupDiscard)
    else
      let b := if mine then b else b.goodRx p
      let b := b.dupPut (p / 2) h.src sq fun d => { d with fwd := true }
      let o := if p % 2 = 0 then p + 1 else p - 1
      if 8 ≤ (b.port o).fwd.length then (b.countNet o .txqDrop).raise (netSrc o 6) 8
      else (b.putPort o fun x => { x with fwd := x.fwd ++ [{ body := .ring h.src sq, queue := 8 }] }).kick o false

/-! ### `net.cfg` and `net.stat` -/

/-- The setting that a `net.cfg` payload carries (R392). -/
def netCfgOf (p : List Byte) : NetCfg :=
  { red := [fld p 1 1, fld p 2 1], mode := (List.range 4).map fun i => fld p (4 + i) 1
    lateLim := (List.range 32).map fun i => fld p (8 + 2 * i) 2
    police := (List.range 4).map fun i => fld p (72 + 2 * i) 2 }

/-- The reserved fields of a `net.cfg` request are 0 (R9, R392). -/
def netCfgRsv (p : List Byte) : Bool :=
  fld p 3 1 == 0 && allZero (cut p 80 8) && (List.range 4).all fun i => decide (fld p (4 + i) 1 ≤ 3)

/-- The checks of R377 and R392. -/
def netCfgOk (p : List Byte) : Bool :=
  let c := netCfgOf p
  let pair (k : Nat) : Bool := c.red.getD k 0 == 0 ||
    (c.mode.getD (2 * k) 0 == c.mode.getD (2 * k + 1) 0 && c.mode.getD (2 * k) 0 != 0)
  fld p 0 1 == 0 && netCfgRsv p && c.red.all (decide <| · ≤ 2) && c.mode.all (decide <| · ≤ 2) &&
  c.lateLim.all (fun v => decide (1 ≤ v ∧ v ≤ 10000)) && c.police.all (fun v => decide (1 ≤ v ∧ v ≤ 1000)) &&
  pair 0 && pair 1

/-- The 88-byte layout of R392. -/
def netCfgBytes (c : NetCfg) : List Byte :=
  leBytes 1 2 ++ c.red.flatMap (leBytes 1) ++ zeros 1 ++ c.mode.flatMap (leBytes 1) ++ c.lateLim.flatMap (leBytes 2) ++
  c.police.flatMap (leBytes 2) ++ zeros 8

/-- NET_CFG (R392). -/
def netCfg (r : Req) (b : Block) : Block :=
  b.onReq 0x0901 r fun b =>
    if fld r.payload 0 1 = 2 then (if netCfgRsv r.payload then b.ok r (netCfgBytes b.net.cfg) else b.status r stBADARG)
    else if netCfgOk r.payload then b.journal false 0x0901 r else b.status r stBADARG

/-- Both appends of a `net.cfg` are done (R392, R506). -/
def netCfgCommit (r : Req) (b : Block) : Block :=
  let c := netCfgOf r.payload
  Block.answer r stOK b.effS [] { b with
    net := { b.net with cfgPend := b.net.cfgPend ++ [(b.effS, c)] }
    nv := { b.nv with store := { b.nv.store with net := c } } }

/-- Flush the queues of a port, each frame counted in TXQ_DROP (R392). -/
def Block.flush (p : Nat) (b : Block) : Block :=
  let b := (List.range 8).foldl (fun b q =>
    (tget txqD (b.port p).queues q).foldl (fun b _ => (b.countNet p .txqDrop).raise (netSrc p 6) q) b) b
  b.putPort p fun x => { x with queues := [], fwd := [] }

/-- One `net.cfg` takes effect: a port whose MODE, or whose pair's redundancy, changes goes link down and its queues are
flushed (R392). -/
def Block.netApply (c : NetCfg) (b : Block) : Block :=
  let o := b.net.cfg
  let hit := (List.range 4).filter fun p =>
    o.mode.getD p 0 != c.mode.getD p 0 || o.red.getD (p / 2) 0 != c.red.getD (p / 2) 0
  let b := hit.foldl (fun b p => ((b.goDown p).flush p).putPort p fun x => { x with lost := none }) b
  { b with net := { b.net with cfg := c } }

/-- `net.cfg` settings whose S has come, in acceptance order; the ports that change. -/
def Block.netCfgEffect (b : Block) : Block :=
  let due := b.net.cfgPend.filter fun x => decide (x.1 ≤ b.time.epoch)
  let b : Block := { b with net := { b.net with cfgPend := b.net.cfgPend.filter fun x => decide (b.time.epoch < x.1) } }
  due.foldl (fun b x => b.netApply x.2) b

/-- The 80-byte record of a port (R393). -/
def Block.netRec (b : Block) (p : Nat) : List Byte :=
  let x := b.port p
  let c (k : NetCtr) (w : Nat) : List Byte := leBytes w (tget natD x.ctrs k.ix)
  leBytes 1 p ++ leBytes 1 (b2n x.link + 2 * b.mode p + 8 * b2n (b.admitting p)) ++
  leBytes 1 (b.red p + 4 * b2n (b.red p != 0 && x.lost.isNone)) ++ zeros 1 ++ c .linkDowns 4 ++ c .rxFrames 8 ++
  c .txFrames 8 ++ c .rxErr 4 ++ c .rxLong 4 ++ c .rxUnsup 4 ++ c .filtMiss 4 ++ c .admitDrop 4 ++ c .rxPoliced 4 ++
  c .dupDiscard 4 ++ c .wrongLan 4 ++ c .netLate 4 ++ c .netSlip 4 ++ c .txqDrop 4 ++ c .pauseRx 4 ++ zeros 8

/-- NET_STAT (R393). -/
def netStat (r : Req) (b : Block) : Block :=
  b.onReq 0x0902 r fun b =>
    let op := fld r.payload 0 1
    if 1 < op || !allZero (cut r.payload 1 3) then b.status r stBADARG
    else if op = 1 && b.authOf r.client < 2 then b.status r stNOAUTH
    else
      let out := (List.range 4).flatMap b.netRec
      let b := b.ok r out
      if op = 0 then b else (List.range 4).foldl (fun b p => b.putPort p fun x => { x with ctrs := [] }) b

/-! ### Meanings -/

def execTimedLaunch (p : Nat) (s : State) : Out := s.done (s.blk.timedLaunch p)
def execFrameTransmissionEnd (p : Nat) (s : State) : Out := s.done (s.blk.txEnd p)
def execLinkUp (p : Nat) (s : State) : Out := s.done (s.blk.linkUp p)
def execRxBadFrame (p : Nat) (long : Bool) (s : State) : Out := s.done (s.blk.rxBad p long)
def execRxUnsupportedFrame (h : RxHdr) (s : State) : Out := s.done (s.blk.rxUnsup h)
def execPauseFrame (p : Nat) (s : State) : Out := s.done (s.blk.pauseRx p)
def execPrpSupervisionRx (h : RxHdr) (s : State) : Out := s.done (s.blk.prpRx h)
def execPrpSupervisionTx (pair : Nat) (s : State) : Out := s.done (s.blk.supervise 1 pair)
def execPrpPortLost (p : Nat) (s : State) : Out := s.done (s.blk.prpLost p)
def execDupEntryExpiry (pair : Nat) (s : State) : Out := s.done (s.blk.dupExpire pair)
def execHsrForward (h : RxHdr) (own sup mine : Bool) (s : State) : Out := s.done (s.blk.hsrForward h own sup mine)
def execHsrSupervisionTx (pair : Nat) (s : State) : Out := s.done (s.blk.supervise 2 pair)
def execHsrRingOpen (p : Nat) (s : State) : Out := s.done (s.blk.ringOpen p)
def execNetCfg (r : Req) (s : State) : Out := s.done (netCfg r s.blk)
def execNetStat (r : Req) (s : State) : Out := s.done (netStat r s.blk)

end Sys2Proof.Machine
end

