-- ==== Sys2Proof/Machine/Fabric.lean ====
section
/-! DEFINITION. The Morzor fabric as a router: frames, hellos and neighbours, routing tables and sieves, forwarding, and
origination (18 of the spec, R66, R395 to R409, R421, R424, R425). -/

namespace Sys2Proof.Machine
open Sys2Proof

/-- The route that R404 chooses: the UP neighbour of the lowest total, then the lower port, then the lower address.
DESIGN CHOICE (log 65). -/
def Block.bestRoute (b : Block) (adv : Nbr → Nat) : Route :=
  b.fab.nbrs.foldl (fun m n =>
    if n.state ≠ .up then m
    else
      let c := satN 15 (adv n + b.fab.cfg.cost.getD n.port 1)
      let x : Route := { port := n.port, cost := c, next := n.addr, valid := true }
      if c ≥ 15 then m
      else if c < m.cost || (c == m.cost && (n.port < m.port || (n.port == m.port && n.addr < m.next))) then x else m) {}

def costD (_ : Nat) : Nat := 15

/-- ROUTE_RECOMPUTE: every destination that is not pinned (R404); event 398 with the number of entries changed. While the SP restarts no
route is recomputed (R539). -/
def Block.reroute (b : Block) : Block :=
  if !b.spUp then b else
  let z := b.fabAddr / 256
  let step (node : Bool) (x : Nat × Block) (i : Nat) : Nat × Block :=
    let o := tget routeEntD (if node then x.2.fab.node else x.2.fab.zone) i
    if o.pinned || i == (if node then b.fabAddr % 256 else z) then x
    else
      let r := x.2.bestRoute fun n =>
        if node then (if n.addr / 256 = z then tget costD n.ncost i else 15) else tget costD n.zcost i
      let y := x.2.putRoute node i r true
      (if y.1 then x.1 + 1 else x.1, y.2)
  let x := (List.range 256).foldl (step true) ((List.range 256).foldl (step false) (0, b))
  x.2.raiseIf (0 < x.1) 398 x.1

/-! ### Hellos and neighbours -/

/-- 256 costs of 4 bits, two to a byte, the even index low (R399). -/
def costBytes (f : Nat → Nat) : List Byte := (List.range 128).map fun i => BitVec.ofNat 8 (f (2 * i) + 16 * f (2 * i + 1))

/-- The payload of a hello on port l: poisoned reverse, own zone and own node at 0 (R399). -/
def Block.helloBytes (b : Block) (l hcount : Nat) : List Byte :=
  let c (own : Nat) (t : Tab Route) (i : Nat) : Nat :=
    let r := tget routeEntD t i
    if i = own then 0 else if !r.valid || r.port = l then 15 else r.cost
  leBytes 4 b.fab.tgen ++ leBytes 2 hcount ++ zeros 2 ++ costBytes (c (b.fabAddr / 256) b.fab.zone) ++
  costBytes (c (b.fabAddr % 256) b.fab.node)

/-- The hello interval whose send instant has come last: intervals of 100 ms of ELAPSED, offset by node × 390.625 µs (R399). -/
def Block.helloIv (b : Block) : Option Nat :=
  let off := b.fabAddr % 256 * 390625 * nsE
  if b.now < off then none else some ((b.now - off) / (100 * msE))

/-- HELLO_SEND: one hello on every fabric port, once in a hello interval (R399, R401). -/
def Block.helloSend (b : Block) : Block :=
  if !b.fabOn || b.helloIv.isNone || b.fab.helloIv == b.helloIv then b
  else
    let n := (b.fab.hcount + 1) % 65536
    let b2 := b.fabPorts.foldl (fun b l =>
      let s := b.nextSeq 0
      let h : FabHdr :=
        { hops := 1, bcast := true, prob := b.fab.probing, svc := 0, dst := 0, src := b.fabAddr, len := 264, seq := s.1,
          tx32 := b.ns64 % 2 ^ 32 }
      (s.2.countFab 4 .tx).fabEmit l h (.bytes (b.helloBytes l n)) none) b
    let b3 := (List.range 4).foldl (fun b p => b.putPort p fun x => { x with hellos := 0 }) b2
    { b3 with fab := { b3.fab with hcount := n, helloIv := b.helloIv, firstAt := some (b3.fab.firstAt.getD b.now) } }

def Block.findNbr (b : Block) (addr l : Nat) : Option Nbr := b.fab.nbrs.find? fun n => n.addr == addr && n.port == l
def Block.mapNbr (addr l : Nat) (f : Nbr → Nbr) (b : Block) : Block :=
  { b with fab := { b.fab with nbrs := b.fab.nbrs.map fun n => if n.addr = addr ∧ n.port = l then f n else n } }

/-- A neighbour goes DOWN: event 395, and nothing leaves by it any more (R400, R408, R425). DESIGN CHOICE (log 64). -/
def Block.nbrDown (addr l : Nat) (b : Block) : Block :=
  match b.findNbr addr l with
  | none => b
  | some n =>
    if n.state = .down then b
    else
      let b := b.raise 395 (((b.now - n.heardAt) / msE : Nat) : Int)
      let b := b.mapNbr addr l fun n => { n with state := .down, downAt := b.now }
      (b.unsieve fun e => e.port == l && e.next == addr).reroute

/-- Insert into the neighbour table in ascending address, then port. -/
def insNbr (n : Nbr) (l : List Nbr) : List Nbr :=
  match l with
  | [] => [n]
  | x :: r => if n.addr < x.addr || (n.addr == x.addr && n.port < x.port) then n :: x :: r else x :: insNbr n r

/-- Insert into the pending list by address, then port; a node that is there already is renewed. -/
def insPend (n : Pend) (l : List Pend) : List Pend :=
  match l with
  | [] => [n]
  | x :: r =>
    if x.addr = n.addr ∧ x.port = n.port then n :: r
    else if n.addr < x.addr || (n.addr == x.addr && n.port < x.port) then n :: x :: r
    else x :: insPend n r

/-- A pending node enters a free entry of the table, in PROBATION; event 394 (R66, R400). -/
def Block.admitOne (p : Pend) (b : Block) : Block :=
  Block.raise 394 p.port { b with fab := { b.fab with
    nbrs := insNbr { addr := p.addr, port := p.port, mac := p.mac, hcount := p.hcount, flag := p.flag, heardAt := b.now,
                     admAt := b.now } b.fab.nbrs } }

/-- Is the MAC address one of the engine's own ports? -/
def ownPortMac (mac : Nat) : Bool := (List.range 4).any fun p => Config.ownMac p == mac

/-- A hello of a node that is not in the table (R66, R400). -/
def Block.helloNew (n : Pend) (b : Block) : Block :=
  let known := b.fab.pendq.any fun x => x.addr == n.addr && x.port == n.port
  if !b.admitting n.port && b.fab.pendq.isEmpty && decide (b.fab.nbrs.length < 256) then b.admitOne n
  else if !known && decide (1024 ≤ b.fab.pendq.length) then b.raise 396 n.port
  else { b with fab := { b.fab with pendq := insPend n b.fab.pendq } }

/-- A hello, past policing (R400 to R402, R404). DESIGN CHOICE (log 64). -/
def Block.hello (l : Nat) (x : Hello) (b : Block) : Block :=
  let p : Pend := { addr := x.src, port := l, mac := x.mac, hcount := x.hcount, flag := x.flag }
  if x.src = b.fabAddr then
    if ownPortMac x.mac then b
    else Block.raise 397 l { b with fab := { b.fab with blocked := b.fab.blocked ++ [(x.mac, b.now + 10 * secE)] } }
  else
    let b := match b.findNbr x.src l with
      | none => b.helloNew p
      | some n =>
        if n.state = NbrSt.down then
          Block.helloNew p { b with fab := { b.fab with nbrs := b.fab.nbrs.filter fun y => !(y.addr == x.src && y.port == l) } }
        else
          let later := decide (0 < toSigned 16 ((x.hcount + 65536 - n.hcount % 65536) % 65536))
          if !later || (n.state == NbrSt.up && x.flag) then b.nbrDown x.src l
          else b.mapNbr x.src l fun n => { n with
            hcount := x.hcount, flag := x.flag, heardAt := b.now, mac := x.mac, zcost := x.zcost, ncost := x.ncost }
    b.reroute

/-- The discard of a fabric frame by an engine without a fabric: RX_UNSUP (R395). -/
def Block.fabRefuse (h : RxHdr) (b : Block) : Bool := !b.fabOn || !b.fabPort (b.logical h.port)

/-- HELLO_RECEIVED. -/
def Block.helloRx (h : RxHdr) (x : Hello) (b : Block) : Block :=
  let r := b.rxIn h
  if !r.1 then r.2
  else if r.2.fabRefuse h then r.2.countNet h.port .rxUnsup
  else if r.2.isBlocked x.mac then r.2
  else
    let l := r.2.logical h.port
    let q := r.2.police h.port true
    if q.1 then (q.2.countFab l .rx).hello l x else q.2

/-- PENDING_ADMISSION: up to 32 nodes, in ascending address, into free entries (R66). -/
def Block.pendAdmit (b : Block) : Block :=
  let n := min (min 32 (256 - b.fab.nbrs.length)) b.fab.pendq.length
  (b.fab.pendq.take n).foldl (fun b p => b.admitOne p) { b with fab := { b.fab with pendq := b.fab.pendq.drop n } }

/-- PROBATION_END: 3 hello intervals (R400). -/
def Block.nbrUp (addr l : Nat) (b : Block) : Block :=
  match b.findNbr addr l with
  | some n =>
    if n.state = .probation && decide (n.admAt + 300 * msE ≤ b.now) then
      (b.mapNbr addr l fun n => { n with state := .up }).reroute
    else b
  | none => b

/-- NEIGHBOUR_SILENT: 3 hello intervals without a hello (R400). -/
def Block.nbrSilent (addr l : Nat) (b : Block) : Block :=
  match b.findNbr addr l with
  | some n => if decide (n.heardAt + 300 * msE ≤ b.now) then b.nbrDown addr l else b
  | none => b

/-- NEIGHBOUR_ENTRY_FREE: 10 s after DOWN (R400). -/
def Block.nbrFree (addr l : Nat) (b : Block) : Block :=
  { b with fab := { b.fab with nbrs := b.fab.nbrs.filter fun n =>
      !(n.addr == addr && n.port == l && n.state == .down && decide (n.downAt + 10 * secE ≤ b.now)) } }

/-- OWN_PROBATION_END: 3 hello intervals from the first hello; event 410 (R401, R425). -/
def Block.ownProbEnd (b : Block) : Block :=
  match b.fab.firstAt with
  | some t =>
    if b.fab.probing && decide (t + 300 * msE ≤ b.now) then
      Block.raise 410 0 { b with fab := { b.fab with probing := false } }
    else b
  | none => b

/-- CONFLICT_BLOCK_END: 10 s after the conflict (R402). -/
def Block.unblock (b : Block) : Block :=
  { b with fab := { b.fab with blocked := b.fab.blocked.filter fun x => decide (b.now < x.2) } }

/-- The neighbours on a logical port that has gone down, both ports of a redundant pair, go DOWN (R400, R421). -/
def Block.lportDown (l : Nat) (b : Block) : Block :=
  if b.lport l && b.lportUp l then b
  else ((b.fab.nbrs.filter fun n => n.port == l).map (·.addr)).foldl (fun b a => b.nbrDown a l) b

/-- LINK_DOWN: the port, and the neighbours on its logical port where that goes down with it (R375, R400, R421). -/
def Block.linkDown (p : Nat) (b : Block) : Block :=
  if !(b.port p).link then b
  else
    let b := b.goDown p
    b.lportDown (b.logical p)

/-! ### Frames received -/

/-- A frame that R397 calls malformed. DESIGN CHOICE (log 67). -/
def malformed (h : FabHdr) (body : FabBody) : Bool :=
  h.ver != 1 || h.rsvd || decide (5 < h.svc) || (h.bcast && h.mcast) || (h.zscope && !h.bcast && !h.mcast) ||
  (h.prob && h.svc != 0) || (match body.len with | some n => n != h.len | none => false)

/-- The sender of a frame is a neighbour in PROBATION, and the frame is not its own (R401). -/
def Block.probTransit (b : Block) (l sa src : Nat) : Bool :=
  b.fab.nbrs.any fun n => n.mac == sa && n.port == l && n.state == .probation && n.addr != src

/-- SEGMENT_REASSEMBLY_TIMEOUT: 50 ms after a message's first segment (R398). -/
def Block.reasmTimeout (b : Block) : Block :=
  let old := b.fab.reasm.filter fun m => decide (m.at_ + 50 * msE ≤ b.now)
  old.foldl (fun b m => b.countFab m.port .reasmFail)
    { b with fab := { b.fab with reasm := b.fab.reasm.filter fun m => decide (b.now < m.at_ + 50 * msE) } }

/-- A consumed message has the form of its service: an op that is reserved is discarded (R397, R416, R418, R520).
DESIGN CHOICE (log 67). -/
def FabMsg.ok (m : FabMsg) : Bool :=
  match m.body with
  | .bytes p =>
    match m.svc with
    | 3 => p.length == 8 || p.length == 12
    | 4 => m.seg || (fld p 0 1 == 0 && p.length == 516) || (fld p 0 1 == 1 && p.length == 8)
    | 5 => p.length != 0 && decide (fld p 0 1 ≤ 4)
    | _ => true
  | _ => true

/-- A message goes to its service, or is counted MALFORMED. -/
def Block.inboxPut (l : Nat) (m : FabMsg) (b : Block) : Block :=
  if m.ok then { b with fab := { b.fab with inbox := b.fab.inbox ++ [m] } } else b.fabDiscard l .malformed 401

/-- Take in a segment: the message is complete when all of its segments have come (R398). DESIGN CHOICE (log 67). -/
def Block.segment (l : Nat) (h : RxHdr) (f : FabHdr) (p : List Byte) (b : Block) : Block :=
  let b := b.reasmTimeout
  let id := fld p 0 2
  let i := fld p 2 1
  let n := fld p 3 1
  let total := fld p 4 2
  let old := b.fab.reasm.find? fun m => m.src == f.src && m.msgId == id && m.svc == f.svc
  if p.length < 8 || 1498 < p.length || n = 0 || 3 < n || n ≤ i || total = 0 || 4116 < total || fld p 6 2 ≠ 0 ||
      (old.any fun m => m.count != n || m.total != total) then b.fabDiscard l .malformed 401
  else
    let m : Reasm := old.getD { src := f.src, msgId := id, svc := f.svc, count := n, total := total, port := l, at_ := b.now }
    let m := { m with parts := tset (fun _ => none) m.parts i (some (p.drop 8)) }
    let rest := b.fab.reasm.filter fun x => !(x.src == f.src && x.msgId == id && x.svc == f.svc)
    let parts := (List.range n).map fun k => tget (fun _ => none) m.parts k
    let bytes := parts.flatMap fun x => x.getD []
    if !parts.all (·.isSome) then { b with fab := { b.fab with reasm := rest ++ [m] } }
    else if bytes.length ≠ total then Block.fabDiscard l .malformed 401 { b with fab := { b.fab with reasm := rest } }
    else Block.inboxPut l { svc := f.svc, src := f.src, hdr := h, seg := true, body := .bytes bytes }
      { b with fab := { b.fab with reasm := rest } }

/-- A frame is consumed by the engine: admitted, counted, and its message handed to its service (R65, R381, R405, R409).
DESIGN CHOICE (log 66). -/
def Block.consume (h : RxHdr) (f : FabHdr) (body : FabBody) (b : Block) : Block :=
  let l := b.logical h.port
  let q := if f.svc = 1 ∨ b.admitting h.port then (true, b) else b.police h.port false
  if !q.1 then q.2
  else
    let b := (q.2.countFab l .rx).fabPass
    if f.svc = 0 then b
    else match f.seg, body with
    | true, .bytes p => b.segment l h f p
    | _, _ => b.inboxPut l { svc := f.svc, src := f.src, hdr := h, body := body }

/-- The entry of every fabric frame but hellos: none where it goes no further (R65, R395, R397, R402). -/
def Block.fabIn (h : RxHdr) (f : FabHdr) (body : FabBody) (b : Block) : Bool × Block :=
  let r := b.rxIn h
  if !r.1 then r
  else
    let b := r.2
    let l := b.logical h.port
    if b.fabRefuse h then (false, b.countNet h.port .rxUnsup)
    else if malformed f body || b.probTransit l h.src f.src then
      (false, b.fabDiscard l .malformed 401)
    else if f.svc ≠ 1 ∧ b.admitting h.port then b.police h.port false
    else (true, b)

/-- FABRIC_UNICAST_FRAME (R405). DESIGN CHOICE (log 63). -/
def Block.fabUnicast (h : RxHdr) (f : FabHdr) (body : FabBody) (b : Block) : Block :=
  let r := b.fabIn h f body
  if !r.1 || f.bcast || f.mcast then r.2
  else
    let b := r.2
    let l := b.logical h.port
    if f.dst = b.fabAddr then b.consume h f body
    else if b.fab.probing then b
    else if f.hops ≤ 1 then b.fabDiscard l .hopDrop 400
    else
      let x := b.egress l f.dst
      match x.1 with
      | some (e, n) => ((x.2.countFab l .fwd).fabPass).fabEmit e { f with hops := f.hops - 1 } body (some n)
      | none => x.2.fabDiscard l .noRoute 399

/-- The zone to which a broadcast or multicast is limited holds the engine (R396, R406). DESIGN CHOICE (log 65). -/
def Block.inZone (b : Block) (f : FabHdr) : Bool := !f.zscope || f.dst / 256 == b.fabAddr / 256

/-- FABRIC_BROADCAST_FRAME (R406). -/
def Block.fabBroadcast (h : RxHdr) (f : FabHdr) (body : FabBody) (b : Block) : Block :=
  let r := b.fabIn h f body
  if !r.1 || (!f.bcast && !f.mcast) then r.2
  else
    let b := r.2
    let l := b.logical h.port
    if b.bdupHas f.src f.svc f.seq then b.countFab l .dupBcast
    else
      let b := b.bdupPut f.src f.svc f.seq
      let mine := b.inZone f && (f.bcast || (b.fab.cfg.groups.contains f.dst && f.dst != 0xFFFF))
      let b := if mine then b.consume h f body else b
      if b.fab.probing || !b.inZone f then b
      else if f.hops ≤ 1 then b.fabDiscard l .hopDrop 400
      else
        (b.fabPorts.filter fun p => p != l).foldl (fun b p => b.fabEmit p { f with hops := f.hops - 1 } body none)
          (b.countFab l .fwd)


/-- The first message waiting for a service, taken out of the inbox. DESIGN CHOICE (log 66). -/
def Block.take (svc : Nat) (ok : FabMsg → Bool) (b : Block) : Option (FabMsg × Block) :=
  match b.fab.inbox.find? fun m => m.svc == svc && ok m with
  | none => none
  | some m => some (m, { b with fab := { b.fab with inbox := b.fab.inbox.eraseP fun m => m.svc == svc && ok m } })

/-- The bytes of a message. -/
def FabMsg.bytes (m : FabMsg) : List Byte := match m.body with | .bytes p => p | _ => []

/-- `net.cfg` at S, with the neighbours of the logical ports that go down (R392, R421). -/
def Block.netEffect (b : Block) : Block :=
  let was := (List.range 4).filter fun l => b.lport l && b.lportUp l
  was.foldl (fun b l => b.lportDown l) b.netCfgEffect

/-! ### Meanings -/

def execLinkDown (p : Nat) (s : State) : Out := s.done (s.blk.linkDown p)
def execNetCfgEffect (s : State) : Out := s.done s.blk.netEffect
def execHelloSend (s : State) : Out := s.done s.blk.helloSend
def execHelloReceived (h : RxHdr) (x : Hello) (s : State) : Out := s.done (s.blk.helloRx h x)
def execConflictBlockEnd (s : State) : Out := s.done s.blk.unblock
def execPendingAdmission (s : State) : Out := s.done s.blk.pendAdmit
def execProbationEnd (addr l : Nat) (s : State) : Out := s.done (s.blk.nbrUp addr l)
def execNeighbourSilent (addr l : Nat) (s : State) : Out := s.done (s.blk.nbrSilent addr l)
def execNeighbourEntryFree (addr l : Nat) (s : State) : Out := s.done (s.blk.nbrFree addr l)
def execOwnProbationEnd (s : State) : Out := s.done s.blk.ownProbEnd
def execFabricUnicastFrame (h : RxHdr) (f : FabHdr) (body : FabBody) (s : State) : Out := s.done (s.blk.fabUnicast h f body)
def execFabricBroadcastFrame (h : RxHdr) (f : FabHdr) (body : FabBody) (s : State) : Out :=
  s.done (s.blk.fabBroadcast h f body)
def execSegmentReassemblyTimeout (s : State) : Out := s.done s.blk.reasmTimeout

end Sys2Proof.Machine
end

