-- ==== Sys2Proof/Machine/Station.lean ====
section
/-! DEFINITION. Subscriptions and remote stations, GOOSE and sampled-value publication (14 and 17 of the spec, R306 to R313,
R382 to R391). -/

namespace Sys2Proof.Machine
open Sys2Proof

/-! ### Quality across the data sets -/

/-- QUAL of an IEC 61850 quality string, bit i of the string at bit i: 0 and 1 validity (0 good, 3 questionable), 2 overflow,
3 outOfRange, 7 oldData, 10 source, 11 test, 12 operatorBlocked (R301). PRESUMED (log 60). -/
def qualOfIec (v : Nat) (sim : Bool) : Qual :=
  { valid := v % 4 == 0, quest := v % 4 == 3, ovr := bitOf v 2 || bitOf v 3, subst := bitOf v 10
    test := bitOf v 11 || sim, blocked := bitOf v 12, stale := bitOf v 7, remote := true }

/-- The IEC 61850 quality of a publication point's quality word, the inverse of R301 (R302, R387). PRESUMED (log 60). -/
def iecOfQual (w : Nat) : Nat :=
  (if bitOf w 1 then 3 else if bitOf w 0 then 0 else 2) + 4 * b2n (bitOf w 3) + 1024 * b2n (bitOf w 6) +
    2048 * b2n (bitOf w 8) + 4096 * b2n (bitOf w 5) + 128 * b2n (bitOf w 7)

/-- The value word of a GOOSE member from its encoding in the low bits of a word (R300). -/
def MemTy.value (t : MemTy) (v : Word) : Word :=
  match t with
  | .bool => if v = 0 then 0 else 1
  | .int8 => (v.setWidth 8).signExtend 32
  | .int16 => (v.setWidth 16).signExtend 32
  | .uint8 => (v.setWidth 8).setWidth 32
  | .uint16 => (v.setWidth 16).setWidth 32
  | .dbpos => (v.setWidth 2).setWidth 32
  | .quality => (v.setWidth 13).setWidth 32
  | .int32 | .uint32 | .enum | .float => v

/-- Value and QUAL of each member of a data set: a member takes the quality of the next following quality member, or VALID
and SOURCE_REMOTE where none follows (R300, R301). -/
def memberVals (sim : Bool) (l : List (MemTy × Word)) : List (Word × Nat) :=
  match l with
  | [] => []
  | (t, v) :: r =>
    let q := match r.find? fun m => m.1 == .quality with
      | some m => qualOfIec m.2.toNat sim
      | none => { valid := true, remote := true, test := sim }
    (t.value v, q.word) :: memberVals sim r

/-! ### Supervision -/

/-- The station that a filter entry feeds; an entry without one is supervised under an index of its own (R383). -/
def SubDecl.index (e : SubDecl) (i : Nat) : Nat := if e.station = 255 then 256 + i else e.station

def Block.putStn (k : Nat) (f : Stn → Stn) (b : Block) : Block :=
  { b with lgc := { b.lgc with stns := tupd stnD b.lgc.stns k f } }

/-- A station's supervision event, on the lowest port of its entry, with the station number (R394). -/
def Block.stnEvent (e : SubDecl) (b : Block) : Block :=
  b.raise (netSrc ((bitList e.ports 4).headD 0) 5) e.station

/-- The station changes state. DESIGN CHOICE (log 58). -/
def Block.stnState (k : Nat) (st : StnSt) (b : Block) : Block :=
  b.putStn k fun x => if x.state = st then x else { x with state := st, changed := b.time.epoch }

/-- A frame that is not good: BADFRAMES, event k = 7 of its port, and RETURNING falls back to DROPPED (R307, R310, R394). -/
def Block.badFrame (k : Nat) (e : SubDecl) (p : Nat) (b : Block) : Block :=
  let ret := (tget stnD b.lgc.stns k).state = .returning
  let b := b.putStn k fun x => { x with bad := x.bad + 1 }
  let b := if ret then b.stnState k .dropped else b
  b.raise (netSrc (b.logical p) 7) e.station

/-- What a good frame leaves in its station: supervision always, values once the station is UP (R307 to R310).
DESIGN CHOICE (log 58, 59). -/
def Block.goodFrame (k : Nat) (e : SubDecl) (seq : Nat × Nat) (ttl : Nat) (test : Bool) (vals : List (Word × Nat))
    (ns : Nat) (b : Block) : Block :=
  let x := tget stnD b.lgc.stns k
  let at_ := b.elapsedOf ns
  let up := x.state = .up ∨ x.state = .returning
  let b := b.putStn k fun x => { x with
    miss := 0, seq := seq, fresh := false, ttl := ttl, test := test, stamp := b.stampNs ns, goodAt := at_, seen := true
    values := if up then vals else x.values }
  match x.state with
  | .returning => ((b.stnState k .up).putStn k fun x => { x with chg := x.chg + 1 }).stnEvent e
  | .up => b
  | _ => b.stnState k .returning

/-- The filter entry that a frame matches: KIND, DST, APPID, IDHASH and a port in PORTS (R382). -/
def Block.filterEntry (sv : Bool) (dst appid : Nat) (ref : List Byte) (p : Nat) (b : Block) : Option (Nat × SubDecl) :=
  (List.range 1088).findSome? fun i => match tget (fun _ => none) b.net.subs i with
    | some e => if e.sv = sv ∧ e.dst = dst ∧ e.appid = appid ∧ e.idHash = crc32 ref ∧ bitOf e.ports (b.logical p) then
        some (i, e) else none
    | none => none

/-- TRIG 1 of the slots in TRIGSLOTS, by the number of stNum steps (R226, R384). DESIGN CHOICE (log 58). -/
def Block.trigGoose (i : Nat) (e : SubDecl) (n ns : Nat) (b : Block) : Block :=
  (bitList e.trigSlots 8).foldl (fun b s => b.trigger s 1 i ns b.time.tcQual n) b

/-- A GOOSE frame past the receiver meets the filter and its station (R307, R382 to R384). -/
def Block.gooseFilter (h : RxHdr) (f : GooseRx) (b : Block) : Block :=
  match b.filterEntry false f.dst f.appid f.ref h.port with
  | none => b.countNet h.port .filtMiss
  | some (i, e) =>
    if e.ref ≠ f.ref then b.countNet h.port .filtMiss
    else
      let k := e.index i
      let x := tget stnD b.lgc.stns k
      match x.decl with
      | none => b
      | some d =>
        if f.sim && !d.acceptSim then b
        else
          let back := decide (f.stNum < x.seq.1) || (f.stNum == x.seq.1 && decide (f.sqNum < x.seq.2))
          if f.confRev ≠ d.confRev ∨ f.members.map (·.1) ≠ d.members ∨ (!x.fresh && back) then b.badFrame k e h.port
          else
            let t := b.derived h
            let vals := memberVals f.sim f.members
            let test := f.sim || f.members.any fun m => m.1 == .quality && bitOf m.2.toNat 11
            let steps := if x.seq.1 < f.stNum then f.stNum - x.seq.1 else 1
            let b := if x.seen && f.stNum != x.seq.1 then t.2.trigGoose i e steps t.1 else t.2
            b.goodFrame k e (f.stNum, f.sqNum) f.ttl test vals t.1

/-- GOOSE_FRAME_RECEIVED. -/
def Block.gooseRx (h : RxHdr) (f : GooseRx) (b : Block) : Block :=
  let r := b.rxIn h
  if r.1 then r.2.gooseFilter h f else r.2

/-- SV_FRAME_RECEIVED (R300, R307, R382, R388). DESIGN CHOICE (log 59). -/
def Block.svRx (h : RxHdr) (f : SvRx) (b : Block) : Block :=
  let r := b.rxIn h
  if !r.1 then r.2
  else
    let b := r.2
    match b.filterEntry true f.dst f.appid f.ref h.port with
    | none => b.countNet h.port .filtMiss
    | some (i, e) =>
      if e.ref ≠ f.ref then b.countNet h.port .filtMiss
      else
        let k := e.index i
        let x := tget stnD b.lgc.stns k
        match x.decl with
        | none => b
        | some d =>
          if f.sim && !d.acceptSim then b
          else
            let step := (f.smpCnt + d.rate - x.seq.2 % d.rate) % d.rate
            let later := decide (0 < step) && decide (2 * step < d.rate)
            if f.confRev ≠ d.confRev ∨ f.asdus.length ≠ d.asdu ∨ f.asdus.any (fun a => a.length != d.members.length) ∨
                (!x.fresh && !later) then b.badFrame k e h.port
            else
              let t := b.derived h
              let last := f.asdus.getLast?.getD []
              let vals := last.map fun m => (m.1, (qualOfIec m.2 f.sim).word)
              let test := f.sim || last.any fun m => bitOf m.2 11
              t.2.goodFrame k e (0, f.smpCnt) 0 test vals t.1

/-- The ELAPSED instant of a station's next miss (R308). -/
def Stn.missAt (x : Stn) (d : StnDecl) : Nat :=
  if d.kind = 0 then x.goodAt + (x.miss + 1) * x.ttl * msE
  else x.goodAt + (2 * (x.miss + 1) + 1) * d.asdu * secE / (2 * d.rate)

/-- STATION_MISS (R308 to R310). -/
def Block.stnMiss (k : Nat) (b : Block) : Block :=
  let x := tget stnD b.lgc.stns k
  match x.decl with
  | none => b
  | some d =>
    if !x.seen || b.now < x.missAt d then b
    else
      let m := x.miss + 1
      let b := b.putStn k fun x => { x with miss := m }
      let e := (tget (fun _ => none) b.net.subs (if k < 256 then d.filter else k - 256)).getD {}
      if x.state = .returning then b.stnState k .dropped
      else if x.state = .up && d.missLim ≤ m then
        ((b.stnState k .dropped).putStn k fun x => { x with
          drops := x.drops + 1, dropsR := x.dropsR + 1, chg := x.chg + 1, fresh := true }).stnEvent e
      else b

/-- The 32-byte record of a station (R313). -/
def Block.stnRec (b : Block) (k : Nat) : List Byte :=
  let x := tget stnD b.lgc.stns k
  let d := x.decl.getD {}
  let slots := maskOf ((List.range 8).filter fun s => match (b.slot s).img with | some i => i.maps k | none => false)
  leBytes 1 k ++ leBytes 1 x.state.code ++ leBytes 1 d.kind ++ leBytes 1 (satN 255 x.miss) ++
  leBytes 1 (if x.decl.isSome then d.missLim else 0) ++ leBytes 1 slots ++ leBytes 2 (b2n d.acceptSim + 2 * b2n x.test) ++
  leBytes 4 x.dropsR ++ leBytes 4 x.bad ++ x.stamp.bytes ++ leBytes 4 x.changed

/-- IMG_STATION (R313). -/
def imgStation (r : Req) (b : Block) : Block :=
  b.onReq 0x0602 r fun b =>
    let f := fld r.payload 0 1
    let n := fld r.payload 1 1
    let op := fld r.payload 2 1
    if n < 1 || 64 < n || 1 < op || fld r.payload 3 1 != 0 || 256 < f + n then b.status r stBADARG
    else if op = 1 && b.authOf r.client < 2 then b.status r stNOAUTH
    else
      let b1 := b.ok r ((List.range n).flatMap fun i => b.stnRec (f + i))
      if op = 0 then b1
      else (List.range n).foldl (fun b i => b.putStn (f + i) fun x => { x with dropsR := 0, bad := 0 }) b1

/-! ### GOOSE publication -/

def cbD (_ : Nat) : CbSt := {}

/-- The slot's members are held: KETTLE, FAULTED or the startup lid (R387). -/
def Slot.held (x : Slot) : Bool := x.state == .kettle || x.state == .faulted || x.state == .lidded

/-- The data set of a control block as it stands: value and IEC 61850 quality of each member (R302, R387). -/
def Block.dataSet (b : Block) (d : PubDecl) (last : Option (List (Word × Nat))) : List (Word × Nat) :=
  (List.range d.members.length).map fun i =>
    let m := d.members.getD i (0, 0)
    let x := b.slot m.1
    let o := 0x100 + 2 * m.2
    if x.held then (((last.getD []).getD i (0, 0)).1, 3 + 128)
    else (tget wordD x.force o, iecOfQual ((tget wordD x.force (o + 1)).toNat % 65536))

def sigD (_ : Nat) : SigCfg := {}

/-- The bindings in force: the `fab.sig` setting whose S has come last (R412). DESIGN CHOICE (log 61). -/
def Block.sigs (b : Block) : Tab SigCfg :=
  ((b.fab.sigPend.filter fun x => decide (x.1 ≤ b.time.epoch)).getLast?.map (·.2)).getD b.fab.sig

/-- Send a state's frame: on the ports of the control block, and over the fabric where it is bound (R386, R411). -/
def Block.gooseSend (k : Nat) (d : PubDecl) (c : CbSt) (b : Block) : Block :=
  let ttl := 2 * c.gap
  let vals := c.last.getD []
  let b := b.sendOn d.ports d.queue none (.goose k c.stNum c.sqNum ttl vals)
  let g := tget sigD b.sigs k
  if bitOf g.flags 0 then
    b.fabSend 1 g.dst (bitOf g.flags 1) (bitOf g.flags 2) (bitOf g.flags 3) false (.cb k c.stNum c.sqNum ttl vals)
  else b

/-- A publication P(E): control blocks whose data set differs from the one last sent begin a new state; `touched` are the
slots whose output half came into force (R386). DESIGN CHOICE (log 61). -/
def Block.goosePublish (touched : List Nat) (b : Block) : Block :=
  (List.range 128).foldl (fun b k =>
    match tget (fun _ => none) b.net.pubs k with
    | none => b
    | some d =>
      let c := tget cbD b.net.cbs k
      let now := b.dataSet d c.last
      let go := match c.last with
        | none => d.members.any fun m => touched.contains m.1
        | some l => l != now
      if !go then b
      else
        let c : CbSt := { stNum := c.stNum % (2 ^ 32 - 1) + 1, sqNum := 0, last := some now, gap := d.tmin,
                          nextAt := b.now + d.tmin * msE }
        (Block.gooseSend k d c { b with net := { b.net with cbs := tset cbD b.net.cbs k c } })) b

/-- GOOSE_RETRANSMIT: the repetition of a control block is due (R386). -/
def Block.gooseRepeat (k : Nat) (b : Block) : Block :=
  match tget (fun _ => none) b.net.pubs k with
  | none => b
  | some d =>
    let c := tget cbD b.net.cbs k
    if c.last.isNone || b.now < c.nextAt then b
    else
      let gap := if d.tmax < 2 * c.gap then d.tmax else 2 * c.gap
      let c : CbSt := { c with sqNum := (c.sqNum + 1) % 2 ^ 32, gap := gap, nextAt := c.nextAt + gap * msE }
      Block.gooseSend k d c { b with net := { b.net with cbs := tset cbD b.net.cbs k c } }

/-! ### Sampled-value publication -/

/-- A channel's published value and quality for an interval (R389, R390). -/
def Block.svChan (b : Block) (n lo hi : Nat) : Word × Nat :=
  let a := b.average n lo hi
  let v := b.primary n (a.mean * 65536)
  let per : Int := if (b.inRec n).sensor = 3 then 100 else 1000
  let x := rneI (v * per) (2 ^ 149)
  let y := clampI (-(2 ^ 31)) (2 ^ 31 - 1) x
  let q := a.qual
  let validity := if q.wbreak || a.gap || (!q.valid && !q.quest && !q.single) then 2
    else if q.quest || (q.single && !q.valid) then 3 else 0
  (BitVec.ofInt 32 y,
    validity + 4 * b2n (q.ovr || x != y) + 64 * b2n q.wbreak + 2048 * b2n q.test)

/-- SV_INTERVAL_END: the interval of a rate that ended last is averaged for every stream of the rate, and a frame that is
complete is queued for timed launch (R140, R389 to R391); the SP forms it, so none goes while the SP restarts (R539).
DESIGN CHOICE (log 61). -/
def Block.svEnd (rate : Nat) (b : Block) : Block :=
  if rate ≠ 4800 ∧ rate ≠ 14400 then b
  else if !b.spUp || decide (b.ns64 * rate < 1000000000) then b
  else
    let bound (k : Nat) : Nat := (k * 1000000000 + rate - 1) / rate
    let t := b.ns64
    let s := t / 1000000000
    let k := (t % 1000000000) * rate / 1000000000
    -- ⌈k·10⁹/R⌉ is at or before the counter for this k
    let kEnd := if bound k ≤ t % 1000000000 then k else k - 1
    let (sec, n) := if kEnd = 0 then (s - 1, rate - 1) else (s, kEnd - 1)
    let hi := sec * 1000000000 + bound (n + 1)
    let lo := sec * 1000000000 + bound n
    if tget natD b.net.svAt rate = hi then b
    else
      let asdus := if rate = 4800 then 2 else 6
      let synch := match b.time.servo.state with | .locked => 2 | .holdover => 1 | _ => 0
      (List.range 32).foldl (fun b i =>
        match tget (fun _ => none) b.net.svs i with
        | none => b
        | some d =>
          if d.rate ≠ rate then b
          else
            let ch := d.chans.map fun c => b.svChan c (b.elapsedOf lo) (b.elapsedOf hi)
            let old := tget (fun _ => []) b.net.svBuf i
            let buf := (if n % asdus = 0 then [] else old) ++ [(n, ch)]
            if n % asdus + 1 = asdus then
              let b : Block := { b with net := { b.net with svBuf := tset (fun _ => []) b.net.svBuf i [] } }
              b.sendOn d.ports d.queue (some (hi + d.delay * 1000)) (.sv i synch buf)
            else { b with net := { b.net with svBuf := tset (fun _ => []) b.net.svBuf i buf } })
        { b with net := { b.net with svAt := tset natD b.net.svAt rate hi } }

/-! ### Meanings -/

def execGooseFrameReceived (h : RxHdr) (f : GooseRx) (s : State) : Out := s.done (s.blk.gooseRx h f)
def execSvFrameReceived (h : RxHdr) (f : SvRx) (s : State) : Out := s.done (s.blk.svRx h f)
def execStationMiss (k : Nat) (s : State) : Out := s.done (s.blk.stnMiss k)
def execGooseRetransmit (k : Nat) (s : State) : Out := s.done (s.blk.gooseRepeat k)
def execSvIntervalEnd (rate : Nat) (s : State) : Out := s.done (s.blk.svEnd rate)
def execImgStation (r : Req) (s : State) : Out := s.done (imgStation r s.blk)

end Sys2Proof.Machine
end

