-- ==== Sys2Proof/Machine/Dist.lean ====
section
/-! DEFINITION. The disturbance recorder (21 of the spec, R467 to R482) and the drain of the edge FIFO that feeds it
(R339). -/

namespace Sys2Proof.Machine
open Sys2Proof

def drecD (_ : Nat) : Option DRec := none
def intD (_ : Nat) : Int := 0

/-! ### Intervals and selectors (R467 to R469) -/

/-- The interval I in ns (R467). -/
def distI (d p : Nat) : Nat := d * 25 * p
/-- I under the settings in force. -/
def Block.distIv (b : Block) : Nat := distI b.dist.d b.cnv.p

/-- ELAPSED of an instant of the counter at or before now. -/
def Block.elapsedAt (b : Block) (ns : Nat) : Nat := b.now - ((b.ns64 - ns) * nsE + b.time.frac)

/-- KIND and INDEX of a selector (R469). -/
def selKind (s : Nat) : Nat := s / 4096
def selIx (s : Nat) : Nat := s % 4096

/-- A selector with a KIND and an INDEX that R469 gives. -/
def selOk (s : Nat) : Bool :=
  match selKind s with
  | 0 => selIx s == 0
  | 1 => true
  | 2 => true
  | 3 => decide (selIx s < 64)
  | 4 => decide (selIx s < 32)
  | 5 => decide (selIx s < 32)
  | 6 => decide (selIx s < 64)
  | 7 => decide (selIx s < 2048)
  | _ => false

/-- The present level of a selected signal; a DI by the recorder's edge entries (R469). -/
def Block.selLevel (b : Block) (s : Nat) : Bool :=
  let i := selIx s
  match selKind s with
  | 1 => (tget elStD b.elm.pub i).operate
  | 2 => (tget elStD b.elm.pub i).start
  | 3 => bitOf b.dist.di i
  | 4 => bitOf b.formCmd i
  | 5 => bitOf b.bar.rbReg i
  | 6 => (tget groupD b.bs.groups i).driving
  | 7 => bitOf (b.ctlWord (i / 256) (0x90 + i % 256 / 32)) (i % 32)
  | _ => false

/-- The levels of the 512 channels. -/
def Block.chanLevels (b : Block) : Nat :=
  maskOf ((b.dist.cfg.bsel.filter fun x => b.selLevel x.2).map (·.1))

/-- The levels of the 32 trigger entries. -/
def Block.trigLevels (b : Block) : Nat :=
  maskOf ((List.range 32).filter fun i => b.selLevel (b.dist.cfg.trigs.getD i (0, 0)).1)

/-- REC_MASK: the DI that a KIND 3 channel or trigger selects (R470). -/
def DistCfg.mask (c : DistCfg) : Nat :=
  maskOf (((c.bsel.map (·.2)) ++ c.trigs.map (·.1)).filter (fun s => selKind s == 3) |>.map selIx |> unionNat [])

/-! ### Segments (R471) -/

/-- The KIND 0 entries of a set against the qualities before it. DESIGN CHOICE (log 76). -/
def qualSegs (k : Nat) (before : Nat → Nat) (s : DSet) : List DSeg :=
  ((List.range 160).filter fun n => tget natD s.qual n != before n).map fun n =>
    { set := k, kind := 0, ch := n, val := tget natD s.qual n }

/-- The KIND 1 entries of gaps whose first set is set k: those that touch it and not the set before. DESIGN CHOICE (log 76). -/
def gapSegs (r : DRec) (k : Nat) (prev : Option DSet) (s : DSet) : List DSeg :=
  let i := distI r.d r.p
  let touches (g : Nat × Nat) (x : DSet) : Bool := decide (g.1 < x.at_ + i) && decide (x.at_ ≤ g.2)
  (r.gaps.filter fun g => touches g s && !(match prev with | some q => touches g q | none => false)).map fun g =>
    { set := k, kind := 1, ch := 0xFFFF, val := (r.sets.filter fun x => decide (x.at_ ≤ g.2)).length - 1 }

/-- The entries from set k on, in order of SET, KIND and CH. -/
def segsFrom (r : DRec) (k : Nat) (prev : Option DSet) (l : List DSet) : List DSeg :=
  match l with
  | [] => []
  | s :: t =>
    let before : Nat → Nat := match prev with | none => fun _ => 1 | some q => fun n => tget natD q.qual n
    let time : List DSeg := match prev with
      | some q => if s.at_ = (q.at_ + distI r.d r.p) % 2 ^ 64 then [] else [{ set := k, kind := 2, ch := 0, val := s.at_ }]
      | none => []
    qualSegs k before s ++ gapSegs r k prev s ++ time ++ segsFrom r (k + 1) (some s) t

/-- The segment list of a record, at most 16,128 entries. -/
def DRec.segs (r : DRec) : List DSeg := (segsFrom r 0 none r.sets).take 16128

/-- The record holds a KIND 2 segment. -/
def DRec.step (r : DRec) : Bool := r.segs.any fun g => g.kind == 2

/-! ### Reservation, opening and closing (R473, R475) -/

/-- A ladle transfer reads the record. -/
def Block.distReading (b : Block) (r : Nat) : Bool := b.ladleOn (0x40 + r)

/-- The records held. -/
def DistSt.held (d : DistSt) : List (Nat × DRec) := d.recs.filterMap fun x => x.2.map fun r => (x.1, r)

/-- ⌈MAXLEN / 1,024⌉. -/
def DistCfg.pages (c : DistCfg) : Nat := (c.maxlen + 1023) / 1024

/-- Free a record: its pages and header slot return. -/
def Block.distFree (k : Nat) (b : Block) : Block :=
  match tget drecD b.dist.recs k with
  | some r => { b with dist := { b.dist with recs := tset drecD b.dist.recs k none, free := b.dist.free + r.pages } }
  | none => b

/-- The oldest complete record that is neither KEEP nor READING. -/
def Block.distOldest (b : Block) : Option Nat :=
  let l := b.dist.held.filter fun x => x.2.complete && !x.2.keep && !b.distReading x.1
  match l with
  | [] => none
  | x :: t => some (t.foldl (fun m y => if y.2.rseq < m.2.rseq then y else m) x).1

/-- A reservation, freeing records under OVR 0 until it fits (R475). DESIGN CHOICE (log 75). -/
def Block.distReserve (fuel : Nat) (b : Block) : Block :=
  let d := b.dist
  if !d.run || !d.cfg.en || d.open_.isSome then b
  else
    let slot := (List.range 64).find? fun k => (tget drecD d.recs k).isNone
    match decide (d.cfg.pages ≤ d.free), slot with
    | true, some k =>
      let d2 : DistSt := { d with open_ := some k, recording := false, ring := [], gaps := [], free := d.free - d.cfg.pages }
      { b with dist := d2 }
    | _, _ =>
      match fuel, b.distOldest with
      | f + 1, some k => if d.cfg.ovr = 0 then ((b.distFree k).raise 494 k).distReserve f else b
      | _, _ => b

/-- The open record. -/
def Block.distOpen (b : Block) : Option (Nat × DRec) :=
  match b.dist.open_ with
  | some k => if b.dist.recording then (tget drecD b.dist.recs k).map fun r => (k, r) else none
  | none => none

/-- Close the open record: unused pages return, and event 495 goes with TRUNC (R473, R475, R482). DESIGN CHOICE (log 75). -/
def Block.distEnd (trunc segFull : Bool) (cause endAt : Nat) (b : Block) : Block :=
  match b.distOpen with
  | none => b
  | some (k, r) =>
    let used := (r.sets.length + 1023) / 1024
    let r2 := { r with closed := true, trunc := trunc, segFull := segFull, pages := used, endAt := endAt }
    let b : Block := { b with dist := { b.dist with
      recs := tset drecD b.dist.recs k (some r2), free := b.dist.free + (r.pages - used), open_ := none, recording := false
      ring := [], gaps := [] } }
    b.raiseIf trunc 495 cause

/-- Close the open record and make a new reservation at once (R473). -/
def Block.distClose (trunc segFull : Bool) (cause endAt : Nat) (b : Block) : Block :=
  if b.distOpen.isSome then (b.distEnd trunc segFull cause endAt).distReserve 64 else b

/-- The index of the set that holds an instant, among sets and the interval in progress after them. -/
def setIndex (iv : Nat) (sets : List DSet) (ns : Nat) : Nat :=
  match sets with
  | [] => 0
  | s :: t => if ns < s.at_ + iv then 0 else 1 + setIndex iv t ns

/-- The inputs exported by a record that starts now (R481). -/
def Block.distIns (b : Block) : List DIn :=
  ((List.range 160).filter fun n => (b.inRec n).sensor != 0).map fun n =>
    { n := n, gain := b.gainOf n, scale := (b.inRec n).scale, invert := (b.inRec n).invert }

/-- A trigger (R472, R473): it opens a record, extends the open one, is lost in FULL with event 493, and does nothing in
DISABLED. DESIGN CHOICE (log 75). -/
def Block.distTrigger (st : Stamp) (b : Block) : Block :=
  let d := b.dist
  let c := d.cfg
  let ns := ns64Of st.sec st.ns
  let lastOf (i : Nat) : Nat := satN (c.maxlen - 1) (i + c.post - 1)
  if !d.run || !c.en then b
  else match d.open_, b.distOpen with
    | none, _ => b.raise 493 d.held.length
    | some _, some (k, r) =>
      let e := lastOf (setIndex b.distIv r.sets ns)
      let r2 := { r with
        trigs := if r.trigs.length < 32 then r.trigs ++ [st] else r.trigs
        more := if r.trigs.length < 32 then r.more else satN 65535 (r.more + 1)
        last := if r.last < e then e else r.last }
      { b with dist := { d with recs := tset drecD d.recs k (some r2) } }
    | some k, none =>
      let s0 := match d.ring.head? with | some s => (s.at_, s.tq) | none => (d.start.getD b.ns64, d.tq)
      let r : DRec := {
        rseq := d.rseq, t0 := { sec := s0.1 / 1000000000, ns := s0.1 % 1000000000, qual := s0.2 }, trigs := [st]
        preGot := d.ring.length, sets := d.ring, gaps := d.gaps, ins := b.distIns, bsel := c.bsel, d := d.d, p := b.cnv.p
        epoch := b.time.epoch, pages := c.pages, last := lastOf (setIndex b.distIv d.ring ns) }
      { b with dist := { d with recs := tset drecD d.recs k (some r), recording := true, rseq := d.rseq + 1, ring := [], gaps := [] } }

/-! ### Levels and edges (R469, R470, R472) -/

/-- A selector's level changed in the direction of EDGE: 0 rising, 1 falling, 2 both. -/
def edgeHit (edge : Nat) (was now : Bool) : Bool :=
  was != now && (edge == 2 || (edge == 0 && now) || (edge == 1 && !now))

/-- The recorder observes the levels: channels that are 1 join the interval's, and trigger selectors that changed
trigger (R469, R472). -/
def Block.distObserve (b : Block) : Block :=
  if !b.dist.run then b
  else
    let lv := b.trigLevels
    let hits := (List.range 32).filter fun i =>
      let t := b.dist.cfg.trigs.getD i (0, 0)
      edgeHit t.2 (bitOf b.dist.trig i) (bitOf lv i)
    let b : Block := { b with dist := { b.dist with seen := Nat.lor b.dist.seen b.chanLevels, trig := lv } }
    hits.foldl (fun b _ => b.distTrigger b.stamp) b

/-- A set takes a DI edge at `ns` on the channels `chs`: a set after it has the new level, the set that holds it was 1 if
either level was (R469). -/
def DSet.edge (iv chs ns : Nat) (level : Bool) (s : DSet) : DSet :=
  if ns < s.at_ then { s with bin := if level then Nat.lor s.bin chs else Nat.xor (Nat.lor s.bin chs) chs }
  else if ns < s.at_ + iv && level then { s with bin := Nat.lor s.bin chs } else s

/-- Rewrite the records that are not COMPLETE. -/
def DistSt.onOpen (f : DRec → DRec) (d : DistSt) : DistSt :=
  { d with recs := tmap drecD d.recs fun _ x => x.map fun r => if r.complete then r else f r }

/-- One REC entry reaches the recorder (R470). -/
def Block.distEdge (e : Edge) (b : Block) : Block :=
  if !b.dist.run then b
  else
    let ns := ns64Of e.stamp.sec e.stamp.ns
    let chs := maskOf ((b.dist.cfg.bsel.filter fun x => x.2 == 3 * 4096 + e.input).map (·.1))
    let iv := b.distIv
    let was := bitOf b.dist.di e.input
    let gap := e.gapEnd || e.lostB
    -- after a block the gap begins with the last REC entry before it (R339)
    let span := (if e.gapEnd then e.gapNs else b.dist.lastEdge, ns)
    let d := b.dist.onOpen fun r =>
      { r with sets := r.sets.map (DSet.edge (distI r.d r.p) chs ns e.level), gaps := if gap then r.gaps ++ [span] else r.gaps }
    let after := decide (ns < d.start.getD 0)
    let b : Block := { b with dist := { d with
      ring := d.ring.map (DSet.edge iv chs ns e.level)
      gaps := if gap then d.gaps ++ [span] else d.gaps
      di := setBit d.di e.input e.level, lastEdge := ns
      seen := if e.level then Nat.lor d.seen chs else if after then Nat.xor (Nat.lor d.seen chs) chs else d.seen } }
    let hits := (List.range 32).filter fun i =>
      let t := b.dist.cfg.trigs.getD i (0, 0)
      t.1 == 3 * 4096 + e.input && edgeHit t.2 was e.level
    let b : Block := { b with dist := { b.dist with trig := b.trigLevels } }
    hits.foldl (fun b _ => b.distTrigger e.stamp) b

/-- EDGE_FIFO_DRAIN: the SP takes 64 entries; CNT entries go to the edge log, REC entries to the recorder (R339). -/
def Block.edgeDrain (b : Block) : Block :=
  if !b.spUp then b
  else
    let out := b.bar.fifo.take 64
    let b : Block := { b with bar := ({ b.bar with fifo := b.bar.fifo.drop 64 } : BarSt).reblock }
    out.foldl (fun b e =>
      let b : Block := if e.cnt then { b with bar := b.bar.logPut e } else b
      if e.rec_ then b.distEdge e else b) b

/-- A wire break was declared with Tb: the sets from Tb on carry WIRE_BREAK and lack VALID (R84, R471). -/
def Block.distBreak (n tb : Nat) (b : Block) : Block :=
  let t := b.stampAt tb
  let ns := ns64Of t.sec t.ns
  let mark (iv : Nat) (s : DSet) : DSet :=
    if ns < s.at_ + iv then
      { s with qual := tupd natD s.qual n fun q => Nat.lor (Nat.xor (Nat.lor q 1) 1) (({ wbreak := true } : Qual).word) }
    else s
  let d := b.dist.onOpen fun r => { r with sets := r.sets.map (mark (distI r.d r.p)) }
  { b with dist := { d with ring := d.ring.map (mark b.distIv) } }

/-! ### The recorder averager (R140, R468) -/

/-- An equivalent code saturated to −32,767 to +32,767, and whether it was beyond (R468). -/
def satCode (v : Int) : Int × Bool := (clampI (-32767) 32767 v, decide (32767 < v.natAbs))

/-- The set of the interval [start, start + I). DESIGN CHOICE (log 76). -/
def Block.distSet (start iv : Nat) (b : Block) : DSet :=
  let hi := b.elapsedAt (start + iv)
  let lo := hi - iv * nsE
  (List.range 160).foldl (fun s n =>
    let r := b.inRec n
    let a := b.average n lo hi
    let zero := r.sensor == 0 || a.gap
    let sat (v : Int) : Int × Bool := if r.integ then satCode v else (v, false)
    let m := sat (rneI a.mean 65536)
    let l := sat a.min
    let h := sat a.max
    let ovr := !zero && (m.2 || l.2 || h.2)
    { s with
      mean := if zero then s.mean else tset intD s.mean n m.1
      min := if zero then s.min else tset intD s.min n l.1
      max := if zero then s.max else tset intD s.max n h.1
      qual := tset natD s.qual n { a.qual with ovr := a.qual.ovr || ovr }.word })
    { at_ := start, tq := b.dist.tq, bin := b.dist.seen }

/-- RECORDER_INTERVAL_END: the interval that ended at the latest boundary delivers its set: into the ring in FORMING, behind
the record in RECORDING; a full segment list closes the record (R140, R467 to R473). -/
def Block.distInterval (b : Block) : Block :=
  let iv := b.distIv
  let fin := b.ns64 / iv * iv
  if !b.dist.run || b.dist.start == some fin then b
  else
    let next (b : Block) : Block := { b with dist := { b.dist with start := some fin, tq := b.time.tcQual, seen := b.chanLevels } }
    match b.dist.start with
    | none => next b
    | some _ =>
      let s := b.distSet (fin - iv) iv
      -- a record whose last set is past has closed (R473)
      let b := match b.distOpen with
        | some (_, r) => if r.last < r.sets.length then b.distClose false false 0 r.endAt else b
        | none => b
      let b := match b.distOpen with
        | some (k, r) =>
          let r2 := { r with sets := r.sets ++ [s], endAt := b.elapsedAt fin }
          let b : Block := { b with dist := { b.dist with recs := tset drecD b.dist.recs k (some r2) } }
          if 16128 ≤ r2.segs.length then b.distClose true true 1 r2.endAt else b
        | none =>
          if b.dist.open_.isSome then
            let ring := b.dist.ring ++ [s]
            { b with dist := { b.dist with ring := ring.drop (ring.length - b.dist.cfg.pre) } }
          else b
      next b

/-- RECORD_CLOSE: the record has its last set (R473). -/
def Block.recordClose (b : Block) : Block :=
  match b.distOpen with
  | some (_, r) => if r.last < r.sets.length then b.distClose false false 0 r.endAt else b
  | none => b

/-- RECORD_COMPLETE: 1 ms after the end of its last set's interval, with its length in ms (R476, R482). -/
def Block.recordComplete (b : Block) : Block :=
  let due := b.dist.held.filter fun x => x.2.closed && !x.2.complete && decide (x.2.endAt + msE ≤ b.now)
  due.foldl (fun b x =>
    Block.raise 492 (x.2.sets.length * distI x.2.d x.2.p / 1000000 : Nat)
      { b with dist := { b.dist with recs := tset drecD b.dist.recs x.1 (some { x.2 with complete := true }) } }) b

/-- The recorder starts at READY (R50, R467). -/
def Block.distStart (b : Block) : Block :=
  let c := b.dist.cfg
  let b : Block := { b with dist := { b.dist with run := true, d := c.d }, bar := { b.bar with recMask := c.mask } }
  Block.distReserve 64 { b with dist := { b.dist with trig := b.trigLevels } }

/-- A new configuration or a change of P: an open record closes with TRUNC, and the ring is discarded; the reservation that
follows is made under the new settings (R476). -/
def Block.distRestart (b : Block) : Block :=
  let b := b.distEnd true false 0 b.now
  let pg := if b.dist.open_.isSome then b.dist.cfg.pages else 0
  { b with dist := { b.dist with open_ := none, recording := false, ring := [], gaps := [], free := b.dist.free + pg } }

/-! ### The combined file (R481) -/

/-- Code × 3.2 / (65,536 × g) × SCALE in REAL32 (R481). -/
def DIn.real (i : DIn) (code : Int) : List Byte :=
  leBytes 4 (match realVal i.scale with
    | some v => realQ (code * 16 * v.1) (5 * 65536 * i.gain * v.2)
    | none => 0).toNat

/-- The bytes of a list of bits in 16-bit words, the first at bit 0. -/
def bitWords (l : List Bool) : List Byte := leBytes (2 * ((l.length + 15) / 16)) (bitsOf l)

/-- One DAT sample (R481). DESIGN CHOICE (log 77). -/
def DRec.dat (r : DRec) (k : Nat) (s : DSet) : List Byte :=
  let t := (rne (dist64 s.at_ (ns64Of r.t0.sec r.t0.ns)).toNat 1000).1
  let an (i : DIn) : List Byte :=
    let m := tget intD s.mean i.n
    let lo := tget intD s.min i.n
    let hi := tget intD s.max i.n
    if s.bad then zeros 12
    else if i.invert then i.real (-m) ++ i.real (-hi) ++ i.real (-lo) else i.real m ++ i.real lo ++ i.real hi
  leBytes 4 (k + 1) ++ leBytes 4 t ++ r.ins.flatMap an ++
  bitWords ((r.bsel.map fun x => bitOf s.bin x.1) ++ r.ins.map fun i => s.bad || !bitOf (tget natD s.qual i.n) 0)

/-- The samples from index k on. -/
def datFrom (r : DRec) (k : Nat) (l : List DSet) : List Byte :=
  match l with
  | [] => []
  | s :: t => r.dat k s ++ datFrom r (k + 1) t

/-- The 64-byte record entry, with CFF_SIZE as given (R479). -/
def Block.distEntry (size k : Nat) (r : DRec) (b : Block) : List Byte :=
  let g := r.segs
  leBytes 1 k ++ leBytes 1 (bitsOf [r.complete, r.keep, r.trunc, b.distReading k, r.segFull, g.any fun x => x.kind == 2]) ++
  leBytes 1 r.trigs.length ++ zeros 1 ++ leBytes 4 r.rseq ++ r.t0.bytes ++ (r.trigs.headD {}).bytes ++
  leBytes 4 r.sets.length ++ leBytes 4 r.preGot ++ leBytes 2 r.d ++ leBytes 2 r.p ++ leBytes 4 size ++
  leBytes 2 r.more ++ leBytes 2 g.length ++ leBytes 4 r.epoch ++ leBytes 2 r.ins.length ++ leBytes 2 r.bsel.length ++ zeros 4

/-- What the text sections of the file are generated from: the record entry, STATION, DEVICE, UTC_OFS, the trigger list, the
exported channels, the segments, and the sets that an uncorrectable word affects (R481, R537). -/
def Block.cffSource (k : Nat) (r : DRec) (b : Block) : List Byte :=
  b.distEntry 0 k r ++ b.dist.cfg.station ++ b.dist.cfg.device ++ leBytesInt 2 b.time.gm.utcOfs ++ leBytes 1 (b2n b.time.gm.utcValid) ++
  r.trigs.flatMap Stamp.bytes ++ (r.ins.flatMap fun i => leBytes 1 i.n ++ leBytes 4 i.scale.toNat) ++
  (r.bsel.flatMap fun x => leBytes 2 x.1 ++ leBytes 2 x.2) ++
  (r.segs.flatMap fun g => leBytes 4 g.set ++ leBytes 1 g.kind ++ zeros 1 ++ leBytes 2 g.ch ++ leBytes 8 g.val) ++
  ((List.range r.sets.length).filter fun k => ((r.sets[k]?.map (·.bad)).getD false)).flatMap (leBytes 4 ·)

/-- The combined file of a record: the text sections, then DAT (R481). DESIGN CHOICE (log 77). -/
def Block.cff (k : Nat) (r : DRec) (b : Block) : List Byte :=
  Config.cffText (b.cffSource k r) ++ datFrom r 0 r.sets

/-- CFF_SIZE: 0 until COMPLETE. -/
def Block.cffSize (k : Nat) (r : DRec) (b : Block) : Nat := if r.complete then (b.cff k r).length else 0

/-! ### Commands (R477 to R480) -/

/-- Text zero-padded to its field. DESIGN CHOICE (log 78). -/
def textOk (t : List Byte) : Bool :=
  t.all (fun c => decide (c.toNat < 128)) && ((t.dropWhile fun c => c != 0).all (· == 0))

/-- The settings of a 1,240-byte request. -/
def distCfgOf (p : List Byte) : DistCfg :=
  { ovr := fld p 1 1, d := fld p 2 2, pre := fld p 4 4, post := fld p 8 4, maxlen := fld p 12 4
    en := bitOf (fld p 16 4) 0, whisk := bitOf (fld p 16 4) 1, station := cut p 24 32, device := cut p 56 32
    trigs := (List.range 32).map fun i => (fld p (88 + 4 * i) 2, fld p (90 + 4 * i) 1)
    bsel := tsetRun natD [] 0 ((List.range 512).map fun i => fld p (216 + 2 * i) 2) }

/-- The reserved fields of a `dist.cfg` request are 0 (R9, R477). -/
def distCfgRsv (p : List Byte) : Bool :=
  decide (fld p 16 4 < 4) && fld p 20 4 == 0 && (List.range 32).all fun i => fld p (91 + 4 * i) 1 == 0

/-- Every field in its range (R477). -/
def distCfgOk (p : List Byte) : Bool :=
  let c := distCfgOf p
  p.length == 1240 && decide (c.ovr ≤ 1) && decide (4 ≤ c.d ∧ c.d ≤ 1024) && decide (1 ≤ c.post) &&
  decide (c.pre + c.post ≤ c.maxlen) && decide (c.maxlen ≤ 1048576) && decide (fld p 16 4 < 4) && fld p 20 4 == 0 &&
  textOk c.station && textOk c.device &&
  ((List.range 32).all fun i => fld p (91 + 4 * i) 1 == 0) && (c.trigs.all fun t => selOk t.1 && decide (t.2 ≤ 2)) &&
  c.bsel.all fun x => selOk x.2

/-- The 1,240-byte layout. -/
def DistCfg.bytes (c : DistCfg) : List Byte :=
  leBytes 1 2 ++ leBytes 1 c.ovr ++ leBytes 2 c.d ++ leBytes 4 c.pre ++ leBytes 4 c.post ++ leBytes 4 c.maxlen ++
  leBytes 4 (b2n c.en + 2 * b2n c.whisk) ++ zeros 4 ++ c.station ++ c.device ++
  (c.trigs.flatMap fun t => leBytes 2 t.1 ++ leBytes 1 t.2 ++ zeros 1) ++
  ((List.range 512).flatMap fun i => leBytes 2 (tget natD c.bsel i))

/-- DIST_CFG (R477). An accepted write tries the reservation again in FULL (R475). DESIGN CHOICE (log 78). -/
def distCfg (r : Req) (b : Block) : Block :=
  b.onReq 0x0C01 r fun b =>
    let op := fld r.payload 0 1
    if op = 2 then (if distCfgRsv r.payload then b.ok r b.dist.cfg.bytes else b.status r stBADARG)
    else if op != 0 || !distCfgOk r.payload then b.status r stBADARG
    else Block.distReserve 64 (b.journal false 0x0C01 r)

/-- Both appends of a `dist.cfg` are done. -/
def distCfgCommit (r : Req) (b : Block) : Block :=
  let c := distCfgOf r.payload
  Block.answer r stOK b.effS [] { b with
    dist := { b.dist with cfgPend := b.dist.cfgPend ++ [(b.effS, c)] }
    nv := { b.nv with store := { b.nv.store with dist := c } } }

/-- DIST_CFG_EFFECT: at S an open record closes with TRUNC, the ring is discarded, and a reservation is made under the new
settings (R476). DESIGN CHOICE (log 78). -/
def distCfgEffect (b : Block) : Block :=
  let due := b.dist.cfgPend.filter fun x => decide (x.1 ≤ b.time.epoch)
  let b : Block := { b with dist := { b.dist with cfgPend := b.dist.cfgPend.filter fun x => decide (b.time.epoch < x.1) } }
  due.foldl (fun b x =>
    let b := b.distRestart
    let keep := b.dist.d == x.2.d
    let b : Block := { b with
      dist := { b.dist with cfg := x.2, d := x.2.d, start := if keep then b.dist.start else none, seen := 0 }
      bar := { b.bar with recMask := x.2.mask } }
    let b : Block := { b with dist := { b.dist with trig := b.trigLevels, seen := b.chanLevels } }
    b.distReserve 64) b

/-- A change of P at a sequence set's S (R97, R476). -/
def Block.distP (b : Block) : Block :=
  let b := b.distRestart
  Block.distReserve 64 { b with dist := { b.dist with start := none } }

/-- DIST_TRIGGER (R478). -/
def distTriggerCmd (r : Req) (b : Block) : Block :=
  b.onReq 0x0C02 r fun b =>
    if fld r.payload 0 4 != 0 then b.status r stBADARG
    else if !b.dist.cfg.en then b.status r stNOTREADY
    else match b.dist.open_ with
      | none => b.status r stBUSY
      | some k => Block.answer r stOK (b.time.epoch + 1) (leBytes 1 k ++ zeros 3) { b with dist := { b.dist with manual := true } }

/-- The tick takes a waiting `dist.trigger` (R472). -/
def Block.distTick (b : Block) : Block :=
  if b.dist.manual then Block.distTrigger b.stamp { b with dist := { b.dist with manual := false } } else b

/-- DIST_LIST (R479). -/
def distList (r : Req) (b : Block) : Block :=
  b.onReq 0x0C03 r fun b =>
    let f := fld r.payload 0 1
    let m := fld r.payload 1 1
    if 63 < f || m = 0 || 63 < m || fld r.payload 2 2 != 0 then b.status r stBADARG
    else
      let d := b.dist
      let all := d.held
      let out := (all.filter fun x => decide (f ≤ x.1)).take m
      let st := if !d.cfg.en then 0 else if d.open_.isNone then 3 else if d.recording then 2 else 1
      b.ok r (leBytes 1 st ++ leBytes 1 out.length ++ leBytes 1 all.length ++ zeros 1 ++ leBytes 4 d.free ++
        out.flatMap fun x => b.distEntry (b.cffSize x.1 x.2) x.1 x.2)

/-- The record that a `dist.keep` names, where it exists and is COMPLETE. -/
def Block.distNamed (b : Block) (r : Req) : Option (Nat × DRec) :=
  let k := fld r.payload 0 1
  match tget drecD b.dist.recs k with
  | some x => if x.complete && fld r.payload 2 2 == 0 && decide (fld r.payload 1 1 ≤ 2) then some (k, x) else none
  | none => none

/-- DIST_KEEP and DIST_RELEASE (R480). -/
def distMark (keep : Bool) (r : Req) (b : Block) : Block :=
  match b.distNamed r with
  | none => b.status r stBADARG
  | some (k, x) =>
    Block.distReserve 64 (Block.ok r [] { b with dist := { b.dist with recs := tset drecD b.dist.recs k (some { x with keep := keep }) } })

/-- DIST_KEEP. -/
def distKeep (r : Req) (b : Block) : Block :=
  b.onOp 0x0C04 r (fld r.payload 1 1 == 0 || decide (2 < fld r.payload 1 1)) (distMark true r)
/-- DIST_RELEASE. -/
def distRelease (r : Req) (b : Block) : Block := b.onOp 0x0C04 r (fld r.payload 1 1 == 1) (distMark false r)
/-- DIST_DELETE. -/
def distDelete (r : Req) (b : Block) : Block :=
  b.onOp 0x0C04 r (fld r.payload 1 1 == 2) fun b =>
    match b.distNamed r with
    | none => b.status r stBADARG
    | some (k, _) => if b.distReading k then b.status r stBUSY else Block.distReserve 64 (Block.ok r [] (b.distFree k))

/-! ### Meanings -/

def execRecorderIntervalEnd (s : State) : Out := s.done s.blk.distInterval
def execEdgeFifoDrain (s : State) : Out := s.done s.blk.edgeDrain
def execDistCfg (r : Req) (s : State) : Out := s.done (distCfg r s.blk)
def execDistCfgEffect (s : State) : Out := s.done (distCfgEffect s.blk)
def execDistTrigger (r : Req) (s : State) : Out := s.done (distTriggerCmd r s.blk)
def execDistList (r : Req) (s : State) : Out := s.done (distList r s.blk)
def execDistKeep (r : Req) (s : State) : Out := s.done (distKeep r s.blk)
def execDistRelease (r : Req) (s : State) : Out := s.done (distRelease r s.blk)
def execDistDelete (r : Req) (s : State) : Out := s.done (distDelete r s.blk)
def execRecordClose (s : State) : Out := s.done s.blk.recordClose
def execRecordComplete (s : State) : Out := s.done s.blk.recordComplete

end Sys2Proof.Machine
end

