-- ==== Sys2Proof/Machine/FabServ.lean ====
section
/-! DEFINITION. The services of the fabric: protection signalling, travelling-wave exchange, fabric whisk and sessions, and the
`fab.` commands (18 of the spec, R408, R411 to R416, R418 to R424). -/

namespace Sys2Proof.Machine
open Sys2Proof

/-! ### Protection signalling -/

/-- PROTECTION_SIGNAL_RX: the inner GOOSE frame meets the subscription filter as received on the logical port of arrival,
with the receive stamp of the outer frame (R411). -/
def Block.signalRx (b : Block) : Block :=
  match b.take 1 fun _ => true with
  | some (m, b) => match m.body with
    | .signal f => b.gooseFilter m.hdr f
    | _ => b
  | none => b

/-! ### Travelling-wave arrival exchange (R413 to R415) -/

def twD (_ : Nat) : TwCfg := {}

/-- The location record of a pair (R414). DESIGN CHOICE (log 70). -/
def twLocate (c : TwCfg) (g : Nat) (l r : TwWait) : TwLoc :=
  let dt : Int := dist64 (ns64Of l.stamp.sec l.stamp.ns) (ns64Of r.stamp.sec r.stamp.ns)
  let unsync := l.stamp.qual % 8 != 1 || r.stamp.qual % 8 != 1
  let num : Int := (c.len : Int) * 1000000 + c.vel * dt
  -- round((LEN + v × Δ) / 2), halves away from 0
  let d : Int := if num < 0 then -((num.natAbs + 1000000) / 2000000 : Nat) else ((num.natAbs + 1000000) / 2000000 : Nat)
  let far := decide (c.len * 1000000 + 20000 * c.vel < dt.natAbs * c.vel)
  let out := far || decide (d < 0) || decide ((c.len : Int) < d)
  let e := c.vel * (200 + 2 ^ (l.stamp.qual / 256) + 2 ^ (r.stamp.qual / 256))
  { loc := l.stamp, rem := r.stamp, group := g, unsync := unsync, outside := out, remote := c.remote
    dist := (clampI 0 c.len d).toNat
    err := if unsync then 0xFFFFFFFF else satN 0xFFFFFFFF ((e + 1999999) / 2000000)
    lseq := l.rseq, rseq := r.rseq }

/-- A location record is written: the FIFO of 64 and event 402 (R414, R415). -/
def Block.locate (x : TwLoc) (b : Block) : Block :=
  if 64 ≤ b.fab.locs.length then { b with fab := { b.fab with twDrops := b.fab.twDrops + 1 } }
  else Block.raise 402 ((x.dist / 100 : Nat) : Int) { b with fab := { b.fab with locs := b.fab.locs ++ [x] } }

/-- TW_PAIR_WAIT_EXPIRY: records unpaired for PAIR_WAIT; event 403 each (R414). -/
def Block.twExpire (b : Block) : Block :=
  let due (w : TwWait) : Bool := decide (w.at_ + (tget twD b.fab.tw w.group).wait * msE ≤ b.now)
  (b.fab.unpaired.filter due).foldl (fun b w => b.raise 403 w.group)
    { b with fab := { b.fab with unpaired := b.fab.unpaired.filter fun w => !due w } }

/-- A record of one end pairs with the first unpaired record of the other end of its group, or waits; records past their
PAIR_WAIT no longer pair (R414). -/
def Block.twPair (w : TwWait) (b : Block) : Block :=
  let b := b.twExpire
  let c := tget twD b.fab.tw w.group
  let other (x : TwWait) : Bool := x.group == w.group && x.remote != w.remote
  match b.fab.unpaired.find? other with
  | none => { b with fab := { b.fab with unpaired := b.fab.unpaired ++ [w] } }
  | some o =>
    let b : Block := { b with fab := { b.fab with unpaired := b.fab.unpaired.eraseP other } }
    b.locate (if w.remote then twLocate c w.group o w else twLocate c w.group w o)

/-- TW_RECORD_SEND: the oldest arrival record not yet handed over goes to REMOTE where its group is enabled (R146, R414). -/
def Block.twSend (b : Block) : Block :=
  match b.acc.toFab with
  | [] => b
  | x :: r =>
    let b : Block := { b with acc := { b.acc with toFab := r } }
    let c := tget twD b.fab.tw x.group
    if 32 ≤ x.group || !c.en then b
    else (b.fabSend 2 c.remote false false false false (.bytes (leBytes 1 c.rgroup ++ zeros 3 ++ x.bytes))).twPair
      { group := x.group, stamp := x.stamp, rseq := x.rseq, at_ := b.now }

/-- TW_RECORD_RX (R414). -/
def Block.twRx (b : Block) : Block :=
  match b.take 2 fun _ => true with
  | none => b
  | some (m, b) =>
    let p := m.bytes
    let g := fld p 0 1
    let c := tget twD b.fab.tw g
    if p.length ≠ 36 ∨ 32 ≤ g ∨ !c.en ∨ c.remote ≠ m.src ∨ c.rgroup ≠ fld p 16 1 then
      b.fabDiscard (b.logical m.hdr.port) .malformed 401
    else b.twPair { group := g, remote := true, rseq := fld p 32 4, at_ := b.now,
                    stamp := { sec := fld p 4 6, ns := fld p 10 4, qual := fld p 14 2 } }


/-- The setting of a `fab.tw` record (R413). DESIGN CHOICE (log 68). -/
def twCfgOf (p : List Byte) : TwCfg :=
  { en := bitOf (fld p 0 1) 0, rgroup := fld p 1 1, remote := fld p 2 2, len := fld p 4 4, vel := fld p 8 4, wait := fld p 12 2 }
def twCfgOk (p : List Byte) : Bool :=
  let c := twCfgOf p
  allZero p || (decide (fld p 0 1 ≤ 1) && decide (c.rgroup < 32) && decide (1 ≤ c.len ∧ c.len ≤ 300000) &&
    decide (100000 ≤ c.vel ∧ c.vel ≤ 300000) && decide (10 ≤ c.wait ∧ c.wait ≤ 1000) && fld p 14 2 == 0)
def TwCfg.bytes (c : TwCfg) : List Byte :=
  leBytes 1 (b2n c.en) ++ leBytes 1 c.rgroup ++ leBytes 2 c.remote ++ leBytes 4 c.len ++ leBytes 4 c.vel ++ leBytes 2 c.wait ++
  zeros 2
def twTable (p : List Byte) : Tab TwCfg :=
  (List.range 32).foldl (fun t i =>
    let x := cut p (4 + 16 * i) 16
    tset twD t i (if allZero x then {} else twCfgOf x)) []

/-- The reserved fields of the records of a `fab.tw` request are 0 (R9, R413). -/
def twRsv (p : List Byte) : Bool :=
  (List.range 32).all fun i => decide (fld p (4 + 16 * i) 1 ≤ 1) && fld p (18 + 16 * i) 2 == 0

/-- FAB_TW (R413). -/
def fabTw (r : Req) (b : Block) : Block :=
  b.onReq 0x0A07 r fun b =>
    let op := fld r.payload 0 1
    if !allZero (cut r.payload 1 3) || (op != 0 && op != 2) then b.status r stBADARG
    else if op = 2 then
      if twRsv r.payload then b.ok r (leBytes 1 2 ++ zeros 3 ++ (List.range 32).flatMap fun i => (tget twD b.fab.tw i).bytes)
      else b.status r stBADARG
    else if (List.range 32).all fun i => twCfgOk (cut r.payload (4 + 16 * i) 16) then b.journal false 0x0A07 r
    else b.status r stBADARG
def fabTwCommit (r : Req) (b : Block) : Block :=
  let t := twTable r.payload
  Block.answer r stOK b.effS [] { b with
    fab := { b.fab with twPend := b.fab.twPend ++ [(b.effS, t)] }
    nv := { b.nv with store := { b.nv.store with tw := t } } }

/-- FAB_TW_EFFECT: unpaired records of changed groups are discarded (R413). -/
def Block.fabTwEffect (b : Block) : Block :=
  (b.fab.twPend.filter fun x => decide (x.1 ≤ b.time.epoch)).foldl (fun b x =>
      { b with fab := { b.fab with
        tw := x.2
        unpaired := b.fab.unpaired.filter fun w => tget twD b.fab.tw w.group == tget twD x.2 w.group } })
    { b with fab := { b.fab with twPend := b.fab.twPend.filter fun x => decide (b.time.epoch < x.1) } }

/-- The 48-byte location record (R415). -/
def TwLoc.bytes (x : TwLoc) : List Byte :=
  x.loc.bytes ++ x.rem.bytes ++ leBytes 1 x.group ++ leBytes 1 (b2n x.unsync + 2 * b2n x.outside) ++ leBytes 2 x.remote ++
  leBytes 4 x.dist ++ leBytes 4 x.err ++ leBytes 4 x.lseq ++ leBytes 4 x.rseq ++ zeros 4

/-- FAB_TWLOC (R146, R415). -/
def fabTwloc (r : Req) (b : Block) : Block :=
  b.onReq 0x0A08 r fun b =>
    let n := fld r.payload 0 1
    if n < 1 || 64 < n || !allZero (cut r.payload 1 3) then b.status r stBADARG
    else
      let out := b.fab.locs.take n
      let left := b.fab.locs.drop n
      Block.ok r (leBytes 2 out.length ++ leBytes 2 left.length ++ leBytes 4 b.fab.twDrops ++ out.flatMap TwLoc.bytes)
        { b with fab := { b.fab with locs := left, twDrops := 0 } }

/-! ### Fabric whisk (R416) -/

/-- FAB_WHISK: the local compare is armed at W and a frame of SVC 3 carries W. DESIGN CHOICE (log 68, 69). -/
def fabWhisk (r : Req) (b : Block) : Block :=
  b.onReq 0x0A09 r fun b =>
    let p := r.payload
    let w := fld p 0 8
    let fl := fld p 10 1
    let wait := fld p 12 2
    if 7 < fl || (bitOf fl 0 && bitOf fl 1) || (bitOf fl 2 && !bitOf fl 0 && !bitOf fl 1) || wait < 1 || 1000 < wait ||
        fld p 11 1 != 0 || fld p 14 2 != 0 then b.status r stBADARG
    else if 0 ≤ dist64 b.ns64 w then b.status r stLATE
    else if b.snap.arm.any fun a => a.at_ != w || a.source == 2 then b.status r stCONFLICT
    else
      let arm := (b.snap.arm).getD { at_ := w, source := 3, armedAt := b.ns64 }
      let b : Block := { b with
        snap := { b.snap with arm := some arm }
        fab := { b.fab with whisks := b.fab.whisks ++
          [{ req := r, w := w, epoch := b.time.epoch, dueAt := b.now + wait * msE }] } }
      b.fabSend 3 (fld p 8 2) (bitOf fl 0) (bitOf fl 1) (bitOf fl 2) false (.bytes (leBytes 8 w))

/-- FABRIC_WHISK_RX. The answer carries W, the status and the UNSYNC mark. DESIGN CHOICE (log 68). -/
def Block.whiskRx (b : Block) : Block :=
  match b.take 3 fun m => m.bytes.length == 8 with
  | none => b
  | some (m, b) =>
    let w := fld m.bytes 0 8
    let reply (st : Nat) (b : Block) : Block :=
      b.fabSend 3 m.src false false false false
        (.bytes (leBytes 8 w ++ leBytes 2 st ++ leBytes 1 (b2n (b.time.servo.state != .locked)) ++ zeros 1))
    if 0 ≤ dist64 b.ns64 w then (b.raise 405 0) |> reply stLATE
    else match b.snap.arm with
    | some a => if a.at_ = w then (b.raise 404 ((dist64 w b.ns64).natAbs / 1000000 : Nat)) |> reply stOK
      else (b.raise 405 1) |> reply stCONFLICT
    | none =>
      (Block.raise 404 ((dist64 w b.ns64).natAbs / 1000000 : Nat)
        { b with snap := { b.snap with arm := some { at_ := w, source := 3, armedAt := b.ns64 } } }) |> reply stOK

/-- FABRIC_WHISK_ANSWER: tallied with its call; after WAIT it is discarded. -/
def Block.whiskAnswer (b : Block) : Block :=
  match b.take 3 fun m => m.bytes.length == 12 with
  | none => b
  | some (m, b) =>
    let w := fld m.bytes 0 8
    let st := fld m.bytes 8 2
    let un := fld m.bytes 10 1 != 0
    match b.fab.whisks.findIdx? fun c => c.w == w && decide (b.now < c.dueAt) with
    | none => b
    | some i =>
      let add (c : WhiskCall) : WhiskCall :=
        if st = stOK then { c with armed := c.armed + 1, unsync := c.unsync + b2n un }
        else
          let c := if st = stLATE then { c with late := c.late + 1 } else { c with conflict := c.conflict + 1 }
          { c with recs := if c.recs.length < 64 then c.recs ++ [(m.src, st)] else c.recs }
      { b with fab := { b.fab with whisks := lupd b.fab.whisks i add } }

/-- FABRIC_WHISK_WAIT_END. DESIGN CHOICE (log 69). -/
def Block.whiskEnd (b : Block) : Block :=
  let due := b.fab.whisks.filter fun c => decide (c.dueAt ≤ b.now)
  due.foldl (fun b c => b.answer c.req stOK c.epoch
      (leBytes 2 c.armed ++ leBytes 2 c.unsync ++ leBytes 2 c.late ++ leBytes 2 c.conflict ++
        c.recs.flatMap fun x => leBytes 2 x.1 ++ leBytes 2 x.2))
    { b with fab := { b.fab with whisks := b.fab.whisks.filter fun c => decide (b.now < c.dueAt) } }

/-! ### Sessions (R418 to R420) -/

/-- A message of SVC 5: OP, LEVEL, CLIENT, a reserved byte and what follows. -/
def Block.sessSend (peer op level client : Nat) (rest : List Byte) (b : Block) : Block :=
  b.fabMessage 5 peer false (leBytes 1 op ++ leBytes 1 level ++ leBytes 1 client ++ zeros 1 ++ rest)

/-- The highest level that `fab.access` allows a source: the first record that matches (R420). -/
def Block.accessOf (b : Block) (src : Nat) : Option Nat :=
  (b.fab.access.find? fun a => a.auth != 255 && Nat.land src a.mask == Nat.land a.addr a.mask).map (·.auth)

/-- The first waiting message of SVC 5 with a given OP. -/
def Block.takeOp (op : Nat) (b : Block) : Option (FabMsg × Block) := b.take 5 fun m => m.bytes.length != 0 && fld m.bytes 0 1 == op

/-- SESSION_OPEN_RX (R418). The reply's status follows its 4 bytes. -/
def Block.sessOpen (b : Block) : Block :=
  match b.takeOp 0 with
  | none => b
  | some (m, b) =>
    let refuse (st : Nat) : Block := (b.raise 407 st).sessSend m.src 1 0 255 (leBytes 2 st)
    match b.accessOf m.src with
    | none => refuse stNOAUTH
    | some a =>
      match ((List.range 128).map (· + 128)).find? fun c => (tget sessD b.fab.sess c).isNone with
      | none => refuse stBUSY
      | some c =>
        if !b.sys.mbxFab then refuse stBUSY
        else
          let lv := min a (fld m.bytes 1 1)
          let b : Block := { b with
            fab := { b.fab with sess := tset sessD b.fab.sess c (some { peer := m.src, level := lv, reqAt := b.now }) }
            mbx := { b.mbx with clients := tset clientD b.mbx.clients c { auth := lv } } }
          (b.raise 406 c).sessSend m.src 1 lv c (leBytes 2 stOK)

/-- The inner request leaves for the session's client number. -/
def Block.callSend (c : Call) (client : Nat) (b : Block) : Block :=
  b.sessSend c.target 2 c.level client (leBytes 1 client ++ c.inner.drop 1)

/-- SESSION_OPEN_REPLY_RX: it answers the oldest OPEN to its source, and serves the calls of that level (R418, R419).
DESIGN CHOICE (log 68). -/
def Block.sessReply (b : Block) : Block :=
  match b.takeOp 1 with
  | none => b
  | some (m, b) =>
    let cl := fld m.bytes 2 1
    let st := fld m.bytes 4 2
    match b.fab.calls.find? fun c => c.target == m.src && !c.sent with
    | none => b
    | some c0 =>
    let mine (c : Call) : Bool := c.target == m.src && c.level == c0.level && !c.sent
    let calls := b.fab.calls.filter mine
    if st = stOK then
      let b : Block := { b with fab := { b.fab with
        outs := b.fab.outs ++ [{ target := m.src, level := c0.level, client := cl }]
        calls := b.fab.calls.map fun c => if mine c then { c with sent := true } else c } }
      calls.foldl (fun b c => b.callSend c cl) b
    else
      calls.foldl (fun b c => b.answer c.req st b.time.epoch [])
        { b with fab := { b.fab with calls := b.fab.calls.filter fun c => !mine c } }

/-- Requests of a client that are accepted and not answered. -/
def Block.outstanding (b : Block) (c : Nat) : Nat := (b.mbx.accepted.filter fun a => a.req.client == c).length

/-- SESSION_REQUEST_RX: placed in the client's ring; a ninth outstanding request is answered BUSY (R418). -/
def Block.sessRequest (b : Block) : Block :=
  match b.takeOp 2 with
  | none => b
  | some (m, b) =>
    let c := fld m.bytes 2 1
    let msg := leBytes 1 c ++ m.bytes.drop 5
    match tget sessD b.fab.sess c with
    | none => b
    | some x =>
      if x.peer ≠ m.src ∨ m.bytes.length < 20 then b
      else if 8 ≤ x.queue.length + b.outstanding c then
        b.sessSend m.src 3 0 c (msgBytes c ((fld msg 1 1 % 2) + 0x80) (fld msg 2 2) (fld msg 4 4) stBUSY (b.time.epoch % 2 ^ 32) [])
      else { b with fab := { b.fab with
        sess := tset sessD b.fab.sess c (some { x with queue := x.queue ++ [msg], reqAt := b.now }) } }

/-- SESSION_RESPONSE_RX: a pending `fab.call` is answered OK with the inner response, or TOO_LONG with its header (R419). -/
def Block.sessResponse (b : Block) : Block :=
  match b.takeOp 3 with
  | none => b
  | some (m, b) =>
    let msg := m.bytes.drop 4
    let mine (c : Call) : Bool :=
      c.sent && c.target == m.src && fld c.inner 4 4 == fld msg 4 4 && decide (b.now < c.dueAt)
    match b.fab.calls.find? mine with
    | none => b
    | some c =>
      let b : Block := { b with fab := { b.fab with calls := b.fab.calls.eraseP mine } }
      if msg.length ≤ 4096 then b.answer c.req stOK b.time.epoch msg
      else b.answer c.req stTOOLONG b.time.epoch (msg.take 16)

/-- A session closes: event 408; what its client still had accepted gets no response (R418, R425). DESIGN CHOICE (log 70). -/
def Block.sessClose (c : Nat) (b : Block) : Block :=
  if (tget sessD b.fab.sess c).isNone then b
  else Block.raise 408 c { b with
    fab := { b.fab with sess := tset sessD b.fab.sess c none }
    mbx := { b.mbx with
      accepted := b.mbx.accepted.filter fun a => a.req.client != c
      clients := tset clientD b.mbx.clients c {} } }

/-- SESSION_CLOSE_RX: the peer ends a session of its own, or one that this engine opened (R418). -/
def Block.sessCloseRx (b : Block) : Block :=
  match b.takeOp 4 with
  | none => b
  | some (m, b) =>
    let c := fld m.bytes 2 1
    match tget sessD b.fab.sess c with
    | some x => if x.peer = m.src then b.sessClose c
      else { b with fab := { b.fab with outs := b.fab.outs.filter fun o => !(o.target == m.src && o.client == c) } }
    | none => { b with fab := { b.fab with outs := b.fab.outs.filter fun o => !(o.target == m.src && o.client == c) } }

/-- SESSION_IDLE_CLOSE: 10 s without a request, with empty rings (R418). -/
def Block.sessIdle (c : Nat) (b : Block) : Block :=
  match tget sessD b.fab.sess c with
  | some x =>
    if x.queue.isEmpty && b.outstanding c == 0 && decide (x.reqAt + 10 * secE ≤ b.now) then
      (b.sessSend x.peer 4 0 c []).sessClose c
    else b
  | none => b

/-- FAB_CALL: by the session of the caller's level, or after the OPEN that is out or sent for it (R419). -/
def fabCall (r : Req) (b : Block) : Block :=
  b.onReq 0x0A0A r fun b =>
    let p := r.payload
    let t := fld p 2 2
    let inner := p.drop 4
    if t < 10 || 10000 < t || inner.length < 16 || 4092 < inner.length || fld inner 10 2 + 16 != inner.length ||
        fld inner 2 2 == 0x0A0A then b.status r stBADARG
    else
      let lv := b.authOf r.client
      let c : Call := { req := r, target := fld p 0 2, level := lv, dueAt := b.now + t * msE, inner := inner }
      match b.fab.outs.find? fun o => o.target == c.target && o.level == lv with
      | some o => Block.callSend c o.client { b with fab := { b.fab with calls := b.fab.calls ++ [{ c with sent := true }] } }
      | none =>
        let opening := b.fab.calls.any fun d => d.target == c.target && d.level == lv && !d.sent
        let b : Block := { b with fab := { b.fab with calls := b.fab.calls ++ [c] } }
        if opening then b else b.sessSend c.target 0 lv 0 []

/-- FAB_CALL_TIMEOUT (R419). -/
def Block.callTimeout (b : Block) : Block :=
  let due := b.fab.calls.filter fun c => decide (c.dueAt ≤ b.now)
  due.foldl (fun b c => b.answer c.req stLATE b.time.epoch [])
    { b with fab := { b.fab with calls := b.fab.calls.filter fun c => decide (b.now < c.dueAt) } }

/-- The 32 records of `fab.access` (R420). -/
def accessOfBytes (p : List Byte) : List AccRec := (List.range 32).map fun i =>
  { addr := fld p (4 + 8 * i) 2, mask := fld p (6 + 8 * i) 2, auth := fld p (8 + 8 * i) 1 }
def fabAccess (r : Req) (b : Block) : Block :=
  b.onReq 0x0A0B r fun b =>
    let op := fld r.payload 0 1
    let l := accessOfBytes r.payload
    if !allZero (cut r.payload 1 3) || (op != 0 && op != 2) then b.status r stBADARG
    else if !(List.range 32).all (fun i => allZero (cut r.payload (9 + 8 * i) 3)) then b.status r stBADARG
    else if op = 2 then b.ok r (leBytes 1 2 ++ zeros 3 ++ b.fab.access.flatMap fun a =>
      leBytes 2 a.addr ++ leBytes 2 a.mask ++ leBytes 1 a.auth ++ zeros 3)
    else if l.all (fun a => decide (a.auth ≤ 3) || a.auth == 255) then b.journal false 0x0A0B r
    else b.status r stBADARG
/-- DESIGN CHOICE (log 72). -/
def fabAccessCommit (r : Req) (b : Block) : Block :=
  let l := accessOfBytes r.payload
  Block.answer r stOK b.time.epoch [] { b with
    fab := { b.fab with access := l }, nv := { b.nv with store := { b.nv.store with access := l } } }

/-! ### Configuration and status -/

/-- The layout of R422. -/
def fabCfgOf (p : List Byte) : FabCfg :=
  { en := bitOf (fld p 1 1) 0, addr := some (fld p 2 2), etype := fld p 4 2, hopMax := fld p 6 1, ports := fld p 7 1
    cost := (List.range 4).map fun i => fld p (8 + i) 1, groups := (List.range 16).map fun i => fld p (12 + 2 * i) 2 }
/-- The reserved fields of a `fab.cfg` request are 0 (R9, R422). -/
def fabCfgRsv (p : List Byte) : Bool := decide (fld p 1 1 ≤ 1) && fld p 44 4 == 0

def fabCfgOk (p : List Byte) : Bool :=
  let c := fabCfgOf p
  decide (fld p 1 1 ≤ 1) && decide (0x0600 ≤ c.etype) && !decide (c.etype ∈ [0x88F7, 0x88B8, 0x88BA, 0x88FB, 0x892F]) &&
  decide (2 ≤ c.hopMax ∧ c.hopMax ≤ 15) && decide (c.ports ≤ 15) && c.cost.all (fun v => decide (1 ≤ v ∧ v ≤ 14)) &&
  fld p 44 4 == 0
def fabCfgBytes (c : FabCfg) : List Byte :=
  leBytes 1 2 ++ leBytes 1 (b2n c.en) ++ leBytes 2 (c.addr.getD 0) ++ leBytes 2 c.etype ++ leBytes 1 c.hopMax ++
  leBytes 1 c.ports ++ c.cost.flatMap (leBytes 1) ++ c.groups.flatMap (leBytes 2) ++ zeros 4

/-- FAB_CFG (R422). -/
def fabCfg (r : Req) (b : Block) : Block :=
  b.onReq 0x0A01 r fun b =>
    let op := fld r.payload 0 1
    if op = 2 then (if fabCfgRsv r.payload then b.ok r (fabCfgBytes b.fab.cfg) else b.status r stBADARG)
    else if op = 0 && fabCfgOk r.payload then b.journal false 0x0A01 r else b.status r stBADARG
def fabCfgCommit (r : Req) (b : Block) : Block :=
  let c := fabCfgOf r.payload
  Block.answer r stOK b.effS [] { b with
    fab := { b.fab with cfgPend := b.fab.cfgPend ++ [(b.effS, c)] }
    nv := { b.nv with store := { b.nv.store with fab := c } } }

/-- One `fab.cfg` takes effect: a change of address closes every session; that and an enabling restart the engine's own
probation (R401, R422). -/
def Block.fabApply (c : FabCfg) (b : Block) : Block :=
  let o := b.fab.cfg
  let moved := o.addr != c.addr
  let again := moved || (c.en && !o.en)
  let b := if moved then (List.range 128).foldl (fun b i => b.sessClose (128 + i)) b else b
  let f := { b.fab with cfg := c }
  let f := if again then { f with probing := true, firstAt := none } else f
  let f := if moved then { f with outs := [] } else f
  Block.reroute { b with fab := if c.en && !o.en then { f with hcount := 0 } else f }

/-- FAB_CFG_EFFECT. -/
def Block.fabCfgEffect (b : Block) : Block :=
  (b.fab.cfgPend.filter fun x => decide (x.1 ≤ b.time.epoch)).foldl (fun b x => b.fabApply x.2)
    { b with fab := { b.fab with cfgPend := b.fab.cfgPend.filter fun x => decide (b.time.epoch < x.1) } }

/-- FAB_ROUTE_WRITE (R408): checks; the entry is written when its journal entries are. -/
def fabRouteWrite (r : Req) (b : Block) : Block :=
  b.onOp 0x0A02 r (fld r.payload 0 1 != 1 && fld r.payload 0 1 != 2) fun b =>
    let p := r.payload
    if fld p 0 1 != 0 || 3 < fld p 1 1 || 3 < fld p 3 1 || 14 < fld p 6 1 || fld p 7 1 != 0 then b.status r stBADARG
    else b.journal false 0x0A02 r
/-- FAB_ROUTE_UNPIN (R408). -/
def fabRouteUnpin (r : Req) (b : Block) : Block :=
  b.onOp 0x0A02 r (fld r.payload 0 1 == 1) fun b =>
    if 3 < fld r.payload 1 1 || fld r.payload 7 1 != 0 then b.status r stBADARG else b.journal false 0x0A02 r

def pinD (_ : Nat) : Option Route := none

/-- Both appends of a pinned route, or of its removal, are done: the entry is written in that step, with the sieve entries
that INVAL names; without INVAL, event 411 where a sieve holds the entry. An unpinned entry is recomputed at once (R408).
DESIGN CHOICE (log 72). -/
def fabRouteCommit (r : Req) (b : Block) : Block :=
  let p := r.payload
  let node := bitOf (fld p 1 1) 0
  let inval := bitOf (fld p 1 1) 1
  let i := fld p 2 1
  let k := (if node then 256 else 0) + i
  let keep (x : Option Route) (b : Block) : Block :=
    { b with nv := { b.nv with store := { b.nv.store with pins := tset pinD b.nv.store.pins k x } } }
  if fld p 0 1 = 0 then
    let x : Route := { port := fld p 3 1, cost := fld p 6 1, next := fld p 4 2, pinned := true, valid := true }
    let held := (List.range 5).any fun s => (tget svD b.fab.sieves s).any fun e => b.under node i e.dst
    let b := ((b.putRoute node i x inval).2.raiseIf (!inval && held) 411 i) |> keep (some x)
    b.answer r stOK b.time.epoch []
  else
    let o := tget routeEntD (if node then b.fab.node else b.fab.zone) i
    let b := ((b.putRoute node i { o with pinned := false } inval).2.reroute) |> keep none
    b.answer r stOK b.time.epoch []

/-- The 8 bytes of an entry (R403). -/
def Route.bytes (r : Route) : List Byte :=
  leBytes 1 r.port ++ leBytes 1 r.cost ++ leBytes 2 r.next ++ leBytes 2 r.gen ++ leBytes 1 (b2n r.pinned + 2 * b2n r.valid) ++
  zeros 1

/-- FAB_ROUTE_READ: the zone table, then the node table (R408). -/
def fabRouteRead (r : Req) (b : Block) : Block :=
  b.onOp 0x0A02 r (fld r.payload 0 1 == 2) fun b =>
    if 3 < fld r.payload 1 1 || fld r.payload 7 1 != 0 then b.status r stBADARG
    else b.ok r (((List.range 256).flatMap fun i => (tget routeEntD b.fab.zone i).bytes) ++
      ((List.range 256).flatMap fun i => (tget routeEntD b.fab.node i).bytes))

/-- FAB_INVALIDATE (R408). -/
def fabInvalidate (r : Req) (b : Block) : Block :=
  b.onReq 0x0A03 r fun b =>
    let m := fld r.payload 0 1
    let v := fld r.payload 2 2
    if 2 < m || fld r.payload 1 1 != 0 then b.status r stBADARG
    else Block.ok r [] (b.unsieve fun e => m == 0 || (m == 1 && e.dst / 256 == v / 256) || (m == 2 && e.dst == v))

/-- The state codes of R423. -/
def NbrSt.code : NbrSt → Nat
  | .probation => 1 | .up => 2 | .down => 3

/-- Hello intervals left of a probation that began at `t`. -/
def Block.probLeft (b : Block) (t : Nat) : Nat := (t + 300 * msE - b.now + 100 * msE - 1) / (100 * msE)

/-- FAB_NBR (R423). -/
def fabNbr (r : Req) (b : Block) : Block :=
  b.onReq 0x0A04 r fun b =>
    let f := fld r.payload 0 2
    let m := fld r.payload 2 2
    if 255 < f || m < 1 || 255 < m then b.status r stBADARG
    else
      let out := (b.fab.nbrs.drop f).take m
      let own := if b.fab.probing then (match b.fab.firstAt with | some t => b.probLeft t | none => 3) else 0
      b.ok r (leBytes 2 out.length ++ leBytes 2 b.fab.nbrs.length ++ leBytes 2 b.fab.pendq.length ++ leBytes 1 own ++ zeros 1 ++
        leBytes 4 b.fab.tgen ++ out.flatMap fun n =>
          leBytes 2 n.addr ++ leBytes 1 n.port ++ leBytes 1 n.state.code ++ leBytes 6 n.mac ++
          leBytes 2 (satN 65535 ((b.now - n.heardAt) / msE)) ++
          leBytes 1 (if n.state = .probation then b.probLeft n.admAt else 0) ++ leBytes 1 (b2n n.flag) ++ leBytes 2 n.hcount)

/-- The 48-byte record of `fab.stat` (R424). -/
def Block.fabRec (b : Block) (l : Nat) : List Byte :=
  leBytes 1 (if l = 4 then 255 else l) ++
  leBytes 1 (if l = 4 then 0 else b2n (b.fabOn && b.fabPort l) + 2 * b2n (b.lportUp l)) ++ zeros 2 ++
  (List.range 11).flatMap fun i => leBytes 4 (tget natD b.fab.ctrs (16 * l + i))

/-- FAB_STAT (R424). -/
def fabStat (r : Req) (b : Block) : Block :=
  b.onReq 0x0A05 r fun b =>
    let op := fld r.payload 0 1
    if 1 < op || !allZero (cut r.payload 1 3) then b.status r stBADARG
    else if op = 1 && b.authOf r.client < 2 then b.status r stNOAUTH
    else
      let b := b.ok r ((List.range 5).flatMap b.fabRec)
      if op = 0 then b else { b with fab := { b.fab with ctrs := [] } }

/-- The bindings that a `fab.sig` payload carries (R412). -/
def sigTable (p : List Byte) : Tab SigCfg :=
  (List.range 128).foldl (fun t i => tset sigD t i { dst := fld p (4 + 4 * i) 2, flags := fld p (6 + 4 * i) 1 }) []

/-- The reserved fields of the records of a `fab.sig` request are 0 (R9, R411). -/
def sigRsv (p : List Byte) : Bool :=
  (List.range 128).all fun i => decide (fld p (6 + 4 * i) 1 ≤ 15) && fld p (7 + 4 * i) 1 == 0

/-- FAB_SIG (R412). -/
def fabSig (r : Req) (b : Block) : Block :=
  b.onReq 0x0A06 r fun b =>
    let op := fld r.payload 0 1
    if !allZero (cut r.payload 1 3) || (op != 0 && op != 2) then b.status r stBADARG
    else if op = 2 then
      if sigRsv r.payload then b.ok r (leBytes 1 2 ++ zeros 3 ++ (List.range 128).flatMap fun i =>
        let x := tget sigD b.sigs i
        leBytes 2 x.dst ++ leBytes 1 x.flags ++ zeros 1)
      else b.status r stBADARG
    else if (List.range 128).all fun i =>
        let fl := fld r.payload (6 + 4 * i) 1
        decide (fl ≤ 15) && fld r.payload (7 + 4 * i) 1 == 0 && !(bitOf fl 1 && bitOf fl 2) &&
          !(bitOf fl 3 && !bitOf fl 1 && !bitOf fl 2) then b.journal false 0x0A06 r
    else b.status r stBADARG

/-- Both appends of a `fab.sig` are done; the setting acts from S, by `Block.sigs` (R412). -/
def fabSigCommit (r : Req) (b : Block) : Block :=
  let t := sigTable r.payload
  Block.answer r stOK b.effS [] { b with
    fab := { b.fab with sig := b.sigs, sigPend := (b.fab.sigPend.filter fun x => decide (b.time.epoch < x.1)) ++ [(b.effS, t)] }
    nv := { b.nv with store := { b.nv.store with sig := t } } }

/-! ### Meanings -/

def execProtectionSignalRx (s : State) : Out := s.done s.blk.signalRx
def execTwRecordSend (s : State) : Out := s.done s.blk.twSend
def execTwRecordRx (s : State) : Out := s.done s.blk.twRx
def execTwPairWaitExpiry (s : State) : Out := s.done s.blk.twExpire
def execFabricWhiskRx (s : State) : Out := s.done s.blk.whiskRx
def execFabricWhiskAnswer (s : State) : Out := s.done s.blk.whiskAnswer
def execFabricWhiskWaitEnd (s : State) : Out := s.done s.blk.whiskEnd
def execSessionOpenRx (s : State) : Out := s.done s.blk.sessOpen
def execSessionOpenReplyRx (s : State) : Out := s.done s.blk.sessReply
def execSessionRequestRx (s : State) : Out := s.done s.blk.sessRequest
def execSessionResponseRx (s : State) : Out := s.done s.blk.sessResponse
def execSessionCloseRx (s : State) : Out := s.done s.blk.sessCloseRx
def execSessionIdleClose (c : Nat) (s : State) : Out := s.done (s.blk.sessIdle c)
def execFabCallTimeout (s : State) : Out := s.done s.blk.callTimeout
def execFabCfg (r : Req) (s : State) : Out := s.done (fabCfg r s.blk)
def execFabCfgEffect (s : State) : Out := s.done s.blk.fabCfgEffect
def execFabRouteWrite (r : Req) (s : State) : Out := s.done (fabRouteWrite r s.blk)
def execFabRouteUnpin (r : Req) (s : State) : Out := s.done (fabRouteUnpin r s.blk)
def execFabRouteRead (r : Req) (s : State) : Out := s.done (fabRouteRead r s.blk)
def execFabInvalidate (r : Req) (s : State) : Out := s.done (fabInvalidate r s.blk)
def execFabNbr (r : Req) (s : State) : Out := s.done (fabNbr r s.blk)
def execFabStat (r : Req) (s : State) : Out := s.done (fabStat r s.blk)
def execFabSig (r : Req) (s : State) : Out := s.done (fabSig r s.blk)
def execFabTw (r : Req) (s : State) : Out := s.done (fabTw r s.blk)
def execFabTwEffect (s : State) : Out := s.done s.blk.fabTwEffect
def execFabTwloc (r : Req) (s : State) : Out := s.done (fabTwloc r s.blk)
def execFabWhisk (r : Req) (s : State) : Out := s.done (fabWhisk r s.blk)
def execFabCall (r : Req) (s : State) : Out := s.done (fabCall r s.blk)
def execFabAccess (r : Req) (s : State) : Out := s.done (fabAccess r s.blk)

end Sys2Proof.Machine
end

