-- ==== Sys2Proof/Machine/Whisk.lean ====
section
/-! DEFINITION. Whisks and the snapshot (22 of the spec, R483 to R489; R28). -/

namespace Sys2Proof.Machine
open Sys2Proof

/-! ### The snapshot's sections (R487, R488) -/

/-- The 64-byte header (R488). -/
def SnapHdr.bytes (h : SnapHdr) : List Byte :=
  h.w.bytes ++ leBytes 4 h.snapId ++ leBytes 8 h.epoch ++ leBytes 8 h.elapsed ++ leBytes 8 h.inc ++ leBytes 1 h.srcMask ++
  leBytes 1 (b2n h.timed) ++ zeros 2 ++ leBytes 4 h.missed ++ zeros 16

/-- The cnv clock index now: cnv edges come every 25 ns from the latest strobe edge. -/
def Block.cnvIdx (b : Block) : Nat := b.cnv.idx + (b.now - b.cnv.strobeEl) / (25 * nsE)

/-- The state of converter j in 4 bytes. -/
def Block.convWord (b : Block) (j : Nat) : List Byte :=
  let c := tget convD b.cnv.convs j
  let i := b.cnvIdx
  let t := (b.twin (j % 20)).inSchedule
  let x : Nat × Nat × Bool := match c.urgent with
    | some (_, st) => (c.entry, i - st, false)
    | none => match c.pos (b.cnv.seq (j % 20)) i with
      | .running e base _ => (e, i - base, false)
      | _ => (0, 0, true)
  leBytes 4 (x.1 % 16 + 16 * (x.2.1 % 64) + 1024 * b2n (x.2.2 && !t) + 2048 * b2n c.urgent.isSome + 4096 * b2n t)

/-- The state bits of the comparators of a path, 20 bytes. -/
def Block.cmpBits (b : Block) (p : Path) : List Byte :=
  leBytes 20 (maskOf ((List.range 160).filter fun n => (tget cmpD b.bs.cmps (pix p n)).on))

/-- What a pair is executing: the index of its slot, or of its shadow run. -/
def Block.pairRun (b : Block) (p : Nat) : Option Nat :=
  let x := b.pair p
  if x.state == .service || x.state == .halted then some (8 + p) else if x.state == .running then x.slot else none

/-- PHASE, TASK, PC and PROG of a pair, 16 bytes. DESIGN CHOICE (log 80). -/
def Block.pairPhase (b : Block) (p : Nat) : List Byte :=
  let halted := (b.pair p).state == .halted
  match b.pairRun p with
  | none => leBytes 1 0 ++ leBytes 1 255 ++ zeros 14
  | some s =>
    match (b.slot s).cyc with
    | none => leBytes 1 (if halted then 4 else 0) ++ leBytes 1 255 ++ zeros 14
    | some c =>
      let x : Ctx := match c.stack with | t :: _ => tget ctxD c.ctxs t | [] => {}
      leBytes 1 (if halted then 4 else if c.ready.isEmpty && c.stack.isEmpty then 3 else 2) ++ leBytes 1 (c.stack.headD 255) ++ zeros 2 ++
      leBytes 4 x.pc ++ leBytes 2 x.prog ++ zeros 6

/-- STATE of the disturbance recorder (R479). -/
def DistSt.code (d : DistSt) : Nat := if !d.run || !d.cfg.en then 0 else if d.open_.isNone then 3 else if d.recording then 2 else 1

/-- The sup section: recorder, set in progress, FIFO level and ladle transfers. -/
def Block.supBytes (b : Block) : List Byte :=
  let d := b.dist
  let o := b.distOpen
  leBytes 1 d.code ++ leBytes 1 (match o with | some x => x.1 | none => 255) ++ zeros 2 ++
  leBytes 4 (match o with | some x => x.2.sets.length | none => d.ring.length) ++ leBytes 2 b.evr.notes.length ++
  leBytes 1 (b.mbx.ladles.filter (·.active)).length ++ zeros 21

/-- The running sections, read at the whisk; the arrival bits are of each group's published path. DESIGN CHOICE (log 79). -/
def Block.snapRunning (b : Block) : List (Nat × List Byte) :=
  [(0x100, ((List.range 40).flatMap b.convWord) ++ b.cmpBits .a ++ b.cmpBits .b),
   (0x5900, leBytes 8 (maskOf ((List.range 40).filter fun d => (b.detOf false (b.grpPath d) d).inc)) ++
     leBytes 8 (maskOf ((List.range 40).filter fun d => (b.detOf true (b.grpPath d) d).inc)) ++
     leBytes 4 (maskOf ((List.range 32).filter fun d => (b.detOf true (b.grpPath d) d).twf)) ++ zeros 4),
   (0xDA00, b.inSetNow.bytes), (0xDB00, b.bstopBytes), (0xDD00, b.cycBytes),
   (0xDE48, (List.range 9).flatMap b.pairPhase),
   (0xDF00, ((List.range 4).flatMap b.netRec) ++ (List.range 5).flatMap b.fabRec),
   (0xE200, (List.range 256).flatMap b.stnRec), (0x10200, b.supBytes)]

/-- The accumulators' sections of a generation. -/
def Block.snapAcc (b : Block) (g : GenSet) : List (Nat × List Byte) :=
  [(0x200, (List.range 20).flatMap fun k => b.twinBytes (tget twinD g.twins k)),
   (0x400, (List.range 160).flatMap (g.inBytes ((List.range 14).map (· + 2)) false)),
   (0x5680, (List.range 40).flatMap g.trackBytes)]

/-- Each block's part of generation E is captured as soon as the block holds that generation, current or previous (R28, R485):
at the whisk for what is published already, at its publication for the rest. -/
def Block.snapCatch (b : Block) : Block :=
  let s := b.snap
  if s.state != .latching then b
  else
    let e := s.hdr.epoch
    let acc := if s.accHeld then none else if b.acc.cur.epoch = e then some b.acc.cur else if b.acc.prev.epoch = e then some b.acc.prev else none
    let elm := if s.elmHeld then none
      else if b.elm.pubEpoch = e then some b.elm.pub else if b.elm.prevEpoch = e then some b.elm.prev else none
    { b with snap := { s with
      data := s.data ++ ((acc.map b.snapAcc).getD []) ++
        (match elm with | some t => [(0x5A00, (List.range 4096).flatMap fun i => (tget elStD t i).bytes)] | none => [])
      accHeld := s.accHeld || acc.isSome, elmHeld := s.elmHeld || elm.isSome } }

/-- Bytes of the snapshot object. -/
def snapSize : Nat := 66080

/-- One byte of the object: of the header, of a section, or of a gap, which reads 0. -/
def SnapSt.byte (s : SnapSt) (i : Nat) : Byte :=
  if i < 64 then (if s.state == .empty then 0 else s.hdr.bytes.getD i 0)
  else match s.data.find? fun x => decide (x.1 ≤ i ∧ i < x.1 + x.2.length) with
    | some x => x.2.getD (i - x.1) 0
    | none => 0

/-- A run of bytes of the object. -/
def SnapSt.bytes (s : SnapSt) (o n : Nat) : List Byte := (List.range n).map fun i => s.byte (o + i)

/-! ### A whisk (R483, R484, R486) -/

/-- A whisk of a SOURCE at this tim edge. Sources that fall on one edge make one whisk. -/
def Block.whisk (source : Nat) (timed : Bool) (b : Block) : Block :=
  let s := b.snap
  let merge : Option Bool := match s.atEdge with | some (t, l) => if t = b.now then some l else none | none => none
  match merge with
  | some l => { b with snap := { s with hdr := if l then { s.hdr with srcMask := Nat.lor s.hdr.srcMask (2 ^ source), timed := s.hdr.timed || timed } else s.hdr } }
  | none =>
    let n := (s.count + 1) % 2 ^ 32
    let s1 : SnapSt := { s with
      count := n, last := b.time.epoch % 2 ^ 32, outTo := if s.outEn then some (b.now + usE) else s.outTo
      atEdge := some (b.now, s.state == .empty) }
    let b1 : Block := if s.state == .empty then
        let h : SnapHdr := {
          w := b.stamp, snapId := n, epoch := b.time.epoch, elapsed := b.nowNs, inc := b.time.inc, srcMask := 2 ^ source, timed := timed }
        Block.snapCatch { b with snap := { s1 with state := .latching, hdr := h, data := b.snapRunning, accHeld := false, elmHeld := false } }
      else Block.raise 497 (s.hdr.missed + 1 : Nat) { b with snap := { s1 with hdr := { s1.hdr with missed := s1.hdr.missed + 1 } } }
    if b.dist.cfg.whisk then b1.distTrigger b.stamp else b1

/-- The answer of `snap.fire` for the whisk of this edge (R489). -/
def Block.fireAnswer (r : Req) (b : Block) : Block :=
  let l := match b.snap.atEdge with | some (_, l) => l | none => false
  b.answer r stOK b.time.epoch (leBytes 4 (if l then b.snap.hdr.snapId else 0) ++ leBytes 4 (b2n !l))

/-! ### WHISK_CTRL (R429) -/

/-- The compare is disarmed; a `snap.fire` that waited for it is answered CONFLICT. DESIGN CHOICE (log 80). -/
def Block.disarm (b : Block) : Block :=
  match b.snap.arm with
  | none => b
  | some a =>
    let b : Block := { b with snap := { b.snap with arm := none } }
    match a.req with | some r => b.status r stCONFLICT | none => b

/-- A write of WHISK_CTRL: PIN_EN and OUT_EN, then FIRE, then ARM; an arming while the compare is armed is ignored. -/
def Block.whiskCtrl (v : Word) (b : Block) : Block :=
  let w := v.toNat
  let b : Block := { b with snap := { b.snap with pinEn := bitOf w 2, outEn := bitOf w 3 } }
  let b := if bitOf w 0 then b.whisk 0 false else b
  if !bitOf w 1 then b.disarm
  else match b.snap.arm with
    | some _ => b
    | none => { b with snap := { b.snap with
        arm := some { at_ := b.snap.atLo.toNat + 2 ^ 32 * b.snap.atHi.toNat, source := 2, armedAt := b.ns64 } } }

/-- A write of WHISK_AT_LO or WHISK_AT_HI, ignored while ARM = 1. -/
def Block.whiskAt (hi : Bool) (v : Word) (b : Block) : Block :=
  if b.snap.arm.isSome then b
  else { b with snap := if hi then { b.snap with atHi := v } else { b.snap with atLo := v } }

/-- The value WHISK_CTRL reads as. DESIGN CHOICE (log 80). -/
def SnapSt.ctrl (s : SnapSt) : Nat :=
  2 * b2n s.arm.isSome + 4 * b2n s.pinEn + 8 * b2n s.outEn + 16 * b2n (match s.arm with | some a => a.source == 3 | none => false)

/-- WHISK_IN_EDGE (R483). -/
def Block.whiskPin (b : Block) : Block := if b.snap.pinEn then b.whisk 1 false else b

/-- WHISK_COMPARE_FIRE: the target's signed distance is at or above 0 (R360, R483); timed when armed at least 1 µs before its
target (R485). -/
def Block.whiskFire (b : Block) : Block :=
  match b.snap.arm with
  | none => b
  | some a =>
    if dist64 b.ns64 a.at_ < 0 then b
    else
      let b := Block.whisk a.source (decide (1000 ≤ dist64 a.at_ a.armedAt)) { b with snap := { b.snap with arm := none } }
      match a.req with | some r => b.fireAnswer r | none => b

/-- WHISK_OUT_END (R484). -/
def Block.whiskOutEnd (b : Block) : Block :=
  match b.snap.outTo with
  | some t => if t ≤ b.now then { b with snap := { b.snap with outTo := none } } else b
  | none => b

/-! ### Snapshot commands (R489) -/

/-- The data of a `snap.read`, and the release it may carry. -/
def Block.snapData (r : Req) (b : Block) : Block :=
  let o := fld r.payload 0 4
  let n := fld r.payload 4 4
  let h := b.snap.hdr
  let b1 := b.answer r stOK h.epoch (leBytes 4 h.snapId ++ zeros 4 ++ b.snap.bytes o n)
  if bitOf (fld r.payload 8 4) 0 then { b1 with snap := { b1.snap with state := .empty, hdr := {}, data := [] } } else b1

/-- Answer the reads that waited, until one releases the snapshot; later ones find it EMPTY. -/
def Block.snapServe (l : List Req) (b : Block) : Block :=
  match l with
  | [] => b
  | r :: t => Block.snapServe t (if b.snap.state == .held then b.snapData r else b.status r stNOTREADY)

/-- SNAPSHOT_COMPLETE: every block holds its part of generation E, or 40 µs have passed (R485, R486). DESIGN CHOICE (log 79): a part
that no generation came for by then reads 0. -/
def Block.snapComplete (b : Block) : Block :=
  let s := b.snap
  let ready := (s.accHeld && s.elmHeld) || decide (s.hdr.elapsed + 40000 ≤ b.nowNs)
  if s.state == .latching && ready then Block.snapServe s.waits { b with snap := { s with state := .held, waits := [] } } else b

/-- Word 3 of a snapshot response. -/
def Block.snapEpoch (b : Block) : Nat := if b.snap.state == .empty then b.time.epoch else b.snap.hdr.epoch

/-- SNAP_INFO. -/
def snapInfo (r : Req) (b : Block) : Block :=
  b.onReq 0x0D01 r fun b =>
    if fld r.payload 0 4 != 0 then b.status r stBADARG
    else
      let st := match b.snap.state with | .empty => 0 | .latching => 1 | .held => 2
      b.answer r stOK b.snapEpoch (leBytes 1 st ++ zeros 3 ++ b.snap.bytes 0 64)

/-- SNAP_READ. -/
def snapRead (r : Req) (b : Block) : Block :=
  b.onReq 0x0D02 r fun b =>
    let o := fld r.payload 0 4
    let n := fld r.payload 4 4
    if o % 4 != 0 || n % 4 != 0 || n < 4 || 4064 < n || snapSize < o + n || 1 < fld r.payload 8 4 then b.status r stBADARG
    else match b.snap.state with
      | .empty => b.status r stNOTREADY
      | .latching => { b with snap := { b.snap with waits := b.snap.waits ++ [r] } }
      | .held => b.snapData r

/-- SNAP_RELEASE. -/
def snapRelease (r : Req) (b : Block) : Block :=
  b.onReq 0x0D03 r fun b =>
    match b.snap.state with
    | .empty => b.status r stNOTREADY
    | .latching => b.status r stBUSY
    | .held =>
      if fld r.payload 0 4 != b.snap.hdr.snapId then b.status r stBADARG
      else Block.ok r [] { b with snap := { b.snap with state := .empty, hdr := {}, data := [] } }

/-- SNAP_FIRE. -/
def snapFire (r : Req) (b : Block) : Block :=
  b.onReq 0x0D04 r fun b =>
    let f := fld r.payload 0 4
    let w := fld r.payload 4 8
    if 1 < f || (f == 0 && w != 0) then b.status r stBADARG
    else if f = 0 then (b.whisk 4 false).fireAnswer r
    else if 0 ≤ dist64 b.ns64 w then b.status r stLATE
    else if b.snap.arm.isSome then b.status r stCONFLICT
    else { b with snap := { b.snap with arm := some { at_ := w, source := 5, armedAt := b.ns64, req := some r } } }

/-! ### Meanings -/

/-- WHISK_FIRE_WRITE: a write of WHISK_CTRL with FIRE = 1. -/
def execWhiskFireWrite (v : Word) (s : State) : Out := s.done (if bitOf v.toNat 0 then s.blk.whiskCtrl v else s.blk)
/-- WHISK_ARM_WRITE: a write of WHISK_CTRL with ARM = 1. -/
def execWhiskArmWrite (v : Word) (s : State) : Out := s.done (if bitOf v.toNat 1 then s.blk.whiskCtrl v else s.blk)
/-- WHISK_DISARM_WRITE: a write of WHISK_CTRL with ARM = 0. -/
def execWhiskDisarmWrite (v : Word) (s : State) : Out := s.done (if bitOf v.toNat 1 then s.blk else s.blk.whiskCtrl v)
def execWhiskInEdge (s : State) : Out := s.done s.blk.whiskPin
def execWhiskCompareFire (s : State) : Out := s.done s.blk.whiskFire
def execSnapshotComplete (s : State) : Out := s.done s.blk.snapComplete
def execWhiskOutEnd (s : State) : Out := s.done s.blk.whiskOutEnd
def execSnapInfo (r : Req) (s : State) : Out := s.done (snapInfo r s.blk)
def execSnapRead (r : Req) (s : State) : Out := s.done (snapRead r s.blk)
def execSnapRelease (r : Req) (s : State) : Out := s.done (snapRelease r s.blk)
def execSnapFire (r : Req) (s : State) : Out := s.done (snapFire r s.blk)

end Sys2Proof.Machine
end

