-- ==== Sys2Proof/Machine/Regs.lean ====
section
/-! DEFINITION. The register files: BAR0, the tim block and the field block of the elm island (R7 to R9, R51, R340, R347, R368,
R429), and the rings and vectors behind them (R430 to R436). -/

namespace Sys2Proof.Machine
open Sys2Proof

/-! ### SYS_STATE (R51) -/

/-- ADMIT: a port is in admission, from STAGE 0x1 on. -/
def Block.admitNow (b : Block) : Bool := b.sys.stage != 0 && (List.range 4).any b.admitting

/-- SYS_STATE; it reads 0 before STAGE reaches 0x1 (R51, R52). -/
def Block.sysState (b : Block) : Nat :=
  let s := b.sys
  if s.stage = 0 then 0
  else
    bitsOf [s.backstop, s.elemRun, s.logicRun, s.ready, s.mbxRoot, s.mbxHost, s.mbxFab, decide (7 ≤ s.step) && b.armed, b.admitNow,
      s.degraded, s.shutdown.isSome, s.flushed] + 65536 * s.stage

/-- Level of the open-drain output FAULT_N: low exactly while BACKSTOP is 0 (R41). -/
def Block.faultN (b : Block) : Bool := b.sys.backstop

/-- The PCIe link is enabled: the lands of the unused host link are disabled at PORST_N release (R32, R39, R426). -/
def Block.pcieOn (b : Block) : Bool := !b.lands.porst && !b.sys.hostSel

/-- The QSPI link is enabled (R32, R39, R427). -/
def Block.qspiOn (b : Block) : Bool := !b.lands.porst && b.sys.hostSel

/-- Level of PCIE_CLKREQ_N: driven low while the PCIe link is enabled (R553). -/
def Block.clkreqN (b : Block) : Bool := !b.pcieOn

/-! ### Rings (R433 to R436) -/

/-- Rewrite a host client. -/
def Block.updClient (c : Nat) (f : Client → Client) (b : Block) : Block :=
  { b with mbx := { b.mbx with clients := tupd clientD b.mbx.clients c f } }

/-- OUT_FULL: 16 requests outstanding (R435). -/
def Block.outFull (b : Block) (c : Nat) : Bool := decide (16 ≤ b.outstanding c)

/-- MBX_STAT[c] (R429). -/
def Block.mbxStat (b : Block) (c : Nat) : Nat :=
  let x := tget clientD b.mbx.clients c
  x.reqCons + bitsOf [x.fmtErr, x.stall, x.rstBusy] * 2 ^ 13 + x.rspProd * 2 ^ 16 + b2n (b.outFull c) * 2 ^ 29 + b2n x.disabled * 2 ^ 30

/-- The pending control order of a client is withdrawn from its object (R436). -/
def CtlObj.withdraw (c : Nat) (o : CtlObj) : CtlObj :=
  match o.state with
  | .pending d _ _ _ _ _ _ _ => if d = c then { o with state := .idle } else o
  | _ => o

/-- The requests of a client are cancelled: accepted ones get no response; a ladle transfer, a `fab.call`, a pending control order
and a command waiting on a hold buffer or a snapshot go (R436). -/
def Block.cancelClient (c : Nat) (b : Block) : Block :=
  let notMine (r : Req) : Bool := r.client != c
  { b with
    mbx := { b.mbx with
      accepted := b.mbx.accepted.filter fun a => notMine a.req
      ladles := b.mbx.ladles.filter fun l => l.client != c
      orders := b.mbx.orders.filter fun o => o.client != some c }
    fab := { b.fab with calls := b.fab.calls.filter fun k => notMine k.req }
    acc := { b.acc with swapPend := b.acc.swapPend.filter fun x => notMine x.2 }
    snap := { b.snap with waits := b.snap.waits.filter notMine }
    lgc := { b.lgc with slots := tmap slotD b.lgc.slots fun _ y => { y with objs := tmap ctlD y.objs fun _ o => o.withdraw c } } }

/-- A reset of the rings of client c begins: RST_BUSY sets and nothing is accepted; the offsets, FMT_ERR and STALL follow when it
is complete (R436). -/
def Block.ringReset (c : Nat) (b : Block) : Block :=
  (b.cancelClient c).updClient c fun x => { x with rstBusy := true, waiting := [] }

/-- RING_RST: with event 434. DESIGN CHOICE (log 82). -/
def Block.ringRst (c : Nat) (b : Block) : Block := (b.ringReset c).raise 434 c

/-- RING_RESET_COMPLETE. DESIGN CHOICE (log 82). -/
def Block.ringDone (c : Nat) (b : Block) : Block :=
  if (tget clientD b.mbx.clients c).rstBusy then
    b.updClient c fun x => { x with reqProd := 0, reqCons := 0, rspProd := 0, rspCons := 0, fmtErr := false, stall := false, rstBusy := false }
  else b

/-- A write of DB[c] (R429, R433): RING_RST resets the rings; otherwise both offsets are taken. While RST_BUSY is set the write
is ignored. -/
def Block.doorbell (c : Nat) (v : Word) (b : Block) : Block :=
  if b.lands.porst || (tget clientD b.mbx.clients c).rstBusy || 128 ≤ c then b
  else if bitOf v.toNat 31 then b.ringRst c
  else b.updClient c fun x => { x with reqProd := bits v.toNat 12 0, rspCons := bits v.toNat 28 16 }

/-- Responses that waited are written while they fit; STALL clears with the last (R435). -/
def Client.unstall (l : List Rsp) (c : Client) : Client × List Rsp :=
  match l with
  | [] => ({ c with waiting := [], stall := false }, [])
  | r :: t => match c.write r with
    | some x => let y := Client.unstall t x; (y.1, r :: y.2)
    | none => ({ c with waiting := r :: t }, [])

/-- RESPONSE_RING_ROOM. -/
def Block.ringRoom (c : Nat) (b : Block) : Block :=
  let x := tget clientD b.mbx.clients c
  if !x.stall || x.rstBusy then b
  else
    let y := x.unstall x.waiting
    y.2.foldl (fun b r => if bitOf r.flags.toNat 1 then b else b.vecCause (16 + c % 16)) (b.updClient c fun _ => y.1)

/-! ### Vectors (R430) -/

/-- VEC[v] as it reads. PRESUMED (log 81). -/
def Vec.word (v : Vec) : Nat := b2n v.pend + 2 * b2n v.mask + 65536 * v.coal

/-- A write of VEC[v]: PEND is cleared by 1, MASK and COAL are taken; a held signal may leave (R430). -/
def Vec.write (now : Nat) (w : Word) (x : Vec) : Vec :=
  let pend := x.pend && !bitOf w.toNat 0
  let y : Vec := { x with pend := pend, mask := bitOf w.toNat 1, coal := bits w.toNat 31 16, held := x.held && pend }
  if y.held then y.signal now else y

def Block.vecWrite (v : Nat) (w : Word) (b : Block) : Block :=
  { b with mbx := { b.mbx with vec := tupd vecD b.mbx.vec v (Vec.write b.now w) } }

/-- VECTOR_SIGNAL. -/
def Block.vecSignal (v : Nat) (b : Block) : Block :=
  { b with mbx := { b.mbx with vec := tupd vecD b.mbx.vec v fun x => if x.held && x.pend then x.signal b.now else x } }

/-! ### Reads -/

/-- A word of BAR0 as it stands (R429). -/
def Block.bar0Word (o : Nat) (b : Block) : Nat :=
  let t := b.time
  let s := b.snap
  let pcie := !b.sys.hostSel
  if o = 0x0000 then 0x00540032 + Config.order.toNat * 2 ^ 24
  else if o = 0x0004 then Config.hwMinor.toNat + 256 * Config.hwMajor.toNat + 65536 * Config.romRev.toNat
  else if o = 0x0008 then b.sysState
  else if o = 0x000C then
    let l := pcie && b.mbx.pcieUp
    b2n b.sys.hostSel + 2 * b2n l + (if pcie then 4 * b.mbx.speed + 16 * b.mbx.width + 64 * b2n b.mbx.bme else 0)
  else if o = 0x0010 then t.epoch % 2 ^ 32
  else if o = 0x0014 then t.epochLatch / 2 ^ 32 % 2 ^ 32
  else if 0x0100 ≤ o ∧ o < 0x0140 then
    let i := (o - 0x0100) / 4
    maskOf ((List.range 32).filter fun k => decide (32 * i + k ∈ b.mbx.srcPend))
  else if 0x0400 ≤ o ∧ o < 0x0600 then
    let x := tget clientD b.mbx.clients ((o - 0x0400) / 4)
    x.reqProd + 65536 * x.rspCons
  else if 0x0800 ≤ o ∧ o < 0x0880 then (tget vecD b.mbx.vec ((o - 0x0800) / 4)).word
  else if o = 0x0880 then b.vecSum
  else if 0x0C00 ≤ o ∧ o < 0x0E00 then b.mbxStat ((o - 0x0C00) / 4)
  else if o = 0x1000 then s.ctrl
  else if o = 0x1008 then s.atLo.toNat
  else if o = 0x100C then s.atHi.toNat
  else if o = 0x1010 then s.last
  else if o = 0x1014 then s.count
  else if o = 0x2000 then t.ns
  else if o = 0x2004 then t.rdSec % 2 ^ 32
  else if o = 0x2008 then t.rdSec / 2 ^ 32 % 65536
  else if o = 0x200C then t.rdQual
  else if o = 0x2010 then t.rdEpoch % 2 ^ 32
  else if 0x3000 ≤ o ∧ o < 0x3200 ∧ pcie then leNat (memRead b.mbx.msix (o - 0x3000) 4)
  else if o = 0x3800 ∧ pcie then maskOf ((List.range 32).filter fun v => let x := tget vecD b.mbx.vec v; x.held && x.pend)
  else 0

/-- An ordinary or a tongs read of a word of BAR0: EPOCH_LO and TIME_NS latch (R20, R368); a tongs read latches nothing (R8). -/
def Block.bar0Read (tongs : Bool) (o : Nat) (b : Block) : Block × Nat :=
  let v := b.bar0Word o
  if tongs then (b, v)
  else if o = 0x0010 then (b.epochLoRead false, v)
  else if o = 0x2000 then (b.timeNsRead false, v)
  else (b, v)

/-- A word of the tim block (R347). -/
def Block.timWord (o : Nat) (b : Block) : Nat :=
  let t := b.time
  match o / 4 with
  | 0x0 => t.ns
  | 0x1 => t.latSec % 2 ^ 32
  | 0x2 => t.latSec / 2 ^ 32 % 65536
  | 0x3 => t.latFrac
  | 0x4 => t.incLo.toNat
  | 0x5 => t.incHi.toNat
  | 0x6 => t.freqLo.toNat
  | 0x7 => t.freqHi.toNat
  | 0xB => t.latQual
  | 0xC => t.capNs
  | 0xD => t.capSec % 2 ^ 32
  | 0xE => t.capSec / 2 ^ 32 % 65536
  | 0xF => t.capWait
  | 0x10 => b2n t.ref10m + 2 * b2n t.lost
  | _ => 0

/-- A word of the field block (R340). -/
def Block.fldWord (o : Nat) (b : Block) : Nat :=
  let r := b.bar
  let head : List Byte := match r.fifo with | [] => zeros 20 | e :: _ => e.bytes
  match o / 4 with
  | 0 => r.fifo.length + 2048 * b2n r.peeked + 4096 * b2n r.recBlock
  | 1 => r.cntDrop + 65536 * r.recRef
  | 2 => r.cfg.stampLog
  | 3 => r.recMask % 2 ^ 32
  | 4 => r.recMask / 2 ^ 32
  | 5 => fld head 0 4
  | 6 => fld head 4 4
  | 7 => fld head 8 4
  | 8 => fld head 12 4
  | 9 => fld head 16 4
  | _ => 0

/-- Bytes of the tim block and of the field block. -/
def timSize : Nat := 0x44
def fldSize : Nat := 0x28

/-- A byte of BAR2 as the host reads it: the rings of mailboxes 0 to 127; other bytes read 0 (R431). -/
def Block.bar2Byte (b : Block) (a : Nat) : Byte :=
  let c := a / 0x4000
  let o := a % 0x4000
  if 128 ≤ c then 0
  else
    let x := tget clientD b.mbx.clients c
    if o < 0x2000 then memGet x.reqRing o else memGet x.rspRing (o - 0x2000)

/-- A write of bytes to BAR2: only request rings take them (R431). -/
def Block.bar2Write (a : Nat) (p : List Byte) (b : Block) : Block :=
  match p with
  | [] => b
  | v :: t =>
    let c := a / 0x4000
    let o := a % 0x4000
    Block.bar2Write (a + 1) t (if 128 ≤ c || 0x2000 ≤ o then b else b.updClient c fun x => { x with reqRing := memSet x.reqRing o v })

/-! ### Writes -/

/-- A write of a word of BAR0 under its access codes (R7, R429). DESIGN CHOICE (log 88). -/
def Block.bar0Write (o : Nat) (v : Word) (b : Block) : Block :=
  if 0x0100 ≤ o ∧ o < 0x0140 then
    let i := (o - 0x0100) / 4
    { b with mbx := { b.mbx with srcPend := b.mbx.srcPend.filter fun s => !(s / 32 == i && bitOf v.toNat (s % 32)) } }
  else if 0x0400 ≤ o ∧ o < 0x0600 then b.doorbell ((o - 0x0400) / 4) v
  else if 0x0800 ≤ o ∧ o < 0x0880 then b.vecWrite ((o - 0x0800) / 4) v
  else if o = 0x1000 then b.whiskCtrl v
  else if o = 0x1008 then b.whiskAt false v
  else if o = 0x100C then b.whiskAt true v
  else if 0x3000 ≤ o ∧ o < 0x3200 ∧ !b.sys.hostSel then
    { b with mbx := { b.mbx with msix := memWrite b.mbx.msix (o - 0x3000) (leBytes 4 v.toNat) } }
  else b

/-- A write of a word of the tim block (R347). -/
def Block.timWrite (o : Nat) (v : Word) (b : Block) : Block :=
  let t := b.time
  let lo : Byte := BitVec.ofNat 8 v.toNat
  match o / 4 with
  | 0x4 => { b with time := { t with incLo := v } }
  | 0x5 => b.incTransfer lo
  | 0x6 => { b with time := { t with freqLo := v } }
  | 0x7 => { b with time := { t with freqHi := lo } }
  | 0x8 => { b with time := { t with stepLo := v } }
  | 0x9 => { b with time := { t with stepHi := v } }
  | 0xA =>
    let abs := bitOf v.toNat 1
    let w : Nat := t.stepHi.toNat * 2 ^ 32 + t.stepLo.toNat
    if bitOf v.toNat 0 then b.applyStep abs (if abs then (w : Int) else toSigned 64 w) else b
  | 0xB => { b with time := { t with tcQual := bits v.toNat 15 8 * 256 + v.toNat % 64 } }
  | 0x10 => b.timSource (bitOf v.toNat 0)
  | _ => b

/-- A write of a word of the field block (R340). DESIGN CHOICE (log 88). -/
def Block.fldWrite (o : Nat) (v : Word) (b : Block) : Block :=
  let r := b.bar
  match o / 4 with
  | 0 => { b with bar := { r with peeked := r.peeked && !bitOf v.toNat 11 } }
  | 2 => { b with bar := { r with cfg := { r.cfg with stampLog := v.toNat % 256 } } }
  | 3 => { b with bar := { r with recMask := r.recMask / 2 ^ 32 * 2 ^ 32 + v.toNat } }
  | 4 => { b with bar := { r with recMask := r.recMask % 2 ^ 32 + v.toNat * 2 ^ 32 } }
  | _ => b

/-- REGISTER_WRITE: an aligned 32-bit write to a space; the engine held in reset takes none (R7, R38). DESIGN CHOICE (log 88). -/
def Block.regWrite (sp : RegSpace) (o : Nat) (v : Word) (b : Block) : Block :=
  if b.lands.porst then b
  else match sp with
  | .bar0 => b.bar0Write o v
  | .bar2 => b.bar2Write o (leBytes 4 v.toNat)
  | .tim => if o < timSize then b.timWrite o v else b
  | .fld => if o < fldSize then b.fldWrite o v else b
  | .pci => if b.sys.hostSel then b else { b with mbx := { b.mbx with bme := bitOf v.toNat 2 } }

/-! ### The links (R426 to R428, R436, R448) -/

/-- An access error: event 428, ERR of the QSPI STATUS, and a read of 0 (R427, R428). -/
def Block.accessError (b : Block) : Block :=
  if b.lands.porst then b
  else Block.raise 428 (b2n b.sys.hostSel : Nat)
    { b with mbx := { b.mbx with rdData := zeros 4, qspiErr := b.mbx.qspiErr || b.sys.hostSel } }

/-- Words read from BAR0 or BAR2 at rising addresses. -/
def Block.readWords (bar2 : Bool) (o n : Nat) (b : Block) : Block × List Byte :=
  match n with
  | 0 => (b, [])
  | k + 1 =>
    let x : Block × List Byte := if bar2 then (b, (List.range 4).map fun i => b.bar2Byte (o + i))
      else let y := b.bar0Read false o; (y.1, leBytes 4 y.2)
    let r := Block.readWords bar2 (o + 4) k x.1
    (r.1, x.2 ++ r.2)

/-- Words written at rising addresses. -/
def Block.writeWords (bar2 : Bool) (o : Nat) (l : List Word) (b : Block) : Block :=
  match l with
  | [] => b
  | v :: t => Block.writeWords bar2 (o + 4) t (if bar2 then b.bar2Write o (leBytes 4 v.toNat) else b.bar0Write o v)

/-- A QSPI address that R427 allows: a multiple of 4, and within 64 KiB for BAR0. DESIGN CHOICE (log 82). -/
def qspiAddrOk (a : Nat) : Bool := a % 4 == 0 && (bitOf a 23 || bits a 22 16 == 0)

/-- QSPI_READ of `n` words; `cut` when HSPI_CS_N cuts a word short. -/
def Block.qspiRead (a n : Nat) (cut : Bool) (b : Block) : Block :=
  if !b.qspiOn then b
  else if !qspiAddrOk a then b.accessError
  else
    let x := b.readWords (bitOf a 23) (a % 2 ^ 23) n
    let b : Block := if cut then x.1.accessError else x.1
    { b with mbx := { b.mbx with rdData := x.2 } }

/-- QSPI_WRITE of words; a word cut short is not written. -/
def Block.qspiWrite (a : Nat) (l : List Word) (cut : Bool) (b : Block) : Block :=
  if !b.qspiOn then b
  else if !qspiAddrOk a then b.accessError
  else
    let b := b.writeWords (bitOf a 23) (a % 2 ^ 23) l
    if cut then b.accessError else b

/-- QSPI_STATUS: INT, ERR and MBX_ROOT; ERR clears (R427). -/
def Block.qspiStatus (b : Block) : Block :=
  if !b.qspiOn then b
  else { b with mbx := { b.mbx with
    rdData := leBytes 1 (bitsOf [b.vecSum != 0, b.mbx.qspiErr, b.sys.mbxRoot]), qspiErr := false } }

/-- PCIE_PERST: where the PCIe link is the host link, the rings of every host client, the vectors and the MSI-X table are reset; event
427 (R32, R436). PRESUMED (log 81). -/
def Block.perst (b : Block) : Block :=
  if !b.pcieOn then b
  else
    let b := (List.range 128).foldl (fun b c => b.ringReset c) b
    Block.raise 427 0 { b with mbx := { b.mbx with vec := [], msix := msixReset, bme := false } }

/-- PCIE_LINK_STATE_CHANGE: the link enters L0 at a speed and width, or leaves it; event 426 (R429, R448). -/
def Block.linkState (up : Bool) (speed width : Nat) (b : Block) : Block :=
  if !b.pcieOn then b
  else Block.raise 426 (b2n up : Nat)
    { b with mbx := { b.mbx with pcieUp := up, speed := if up then speed else 0, width := if up then width else 0 } }

/-! ### Meanings -/

def execDoorbellWrite (c : Nat) (v : Word) (s : State) : Out := s.done (s.blk.doorbell c v)
def execRingReset (c : Nat) (s : State) : Out := s.done (s.blk.doorbell c 0x80000000)
def execPciePerst (s : State) : Out := s.done s.blk.perst
def execPcieLinkStateChange (up : Bool) (speed width : Nat) (s : State) : Out := s.done (s.blk.linkState up speed width)
def execResponseRingRoom (c : Nat) (s : State) : Out := s.done (s.blk.ringRoom c)
def execVectorSignal (v : Nat) (s : State) : Out := s.done (s.blk.vecSignal v)
def execBar0AccessError (s : State) : Out := s.done s.blk.accessError
def execQspiRead (a : BitVec 24) (n : Nat) (cut : Bool) (s : State) : Out := s.done (s.blk.qspiRead a.toNat n cut)
def execQspiWrite (a : BitVec 24) (l : List Word) (cut : Bool) (s : State) : Out := s.done (s.blk.qspiWrite a.toNat l cut)
def execQspiStatus (s : State) : Out := s.done s.blk.qspiStatus
/-- QSPI_INVALID_OPCODE: the engine ignores the transaction (R427). -/
def execQspiInvalidOpcode (_op : Byte) (s : State) : Out := s.done s.blk
def execRegisterWrite (sp : RegSpace) (o : Nat) (v : Word) (s : State) : Out := s.done (s.blk.regWrite sp o v)
def execRingResetComplete (c : Nat) (s : State) : Out := s.done (s.blk.ringDone c)

end Sys2Proof.Machine
end

