-- ==== Sys2Proof/Machine/Accept.lean ====
section
/-! DEFINITION. How the SP takes requests from the rings: the pass order, the message format, the ordered checks and the command
catalogue (R62, R63, R67, R432 to R440, R444). -/

namespace Sys2Proof.Machine
open Sys2Proof

/-! ### The catalogue (R439, R440, R444) -/

/-- Lengths a command takes: lowest, highest and the step between them; none where the command, or its read form, does not
exist. DEDUCED (log 84). -/
def cmdLen (cmd : Nat) (rd : Bool) : Option (Nat × Nat × Nat) :=
  let one (n : Nat) : Option (Nat × Nat × Nat) := some (n, n, 1)
  if rd then
    match cmd with
    | 0x0201 => one 4 | 0x0202 => one 0 | 0x0204 => one 0 | 0x0205 => one 0 | 0x0304 => one 0 | 0x0305 => one 0
    | _ => none
  else
    match cmd with
    | 0x0101 => one 0 | 0x0102 => one 4 | 0x0103 => one 4 | 0x0104 => one 0 | 0x0105 => some (4, 8, 4) | 0x0106 => some (24, 4088, 4)
    | 0x0107 => some (0, 4096, 1)
    | 0x0201 => one 16 | 0x0202 => some (8, 1288, 64) | 0x0203 => one 8 | 0x0204 => one 4 | 0x0205 => some (4, 324, 16)
    | 0x0206 => one 4
    | 0x0301 => one 24 | 0x0302 => one 24 | 0x0303 => one 8 | 0x0304 => one 204 | 0x0305 => some (52, 1332, 8) | 0x0306 => one 4
    | 0x0401 => some (8, 4040, 64) | 0x0402 => one 264 | 0x0403 => one 4 | 0x0404 => one 8 | 0x0405 => one 4
    | 0x0501 => one 12 | 0x0502 => one 4 | 0x0503 => one 8 | 0x0504 => one 4 | 0x0505 => one 4
    | 0x0601 => one 8 | 0x0602 => one 4
    | 0x0701 => one 96 | 0x0702 => one 4 | 0x0703 => one 4
    | 0x0801 => one 12 | 0x0802 => one 40 | 0x0803 => one 12 | 0x0804 => one 4
    | 0x0901 => one 88 | 0x0902 => one 4
    | 0x0A01 => one 48 | 0x0A02 => one 8 | 0x0A03 => one 4 | 0x0A04 => one 4 | 0x0A05 => one 4 | 0x0A06 => one 516
    | 0x0A07 => one 516 | 0x0A08 => one 4 | 0x0A09 => one 16 | 0x0A0A => some (20, 4096, 1) | 0x0A0B => one 260
    | 0x0B01 => one 4 | 0x0B02 => one 8 | 0x0B03 => one 4 | 0x0B04 => some (8, 2056, 4)
    | 0x0C01 => one 1240 | 0x0C02 => one 4 | 0x0C03 => one 4 | 0x0C04 => one 4
    | 0x0D01 => one 4 | 0x0D02 => one 12 | 0x0D03 => one 4 | 0x0D04 => one 12
    | 0x0E01 => one 516 | 0x0E02 => one 4 | 0x0E03 => one 4 | 0x0E04 => one 4 | 0x0E05 => one 4 | 0x0E06 => one 4 | 0x0E07 => one 4
    | 0x0E08 => one 256
    | 0x0F01 => one 8 | 0x0F02 => one 8 | 0x0F03 => one 4 | 0x0F04 => one 4 | 0x0F05 => one 8 | 0x0F06 => one 4
    | 0x0F07 => some (8, 520, 1) | 0x0F08 => one 4
    | 0x1001 => one 8 | 0x1002 => one 8 | 0x1003 => one 8 | 0x1004 => one 4
    | _ => none

/-- CMD names a command (R444). -/
def cmdKnown (cmd : Nat) : Bool := (cmdLen cmd false).isSome

/-- LEN is right for the command in the form requested; of `sys.bstop` only COMMIT has an operand (R216, R437). -/
def lenOk (cmd : Nat) (rd : Bool) (p : List Byte) : Bool :=
  match cmdLen cmd rd with
  | some (lo, hi, st) =>
    decide (lo ≤ p.length ∧ p.length ≤ hi) && (p.length - lo) % st == 0 &&
      (cmd != 0x0105 || p.length == (if fld p 0 1 = 2 then 8 else 4))
  | none => false

/-- Level for a ladle transfer, by operation and object (R441). -/
def ladleAuth (op obj : Nat) : Nat :=
  if op = 1 then 3
  else if op = 0 && (obj == 0x0003 || (decide (0x0010 ≤ obj) && decide (obj < 0x0020))) then 3 else 0

/-- The level that a request needs; none for a command of client 0 alone (R440, R444). -/
def Block.cmdAuth (b : Block) (cmd : Nat) (rd : Bool) (p : List Byte) : Option Nat :=
  let op := fld p 0 1
  let rw := if rd then 0 else 3
  let op2 := if op = 2 then 0 else 3
  match cmd with
  | 0x0102 => none
  | 0x0103 => some (if bitOf (fld p 2 2) 0 then 3 else 2)
  | 0x0104 => some 3
  | 0x0105 => some (if op = 1 ∨ op = 2 then 3 else 0)
  | 0x0106 => some (ladleAuth op (fld p 2 2))
  | 0x0201 => some rw | 0x0202 => some rw | 0x0203 => some 2 | 0x0204 => some rw | 0x0205 => some rw
  | 0x0206 => some (if op = 1 then 2 else if op = 2 then 3 else 0)
  | 0x0302 => some (if bitOf (fld p 20 1) 1 then 2 else 0)
  | 0x0304 => some rw | 0x0305 => some rw | 0x0306 => some 1
  | 0x0401 => some op2 | 0x0402 => some 3 | 0x0403 => some 3 | 0x0405 => some 2
  | 0x0501 => some 3 | 0x0502 => some 3 | 0x0503 => some 3 | 0x0504 => some 3
  | 0x0602 => some (if fld p 2 1 = 1 then 2 else 0)
  | 0x0701 => some op2 | 0x0703 => some 1
  | 0x0802 => some op2 | 0x0803 => some 3
  | 0x0901 => some op2 | 0x0902 => some (if op = 1 then 2 else 0)
  | 0x0A01 => some op2 | 0x0A02 => some op2 | 0x0A03 => some 2 | 0x0A05 => some (if op = 1 then 2 else 0) | 0x0A06 => some op2
  | 0x0A07 => some op2 | 0x0A08 => some 1 | 0x0A09 => some 2 | 0x0A0A => some 1 | 0x0A0B => some op2
  | 0x0B01 => some 1 | 0x0B04 => some op2
  | 0x0C01 => some op2 | 0x0C02 => some 2 | 0x0C04 => some (if fld p 1 1 = 2 then 3 else 2)
  | 0x0D03 => some 2 | 0x0D04 => some 2
  | 0x0E01 => some 3 | 0x0E02 => some 3 | 0x0E04 => some op2 | 0x0E05 => some 3 | 0x0E06 => some 3 | 0x0E08 => none
  | 0x0F03 => some op2 | 0x0F04 => some 3 | 0x0F05 => some 3 | 0x0F07 => some op2
  | 0x1001 => some ((b.ctlDecl (fld p 0 1) (fld p 1 1)).map (·.minAuth) |>.getD 0)
  | 0x1002 => some ((b.ctlDecl (fld p 0 1) (fld p 1 1)).map (·.minAuth) |>.getD 0)
  | 0x1003 => some ((b.ctlDecl (fld p 0 1) (fld p 1 1)).map (·.minAuth) |>.getD 0)
  | _ => some 0

/-- The authority of a client meets the request's level. -/
def Block.authOk (b : Block) (c cmd : Nat) (rd : Bool) (p : List Byte) : Bool :=
  match b.cmdAuth cmd rd p with
  | none => c == 0
  | some n => decide (n ≤ b.authOf c)

/-- The client is served (R62). DESIGN CHOICE (log 87). -/
def Block.served (b : Block) (c : Nat) : Bool :=
  if c = 0 then b.sys.mbxRoot else if c < 128 then b.sys.mbxHost else b.sys.mbxFab

/-- A `cyc.` or `img.` command that names a slot waits for that slot's part of LOGIC_RUN: it is not served while the slot is FAULTED
and has entered no cycle since its start, as one without a serving pair since startup; `cyc.restart`, which ends that state, is served
(R63, R230). DESIGN CHOICE (log 87). -/
def Block.slotServed (b : Block) (cmd : Nat) (p : List Byte) : Bool :=
  let up (s : Nat) : Bool := (b.slot s).state != .faulted || (b.slot s).entered
  if cmd = 0x0502 then (bitList (fld p 0 1) 8).all up
  else if cmd = 0x0504 then fld p 0 1 != 0 || up (fld p 1 1)
  else if cmd = 0x0501 ∨ cmd = 0x0601 then up (fld p 0 1)
  else true

/-- The subsystem of a request has reached the step it needs (R53, R63). The output writes of `io.cfg` are judged with its
payload. DESIGN CHOICE (log 87). Which `fab.` commands are service commands other than configuration no rule lists: the model takes
0x0A08, 0x0A09 and 0x0A0A, which send over a service. DESIGN CHOICE (log 132). -/
def Block.ready (b : Block) (cmd : Nat) (p : List Byte) : Bool :=
  let fam := cmd / 256
  let s := b.sys
  if s.recovery && fam != 0x01 && fam != 0x0E then false
  else if fam = 0x04 ∨ fam = 0x0D then s.elemRun
  else if fam = 0x05 ∨ fam = 0x06 then decide (7 ≤ s.step) && b.slotServed cmd p
  else if cmd = 0x1001 ∨ cmd = 0x1002 then (b.slot (fld p 0 1)).free
  else if fam = 0x0C then s.ready
  else if cmd = 0x0E05 then (s.ready || s.recovery) && s.shutdown.isNone
  else if cmd = 0x0A08 ∨ cmd = 0x0A09 ∨ cmd = 0x0A0A then s.mbxFab
  else true

/-! ### The checks in their order (R439) -/

/-- The status that the first failing check of steps 1 to 6 gives a message of client c. DESIGN CHOICE (log 87). -/
def Block.checkMsg (b : Block) (c : Nat) (m : List Byte) : Option Nat :=
  let cmd := fld m 2 2
  let fl := fld m 1 1
  let rd := bitOf fl 0
  let p := m.drop 16
  if fld m 0 1 != c || (tget clientD b.mbx.clients c).disabled then some stNOAUTH
  else if !b.served c then some stBUSY
  else if !cmdKnown cmd then some stBADCMD
  else if 4 ≤ fl || fld m 8 2 != 0 || fld m 12 4 != 0 || !lenOk cmd rd p then some stBADARG
  else if !b.authOk c cmd rd p then some stNOAUTH
  else if !b.ready cmd p then some stNOTREADY
  else none

/-- A message is accepted: checked, and then answered at once or left for its command (R433, R439). -/
def Block.acceptMsg (c : Nat) (m : List Byte) (b : Block) : Block :=
  let r : Req := { client := c, flags := BitVec.ofNat 8 (fld m 1 1), cmd := fld m 2 2, seq := fld m 4 4, payload := m.drop 16 }
  match b.checkMsg c m with
  | none => { b with mbx := { b.mbx with accepted := b.mbx.accepted ++ [{ req := r, epoch := b.time.epoch }] } }
  | some st =>
    let b := b.raiseIf (st == stNOAUTH) 430 c
    b.send { client := c, flags := r.flags &&& 3, cmd := r.cmd, seq := r.seq, status := st, epoch := b.time.epoch
             echo := if fld m 0 1 = c then none else some (fld m 0 1) }

/-! ### The rings (R432, R434, R435) -/

/-- What stands at the consumer's offset of a request ring. -/
inductive Head where
  | empty | bad | pad | msg (n : Nat)
deriving DecidableEq, Repr

/-- Read the head of a request ring (R432, R434). DESIGN CHOICE (log 83). -/
def Client.head (x : Client) : Head :=
  if x.reqProd = x.reqCons then .empty
  else if x.reqProd % 16 != 0 then .bad
  else
    let toEnd := 8192 - x.reqCons
    let avail := if x.reqCons < x.reqProd then x.reqProd - x.reqCons else toEnd
    let len := leNat (memRead x.reqRing (x.reqCons + 10) 2)
    if leNat (memRead x.reqRing (x.reqCons + 2) 2) = 0xFFFF then
      (if len + 16 = toEnd && toEnd ≤ avail then .pad else .bad)
    else if 4096 < len || avail < msgSize len then .bad else .msg len

/-- Take a PAD, or consume a message. DESIGN CHOICE (log 83). -/
def Client.advance (n : Nat) (x : Client) : Client := { x with reqCons := (x.reqCons + n) % 8192 }

/-- A client's ring can give a request now. -/
def Block.pendingReq (b : Block) (c : Nat) : Bool :=
  if c < 128 then
    let x := tget clientD b.mbx.clients c
    !x.rstBusy && !x.fmtErr && !x.stall && x.reqProd != x.reqCons && !b.outFull c
  else match tget sessD b.fab.sess c with | some x => !x.queue.isEmpty | none => false

/-- Take one request of client c: a PAD is passed over, a format error stops the ring with event 429 (R432, R434). -/
def Block.takeReq (fuel c : Nat) (b : Block) : Block :=
  if c < 128 then
    let x := tget clientD b.mbx.clients c
    match x.head, fuel with
    | .empty, _ => b
    | .bad, _ => (b.updClient c fun x => { x with fmtErr := true }).raise 429 c
    | .pad, 0 => b
    | .pad, f + 1 => Block.takeReq f c (b.updClient c (Client.advance (8192 - x.reqCons)))
    | .msg n, _ =>
      let m := memRead x.reqRing x.reqCons (16 + n)
      (b.updClient c (Client.advance (msgSize n))).acceptMsg c m
  else match tget sessD b.fab.sess c with
    | some x => match x.queue with
      | m :: q => Block.acceptMsg c (m.take (16 + fld m 10 2))
          { b with fab := { b.fab with sess := tset sessD b.fab.sess c (some { x with queue := q }) } }
      | [] => b
    | none => b

/-! ### The passes (R67, R440) -/

/-- The order of a pass: ascending in admission; otherwise client 0, then the others from the one after `from_`.
DEDUCED (log 85). -/
def Block.passOrder (from_ : Nat) (b : Block) : List Nat :=
  if b.admitNow then List.range 256
  else 0 :: ((List.range 255).map fun i => (from_ + i) % 255 + 1)

/-- The next client of the pass in progress, or of a new pass. DEDUCED (log 85). -/
def Block.nextClient (b : Block) : Option (Nat × List Nat × Nat) :=
  let m := b.mbx
  let rest := match m.passDone.getLast? with
    | some l => (b.passOrder m.passFrom).dropWhile (fun c => c != l) |>.drop 1
    | none => b.passOrder m.passFrom
  match rest.find? b.pendingReq with
  | some c => some (c, m.passDone ++ [c], m.passFrom)
  | none =>
    let f := (m.passDone.find? fun c => c != 0).getD m.passFrom
    match (b.passOrder f).find? b.pendingReq with
    | some c => some (c, [c], f)
    | none => none

/-- REQUEST_ACCEPT: the SP takes the next request of its pass order; around a firmware handover it takes none (R27). -/
def Block.requestAccept (b : Block) : Block :=
  if !b.sys.mbxRoot || !b.spUp || decide (b.now < b.mbx.ringsFrom) then b
  else match b.nextClient with
    | none => b
    | some (c, d, f) => Block.takeReq 2 c { b with mbx := { b.mbx with passDone := d, passFrom := f } }

def execRequestAccept (s : State) : Out := s.done s.blk.requestAccept

end Sys2Proof.Machine
end

