-- ==== Sys2Proof/Machine/DbgTypes.lean ====
section
/-! DEFINITION. What a word of a pair or of a slot store is, for the debug port's spaces 0x10 to 0x27 (R490), whose layout no
rule gives. -/

namespace Sys2Proof.Machine
open Sys2Proof

/-- One word of a debug space: of the code memory, of the data memory, of a task's context by task and word (R246), of the
input or the output half, a halt control by OP and INDEX (R497), or nothing. DESIGN CHOICE (log 89). -/
inductive DbgCell where
  | none | code (k : Nat) | data (k : Nat) | ctx (t k : Nat) | inHalf (k : Nat) | outHalf (k : Nat) | ctl (op index : Nat)
deriving DecidableEq, Repr, Inhabited

end Sys2Proof.Machine

namespace Sys2Proof

/-- The word at a byte offset of the spaces 0x10 to 0x18 and 0x20 to 0x27 (R490 names what they reach, and no offsets).
DESIGN CHOICE (log 89). -/
opaque Config.pairCell : Nat → Machine.DbgCell
opaque Config.slotCell : Nat → Machine.DbgCell

end Sys2Proof
end

