-- ==== Sys2Proof/Machine/Debug.lean ====
section
/-! DEFINITION. The debug port, the tongs, halt control, shadow runs, event routes and the fault summary (22 of the spec, R490 to
R497; 24 of the spec, R541 to R544). -/

namespace Sys2Proof.Machine
open Sys2Proof

/-! ### Words of the pairs and slots (R246, R490) -/

/-- The 608 bytes of a context (R246). -/
def Ctx.bytes (x : Ctx) : List Byte :=
  ((List.range 64).flatMap fun v => leBytes 8 (tget dwD x.locals v).toNat) ++
  ((List.range 16).flatMap fun i => leBytes 4 (x.rstack.reverse.getD i 0 % 2 ^ 24)) ++
  leBytes 4 (x.pc % 2 ^ 24) ++ leBytes 1 x.rstack.length ++ leBytes 1 x.lockcnt ++ leBytes 2 x.flags.word ++ leBytes 2 x.prog ++ zeros 2 ++
  leBytes 1 x.fault ++ leBytes 1 x.trap ++ zeros 2 ++ leBytes 4 x.fpc ++ leBytes 2 x.fprog ++ zeros 2 ++ leBytes 8 x.pstate.toNat

/-- A context from its 608 bytes; what no byte of it holds stays. -/
def Ctx.ofBytes (p : List Byte) (x : Ctx) : Ctx :=
  { x with
    locals := tsetRun dwD [] 0 ((List.range 64).map fun v => BitVec.ofNat 64 (fld p (8 * v) 8))
    rstack := ((List.range (satN 16 (fld p 580 1))).map fun i => fld p (512 + 4 * i) 4 % 2 ^ 24).reverse
    pc := fld p 576 4 % 2 ^ 24, lockcnt := fld p 581 1, flags := flagsOf (fld p 582 2), prog := fld p 584 2
    fault := fld p 588 1, trap := fld p 589 1, fpc := fld p 592 4, fprog := fld p 596 2, pstate := BitVec.ofNat 64 (fld p 600 8) }

/-- Bytes with word `k` replaced. -/
def putWord (p : List Byte) (k : Nat) (w : Word) : List Byte := p.take (4 * k) ++ leBytes 4 w.toNat ++ p.drop (4 * k + 4)

/-- A word of a slot's memories: those of the cycle in progress where `work`, otherwise the committed ones. -/
def Slot.cell (y : Slot) (work : Bool) (c : DbgCell) : Option Nat :=
  let cyc := if work then y.cyc else none
  let data := match cyc with | some q => q.data | none => y.data
  let ctxs := match cyc with | some q => q.ctxs | none => y.ctxs
  match c with
  | .none => none
  | .code k => some (match y.img with | some i => fld i.bytes (4 * k) 4 | none => 0)
  | .data k => some (tget wzD data k).toNat
  | .ctx t k => some (fld (tget ctxD ctxs t).bytes (4 * k) 4)
  | .inHalf k => some (tget wzD y.inHalf k).toNat
  | .outHalf k => some (tget wzD y.last k).toNat
  | .ctl _ _ => some 0

/-- A write of a word of a pair's own memories; the input half is mapped read-only (R496, R497). -/
def Slot.putCell (c : DbgCell) (w : Word) (y : Slot) : Option Slot :=
  let upd (f : Cyc → Cyc) (g : Slot → Slot) : Slot := match y.cyc with | some q => { y with cyc := some (f q) } | none => g y
  let re (t k : Nat) (x : Tab Ctx) : Tab Ctx := tupd ctxD x t fun o => Ctx.ofBytes (putWord o.bytes k w) o
  match c with
  | .code k => some { y with img := y.img.map fun i => { i with bytes := putWord i.bytes k w } }
  | .data k => some (upd (fun q => { q with data := tset wzD q.data k w }) fun z => { z with data := tset wzD z.data k w })
  | .ctx t k => some (upd (fun q => { q with ctxs := re t k q.ctxs }) fun z => { z with ctxs := re t k z.ctxs })
  | .outHalf k => some { y with last := tset wzD y.last k w }
  | _ => none

/-! ### Halt control (R495, R497) -/

/-- The pair accepts halt control: it is in SERVICE or HALTED. -/
def Block.halting (b : Block) (p : Nat) : Bool := (b.pair p).state == .service || (b.pair p).state == .halted

/-- A shadow cycle is in progress and has something to run. -/
def Block.shadowBusy (b : Block) (p : Nat) : Bool :=
  match (b.slot (8 + p)).cyc with | some c => !c.ready.isEmpty || !c.stack.isEmpty | none => false

/-- The shadow run is inside a LOCK section. -/
def Block.shadowLocked (b : Block) (p : Nat) : Bool :=
  match (b.slot (8 + p)).cyc with
  | some c => match c.stack with | t :: _ => c.active && (tget ctxD c.ctxs t).lockcnt != 0 | [] => false
  | none => false

/-- HALT: at the next boundary, which is now outside a LOCK section. DESIGN CHOICE (log 49). -/
def Block.halt (p : Nat) (r : Option Req) (b : Block) : Block :=
  let b := b.putPair p { b.pair p with hreq := some (false, r), hcnt := 0 }
  if b.shadowLocked p then b else b.haltNow p

/-- STEP: the pair stops after one instruction or element; with nothing to run it stops at once. DESIGN CHOICE (log 49). -/
def Block.stepPair (p : Nat) (r : Option Req) (b : Block) : Block :=
  let b := b.putPair p { b.pair p with hreq := some (true, r), hcnt := 0 }
  if b.shadowBusy p then b else b.haltNow p

/-- RESUME. -/
def Block.resumePair (p : Nat) (b : Block) : Block := b.putPair p { b.pair p with state := .service, hreq := none, hcnt := 0 }

/-- A breakpoint at a byte offset; 0xFFFF_FFFF clears it. -/
def Block.breakpoint (p i off : Nat) (b : Block) : Block :=
  let x := b.pair p
  b.putPair p { x with bps := tset (fun _ => none) x.bps i (if off = 0xFFFFFFFF then none else some off) }

/-- A halt request is refused (R495). -/
def Block.haltRefused (p : Nat) (b : Block) : Block := b.raise 498 p

/-- What `diag.halt` does on a pair that accepts it, by row; another HALT or STEP still unanswered occupies the pair. -/
def diagHalt (mine : Nat → Bool) (r : Req) (go : Nat → Block → Block) (b : Block) : Block :=
  b.onOp 0x0F05 r (mine (fld r.payload 1 1)) fun b =>
    let q := r.payload
    let p := fld q 0 1
    if 8 < p ∨ 3 < fld q 1 1 ∨ 3 < fld q 2 1 ∨ fld q 3 1 ≠ 0 then b.status r stBADARG
    else if !b.halting p then (b.haltRefused p).status r stNOTREADY
    else if fld q 1 1 != 3 && (b.pair p).hreq.isSome then b.status r stBUSY
    else go p b

/-- DIAG_HALT: OP 0; an OP above 3 is answered BAD_ARG here. -/
def diagHaltOp (r : Req) (b : Block) : Block := diagHalt (fun op => op == 0 || decide (3 < op)) r (fun p => Block.halt p (some r)) b
/-- DIAG_STEP. -/
def diagStep (r : Req) (b : Block) : Block := diagHalt (· == 1) r (fun p => Block.stepPair p (some r)) b
/-- DIAG_RESUME. -/
def diagResume (r : Req) (b : Block) : Block := diagHalt (· == 2) r (fun p b => (b.resumePair p).ok r []) b
/-- DIAG_BREAKPOINT. -/
def diagBreakpoint (r : Req) (b : Block) : Block :=
  diagHalt (· == 3) r (fun p b => (b.breakpoint p (fld r.payload 2 1) (fld r.payload 4 4)).ok r []) b

/-- DIAG_SHADOW (R496). DESIGN CHOICE (log 90). -/
def diagShadow (r : Req) (b : Block) : Block :=
  b.onReq 0x0F04 r fun b =>
    let p := fld r.payload 0 1
    let s := fld r.payload 1 1
    if 8 < p ∨ (7 < s ∧ s ≠ 255) ∨ fld r.payload 2 2 ≠ 0 then b.status r stBADARG
    else if (b.pair p).state != .service then b.status r stNOTREADY
    else if s = 255 then (b.putSlot (8 + p) {}).status r stOK
    else
      let y := b.slot s
      match y.img with
      | none => b.status r stNOTREADY
      | some i => (b.putSlot (8 + p) { img := some i, data := y.data, ctxs := y.ctxs, last := y.last, shadow := some s }).status r stOK

/-! ### The tongs (R8, R490 to R493) -/

/-- A tongs read of the word at an address in the form of R490; none outside the spaces. -/
def Block.tongs (a : Nat) (b : Block) : Option (Block × Nat) :=
  let sp := a / 2 ^ 24
  let o := a % 2 ^ 24
  let slot (y : Slot) (work : Bool) (c : DbgCell) : Option (Block × Nat) := (y.cell work c).map fun v => (b, v)
  if a % 4 ≠ 0 then none
  else if sp = 0x01 then if o < timSize then some (b, b.timWord o) else none
  else if sp = 0x02 then
    if o < fldSize then some (if o = 0x24 then { b with bar := { b.bar with peeked := true } } else b, b.fldWord o) else none
  else if sp = 0x03 then if o < 0x10000 then some (b.bar0Read true o) else none
  else if 0x10 ≤ sp ∧ sp ≤ 0x18 then
    let p := sp - 0x10
    slot (match b.pairRun p with | some s => b.slot s | none => {}) true (Config.pairCell o)
  else if 0x20 ≤ sp ∧ sp ≤ 0x27 then slot (b.slot (sp - 0x20)) false (Config.slotCell o)
  else if sp = 0x30 then if o < snapSize then some (b, leNat (b.snap.bytes o 4)) else none
  else none

/-- Words read at rising addresses. -/
def Block.tongsRun (a n : Nat) (b : Block) : Option (Block × List Byte) :=
  match n with
  | 0 => some (b, [])
  | k + 1 => match b.tongs a with
    | none => none
    | some (b, v) => (Block.tongsRun (a + 4) k b).map fun x => (x.1, leBytes 4 v ++ x.2)

/-- DIAG_TONGS (R493). -/
def diagTongs (r : Req) (b : Block) : Block :=
  b.onReq 0x0F02 r fun b =>
    let n := fld r.payload 4 2
    if n = 0 ∨ 1024 < n ∨ fld r.payload 6 2 ≠ 0 then b.status r stBADARG
    else match b.tongsRun (fld r.payload 0 4) n with
      | some x => x.1.ok r x.2
      | none => b.status r stBADARG

/-- DIAG_DEBUG (R491). DESIGN CHOICE (log 90). -/
def diagDebug (r : Req) (b : Block) : Block :=
  b.onReq 0x0F03 r fun b =>
    let op := fld r.payload 0 1
    let l := fld r.payload 1 1
    if (op ≠ 0 ∧ op ≠ 2) ∨ fld r.payload 2 2 ≠ 0 ∨ 2 < l ∨ (op = 2 ∧ l ≠ 0) then b.status r stBADARG
    else if op = 2 then b.ok r (leBytes 1 2 ++ leBytes 1 b.snap.level ++ zeros 2)
    else Block.ok r [] (Block.raiseIf (l != b.snap.level) 496 l { b with snap := { b.snap with level := l } })

/-- The access fails: ERR is set, and nothing else changes. -/
def Block.dbgErr (b : Block) : Block := { b with snap := { b.snap with err := true } }

/-- A write through the port: at level 2 to a pair's space, where the pair is in SERVICE or HALTED (R491, R495, R497). -/
def Block.dbgWrite (a : Nat) (w : Word) (b : Block) : Block :=
  let p := a / 2 ^ 24 - 0x10
  if a % 4 ≠ 0 ∨ a / 2 ^ 24 < 0x10 ∨ 8 < p ∨ b.snap.level < 2 then b.dbgErr
  else
    let good (b : Block) : Block := { b with snap := { b.snap with err := false } }
    match Config.pairCell (a % 2 ^ 24) with
    | .ctl op i =>
      if !b.halting p then (b.haltRefused p).dbgErr
      else if 3 < op ∨ 3 < i ∨ (op ≠ 3 ∧ (b.pair p).hreq.isSome) then b.dbgErr
      else good (match op with
        | 0 => b.halt p none | 1 => b.stepPair p none | 2 => b.resumePair p | _ => b.breakpoint p i w.toNat)
    | c =>
      if !b.halting p then b.dbgErr
      else match (b.slot (8 + p)).putCell c w with
        | some y => good (b.putSlot (8 + p) y)
        | none => b.dbgErr

/-- What a scan under IDCODE returns (R490). DESIGN CHOICE (log 122). -/
def idcode : Word := BitVec.ofNat 32 (2 ^ 28 * (Config.hwMajor.toNat % 16) + 2 ^ 12 * 0x32 + 2 * Config.jtagMaker.toNat + 1)

/-- What a scan under DBGACC captures: the data of the latest access, BUSY 0, as an access ends with its command, and ERR. -/
def SnapSt.capture (s : SnapSt) : BitVec 68 := BitVec.ofNat 68 (s.dr.toNat + 2 ^ 67 * b2n s.err)

/-- DBGACC_ACCESS: the access of a scan with START (R490, R491). -/
def Block.dbgAccess (a : Nat) (write : Bool) (w : Word) (b : Block) : Block :=
  if b.snap.level = 0 then b.dbgErr
  else if write then b.dbgWrite a w
  else match b.tongs a with
    | some (b, v) => { b with snap := { b.snap with err := false, dr := BitVec.ofNat 32 v } }
    | none => b.dbgErr

/-! ### Contexts, routes and the fault summary -/

/-- DIAG_CTX (R494). -/
def diagCtx (r : Req) (b : Block) : Block :=
  b.onReq 0x0F06 r fun b =>
    let s := fld r.payload 0 1
    let t := fld r.payload 1 1
    let y := b.slot s
    let n := match y.img with | some i => i.tasks.length | none => 0
    if 7 < s ∨ n ≤ t ∨ fld r.payload 2 2 ≠ 0 then b.status r stBADARG
    else b.answer r stOK y.lastTag (tget ctxD y.ctxs t).bytes

/-- DIAG_ROUTE (R544). -/
def diagRoute (r : Req) (b : Block) : Block :=
  b.onReq 0x0F07 r fun b =>
    let p := r.payload
    let op := fld p 0 1
    let f := fld p 2 2
    let n := fld p 4 2
    if (op ≠ 0 ∧ op ≠ 2) ∨ fld p 1 1 ≠ 0 ∨ fld p 6 2 ≠ 0 ∨ n = 0 ∨ 512 < n ∨ 512 < f + n ∨ p.length ≠ (if op = 0 then 8 + n else 8) then
      b.status r stBADARG
    else if op = 2 then b.ok r ((List.range n).flatMap fun i => leBytes 1 (tget routeD b.mbx.routes (f + i)))
    else if (p.drop 8).all fun v => decide (v.toNat < 16) then b.journal false 0x0F07 r
    else b.status r stBADARG

def routeCommit (r : Req) (b : Block) : Block :=
  let f := fld r.payload 2 2
  let v := (r.payload.drop 8).map fun x => x.toNat
  Block.answer r stOK b.effS [] { b with
    mbx := { b.mbx with routePend := b.mbx.routePend ++ [(b.effS, f, v)] }
    nv := { b.nv with store := { b.nv.store with routes := tsetRun routeD b.nv.store.routes f v } } }

/-- ROUTE_EFFECT. -/
def routeEffect (b : Block) : Block :=
  let due := b.mbx.routePend.filter fun x => decide (x.1 ≤ b.time.epoch)
  { b with mbx := { b.mbx with
    routes := due.foldl (fun t x => tsetRun routeD t x.2.1 x.2.2) b.mbx.routes
    routePend := b.mbx.routePend.filter fun x => decide (b.time.epoch < x.1) } }

/-- The 80 bytes of `diag.faults` (R541). -/
def Block.faultBytes (b : Block) : List Byte :=
  let f := b.flt
  let conv (g : Twin → Bool) : Nat := maskOf ((List.range 20).filter fun k => g (b.twin k))
  let buf (g : Twin → List Nat) : Nat := maskOf ((List.range 160).filter fun n => decide (n % 8 ∈ g (b.twin (n / 8))))
  leBytes 4 (satN 0xFFFFFFFF f.corrected) ++ leBytes 4 (satN 0xFFFFFFFF f.transient) ++ leBytes 4 (satN 0xFFFFFFFF f.lasting) ++
  leBytes 4 (satN 0xFFFFFFFF f.loss) ++ leBytes 4 (conv (·.removedA)) ++ leBytes 4 (conv (·.removedB)) ++
  leBytes 20 (buf (·.bufA)) ++ leBytes 20 (buf (·.bufB)) ++
  leBytes 2 (maskOf ((List.range 9).filter fun p => (b.pair p).state == .failed)) ++
  leBytes 2 (maskOf ((List.range 8).filter fun s => (b.slot s).state == .faulted)) ++ leBytes 2 (satN 65535 f.remapped.length) ++
  leBytes 1 (satN 255 (f.spRestarts.filter fun t => decide (b.now < t + 60 * secE)).length) ++ leBytes 1 b.nv.resetCause ++
  leBytes 8 f.lastBad

/-- DIAG_FAULTS. -/
def diagFaults (r : Req) (b : Block) : Block :=
  b.onReq 0x0F08 r fun b => if allZero r.payload then b.answer r stOK b.pin b.faultBytes else b.status r stBADARG

/-! ### Meanings -/

def execDbgaccAccess (a : Word) (write : Bool) (w : Word) (s : State) : Out := s.done (s.blk.dbgAccess a.toNat write w)
def execDiagTongs (r : Req) (s : State) : Out := s.done (diagTongs r s.blk)
def execDiagDebug (r : Req) (s : State) : Out := s.done (diagDebug r s.blk)
def execDiagShadow (r : Req) (s : State) : Out := s.done (diagShadow r s.blk)
def execDiagHalt (r : Req) (s : State) : Out := s.done (diagHaltOp r s.blk)
def execDiagStep (r : Req) (s : State) : Out := s.done (diagStep r s.blk)
def execDiagResume (r : Req) (s : State) : Out := s.done (diagResume r s.blk)
def execDiagBreakpoint (r : Req) (s : State) : Out := s.done (diagBreakpoint r s.blk)
def execDiagCtx (r : Req) (s : State) : Out := s.done (diagCtx r s.blk)
def execDiagRoute (r : Req) (s : State) : Out := s.done (diagRoute r s.blk)
def execRouteEffect (s : State) : Out := s.done (routeEffect s.blk)
def execDiagFaults (r : Req) (s : State) : Out := s.done (diagFaults r s.blk)

end Sys2Proof.Machine
end

