-- ==== Sys2Proof/Machine/Recorder.lean ====
section
/-! DEFINITION. The event recorder: colander refill, summary records, the lifetime fold and the `rec.` commands
(R449 to R466). -/

namespace Sys2Proof.Machine
open Sys2Proof

/-! ### Colander -/

/-- k milliseconds of refill: RATE units each, up to BURST tokens (R454). -/
def Colander.refill (k : Nat) (c : Colander) : Colander :=
  { c with bucket := satN (c.burst * 1000) (c.bucket + k * c.rate) }

/-- COLANDER_REFILL: every 1 ms of ELAPSED, for the milliseconds since the last one. A code with the default settings and a full
bucket is unlisted and stays full. -/
def Block.refill (b : Block) : Block :=
  { b with evr := { b.evr with
    col := tmap colD b.evr.col fun _ c => c.refill (b.nowMs - b.evr.refMs), refMs := b.nowMs } }

/-! ### Tallies over records (R458, R460) -/

/-- The earlier of two extremes that are equal in value, the smaller value otherwise. -/
def minX (a b : Option Extreme) : Option Extreme :=
  match a, b with
  | none, y => y
  | x, none => x
  | some x, some y => if y.q < x.q then some y else some x

/-- The same for the largest. -/
def maxX (a b : Option Extreme) : Option Extreme :=
  match a, b with
  | none, y => y
  | x, none => x
  | some x, some y => if x.q < y.q then some y else some x

/-- Add the tally `n` of a later interval to `o`, bins saturating at `cap`. -/
def Tally.merge (cap : Nat) (o n : Tally) : Tally :=
  let sum (k : Nat) : Nat := tget natD o.bins k + tget natD n.bins k
  { count := o.count + n.count
    bins := (List.range 16).foldl (fun t k => tset natD t k (satN cap (sum k))) []
    binSat := o.binSat || n.binSat || (List.range 16).any fun k => decide (cap < sum k)
    min := minX o.min n.min
    max := maxX o.max n.max }

/-- Add the entries of a later interval to a table of tallies. -/
def mergeAll (cap : Nat) (o n : Tab Tally) : Tab Tally :=
  n.foldl (fun t p => tupd tallyD t p.1 fun x => x.merge cap p.2) o

/-- The slot of a record: the first area, then the last area in rotation (R459). -/
def sumSlot (rseq : Nat) : Nat := if rseq < 2048 then rseq else 2048 + rseq % 2048

def sumD (_ : Nat) : Option SumRec := none

/-- The records in flash with RSEQ from `lo` on, in RSEQ order. -/
def NvSt.recsFrom (lo : Nat) (n : NvSt) : List SumRec :=
  (List.range (n.nextRseq - lo)).filterMap fun i =>
    match tget sumD n.sums (sumSlot (lo + i)) with
    | some r => if r.rseq = lo + i then some r else none
    | none => none

/-- Fold the later records into a lifetime copy, skipping those whose CRC fails (R460). -/
def LifeCopy.fold (n : NvSt) (c : LifeCopy) : LifeCopy :=
  let lo := match c.rseq with | none => 0 | some r => r + 1
  let rs := n.recsFrom lo
  { c with
    codes := (rs.filter (·.good)).foldl (fun t r => mergeAll 0xFFFFFFFF t r.entries) c.codes
    rseq := match rs.getLast? with | none => c.rseq | some r => some r.rseq }

/-- RSEQ + 1 of a copy; 0 for a copy without any record. DESIGN CHOICE (log 111). -/
def LifeCopy.age (c : LifeCopy) : Nat := match c.rseq with | none => 0 | some r => r + 1

/-- The valid copy with the higher RSEQ (R460). -/
def NvSt.lifeBest (n : NvSt) : LifeCopy :=
  if n.lifeA.valid && (!n.lifeB.valid || decide (n.lifeB.age ≤ n.lifeA.age)) then n.lifeA
  else if n.lifeB.valid then n.lifeB else {}

/-- Rewrite the older copy with the state folded up to the newest record (R460). DESIGN CHOICE (log 111). -/
def NvSt.lifeWrite (n : NvSt) : NvSt :=
  let c := n.lifeBest.fold n
  if n.lifeA.valid && (!n.lifeB.valid || decide (n.lifeB.age < n.lifeA.age)) then { n with lifeB := c }
  else { n with lifeA := c }

/-- The END of the newest summary record whose CRC holds, from which OPSEC resumes (R453, R460). -/
def NvSt.lastEnd (n : NvSt) : Nat :=
  match ((n.recsFrom (n.nextRseq - 2048)).filter (·.good)).getLast? with | some r => r.fin | none => 0

/-- A summary record that a reset cut off: it has taken its RSEQ and fails its CRC (R460). DESIGN CHOICE (log 95). -/
def NvSt.sumTorn (r : SumRec) (n : NvSt) : NvSt :=
  let q := n.nextRseq
  { n with sums := tset sumD n.sums (sumSlot q) (some { r with rseq := q, good := false }), nextRseq := q + 1 }

/-- A lifetime copy that a reset cut off is not valid; the other one stands (R460). -/
def NvSt.lifeTorn (n : NvSt) : NvSt :=
  if n.lifeA.valid && (!n.lifeB.valid || decide (n.lifeB.age < n.lifeA.age)) then { n with lifeB := { n.lifeB with valid := false } }
  else { n with lifeA := { n.lifeA with valid := false } }

/-- The recorder starts: the lifetime state is rebuilt, OPSEC resumes, PCYCLE grows by 1, and the raises held in hardware
are taken into the tally (R449, R453, R460, R461). DESIGN CHOICE (log 110). -/
def Block.recStart (b : Block) : Block :=
  let n := b.nv
  let life := n.lifeBest.fold n
  let bad := (n.recsFrom (match n.lifeBest.rseq with | none => 0 | some r => r + 1)).any fun r => !r.good
  let pc := satN 0xFFFFFFFF (n.pcycle + 1)
  let held := b.evr.hw.foldl (fun t p => tupd tallyD t p.1 fun x => { x with count := x.count + p.2 }) ([] : Tab Tally)
  let carried := match n.carry with | none => [] | some x => x.2
  let op := n.lastEnd
  Block.order .pcycle { b with
    nv := { n with pcycle := pc, carry := none }
    evr := { b.evr with
      started := true, hw := []
      life := mergeAll 0xFFFFFFFF (mergeAll 0xFFFFFFFF life.codes carried) held
      intv := mergeAll 65535 carried held
      opBase := op, opStart := b.now, intStart := match n.carry with | none => op | some x => x.1
      carried := n.carry.isSome, pcycle := pc, pcSat := decide (pc = 0xFFFFFFFF), foldSkip := bad
      lifeRseq := n.lifeBest.rseq } }

/-- The summary record of the interval that ends now (R457, R458). -/
def Block.summary (kind : Nat) (b : Block) : SumRec :=
  { kind := kind, pcSat := b.evr.pcSat, carried := b.evr.carried, pcycle := b.evr.pcycle, start := b.evr.intStart,
    fin := b.opsec, drops := b.evr.dropsInt, entries := b.evr.intv }

/-- A new interval begins at the record's END. -/
def Block.newInterval (b : Block) : Block :=
  { b with evr := { b.evr with intv := [], intStart := b.opsec, carried := false, dropsInt := 0 } }

/-- HOURLY_SUMMARY: at an OPSEC that is a multiple of 3,600 past the running interval's start (R457). -/
def Block.hourly (b : Block) : Block :=
  if b.evr.started && b.sys.shutdown.isNone && b.opsec % 3600 == 0 && decide (b.evr.intStart < b.opsec) then
    (b.order (.summary (b.summary 0))).newInterval
  else b

/-- A summary record has been programmed: it takes the next RSEQ and its slot (R458, R459). -/
def Block.summaryDone (r : SumRec) (b : Block) : Block :=
  let q := b.nv.nextRseq
  let b : Block := { b with nv := { b.nv with
    sums := tset sumD b.nv.sums (sumSlot q) (some { r with rseq := q }), nextRseq := q + 1 } }
  if r.kind = 0 then b.order .life else b

/-- A summary record that could not be written takes no RSEQ; its entries go into the next record, across a reset for a
shutdown record (R461). -/
def Block.summaryLost (r : SumRec) (b : Block) : Block :=
  if r.kind = 0 then
    { b with evr := { b.evr with
      intv := mergeAll 65535 r.entries b.evr.intv, intStart := r.start, carried := true
      dropsInt := r.drops + b.evr.dropsInt } }
  else { b with nv := { b.nv with carry := some (r.start, r.entries) } }

/-! ### Layouts -/

/-- An extreme's record time, 8 bytes (R453). -/
def xTime (x : Option Extreme) : List Byte :=
  match x with | none => zeros 8 | some e => leBytes 4 e.opsec ++ leBytes 4 e.pcycle

/-- MIN and MAX, with the values of a code that has recorded none (R452). -/
def xMin (x : Option Extreme) : Nat := match x with | none => 0xFFFFFFFF | some e => e.q
def xMax (x : Option Extreme) : Nat := match x with | none => 0 | some e => e.q

/-- The 32-byte notification record (R455). -/
def Note.bytes (n : Note) : List Byte :=
  n.stamp.bytes ++ leBytes 2 n.source ++ leBytes 2 n.supp ++ leBytes 4 n.qty ++ leBytes 2 n.user ++
  leBytes 2 (b2n n.valid) ++ leBytes 8 n.epoch

/-- The 104-byte lifetime record of a code (R462). -/
def Block.codeBytes (b : Block) (src : Nat) : List Byte :=
  let t := tget tallyD b.evr.life src
  leBytes 2 src ++ leBytes 2 (b2n t.binSat + 2 * b2n t.min.isNone) ++ leBytes 4 (tget natD b.nv.supp src) ++
  leBytes 8 t.count ++ ((List.range 16).flatMap fun k => leBytes 4 (tget natD t.bins k)) ++
  leBytes 4 (xMin t.min) ++ leBytes 4 (xMax t.max) ++ xTime t.min ++ xTime t.max

/-- A 56-byte entry of a summary record (R458). -/
def entryBytes (src : Nat) (t : Tally) : List Byte :=
  leBytes 2 src ++ leBytes 2 (b2n t.binSat + 2 * b2n t.min.isNone) ++ leBytes 4 t.count ++
  ((List.range 16).flatMap fun k => leBytes 2 (tget natD t.bins k)) ++ leBytes 4 (xMin t.min) ++
  leBytes 4 (xMax t.max) ++ leBytes 4 (match t.min with | none => 0 | some e => e.opsec) ++
  leBytes 4 (match t.max with | none => 0 | some e => e.opsec)

/-- A summary record with its CRC-32 (R458). -/
def SumRec.bytes (r : SumRec) : List Byte :=
  let p := leBytes 4 r.rseq ++ leBytes 1 r.kind ++ leBytes 1 (b2n r.pcSat + 2 * b2n r.carried) ++
    leBytes 2 r.entries.length ++ leBytes 4 r.pcycle ++ leBytes 4 r.start ++ leBytes 4 r.fin ++ leBytes 4 r.drops ++
    zeros 8 ++ r.entries.flatMap fun e => entryBytes e.1 e.2
  p ++ leBytes 4 (crc32 p)

/-- The lowest RSEQ still held in the last area, or NEXT_RSEQ; the slot of the next record is erased ahead of it (R459, R463). -/
def NvSt.oldestRseq (n : NvSt) : Nat :=
  let lo := if n.nextRseq ≤ 4096 then 2048 else n.nextRseq - 2048
  if n.nextRseq ≤ 2048 then n.nextRseq
  else if (tget sumD n.sums (sumSlot lo)).any fun r => r.rseq == lo then lo else lo + 1

/-- The 16-byte header of R464 and R463's first fields. -/
def Block.indexHead (b : Block) : List Byte :=
  leBytes 4 b.nv.nextRseq ++ leBytes 4 b.nv.oldestRseq ++ leBytes 4 b.opsec ++ leBytes 4 b.evr.pcycle

/-! ### The `rec.` commands -/

/-- REC_NOTES: records leave the FIFO oldest first; DROPS is zeroed (R456). -/
def recNotes (r : Req) (b : Block) : Block :=
  b.onReq 0x0B01 r fun b =>
    let mx := fld r.payload 0 1
    if mx = 0 || 64 < mx || !allZero (r.payload.drop 1) then b.status r stBADARG
    else
      let out := b.evr.notes.take mx
      let left := b.evr.notes.drop mx
      Block.ok r (leBytes 2 out.length ++ leBytes 2 left.length ++ leBytes 4 b.evr.drops ++ out.flatMap Note.bytes)
        { b with evr := { b.evr with notes := left, drops := 0 } }

/-- REC_CODE (R462). -/
def recCode (r : Req) (b : Block) : Block :=
  b.onReq 0x0B02 r fun b =>
    let f := fld r.payload 0 2
    let n := fld r.payload 2 2
    if n = 0 || 39 < n || 512 < f + n || !allZero (r.payload.drop 4) then b.status r stBADARG
    else b.ok r ((List.range n).flatMap fun i => b.codeBytes (f + i))

/-- REC_INDEX (R463). -/
def recIndex (r : Req) (b : Block) : Block :=
  b.onReq 0x0B03 r fun b =>
    if !allZero r.payload then b.status r stBADARG
    else b.ok r (b.indexHead ++ leBytes 4 ((b.opsec / 3600 + 1) * 3600) ++
      leBytes 1 (b2n b.evr.pcSat + 2 * b2n b.evr.foldSkip) ++ zeros 3 ++
      leBytes 4 (b.evr.lifeRseq.getD 0xFFFFFFFF) ++ zeros 4)

/-- The (RATE, BURST) records of a `rec.cfg` write (R465). -/
def recCfgOf (p : List Byte) : List (Nat × Nat) :=
  (List.range (fld p 4 2)).map fun i => (fld p (8 + 4 * i) 2, fld p (10 + 4 * i) 1)

/-- REC_CFG (R465). -/
def recCfg (r : Req) (b : Block) : Block :=
  b.onReq 0x0B04 r fun b =>
    let op := fld r.payload 0 1
    let f := fld r.payload 2 2
    let n := fld r.payload 4 2
    if (op != 0 && op != 2) || fld r.payload 1 1 != 0 || fld r.payload 6 2 != 0 || n = 0 || 512 < n || 512 < f + n then b.status r stBADARG
    else if op = 2 then
      if r.payload.length = 8 then
        b.ok r ((List.range n).flatMap fun i =>
          let c := tget colD b.evr.col (f + i)
          leBytes 2 c.rate ++ leBytes 1 c.burst ++ zeros 1)
      else b.status r stBADARG
    else if r.payload.length != 8 + 4 * n then b.status r stBADARG
    else if (recCfgOf r.payload).all (fun c => decide (c.1 ≤ 1000) && decide (1 ≤ c.2)) &&
        (List.range n).all (fun i => fld r.payload (11 + 4 * i) 1 == 0)
    then b.journal false 0x0B04 r else b.status r stBADARG

def colCfgD (_ : Nat) : Nat × Nat := (10, 32)

/-- Both appends of a `rec.cfg` are done. -/
def recCfgCommit (r : Req) (b : Block) : Block :=
  let f := fld r.payload 2 2
  let cs := recCfgOf r.payload
  Block.answer r stOK b.effS [] { b with
    evr := { b.evr with cfgPend := b.evr.cfgPend ++ [(b.effS, f, cs)] }
    nv := { b.nv with store := { b.nv.store with col := tsetRun colCfgD b.nv.store.col f cs } } }

/-- REC_CFG_EFFECT: the settings whose S has come apply and the named buckets refill (R454, R465). -/
def recCfgEffect (b : Block) : Block :=
  let due := b.evr.cfgPend.filter fun x => decide (x.1 ≤ b.time.epoch)
  let put (t : Tab Colander) (x : Nat × Nat × List (Nat × Nat)) : Tab Colander :=
    tsetRun colD t x.2.1 (x.2.2.map fun c => { rate := c.1, burst := c.2, bucket := c.2 * 1000 })
  { b with evr := { b.evr with
    col := due.foldl put b.evr.col
    cfgPend := b.evr.cfgPend.filter fun x => decide (b.time.epoch < x.1) } }

/-! ### Meanings -/

def execColanderRefill (s : State) : Out := s.done s.blk.refill
def execHourlySummary (s : State) : Out := s.done s.blk.hourly
def execRecNotes (r : Req) (s : State) : Out := s.done (recNotes r s.blk)
def execRecCode (r : Req) (s : State) : Out := s.done (recCode r s.blk)
def execRecIndex (r : Req) (s : State) : Out := s.done (recIndex r s.blk)
def execRecCfg (r : Req) (s : State) : Out := s.done (recCfg r s.blk)
def execRecCfgEffect (s : State) : Out := s.done (recCfgEffect s.blk)

end Sys2Proof.Machine
end

