-- ==== Sys2Proof/Machine/Stage.lean ====
section
/-! DEFINITION. Keys, the commit log, sector erases and retirement, image headers, the staging and the update chain (23 of the spec, R507 to R520; R417). -/

namespace Sys2Proof.Config
open Sys2Proof

/-- The GCM tag of a block record stands, by KGEN, header, block index and record (R507); no path reads the image key.
DESIGN CHOICE (log 91). -/
opaque blockTag : Nat → List Byte → Nat → List Byte → Bool
/-- The signature and the key tag of a key package stand, by KGEN in force and package (R513). DESIGN CHOICE (log 91). -/
opaque keySig : Nat → List Byte → Bool
opaque keyTag : Nat → List Byte → Bool

end Sys2Proof.Config

namespace Sys2Proof.Machine
open Sys2Proof

/-! ### The commit log and the keys (R511, R512) -/

/-- The upper half of a word of the commit log (R512). -/
def LogWord.field : LogWord → Nat
  | .key g s => 2 ^ 14 + g % 2 ^ 13 * 2 + s % 2
  | .boot c s => 2 ^ 15 + 2 * b2n c + s % 2

/-- CRC-16 of the upper half of a word, its high byte first (R512). DEDUCED (log 133). -/
def logCrc (f : Nat) : Nat := crc16 [BitVec.ofNat 8 (f / 256), BitVec.ofNat 8 f]

/-- A word of the commit log as programmed (R512). -/
def LogWord.word (w : LogWord) : Word := BitVec.ofNat 32 (w.field * 2 ^ 16 + logCrc w.field)

/-- What a word of the log says, where its CRC-16 stands and its KIND is valid (R512). -/
def logWordOf (v : Word) : Option LogWord :=
  let f := v.toNat / 2 ^ 16
  if v.toNat % 2 ^ 16 ≠ logCrc f then none
  else match f / 2 ^ 14 with
    | 1 => some (.key (f / 2 % 2 ^ 13) (f % 2))
    | 2 => some (.boot (bitOf f 1) (f % 2))
    | _ => none

/-- The valid words of the commit log, oldest first. -/
def NvSt.logWords (n : NvSt) : List LogWord := n.log.filterMap fun x => x.bind logWordOf

/-- The newest key word: KGEN and slot; as manufactured, slot 0 with the factory key set. -/
def NvSt.keyWord (n : NvSt) : Nat × Nat :=
  n.logWords.foldl (fun k w => match w with | .key g s => (g, s) | _ => k) (n.key0.kgen.getD 0, 0)
/-- The newest boot word: CONFIRMED and slot; slot A, confirmed, before the first. -/
def NvSt.bootWord (n : NvSt) : Bool × Nat :=
  n.logWords.foldl (fun k w => match w with | .boot c s => (c, s) | _ => k) (true, 0)
/-- Blank words left of 8,128. -/
def NvSt.logLeft (n : NvSt) : Nat := 8128 - n.log.length
/-- The next word is programmed, past one that a power failure left partly programmed. -/
def NvSt.logPut (w : LogWord) (n : NvSt) : NvSt := { n with log := n.log ++ [some w.word] }
/-- A word of the log is left partly programmed: its CRC does not stand (R512). -/
def NvSt.logTorn (n : NvSt) : NvSt := { n with log := n.log ++ [none] }
/-- KGEN of the previous key set. -/
def NvSt.oldKgen (n : NvSt) : Option Nat := if n.keyWord.2 = 0 then n.key1.kgen else n.key0.kgen

/-- Image slot 0 is A, 1 is B. -/
def NvSt.imgSlot (n : NvSt) (k : Nat) : ImgSlot := if k = 0 then n.imgA else n.imgB
def NvSt.putImg (k : Nat) (x : ImgSlot) (n : NvSt) : NvSt := if k = 0 then { n with imgA := x } else { n with imgB := x }

/-- A slot from which a boot may start, so far as its header says: it has been activated, a key slot holds its KGEN, and ARB meets
the fuse (R511, R514). -/
def NvSt.slotOk (n : NvSt) (k : Nat) : Bool :=
  let x := n.imgSlot k
  match x.hdr with
  | some h => x.bootable && (n.key0.kgen == some h.kgen || n.key1.kgen == some h.kgen) && decide (n.fuse ≤ h.arb ∧ h.arb ≤ 64)
  | none => false

/-- The running image slot, and the target of a staging: the slot that is not running, in recovery the one that the newest boot
word does not name (R53, R515). -/
def Block.runSlot (b : Block) : Nat := b2n b.sys.slotB
def Block.target (b : Block) : Nat := if b.sys.recovery then 1 - b.nv.bootWord.2 else 1 - b.runSlot

/-! ### Areas (R500, R518) -/

/-- First sector and count of each area, in the order of R518. -/
def areaTable : List (Nat × Nat) :=
  [(0, 640), (640, 2048), (2688, 64), (2752, 512), (3264, 4), (3268, 1), (3269, 1), (3270, 128), (3398, 256)]

/-- The area of a sector. -/
def areaOf (sector : Nat) : Option Nat := (List.range 9).find? fun a =>
  let x := areaTable.getD a (0, 0)
  decide (x.1 ≤ sector ∧ sector < x.1 + x.2)

def areaD (_ : Nat) : Area := {}
def natsD (_ : Nat) : List Nat := []

/-- Sectors of the spare pool. -/
def spareCount : Nat := 256

/-- Spares left on a device: neither assigned nor retired. DESIGN CHOICE (log 95). -/
def NvSt.sparesLeft (n : NvSt) (dev : Nat) : Nat :=
  spareCount - (tget natsD n.spares dev).length - ((tget areaD n.areas (9 * dev + 8)).retired.filter fun s =>
    !decide (s ∈ tget natsD n.spares dev)).length

/-- The lowest free sector of a device's spare pool. -/
def NvSt.spareNext (n : NvSt) (dev : Nat) : Option Nat :=
  ((List.range spareCount).map (· + 3398)).find? fun s =>
    !decide (s ∈ tget natsD n.spares dev) && !decide (s ∈ (tget areaD n.areas (9 * dev + 8)).retired)

/-- A sector is retired: STATUS 0x00 and event 443; the lowest free spare takes its place, and event 445 goes while fewer than 16
are left (R502). -/
def Block.retire (dev area sector : Nat) (b : Block) : Block :=
  let k := 9 * dev + area
  let a := tget areaD b.nv.areas k
  let b := Block.raise 443 (tget natD a.erases sector : Nat)
    { b with nv := { b.nv with areas := tset areaD b.nv.areas k { a with retired := insNat sector a.retired } } }
  let b : Block := if area = 8 && !decide (sector ∈ tget natsD b.nv.spares dev) then b else match b.nv.spareNext dev with
    | some s => { b with nv := { b.nv with spares := tset natsD b.nv.spares dev (insNat s (tget natsD b.nv.spares dev)) } }
    | none => b
  b.raiseIf (decide (b.nv.sparesLeft dev < 16)) 445 (b.nv.sparesLeft dev : Nat)

/-- A sector of a device has been erased: its count grows; at 100,000, or with the check failed twice, it is retired (R502). -/
def Block.erased (dev sector : Nat) (ok : Bool) (b : Block) : Block :=
  match areaOf sector with
  | none => b
  | some a =>
    let k := 9 * dev + a
    let b : Block := { b with nv := { b.nv with
      areas := tupd areaD b.nv.areas k fun x => { x with erases := tupd natD x.erases sector (· + 1) } } }
    let n := tget natD (tget areaD b.nv.areas k).erases sector
    let b := if ok then b else b.fault .lasting
    let b := if !ok || decide (100000 ≤ n) then b.retire dev a sector else b
    -- the slot that the next summary record of the last area takes is erased (R459)
    let b : Block := if a = 1 ∧ dev = 1 ∧ 2048 ≤ b.nv.nextRseq ∧ sector = 640 + b.nv.nextRseq % 2048 then
        { b with nv := { b.nv with sums := tset sumD b.nv.sums (sumSlot b.nv.nextRseq) none } } else b
    -- the background erase of a staging goes on, in record order (R515)
    if a = 0 ∧ dev = b.target ∧ sector = b.nv.stg.erased ∧ b.nv.stg.state = .staging then
      { b with nv := { b.nv with stg := { b.nv.stg with erased := sector + 1 } } }
    else b

/-! ### The image header (R508, R515) -/

/-- The fields of a 512-byte header. -/
def hdrOf (p : List Byte) : ImgHdr :=
  { kgen := fld p 6 2, spVer := fld p 8 4, ucVer := fld p 12 4, cfgFmt := fld p 16 2, pcf := fld p 18 2, pcfOldest := fld p 20 2
    arb := fld p 22 1, blobVer := fld p 23 1, nblocks := fld p 24 4, spLen := fld p 28 4, ucLen := fld p 32 4, order := fld p 44 1
    hwMin := fld p 45 1, hwMax := fld p 46 1, raw := p }

/-- The checks of R515. -/
def Block.hdrOk (b : Block) (p : List Byte) : Bool :=
  let h := hdrOf p
  p.take 4 == [0x5A, 0x57, 0x33, 0x32] && fld p 4 2 == 1 && allZero (cut p 47 369) && decide (h.order % 2 = 0 ∧ h.order < 8) &&
  decide (1 ≤ h.nblocks ∧ h.nblocks ≤ 4096 ∧ 1 ≤ h.spLen ∧ h.spLen ≤ 4194304 ∧ 1 ≤ h.ucLen ∧ h.ucLen ≤ 262144) &&
  h.nblocks == (h.spLen + 4095) / 4096 + (h.ucLen + 4095) / 4096 && h.kgen == b.nv.keyWord.1 && bitOf h.order Config.order.toNat &&
  decide (h.hwMin ≤ Config.hwMajor.toNat ∧ Config.hwMajor.toNat ≤ h.hwMax) && decide (b.nv.fuse ≤ h.arb ∧ h.arb ≤ 64)

/-! ### The staging (R515 to R517) -/

/-- Bytes of a block record. -/
def recSize : Nat := 4112

def bytesD (_ : Nat) : List Byte := []
def memD (_ : Nat) : Mem := []

/-- The lowest block index not in a list. -/
def lowestMissing (n : Nat) (l : List Nat) : Nat := ((List.range n).find? fun i => !decide (i ∈ l)).getD n

/-- NEXT: the lowest block index not yet stored. DESIGN CHOICE (log 92). -/
def Staging.next (g : Staging) : Nat := lowestMissing g.hdr.nblocks g.stored

/-- The record of block i that is stored, or passed its tag and waits to be programmed. -/
def NvSt.record (n : NvSt) (i : Nat) : Option (List Byte) :=
  if i ∈ n.stg.stored then some (tget bytesD n.stg.recs i)
  else n.jobs.findSome? fun j => match j.job with | .block k d _ => if k = i then some d else none | _ => none

/-- The lowest block whose record has not been received with a good tag. -/
def NvSt.nextIn (n : NvSt) : Nat :=
  ((List.range n.stg.hdr.nblocks).find? fun i => (n.record i).isNone).getD n.stg.hdr.nblocks

/-- An activation runs (R521, R522). -/
def Block.activating (b : Block) : Bool :=
  match b.nv.stg.state with | .verifying => true | .activating => true | .rolling => true | _ => false

/-! ### Sending along the chain (R417, R519, R520) -/

/-- The index under which the sends of START are counted. -/
def startIx : Nat := 65536

/-- Message `i` of the chain goes to SUCC, and its send is counted. -/
def Block.chainSend (i : Nat) (b : Block) : Block :=
  let c := b.nv.chain
  let p := if i = startIx then zeros 4 ++ b.nv.stg.hdr.raw else tget bytesD b.nv.stg.recs i
  Block.fabMessage 4 c.succ (i != startIx) p
    { b with nv := { b.nv with chain := { c with sends := tupd natD c.sends i (· + 1), sentAt := b.now } } }

/-- The chain is broken: event 409. -/
def Block.chainBreak (b : Block) : Block :=
  if b.nv.chain.broken then b
  else Block.raise 409 ((b.nv.chain.succ % 256 : Nat) : Int) { b with nv := { b.nv with chain := { b.nv.chain with broken := true } } }

/-- There is a staging to forward, and the chain stands. -/
def Block.chainOn (b : Block) : Bool :=
  b.nv.chain.en && !b.nv.chain.broken && (b.nv.stg.state == .staging || b.nv.stg.state == .complete)

/-- START is sent while the successor has not acknowledged it; then records, at most 4 of them unacknowledged, each once records
0 to i are stored. A ninth send breaks the chain. -/
def Block.chainPump (fuel : Nat) (b : Block) : Block :=
  match fuel with
  | 0 => b
  | f + 1 =>
    let c := b.nv.chain
    if !b.chainOn then b
    else if !c.started then (if tget natD c.sends startIx = 0 then b.chainSend startIx else b)
    else if c.sendPos < b.nv.stg.next ∧ c.sendPos < c.succNext + 4 then
      if 8 ≤ tget natD c.sends c.sendPos then b.chainBreak
      else
        let b := b.chainSend c.sendPos
        Block.chainPump f { b with nv := { b.nv with chain := { b.nv.chain with sendPos := c.sendPos + 1 } } }
    else b

/-- What the chain can send now goes. -/
def Block.chainGo (b : Block) : Block := b.chainPump 5

/-- The sending starts anew, from START. -/
def Block.chainAnew (b : Block) : Block :=
  Block.chainGo { b with nv := { b.nv with chain := { en := b.nv.chain.en, succ := b.nv.chain.succ } } }

/-- An ACK to the peer that sent a START or a record (R520). DESIGN CHOICE (log 94). -/
def Block.chainAck (peer st : Nat) (b : Block) : Block :=
  b.fabMessage 4 peer false (leBytes 1 1 ++ leBytes 2 st ++ zeros 1 ++ leBytes 4 b.nv.stg.next)

/-- `upd.begin`: the status, and the block that follows (R515). -/
def Block.begin (resume : Bool) (p : List Byte) (b : Block) : Nat × Block :=
  if b.activating || b.flashBusy then (stBUSY, b)
  else if !b.hdrOk p then (stBADARG, b)
  else if b.nv.stg.state == .idle then
    let h := hdrOf p
    let b : Block := { b with nv := (b.nv.putImg b.target { hdr := some h }) }
    let b : Block := { b with nv := { b.nv with stg := { state := .staging, hdr := h, confirm := b.nv.stg.confirm } } }
    -- the slot's first sector is erased for the header; the others follow in the background
    (stOK, ((b.erased b.target 0 true).raise 460 h.nblocks).chainAnew)
  else if resume && b.nv.stg.hdr.raw == p then (stOK, Block.chainGo { b with nv := { b.nv with stg := { b.nv.stg with held := false } } })
  else (stCONFLICT, b)

/-- The staging returns to IDLE; what its slot holds stays unbootable (R517, R522). -/
def Block.stageEnd (b : Block) : Block :=
  let jobs := b.nv.jobs.filter fun j => match j.job with | .block _ _ _ => false | _ => true
  { b with nv := { b.nv with
    stg := { b.nv.stg with state := .idle, asmb := [], asmCnt := [], req := none, step := 0, held := false }
    chain := { en := b.nv.chain.en, succ := b.nv.chain.succ }, jobs := jobs } }

/-- A complete record: its tag is checked, and it is ordered into flash. Whether the tag stands. DESIGN CHOICE (log 92). -/
def Block.takeRecord (i : Nat) (d : List Byte) (ack : Option Nat) (b : Block) : Bool × Block :=
  let clear (g : Staging) : Staging := { g with asmb := tset memD g.asmb i [], asmCnt := tset natsD g.asmCnt i [] }
  let b : Block := { b with nv := { b.nv with stg := clear b.nv.stg } }
  if Config.blockTag b.nv.stg.hdr.kgen b.nv.stg.hdr.raw i d then (true, b.order (.block i d ack))
  else (false, b.raise 461 i)

/-- A record has been programmed and read back, or has failed. DESIGN CHOICE (log 92). -/
def Block.recordDone (i : Nat) (d : List Byte) (ack : Option Nat) (st : Nat) (b : Block) : Block :=
  let g := b.nv.stg
  if g.state != .staging then b
  else
    let s := insNat i g.stored
    let n : Staging := { g with
      stored := s, recs := tset bytesD g.recs i d, state := if g.hdr.nblocks ≤ s.length then .complete else .staging }
    let b : Block := if st = stOK then { b with nv := { b.nv with stg := n } } else b
    let b := match ack with | some q => b.chainAck q st | none => b
    b.chainGo

/-! ### Receiving along the chain (R520) -/

/-- CHAIN_START_RX. -/
def Block.chainStart (b : Block) : Block :=
  match b.take 4 fun m => !m.seg && fld m.bytes 0 1 == 0 && m.bytes.length == 516 with
  | none => b
  | some (m, b) => let x := b.begin true (m.bytes.drop 4); x.2.chainAck m.src x.1

/-- CHAIN_DATA_RX: the record is taken as block NEXT; it is acknowledged when it is stored, or refused at once, with BUSY in a
shutdown or while the assembly buffer is full.
DESIGN CHOICE (log 94). -/
def Block.chainData (b : Block) : Block :=
  match b.take 4 fun m => m.seg with
  | none => b
  | some (m, b) =>
    let i := b.nv.nextIn
    if m.bytes.length ≠ recSize then b.fabDiscard (b.logical m.hdr.port) .malformed 401
    else if b.flashBusy || decide (64 ≤ (b.nv.stg.asmCnt.filter fun x => !x.2.isEmpty).length) then b.chainAck m.src stBUSY
    else if b.nv.stg.state != .staging || b.nv.stg.held || decide (b.nv.stg.hdr.nblocks ≤ i) then b.chainAck m.src stNOTREADY
    else
      let x := b.takeRecord i m.bytes (some m.src)
      if x.1 then x.2 else x.2.chainAck m.src stBADTAG

/-- CHAIN_ACK_RX: the send position moves to NEXT; a START that is refused breaks the chain; an ACK with BUSY does not count. -/
def Block.chainAcked (b : Block) : Block :=
  match b.take 4 fun m => !m.seg && fld m.bytes 0 1 == 1 && m.bytes.length == 8 with
  | none => b
  | some (m, b) =>
    let c := b.nv.chain
    let st := fld m.bytes 1 2
    let n := fld m.bytes 4 4
    if !b.chainOn || m.src != c.succ then b
    else if !c.started && st == stBUSY then
      { b with nv := { b.nv with chain := { c with sends := tset natD c.sends startIx (tget natD c.sends startIx - 1) } } }
    else if !c.started && st != stOK then b.chainBreak
    else
      let kept := c.sends.filter fun x => decide (n ≤ x.1) && x.1 != startIx
      let sends := if st = stBUSY then tupd natD kept n (· - 1) else kept
      let b : Block := { b with nv := { b.nv with chain := { c with started := true, succNext := n, sendPos := n, sends := sends } } }
      -- the successor's buffer or flash is busy: the block goes again with the next resend
      if st = stBUSY then b else b.chainGo

/-- CHAIN_RESEND: 50 ms without an ACK; the block goes again from NEXT, and after 8 sends the chain is broken (R417).
DESIGN CHOICE (log 94). -/
def Block.chainResend (b : Block) : Block :=
  let c := b.nv.chain
  let waits := if c.started then decide (c.succNext < b.nv.stg.next) else true
  if !b.chainOn || !waits || decide (b.now < c.sentAt + 50 * msE) then b
  else if !c.started then
    if 8 ≤ tget natD c.sends startIx then b.chainBreak else b.chainSend startIx
  else Block.chainGo { b with nv := { b.nv with chain := { c with sendPos := c.succNext } } }

/-! ### Meanings -/

def execChainStartRx (s : State) : Out := s.done s.blk.chainStart
def execChainDataRx (s : State) : Out := s.done s.blk.chainData
def execChainAckRx (s : State) : Out := s.done s.blk.chainAcked
def execChainResend (s : State) : Out := s.done s.blk.chainResend

end Sys2Proof.Machine
end

