-- ==== Sys2Proof/Machine/Flash.lean ====
section
/-! DEFINITION. The flash controller: program operations, the journals and background erases (23 of the spec, R499 to R506,
R512, R513, R518, R525). -/

namespace Sys2Proof.Machine
open Sys2Proof

/-! ### Erases -/

/-- BACKGROUND_ERASE_COMPLETE; a shutdown suspends erases (R69). -/
def Block.eraseDone (dev sector : Nat) (ok : Bool) (b : Block) : Block :=
  if 1 < dev ∨ b.flashBusy then b else b.erased dev sector ok

/-- JOURNAL_COMPACTION of a copy: the live entries stand in fresh sectors, and the sectors that held only superseded entries are
erased (R506). No entry's content changes. DESIGN CHOICE (log 95). -/
def Block.compact (prot : Bool) (copy : Nat) (sectors : List Nat) (b : Block) : Block :=
  if 1 < copy ∨ b.flashBusy then b
  else (sectors.filter fun s => areaOf s == some (if prot then 3 else 2)).foldl (fun b s => b.erased copy s true) b

/-! ### Commits of configuration commands (R504 to R506) -/

/-- `sys.client`: it applies to requests accepted from now on (R440). DESIGN CHOICE (log 72). -/
def clientCommit (r : Req) (b : Block) : Block :=
  let c := fld r.payload 0 1
  let a := fld r.payload 2 1
  let d := bitOf (fld r.payload 3 1) 0
  Block.ok r [] { b with
    mbx := { b.mbx with clients := tupd clientD b.mbx.clients c fun x => { x with auth := a, disabled := d } }
    nv := { b.nv with store := { b.nv.store with auth := tset (fun _ => (0, false)) b.nv.store.auth c (a, d) } } }

/-- `upd.chain` (R519). -/
def chainCommit (r : Req) (b : Block) : Block :=
  let en := bitOf (fld r.payload 1 1) 0
  let s := fld r.payload 2 2
  (Block.ok r [] { b with
    nv := { b.nv with store := { b.nv.store with chain := (en, s) }, chain := { en := en, succ := s } } }).chainGo

/-- A journal entry: RID, FMT, LEN, GEN, the payload, and the CRC-32 over all of these (R505). -/
def jourEntry (rid fmt gen : Nat) (p : List Byte) : List Byte :=
  let h := leBytes 2 rid ++ leBytes 2 fmt ++ leBytes 4 p.length ++ leBytes 4 gen ++ p
  h ++ leBytes 4 (crc32 h)

/-- An entry is appended to a copy, under the GEN that follows that of its RID and the format in force: PCF for protection content,
CFG_FMT for device configuration (R504 to R506). RID is the command's code and the payload its request. DESIGN CHOICE (log 134). -/
def Block.append (copy : Nat) (prot : Bool) (rid : Nat) (r : Req) (b : Block) : Block :=
  let e := jourEntry rid (if prot then b.runHdr.pcf else b.runHdr.cfgFmt) (tget natD b.nv.store.gens rid + 1) r.payload
  { b with nv := if copy = 0 then { b.nv with jour0 := tset (fun _ => []) b.nv.jour0 rid e }
                 else { b.nv with jour1 := tset (fun _ => []) b.nv.jour1 rid e } }

/-- Both appends of an entry are done, or one of them: the setting takes effect and its command is answered.
DESIGN CHOICE (log 8). -/
def Block.journalled (prot : Bool) (rid : Nat) (r : Req) (b : Block) : Block :=
  let st := b.nv.store
  let b : Block := { b with nv := { b.nv with store := { st with
    gens := tupd natD st.gens rid (· + 1), fmts := if prot then tset natD st.fmts rid b.runHdr.pcf else st.fmts } } }
  match rid with
  | 0x0102 => clientCommit r b
  | 0x0201 => cnvInputCommit r b
  | 0x0202 => cnvSeqCommit r b
  | 0x0204 => cnvHouseCommit r b
  | 0x0205 => cnvPlausCommit r b
  | 0x0304 => accTrackCommit r b
  | 0x0305 => accTdCommit r b
  | 0x0403 => elemSwapCommit r b
  | 0x0502 => cycActivateCommit r b
  | 0x0701 => ioCfgCommit r b
  | 0x0802 => timeCfgCommit r b
  | 0x0901 => netCfgCommit r b
  | 0x0A01 => fabCfgCommit r b
  | 0x0A02 => fabRouteCommit r b
  | 0x0A06 => fabSigCommit r b
  | 0x0A07 => fabTwCommit r b
  | 0x0A0B => fabAccessCommit r b
  | 0x0B04 => recCfgCommit r b
  | 0x0C01 => distCfgCommit r b
  | 0x0E04 => chainCommit r b
  | 0x0F07 => routeCommit r b
  | _ => b

/-- Neither copy could be appended: the setting does not take effect. -/
def Block.journalLost (rid st : Nat) (r : Req) (b : Block) : Block :=
  let b := if rid = 0x0502 then (bitList (fld r.payload 0 1) 8).foldl (fun (b : Block) s => b.putSlot s { b.slot s with acting := none }) b
    else b
  b.status r st

/-! ### Program operations (R499, R501, R503) -/

def FlashRes.status : FlashRes → Nat
  | .good => stOK | .notErased _ => stNOTERASED | .worn => stWORN

/-- The area that an operation writes (R518). -/
def Job.area : Job → Nat
  | .journal prot _ _ => if prot then 3 else 2
  | .backstop _ => 4
  | .key _ _ => 5
  | .summary _ => 1
  | .life => 7
  | .boot _ _ _ => 6
  | .block _ _ _ => 0
  | .pcycle => 2

/-- A job can be programmed now: a block record needs its sector erased, 7 records to a sector, the header being record 0 (R500,
R516). -/
def Block.jobReady (b : Block) (j : FJob) : Bool :=
  match j.job with | .block i _ _ => decide ((i + 1) / 7 < b.nv.stg.erased) | _ => true

/-- The write that the controller is programming: the oldest one that can be. -/
def Block.inFlight (b : Block) : Option FJob := b.nv.jobs.find? b.jobReady

/-- The result of a program operation is reported: event 442 for a target not blank, event 444 with the area for a write that the
controller could not complete, a LASTING fault (R501, R503, R530). -/
def Block.flashRes (area : Nat) (res : FlashRes) (b : Block) : Block :=
  match res with
  | .good => b
  | .notErased s => ((b.raise 442 s).raise 444 area).fault .lasting
  | .worn => (b.raise 444 area).fault .lasting

/-- The job at the place given goes on to its next copy, or ends. -/
def Block.putJob (j : FJob) (n : Option FJob) (b : Block) : Block :=
  let rest (l : List FJob) : List FJob := match n with
    | some x => l.takeWhile (· != j) ++ [x] ++ (l.dropWhile (· != j)).drop 1
    | none => l.eraseP (· == j)
  { b with nv := { b.nv with jobs := rest b.nv.jobs } }

/-- What follows a program operation of a job. -/
def Block.jobDone (j : FJob) (st : Nat) (b : Block) : Block :=
  match j.job with
  | .journal prot rid r =>
    let b := if st = stOK then b.append j.step prot rid r else b
    if j.step = 0 then b.putJob j (some { j with step := 1, errs := [st] })
    else
      let b := b.putJob j none
      if st = stOK ∨ j.errs = [stOK] then b.journalled prot rid r else b.journalLost rid (j.errs.headD st) r
  | .backstop c => bstopCopyDone c st (b.putJob j none)
  | .summary r => let b := b.putJob j none; if st = stOK then b.summaryDone r else b.summaryLost r
  | .life =>
    let b := b.putJob j none
    if st = stOK then { b with nv := b.nv.lifeWrite, evr := { b.evr with lifeRseq := b.nv.lifeWrite.lifeBest.rseq } } else b
  | .boot c k r =>
    let b := b.putJob j none
    let answer (b : Block) : Block := match r with | some q => b.status q st | none => b
    -- an activation in recovery ends with its boot word (R53); the word of a handover is tried again at the next blank one
    let act (b : Block) : Block :=
      if c then b
      else match r with
        | none => if st = stOK then b else b.order j.job
        | some _ => { b with nv := { b.nv with stg := { b.nv.stg with
            state := if st = stOK then .activating else .complete, step := if st = stOK then 5 else 0 } } }
    if st = stOK then
      let b : Block := { b with nv := b.nv.logPut (.boot c k) }
      answer (act (if c then b.raise 465 b.nv.fuse else b))
    else answer (act { b with nv := b.nv.logTorn })
  | .key g r =>
    if st ≠ stOK then
      let b := b.putJob j none
      Block.status r st (if j.step = 0 then b else { b with nv := b.nv.logTorn })
    else
      let k := 1 - b.nv.keyWord.2
      if j.step = 0 then
        let n := if k = 0 then { b.nv with key0 := { kgen := some g } } else { b.nv with key1 := { kgen := some g } }
        Block.erased k 3268 true (Block.putJob j (some { j with step := 1 }) { b with nv := n })
      else (Block.raise 466 g { b.putJob j none with nv := (b.putJob j none).nv.logPut (.key g k) }).status r stOK
  | .block i d a => (b.putJob j none).recordDone i d a st
  | .pcycle => b.putJob j none

/-- FLASH_PROGRAM_COMPLETE: the oldest write that can be programmed has been, with the controller's result. -/
def Block.flashDone (res : FlashRes) (b : Block) : Block :=
  match b.inFlight with
  | none => b
  | some j => (b.flashRes j.job.area res).jobDone j res.status

/-- FUSE_STEP_BURNED: F grows by 1; at ARB the CONFIRMED boot word follows (R525). -/
def Block.fuseStep (b : Block) : Block :=
  match b.nv.stg.confirm with
  | none => b
  | some r =>
    let f := satN 64 (b.nv.fuse + 1)
    let b : Block := { b with nv := { b.nv with fuse := f } }
    if b.runHdr.arb ≤ f then
      Block.order (.boot true b.runSlot (some r)) { b with nv := { b.nv with stg := { b.nv.stg with confirm := none } } }
    else b

/-! ### Meanings -/

def execFlashProgramComplete (res : FlashRes) (s : State) : Out := s.done (s.blk.flashDone res)
def execFuseStepBurned (s : State) : Out := s.done s.blk.fuseStep
def execBackgroundEraseComplete (dev sector : Nat) (ok : Bool) (s : State) : Out := s.done (s.blk.eraseDone dev sector ok)
def execJournalCompaction (prot : Bool) (copy : Nat) (sectors : List Nat) (s : State) : Out := s.done (s.blk.compact prot copy sectors)

end Sys2Proof.Machine
end

