-- ==== Sys2Proof/Machine/Update.lean ====
section
/-! DEFINITION. The `upd.` commands, activation and the handover of SP and microcode (23 of the spec, R513 to R526; R53). -/

namespace Sys2Proof.Machine
open Sys2Proof

/-! ### Staging commands -/

/-- UPD_BEGIN (R515). DESIGN CHOICE (log 95). -/
def updBegin (r : Req) (b : Block) : Block :=
  b.onReq 0x0E01 r fun b =>
    let f := fld r.payload 0 4
    let p := r.payload.drop 4
    if b.activating then b.status r stBUSY
    else if 1 < f then b.status r stBADARG
    else
      let x := b.begin (f == 1) p
      if x.1 = stOK then x.2.ok r (leBytes 4 x.2.nv.stg.next ++ leBytes 4 x.2.nv.stg.hdr.nblocks) else x.2.status r x.1

/-- UPD_ABORT (R517). DESIGN CHOICE (log 93). -/
def updAbort (r : Req) (b : Block) : Block :=
  b.onReq 0x0E02 r fun b =>
    if b.activating then b.status r stBUSY
    else if !allZero r.payload then b.status r stBADARG
    else b.stageEnd.status r stOK

/-- A record of `upd.flash` (R518). -/
def NvSt.areaBytes (n : NvSt) (dev a : Nat) : List Byte :=
  let x := areaTable.getD a (0, 0)
  let cnt := if dev = 1 ∧ a = 6 then 0 else x.2
  let s := tget areaD n.areas (9 * dev + a)
  let e := s.erases.map (·.2)
  leBytes 1 dev ++ leBytes 1 a ++ leBytes 2 x.1 ++ leBytes 2 cnt ++ leBytes 2 s.retired.length ++
  leBytes 4 (e.foldl max 0) ++ leBytes 4 (if cnt = 0 then 0 else e.foldl (· + ·) 0 / cnt)

/-- UPD_FLASH. -/
def updFlash (r : Req) (b : Block) : Block :=
  b.onReq 0x0E03 r fun b =>
    if b.activating then b.status r stBUSY
    else if !allZero r.payload then b.status r stBADARG
    else b.ok r ((List.range 2).flatMap fun d => (List.range 9).flatMap fun a => b.nv.areaBytes d a)

/-- UPD_CHAIN (R519). -/
def updChain (r : Req) (b : Block) : Block :=
  b.onReq 0x0E04 r fun b =>
    let op := fld r.payload 0 1
    let c := b.nv.chain
    if b.activating then b.status r stBUSY
    else if (op ≠ 0 ∧ op ≠ 2) ∨ 1 < fld r.payload 1 1 then b.status r stBADARG
    else if op = 2 then b.ok r (leBytes 1 2 ++ leBytes 1 (b2n c.en) ++ leBytes 2 c.succ)
    else b.journal false 0x0E04 r

/-! ### Activation (R521 to R524) -/

/-- The formats of the protection content stored or running: of the records, the FJ images and the backstop image.
DESIGN CHOICE (log 100). -/
def Block.protFormats (b : Block) : List Nat :=
  let imgs := (List.range 8).flatMap fun s =>
    (match (b.slot s).img with | some i => [i.pcf] | none => []) ++ (match tget (fun _ => none) b.nv.store.images s with | some i => [i.pcf] | none => [])
  (b.nv.store.fmts.map (·.2)) ++ imgs ++ (match b.bs.img with | some g => [fld g 4 2] | none => [])

/-- An `upd.key` runs. -/
def Block.keyRunning (b : Block) : Bool := b.nv.jobs.any fun j => match j.job with | .key _ _ => true | _ => false

/-- UPD_ACTIVATE: the conditions of R521 in their order; in recovery the staging alone and the log are judged (R53). -/
def updActivate (r : Req) (b : Block) : Block :=
  b.onReq 0x0E05 r fun b =>
    let f := fld r.payload 0 4
    let g := b.nv.stg
    let h := g.hdr
    let other := h.cfgFmt / 256 != b.runHdr.cfgFmt / 256
    let run := (List.range 8).any fun s => (b.slot s).state == .run
    if b.activating then b.status r stBUSY
    else if 1 < f then b.status r stBADARG
    else if g.state != .complete then b.status r stNOTREADY
    else if !b.sys.recovery && ((other && f == 0) || !b.protFormats.all fun x => decide (h.pcfOldest ≤ x ∧ x ≤ h.pcf)) then b.status r stBADARG
    else if !b.sys.recovery && run && b.spare.isNone then b.status r stNOTREADY
    else if b.keyRunning then b.status r stBUSY
    else if b.nv.logLeft < 2 then b.status r stWORN
    else { b with nv := { b.nv with stg := { g with
      state := .verifying, req := some r, step := 0, cfgReset := other && !b.sys.recovery, moved := 0 } } }

/-- The activation ends with a status; its request is answered. -/
def Block.actAnswer (st epoch : Nat) (p : List Byte) (b : Block) : Block :=
  let q := b.nv.stg.req
  let b : Block := { b with nv := { b.nv with stg := { b.nv.stg with req := none } } }
  match q with | some r => b.answer r st epoch p | none => b

/-- IMAGE_VERIFY_COMPLETE: step 1 of R522 with its verdict; in recovery a good image is named by a boot word, and the request is
answered when that word is programmed (R53). -/
def Block.verified (ok : Bool) (b : Block) : Block :=
  let g := b.nv.stg
  if g.state != .verifying then b
  else if !ok then (((b.actAnswer stBADSIG b.time.epoch []).stageEnd).raise 462 0)
  else if b.sys.recovery then
    let k := b.target
    let b : Block := { b with nv := b.nv.putImg k { b.nv.imgSlot k with bootable := true } }
    Block.order (.boot false k g.req) { b with nv := { b.nv with stg := { g with state := .activating, step := 1, req := none } } }
  else { b with nv := { b.nv with stg := { g with state := .activating, step := 1 } } }

/-- IMAGE_DECRYPT_COMPLETE: step 2. -/
def Block.decrypted (ok : Bool) (b : Block) : Block :=
  let g := b.nv.stg
  if g.state != .activating || g.step != 1 || b.sys.recovery then b
  else if !ok then (b.actAnswer stBADTAG b.time.epoch []).stageEnd
  else { b with nv := { b.nv with stg := { g with step := 2 } } }

/-- BLOB_CHECK_COMPLETE: step 3; on failure nothing else has changed. DEDUCED (log 97). -/
def Block.blobChecked (b : Block) : Block :=
  let g := b.nv.stg
  if g.state != .activating || g.step != 2 then b
  else if g.hdr.blobVer = b.runHdr.blobVer then { b with nv := { b.nv with stg := { g with step := 3 } } }
  else
    let b := b.actAnswer stNOTREADY b.time.epoch []
    { b with nv := { b.nv with stg := { b.nv.stg with state := .complete, step := 0 } } }

/-- The entries of the protection journal, by RID; those of the device configuration are gone. -/
def protEntries (t : Tab (List Byte)) : Tab (List Byte) :=
  t.filter fun x => decide (x.1 ∈ [0x0201, 0x0202, 0x0205, 0x0304, 0x0305, 0x0403, 0x0502, 0x0701])

/-- Every device configuration record returns to its default, in force and in both journals, where a record without an entry stands at
its default (R524). DESIGN CHOICE (log 98). -/
def Block.cfgDefaults (b : Block) : Block :=
  let d : Store := {}
  let e := b.time.epoch
  let st := b.nv.store
  let st1 : Store := { st with
    armPolicy := d.armPolicy, armDelay := d.armDelay, auth := [], hkInt := d.hkInt, time := {}, col := [], routes := [], stns := []
    subs := [], pubs := [], svs := [], net := {}, fab := {}, sig := [], tw := [], access := d.access, pins := [], dist := {}
    chain := d.chain }
  let b : Block := { b with
    nv := { b.nv with store := st1, chain := {}, jour0 := protEntries b.nv.jour0, jour1 := protEntries b.nv.jour1 }
    sys := { b.sys with armPolicy := d.armPolicy, armDelay := d.armDelay }
    mbx := { b.mbx with
      clients := tmap clientD b.mbx.clients fun c x => { x with auth := (clientD c).auth, disabled := false }, routes := [], routePend := [] }
    evr := { b.evr with col := [], cfgPend := [] }
    cnv := { b.cnv with hkPend := [(e, d.hkInt)] }
    time := { b.time with cfgPend := [(e, {})] }
    net := { b.net with cfgPend := [(e, {})], subs := [], pubs := [], svs := [], cbs := [], svBuf := [], svAt := [] }
    fab := { b.fab with
      cfgPend := [(e, {})], sig := [], sigPend := [], twPend := [(e, [])], access := d.access
      zone := b.fab.zone.map fun x => (x.1, { x.2 with pinned := false }), node := b.fab.node.map fun x => (x.1, { x.2 with pinned := false }) }
    dist := { b.dist with cfgPend := [(e, {})] }
    lgc := { b.lgc with stns := [] } }
  (distCfgEffect (timeCfgEffect (houseEffect b)).netEffect.fabCfgEffect.fabTwEffect)

/-- The slots still on another microcode: not EMPTY, with a pair (R523). -/
def Block.oldSlots (b : Block) : List Nat := (List.range 8).filter fun s =>
  let y := b.slot s
  y.state != .empty && (match y.pair with | some p => (b.pair p).uc != b.ucNow | none => (b.ownPair s).any fun p => (b.pair p).uc != b.ucNow)

/-- Slots on the running microcode. DESIGN CHOICE (log 96). -/
def Block.ucMask (b : Block) : Nat := maskOf ((List.range 8).filter fun s =>
  let y := b.slot s
  y.state != .empty && (match y.pair with | some p => (b.pair p).uc == b.ucNow | none => false))

/-- SP_HANDOVER at tick H, with the µs for which the rings were not consumed: the new image runs on all that its blob carries, the
boot word is ordered, and the configuration resets where the major differs (R27, R522, R523, R524). DESIGN CHOICE (log 96, 136). -/
def Block.handover (us : Nat) (b : Block) : Block :=
  let g := b.nv.stg
  if g.state != .activating || g.step != 3 || b.now != b.edgeNow || decide (125 < us) then b
  else
    let k := b.target
    let b : Block := { b with
      nv := { b.nv.putImg k { hdr := some g.hdr, bootable := true } with
        stg := { g with state := .rolling, step := 4, h := b.time.epoch, stored := [], recs := [], asmb := [], asmCnt := [] } }
      sys := { b.sys with slotB := k == 1 }
      mbx := { b.mbx with ringsFrom := b.now + us * usE } }
    let b := (b.order (.boot false k none)).raise 463 us
    -- pairs that serve nothing load the microcode now in the store (R523)
    let b := (List.range 9).foldl (fun (b : Block) p =>
      let x := b.pair p
      let idle : Bool := match x.state with
        | .spare => true
        | .running => (match x.slot with | some s => (b.slot s).state == .empty | none => true)
        | _ => false
      if idle then b.putPair p { x with uc := b.ucNow } else b) b
    if g.cfgReset then b.cfgDefaults.raise 468 0 else b

/-- ROLLING_SLOT_MOVE of a slot: the lowest still on the old microcode moves by a planned takeover onto the spare; a slot in KETTLE
or FAULTED has its pair reloaded in place (R523). DESIGN CHOICE (log 96). -/
def Block.rollMove (s : Nat) (b : Block) : Block :=
  let y := b.slot s
  let moving := (List.range 8).any fun k => (b.slot k).takeover.isSome
  if b.nv.stg.state == .verifying || b.nv.stg.state == .activating || moving || b.oldSlots.head? != some s then b
  else
    let count (b : Block) : Block := { b with nv := { b.nv with stg := { b.nv.stg with moved := b.nv.stg.moved + 1 } } }
    if y.running then
      match b.spare with
      | some q => count ((b.putPair q { b.pair q with uc := b.ucNow }).takeoverStart s q 2 none)
      | none => b
    else
      let own := match y.pair with | some p => some p | none => b.ownPair s
      match own with
      | some p => b.putPair p { b.pair p with uc := b.ucNow }
      | none => b

/-- ROLL_END: no slot is left, or no pair holds the spare role; the response and event 464 (R522, R523). -/
def Block.rollEnd (b : Block) : Block :=
  let g := b.nv.stg
  let moving := (List.range 8).any fun k => (b.slot k).takeover.isSome
  let booting := b.nv.jobs.any fun j => match j.job with | .boot false _ none => true | _ => false
  if g.state != .rolling || moving || booting || (!b.oldSlots.isEmpty && b.spare.isSome) then b
  else
    let b := (b.actAnswer stOK g.h (leBytes 1 b.ucMask ++ zeros 3)).raise 464 g.moved
    { b with nv := { b.nv with stg := { confirm := b.nv.stg.confirm } } }

/-- RECOVERY_RESET is due: the boot word of an activation in recovery has been programmed and answered (R53). -/
def Block.recoveryDue (b : Block) : Bool := b.sys.recovery && b.nv.stg.state == .activating && b.nv.stg.step == 5

/-- UPD_CONFIRM (R525). -/
def updConfirm (r : Req) (b : Block) : Block :=
  b.onReq 0x0E06 r fun b =>
    let k := b.runSlot
    if b.activating || b.nv.stg.confirm.isSome then b.status r stBUSY
    else if !allZero r.payload then b.status r stBADARG
    else if b.nv.bootWord = (true, k) then b.status r stOK
    else if b.nv.logLeft < 2 then b.status r stWORN
    else if b.flashBusy then b.status r stBUSY
    else if b.runHdr.arb ≤ b.nv.fuse then b.order (.boot true k (some r))
    else { b with nv := { b.nv with stg := { b.nv.stg with confirm := some r } } }

def StgState.code : StgState → Nat
  | .idle => 0 | .staging => 1 | .complete => 2 | .verifying => 3 | .activating => 4 | .rolling => 5

/-- The 64 bytes of `upd.state` (R526). -/
def Block.updBytes (b : Block) : List Byte :=
  let n := b.nv
  let g := n.stg
  let c := n.chain
  let h := b.runHdr
  let k := 1 - b.runSlot
  let o := (n.imgSlot k).hdr.getD {}
  let ok := n.slotOk k
  let idle := g.state == .idle
  leBytes 1 g.state.code ++ leBytes 1 b.runSlot ++
  leBytes 1 (bitsOf [n.bootWord == (true, b.runSlot), ok, c.en, c.broken]) ++ leBytes 1 n.fuse ++ leBytes 2 n.keyWord.1 ++
  leBytes 2 (n.oldKgen.getD 0xFFFF) ++ leBytes 4 (if idle then 0 else g.hdr.nblocks) ++ leBytes 4 (if idle then 0 else g.next) ++
  leBytes 4 c.succNext ++ leBytes 2 c.succ ++ leBytes 2 n.logLeft ++ leBytes 4 h.spVer ++ leBytes 4 h.ucVer ++
  leBytes 4 (if ok then o.spVer else 0) ++ leBytes 1 h.arb ++ leBytes 1 o.arb ++ leBytes 1 b.ucMask ++ zeros 25

/-- UPD_STATE. -/
def updState (r : Req) (b : Block) : Block :=
  b.onReq 0x0E07 r fun b => if allZero r.payload then b.answer r stOK b.pin b.updBytes else b.status r stBADARG

/-- The first check of R513 that a key package fails. DESIGN CHOICE (log 98). -/
def Block.keyFail (b : Block) (p : List Byte) : Option Nat :=
  let k := b.nv.keyWord
  let g := fld p 4 2
  let old := if k.2 = 0 then b.nv.key1.kgen else b.nv.key0.kgen
  if p.take 4 != [0x5A, 0x57, 0x4B, 0x59] || decide (g ≤ k.1) || decide (8191 < g) || fld p 6 2 != k.1 then some stBADARG
  else if !Config.keySig k.1 p then some stBADSIG
  else if !Config.keyTag k.1 p then some stBADTAG
  else if !b.sys.recovery && old == some b.runHdr.kgen then some stCONFLICT
  else if b.nv.stg.state != .idle || b.keyRunning || b.flashBusy then some stBUSY
  else if b.nv.logLeft < 2 then some stWORN
  else none

/-- UPD_KEY: client 0 only (R513); event 467 with a refusal. DESIGN CHOICE (log 98). -/
def updKey (r : Req) (b : Block) : Block :=
  b.onReq 0x0E08 r fun b =>
    if b.activating then (b.raise 467 stBUSY).status r stBUSY
    else match b.keyFail r.payload with
      | some st => (b.raise 467 st).status r st
      | none => b.order (.key (fld r.payload 4 2) r)

/-! ### Meanings -/

def execUpdBegin (r : Req) (s : State) : Out := s.done (updBegin r s.blk)
def execUpdAbort (r : Req) (s : State) : Out := s.done (updAbort r s.blk)
def execUpdFlash (r : Req) (s : State) : Out := s.done (updFlash r s.blk)
def execUpdChain (r : Req) (s : State) : Out := s.done (updChain r s.blk)
def execUpdActivate (r : Req) (s : State) : Out := s.done (updActivate r s.blk)
def execImageVerifyComplete (ok : Bool) (s : State) : Out := s.done (s.blk.verified ok)
def execImageDecryptComplete (ok : Bool) (s : State) : Out := s.done (s.blk.decrypted ok)
def execBlobCheckComplete (s : State) : Out := s.done s.blk.blobChecked
def execSpHandover (us : Nat) (s : State) : Out := s.done (s.blk.handover us)
def execRollingSlotMove (slot : Nat) (s : State) : Out := s.done (s.blk.rollMove slot)
def execRollEnd (s : State) : Out := s.done s.blk.rollEnd
def execUpdConfirm (r : Req) (s : State) : Out := s.done (updConfirm r s.blk)
def execUpdState (r : Req) (s : State) : Out := s.done (updState r s.blk)
def execUpdKey (r : Req) (s : State) : Out := s.done (updKey r s.blk)

end Sys2Proof.Machine
end

