-- ==== Sys2Proof/Machine/Ladle.lean ====
section
/-! DEFINITION. Ladle transfers (19 of the spec, R441; 20, R464; 21, R475, R481; 23, R516). -/

namespace Sys2Proof.Machine
open Sys2Proof

/-! ### Objects -/

/-- A run of bytes of an object made of pages of one size. -/
def paged (size : Nat) (f : Nat → List Byte) (o n : Nat) : List Byte :=
  let k := o / size
  (((List.range ((o + n - 1) / size + 1 - k)).flatMap fun i => let p := f (k + i); p.take size ++ zeros (size - p.length)).drop
    (o % size)).take n

/-- The history in pages of 32 KiB: the header page and the codes, then a slot each (R464). -/
def Block.histPage (b : Block) (k : Nat) : List Byte :=
  let head := b.indexHead ++ (List.range 512).flatMap b.codeBytes
  if k = 0 then head.take 32768
  else if k = 1 then head.drop 32768
  else match tget sumD b.nv.sums (k - 2) with | some r => r.bytes | none => []

def drecD' (_ : Nat) : Option DRec := none

/-- Size of an object that exists; for READ, what it may be read as now. -/
def Block.objSize (b : Block) (obj : Nat) : Option Nat :=
  if obj = 1 ∨ obj = 2 then some 262144
  else if obj = 3 then some 4096
  else if 0x10 ≤ obj ∧ obj < 0x18 then some 786432
  else if 0x18 ≤ obj ∧ obj < 0x20 then (b.slot (obj - 0x18)).img.map fun i => i.bytes.length
  else if obj = 0x20 then some 16846848
  else if obj = 0x30 then some 134283264
  else if 0x40 ≤ obj ∧ obj < 0x80 then
    match tget drecD' b.dist.recs (obj - 0x40) with | some r => if r.complete then some (b.cffSize (obj - 0x40) r) else none | none => none
  else none

/-- Objects of the table that have no content now: an image or a record that does not exist, or is not COMPLETE. -/
def absentObj (obj : Nat) : Bool := decide (0x18 ≤ obj ∧ obj < 0x20) || decide (0x40 ≤ obj ∧ obj < 0x80)

def readable (obj : Nat) : Bool := obj != 0x20
def writable (obj : Nat) : Bool := obj == 2 || obj == 3 || decide (0x10 ≤ obj ∧ obj < 0x18) || obj == 0x20

/-- Bytes of an object as it stands. -/
def Block.objBytes (b : Block) (obj o n : Nat) : List Byte :=
  if obj = 1 then paged 64 (tget descD b.elm.active.descs) o n
  else if obj = 2 then paged 64 (tget descD b.elm.inactive.descs) o n
  else if obj = 3 then memRead b.bs.stage o n
  else if obj < 0x18 then memRead (b.slot (obj - 0x10)).stage o n
  else if obj < 0x20 then match (b.slot (obj - 0x18)).img with | some i => cut i.bytes o n | none => []
  else if obj = 0x30 then paged 32768 b.histPage o n
  else match tget drecD' b.dist.recs (obj - 0x40) with | some r => cut (b.cff (obj - 0x40) r) o n | none => []

/-! ### Writes (R182, R216, R442, R516) -/

/-- Bytes over an element table's descriptors. -/
def descWrite (o : Nat) (d : List Byte) (t : Tab (List Byte)) : Tab (List Byte) :=
  (List.range ((o + d.length - 1) / 64 + 1 - o / 64)).foldl (fun t i =>
    let k := o / 64 + i
    tupd descD t k fun x => (List.range 64).map fun j =>
      let a := 64 * k + j
      if o ≤ a ∧ a < o + d.length then d.getD (a - o) 0 else x.getD j 0) t

/-- The pieces of a write to the staging, by block: index, offset within the record, bytes. -/
def recPieces (o : Nat) (d : List Byte) : List (Nat × Nat × List Byte) :=
  let a := o - 4096
  (List.range ((a + d.length - 1) / recSize + 1 - a / recSize)).map fun i =>
    let k := a / recSize + i
    let s := max a (recSize * k)
    let e := min (a + d.length) (recSize * (k + 1))
    (k, s - recSize * k, cut d (s - a) (e - s))

/-- One piece into the assembly buffer, or against the record already stored: the status (R516). -/
def Block.putPiece (x : Nat × Nat × List Byte) (b : Block) : Nat × Block :=
  let (i, s, d) := x
  match b.nv.record i with
  | some r => (if cut r s d.length == d then stOK else stNOTERASED, b)
  | none =>
    let g := b.nv.stg
    let m := memWrite (tget memD g.asmb i) s d
    let w := (List.range (d.length / 4)).foldl (fun l k => insNat (s / 4 + k) l) (tget natsD g.asmCnt i)
    let b : Block := { b with nv := { b.nv with stg := { g with asmb := tset memD g.asmb i m, asmCnt := tset natsD g.asmCnt i w } } }
    if recSize / 4 ≤ w.length then
      let y := b.takeRecord i (memRead m 0 recSize) none
      (if y.1 then stOK else stBADTAG, y.2)
    else (stOK, b)

/-- The pieces in order, up to the first that fails: the status and the record at which it stopped. -/
def Block.putPieces (l : List (Nat × Nat × List Byte)) (b : Block) : Nat × Nat × Block :=
  match l with
  | [] => (stOK, 0, b)
  | x :: r =>
    let y := b.putPiece x
    if y.1 = stOK then Block.putPieces r y.2 else (y.1, x.1, y.2)

/-- A write to the staging: status, bytes counted. -/
def Block.stageWrite (o : Nat) (d : List Byte) (b : Block) : Nat × Nat × Block :=
  let g := b.nv.stg
  let l := recPieces o d
  let fresh := (l.filter fun x => (b.nv.record x.1).isNone && decide (x.2.2.length < recSize) && (tget natsD g.asmCnt x.1).isEmpty).length
  if g.state != .staging || g.held then (stNOTREADY, 0, b)
  else if 64 < (g.asmCnt.filter fun x => !x.2.isEmpty).length + fresh then (stBUSY, 0, b)
  else
    let r := b.putPieces l
    if r.1 = stOK then (stOK, d.length, r.2.2) else (r.1, 4096 + recSize * r.2.1 - o, r.2.2)

/-- Bytes moved into an object: the status, the bytes counted, the block. -/
def Block.objWrite (obj o : Nat) (d : List Byte) (b : Block) : Nat × Nat × Block :=
  if d.isEmpty then (stOK, 0, b)
  else if obj = 2 then
    (stOK, d.length, { b with elm := { b.elm with inactive := { b.elm.inactive with descs := descWrite o d b.elm.inactive.descs } } })
  else if obj = 3 then (stOK, d.length, { b with bs := { b.bs with stage := memWrite b.bs.stage o d, staged := false } })
  else if obj = 0x20 then b.stageWrite o d
  else
    let s := obj - 0x10
    let y := b.slot s
    (stOK, d.length, b.putSlot s { y with stage := memWrite y.stage o d, loaded := none })

/-! ### Transfers -/

/-- The first four transfers run (R441). -/
def runLadles (l : List Ladle) : List Ladle := (l.take 4).map (fun x => { x with active := true }) ++ l.drop 4

/-- The checks of a transfer, after the authority; none where it may be taken. DESIGN CHOICE (log 99). -/
def Block.ladleFail (b : Block) (write : Bool) (r : Req) : Option Nat :=
  let p := r.payload
  let obj := fld p 2 2
  let o := fld p 4 4
  let n := fld p 8 4
  let host := fld p 16 8
  let ring := host == 0
  if fld p 1 1 != 0 || fld p 12 4 != 0 || !(if write then writable obj else readable obj) then some stBADARG
  else if host % 4 != 0 || (!ring && b.sys.hostSel) then some stBADARG
  else if p.length != (if write && ring then 24 + n else 24) then some stBADARG
  else match b.objSize obj with
    | none => some (if absentObj obj then stNOTREADY else stBADARG)
    | some sz =>
      if o % 4 != 0 || n % 4 != 0 || n < 4 || decide (sz < o + n) || (ring && decide (4064 < n)) then some stBADARG
      else if !ring && !b.mbx.bme then some stNOTREADY
      else if !write then none
      else if obj = 0x20 then
        let g := b.nv.stg
        if b.activating then some stBUSY
        else if g.state != .staging || g.held then some stNOTREADY
        else if o < 4096 || decide (4096 + recSize * g.hdr.nblocks < o + n) then some stBADARG
        else if b.ladleOn obj || b.flashBusy then some stBUSY else none
      else if b.ladleOn obj || (obj == 2 && b.swapBusy) || (obj == 3 && b.bs.commit.isSome) then some stBUSY
      else none

/-- A transfer is taken: a READ holds the object as of now. -/
def ladleTake (write : Bool) (r : Req) (b : Block) : Block :=
  match b.ladleFail write r with
  | some st => b.status r st
  | none =>
    let p := r.payload
    let obj := fld p 2 2
    let o := fld p 4 4
    let n := fld p 8 4
    let x : Ladle := { client := r.client, seq := r.seq, flags := r.flags, write := write, obj := obj, offset := o, length := n,
                       host := fld p 16 8, epoch := b.time.epoch, data := if write then p.drop 24 else b.objBytes obj o n }
    { b with mbx := { b.mbx with ladles := runLadles (b.mbx.ladles ++ [x]) } }

/-- SYS_LADLE_READ; an OP above 2 is answered BAD_ARG here. -/
def sysLadleRead (r : Req) (b : Block) : Block :=
  b.onOp 0x0106 r (fld r.payload 0 1 == 0 || decide (2 < fld r.payload 0 1)) fun b =>
    if 2 < fld r.payload 0 1 then b.status r stBADARG else ladleTake false r b
/-- SYS_LADLE_WRITE. -/
def sysLadleWrite (r : Req) (b : Block) : Block := b.onOp 0x0106 r (fld r.payload 0 1 == 1) (ladleTake true r)

/-- The transfer of a client's SEQ. -/
def Block.ladleOf (b : Block) (c seq : Nat) : Option Ladle := b.mbx.ladles.find? fun l => l.client == c && l.seq == seq

/-- The request that a transfer answers. -/
def Block.ladleReq (b : Block) (l : Ladle) : Req :=
  ((b.mbx.accepted.find? fun a => a.req.client == l.client && a.req.seq == l.seq && a.req.cmd == 0x0106).map (·.req)).getD
    { client := l.client, flags := l.flags, cmd := 0x0106, seq := l.seq }

/-- The bytes that a transfer has moved, `m` of them from the host where it is a bus write. -/
def Ladle.moved (l : Ladle) (m : List Byte) : List Byte :=
  if l.write && l.host != 0 then m.take l.length else l.data.take m.length

/-- A transfer ends: what it has moved stands, the next waiting one runs, and it is answered with BYTES and their CRC-32.
DESIGN CHOICE (log 99). -/
def Block.ladleEnd (l : Ladle) (st : Nat) (d : List Byte) (b : Block) : Block :=
  let q := b.ladleReq l
  let b : Block := { b with mbx := { b.mbx with ladles := runLadles (b.mbx.ladles.eraseP (· == l)) } }
  let b :=
    if l.write then
      let x := b.objWrite l.obj l.offset d
      let s := if st = stOK then x.1 else st
      let n := d.take (if x.1 = stOK then d.length else x.2.1)
      if s = stBUSY ∨ s = stNOTREADY then x.2.2.status q s
      else x.2.2.answer q s x.2.2.time.epoch (leBytes 4 n.length ++ leBytes 4 (crc32 n))
    else b.answer q st l.epoch (leBytes 4 d.length ++ leBytes 4 (crc32 d) ++ (if l.host = 0 && st = stOK then d else []))
  -- in FULL the recorder tries its reservation again (R475)
  b.distReserve 64

/-- LADLE_TRANSFER_END, with the bytes that a bus write has fetched. -/
def Block.ladleDone (c seq : Nat) (d : List Byte) (b : Block) : Block :=
  match b.ladleOf c seq with
  | none => b
  | some l =>
    if !l.active || (l.write && l.host != 0 && d.length != l.length) then b
    else b.ladleEnd l stOK (if l.write && l.host != 0 then d else l.data)

/-- LADLE_BUS_ERROR: LINK_ERR with the bytes moved, and event 432. -/
def Block.ladleBus (c seq : Nat) (m : List Byte) (b : Block) : Block :=
  match b.ladleOf c seq with
  | none => b
  | some l => if !l.active || l.host == 0 then b else (b.ladleEnd l stLINKERR (l.moved m)).raise 432 l.obj

/-- SYS_LADLE_ABORT, with the bytes that the transfer had moved. DESIGN CHOICE (log 99). -/
def sysLadleAbort (r : Req) (m : List Byte) (b : Block) : Block :=
  b.onOp 0x0106 r (fld r.payload 0 1 == 2) fun b =>
    match b.ladleOf r.client (fld r.payload 12 4) with
    | none => b.status r stBADARG
    | some l =>
      if fld r.payload 1 1 ≠ 0 ∨ r.payload.length ≠ 24 then b.status r stBADARG
      else (b.ladleEnd l stCONFLICT (if l.active then l.moved m else [])).status r stOK

/-! ### Meanings -/

def execSysLadleRead (r : Req) (s : State) : Out := s.done (sysLadleRead r s.blk)
def execSysLadleWrite (r : Req) (s : State) : Out := s.done (sysLadleWrite r s.blk)
def execSysLadleAbort (r : Req) (moved : List Byte) (s : State) : Out := s.done (sysLadleAbort r moved s.blk)
def execLadleTransferEnd (c seq : Nat) (d : List Byte) (s : State) : Out := s.done (s.blk.ladleDone c seq d)
def execLadleBusError (c seq : Nat) (moved : List Byte) (s : State) : Out := s.done (s.blk.ladleBus c seq moved)

end Sys2Proof.Machine
end

