-- ==== Sys2Proof/Machine/Sys.lean ====
section
/-! DEFINITION. Reset, the startup sequence and the `sys.` commands (02 and 03 of the spec, R35 to R40, R44, R50 to R60; 19 of
the spec, R445). -/

namespace Sys2Proof.Machine
open Sys2Proof

/-! ### Reset (R38, R35, R44, R53) -/

/-- What a reset leaves of the writes under way. The one being programmed is cut off: a commit-log word stands partly programmed, the
key slot being written holds nothing, a backstop copy, a summary record and a lifetime copy do not verify (R216, R460, R512, R513). An entry that copy 0 of its journal already
holds has the highest GEN and stands at the next startup (R506). DESIGN CHOICE (log 101). -/
def Block.cutOff (b : Block) : NvSt :=
  let x := b.nv.jobs.foldl (fun (x : Block) j => match j.job with
    | .journal prot rid r => if j.step = 1 ∧ j.errs = [stOK] then x.journalled prot rid r else x
    | _ => x) b
  let n := { b.nv with store := x.nv.store }
  match b.inFlight with
  | none => n
  | some j =>
    match j.job with
    | .boot _ _ _ => n.logTorn
    | .key _ _ =>
      if j.step = 1 then n.logTorn
      else if n.keyWord.2 = 1 then { n with key0 := {} } else { n with key1 := {} }
    | .backstop c => { n with bsTorn := some c }
    | .summary r => n.sumTorn r
    | .life => n.lifeTorn
    | _ => n

/-- What a staging keeps across a reset: the header and the records in flash, not the assembly buffer or an activation.
DESIGN CHOICE (log 93). -/
def Staging.asReset (g : Staging) : Staging := { hdr := g.hdr, stored := g.stored, recs := g.recs, erased := g.erased }

/-- All logic-side state is reset and the barrier link falls silent; flash, fuses and the field side stay, and the engine is held
until PORST_N is released. DESIGN CHOICE (log 101). -/
def Block.resetLogic (cause : Nat) (b : Block) : Block :=
  let n := b.cutOff
  { lands := { b.lands with porst := true }
    fside := b.fside
    fresh := b.fresh
    nv := { n with jobs := [], stg := n.stg.asReset, chain := {}, resetCause := cause, bsCut := n.bsCut || b.bs.commit.isSome } }

/-- PORST_N is released: the straps are sampled and every port is in admission (R39, R50, R64). DESIGN CHOICE (log 101). -/
def Block.release (hostSel clkSel : Bool) (b : Block) : Block :=
  if b.lands.porst then
    { b with lands := { b.lands with porst := false }, sys := { b.sys with hostSel := hostSel, clkSel := clkSel } }
  else b

/-! ### Startup (R50 to R57) -/

/-- BOOT_ROM_COMPLETE: the slot that the newest boot word names boots if it verifies, otherwise the other one with event 458, and
with neither the engine is in recovery; the clock runs from here on. DESIGN CHOICE (log 102). -/
def Block.booted (aOk bOk : Bool) (b : Block) : Block :=
  if b.lands.porst || b.time.run then b
  else
    let k := b.nv.bootWord.2
    let ok (i : Nat) : Bool := b.nv.slotOk i && (if i = 0 then aOk else bOk)
    let b : Block := { b with time := { b.time with run := true } }
    if ok k then Block.reach 1 { b with sys := { b.sys with slotB := k == 1 } }
    else if ok (1 - k) then
      (Block.reach 1 { b with sys := { b.sys with slotB := k == 0, degraded := true } }).raise 458 ((1 - k : Nat) : Int)
    else Block.reach 1 { b with sys := { b.sys with recovery := true } }

/-- The configuration records that the journals hold are put in force (R504 to R506). DESIGN CHOICE (log 102). -/
def Block.loadRecords (b : Block) : Block :=
  let s := b.nv.store
  let stn (d : StnDecl) : Stn := { decl := some d, state := .wait }
  let stns := s.stns.foldl (fun (t : Tab Stn) x => match x.2 with | some d => tset stnD t x.1 (stn d) | none => t) []
  let stns := s.subs.foldl (fun (t : Tab Stn) x => match x.2 with
    | some e => if e.station = 255 then tset stnD t (e.index x.1) (stn e.decl) else t
    | none => t) stns
  let b : Block := { b with
    sys := { b.sys with armPolicy := s.armPolicy, armDelay := s.armDelay }
    mbx := { b.mbx with
      clients := s.auth.foldl (fun t x => tupd clientD t x.1 fun c => { c with auth := x.2.1, disabled := x.2.2 }) b.mbx.clients
      routes := s.routes }
    evr := { b.evr with
      col := s.col.foldl (fun t x => tset colD t x.1 { rate := x.2.1, burst := x.2.2, bucket := x.2.2 * 1000 }) b.evr.col }
    cnv := { b.cnv with
      hkInt := s.hkInt, inRecs := s.inRecs, p := s.p, pAcc := s.p, seqs := s.seqs
      twins := s.plaus.foldl (fun t x => tupd twinD t x.1 fun y => { y with plaus := x.2 }) b.cnv.twins }
    acc := { b.acc with td := s.td }
    bar := { b.bar with cfg := s.io }
    net := { b.net with cfg := s.net, subs := s.subs, pubs := s.pubs, svs := s.svs }
    lgc := { b.lgc with stns := stns }
    fab := { b.fab with cfg := s.fab, sig := s.sig, tw := s.tw, access := s.access }
    dist := { b.dist with cfg := s.dist, d := s.dist.d }
    nv := { b.nv with chain := { en := s.chain.1, succ := s.chain.2 } } }
  let b := (b.timeCfgApply s.time).trackApply s.track
  s.pins.foldl (fun (b : Block) x => match x.2 with
    | some r => (b.putRoute (decide (256 ≤ x.1)) (x.1 % 256) r false).2
    | none => b) b

/-- The FJ image in force of each slot enters the slot store (R196, R221, R504). DESIGN CHOICE (log 102). -/
def Block.loadImages (b : Block) : Block :=
  b.nv.store.images.foldl (fun (b : Block) x => match x.2 with
    | some i => if x.1 < 8 then b.putSlot x.1 { b.slot x.1 with img := some i, next := some (0, i) } else b
    | none => b) b

/-- A staging that the reset interrupted is rebuilt from the records in the slot that is not bootable; a block of a sector that no
longer verifies counts as missing, and the sector is erased again (R517). `lost` are the blocks whose record fails. DESIGN CHOICE (log 93). -/
def Block.rebuild (lost : List Nat) (b : Block) : Block :=
  let x := b.nv.imgSlot b.target
  match x.hdr with
  | none => b
  | some h =>
    if x.bootable then b
    else
      let g := b.nv.stg
      -- record 0 is the header, 7 records to a sector (R500)
      let gone (i : Nat) : Bool := lost.any fun l => (l + 1) / 7 == (i + 1) / 7
      let ok := g.stored.filter fun i => !gone i
      let recs := g.recs.filter fun r => !gone r.1
      let n : Staging := { g with
        hdr := h, stored := ok, recs := recs, state := if h.nblocks ≤ ok.length then .complete else .staging, held := true }
      let again := ((g.stored.filter gone).map fun i => (i + 1) / 7).eraseDups
      again.foldl (fun (b : Block) s => b.erased b.target s true) { b with nv := { b.nv with stg := n } }

/-- A pair whose memory fails the self-test is not started. LP8, unless it failed too, takes the slot of the lowest such pair; a further
slot has no serving pair (R55). -/
def Block.startPairs (bad : List Nat) (b : Block) : Block :=
  let b := (List.range 9).foldl (fun (b : Block) p =>
    let x := b.pair p
    b.putPair p (if p ∈ bad then { x with uc := b.ucNow, state := .failed, slot := none } else { x with uc := b.ucNow })) b
  ((List.range 9).filter fun p => decide (p ∈ bad)).foldl (fun (b : Block) p =>
    if p = 8 then b.fault .lasting
    else match b.spare with
      | some q => ((b.putPair q { b.pair q with state := .running, slot := some p }).putSlot p { b.slot p with pair := some q }).fault .lasting
      | none => (b.putSlot p { b.slot p with pair := none }).fault .loss) b

/-- MEMORY_SELF_TEST_COMPLETE: the memories that failed, by memory id in rising order, and the staged blocks whose record no longer
verifies (R50, R55, R449, R453, R517). -/
def Block.memoryTested (bad lost : List Nat) (b : Block) : Block :=
  if b.sys.step ≠ 1 then b
  else
    let b := b.recStart.loadRecords
    let b := if b.sys.recovery then b else b.loadImages
    let b := b.rebuild lost
    let isPair (m : Nat) : Bool := decide (4 ≤ m ∧ m ≤ 12)
    let b := b.startPairs ((bad.filter isPair).map (· - 4))
    let b := bad.foldl (fun (b : Block) (m : Nat) =>
      let b := Block.raise 457 m { b with sys := { b.sys with degraded := true } }
      if isPair m then b else b.fault .lasting) b
    Block.reach 2 b.linkStart

/-- The startup verdict on index k: a converter or buffer that fails is removed with its events; the CAUSE byte is the quantity
(R55, R114). -/
def Block.calibIndex (k : Nat) (res : TestRes) (b : Block) : Block :=
  let v := verdictOf (b.topGain k) (tget convD b.cnv.convs k).zeroOfs (tget convD b.cnv.convs (20 + k)).zeroOfs res
  let cause := v.1
  if cause = 0 then b
  else
    let cA := bitOf cause 0 || bitOf cause 2
    let cB := bitOf cause 1 || bitOf cause 3
    let t := b.twin k
    let t2 : Twin := { t with removedA := cA, removedB := cB, bufA := v.2.1, bufB := v.2.2, cause := cause, verdictEp := b.time.epoch }
    let both := (cA && cB) || !((v.2.1.filter fun i => decide (i ∈ v.2.2)).isEmpty)
    ((b.putTwin k t2.choose).verdictEvents k cause v.2.1 v.2.2 cause).fault (if both then .loss else .lasting)

/-- CONVERTER_CALIBRATION_COMPLETE: the trims that calibration found, by converter (0 to 19 path A, 20 to 39 path B), and what the
twin-path check measured; every input begins its windows (R50, R55, R103). -/
def Block.calibrated (trims : List (Nat × Int × Int)) (results : List (Nat × TestRes)) (b : Block) : Block :=
  if b.sys.step ≠ 2 then b
  else
    let convs := trims.foldl (fun t x => if x.1 < 40 then
        tupd convD t x.1 fun (c : Conv) => { c with zeroOfs := x.2.1, zeroCal := x.2.1, gainErr := x.2.2 } else t) b.cnv.convs
    let b : Block := { b with cnv := { b.cnv with convs := convs, calib := true, hkOrg := b.now } }
    let b := results.foldl (fun (b : Block) x => if x.1 < 20 then b.calibIndex x.1 x.2 else b) b
    let ins := (List.range 160).filter fun n => (b.inRec n).sensor != 0
    (ins.foldl (fun (b : Block) n => b.restartInput b.now n) b).reach 3

/-- BACKSTOP_ARM: the step at 150 ms (R50, R54). -/
def Block.armStep (aOk bOk : Bool) (b : Block) : Block := if b.sys.step = 3 then (b.reach 4).arm aOk bOk else b

/-- MAILBOX_ROOT_OPEN: the step at 200 ms (R50, R62). -/
def Block.rootOpen (b : Block) : Block :=
  if b.sys.step = 4 then Block.reach 5 { b with sys := { b.sys with mbxRoot := true } } else b

/-- ELEMENT_TABLE_LOAD: after the 200 ms step, and not in recovery (R53, R57). -/
def Block.tableLoad (b : Block) : Block :=
  if b.sys.step = 5 && !b.sys.recovery && !b.sys.tableLoaded then elementTableLoad b else b

/-- The last step: no port is left in admission (R50, R64). -/
def Block.admitEnd (b : Block) : Block := if b.sys.step = 9 && b.sys.admDone.all id then b.reach 10 else b

/-- FABRIC_CLIENTS_SERVED: the step at 1,000 ms (R50, R62). -/
def Block.fabricServed (b : Block) : Block :=
  if b.sys.step = 8 then (Block.reach 9 { b with sys := { b.sys with mbxFab := true } }).admitEnd else b

/-- ADMISSION_END of a port: the later of 1,000 ms and 250 ms after its last link-up within the first second (R64). -/
def Block.admissionEnd (p : Nat) (b : Block) : Block :=
  let link := b.sys.linkUpAt.getD p 0
  let at_ := if link = 0 then 1000 * msE else max (1000 * msE) (link + 250 * msE)
  if b.time.run && decide (p < 4) && decide (at_ ≤ b.now) then
    Block.admitEnd { b with sys := { b.sys with admDone := lupd b.sys.admDone p fun _ => true } }
  else b

/-! ### `sys.` commands (R60, R445) -/

/-- The 48 bytes of `sys.info`. -/
def Block.infoBytes (b : Block) : List Byte :=
  let h := b.runHdr
  leBytes 4 (b.bar0Word 0) ++ leBytes 4 (b.bar0Word 4) ++ leBytes 8 Config.serial.toNat ++ leBytes 1 b.runSlot ++ zeros 3 ++
  leBytes 4 h.spVer ++ leBytes 4 h.ucVer ++ leBytes 2 h.cfgFmt ++ leBytes 2 h.pcf ++ leBytes 1 b.nv.fuse ++ zeros 3 ++
  leBytes 4 b.evr.pcycle ++ leBytes 4 b.opsec ++ zeros 4

/-- SYS_INFO. -/
def sysInfo (r : Req) (b : Block) : Block := b.onReq 0x0101 r fun b => b.ok r b.infoBytes

/-- SYS_CLIENT: a write is one journal entry; a read returns AUTH and DISABLE of clients 0 to 127 (R440). -/
def sysClient (r : Req) (b : Block) : Block :=
  b.onReq 0x0102 r fun b =>
    let c := fld r.payload 0 1
    let op := fld r.payload 1 1
    let a := fld r.payload 2 1
    let f := fld r.payload 3 1
    let rec_ (c : Nat) : Byte :=
      let x := tget clientD b.mbx.clients c
      BitVec.ofNat 8 (x.auth + 4 * b2n x.disabled)
    if (op ≠ 0 ∧ op ≠ 2) ∨ c = 0 ∨ 127 < c ∨ 3 < a ∨ 1 < f then b.status r stBADARG
    else if op = 2 then b.ok r ((List.range 128).map rec_)
    else b.journal false 0x0102 r

/-- The first boundary at which a slot may begin its next cycle. DESIGN CHOICE (log 104). -/
def Slot.boundary (y : Slot) : Nat :=
  let n := (y.img.map (·.n)).getD 1
  max y.nextE (alignUp n y.blockTo)

/-- SYS_ARM: the slots named leave the lid at their next boundary; word 3 is the latest of these (R58 to R60).
DESIGN CHOICE (log 104). -/
def sysArm (r : Req) (b : Block) : Block :=
  b.onReq 0x0103 r fun b =>
    let m := fld r.payload 0 2
    let f := fld r.payload 2 2
    let todo := (bitList m 8).filter fun s => !(b.slot s).free
    if 255 < m ∨ 1 < f then b.status r stBADARG
    else if f = 0 && todo.any (fun s => (b.slot s).armOk.isNone) then b.status r stNOTREADY
    else
      let run := todo.filter fun s => (b.slot s).running
      let at_ := run.foldl (fun e s => max e (b.slot s).boundary) b.time.epoch
      let b := run.foldl (fun (b : Block) s => b.putSlot s { b.slot s with armCmd := true }) b
      (b.raiseIf (f == 1) 491 m).answer r stOK at_ []

/-- An orderly shutdown starts; one in progress is not started again (R40, R68, R70). -/
def Block.shutStart (by_ : ShutBy) (q : Nat) (b : Block) : Block :=
  if b.sys.shutdown.isSome then b
  else Block.raise 478 q { b with sys := { b.sys with shutdown := some by_, flushed := false, cancel := false } }

/-- SYS_SHUTDOWN. DEDUCED (log 84). -/
def sysShutdown (r : Req) (b : Block) : Block := b.onReq 0x0104 r fun b => (b.shutStart .command 1).status r stOK

/-- SYS_NOP. -/
def sysNop (r : Req) (b : Block) : Block := b.onReq 0x0107 r fun b => b.ok r r.payload

/-! ### Meanings -/

def execPorstNAssert (s : State) : Out := s.done (s.blk.resetLogic 0)
def execPorstNRelease (hostSel clkSel : Bool) (s : State) : Out := s.done (s.blk.release hostSel clkSel)
def execBrownOut (s : State) : Out := s.done (s.blk.resetLogic 1)
def execReferenceLoss (s : State) : Out := s.done (s.blk.resetLogic 2)
/-- RECOVERY_RESET: the reset that follows a recovery activation (R53). -/
def execRecoveryReset (s : State) : Out := s.done (if s.blk.recoveryDue then s.blk.resetLogic 0 else s.blk)
def execBootRomComplete (aOk bOk : Bool) (s : State) : Out := s.done (s.blk.booted aOk bOk)
def execMemorySelfTestComplete (bad lost : List Nat) (s : State) : Out := s.done (s.blk.memoryTested bad lost)
def execConverterCalibrationComplete (trims : List (Nat × Int × Int)) (results : List (Nat × TestRes)) (s : State) : Out :=
  s.done (s.blk.calibrated trims results)
def execBackstopArm (aOk bOk : Bool) (s : State) : Out := s.done (s.blk.armStep aOk bOk)
def execMailboxRootOpen (s : State) : Out := s.done s.blk.rootOpen
def execElementTableLoad (s : State) : Out := s.done s.blk.tableLoad
def execFabricClientsServed (s : State) : Out := s.done s.blk.fabricServed
def execAdmissionEnd (p : Nat) (s : State) : Out := s.done (s.blk.admissionEnd p)
def execSysInfo (r : Req) (s : State) : Out := s.done (sysInfo r s.blk)
def execSysClient (r : Req) (s : State) : Out := s.done (sysClient r s.blk)
def execSysArm (r : Req) (s : State) : Out := s.done (sysArm r s.blk)
def execSysShutdown (r : Req) (s : State) : Out := s.done (sysShutdown r s.blk)
def execSysNop (r : Req) (s : State) : Out := s.done (sysNop r s.blk)

end Sys2Proof.Machine
end

