-- ==== Sys2Proof/Machine/Power.lean ====
section
/-! DEFINITION. Supplies in service and the orderly shutdown (02 of the spec, R35, R40; 03 of the spec, R68 to R70), and the die
temperature (25 of the spec, R546). -/

namespace Sys2Proof.Machine
open Sys2Proof

/-! ### Rails (R35) -/

/-- Source of a rail: 474 VCORE, 475 VDDR, 476 VIO, 477 VANA. -/
def railSrc (r : Nat) : Nat := 474 + r

/-- RAIL_OUT_OF_WINDOW: outside for 2 µs; from VANA, QUESTIONABLE on every analogue-derived value. -/
def Block.railOut (r : Nat) (b : Block) : Block :=
  if 4 ≤ r || b.lands.porst || b.sys.rails.getD r false then b
  else
    Block.raiseOpen (railSrc r) { b with sys := { b.sys with
      rails := lupd b.sys.rails r fun _ => true, vanaQ := b.sys.vanaQ || r == 3 } }

/-- RAIL_RETURN: the largest deviation in mV is the quantity. DESIGN CHOICE (log 103). -/
def Block.railBack (r mV : Nat) (b : Block) : Block :=
  if b.sys.rails.getD r false then
    Block.quantity (railSrc r) mV { b with sys := { b.sys with rails := lupd b.sys.rails r fun _ => false } }
  else b

/-! ### The orderly shutdown -/

/-- A configuration or protection update, or the power-cycle count, among the writes ordered. -/
def FJob.isRecord (j : FJob) : Bool := match j.job with | .journal _ _ _ => true | .pcycle => true | _ => false

/-- The record updates already accepted are written, both copies each (R69). DESIGN CHOICE (log 103). -/
def Block.flushRecords (fuel : Nat) (b : Block) : Block :=
  match fuel with
  | 0 => b
  | f + 1 => match b.nv.jobs.find? FJob.isRecord with
    | some j => (b.jobDone j stOK).flushRecords f
    | none => b

/-- The shutdown ends by cancellation: flash writes are served again. Entries of a shutdown record that could not be written go into
the next record (R70, R461). -/
def Block.shutCancel (b : Block) : Block :=
  let b : Block := { b with sys := { b.sys with shutdown := none, flushed := false, cancel := false } }
  match b.nv.carry with
  | some x => { b with
      nv := { b.nv with carry := none }
      evr := { b.evr with intv := mergeAll 65535 x.2 b.evr.intv, intStart := x.1, carried := true } }
  | none => b

/-- SHUTDOWN_FLUSH_COMPLETE: R69 in its order; the result is that of the summary record's program operation. -/
def Block.flushed (res : FlashRes) (b : Block) : Block :=
  if b.sys.shutdown.isNone || b.sys.flushed then b
  else
    let b := b.flushRecords (2 * b.nv.jobs.length)
    let b :=
      if b.evr.started then
        let r := b.summary 1
        let b := (b.flashRes 1 res).newInterval
        if res.status = stOK then b.summaryDone r else b.summaryLost r
      else b
    let b : Block := { b with sys := { b.sys with flushed := true } }
    if b.sys.cancel then b.shutCancel else b

/-- PWR_FAIL_FALL (R40). DESIGN CHOICE (log 103). -/
def Block.pwrFall (b : Block) : Block :=
  if !b.lands.pwrFailN then b
  else
    let b : Block := { b with lands := { b.lands with pwrFailN := false } }
    if b.lands.porst then b else b.shutStart .pwrFail 0

/-- PWR_FAIL_RISE: it cancels a shutdown that PWR_FAIL_N started, once the flush is complete (R70). -/
def Block.pwrRise (b : Block) : Block :=
  let b : Block := { b with lands := { b.lands with pwrFailN := true } }
  if b.sys.shutdown = some .pwrFail then
    if b.sys.flushed then b.shutCancel else { b with sys := { b.sys with cancel := true } }
  else b

/-! ### Die temperature (R546) -/

/-- The threshold in °C: the upper case limit of the ordering code plus 15 K. -/
def overTemp : Nat := if Config.order = 2 then 120 else 100

/-- The die temperature in 0.1 °C: the TEMP reading of the hottest converter. DESIGN CHOICE (log 105). -/
def Block.dieNow (b : Block) : Int := (b.cnv.convs.map (·.2.temp)).foldl max 0

/-- The event may be raised: the threshold has not been crossed, or the reading has since been 5 K below it for 10 s.
DESIGN CHOICE (log 105). -/
def Block.dieArmed (b : Block) : Bool :=
  !b.flt.hot || (match b.flt.coolSince with | some a => decide (a + 10 * secE ≤ b.now) | none => false)

/-- A new TEMP reading: the time spent 5 K below the threshold. DESIGN CHOICE (log 105). -/
def Block.dieRead (b : Block) : Block :=
  let f := b.flt
  if !f.hot then b
  else if b.dieNow ≤ overTemp * 10 - 50 then { b with flt := { f with coolSince := some (f.coolSince.getD b.now) } }
  else { b with flt := { f with hot := !b.dieArmed, coolSince := none } }

/-- DIE_OVERTEMP: event 479 on the rising crossing of the threshold, with the reading in °C. -/
def Block.dieHot (b : Block) : Block :=
  let t := b.dieNow
  if t < overTemp * 10 then b
  else
    let b1 : Block := { b with flt := { b.flt with hot := true, coolSince := none } }
    b1.raiseIf b.dieArmed 479 (t / 10)

/-! ### Meanings -/

def execRailOutOfWindow (rail : Nat) (s : State) : Out := s.done (s.blk.railOut rail)
def execRailReturn (rail mV : Nat) (s : State) : Out := s.done (s.blk.railBack rail mV)
def execPwrFailFall (s : State) : Out := s.done s.blk.pwrFall
def execPwrFailRise (s : State) : Out := s.done s.blk.pwrRise
def execShutdownFlushComplete (res : FlashRes) (s : State) : Out := s.done (s.blk.flushed res)
def execDieOvertemp (s : State) : Out := s.done s.blk.dieHot

end Sys2Proof.Machine
end

