-- ==== Sys2Proof/Machine/Faults.lean ====
section
/-! DEFINITION. Faults of the memories and of the supervisor processor (24 of the spec, R533 to R540). -/

namespace Sys2Proof.Machine
open Sys2Proof

/-! ### Rows (R534) -/

/-- A row under its memory id. -/
def rowId (mem row : Nat) : Nat := mem * 65536 + row

/-- Spare rows of a memory in use: of rows under test and of rows remapped. -/
def Block.rowsUsed (b : Block) (mem : Nat) : Nat := ((b.flt.testing ++ b.flt.remapped).filter fun x => x / 65536 == mem).length

/-- An uncorrectable error in memories 0 to 3: the row's march test begins, a spare row serving its users; without a spare row the row
stays in use, with event 456. -/
def Block.rowFail (mem row : Nat) (b : Block) : Block :=
  let k := rowId mem row
  if k ∈ b.flt.testing ∨ k ∈ b.flt.remapped then b
  else if 16 ≤ b.rowsUsed mem then b.raise 456 mem
  else { b with flt := { b.flt with testing := insNat k b.flt.testing } }

/-- ROW_MARCH_TEST_COMPLETE: a row that passes returns to service; one that fails stays remapped, with event 455. -/
def Block.marchDone (mem row : Nat) (ok : Bool) (b : Block) : Block :=
  let k := rowId mem row
  if k ∈ b.flt.testing ∧ b.spUp = true then
    let b : Block := { b with flt := { b.flt with testing := remNat k b.flt.testing } }
    if ok then b else Block.raise 455 k { b with flt := { b.flt with remapped := insNat k b.flt.remapped } }
  else b

/-! ### The element table (R182, R534) -/

/-- A row that an uncorrectable error has damaged: 64 bytes that no rule states. -/
def freeRow (k : Nat) : List Byte := (List.range 8).flatMap fun i => leBytes 8 (Config.freeDWord (k + i)).toNat

/-- A user curve that an uncorrectable error has damaged: which of its words a row holds is not stated, so each may be any word; the
number of its points stands. DESIGN CHOICE (log 107). -/
def freeCurve (k : Nat) (c : Curve) : Curve :=
  { c with tr := Config.freeWord k, pts := (List.range c.pts.length).map fun i => (Config.freeWord (k + 1 + 2 * i), Config.freeWord (k + 2 + 2 * i)) }

/-- An uncorrectable row of memory 0: an active descriptor fails its CHK, with event 315, and is blocked until the next swap; an
inactive one, or a user curve of either buffer, is damaged where it stands (R534). DESIGN CHOICE (log 107). -/
def Block.tableLost (row : Nat) (b : Block) : Block :=
  if 8272 ≤ row then b else
  let b := (b.fault .transient).rowFail 0 row
  let bytes := freeRow b.fresh
  let lostCurve (c : Nat) (t : TableBuf) : TableBuf := { t with curves := tupd curveD t.curves c (freeCurve b.fresh) }
  let e := b.elm
  if row < 4096 then
    let b1 : Block := { b with
      fresh := b.fresh + 8
      elm := { e with active := { e.active with descs := tset descD e.active.descs row bytes }, bad := insNat row e.bad } }
    b1.raiseIf (!decide (row ∈ e.bad)) 315 row
  else if row < 8192 then
    { b with
      fresh := b.fresh + 8
      elm := { e with inactive := { e.inactive with descs := tset descD e.inactive.descs (row - 4096) bytes } } }
  else if row < 8232 then { b with fresh := b.fresh + 128, elm := { e with active := lostCurve ((row - 8192) / 5) e.active } }
  else { b with fresh := b.fresh + 128, elm := { e with inactive := lostCurve ((row - 8232) / 5) e.inactive } }

/-- DESCRIPTOR_REPAIR: the SP rewrites the failing active descriptor from the protection journal; the element stays blocked. -/
def Block.repair (i : Nat) (b : Block) : Block :=
  if i ∈ b.elm.bad ∧ b.spUp = true then
    { b with elm := { b.elm with
      active := { b.elm.active with descs := tset descD b.elm.active.descs i (tget descD b.nv.store.table.descs i) } } }
  else b

/-! ### Timers (R535) -/

/-- An uncorrectable timer word: the timer is idle. An element that owns it is treated as blocked in this pass and starts from rest in
the next. -/
def Block.timerLost (n row : Nat) (b : Block) : Block :=
  let t := b.wheel.get n
  let b := ((b.fault .transient).rowFail 1 row).raise 324 n
  let b : Block := { b with wheel := b.wheel.upd n fun t => { Timer.op .cancel t with pend := 0 } }
  if t.cls = 0 then
    let o := tget elStD b.elm.states t.owner
    let rest : ElSt := {
      timers := o.timers, latched := o.latched, operate := o.latched, progress := if o.latched then 65535 else 0
      qual := { o.qual with valid := false, blocked := true } }
    { b with
      wheel := elCancel o.timers b.wheel
      elm := { b.elm with states := tset elStD b.elm.states t.owner rest } }
  else b

/-! ### The slot store and the accumulators (R533, R536) -/

/-- An uncorrectable word of a slot store: an FJ image is reloaded and the slot continues; damaged data stops the slot at its next
cycle boundary. -/
def Block.storeLost (s row : Nat) (image : Bool) (b : Block) : Block :=
  if 8 ≤ s then b
  else
    let b := (b.rowFail 2 row).raise 449 s
    if image then b.fault .transient else (b.putSlot s { b.slot s with damaged := true }).fault .loss

/-- An uncorrectable word of the accumulator state: the input's accumulations restart. -/
def Block.accumLost (n row : Nat) (b : Block) : Block :=
  if 160 ≤ n then b else (((b.fault .transient).rowFail 3 row).raise 453 n).restartInput b.now n

/-! ### The supervisor processor (R539, R540) -/

/-- SP_WATCHDOG_EXPIRY, or an uncorrectable SP memory error: the SP alone restarts, from the other image slot the second time within
60 s; a third time it stops, a LOSS. The disturbance recorder stands still with it. DESIGN CHOICE (log 106), DEDUCED (log 121). -/
def Block.spFail (b : Block) : Block :=
  if b.sys.step = 0 || b.flt.spRestarting.isSome || b.flt.spStopped then b
  else
    let recent := b.flt.spRestarts.filter fun t => decide (b.now < t + 60 * secE)
    let stop := decide (2 ≤ recent.length)
    let b : Block := { b with
      flt := { b.flt with
        spRestarts := b.now :: recent, spRestarting := if stop then none else some b.now, spStopped := stop }
      sys := { b.sys with mbxRoot := false, mbxHost := false, mbxFab := false }
      time := { b.time with inc := b.time.freqInc }
      dist := { b.dist with run := false } }
    let b := b.setTState .holdover
    if stop then b.fault .loss
    else
      let b := b.fault .transient
      let other := 1 - b.runSlot
      if recent.length = 1 && b.nv.slotOk other then
        Block.raise 458 other { b with sys := { b.sys with slotB := other == 1, degraded := true } }
      else b

/-- The raises counted in hardware are taken into the tally (R449, R539). -/
def Block.takeHw (b : Block) : Block :=
  if !b.evr.started then b
  else
    let add (t : Tab Tally) : Tab Tally := b.evr.hw.foldl (fun t p => tupd tallyD t p.1 fun x => { x with count := x.count + p.2 }) t
    { b with evr := { b.evr with hw := [], life := add b.evr.life, intv := add b.evr.intv } }

/-- SP_RESTART_COMPLETE: the rings of clients 0 to 127 reset, the sessions close, the firmware timers are cancelled, and the open
record ends with TRUNC; the routes are formed again; event 499 with the outage in ms. DESIGN CHOICE (log 106). -/
def Block.spBack (b : Block) : Block :=
  match b.flt.spRestarting with
  | none => b
  | some t =>
    let s := b.sys
    let b : Block := { b with
      flt := { b.flt with spRestarting := none }
      sys := { s with mbxRoot := decide (5 ≤ s.step), mbxHost := s.ready, mbxFab := decide (9 ≤ s.step) }
      wheel := { b.wheel with
        timers := tmap timerR b.wheel.timers fun _ x => if x.cls = 2 then { Timer.op .cancel x with pend := 0 } else x } }
    let b := b.takeHw
    let b := (List.range 128).foldl (fun (b : Block) c => b.ringReset c) b
    let b := (List.range 128).foldl (fun (b : Block) c => b.sessClose (128 + c)) b
    let b := match b.distOpen with
      | some _ => Block.distClose true false (Config.freeWord b.fresh).toNat b.now { b with fresh := b.fresh + 1 }
      | none => b
    -- the disturbance recorder runs again from the next grid boundary
    let b : Block := if s.ready then Block.distStart { b with dist := { b.dist with start := none } } else b
    (if b.fabOn then b.reroute else b).raise 499 ((b.now - t) / msE : Nat)

/-! ### LPDDR4X and the microcode store (R537) -/

/-- An uncorrectable LPDDR4X word, by its consumer. DESIGN CHOICE (log 108). -/
def Block.lpddrLost (u : LpddrUse) (b : Block) : Block :=
  match u with
  | .sets k hit =>
    let b := (b.fault .transient).raise 447 0
    match tget drecD b.dist.recs k with
    | some r =>
      let sets := (List.range r.sets.length).map fun i => { r.sets.getD i {} with bad := (r.sets.getD i {}).bad || hit.contains i }
      { b with dist := { b.dist with recs := tset drecD b.dist.recs k (some { r with sets := sets }) } }
    | none => b
  | .ladle c q m =>
    let b := (b.fault .transient).raise 447 1
    match b.ladleOf c q with
    | some l => if l.active then b.ladleEnd l stCONFLICT (l.moved m) else b
    | none => b
  | .other => (b.raise 447 2).spFail

/-- The microcode store fails: it is reloaded from the running image slot. -/
def Block.ucFail (b : Block) : Block :=
  Block.raise 452 1 (Block.fault .transient { b with flt := { b.flt with ucReload := true } })

/-- MICROCODE_RELOAD_COMPLETE. -/
def Block.ucBack (b : Block) : Block := { b with flt := { b.flt with ucReload := false } }

/-! ### Scrubbing (R533) -/

/-- A single-bit error is corrected in place; the event of its memory names the place. DESIGN CHOICE (log 108). -/
def Block.scrubbed (h : MemHit) (b : Block) : Block :=
  match h with
  | .table _ => b.fault .corrected
  | .timer n _ => (b.fault .corrected).raise 323 n
  | .store s _ _ => (b.fault .corrected).raise 448 s
  | .accum _ _ => b.fault .corrected
  | .pair p => b.eccCorrected p
  | .sp k => (b.fault .corrected).raise 450 k
  | .microcode => (b.fault .corrected).raise 452 0
  | .lpddr k _ => (b.fault .corrected).raise 446 k

/-- An uncorrectable error. DESIGN CHOICE (log 108). -/
def Block.memoryLost (h : MemHit) (b : Block) : Block :=
  match h with
  | .table r => b.tableLost r
  | .timer n r => b.timerLost n r
  | .store s r i => b.storeLost s r i
  | .accum n r => b.accumLost n r
  | .pair p => b.detect p .ecc
  | .sp k => (b.raise 451 k).spFail
  | .microcode => b.ucFail
  | .lpddr _ u => b.lpddrLost u

/-! ### Meanings -/

def execMemoryScrubError (h : MemHit) (corrected : Bool) (s : State) : Out :=
  s.done (if corrected then s.blk.scrubbed h else s.blk.memoryLost h)
def execRowMarchTestComplete (mem row : Nat) (ok : Bool) (s : State) : Out := s.done (s.blk.marchDone mem row ok)
def execDescriptorRepair (i : Nat) (s : State) : Out := s.done (s.blk.repair i)
def execTimerMemoryError (n row : Nat) (s : State) : Out := s.done (s.blk.timerLost n row)
def execSlotStoreError (slot row : Nat) (image : Bool) (s : State) : Out := s.done (s.blk.storeLost slot row image)
def execLpddrError (u : LpddrUse) (s : State) : Out := s.done (s.blk.lpddrLost u)
def execMicrocodeReloadComplete (s : State) : Out := s.done s.blk.ucBack
def execSpWatchdogExpiry (s : State) : Out := s.done s.blk.spFail
def execSpRestartComplete (s : State) : Out := s.done s.blk.spBack

end Sys2Proof.Machine
end

