-- ==== Sys2Proof/Machine/Ptp.lean ====
section
/-! DEFINITION. PTP: the messages received and sent, the best-master selection, the transparent clock and the announce
timeout (16 of the spec, R350, R352, R357 to R359). -/

namespace Sys2Proof.Config
open Sys2Proof

/-- The clockIdentity of this engine's clock. -/
opaque clockId : Nat

end Sys2Proof.Config

namespace Sys2Proof.Machine
open Sys2Proof

def Block.putPtp (p : Nat) (f : PtpPort → PtpPort) (b : Block) : Block :=
  { b with time := { b.time with ports := tupd ptpD b.time.ports p f } }

/-- The clock's PTP port behind a physical port: an HSR pair is one, held under the lower port; every other port is its own (R358). -/
def Block.ptpPort (b : Block) (p : Nat) : Nat := if b.red p = 2 then p / 2 * 2 else p

/-- The port carries PTP (R358, R370). -/
def Block.ptpOn (b : Block) (p : Nat) : Bool := b.alive p && b.time.cfg.profile != 0 && b.time.cfg.ptpEn.getD (b.ptpPort p) false

/-- A PTP port of the clock can hear a master. -/
def Block.ptpUp (b : Block) (p : Nat) : Bool := b.ptpOn p || (b.red p == 2 && p % 2 == 0 && b.ptpOn (p + 1))


/-- A PTP message comes in: always admitted (R65), and counted. A message of another domain is discarded (R359); the flag
says whether it is served. -/
def Block.ptpIn (p domain : Nat) (b : Block) : Bool × Block :=
  if !b.alive p then (false, b)
  else
    let b := b.goodRx p
    if !b.ptpOn p then (false, b)
    else if domain ≠ b.time.cfg.domain then (false, b.putPtp p fun q => { q with discard := satN (2 ^ 32 - 1) (q.discard + 1) })
    else (true, b)

/-! ### Best master -/

/-- What this engine announces of its own clock (R357, R370). -/
def Block.ownClock (b : Block) : Announce :=
  { prio1 := b.time.cfg.prio1, prio2 := b.time.cfg.prio2, identity := Config.clockId }

/-- The order of the default comparison: the smaller is the better; for one grandmaster, the fewer steps (R357).
PRESUMED (log 73). -/
def Announce.rank (a : Announce) : List Nat := [a.prio1, a.cls, a.accuracy, a.variance, a.prio2, a.identity, a.steps]

/-- Lexicographic order of lists of one length. PRESUMED (log 73). -/
def annLt : List Nat → List Nat → Bool
  | x :: r, y :: t => decide (x < y) || (x == y && annLt r t)
  | _, _ => false

def Announce.better (a c : Announce) : Bool := annLt a.rank c.rank

/-- The port with the best Announce; at equal rank the lower port. -/
def Block.bestPort (b : Block) : Option (Nat × Announce) :=
  (List.range 4).foldl (fun m p =>
    if !b.ptpUp p then m
    else match (tget ptpD b.time.ports p).best, m with
      | none, _ => m
      | some a, none => some (p, a)
      | some a, some x => if a.better x.2 then some (p, a) else m) none

/-- Choose the grandmaster and the states of the ports: at most one port is SLAVE; SLAVE_ONLY keeps every port out of MASTER.
A new grandmaster raises event 348 (R357, R358, R373). -/
def Block.bmca (b : Block) : Block :=
  let t := b.time
  let own := b.ownClock
  let pick := match b.bestPort with
    | some (p, a) => if t.cfg.slaveOnly || a.better own then some (p, a) else none
    | none => none
  let gm : Announce := match pick with
    | some (_, a) => a
    | none => if t.cfg.slaveOnly then {} else own
  let id := match pick with | some (_, a) => a.identity | none => if t.cfg.slaveOnly then 0 else own.identity
  let st (p0 : Nat) : Nat :=
    let p := b.ptpPort p0
    if t.cfg.profile = 0 || !t.cfg.ptpEn.getD p false then 3
    else match pick with
      | some (s, _) =>
        if p = s then 9 else if t.cfg.slaveOnly then 4
        else match (tget ptpD t.ports p).best with
          | some a => if a.identity = gm.identity ∧ a.steps ≤ gm.steps then 7 else 6
          | none => 6
      | none => if t.cfg.slaveOnly then 4 else 6
  let b2 : Block := { b with time := { t with
    gm := gm, gmId := id, slave := pick.map (·.1)
    ports := tupdAll ptpD t.ports (List.range 4) fun p q => { q with pstate := st p } } }
  Block.reEst (b2.raiseIf (id != t.gmId) 348 0)

/-- PTP_ANNOUNCE (R353, R357). -/
def Block.ptpAnnounce (p domain : Nat) (a : Announce) (b : Block) : Block :=
  let r := b.ptpIn p domain
  if !r.1 then r.2
  else (r.2.putPtp (b.ptpPort p) fun q => { q with best := some a, annAt := b.now }).bmca

/-- ANNOUNCE_TIMEOUT: three intervals without an Announce on a port that had one (R352, R357, R372). -/
def Block.annTimeout (p : Nat) (b : Block) : Block :=
  let q := tget ptpD b.time.ports p
  if 4 ≤ p || q.best.isNone || b.now < q.annAt + 3 * secE then b
  else
    let was := b.time.slave = some p
    let b := (b.putPtp p fun q => { q with best := none, annTo := true }).bmca
    if was then
      let b := b.raise 349 p
      if b.time.servo.state = .locked then b.setTState .holdover else b
    else b

/-! ### Sync and peer delay -/

/-- The stamp that the SP forms from CAP for a message received on port p (R355). DESIGN CHOICE (log 57). -/
def Block.rxStampNs (b : Block) (p : Nat) : Nat := b.time.directStamp (b.mode p == 2) false

/-- An offset θ = local − master on the SLAVE port: the receive stamp less the origin, its correction in 2^−16 ns and the
link delay (R350, R357). -/
def Block.theta (b : Block) (p rx origin : Nat) (corr : Int) : Int :=
  dist64 rx origin - (rneI corr 65536) - ((tget ptpD b.time.ports p).linkDelay : Nat)

/-- PTP_SYNC: on the SLAVE port, a one-step Sync runs the servo; a two-step one waits for its Follow_Up (R350, R357). -/
def Block.ptpSync (p domain seq : Nat) (twoStep : Bool) (origin : Nat) (corr : Int) (b : Block) : Block :=
  let r := b.ptpIn p domain
  if !r.1 || r.2.time.slave != some (b.ptpPort p) then r.2
  else
    let b := r.2
    let rx := b.rxStampNs p
    if twoStep then b.putPtp p fun q => { q with syncWait := some (seq, rx, corr) }
    else b.servo (b.theta p rx origin corr)

/-- PTP_FOLLOW_UP (R357). -/
def Block.ptpFollowUp (p domain seq origin : Nat) (corr : Int) (b : Block) : Block :=
  let r := b.ptpIn p domain
  if !r.1 || r.2.time.slave != some (b.ptpPort p) then r.2
  else match (tget ptpD r.2.time.ports p).syncWait with
  | none => r.2
  | some (s, rx, c) =>
    if s ≠ seq then r.2
    else
      let b := r.2.putPtp p fun q => { q with syncWait := none }
      b.servo (b.theta p rx origin (c + corr))

/-- PTP_PDELAY_REQ: answered in two steps, in queue 7 (R357, R380). -/
def Block.ptpPdelayReq (p domain seq requester : Nat) (b : Block) : Block :=
  let r := b.ptpIn p domain
  if !r.1 then r.2
  else (r.2.enqueue p { body := .ptp (.pdelayResp seq requester (r.2.rxStampNs p)), queue := 7 }).kick p false

/-- PTP_PDELAY_RESP: the response, its follow-up included, gives the link delay: half of what the round trip took beyond the
responder's turnaround (R357). -/
def Block.ptpPdelayResp (p domain seq reqRx respTx : Nat) (corr : Int) (b : Block) : Block :=
  let r := b.ptpIn p domain
  if !r.1 then r.2
  else match (tget ptpD r.2.time.ports p).pdelayWait with
  | none => r.2
  | some (s, t1) =>
    if s ≠ seq then r.2
    else
      let d := dist64 (r.2.rxStampNs p) t1 - dist64 respTx reqRx - rneI corr 65536
      r.2.putPtp p fun q => { q with pdelayWait := none, linkDelay := satN (2 ^ 32 - 1) (rneI d 2).toNat }

/-- PTP_UNSUPPORTED: discarded and counted (R10, R359). -/
def Block.ptpUnsupported (p : Nat) (b : Block) : Block :=
  if !b.alive p then b
  else (b.goodRx p).putPtp p fun q => { q with discard := satN (2 ^ 32 - 1) (q.discard + 1) }

/-- PTP_TRANSMIT_INTERVAL: a MASTER port sends Sync and Announce, every PTP port Pdelay_Req; a request still unanswered is a
peer delay failure (R357, R372, R373). -/
def Block.ptpInterval (p : Nat) (k : PtpKind) (b : Block) : Block :=
  if !b.ptpOn p then b
  else
    let q := tget ptpD b.time.ports p
    let send (m : PtpTx) (b : Block) : Block := (b.enqueue p { body := .ptp m, queue := 7 }).kick p false
    match k with
    | .sync =>
      if q.pstate = 6 ∧ b.ptpPort p = p then
        send (.sync q.seqSync) (b.putPtp p fun q => { q with seqSync := (q.seqSync + 1) % 65536 })
      else b
    | .announce =>
      if q.pstate = 6 ∧ b.ptpPort p = p then
        let a := if b.time.slave.isSome then { b.time.gm with steps := b.time.gm.steps + 1 } else b.ownClock
        send (.announce q.seqAnn a (b.time.cfg.profile == 2))
          (b.putPtp p fun q => { q with seqAnn := (q.seqAnn + 1) % 65536 })
      else b
    | .pdelayReq =>
      let b := if q.pdelayWait.isSome then
          (b.putPtp p fun q => { q with pdelayFail := satN (2 ^ 32 - 1) (q.pdelayFail + 1), pdelayWait := none }).raise 355 p
        else b
      send (.pdelayReq q.seqPdelay) (b.putPtp p fun q => { q with seqPdelay := (q.seqPdelay + 1) % 65536 })

/-- TRANSPARENT_CLOCK_FORWARD: an event message goes on between ETH2 and ETH3, or through an HSR pair, with its residence
time and the ingress link delay added to the correctionField: in the frame for a one-step Sync, in the Follow_Up for a
two-step one. `rx` and `tx` are the direct stamps of R355 (R358). -/
def Block.tcForward (p seq : Nat) (twoStep : Bool) (corr : Int) (rx tx : Nat) (b : Block) : Block :=
  let o := if p % 2 = 0 then p + 1 else p - 1
  let on := (decide (2 ≤ p) && b.time.cfg.tc.getD p false && b.time.cfg.tc.getD o false) || b.red p == 2
  if !b.alive p || !on || b.time.cfg.profile = 0 then b
  else
    let b := b.goodRx p
    let c := corr + (dist64 tx rx + ((tget ptpD b.time.ports p).linkDelay : Nat)) * 65536
    let put (kind : Nat) (c : Int) (b : Block) : Block := (b.enqueue o { body := .tc kind seq c, queue := 7 }).kick o false
    if twoStep then put 1 c (put 0 corr b) else put 0 c b

/-- TIME_CFG_EFFECT: the settings whose S has come, and the best master under them (R357, R370). -/
def Block.timeCfgDue (b : Block) : Block :=
  if b.time.cfgPend.any fun x => decide (x.1 ≤ b.time.epoch) then (timeCfgEffect b).bmca else b

/-! ### Meanings -/

def execTimeCfgEffect (s : State) : Out := s.done s.blk.timeCfgDue

def execPtpSync (p domain seq : Nat) (twoStep : Bool) (origin : Nat) (corr : Int) (s : State) : Out :=
  s.done (s.blk.ptpSync p domain seq twoStep origin corr)
def execPtpFollowUp (p domain seq origin : Nat) (corr : Int) (s : State) : Out :=
  s.done (s.blk.ptpFollowUp p domain seq origin corr)
def execPtpAnnounce (p domain : Nat) (a : Announce) (s : State) : Out := s.done (s.blk.ptpAnnounce p domain a)
def execPtpPdelayReq (p domain seq requester : Nat) (s : State) : Out := s.done (s.blk.ptpPdelayReq p domain seq requester)
def execPtpPdelayResp (p domain seq reqRx respTx : Nat) (corr : Int) (s : State) : Out :=
  s.done (s.blk.ptpPdelayResp p domain seq reqRx respTx corr)
def execPtpUnsupported (p : Nat) (s : State) : Out := s.done (s.blk.ptpUnsupported p)
def execPtpTransmitInterval (p : Nat) (k : PtpKind) (s : State) : Out := s.done (s.blk.ptpInterval p k)
def execTransparentClockForward (p seq : Nat) (twoStep : Bool) (corr : Int) (rx tx : Nat) (s : State) : Out :=
  s.done (s.blk.tcForward p seq twoStep corr rx tx)
def execAnnounceTimeout (p : Nat) (s : State) : Out := s.done (s.blk.annTimeout p)

end Sys2Proof.Machine
end

