-- ==== Sys2Proof/Machine/Effects.lean ====
section
/-! DEFINITION. Steps that reach several islands at once: the element tick, the publication of element states, the steps of a cycle,
and the steps after which the disturbance recorder observes its channels (01, 08, 11, 20 and 21 of the spec). -/

namespace Sys2Proof.Machine
open Sys2Proof

/-! ### The element tick (R16, R18, R170, R217) -/

/-- What the element engine takes of a detector group with the generation that closes at this tick; `e` is the epoch that ends. -/
def Det.gen (e : Nat) (g : Det) : DetGen :=
  { dmax := g.dmax, delta := g.delta, inc := g.inc, dir := if g.dirAt = some e then some g.dir else none }

/-- The detector data of the epoch that ends are latched from each group's published path, and the largest |Δ| begins anew on both. -/
def Block.latchDets (e : Nat) (b : Block) : Block :=
  { b with
    elm := { b.elm with dets := (List.range 40).foldl (fun t d => tset detGenD t d ((tget detD b.acc.det (dix (b.grpPath d) d)).gen e)) [] }
    acc := { b.acc with det := tmap detD b.acc.det fun _ g => { g with dmax := [] } } }

/-- ELEMENT_TICK: the clock reaches the issuing edge, the epoch advances, and every island latches; the settings parts of the backstop
whose CRC fails at this tick are given. -/
def Block.elementTick (cnv acc elm : Bool) (b : Block) : Block :=
  if !b.time.run then b
  else
    let b : Block := ({ b with time := b.time.tick } : Block).latchDets b.time.epoch
    let b : Block := { b.latchField with
      lgc := { b.lgc with stnSet := b.lgc.stns }
      sys := { b.sys with vanaQ := b.sys.rails.getD 3 false } }
    let b := if cnv then b.bsCrcFail 0 else b
    let b := if acc then b.bsCrcFail 1 else b
    let b := if elm then b.bsCrcFail 2 else b
    b.distTick.distObserve

/-! ### The publication (R18, R19, R320, R386) -/

/-- An FCSET or FCCLR takes effect (R320). -/
def BarSt.fcEffect (x : Staged) (r : BarSt) : BarSt :=
  match x with
  | .fcset i v => { r with counters := tupd counterD r.counters i fun c => { c with cmp := v } }
  | .fcclr i => { r with counters := tupd counterD r.counters i fun c => { c with count := 0, quest := false } }
  | _ => r

/-- OUTPUT_HALF_IN_FORCE of a slot, where its committed half is due: the buffers exchange roles. -/
def Block.halfInForce (s : Nat) (b : Block) : Block :=
  let y := b.slot s
  match y.waiting with
  | some h =>
    if h.at_ ≤ b.time.epoch then
      let b : Block := { b with bar := h.fc.foldl (fun r x => r.fcEffect x) b.bar }
      b.putSlot s { y with force := h.words, forceTag := h.tag, waiting := none }
    else b
  | none => b

/-- The slots whose committed half is due. -/
def Block.halvesDue (b : Block) : List Nat :=
  (List.range 8).filter fun s => match (b.slot s).waiting with | some h => decide (h.at_ ≤ b.time.epoch) | none => false

/-- ELEMENT_STATE_PUBLICATION, P(E): 23.4375 µs after tick E the states, the matrix and the readers switch to generation E, the barrier
command is formed anew, committed halves that are due come into force, and changed data sets are published (R18, R214). -/
def Block.publishStates (b : Block) : Block :=
  if b.elm.passEpoch ≠ some b.time.epoch then b
  else
    let b := b.runTo (b.edgeNow + 23437 * nsE + nsE / 2)
    let due := b.halvesDue
    let b : Block := { b with elm := { b.elm with
      prev := b.elm.pub, prevEpoch := b.elm.pubEpoch, pub := b.elm.states, pubEpoch := b.time.epoch, drive := b.elm.nextDrive
      passEpoch := none } }
    let b : Block := { b with
      wheel := { b.wheel with pub := b.wheel.timers, pubInc := b.time.freqTick }
      lgc := { b.lgc with slots := tupdAll slotD b.lgc.slots (List.range 8) fun _ y => { y with pubLast := y.last, pubTag := y.lastTag } } }
    ((due.foldl (fun (b : Block) s => b.halfInForce s) b).goosePublish due).snapCatch.distObserve

/-! ### Startup's last steps (R50) -/

/-- READY starts the disturbance recorder. -/
def Block.afterLogic (b : Block) : Block :=
  let b := b.logicSteps
  if b.sys.ready && !b.dist.run && b.spUp then b.distStart else b

/-- ELEMENT_PASS: pass E, 7.8125 µs after tick E and once in the epoch, on accumulator generation E; the first one ends the step at
300 ms and starts the slots (R18, R50, R57). -/
def Block.elementPass (b : Block) : Block :=
  if b.acc.cur.epoch ≠ b.time.epoch || b.elm.passEpoch = some b.time.epoch || (b.sys.elemRun && b.elm.pubEpoch = b.time.epoch) then b
  else
    let first := !b.sys.elemRun
    let b := (b.runTo (b.edgeNow + 7812 * nsE + nsE / 2)).pass
    if !b.sys.elemRun then b
    else if first then (b.reach 6).startSlots.afterLogic
    else b.afterLogic

/-! ### The recorder observes (R84, R97, R469, R472) -/

/-- WIRE_BREAK_EVALUATION: a break declared by it marks the recorder's sets from Tb on; the groups follow what the qualifier holds off
(R84, R206, R210). -/
def Block.wbObserve (n : Nat) (b : Block) : Block :=
  let was := (tget ainD b.cnv.ains n).broken
  let b := (b.wbEval n).groups
  match was, (tget ainD b.cnv.ains n).broken with
  | none, some tb => b.distBreak n tb
  | _, _ => b

/-- SEQUENCE_SET_EFFECT: a new P restarts the recorder's record. -/
def Block.seqObserve (b : Block) : Block :=
  let p := b.cnv.p
  let b := sequenceSetEffect b
  if b.cnv.p = p then b else b.distP

/-! ### Meanings -/

/-- ACC_GENERATION_PUBLISH: a snapshot that waits for the generation takes it (R18, R485). -/
def execAccGenerationPublish (s : State) : Out := s.done s.blk.publish.snapCatch
def execElementTick (cnvBad accBad elmBad : Bool) (s : State) : Out := s.done (s.blk.elementTick cnvBad accBad elmBad)
def execElementStatePublication (s : State) : Out := s.done s.blk.publishStates
def execElementPass (s : State) : Out := s.done s.blk.elementPass
def execCycleReadIn (slot : Nat) (s : State) : Out := s.done (s.blk.readIn slot).afterLogic
def execCycleWriteOut (slot : Nat) (pulseOk : Bool) (s : State) : Out := s.done (s.blk.writeOut slot pulseOk).afterLogic
def execTripInsertion (s : State) : Out := s.done s.blk.tripInsert.distObserve
def execUplinkRbFrame (rb : BitVec 32) (s : State) : Out := s.done (s.blk.upRb rb).distObserve
def execKeptConversion (p : Path) (k idx : Nat) (raw : BitVec 16) (s : State) : Out := s.done (s.blk.keptConv p k idx raw).distObserve
def execTakeSample (p : Path) (k : Nat) (s : State) : Out := s.done (s.blk.takeSample p k).dieRead.distObserve
def execTwGroupClose (bsd : Bool) (d : Nat) (s : State) : Out := s.done (s.blk.twClose bsd d).distObserve
def execTwDeadTimeEnd (bsd : Bool) (d : Nat) (s : State) : Out := s.done (s.blk.twDeadEnd bsd d).distObserve
def execIncReferenceRelease (bsd : Bool) (d : Nat) (s : State) : Out := s.done (s.blk.incRelease bsd d).distObserve
def execBackstopReload (aOk bOk : Bool) (s : State) : Out := s.done (s.blk.bsReload aOk bOk).distObserve
def execBackstopMinOnExpiry (j : Nat) (s : State) : Out := s.done (s.blk.minOnExpiry j).distObserve
def execBackstopCommitEffect (s : State) : Out := s.done (bstopEffect s.blk).distObserve
/-- STROBE_EDGE: a verdict that takes effect with it changes what the qualifier holds off (R117, R206, R210). -/
def execStrobeEdge (idx el : Nat) (s : State) : Out := s.done (s.blk.strobe idx el).groups
/-- INPUT_RECORD_EFFECT: the groups follow the inputs that it holds off or releases (R77, R206, R210). -/
def execInputRecordEffect (s : State) : Out := s.done (inputRecordEffect s.blk).groups
def execWireBreakEvaluation (n : Nat) (s : State) : Out := s.done (s.blk.wbObserve n).distObserve
def execSequenceSetEffect (s : State) : Out := s.done s.blk.seqObserve
/-- URGENT_TAKE_COMPLETE: a TEMP result is also a reading of the die temperature (R99, R102, R546). -/
def execUrgentTakeComplete (p : Path) (k : Nat) (s : State) : Out := s.done (s.blk.urgentDone p k).dieRead

end Sys2Proof.Machine
end

