-- ==== Sys2Proof/Machine/Dispatch.lean ====
section
/-! DEFINITION. The dispatch of every command to its meaning, one arm per constructor. -/

namespace Sys2Proof.Machine

/-- The effect of one command on the block; the queue's rest stays as it is. -/
def exec (i : Instr) (s : State) : Host.Outcome State Fault Refusal :=
  match i with
  | .porstNAssert => Sys2Proof.Machine.execPorstNAssert s
  | .porstNRelease hostSel clkSel => Sys2Proof.Machine.execPorstNRelease hostSel clkSel s
  | .bootRomComplete aOk bOk => Sys2Proof.Machine.execBootRomComplete aOk bOk s
  | .memorySelfTestComplete bad lost => Sys2Proof.Machine.execMemorySelfTestComplete bad lost s
  | .converterCalibrationComplete trims results => Sys2Proof.Machine.execConverterCalibrationComplete trims results s
  | .backstopArm aOk bOk => Sys2Proof.Machine.execBackstopArm aOk bOk s
  | .mailboxRootOpen => Sys2Proof.Machine.execMailboxRootOpen s
  | .elementTableLoad => Sys2Proof.Machine.execElementTableLoad s
  | .fabricClientsServed => Sys2Proof.Machine.execFabricClientsServed s
  | .admissionEnd p => Sys2Proof.Machine.execAdmissionEnd p s
  | .railOutOfWindow rail => Sys2Proof.Machine.execRailOutOfWindow rail s
  | .railReturn rail mV => Sys2Proof.Machine.execRailReturn rail mV s
  | .brownOut => Sys2Proof.Machine.execBrownOut s
  | .referenceLoss => Sys2Proof.Machine.execReferenceLoss s
  | .tim10mLoss => Sys2Proof.Machine.execTim10mLoss s
  | .pwrFailFall => Sys2Proof.Machine.execPwrFailFall s
  | .pwrFailRise => Sys2Proof.Machine.execPwrFailRise s
  | .shutdownFlushComplete res => Sys2Proof.Machine.execShutdownFlushComplete res s
  | .vfldLockoutEnter => Sys2Proof.Machine.execVfldLockoutEnter s
  | .vfldLockoutExit => Sys2Proof.Machine.execVfldLockoutExit s
  | .fieldPowerUp => Sys2Proof.Machine.execFieldPowerUp s
  | .recoveryReset => Sys2Proof.Machine.execRecoveryReset s
  | .elementTick cnvBad accBad elmBad => Sys2Proof.Machine.execElementTick cnvBad accBad elmBad s
  | .backstopReload aOk bOk => Sys2Proof.Machine.execBackstopReload aOk bOk s
  | .accGenerationPublish => Sys2Proof.Machine.execAccGenerationPublish s
  | .trackerNominalTimeout t => Sys2Proof.Machine.execTrackerNominalTimeout t s
  | .elementPass => Sys2Proof.Machine.execElementPass s
  | .elementStatePublication => Sys2Proof.Machine.execElementStatePublication s
  | .timerExpiry n => Sys2Proof.Machine.execTimerExpiry n s
  | .timerHoldExpiry n => Sys2Proof.Machine.execTimerHoldExpiry n s
  | .strobeEdge idx el => Sys2Proof.Machine.execStrobeEdge idx el s
  | .keptConversion p k idx raw => Sys2Proof.Machine.execKeptConversion p k idx raw s
  | .takeSample p k => Sys2Proof.Machine.execTakeSample p k s
  | .twGroupClose bsd d => Sys2Proof.Machine.execTwGroupClose bsd d s
  | .twDeadTimeEnd bsd d => Sys2Proof.Machine.execTwDeadTimeEnd bsd d s
  | .incReferenceRelease bsd d => Sys2Proof.Machine.execIncReferenceRelease bsd d s
  | .backstopMinOnExpiry j => Sys2Proof.Machine.execBackstopMinOnExpiry j s
  | .tripInsertion => Sys2Proof.Machine.execTripInsertion s
  | .wireBreakEvaluation n => Sys2Proof.Machine.execWireBreakEvaluation n s
  | .recorderIntervalEnd => Sys2Proof.Machine.execRecorderIntervalEnd s
  | .svIntervalEnd rate => Sys2Proof.Machine.execSvIntervalEnd rate s
  | .urgentRequestStart p k idx => Sys2Proof.Machine.execUrgentRequestStart p k idx s
  | .urgentTakeComplete p k => Sys2Proof.Machine.execUrgentTakeComplete p k s
  | .housekeepingRound p => Sys2Proof.Machine.execHousekeepingRound p s
  | .converterSelfTestStart k => Sys2Proof.Machine.execConverterSelfTestStart k s
  | .converterSelfTestVerdict k el => Sys2Proof.Machine.execConverterSelfTestVerdict k el s
  | .disputedClear k => Sys2Proof.Machine.execDisputedClear k s
  | .returningEnd k => Sys2Proof.Machine.execReturningEnd k s
  | .cycleReadIn slot => Sys2Proof.Machine.execCycleReadIn slot s
  | .cycleWriteOut slot pulseOk => Sys2Proof.Machine.execCycleWriteOut slot pulseOk s
  | .kettleFire slot => Sys2Proof.Machine.execKettleFire slot s
  | .armDelayExpiry slot => Sys2Proof.Machine.execArmDelayExpiry slot s
  | .taskSwitch slot => Sys2Proof.Machine.execTaskSwitch slot s
  | .lockstepMismatch p => Sys2Proof.Machine.execLockstepMismatch p s
  | .delayParityError p => Sys2Proof.Machine.execDelayParityError p s
  | .pairEccUncorrectable p => Sys2Proof.Machine.execPairEccUncorrectable p s
  | .pairEccCorrected p => Sys2Proof.Machine.execPairEccCorrected p s
  | .pairSelfTestVerdict p failed => Sys2Proof.Machine.execPairSelfTestVerdict p failed s
  | .spareLoadComplete p => Sys2Proof.Machine.execSpareLoadComplete p s
  | .sparePulseTest p ok => Sys2Proof.Machine.execSparePulseTest p ok s
  | .spareSelfTest p ok => Sys2Proof.Machine.execSpareSelfTest p ok s
  | .takeoverImageLoaded slot => Sys2Proof.Machine.execTakeoverImageLoaded slot s
  | .takeoverDataCopied slot => Sys2Proof.Machine.execTakeoverDataCopied slot s
  | .fjNop slot => Sys2Proof.Machine.execFjNop slot s
  | .fjEnd slot => Sys2Proof.Machine.execFjEnd slot s
  | .fjTrap slot k => Sys2Proof.Machine.execFjTrap slot k s
  | .fjIllegalOpcode slot escape => Sys2Proof.Machine.execFjIllegalOpcode slot escape s
  | .fjLock slot => Sys2Proof.Machine.execFjLock slot s
  | .fjUnlock slot => Sys2Proof.Machine.execFjUnlock slot s
  | .fjCall slot a => Sys2Proof.Machine.execFjCall slot a s
  | .fjRet slot => Sys2Proof.Machine.execFjRet slot s
  | .fjJmp slot r => Sys2Proof.Machine.execFjJmp slot r s
  | .fjJt slot c r => Sys2Proof.Machine.execFjJt slot c r s
  | .fjJf slot c r => Sys2Proof.Machine.execFjJf slot c r s
  | .fjDjnz slot u r => Sys2Proof.Machine.execFjDjnz slot u r s
  | .fjLd slot d as_ => Sys2Proof.Machine.execFjLd slot d as_ s
  | .fjLd2 slot d as_ => Sys2Proof.Machine.execFjLd2 slot d as_ s
  | .fjSt slot ad v => Sys2Proof.Machine.execFjSt slot ad v s
  | .fjSt2 slot ad v => Sys2Proof.Machine.execFjSt2 slot ad v s
  | .fjLdx slot d as_ ix => Sys2Proof.Machine.execFjLdx slot d as_ ix s
  | .fjStx slot ad ix v => Sys2Proof.Machine.execFjStx slot ad ix v s
  | .fjLdb slot d as_ b5 => Sys2Proof.Machine.execFjLdb slot d as_ b5 s
  | .fjStb slot ad b5 v => Sys2Proof.Machine.execFjStb slot ad b5 v s
  | .fjMov slot d a => Sys2Proof.Machine.execFjMov slot d a s
  | .fjLdk slot d k => Sys2Proof.Machine.execFjLdk slot d k s
  | .fjLdk8 slot d k => Sys2Proof.Machine.execFjLdk8 slot d k s
  | .fjLdkh slot d k => Sys2Proof.Machine.execFjLdkh slot d k s
  | .fjAdd slot d a b => Sys2Proof.Machine.execFjAdd slot d a b s
  | .fjSub slot d a b => Sys2Proof.Machine.execFjSub slot d a b s
  | .fjMul slot d a b => Sys2Proof.Machine.execFjMul slot d a b s
  | .fjDiv slot d a b => Sys2Proof.Machine.execFjDiv slot d a b s
  | .fjRem slot d a b => Sys2Proof.Machine.execFjRem slot d a b s
  | .fjNeg slot d a => Sys2Proof.Machine.execFjNeg slot d a s
  | .fjAbs slot d a => Sys2Proof.Machine.execFjAbs slot d a s
  | .fjMin slot d a b => Sys2Proof.Machine.execFjMin slot d a b s
  | .fjMax slot d a b => Sys2Proof.Machine.execFjMax slot d a b s
  | .fjAnd slot d a b => Sys2Proof.Machine.execFjAnd slot d a b s
  | .fjOr slot d a b => Sys2Proof.Machine.execFjOr slot d a b s
  | .fjXor slot d a b => Sys2Proof.Machine.execFjXor slot d a b s
  | .fjNot slot d a => Sys2Proof.Machine.execFjNot slot d a s
  | .fjShl slot d a b => Sys2Proof.Machine.execFjShl slot d a b s
  | .fjShr slot d a b => Sys2Proof.Machine.execFjShr slot d a b s
  | .fjAddk slot d a k => Sys2Proof.Machine.execFjAddk slot d a k s
  | .fjFadd slot d a b => Sys2Proof.Machine.execFjFadd slot d a b s
  | .fjFsub slot d a b => Sys2Proof.Machine.execFjFsub slot d a b s
  | .fjFmul slot d a b => Sys2Proof.Machine.execFjFmul slot d a b s
  | .fjFdiv slot d a b => Sys2Proof.Machine.execFjFdiv slot d a b s
  | .fjFma slot d a b c => Sys2Proof.Machine.execFjFma slot d a b c s
  | .fjFsqrt slot d a => Sys2Proof.Machine.execFjFsqrt slot d a s
  | .fjFneg slot d a => Sys2Proof.Machine.execFjFneg slot d a s
  | .fjFabs slot d a => Sys2Proof.Machine.execFjFabs slot d a s
  | .fjFmin slot d a b => Sys2Proof.Machine.execFjFmin slot d a b s
  | .fjFmax slot d a b => Sys2Proof.Machine.execFjFmax slot d a b s
  | .fjFrnd slot d a => Sys2Proof.Machine.execFjFrnd slot d a s
  | .fjCvt slot d a => Sys2Proof.Machine.execFjCvt slot d a s
  | .fjCmp slot d a b cond => Sys2Proof.Machine.execFjCmp slot d a b cond s
  | .fjBand slot d a b => Sys2Proof.Machine.execFjBand slot d a b s
  | .fjBor slot d a b => Sys2Proof.Machine.execFjBor slot d a b s
  | .fjBxor slot d a b => Sys2Proof.Machine.execFjBxor slot d a b s
  | .fjBnot slot d a => Sys2Proof.Machine.execFjBnot slot d a s
  | .fjSel slot d c a b => Sys2Proof.Machine.execFjSel slot d c a b s
  | .fjLim slot d a lo hi => Sys2Proof.Machine.execFjLim slot d a lo hi s
  | .fjTstq slot d q k => Sys2Proof.Machine.execFjTstq slot d q k s
  | .fjEdgr slot d a m => Sys2Proof.Machine.execFjEdgr slot d a m s
  | .fjEdgf slot d a m => Sys2Proof.Machine.execFjEdgf slot d a m s
  | .fjEdgb slot d a m => Sys2Proof.Machine.execFjEdgb slot d a m s
  | .fjSr slot q m r => Sys2Proof.Machine.execFjSr slot q m r s
  | .fjRs slot q m r => Sys2Proof.Machine.execFjRs slot q m r s
  | .fjTstart slot t a => Sys2Proof.Machine.execFjTstart slot t a s
  | .fjTstartp slot t a => Sys2Proof.Machine.execFjTstartp slot t a s
  | .fjTstartw slot t => Sys2Proof.Machine.execFjTstartw slot t s
  | .fjTcancel slot t => Sys2Proof.Machine.execFjTcancel slot t s
  | .fjTpause slot t a => Sys2Proof.Machine.execFjTpause slot t a s
  | .fjTresume slot t => Sys2Proof.Machine.execFjTresume slot t s
  | .fjTread slot d t sel => Sys2Proof.Machine.execFjTread slot d t sel s
  | .fjTon slot d t ix p => Sys2Proof.Machine.execFjTon slot d t ix p s
  | .fjTnow slot d => Sys2Proof.Machine.execFjTnow slot d s
  | .fjWnow slot d => Sys2Proof.Machine.execFjWnow slot d s
  | .fjCtu slot c ix m => Sys2Proof.Machine.execFjCtu slot c ix m s
  | .fjCtd slot c ix m => Sys2Proof.Machine.execFjCtd slot c ix m s
  | .fjGath slot m ad as_ ax => Sys2Proof.Machine.execFjGath slot m ad as_ ax s
  | .fjScat slot ad as_ ax => Sys2Proof.Machine.execFjScat slot ad as_ ax s
  | .fjBmov slot ad as_ n => Sys2Proof.Machine.execFjBmov slot ad as_ n s
  | .fjCurv slot ad as_ at_ n => Sys2Proof.Machine.execFjCurv slot ad as_ at_ n s
  | .fjSumv slot d as_ n => Sys2Proof.Machine.execFjSumv slot d as_ n s
  | .fjPmake slot d re im => Sys2Proof.Machine.execFjPmake slot d re im s
  | .fjPpol slot d m g => Sys2Proof.Machine.execFjPpol slot d m g s
  | .fjPre slot d a => Sys2Proof.Machine.execFjPre slot d a s
  | .fjPim slot d a => Sys2Proof.Machine.execFjPim slot d a s
  | .fjPmag slot d a => Sys2Proof.Machine.execFjPmag slot d a s
  | .fjPang slot d a => Sys2Proof.Machine.execFjPang slot d a s
  | .fjPadd slot d a b => Sys2Proof.Machine.execFjPadd slot d a b s
  | .fjPsub slot d a b => Sys2Proof.Machine.execFjPsub slot d a b s
  | .fjPmul slot d a b => Sys2Proof.Machine.execFjPmul slot d a b s
  | .fjPdiv slot d a b => Sys2Proof.Machine.execFjPdiv slot d a b s
  | .fjPconj slot d a => Sys2Proof.Machine.execFjPconj slot d a s
  | .fjPscl slot d a r => Sys2Proof.Machine.execFjPscl slot d a r s
  | .fjProt slot d a g => Sys2Proof.Machine.execFjProt slot d a g s
  | .fjPseq slot d a b c k => Sys2Proof.Machine.execFjPseq slot d a b c k s
  | .fjFln slot d a => Sys2Proof.Machine.execFjFln slot d a s
  | .fjFexp slot d a => Sys2Proof.Machine.execFjFexp slot d a s
  | .fjFpow slot d a b => Sys2Proof.Machine.execFjFpow slot d a b s
  | .fjFlgrd slot d => Sys2Proof.Machine.execFjFlgrd slot d s
  | .fjFlgclr slot k => Sys2Proof.Machine.execFjFlgclr slot k s
  | .fjTena slot k => Sys2Proof.Machine.execFjTena slot k s
  | .fjTdis slot k => Sys2Proof.Machine.execFjTdis slot k s
  | .fjTkick slot k => Sys2Proof.Machine.execFjTkick slot k s
  | .fjFrec slot d k sel => Sys2Proof.Machine.execFjFrec slot d k sel s
  | .fjFcrd slot d k sel => Sys2Proof.Machine.execFjFcrd slot d k sel s
  | .fjFcset slot k a => Sys2Proof.Machine.execFjFcset slot k a s
  | .fjFcclr slot k => Sys2Proof.Machine.execFjFcclr slot k s
  | .fjCtlrd slot d o sel => Sys2Proof.Machine.execFjCtlrd slot d o sel s
  | .fjCtlack slot o a => Sys2Proof.Machine.execFjCtlack slot o a s
  | .fjCtlop slot o a cls => Sys2Proof.Machine.execFjCtlop slot o a cls s
  | .fjEvt slot a k => Sys2Proof.Machine.execFjEvt slot a k s
  | .gooseFrameReceived h f => Sys2Proof.Machine.execGooseFrameReceived h f s
  | .svFrameReceived h f => Sys2Proof.Machine.execSvFrameReceived h f s
  | .stationMiss k => Sys2Proof.Machine.execStationMiss k s
  | .gooseRetransmit k => Sys2Proof.Machine.execGooseRetransmit k s
  | .timedLaunch p => Sys2Proof.Machine.execTimedLaunch p s
  | .diChangeAccepted ix level ft => Sys2Proof.Machine.execDiChangeAccepted ix level ft s
  | .wettingEnd ix ft => Sys2Proof.Machine.execWettingEnd ix ft s
  | .fastInputEdge ix level ft => Sys2Proof.Machine.execFastInputEdge ix level ft s
  | .outputOvercurrentOnset j ft => Sys2Proof.Machine.execOutputOvercurrentOnset j ft s
  | .peakPhaseEnd j ft below => Sys2Proof.Machine.execPeakPhaseEnd j ft below s
  | .foldbackStart j ft below => Sys2Proof.Machine.execFoldbackStart j ft below s
  | .retryPulse j => Sys2Proof.Machine.execRetryPulse j s
  | .retryPulseEnd j ft above => Sys2Proof.Machine.execRetryPulseEnd j ft above s
  | .overloadClear j ft => Sys2Proof.Machine.execOverloadClear j ft s
  | .overtempEnter j => Sys2Proof.Machine.execOvertempEnter j s
  | .thermalShutdown j => Sys2Proof.Machine.execThermalShutdown j s
  | .thermalRecovery j => Sys2Proof.Machine.execThermalRecovery j s
  | .openWireTest j above => Sys2Proof.Machine.execOpenWireTest j above s
  | .backfeedDetect j => Sys2Proof.Machine.execBackfeedDetect j s
  | .downlinkFrame ft => Sys2Proof.Machine.execDownlinkFrame ft s
  | .downlinkAbort ft => Sys2Proof.Machine.execDownlinkAbort ft s
  | .badDownlinkFrame => Sys2Proof.Machine.execBadDownlinkFrame s
  | .silenceExpiry ft => Sys2Proof.Machine.execSilenceExpiry ft s
  | .uplinkDiFrame => Sys2Proof.Machine.execUplinkDiFrame s
  | .uplinkRbFrame rb => Sys2Proof.Machine.execUplinkRbFrame rb s
  | .auxIdle => Sys2Proof.Machine.execAuxIdle s
  | .auxEdges => Sys2Proof.Machine.execAuxEdges s
  | .auxDiag j cur => Sys2Proof.Machine.execAuxDiag j cur s
  | .auxTime ft => Sys2Proof.Machine.execAuxTime ft s
  | .auxStatus vfld temp => Sys2Proof.Machine.execAuxStatus vfld temp s
  | .auxCfgecho a => Sys2Proof.Machine.execAuxCfgecho a s
  | .badUplinkFrame aux => Sys2Proof.Machine.execBadUplinkFrame aux s
  | .uplinkLoss => Sys2Proof.Machine.execUplinkLoss s
  | .cfgechoMismatch a => Sys2Proof.Machine.execCfgechoMismatch a s
  | .linkDelayMeasured ns => Sys2Proof.Machine.execLinkDelayMeasured ns s
  | .fieldEdgeDiscard ft => Sys2Proof.Machine.execFieldEdgeDiscard ft s
  | .edgeFifoDrain => Sys2Proof.Machine.execEdgeFifoDrain s
  | .edgePopRead tongs => Sys2Proof.Machine.execEdgePopRead tongs s
  | .dropCounterRead tongs => Sys2Proof.Machine.execDropCounterRead tongs s
  | .incTransfer v => Sys2Proof.Machine.execIncTransfer v s
  | .timeStepGo abs => Sys2Proof.Machine.execTimeStepGo abs s
  | .tcNsRead tongs => Sys2Proof.Machine.execTcNsRead tongs s
  | .timeNsRead tongs => Sys2Proof.Machine.execTimeNsRead tongs s
  | .epochLoRead tongs => Sys2Proof.Machine.execEpochLoRead tongs s
  | .timSourceSelect ref => Sys2Proof.Machine.execTimSourceSelect ref s
  | .incSlewLapse => Sys2Proof.Machine.execIncSlewLapse s
  | .ptpSync p domain seq twoStep origin corr => Sys2Proof.Machine.execPtpSync p domain seq twoStep origin corr s
  | .ptpFollowUp p domain seq origin corr => Sys2Proof.Machine.execPtpFollowUp p domain seq origin corr s
  | .ptpAnnounce p domain a => Sys2Proof.Machine.execPtpAnnounce p domain a s
  | .ptpPdelayReq p domain seq requester => Sys2Proof.Machine.execPtpPdelayReq p domain seq requester s
  | .ptpPdelayResp p domain seq reqRx respTx corr => Sys2Proof.Machine.execPtpPdelayResp p domain seq reqRx respTx corr s
  | .ptpUnsupported p => Sys2Proof.Machine.execPtpUnsupported p s
  | .ptpTransmitInterval p k => Sys2Proof.Machine.execPtpTransmitInterval p k s
  | .transparentClockForward p seq twoStep corr rx tx => Sys2Proof.Machine.execTransparentClockForward p seq twoStep corr rx tx s
  | .announceTimeout p => Sys2Proof.Machine.execAnnounceTimeout p s
  | .holdoverExpiry => Sys2Proof.Machine.execHoldoverExpiry s
  | .steppedTimeout => Sys2Proof.Machine.execSteppedTimeout s
  | .estRecompute => Sys2Proof.Machine.execEstRecompute s
  | .stampInterrupt wait => Sys2Proof.Machine.execStampInterrupt wait s
  | .portBeacon port ncount => Sys2Proof.Machine.execPortBeacon port ncount s
  | .ppsPulse => Sys2Proof.Machine.execPpsPulse s
  | .ppsPulseEnd => Sys2Proof.Machine.execPpsPulseEnd s
  | .linkUp p => Sys2Proof.Machine.execLinkUp p s
  | .linkDown p => Sys2Proof.Machine.execLinkDown p s
  | .rxBadFrame p long => Sys2Proof.Machine.execRxBadFrame p long s
  | .rxUnsupportedFrame h => Sys2Proof.Machine.execRxUnsupportedFrame h s
  | .pauseFrame p => Sys2Proof.Machine.execPauseFrame p s
  | .prpSupervisionRx h => Sys2Proof.Machine.execPrpSupervisionRx h s
  | .prpSupervisionTx pair => Sys2Proof.Machine.execPrpSupervisionTx pair s
  | .prpPortLost p => Sys2Proof.Machine.execPrpPortLost p s
  | .dupEntryExpiry pair => Sys2Proof.Machine.execDupEntryExpiry pair s
  | .hsrForward h own sup mine => Sys2Proof.Machine.execHsrForward h own sup mine s
  | .hsrSupervisionTx pair => Sys2Proof.Machine.execHsrSupervisionTx pair s
  | .hsrRingOpen p => Sys2Proof.Machine.execHsrRingOpen p s
  | .helloSend => Sys2Proof.Machine.execHelloSend s
  | .helloReceived h x => Sys2Proof.Machine.execHelloReceived h x s
  | .conflictBlockEnd => Sys2Proof.Machine.execConflictBlockEnd s
  | .pendingAdmission => Sys2Proof.Machine.execPendingAdmission s
  | .probationEnd addr l => Sys2Proof.Machine.execProbationEnd addr l s
  | .neighbourSilent addr l => Sys2Proof.Machine.execNeighbourSilent addr l s
  | .neighbourEntryFree addr l => Sys2Proof.Machine.execNeighbourEntryFree addr l s
  | .ownProbationEnd => Sys2Proof.Machine.execOwnProbationEnd s
  | .fabricUnicastFrame h f body => Sys2Proof.Machine.execFabricUnicastFrame h f body s
  | .fabricBroadcastFrame h f body => Sys2Proof.Machine.execFabricBroadcastFrame h f body s
  | .segmentReassemblyTimeout => Sys2Proof.Machine.execSegmentReassemblyTimeout s
  | .protectionSignalRx => Sys2Proof.Machine.execProtectionSignalRx s
  | .twRecordSend => Sys2Proof.Machine.execTwRecordSend s
  | .twRecordRx => Sys2Proof.Machine.execTwRecordRx s
  | .twPairWaitExpiry => Sys2Proof.Machine.execTwPairWaitExpiry s
  | .fabricWhiskRx => Sys2Proof.Machine.execFabricWhiskRx s
  | .fabricWhiskAnswer => Sys2Proof.Machine.execFabricWhiskAnswer s
  | .fabricWhiskWaitEnd => Sys2Proof.Machine.execFabricWhiskWaitEnd s
  | .chainStartRx => Sys2Proof.Machine.execChainStartRx s
  | .chainDataRx => Sys2Proof.Machine.execChainDataRx s
  | .chainAckRx => Sys2Proof.Machine.execChainAckRx s
  | .chainResend => Sys2Proof.Machine.execChainResend s
  | .sessionOpenRx => Sys2Proof.Machine.execSessionOpenRx s
  | .sessionOpenReplyRx => Sys2Proof.Machine.execSessionOpenReplyRx s
  | .sessionRequestRx => Sys2Proof.Machine.execSessionRequestRx s
  | .sessionResponseRx => Sys2Proof.Machine.execSessionResponseRx s
  | .sessionCloseRx => Sys2Proof.Machine.execSessionCloseRx s
  | .sessionIdleClose c => Sys2Proof.Machine.execSessionIdleClose c s
  | .fabCallTimeout => Sys2Proof.Machine.execFabCallTimeout s
  | .doorbellWrite c v => Sys2Proof.Machine.execDoorbellWrite c v s
  | .ringReset c => Sys2Proof.Machine.execRingReset c s
  | .pciePerst => Sys2Proof.Machine.execPciePerst s
  | .pcieLinkStateChange up speed width => Sys2Proof.Machine.execPcieLinkStateChange up speed width s
  | .requestAccept => Sys2Proof.Machine.execRequestAccept s
  | .responseRingRoom c => Sys2Proof.Machine.execResponseRingRoom c s
  | .vectorSignal v => Sys2Proof.Machine.execVectorSignal v s
  | .bar0AccessError => Sys2Proof.Machine.execBar0AccessError s
  | .qspiRead a n cut => Sys2Proof.Machine.execQspiRead a n cut s
  | .qspiWrite a l cut => Sys2Proof.Machine.execQspiWrite a l cut s
  | .qspiStatus => Sys2Proof.Machine.execQspiStatus s
  | .qspiInvalidOpcode _op => Sys2Proof.Machine.execQspiInvalidOpcode _op s
  | .registerWrite sp o v => Sys2Proof.Machine.execRegisterWrite sp o v s
  | .whiskFireWrite v => Sys2Proof.Machine.execWhiskFireWrite v s
  | .whiskArmWrite v => Sys2Proof.Machine.execWhiskArmWrite v s
  | .whiskDisarmWrite v => Sys2Proof.Machine.execWhiskDisarmWrite v s
  | .whiskInEdge => Sys2Proof.Machine.execWhiskInEdge s
  | .whiskCompareFire => Sys2Proof.Machine.execWhiskCompareFire s
  | .snapshotComplete => Sys2Proof.Machine.execSnapshotComplete s
  | .whiskOutEnd => Sys2Proof.Machine.execWhiskOutEnd s
  | .dbgaccAccess a write w => Sys2Proof.Machine.execDbgaccAccess a write w s
  | .sysInfo r => Sys2Proof.Machine.execSysInfo r s
  | .sysClient r => Sys2Proof.Machine.execSysClient r s
  | .sysArm r => Sys2Proof.Machine.execSysArm r s
  | .sysShutdown r => Sys2Proof.Machine.execSysShutdown r s
  | .sysBstopRead r => Sys2Proof.Machine.execSysBstopRead r s
  | .sysBstopStage r => Sys2Proof.Machine.execSysBstopStage r s
  | .sysBstopCommit r => Sys2Proof.Machine.execSysBstopCommit r s
  | .sysBstopState r => Sys2Proof.Machine.execSysBstopState r s
  | .backstopCommitEffect => Sys2Proof.Machine.execBackstopCommitEffect s
  | .sysLadleRead r => Sys2Proof.Machine.execSysLadleRead r s
  | .sysLadleWrite r => Sys2Proof.Machine.execSysLadleWrite r s
  | .sysLadleAbort r moved => Sys2Proof.Machine.execSysLadleAbort r moved s
  | .ladleTransferEnd c seq d => Sys2Proof.Machine.execLadleTransferEnd c seq d s
  | .ladleBusError c seq moved => Sys2Proof.Machine.execLadleBusError c seq moved s
  | .sysNop r => Sys2Proof.Machine.execSysNop r s
  | .cnvInput r => Sys2Proof.Machine.execCnvInput r s
  | .inputRecordEffect => Sys2Proof.Machine.execInputRecordEffect s
  | .cnvSeq r => Sys2Proof.Machine.execCnvSeq r s
  | .sequenceSetEffect => Sys2Proof.Machine.execSequenceSetEffect s
  | .cnvUrgent r => Sys2Proof.Machine.execCnvUrgent r s
  | .cnvHouse r => Sys2Proof.Machine.execCnvHouse r s
  | .houseEffect => Sys2Proof.Machine.execHouseEffect s
  | .cnvPlaus r => Sys2Proof.Machine.execCnvPlaus r s
  | .plausEffect => Sys2Proof.Machine.execPlausEffect s
  | .cnvTwinRead r => Sys2Proof.Machine.execCnvTwinRead r s
  | .cnvTwinTest r => Sys2Proof.Machine.execCnvTwinTest r s
  | .cnvTwinReturn r => Sys2Proof.Machine.execCnvTwinReturn r s
  | .accRead r => Sys2Proof.Machine.execAccRead r s
  | .accMm r => Sys2Proof.Machine.execAccMm r s
  | .holdSwapEffect => Sys2Proof.Machine.execHoldSwapEffect s
  | .accFreq r => Sys2Proof.Machine.execAccFreq r s
  | .accTrack r => Sys2Proof.Machine.execAccTrack r s
  | .trackEffect => Sys2Proof.Machine.execTrackEffect s
  | .accTd r => Sys2Proof.Machine.execAccTd r s
  | .tdEffect => Sys2Proof.Machine.execTdEffect s
  | .accTw r => Sys2Proof.Machine.execAccTw r s
  | .elemTableWrite r => Sys2Proof.Machine.execElemTableWrite r s
  | .elemTableCopy r => Sys2Proof.Machine.execElemTableCopy r s
  | .elemTableRead r => Sys2Proof.Machine.execElemTableRead r s
  | .elemCurve r => Sys2Proof.Machine.execElemCurve r s
  | .elemSwap r => Sys2Proof.Machine.execElemSwap r s
  | .elementSwapEffect => Sys2Proof.Machine.execElementSwapEffect s
  | .elemRead r => Sys2Proof.Machine.execElemRead r s
  | .elemReset r => Sys2Proof.Machine.execElemReset r s
  | .latchClearEffect => Sys2Proof.Machine.execLatchClearEffect s
  | .cycLoadCheck r => Sys2Proof.Machine.execCycLoadCheck r s
  | .cycLoadRead r => Sys2Proof.Machine.execCycLoadRead r s
  | .cycActivate r => Sys2Proof.Machine.execCycActivate r s
  | .imageTakeover slot => Sys2Proof.Machine.execImageTakeover slot s
  | .cycRestart r => Sys2Proof.Machine.execCycRestart r s
  | .cycServiceEnter r => Sys2Proof.Machine.execCycServiceEnter r s
  | .cycServiceExit r => Sys2Proof.Machine.execCycServiceExit r s
  | .cycState r => Sys2Proof.Machine.execCycState r s
  | .imgRead r => Sys2Proof.Machine.execImgRead r s
  | .imgStation r => Sys2Proof.Machine.execImgStation r s
  | .ioCfg r => Sys2Proof.Machine.execIoCfg r s
  | .ioCfgEffect => Sys2Proof.Machine.execIoCfgEffect s
  | .ioRead r => Sys2Proof.Machine.execIoRead r s
  | .ioEdges r => Sys2Proof.Machine.execIoEdges r s
  | .timeReadNow r => Sys2Proof.Machine.execTimeReadNow r s
  | .timeReadTick r => Sys2Proof.Machine.execTimeReadTick r s
  | .timeCfg r => Sys2Proof.Machine.execTimeCfg r s
  | .timeCfgEffect => Sys2Proof.Machine.execTimeCfgEffect s
  | .timeSet r => Sys2Proof.Machine.execTimeSet r s
  | .timeSetEffect => Sys2Proof.Machine.execTimeSetEffect s
  | .timePtp r => Sys2Proof.Machine.execTimePtp r s
  | .netCfg r => Sys2Proof.Machine.execNetCfg r s
  | .netCfgEffect => Sys2Proof.Machine.execNetCfgEffect s
  | .netStat r => Sys2Proof.Machine.execNetStat r s
  | .fabCfg r => Sys2Proof.Machine.execFabCfg r s
  | .fabCfgEffect => Sys2Proof.Machine.execFabCfgEffect s
  | .fabRouteWrite r => Sys2Proof.Machine.execFabRouteWrite r s
  | .fabRouteUnpin r => Sys2Proof.Machine.execFabRouteUnpin r s
  | .fabRouteRead r => Sys2Proof.Machine.execFabRouteRead r s
  | .fabInvalidate r => Sys2Proof.Machine.execFabInvalidate r s
  | .fabNbr r => Sys2Proof.Machine.execFabNbr r s
  | .fabStat r => Sys2Proof.Machine.execFabStat r s
  | .fabSig r => Sys2Proof.Machine.execFabSig r s
  | .fabTw r => Sys2Proof.Machine.execFabTw r s
  | .fabTwEffect => Sys2Proof.Machine.execFabTwEffect s
  | .fabTwloc r => Sys2Proof.Machine.execFabTwloc r s
  | .fabWhisk r => Sys2Proof.Machine.execFabWhisk r s
  | .fabCall r => Sys2Proof.Machine.execFabCall r s
  | .fabAccess r => Sys2Proof.Machine.execFabAccess r s
  | .recNotes r => Sys2Proof.Machine.execRecNotes r s
  | .recCode r => Sys2Proof.Machine.execRecCode r s
  | .recIndex r => Sys2Proof.Machine.execRecIndex r s
  | .recCfg r => Sys2Proof.Machine.execRecCfg r s
  | .recCfgEffect => Sys2Proof.Machine.execRecCfgEffect s
  | .colanderRefill => Sys2Proof.Machine.execColanderRefill s
  | .hourlySummary => Sys2Proof.Machine.execHourlySummary s
  | .distCfg r => Sys2Proof.Machine.execDistCfg r s
  | .distCfgEffect => Sys2Proof.Machine.execDistCfgEffect s
  | .distTrigger r => Sys2Proof.Machine.execDistTrigger r s
  | .distList r => Sys2Proof.Machine.execDistList r s
  | .distKeep r => Sys2Proof.Machine.execDistKeep r s
  | .distRelease r => Sys2Proof.Machine.execDistRelease r s
  | .distDelete r => Sys2Proof.Machine.execDistDelete r s
  | .recordClose => Sys2Proof.Machine.execRecordClose s
  | .recordComplete => Sys2Proof.Machine.execRecordComplete s
  | .snapInfo r => Sys2Proof.Machine.execSnapInfo r s
  | .snapRead r => Sys2Proof.Machine.execSnapRead r s
  | .snapRelease r => Sys2Proof.Machine.execSnapRelease r s
  | .snapFire r => Sys2Proof.Machine.execSnapFire r s
  | .updBegin r => Sys2Proof.Machine.execUpdBegin r s
  | .updAbort r => Sys2Proof.Machine.execUpdAbort r s
  | .updFlash r => Sys2Proof.Machine.execUpdFlash r s
  | .updChain r => Sys2Proof.Machine.execUpdChain r s
  | .updActivate r => Sys2Proof.Machine.execUpdActivate r s
  | .imageVerifyComplete ok => Sys2Proof.Machine.execImageVerifyComplete ok s
  | .imageDecryptComplete ok => Sys2Proof.Machine.execImageDecryptComplete ok s
  | .blobCheckComplete => Sys2Proof.Machine.execBlobCheckComplete s
  | .spHandover us => Sys2Proof.Machine.execSpHandover us s
  | .rollingSlotMove slot => Sys2Proof.Machine.execRollingSlotMove slot s
  | .rollEnd => Sys2Proof.Machine.execRollEnd s
  | .updConfirm r => Sys2Proof.Machine.execUpdConfirm r s
  | .updState r => Sys2Proof.Machine.execUpdState r s
  | .updKey r => Sys2Proof.Machine.execUpdKey r s
  | .backgroundEraseComplete dev sector ok => Sys2Proof.Machine.execBackgroundEraseComplete dev sector ok s
  | .journalCompaction prot copy sectors => Sys2Proof.Machine.execJournalCompaction prot copy sectors s
  | .diagWheelSummary r => Sys2Proof.Machine.execDiagWheelSummary r s
  | .diagWheelRead r => Sys2Proof.Machine.execDiagWheelRead r s
  | .diagTongs r => Sys2Proof.Machine.execDiagTongs r s
  | .diagDebug r => Sys2Proof.Machine.execDiagDebug r s
  | .diagShadow r => Sys2Proof.Machine.execDiagShadow r s
  | .diagHalt r => Sys2Proof.Machine.execDiagHalt r s
  | .diagStep r => Sys2Proof.Machine.execDiagStep r s
  | .diagResume r => Sys2Proof.Machine.execDiagResume r s
  | .diagBreakpoint r => Sys2Proof.Machine.execDiagBreakpoint r s
  | .diagCtx r => Sys2Proof.Machine.execDiagCtx r s
  | .diagRoute r => Sys2Proof.Machine.execDiagRoute r s
  | .routeEffect => Sys2Proof.Machine.execRouteEffect s
  | .diagFaults r => Sys2Proof.Machine.execDiagFaults r s
  | .ctlSelect r => Sys2Proof.Machine.execCtlSelect r s
  | .ctlOperate r => Sys2Proof.Machine.execCtlOperate r s
  | .ctlCancel r => Sys2Proof.Machine.execCtlCancel r s
  | .ctlRead r => Sys2Proof.Machine.execCtlRead r s
  | .controlArbitration => Sys2Proof.Machine.execControlArbitration s
  | .selectionLapse slot ix => Sys2Proof.Machine.execSelectionLapse slot ix s
  | .controlAnswerTimeout slot ix => Sys2Proof.Machine.execControlAnswerTimeout slot ix s
  | .memoryScrubError h corrected => Sys2Proof.Machine.execMemoryScrubError h corrected s
  | .rowMarchTestComplete mem row ok => Sys2Proof.Machine.execRowMarchTestComplete mem row ok s
  | .descriptorRepair ix => Sys2Proof.Machine.execDescriptorRepair ix s
  | .timerMemoryError n row => Sys2Proof.Machine.execTimerMemoryError n row s
  | .slotStoreError slot row image => Sys2Proof.Machine.execSlotStoreError slot row image s
  | .lpddrError u => Sys2Proof.Machine.execLpddrError u s
  | .microcodeReloadComplete => Sys2Proof.Machine.execMicrocodeReloadComplete s
  | .spWatchdogExpiry => Sys2Proof.Machine.execSpWatchdogExpiry s
  | .spRestartComplete => Sys2Proof.Machine.execSpRestartComplete s
  | .dieOvertemp => Sys2Proof.Machine.execDieOvertemp s
  | .flashProgramComplete res => Sys2Proof.Machine.execFlashProgramComplete res s
  | .fuseStepBurned => Sys2Proof.Machine.execFuseStepBurned s
  | .frameTransmissionEnd p => Sys2Proof.Machine.execFrameTransmissionEnd p s
  | .ringResetComplete c => Sys2Proof.Machine.execRingResetComplete c s
  | .overtempClear j => Sys2Proof.Machine.execOvertempClear j s
  | .backfeedClear j => Sys2Proof.Machine.execBackfeedClear j s

end Sys2Proof.Machine
end

