-- ==== Sys2Proof/Machine/Step.lean ====
section
/-! DEFINITION. One step of the block: the waiting command at the front, or one tim clock edge where none waits. -/

namespace Sys2Proof.Machine

/-- Taking the front command runs it on the block with the queue's rest. With no command waiting, one edge of the 250 MHz
tim clock passes: ELAPSED and the time counter advance (R187, R345) and nothing else happens.
DESIGN CHOICE (log 3): the command table has no row for the clock. -/
def step (s : State) : Host.Outcome State Fault Refusal :=
  match s.pending with
  | [] => .next { s with blk := s.blk.idle }
  | c :: rest => exec c { s with pending := rest }

/-- The command that a table word spells, put at the front of the queue. The command table gives no row a bit pattern, so
every word spells none and the state stays as it is. DESIGN CHOICE (log 114). -/
def State.withFetchWord (s : State) (nbits w : Nat) : State :=
  match decodeTableWord nbits w with
  | some c => { s with pending := c :: s.pending }
  | none => s

end Sys2Proof.Machine
end

