-- ==== Sys2Proof/WellFormed.lean ====
section
/-! DEFINITION. The operand ranges of the commands: a command is well formed when each operand names a part that the engine
has. The meanings are total and do not ask for it; a sender that keeps to the manual sends well-formed commands only. -/

namespace Sys2Proof
open Sys2Proof.Machine

/-! ### Parts that the engine has (R3) -/

/-- Logic slots 0 to 7. -/
def slotOk (n : Nat) : Bool := decide (n < 8)
/-- What runs cycles: the slots, and the shadow runs of pairs 0 to 8 as 8 to 16 (R495). -/
def runOk (n : Nat) : Bool := decide (n < 17)
/-- Logic-core pairs LP0 to LP8. -/
def pairOk (n : Nat) : Bool := decide (n < 9)
/-- Ports ETH0 to ETH3. -/
def portOk (n : Nat) : Bool := decide (n < 4)
/-- Redundancy pairs of ports, flash devices and journal copies come in two. -/
def portPairOk (n : Nat) : Bool := decide (n < 2)
/-- Logic-side rails (R35). -/
def railOk (n : Nat) : Bool := decide (n < 4)
/-- Outputs DO0 to DO31. -/
def outputOk (n : Nat) : Bool := decide (n < 32)
/-- Inputs DI0 to DI63, of which DI0 to DI7 are fast. -/
def diOk (n : Nat) : Bool := decide (n < 64)
def fastOk (n : Nat) : Bool := decide (n < 8)
/-- Trip groups (R205). -/
def groupOk (n : Nat) : Bool := decide (n < 64)
/-- Feeders with the voltage sets: the trackers and the detector groups (R127, R145). -/
def feederOk (n : Nat) : Bool := decide (n < 40)
/-- Analogue inputs AI0 to AI159, and the 20 converter indexes of a path. -/
def inputOk (n : Nat) : Bool := decide (n < 160)
def indexOk (n : Nat) : Bool := decide (n < 20)
/-- Timers of the wheel (R199). -/
def timerOk (n : Nat) : Bool := decide (n < 131072)
/-- Element descriptors. -/
def elementOk (n : Nat) : Bool := decide (n < 4096)
/-- Control objects of a slot's image (R305). -/
def objectOk (n : Nat) : Bool := decide (n < 256)
/-- Mailbox clients. -/
def clientOk (n : Nat) : Bool := decide (n < 256)
/-- Interrupt vectors (R430). -/
def vectorOk (n : Nat) : Bool := decide (n < 32)
/-- Stations (R306) and published control blocks. -/
def stationOk (n : Nat) : Bool := decide (n < 256)
def publishedOk (n : Nat) : Bool := decide (n < 128)
/-- Fabric addresses (R3). -/
def nodeOk (n : Nat) : Bool := decide (n < 65536)
/-- Rates of the sampled-value averagers (R140). -/
def rateOk (n : Nat) : Bool := n == 4800 || n == 14400
/-- Addresses of a field configuration word (R331). -/
def cfgAddrOk (n : Nat) : Bool := decide (n < 256)

/-- A request of a command code, in its ranges (R437). -/
def reqOk (cmd : Nat) (r : Req) : Bool :=
  r.cmd == cmd && decide (r.client < 256 ∧ r.seq < 2 ^ 32 ∧ r.payload.length ≤ 4096)

/-! ### Commands -/

/-- Every operand is in range. -/
def Instr.wf (i : Instr) : Bool :=
  match i with
  | .porstNAssert | .porstNRelease _ _ | .bootRomComplete _ _ | .memorySelfTestComplete _ _ |
    .converterCalibrationComplete _ _ | .backstopArm _ _ | .mailboxRootOpen | .elementTableLoad |
    .fabricClientsServed | .brownOut | .referenceLoss | .tim10mLoss | .pwrFailFall | .pwrFailRise |
    .shutdownFlushComplete _ | .vfldLockoutEnter | .vfldLockoutExit | .fieldPowerUp | .recoveryReset | .elementTick
    _ _ _ | .backstopReload _ _ | .accGenerationPublish | .elementPass | .elementStatePublication | .strobeEdge _ _
    | .tripInsertion | .recorderIntervalEnd | .housekeepingRound _ | .downlinkFrame _ | .downlinkAbort _ |
    .badDownlinkFrame | .silenceExpiry _ | .uplinkDiFrame | .uplinkRbFrame _ | .auxIdle | .auxEdges | .auxTime _ |
    .auxStatus _ _ | .badUplinkFrame _ | .uplinkLoss | .linkDelayMeasured _ | .fieldEdgeDiscard _ | .edgeFifoDrain |
    .edgePopRead _ | .dropCounterRead _ | .incTransfer _ | .timeStepGo _ | .tcNsRead _ | .timeNsRead _ |
    .epochLoRead _ | .timSourceSelect _ | .incSlewLapse | .holdoverExpiry | .steppedTimeout | .estRecompute |
    .stampInterrupt _ | .ppsPulse | .ppsPulseEnd | .helloSend | .conflictBlockEnd | .pendingAdmission |
    .ownProbationEnd | .segmentReassemblyTimeout | .protectionSignalRx | .twRecordSend | .twRecordRx |
    .twPairWaitExpiry | .fabricWhiskRx | .fabricWhiskAnswer | .fabricWhiskWaitEnd | .chainStartRx | .chainDataRx |
    .chainAckRx | .chainResend | .sessionOpenRx | .sessionOpenReplyRx | .sessionRequestRx | .sessionResponseRx |
    .sessionCloseRx | .fabCallTimeout | .pciePerst | .pcieLinkStateChange _ _ _ | .requestAccept | .bar0AccessError
    | .qspiRead _ _ _ | .qspiWrite _ _ _ | .qspiStatus | .qspiInvalidOpcode _ | .registerWrite _ _ _ |
    .whiskFireWrite _ | .whiskArmWrite _ | .whiskDisarmWrite _ | .whiskInEdge | .whiskCompareFire |
    .snapshotComplete | .whiskOutEnd | .dbgaccAccess _ _ _ | .backstopCommitEffect | .inputRecordEffect |
    .sequenceSetEffect | .houseEffect | .plausEffect | .holdSwapEffect | .trackEffect | .tdEffect |
    .elementSwapEffect | .latchClearEffect | .ioCfgEffect | .timeCfgEffect | .timeSetEffect | .netCfgEffect |
    .fabCfgEffect | .fabTwEffect | .recCfgEffect | .colanderRefill | .hourlySummary | .distCfgEffect | .recordClose
    | .recordComplete | .imageVerifyComplete _ | .imageDecryptComplete _ | .blobCheckComplete | .spHandover _ |
    .rollEnd | .routeEffect | .controlArbitration | .memoryScrubError _ _ | .rowMarchTestComplete _ _ _ |
    .lpddrError _ | .microcodeReloadComplete | .spWatchdogExpiry | .spRestartComplete | .dieOvertemp |
    .flashProgramComplete _ | .fuseStepBurned => true
  | .admissionEnd x | .timedLaunch x | .ptpSync x _ _ _ _ _ | .ptpFollowUp x _ _ _ _ | .ptpAnnounce x _ _ |
    .ptpPdelayReq x _ _ _ | .ptpPdelayResp x _ _ _ _ _ | .ptpUnsupported x | .ptpTransmitInterval x _ |
    .transparentClockForward x _ _ _ _ _ | .announceTimeout x | .portBeacon x _ | .linkUp x | .linkDown x |
    .rxBadFrame x _ | .pauseFrame x | .prpPortLost x | .hsrRingOpen x | .frameTransmissionEnd x => portOk x
  | .railOutOfWindow x | .railReturn x _ => railOk x
  | .trackerNominalTimeout x | .twGroupClose _ x | .twDeadTimeEnd _ x | .incReferenceRelease _ x => feederOk x
  | .timerExpiry x | .timerHoldExpiry x | .timerMemoryError x _ => timerOk x
  | .keptConversion _ x _ _ | .takeSample _ x | .urgentRequestStart _ x _ | .urgentTakeComplete _ x |
    .converterSelfTestStart x | .converterSelfTestVerdict x _ | .disputedClear x | .returningEnd x => indexOk x
  | .backstopMinOnExpiry x => groupOk x
  | .wireBreakEvaluation x => inputOk x
  | .svIntervalEnd x => rateOk x
  | .cycleReadIn x | .cycleWriteOut x _ | .kettleFire x | .taskSwitch x | .fjNop x | .fjEnd x | .fjTrap x _ |
    .fjIllegalOpcode x _ | .fjLock x | .fjUnlock x | .fjCall x _ | .fjRet x | .fjJmp x _ | .fjJt x _ _ | .fjJf x _ _
    | .fjDjnz x _ _ | .fjLd x _ _ | .fjLd2 x _ _ | .fjSt x _ _ | .fjSt2 x _ _ | .fjLdx x _ _ _ | .fjStx x _ _ _ |
    .fjLdb x _ _ _ | .fjStb x _ _ _ | .fjMov x _ _ | .fjLdk x _ _ | .fjLdk8 x _ _ | .fjLdkh x _ _ | .fjAdd x _ _ _ |
    .fjSub x _ _ _ | .fjMul x _ _ _ | .fjDiv x _ _ _ | .fjRem x _ _ _ | .fjNeg x _ _ | .fjAbs x _ _ | .fjMin x _ _ _
    | .fjMax x _ _ _ | .fjAnd x _ _ _ | .fjOr x _ _ _ | .fjXor x _ _ _ | .fjNot x _ _ | .fjShl x _ _ _ | .fjShr x _
    _ _ | .fjAddk x _ _ _ | .fjFadd x _ _ _ | .fjFsub x _ _ _ | .fjFmul x _ _ _ | .fjFdiv x _ _ _ | .fjFma x _ _ _ _
    | .fjFsqrt x _ _ | .fjFneg x _ _ | .fjFabs x _ _ | .fjFmin x _ _ _ | .fjFmax x _ _ _ | .fjFrnd x _ _ | .fjCvt x
    _ _ | .fjCmp x _ _ _ _ | .fjBand x _ _ _ | .fjBor x _ _ _ | .fjBxor x _ _ _ | .fjBnot x _ _ | .fjSel x _ _ _ _ |
    .fjLim x _ _ _ _ | .fjTstq x _ _ _ | .fjEdgr x _ _ _ | .fjEdgf x _ _ _ | .fjEdgb x _ _ _ | .fjSr x _ _ _ | .fjRs
    x _ _ _ | .fjTstart x _ _ | .fjTstartp x _ _ | .fjTstartw x _ | .fjTcancel x _ | .fjTpause x _ _ | .fjTresume x
    _ | .fjTread x _ _ _ | .fjTon x _ _ _ _ | .fjTnow x _ | .fjWnow x _ | .fjCtu x _ _ _ | .fjCtd x _ _ _ | .fjGath
    x _ _ _ _ | .fjScat x _ _ _ | .fjBmov x _ _ _ | .fjCurv x _ _ _ _ | .fjSumv x _ _ _ | .fjPmake x _ _ _ | .fjPpol
    x _ _ _ | .fjPre x _ _ | .fjPim x _ _ | .fjPmag x _ _ | .fjPang x _ _ | .fjPadd x _ _ _ | .fjPsub x _ _ _ |
    .fjPmul x _ _ _ | .fjPdiv x _ _ _ | .fjPconj x _ _ | .fjPscl x _ _ _ | .fjProt x _ _ _ | .fjPseq x _ _ _ _ _ |
    .fjFln x _ _ | .fjFexp x _ _ | .fjFpow x _ _ _ | .fjFlgrd x _ | .fjFlgclr x _ | .fjTena x _ | .fjTdis x _ |
    .fjTkick x _ | .fjFrec x _ _ _ | .fjFcrd x _ _ _ | .fjFcset x _ _ | .fjFcclr x _ | .fjCtlrd x _ _ _ | .fjCtlack
    x _ _ | .fjCtlop x _ _ _ | .fjEvt x _ _ => runOk x
  | .armDelayExpiry x | .takeoverImageLoaded x | .takeoverDataCopied x | .imageTakeover x | .rollingSlotMove x |
    .slotStoreError x _ _ => slotOk x
  | .lockstepMismatch x | .delayParityError x | .pairEccUncorrectable x | .pairEccCorrected x | .pairSelfTestVerdict
    x _ | .spareLoadComplete x | .sparePulseTest x _ | .spareSelfTest x _ => pairOk x
  | .gooseFrameReceived x _ | .svFrameReceived x _ | .rxUnsupportedFrame x | .prpSupervisionRx x | .hsrForward x _ _
    _ | .helloReceived x _ | .fabricUnicastFrame x _ _ | .fabricBroadcastFrame x _ _ => portOk x.port
  | .stationMiss x => stationOk x
  | .gooseRetransmit x => publishedOk x
  | .diChangeAccepted x _ _ | .wettingEnd x _ => diOk x
  | .fastInputEdge x _ _ => fastOk x
  | .outputOvercurrentOnset x _ | .peakPhaseEnd x _ _ | .foldbackStart x _ _ | .retryPulse x | .retryPulseEnd x _ _
    | .overloadClear x _ | .overtempEnter x | .thermalShutdown x | .thermalRecovery x | .openWireTest x _ |
    .backfeedDetect x | .auxDiag x _ | .overtempClear x | .backfeedClear x => outputOk x
  | .auxCfgecho x | .cfgechoMismatch x => cfgAddrOk x
  | .prpSupervisionTx x | .dupEntryExpiry x | .hsrSupervisionTx x | .backgroundEraseComplete x _ _ |
    .journalCompaction _ x _ => portPairOk x
  | .probationEnd x y | .neighbourSilent x y | .neighbourEntryFree x y => nodeOk x && portOk y
  | .sessionIdleClose x | .doorbellWrite x _ | .ringReset x | .responseRingRoom x | .ladleTransferEnd x _ _ |
    .ladleBusError x _ _ | .ringResetComplete x => clientOk x
  | .vectorSignal x => vectorOk x
  | .sysInfo x => reqOk 0x0101 x
  | .sysClient x => reqOk 0x0102 x
  | .sysArm x => reqOk 0x0103 x
  | .sysShutdown x => reqOk 0x0104 x
  | .sysBstopRead x | .sysBstopStage x | .sysBstopCommit x | .sysBstopState x => reqOk 0x0105 x
  | .sysLadleRead x | .sysLadleWrite x | .sysLadleAbort x _ => reqOk 0x0106 x
  | .sysNop x => reqOk 0x0107 x
  | .cnvInput x => reqOk 0x0201 x
  | .cnvSeq x => reqOk 0x0202 x
  | .cnvUrgent x => reqOk 0x0203 x
  | .cnvHouse x => reqOk 0x0204 x
  | .cnvPlaus x => reqOk 0x0205 x
  | .cnvTwinRead x | .cnvTwinTest x | .cnvTwinReturn x => reqOk 0x0206 x
  | .accRead x => reqOk 0x0301 x
  | .accMm x => reqOk 0x0302 x
  | .accFreq x => reqOk 0x0303 x
  | .accTrack x => reqOk 0x0304 x
  | .accTd x => reqOk 0x0305 x
  | .accTw x => reqOk 0x0306 x
  | .elemTableWrite x | .elemTableCopy x | .elemTableRead x => reqOk 0x0401 x
  | .elemCurve x => reqOk 0x0402 x
  | .elemSwap x => reqOk 0x0403 x
  | .elemRead x => reqOk 0x0404 x
  | .elemReset x => reqOk 0x0405 x
  | .cycLoadCheck x | .cycLoadRead x => reqOk 0x0501 x
  | .cycActivate x => reqOk 0x0502 x
  | .cycRestart x => reqOk 0x0503 x
  | .cycServiceEnter x | .cycServiceExit x => reqOk 0x0504 x
  | .cycState x => reqOk 0x0505 x
  | .imgRead x => reqOk 0x0601 x
  | .imgStation x => reqOk 0x0602 x
  | .ioCfg x => reqOk 0x0701 x
  | .ioRead x => reqOk 0x0702 x
  | .ioEdges x => reqOk 0x0703 x
  | .timeReadNow x | .timeReadTick x => reqOk 0x0801 x
  | .timeCfg x => reqOk 0x0802 x
  | .timeSet x => reqOk 0x0803 x
  | .timePtp x => reqOk 0x0804 x
  | .netCfg x => reqOk 0x0901 x
  | .netStat x => reqOk 0x0902 x
  | .fabCfg x => reqOk 0x0A01 x
  | .fabRouteWrite x | .fabRouteUnpin x | .fabRouteRead x => reqOk 0x0A02 x
  | .fabInvalidate x => reqOk 0x0A03 x
  | .fabNbr x => reqOk 0x0A04 x
  | .fabStat x => reqOk 0x0A05 x
  | .fabSig x => reqOk 0x0A06 x
  | .fabTw x => reqOk 0x0A07 x
  | .fabTwloc x => reqOk 0x0A08 x
  | .fabWhisk x => reqOk 0x0A09 x
  | .fabCall x => reqOk 0x0A0A x
  | .fabAccess x => reqOk 0x0A0B x
  | .recNotes x => reqOk 0x0B01 x
  | .recCode x => reqOk 0x0B02 x
  | .recIndex x => reqOk 0x0B03 x
  | .recCfg x => reqOk 0x0B04 x
  | .distCfg x => reqOk 0x0C01 x
  | .distTrigger x => reqOk 0x0C02 x
  | .distList x => reqOk 0x0C03 x
  | .distKeep x | .distRelease x | .distDelete x => reqOk 0x0C04 x
  | .snapInfo x => reqOk 0x0D01 x
  | .snapRead x => reqOk 0x0D02 x
  | .snapRelease x => reqOk 0x0D03 x
  | .snapFire x => reqOk 0x0D04 x
  | .updBegin x => reqOk 0x0E01 x
  | .updAbort x => reqOk 0x0E02 x
  | .updFlash x => reqOk 0x0E03 x
  | .updChain x => reqOk 0x0E04 x
  | .updActivate x => reqOk 0x0E05 x
  | .updConfirm x => reqOk 0x0E06 x
  | .updState x => reqOk 0x0E07 x
  | .updKey x => reqOk 0x0E08 x
  | .diagWheelSummary x | .diagWheelRead x => reqOk 0x0F01 x
  | .diagTongs x => reqOk 0x0F02 x
  | .diagDebug x => reqOk 0x0F03 x
  | .diagShadow x => reqOk 0x0F04 x
  | .diagHalt x | .diagStep x | .diagResume x | .diagBreakpoint x => reqOk 0x0F05 x
  | .diagCtx x => reqOk 0x0F06 x
  | .diagRoute x => reqOk 0x0F07 x
  | .diagFaults x => reqOk 0x0F08 x
  | .ctlSelect x => reqOk 0x1001 x
  | .ctlOperate x => reqOk 0x1002 x
  | .ctlCancel x => reqOk 0x1003 x
  | .ctlRead x => reqOk 0x1004 x
  | .selectionLapse x y | .controlAnswerTimeout x y => slotOk x && objectOk y
  | .descriptorRepair x => elementOk x

end Sys2Proof
end

