-- ==== Sys2Proof/Safety.lean ====
section
/-! DEFINITION. The terms in which claims about the block are stated: what a command gives, when a request or an instruction may
be carried out, what a safe run is, and what every step keeps. -/

namespace Sys2Proof.Machine
open Sys2Proof

/-- The command completes and leaves the block `b`, with the queue's rest as it was. -/
def Gives (i : Instr) (s : State) (b : Block) : Prop := exec i s = .next { s with blk := b }

/-- The command completes, the queue's rest stays as it was, and what it leaves of the block has the property `P`. -/
def Does (i : Instr) (s : State) (P : Block → Prop) : Prop := ∃ b, Gives i s b ∧ P b

/-- The recorder takes raises: it has started, and a supervisor runs (R449, R539). -/
def Block.recording (b : Block) : Prop := b.evr.started = true ∧ b.spUp = true

/-- Raises of a source counted in the lifetime record. -/
def Block.raised (b : Block) (src : Nat) : Nat := (tget tallyD b.evr.life src).count

/-- A run is safe when no step of it stops: every command of the manual has an effect, so none ends in a fault or a refusal. -/
def State.goesOn (s : State) : Prop := ∃ t, step s = .next t

/-! ### Mailbox requests (R431 to R439) -/

/-- The request is accepted and without a response, is one of the command code given, and a supervisor runs to carry it out. -/
def Called (cmd : Nat) (r : Req) (b : Block) : Prop := b.has r = true ∧ r.cmd = cmd ∧ b.spUp = true

/-! ### Fjoask instructions (R246 to R254) -/

/-- The running task of a slot is about to execute an instruction of `len` bytes: fewer than 64 instructions have gone since a
LOCK, and all its bytes lie within the code. `f` is what the instruction works on. -/
def FjReady (b : Block) (slot len : Nat) (f : Fj) : Prop :=
  b.fjNow slot = some f ∧ f.x.lockcnt ≠ 64 ∧ f.x.pc + len ≤ f.img.code

/-- What the instruction works on once it has counted in its LOCK section. -/
def Fj.counted (f : Fj) : Fj := { f with x := { f.x with lockcnt := if f.x.lockcnt = 0 then 0 else f.x.lockcnt + 1 } }

/-- The instruction completes with the outcome `o`: it has been put back into the slot, and the debug boundary after it has been
passed. -/
def FjEnds (i : Instr) (s : State) (slot len : Nat) (f : Fj) (o : FjOut) : Prop :=
  Gives i s ((s.blk.fjPut slot len f.x.lockcnt o).debugAfter slot)

/-- The instruction faults with cause `k` of FAULT (1 ILL, 2 RANGE, 3 ACCESS, 4 DEPTH) before it has written anything (R250). -/
def FjFaults (i : Instr) (s : State) (slot len : Nat) (f : Fj) (k : Nat) : Prop :=
  FjEnds i s slot len f { f := f.counted, fault := k }

/-- No task of higher priority and no halt waits for the boundary after an element (R271, R497). -/
abbrev Fj.undisturbed (f : Fj) : Prop := f.counted.wanted = false

/-- The words that a block move of `n` words writes, element by element in the order that keeps overlapping areas right (R268). -/
def Fj.moved (f : Fj) (a s n : Nat) : Fj :=
  (List.range n).foldl (fun g i => let k := if a ≤ s then i else n - 1 - i; g.wr (a + k) (g.rd (s + k))) f

/-- The index that element `i` of an index list names (R265). -/
def Fj.index (f : Fj) (x i : Nat) : Nat := (f.rd (x + 1 + i)).toNat

/-- The words that the first `n` elements of a scatter write (R267). -/
def Fj.scattered (f : Fj) (a s x n : Nat) : Fj :=
  (List.range n).foldl (fun g i => g.wr (a + g.index x i) (g.rd (s + i))) f

/-- The words that the first `n` elements of a gather of single words write (R266, KIND 0). -/
def Fj.gathered (f : Fj) (a s x n : Nat) : Fj :=
  (List.range n).foldl (fun g i => g.wr (a + i) (g.rd (s + g.index x i))) f

/-- A quality word that lacks VALID or carries SUBSTITUTED or STALE (R266). -/
def qualityFaulted (q : Word) : Bool := !bitOf q.toNat 0 || bitOf q.toNat 6 || bitOf q.toNat 7

/-- The words that the first `n` elements of a gather of `m` points write, and the mask of their quality faults (R266, KIND 1). -/
def Fj.gatheredPoints (f : Fj) (a s x m n : Nat) : Fj × Nat :=
  (List.range n).foldl (fun g i =>
    let h := g.1.wr (a + i) (g.1.rd (s + 2 * g.1.index x i))
    let q := g.1.rd (s + 2 * g.1.index x i + 1)
    (h.wr (a + m + i) q, if qualityFaulted q then Nat.lor g.2 (2 ^ i) else g.2)) (f, 0)

/-- The first `n` operating times that a curve instruction writes, with their flags (R269). -/
def Fj.curved (f : Fj) (a s t n : Nat) : Fj :=
  (List.range n).foldl (fun g i => match (g.curvTable t).orElse fun _ => f.curvTable t with
    | some z => (g.wr (a + i) (curvOf z.1 z.2.1 (g.rd (s + i)) z.2.2).1).flags (curvOf z.1 z.2.1 (g.rd (s + i)) z.2.2).2
    | none => g) f

/-- The running sum of `n` words, with the flags of its additions (R270). -/
def Fj.summed (f : Fj) (s n : Nat) : Fj × Word :=
  (List.range (n - 1)).foldl (fun g i => let r := fAdd g.2 (f.rd (s + (i + 1))); (g.1.flags r.2, r.1)) (f, f.rd s)

/-! ### Frames -/

/-- The commands that take place on the field side alone: its supply, its inputs, its outputs and what it receives (R36, R42, R314
to R336). -/
def onFieldSide (i : Instr) : Bool :=
  match i with
  | .vfldLockoutEnter | .vfldLockoutExit | .fieldPowerUp | .diChangeAccepted _ _ _ | .wettingEnd _ _
  | .fastInputEdge _ _ _ | .outputOvercurrentOnset _ _ | .peakPhaseEnd _ _ _ | .foldbackStart _ _ _ | .retryPulse _
  | .retryPulseEnd _ _ _ | .overloadClear _ _ | .overtempEnter _ | .thermalShutdown _ | .thermalRecovery _
  | .openWireTest _ _ | .backfeedDetect _ | .downlinkAbort _ | .silenceExpiry _
  | .fieldEdgeDiscard _ | .overtempClear _ | .backfeedClear _ => true
  | _ => false

/-- What carrying out a request may write beside its own effect: the mailbox, the flash, the ports and the fabric that carry a
response to a session's client, and the event recorder. All measured, protecting and commanding state is as before. -/
def KeepsProcess (s : State) (b : Block) : Prop :=
  b = { s.blk with nv := b.nv, time := b.time, evr := b.evr, mbx := b.mbx, net := b.net, fab := b.fab }

/-! ### Opcodes (R249) -/

/-- The primary opcodes that the maps list, the two page escapes left out. -/
def fjListed (a : Nat) : Bool :=
  decide (a ≤ 0x0A ∨ 0x10 ≤ a ∧ a ≤ 0x1B ∨ 0x20 ≤ a ∧ a ≤ 0x3B ∨ 0x40 ≤ a ∧ a ≤ 0x4C ∨ 0x50 ≤ a ∧ a ≤ 0x59 ∨ a = 0x60 ∨ a = 0x61 ∨
    0x70 ≤ a ∧ a ≤ 0x74)
/-- The second bytes that the pages of the escapes 0xF0 and 0xF1 define. -/
def fjListed2 (a c : Nat) : Bool :=
  if a = 0xF0 then decide (c ≤ 0x0D ∨ 0x10 ≤ c ∧ c ≤ 0x12) else decide (a = 0xF1 ∧ c ≤ 0x0C)

/-! ### The anti-rollback count (R514, R525) -/

/-- The count of burned fuse steps is at least `n`, and at most the 64 steps that there are. -/
def State.fuseFrom (n : Nat) (s : State) : Prop := n ≤ s.blk.nv.fuse ∧ s.blk.nv.fuse ≤ 64

end Sys2Proof.Machine
end

