-- ==== Sys2Proof/Certificates/Slice0/Obligations.lean ====
section
/-! DEFINITION. The statements for the provers: def Obligations.<Name> : Prop. Each is a conjunction of clauses over every state;
`Gives`, `Does`, `FjEnds` and `Called` (Safety.lean) say what they conclude and assume. -/

open Sys2Proof
open Sys2Proof.Machine

/-- A step runs the command at the front of the queue on the block with the queue's rest; with no command waiting one clock cycle
passes. For every command c and state s: a step of s with c at the front of its queue is exec of c on s with the queue's rest. With
an empty queue a step answers next: ELAPSED and the time counter advance by one cycle of the 250 MHz clock if the clock runs, and
nothing else changes (the model's own choice, DESIGN CHOICE, log 3). Spec: 95_what_each_step_holds.md. -/
def Obligations.StepTakesTheFrontCommand : Prop :=
  (∀ (c : Instr) (q : List Instr) (s : State), s.pending = c :: q → step s = exec c { s with pending := q }) ∧
  (∀ (s : State), s.pending = [] → s.blk.time.run = true → step s =
    .next { s with blk := { s.blk with time := s.blk.time.advance 1 } }) ∧
  (∀ (s : State), s.pending = [] → s.blk.time.run = false → step s = .next s)

/-- No command stops the block and none touches the commands that wait. For every command and every state, exec answers a next state
in which only the block may have changed: the queue's rest is as it was. So no step of any state ends in a fault or a refusal. Spec:
00_scope.md. -/
def Obligations.EveryStepGoesOn : Prop :=
  (∀ (i : Instr) (s : State), ∃ b, exec i s = .next { s with blk := b }) ∧
  (∀ (s : State), s.goesOn)

/-- Decoding the bytes of an Fjoask instruction gives the instruction back, with every operand, and stops where its bytes end. For
every Fjoask instruction that has bytes (every one but the rows for an undefined opcode), every slot, every value of its operands
and every byte that may follow: decoding its encoding followed by those bytes gives the instruction itself and exactly those bytes.
Spec: 12_fjoask_instructions.md. -/
def Obligations.FjDecodingUndoesEncoding : Prop :=
  ∀ (i : Instr) (slot : Nat) (bs r : List Byte), fjSlot i = some slot → fjEncode i = some bs → fjDecode slot (bs ++ r) = some (i, r)

/-- An opcode is defined exactly where the maps list it or one of the two escapes opens a page that lists its second byte. With
enough bytes behind it, a first byte decodes to an instruction exactly if the primary maps list it, or it is 0xF0 or 0xF1 and its
page defines the second byte. 0xF0 decodes to the phasor and function instructions and 0xF1 to the task, field, control and event
instructions; 0xF2 to 0xFF and every other byte are undefined. Rules: R249. -/
def Obligations.UndefinedOpcodesDecodeToNothing : Prop :=
  (∀ (slot : Nat) (a c : Byte) (l : List Byte), 8 ≤ l.length → ((fjDecode slot (a :: c :: l)).isSome = true ↔ fjListed a.toNat =
    true ∨ fjListed2 a.toNat c.toNat = true)) ∧
  (∀ (slot : Nat) (c : Byte) (l : List Byte), fjDecode slot (0xF0 :: c :: l) = fjPageF0 slot c.toNat l ∧
    fjDecode slot (0xF1 :: c :: l) = fjPageF1 slot c.toNat l)

/-- No step of the block lowers the count of burned fuse steps, and none raises it above 64. For every n and every state in which at
least n and at most 64 anti-rollback fuse steps are burned: whatever command waits, after the step at least n and at most 64 are
burned. A reset, a power loss, an update, a recovery and a failed command included. Spec: 23_firmware_update_keys.md. -/
def Obligations.FuseStepsAreNeverUndone : Prop :=
  ∀ (n : Nat) (s t : State), s.fuseFrom n → step s = .next t → t.fuseFrom n

/-- Reset leaves the engine held by PORST_N with nothing started, the outputs off and the fuse count in range. In the reset state
PORST_N is held, no command waits, no startup step is complete and STAGE is 0, BACKSTOP, ELEM_RUN, LOGIC_RUN, READY, the MBX bits
and DEGRADED are 0, the epoch is 0 and the clock does not run, no request is accepted, the event recorder has not started, the field
side is unpowered with every output off, and the fuse count is within its range. That the reset state is an engine as manufactured,
with the factory flash and an unpowered field side, is the model's choice (DESIGN CHOICE, log 1). Spec:
02_package_supplies_energy.md, 03_first_second.md, 23_firmware_update_keys.md. -/
def Obligations.ResetMeetsTheInvariants : Prop :=
  State.reset.fuseFrom 0 ∧ State.reset.blk.lands.porst = true ∧ State.reset.pending = [] ∧ State.reset.blk.sys.step = 0 ∧
    State.reset.blk.sys.stage = 0 ∧ State.reset.blk.sys.backstop = false ∧ State.reset.blk.sys.elemRun = false ∧
    State.reset.blk.sys.logicRun = false ∧ State.reset.blk.sys.ready = false ∧ State.reset.blk.sys.mbxRoot = false ∧
    State.reset.blk.sys.mbxHost = false ∧ State.reset.blk.sys.mbxFab = false ∧ State.reset.blk.sys.degraded = false ∧
    State.reset.blk.time.epoch = 0 ∧ State.reset.blk.time.run = false ∧ State.reset.blk.mbx.accepted = [] ∧
    State.reset.blk.evr.started = false ∧ State.reset.blk.fside.powered = false ∧ State.reset.blk.fside.cmd = 0

/-- A divisor of 0 sets DZ and delivers the limit on the dividend's side, 0 for 0, and the dividend as the remainder; OF is not set.
For DIV and REM whose divisor local holds 0, with operand locals of one type INT32 or UINT32: exec answers a next state in which d
holds the value of R282's table and DZ is set. No other flag changes, OF included. Rules: R282. -/
def Obligations.DivisionByZeroSetsDz : Prop :=
  (∀ (s : State) (slot : Nat) (f : Fj) (d a b : BitVec 8), FjReady s.blk slot 4 f → f.same [.int] [d, a, b] = true → f.int b = 0 →
    FjEnds (.fjDiv slot d a b) s slot 4 f { f := (f.counted.setI d (if f.int a = 0 then 0 else if 0 < f.int a then 0x7FFFFFFF else -0x80000000)).flags { dz := true } }) ∧
  (∀ (s : State) (slot : Nat) (f : Fj) (d a b : BitVec 8), FjReady s.blk slot 4 f → f.same [.uint] [d, a, b] = true → f.int b = 0 →
    FjEnds (.fjDiv slot d a b) s slot 4 f { f := (f.counted.setI d (if f.int a = 0 then 0 else 0xFFFFFFFF)).flags { dz := true } }) ∧
  (∀ (s : State) (slot : Nat) (f : Fj) (d a b : BitVec 8), FjReady s.blk slot 4 f → (f.same [.int] [d, a, b] = true ∨
    f.same [.uint] [d, a, b] = true) → f.int b = 0 →
    FjEnds (.fjRem slot d a b) s slot 4 f { f := (f.counted.setI d (f.int a)).flags { dz := true } }) ∧
  (∀ (f : Fj), (f.flags { dz := true }).x.flags.dz = true ∧ (f.flags { dz := true }).x.flags.ovf = f.x.flags.ovf ∧
    (f.flags { dz := true }).x.flags.iv = f.x.flags.iv ∧ (f.flags { dz := true }).x.flags.uf = f.x.flags.uf ∧
    (f.flags { dz := true }).x.flags.nx = f.x.flags.nx)

/-- An exact result is delivered as it is or as the limit of the type on its side, with OF set exactly then, and nothing else
changes. For a local d of type INT32, UINT32 or TIME64 and an exact result v: after delivering v, d reads as v if v lies within the
type's limits, as the lower limit below and as the upper limit above; OF is set exactly if v lay outside (or was set before); the
other flags, the other locals, the program counter, the words of memory and everything staged are as before. Spec:
13_fjoask_arithmetic.md. -/
def Obligations.SaturationStaysInTheType : Prop :=
  (∀ (f : Fj) (d : BitVec 8) (v : Int), f.is [.int] d = true → (f.sat d v).int d =
    (if v < -0x80000000 then -0x80000000 else if 0x7FFFFFFF < v then 0x7FFFFFFF else v) ∧ (f.sat d v).x.flags.ovf =
    (f.x.flags.ovf || decide (v < -0x80000000 ∨ 0x7FFFFFFF < v))) ∧
  (∀ (f : Fj) (d : BitVec 8) (v : Int), f.is [.uint] d = true → (f.sat d v).int d =
    (if v < 0 then 0 else if 0xFFFFFFFF < v then 0xFFFFFFFF else v) ∧ (f.sat d v).x.flags.ovf = (f.x.flags.ovf || decide (v < 0 ∨
    0xFFFFFFFF < v))) ∧
  (∀ (f : Fj) (d : BitVec 8) (v : Int), f.is [.time] d = true → (f.sat d v).int d =
    (if v < -0x8000000000000000 then -0x8000000000000000 else if 0x7FFFFFFFFFFFFFFF < v then 0x7FFFFFFFFFFFFFFF else v) ∧
    (f.sat d v).x.flags.ovf = (f.x.flags.ovf || decide (v < -0x8000000000000000 ∨ 0x7FFFFFFFFFFFFFFF < v))) ∧
  (∀ (f : Fj) (d u : BitVec 8) (v : Int), (f.sat d v).c = f.c ∧ (f.sat d v).x.pc = f.x.pc ∧ (f.sat d v).x.rstack = f.x.rstack ∧
    (f.sat d v).x.lockcnt = f.x.lockcnt ∧ (f.sat d v).x.flags.iv = f.x.flags.iv ∧ (f.sat d v).x.flags.dz = f.x.flags.dz ∧
    (f.sat d v).x.flags.uf = f.x.flags.uf ∧ (f.sat d v).x.flags.nx = f.x.flags.nx ∧ (u.toNat % 64 ≠ d.toNat % 64 →
    (f.sat d v).val u = f.val u))

/-- A block move without preemption leaves the words of an unchanged source at the destination, overlap included, and no other word
changed. For BMOV outside a LOCK section, started at element 0, with both areas in bounds, the destination writable and no task of
higher priority or halt waiting: exec answers a next state with the words moved in ascending order when Ad is at or below As and in
descending order otherwise; every destination word then reads as its source word read before, and every other word reads as before.
Rules: R268. -/
def Obligations.BlockMoveCopies : Prop :=
  (∀ (s : State) (slot : Nat) (f : Fj) (ad as_ : BitVec 16) (n : BitVec 8), FjReady s.blk slot 6 f → f.x.lockcnt = 0 → f.x.prog =
    0 → f.undisturbed → inArea ad.toNat 0 (n256 n) = true → inArea as_.toNat 0 (n256 n) = true → f.noWrites ad.toNat (n256 n) =
    false → FjEnds (.fjBmov slot ad as_ n) s slot 6 f { f := f.moved ad.toNat as_.toNat (n256 n) }) ∧
  (∀ (f : Fj) (a s n : Nat), inArea a 0 n = true → inArea s 0 n = true → f.noWrites a n = false → (∀ k, k < n →
    (f.moved a s n).rd (a + k) = f.rd (s + k)) ∧ (∀ w, (w < a ∨ a + n ≤ w) → (f.moved a s n).rd w = f.rd w))

/-- Every Fjoask instruction is fetched whole: the 65th of a LOCK section raises LOCKX, a fetch past the code RANGE; a fault drops
what the task staged. For every Fjoask instruction of the tables: if no task of the slot is about to execute, it changes nothing.
With 64 instructions counted in a LOCK section, the task faults with LOCKX, whatever the instruction. Otherwise, if its bytes end
past the image's code, the task faults with RANGE. When a faulted instruction is put back, the task's locals, return stack and flags
are as the instruction left them (unchanged where it faults before its steps), PSTATE is as last committed, FAULT and FPC are
written, what the task has staged is gone, what other tasks have staged is kept, and the task has ended its run. Spec:
12_fjoask_instructions.md. -/
def Obligations.InstructionsNeedTheirBytes : Prop :=
  (∀ (i : Instr) (slot : Nat) (s : State), fjSlot i = some slot → s.blk.fjNow slot = none → Gives i s s.blk) ∧
  (∀ (i : Instr) (slot : Nat) (bs : List Byte) (s : State) (f : Fj), fjSlot i = some slot → fjEncode i = some bs →
    s.blk.fjNow slot = some f → f.x.lockcnt = 64 → FjEnds i s slot bs.length f { f := f, fault := 5 }) ∧
  (∀ (i : Instr) (slot : Nat) (bs : List Byte) (s : State) (f : Fj), fjSlot i = some slot → fjEncode i = some bs →
    s.blk.fjNow slot = some f → f.x.lockcnt ≠ 64 → f.img.code < f.x.pc + bs.length →
    FjEnds i s slot bs.length f { f := f, fault := 2 }) ∧
  (∀ (b : Block) (slot len lc : Nat) (o : FjOut), o.fault ≠ 0 → ∃ c, ((b.fjPut slot len lc o).slot slot).cyc = some c ∧ c.data =
    o.f.c.data ∧ c.active = false ∧ o.f.t ∈ c.ended ∧ o.f.t ∈ c.faulted ∧ (∀ z, z ∈ c.staged ↔ z ∈ o.f.c.staged ∧ z.1 ≠ o.f.t) ∧
    tget ctxD c.ctxs o.f.t =
    { o.f.x with lockcnt := lc, fault := o.fault, trap := o.trap, fpc := o.f.x.pc, fprog := o.fprog, pstate := (tget ctxD (b.slot slot).ctxs o.f.t).pstate })

/-- An Fjoask instruction changes nothing but its own slot's run. Frame of the Fjoask rows: an instruction of a slot 0 to 7 leaves
everything as before but that slot. One of a shadow run (slot index 8 and above, run for the debugger on pair index − 8) may also
halt that pair and answer the debugger's request, which writes the mailbox, the event recorder and what carries the response; every
other slot and every other pair, all measured, protecting and commanding state are as before. Spec: 12_fjoask_instructions.md. -/
def Obligations.FjKeepsToItsSlot : Prop :=
  (∀ (i : Instr) (slot : Nat) (s : State), fjSlot i = some slot → slot < 8 → Does i s fun b => b =
    { s.blk with lgc := { s.blk.lgc with slots := b.lgc.slots } } ∧ ∀ k, k ≠ slot → b.slot k = s.blk.slot k) ∧
  (∀ (i : Instr) (slot : Nat) (s : State), fjSlot i = some slot → 8 ≤ slot → Does i s fun b => b =
    { s.blk with nv := b.nv, time := b.time, evr := b.evr, mbx := b.mbx, net := b.net, fab := b.fab, lgc := { s.blk.lgc with slots := b.lgc.slots, pairs := b.lgc.pairs } } ∧
    (∀ k, k ≠ slot → b.slot k = s.blk.slot k) ∧ ∀ p, p ≠ slot - 8 → b.pair p = s.blk.pair p)

/-- Every raise counts once in the lifetime tally, and the colander alone decides whether it also notifies. While the recorder runs,
a raise on a source increments the lifetime count of its code by 1 and no other code's, whether or not it notifies. A bucket of 1
token or more gives up 1 token and the raise notifies: SRC_PEND is set and a record enters the FIFO of 1,024, or DROPS counts it
when the FIFO is full. A bucket below 1 token gives no notification: SUPPRESSED grows by 1, and SRC_PEND, the FIFO and DROPS are as
before. Before the recorder starts, or while no supervisor runs, the raise is held in the source's hardware counter. Spec:
20_event_recorder.md. -/
def Obligations.RaisesAreCounted : Prop :=
  (∀ (b : Block) (n : Nat) (q : Int), b.recording → (b.raise n q).raised n = b.raised n + 1 ∧ ∀ k, k ≠ n → (b.raise n q).raised k =
    b.raised k) ∧
  (∀ (b : Block) (n : Nat) (q : Int), ¬ b.recording → (b.raise n q).evr.hw = tupd natD b.evr.hw n (· + 1) ∧ (b.raise n q).raised n =
    b.raised n) ∧
  (∀ (b : Block) (n : Nat) (q : Int), b.recording → 1000 ≤ (tget colD b.evr.col n).bucket →
    (tget colD (b.raise n q).evr.col n).bucket = (tget colD b.evr.col n).bucket - 1000 ∧ n ∈ (b.raise n q).mbx.srcPend ∧
    (b.evr.notes.length < 1024 → ∃ x, (b.raise n q).evr.notes = b.evr.notes ++ [x] ∧ x.source = n ∧ x.qty = qty q ∧ x.epoch =
    b.time.epoch) ∧ (1024 ≤ b.evr.notes.length → (b.raise n q).evr.notes = b.evr.notes ∧ (b.raise n q).evr.drops = b.evr.drops + 1)) ∧
  (∀ (b : Block) (n : Nat) (q : Int), b.recording → (tget colD b.evr.col n).bucket < 1000 → tget natD (b.raise n q).nv.supp n =
    tget natD b.nv.supp n + 1 ∧ (b.raise n q).mbx = b.mbx ∧ (b.raise n q).evr.notes = b.evr.notes ∧ (b.raise n q).evr.drops =
    b.evr.drops ∧ (b.raise n q).evr.col = b.evr.col)

/-- A quantity is taken as its magnitude limited to 0xFFFF_FFFF and increments one of 16 bins, which saturates. For every quantity:
its q is its magnitude, or 0xFFFF_FFFF if that is less. q falls into bin 0 if it is 0, into bin k, 1 to 14, if 2^(k−1) ≤ q < 2^k,
and into bin 15 if q is at least 16,384. Recording it for a code increments exactly that lifetime bin of that code, which stays at
0xFFFF_FFFF once there; every other bin and every other code's bins are as before. Rules: R450. -/
def Obligations.QuantitiesFallIntoTheirBins : Prop :=
  (∀ (v : Int), qty v = (if 0xFFFFFFFF < v.natAbs then 0xFFFFFFFF else v.natAbs)) ∧
  (binOf 0 = 0 ∧ (∀ k q, 1 ≤ k → k ≤ 14 → 2 ^ (k - 1) ≤ q → q < 2 ^ k → binOf q = k) ∧ ∀ q, 16384 ≤ q → binOf q = 15) ∧
  (∀ (b : Block) (n k : Nat) (v : Int), tget natD (tget tallyD (b.quantity n v).evr.life n).bins k = (if k =
    binOf (qty v) then (if tget natD (tget tallyD b.evr.life n).bins k < 0xFFFFFFFF then tget natD (tget tallyD b.evr.life n).bins k + 1 else 0xFFFFFFFF) else tget natD (tget tallyD b.evr.life n).bins k)) ∧
  (∀ (b : Block) (n m : Nat) (v : Int), m ≠ n → tget tallyD (b.quantity n v).evr.life m = tget tallyD b.evr.life m)

/-- Every whisk counts, stamps the epoch, drives WHISK_OUT for 1 µs and triggers the recorder, whether or not it latches a snapshot.
For every whisk that is the first at its edge (sources that fall on one edge make one whisk): WHISK_COUNT grows by 1 on its 32 bits,
WHISK_LAST is the low 32 bits of the epoch, WHISK_OUT stays high until 1 µs after this whisk if OUT_EN is 1 and is as before if not,
and with WHISK_TRIG the recorder takes a trigger; without WHISK_TRIG the recorder is as before. So with the snapshot empty, where
the whisk latches, and with it occupied, where it does not. A rise of the pin WHISK_IN with the pin enabled gives such a whisk of
source 1. Rules: R484. -/
def Obligations.WhisksCountDriveAndTrigger : Prop :=
  (∀ (b : Block) (src : Nat) (timed : Bool), (∀ x, b.snap.atEdge = some x → x.1 ≠ b.now) → (b.whisk src timed).snap.count =
    (b.snap.count + 1) % 2 ^ 32 ∧ (b.whisk src timed).snap.last = b.time.epoch % 2 ^ 32 ∧ (b.whisk src timed).snap.outTo =
    (if b.snap.outEn then some (b.now + usE) else b.snap.outTo) ∧ (b.dist.cfg.whisk = false → (b.whisk src timed).dist = b.dist) ∧
    (b.dist.cfg.whisk = true → ∃ c : Block, b.whisk src timed = c.distTrigger b.stamp ∧ c.dist = b.dist)) ∧
  (∀ (s : State), s.blk.snap.pinEn = true → Gives .whiskInEdge s (s.blk.whisk 1 false))

/-- A request is answered once, in its own mailbox, with the 16-byte header that echoes it. Answering a request that is accepted
removes it from the accepted ones; answering one that is not changes nothing, so no request is answered twice. Where the client's
mailbox is one of the host's, its ring has room without a wrap and no response waits, the message stands complete at RSP_PROD with
CLIENT, RSP set, RD as in the request, CMD, SEQ, STATUS, LEN, EPOCH, then the payload and zero padding, and RSP_PROD is advanced by
its 16-byte multiple. Spec: 19_mailbox_interface.md. -/
def Obligations.ResponsesEchoTheirRequest : Prop :=
  (∀ (b : Block) (r : Req) (st e : Nat) (p : List Byte), b.has r = false → b.answer r st e p = b) ∧
  (∀ (b : Block) (r : Req) (st e : Nat) (p : List Byte), b.has r = true → (b.answer r st e p).mbx.accepted =
    b.mbx.accepted.eraseP fun a => a.req == r) ∧
  (∀ (b : Block) (r : Req) (st e : Nat) (p : List Byte) (x : Client), b.has r = true → r.client < 128 →
    tget clientD b.mbx.clients r.client = x → x.stall = false → x.rspCons ≤ x.rspProd → x.rspProd + msgSize p.length < 8192 →
    tget clientD (b.answer r st e p).mbx.clients r.client =
    { x with rspRing := memWrite x.rspRing x.rspProd (msgBytes r.client (r.flags.toNat % 2 + 0x80) r.cmd r.seq st (e % 2 ^ 32) p), rspProd := x.rspProd + msgSize p.length }) ∧
  (∀ (c f cmd seq st e : Nat) (p : List Byte), c < 256 → f < 256 → cmd < 65536 → seq < 2 ^ 32 → st < 65536 → e < 2 ^ 32 →
    p.length ≤ 4096 → (let m := msgBytes c f cmd seq st e p; m.length = msgSize p.length ∧ fld m 0 1 = c ∧ fld m 1 1 = f ∧
    fld m 2 2 = cmd ∧ fld m 4 4 = seq ∧ fld m 8 2 = st ∧ fld m 10 2 = p.length ∧ fld m 12 4 = e ∧ (m.drop 16).take p.length = p))

/-- From the rise of VFLD until the first good frame every output is off, whatever safe state it has been given. When the field side
gains supply, no output is commanded ON. Nothing that happens on the field side other than the arrival of a good downlink frame ends
that: no output is commanded ON, whatever safe state is programmed and whether or not the silence timer expires. After the first
good frame, outside lockout, an expired silence timer commands the programmed safe states. Spec: 02_package_supplies_energy.md. -/
def Obligations.OutputsStayOffUntilAFrame : Prop :=
  (∀ (s : State), Does .fieldPowerUp s fun b => b.fside.powered = true ∧ b.fside.seen = false ∧ b.fside.cmd = 0) ∧
  (∀ (i : Instr) (s : State), onFieldSide i = true → s.blk.fside.seen = false → Does i s fun b => b.fside.seen = false ∧
    b.fside.cmd = 0) ∧
  (∀ (s : State) (ft : Nat), s.blk.bar.run = true → s.blk.fside.powered = true → lineGood 0xB4 s.blk.bar.tx = true →
    Does (.downlinkFrame ft) s fun b => b.fside.seen = true) ∧
  (∀ (s : State), s.blk.fside.seen = false → Does .badDownlinkFrame s fun b => b.fside.seen = false ∧ b.fside.cmd = 0) ∧
  (∀ (f : FldSt), f.powered = true → f.lockout = false → f.seen = true → f.silent = true → f.cmd = f.safe)

/-- What happens on the field side alone changes nothing on the logic side. Frame of the 22 rows that take place on the field side
alone: each answers a next state in which everything outside the field side is as before. Spec: 15_field_io_barrier.md. -/
def Obligations.FieldSideCommandsKeepTheEngine : Prop :=
  ∀ (i : Instr) (s : State), onFieldSide i = true → Does i s fun b => b = { s.blk with fside := b.fside }

/-- The mailbox requests that read or only queue their effect leave all measured, protecting and commanding state as it was. Frame
of 63 mailbox requests: each answers a next state in which only what carries a response (the mailbox, the ports and the fabric), the
flash with its queues, the time part, and the event recorder may differ. Spec: 19_mailbox_interface.md. -/
def Obligations.RequestsKeepTheProcess : Prop :=
  (∀ (s : State) (r : Req), Does (.sysInfo r) s (KeepsProcess s)) ∧
  (∀ (s : State) (r : Req), Does (.sysClient r) s (KeepsProcess s)) ∧
  (∀ (s : State) (r : Req), Does (.sysBstopRead r) s (KeepsProcess s)) ∧
  (∀ (s : State) (r : Req), Does (.sysBstopState r) s (KeepsProcess s)) ∧
  (∀ (s : State) (r : Req), Does (.sysLadleRead r) s (KeepsProcess s)) ∧
  (∀ (s : State) (r : Req), Does (.sysLadleWrite r) s (KeepsProcess s)) ∧
  (∀ (s : State) (r : Req), Does (.sysNop r) s (KeepsProcess s)) ∧
  (∀ (s : State) (r : Req), Does (.cnvInput r) s (KeepsProcess s)) ∧
  (∀ (s : State) (r : Req), Does (.cnvHouse r) s (KeepsProcess s)) ∧
  (∀ (s : State) (r : Req), Does (.cnvPlaus r) s (KeepsProcess s)) ∧
  (∀ (s : State) (r : Req), Does (.cnvTwinRead r) s (KeepsProcess s)) ∧
  (∀ (s : State) (r : Req), Does (.accRead r) s (KeepsProcess s)) ∧
  (∀ (s : State) (r : Req), Does (.accFreq r) s (KeepsProcess s)) ∧
  (∀ (s : State) (r : Req), Does (.accTrack r) s (KeepsProcess s)) ∧
  (∀ (s : State) (r : Req), Does (.accTd r) s (KeepsProcess s)) ∧
  (∀ (s : State) (r : Req), Does (.elemTableRead r) s (KeepsProcess s)) ∧
  (∀ (s : State) (r : Req), Does (.elemSwap r) s (KeepsProcess s)) ∧
  (∀ (s : State) (r : Req), Does (.elemRead r) s (KeepsProcess s)) ∧
  (∀ (s : State) (r : Req), Does (.cycLoadRead r) s (KeepsProcess s)) ∧
  (∀ (s : State) (r : Req), Does (.cycState r) s (KeepsProcess s)) ∧
  (∀ (s : State) (r : Req), Does (.imgRead r) s (KeepsProcess s)) ∧
  (∀ (s : State) (r : Req), Does (.ioCfg r) s (KeepsProcess s)) ∧
  (∀ (s : State) (r : Req), Does (.ioRead r) s (KeepsProcess s)) ∧
  (∀ (s : State) (r : Req), Does (.timeReadNow r) s (KeepsProcess s)) ∧
  (∀ (s : State) (r : Req), Does (.timeReadTick r) s (KeepsProcess s)) ∧
  (∀ (s : State) (r : Req), Does (.timeCfg r) s (KeepsProcess s)) ∧
  (∀ (s : State) (r : Req), Does (.timeSet r) s (KeepsProcess s)) ∧
  (∀ (s : State) (r : Req), Does (.netCfg r) s (KeepsProcess s)) ∧
  (∀ (s : State) (r : Req), Does (.netStat r) s (KeepsProcess s)) ∧
  (∀ (s : State) (r : Req), Does (.fabCfg r) s (KeepsProcess s)) ∧
  (∀ (s : State) (r : Req), Does (.fabRouteWrite r) s (KeepsProcess s)) ∧
  (∀ (s : State) (r : Req), Does (.fabRouteUnpin r) s (KeepsProcess s)) ∧
  (∀ (s : State) (r : Req), Does (.fabRouteRead r) s (KeepsProcess s)) ∧
  (∀ (s : State) (r : Req), Does (.fabInvalidate r) s (KeepsProcess s)) ∧
  (∀ (s : State) (r : Req), Does (.fabNbr r) s (KeepsProcess s)) ∧
  (∀ (s : State) (r : Req), Does (.fabStat r) s (KeepsProcess s)) ∧
  (∀ (s : State) (r : Req), Does (.fabSig r) s (KeepsProcess s)) ∧
  (∀ (s : State) (r : Req), Does (.fabTw r) s (KeepsProcess s)) ∧
  (∀ (s : State) (r : Req), Does (.fabTwloc r) s (KeepsProcess s)) ∧
  (∀ (s : State) (r : Req), Does (.fabCall r) s (KeepsProcess s)) ∧
  (∀ (s : State) (r : Req), Does (.fabAccess r) s (KeepsProcess s)) ∧
  (∀ (s : State) (r : Req), Does (.recNotes r) s (KeepsProcess s)) ∧
  (∀ (s : State) (r : Req), Does (.recCode r) s (KeepsProcess s)) ∧
  (∀ (s : State) (r : Req), Does (.recIndex r) s (KeepsProcess s)) ∧
  (∀ (s : State) (r : Req), Does (.recCfg r) s (KeepsProcess s)) ∧
  (∀ (s : State) (r : Req), Does (.distList r) s (KeepsProcess s)) ∧
  (∀ (s : State) (r : Req), Does (.snapInfo r) s (KeepsProcess s)) ∧
  (∀ (s : State) (r : Req), Does (.updBegin r) s (KeepsProcess s)) ∧
  (∀ (s : State) (r : Req), Does (.updAbort r) s (KeepsProcess s)) ∧
  (∀ (s : State) (r : Req), Does (.updFlash r) s (KeepsProcess s)) ∧
  (∀ (s : State) (r : Req), Does (.updChain r) s (KeepsProcess s)) ∧
  (∀ (s : State) (r : Req), Does (.updActivate r) s (KeepsProcess s)) ∧
  (∀ (s : State) (r : Req), Does (.updConfirm r) s (KeepsProcess s)) ∧
  (∀ (s : State) (r : Req), Does (.updState r) s (KeepsProcess s)) ∧
  (∀ (s : State) (r : Req), Does (.updKey r) s (KeepsProcess s)) ∧
  (∀ (s : State) (r : Req), Does (.diagWheelSummary r) s (KeepsProcess s)) ∧
  (∀ (s : State) (r : Req), Does (.diagWheelRead r) s (KeepsProcess s)) ∧
  (∀ (s : State) (r : Req), Does (.diagCtx r) s (KeepsProcess s)) ∧
  (∀ (s : State) (r : Req), Does (.diagRoute r) s (KeepsProcess s)) ∧
  (∀ (s : State) (r : Req), Does (.diagFaults r) s (KeepsProcess s)) ∧
  (∀ (s : State) (r : Req), Does (.ctlSelect r) s (KeepsProcess s)) ∧
  (∀ (s : State) (r : Req), Does (.ctlOperate r) s (KeepsProcess s)) ∧
  (∀ (s : State) (r : Req), Does (.ctlRead r) s (KeepsProcess s))

/-- Each of these commands changes the one part of the block that it belongs to. Frame of 35 commands: each answers a next state in
which one part of the block (conversion, accumulators, timer wheel, elements, logic, network time, ports, fabric, barrier, mailbox,
snapshot, event recorder, fault handling or flash) may have changed and every other part is as before. Spec:
01_islands_and_data_flow.md. -/
def Obligations.CommandsKeepToTheirPart : Prop :=
  (∀ (s : State) (t : Nat), Does (.trackerNominalTimeout t) s fun b => b = { s.blk with acc := b.acc }) ∧
  (∀ (s : State), Does .tdEffect s fun b => b = { s.blk with acc := b.acc }) ∧
  (∀ (s : State) (n : Nat), Does (.timerHoldExpiry n) s fun b => b = { s.blk with wheel := b.wheel }) ∧
  (∀ (s : State) (p : Path) (k idx : Nat), Does (.urgentRequestStart p k idx) s fun b => b = { s.blk with cnv := b.cnv }) ∧
  (∀ (s : State) (p : Path), Does (.housekeepingRound p) s fun b => b = { s.blk with cnv := b.cnv }) ∧
  (∀ (s : State) (k : Nat), Does (.disputedClear k) s fun b => b = { s.blk with cnv := b.cnv }) ∧
  (∀ (s : State), Does .houseEffect s fun b => b = { s.blk with cnv := b.cnv }) ∧
  (∀ (s : State), Does .plausEffect s fun b => b = { s.blk with cnv := b.cnv }) ∧
  (∀ (s : State) (slot : Nat), Does (.armDelayExpiry slot) s fun b => b = { s.blk with lgc := b.lgc }) ∧
  (∀ (s : State) (slot : Nat), Does (.takeoverImageLoaded slot) s fun b => b = { s.blk with lgc := b.lgc }) ∧
  (∀ (s : State) (slot i : Nat), Does (.selectionLapse slot i) s fun b => b = { s.blk with lgc := b.lgc }) ∧
  (∀ (s : State) (ns : Nat), Does (.linkDelayMeasured ns) s fun b => b = { s.blk with bar := b.bar }) ∧
  (∀ (s : State), Does .ioCfgEffect s fun b => b = { s.blk with bar := b.bar }) ∧
  (∀ (s : State) (ref : Bool), Does (.timSourceSelect ref) s fun b => b = { s.blk with time := b.time }) ∧
  (∀ (s : State), Does .incSlewLapse s fun b => b = { s.blk with time := b.time }) ∧
  (∀ (s : State) (wait : Nat), Does (.stampInterrupt wait) s fun b => b = { s.blk with time := b.time }) ∧
  (∀ (s : State), Does .ppsPulse s fun b => b = { s.blk with time := b.time }) ∧
  (∀ (s : State), Does .ppsPulseEnd s fun b => b = { s.blk with time := b.time }) ∧
  (∀ (s : State) (pair : Nat), Does (.dupEntryExpiry pair) s fun b => b = { s.blk with net := b.net }) ∧
  (∀ (s : State), Does .conflictBlockEnd s fun b => b = { s.blk with fab := b.fab }) ∧
  (∀ (s : State) (addr l : Nat), Does (.neighbourEntryFree addr l) s fun b => b = { s.blk with fab := b.fab }) ∧
  (∀ (s : State), Does .segmentReassemblyTimeout s fun b => b = { s.blk with fab := b.fab }) ∧
  (∀ (s : State), Does .fabricWhiskAnswer s fun b => b = { s.blk with fab := b.fab }) ∧
  (∀ (s : State), Does .fabTwEffect s fun b => b = { s.blk with fab := b.fab }) ∧
  (∀ (s : State) (c : Nat), Does (.responseRingRoom c) s fun b => b = { s.blk with mbx := b.mbx }) ∧
  (∀ (s : State) (v : Nat), Does (.vectorSignal v) s fun b => b = { s.blk with mbx := b.mbx }) ∧
  (∀ (s : State), Does .qspiStatus s fun b => b = { s.blk with mbx := b.mbx }) ∧
  (∀ (s : State), Does .routeEffect s fun b => b = { s.blk with mbx := b.mbx }) ∧
  (∀ (s : State) (c : Nat), Does (.ringResetComplete c) s fun b => b = { s.blk with mbx := b.mbx }) ∧
  (∀ (s : State), Does .whiskOutEnd s fun b => b = { s.blk with snap := b.snap }) ∧
  (∀ (s : State), Does .recCfgEffect s fun b => b = { s.blk with evr := b.evr }) ∧
  (∀ (s : State), Does .colanderRefill s fun b => b = { s.blk with evr := b.evr }) ∧
  (∀ (s : State) (i : Nat), Does (.descriptorRepair i) s fun b => b = { s.blk with elm := b.elm }) ∧
  (∀ (s : State), Does .microcodeReloadComplete s fun b => b = { s.blk with flt := b.flt }) ∧
  (∀ (s : State), Does .fuseStepBurned s fun b => b = { s.blk with nv := b.nv })

/-- Each of these commands changes the parts it belongs to, and beside them only what an event writes. Frame of 48 commands that may
raise events: each answers a next state in which the parts of the block it belongs to may have changed, and beside them the event
recorder, the SUPPRESSED counts and the vectors that an event signals; every other part is as before. A publication also runs the
clock on to its instant and fills a snapshot that latches. Spec: 01_islands_and_data_flow.md, 20_event_recorder.md. -/
def Obligations.RaisingCommandsKeepToTheirParts : Prop :=
  (∀ (s : State) (p : Nat) (long : Bool), Does (.rxBadFrame p long) s fun b => b =
    { s.blk with nv := b.nv, evr := b.evr, mbx := b.mbx, net := b.net }) ∧
  (∀ (s : State) (p : Nat), Does (.prpPortLost p) s fun b => b =
    { s.blk with nv := b.nv, evr := b.evr, mbx := b.mbx, net := b.net }) ∧
  (∀ (s : State) (p : Nat), Does (.hsrRingOpen p) s fun b => b =
    { s.blk with nv := b.nv, evr := b.evr, mbx := b.mbx, net := b.net }) ∧
  (∀ (s : State), Does .uplinkDiFrame s fun b => b =
    { s.blk with nv := b.nv, evr := b.evr, mbx := b.mbx, fside := b.fside, bar := b.bar }) ∧
  (∀ (s : State), Does .auxIdle s fun b => b =
    { s.blk with nv := b.nv, evr := b.evr, mbx := b.mbx, fside := b.fside, bar := b.bar }) ∧
  (∀ (s : State) (j : Nat) (cur : BitVec 12), Does (.auxDiag j cur) s fun b => b =
    { s.blk with nv := b.nv, evr := b.evr, mbx := b.mbx, fside := b.fside, bar := b.bar }) ∧
  (∀ (s : State) (ft : Nat), Does (.auxTime ft) s fun b => b =
    { s.blk with nv := b.nv, evr := b.evr, mbx := b.mbx, fside := b.fside, bar := b.bar }) ∧
  (∀ (s : State) (vfld : BitVec 12) (temp : Byte), Does (.auxStatus vfld temp) s fun b => b =
    { s.blk with nv := b.nv, evr := b.evr, mbx := b.mbx, fside := b.fside, bar := b.bar }) ∧
  (∀ (s : State) (a : Nat), Does (.auxCfgecho a) s fun b => b =
    { s.blk with nv := b.nv, evr := b.evr, mbx := b.mbx, fside := b.fside, bar := b.bar }) ∧
  (∀ (s : State) (aux : Bool), Does (.badUplinkFrame aux) s fun b => b =
    { s.blk with nv := b.nv, evr := b.evr, mbx := b.mbx, fside := b.fside, bar := b.bar }) ∧
  (∀ (s : State), Does .uplinkLoss s fun b => b = { s.blk with nv := b.nv, evr := b.evr, mbx := b.mbx, bar := b.bar }) ∧
  (∀ (s : State) (a : Nat), Does (.cfgechoMismatch a) s fun b => b =
    { s.blk with nv := b.nv, evr := b.evr, mbx := b.mbx, bar := b.bar }) ∧
  (∀ (s : State), Does .pendingAdmission s fun b => b = { s.blk with nv := b.nv, evr := b.evr, mbx := b.mbx, fab := b.fab }) ∧
  (∀ (s : State), Does .ownProbationEnd s fun b => b = { s.blk with nv := b.nv, evr := b.evr, mbx := b.mbx, fab := b.fab }) ∧
  (∀ (s : State), Does .twRecordRx s fun b => b = { s.blk with nv := b.nv, evr := b.evr, mbx := b.mbx, fab := b.fab }) ∧
  (∀ (s : State), Does .twPairWaitExpiry s fun b => b = { s.blk with nv := b.nv, evr := b.evr, mbx := b.mbx, fab := b.fab }) ∧
  (∀ (s : State), Does .sessionCloseRx s fun b => b = { s.blk with nv := b.nv, evr := b.evr, mbx := b.mbx, fab := b.fab }) ∧
  (∀ (s : State) (bsd : Bool) (d : Nat), Does (.twGroupClose bsd d) s fun b => b =
    { s.blk with nv := b.nv, evr := b.evr, mbx := b.mbx, acc := b.acc, bs := b.bs, dist := b.dist }) ∧
  (∀ (s : State) (bsd : Bool) (d : Nat), Does (.twDeadTimeEnd bsd d) s fun b => b =
    { s.blk with nv := b.nv, evr := b.evr, mbx := b.mbx, acc := b.acc, bs := b.bs, dist := b.dist }) ∧
  (∀ (s : State) (bsd : Bool) (d : Nat), Does (.incReferenceRelease bsd d) s fun b => b =
    { s.blk with nv := b.nv, evr := b.evr, mbx := b.mbx, acc := b.acc, bs := b.bs, dist := b.dist }) ∧
  (∀ (s : State), Does .accGenerationPublish s fun b => b =
    { s.blk with nv := b.nv, time := b.time, evr := b.evr, mbx := b.mbx, cnv := b.cnv, acc := b.acc, snap := b.snap }) ∧
  (∀ (s : State), Does .recordClose s fun b => b = { s.blk with nv := b.nv, evr := b.evr, mbx := b.mbx, dist := b.dist }) ∧
  (∀ (s : State), Does .recordComplete s fun b => b = { s.blk with nv := b.nv, evr := b.evr, mbx := b.mbx, dist := b.dist }) ∧
  (∀ (s : State) (mem row : Nat) (ok : Bool), Does (.rowMarchTestComplete mem row ok) s fun b => b =
    { s.blk with nv := b.nv, evr := b.evr, mbx := b.mbx, flt := b.flt }) ∧
  (∀ (s : State), Does .dieOvertemp s fun b => b = { s.blk with nv := b.nv, evr := b.evr, mbx := b.mbx, flt := b.flt }) ∧
  (∀ (s : State) (up : Bool) (speed width : Nat), Does (.pcieLinkStateChange up speed width) s fun b => b =
    { s.blk with nv := b.nv, evr := b.evr, mbx := b.mbx }) ∧
  (∀ (s : State), Does .bar0AccessError s fun b => b = { s.blk with nv := b.nv, evr := b.evr, mbx := b.mbx }) ∧
  (∀ (s : State) (p : Nat), Does (.timedLaunch p) s fun b => b =
    { s.blk with nv := b.nv, time := b.time, evr := b.evr, mbx := b.mbx, net := b.net }) ∧
  (∀ (s : State) (p domain seq requester : Nat), Does (.ptpPdelayReq p domain seq requester) s fun b => b =
    { s.blk with nv := b.nv, time := b.time, evr := b.evr, mbx := b.mbx, net := b.net }) ∧
  (∀ (s : State) (p : Nat) (k : PtpKind), Does (.ptpTransmitInterval p k) s fun b => b =
    { s.blk with nv := b.nv, time := b.time, evr := b.evr, mbx := b.mbx, net := b.net }) ∧
  (∀ (s : State) (pair : Nat), Does (.prpSupervisionTx pair) s fun b => b =
    { s.blk with nv := b.nv, time := b.time, evr := b.evr, mbx := b.mbx, net := b.net }) ∧
  (∀ (s : State) (h : RxHdr) (own sup mine : Bool), Does (.hsrForward h own sup mine) s fun b => b =
    { s.blk with nv := b.nv, time := b.time, evr := b.evr, mbx := b.mbx, net := b.net }) ∧
  (∀ (s : State) (pair : Nat), Does (.hsrSupervisionTx pair) s fun b => b =
    { s.blk with nv := b.nv, time := b.time, evr := b.evr, mbx := b.mbx, net := b.net }) ∧
  (∀ (s : State), Does .tim10mLoss s fun b => b =
    { s.blk with nv := b.nv, time := b.time, evr := b.evr, mbx := b.mbx, cnv := b.cnv, fab := b.fab }) ∧
  (∀ (s : State) (v : Byte), Does (.incTransfer v) s fun b => b =
    { s.blk with nv := b.nv, time := b.time, evr := b.evr, mbx := b.mbx }) ∧
  (∀ (s : State) (abs : Bool), Does (.timeStepGo abs) s fun b => b =
    { s.blk with nv := b.nv, time := b.time, evr := b.evr, mbx := b.mbx, cnv := b.cnv, fab := b.fab }) ∧
  (∀ (s : State) (p : Nat), Does (.announceTimeout p) s fun b => b =
    { s.blk with nv := b.nv, time := b.time, evr := b.evr, mbx := b.mbx, cnv := b.cnv, fab := b.fab }) ∧
  (∀ (s : State), Does .holdoverExpiry s fun b => b =
    { s.blk with nv := b.nv, time := b.time, evr := b.evr, mbx := b.mbx, cnv := b.cnv, fab := b.fab }) ∧
  (∀ (s : State), Does .steppedTimeout s fun b => b =
    { s.blk with nv := b.nv, time := b.time, evr := b.evr, mbx := b.mbx, cnv := b.cnv, fab := b.fab }) ∧
  (∀ (s : State), Does .estRecompute s fun b => b =
    { s.blk with nv := b.nv, time := b.time, evr := b.evr, mbx := b.mbx, cnv := b.cnv, fab := b.fab }) ∧
  (∀ (s : State), Does .timeCfgEffect s fun b => b =
    { s.blk with nv := b.nv, time := b.time, evr := b.evr, mbx := b.mbx, cnv := b.cnv, fab := b.fab }) ∧
  (∀ (s : State), Does .timeSetEffect s fun b => b =
    { s.blk with nv := b.nv, time := b.time, evr := b.evr, mbx := b.mbx, cnv := b.cnv, fab := b.fab }) ∧
  (∀ (s : State) (n : Nat), Does (.timerExpiry n) s fun b => b =
    { s.blk with nv := b.nv, evr := b.evr, mbx := b.mbx, wheel := b.wheel, lgc := b.lgc }) ∧
  (∀ (s : State), Does .latchClearEffect s fun b => b = { s.blk with nv := b.nv, evr := b.evr, mbx := b.mbx, elm := b.elm }) ∧
  (∀ (s : State) (j : Nat), Does (.backstopMinOnExpiry j) s fun b => b =
    { s.blk with nv := b.nv, evr := b.evr, mbx := b.mbx, bs := b.bs, dist := b.dist }) ∧
  (∀ (s : State) (k : Nat), Does (.converterSelfTestStart k) s fun b => b =
    { s.blk with nv := b.nv, evr := b.evr, mbx := b.mbx, cnv := b.cnv, bs := b.bs }) ∧
  (∀ (s : State), Does .badDownlinkFrame s fun b => b =
    { s.blk with nv := b.nv, evr := b.evr, mbx := b.mbx, fside := b.fside, bar := b.bar }) ∧
  (∀ (s : State) (k : Nat), Does (.returningEnd k) s fun b => b =
    { s.blk with nv := b.nv, evr := b.evr, mbx := b.mbx, cnv := b.cnv, bs := b.bs })

/-- The flow instructions have their effect or their fault. Where the task's next instruction may be fetched: exec answers a next
state with the outcome of R252 to R254 put back into the slot. NOP does nothing; END outside a LOCK section ends the run; TRAP is
the USER fault with its code; an undefined opcode is ILL; LOCK and UNLOCK enter and leave a section; CALL and RET push and pop the
return stack; JMP jumps, JT and JF where their local says so, DJNZ counts down and jumps while the new value is not 0. END and LOCK
inside a section, UNLOCK outside and an operand local of another type are ILL; a taken target outside the code is RANGE; a full or
empty return stack is DEPTH; a fault writes nothing (R250). Spec: 12_fjoask_instructions.md. -/
def Obligations.FjFlowInstructionsComplete : Prop :=
  (∀ (s : State) (slot : Nat) (f : Fj), FjReady s.blk slot 1 f → FjEnds (.fjNop slot) s slot 1 f { f := f.counted }) ∧
  (∀ (s : State) (slot : Nat) (f : Fj), FjReady s.blk slot 1 f → f.x.lockcnt = 0 →
    FjEnds (.fjEnd slot) s slot 1 f { f := f.counted, ended := true }) ∧
  (∀ (s : State) (slot : Nat) (f : Fj) (k : BitVec 8), FjReady s.blk slot 2 f →
    FjEnds (.fjTrap slot k) s slot 2 f { f := f.counted, fault := 6, trap := k.toNat }) ∧
  (∀ (s : State) (slot : Nat) (f : Fj), FjReady s.blk slot 1 f →
    FjEnds (.fjIllegalOpcode slot false) s slot 1 f { f := f.counted, fault := 1 }) ∧
  (∀ (s : State) (slot : Nat) (f : Fj), FjReady s.blk slot 2 f →
    FjEnds (.fjIllegalOpcode slot true) s slot 2 f { f := f.counted, fault := 1 }) ∧
  (∀ (s : State) (slot : Nat) (f : Fj), FjReady s.blk slot 1 f → f.x.lockcnt = 0 →
    FjEnds (.fjLock slot) s slot 1 f { f := { f with x := { f.x with lockcnt := 1 } } }) ∧
  (∀ (s : State) (slot : Nat) (f : Fj), FjReady s.blk slot 1 f → f.x.lockcnt ≠ 0 →
    FjEnds (.fjUnlock slot) s slot 1 f { f := { f with x := { f.x with lockcnt := 0 } } }) ∧
  (∀ (s : State) (slot : Nat) (f : Fj) (a : BitVec 24), FjReady s.blk slot 4 f → a.toNat < f.img.code → f.x.rstack.length < 16 →
    FjEnds (.fjCall slot a) s slot 4 f { f := { f.counted with x := { f.counted.x with rstack := (f.x.pc + 4) :: f.x.rstack } }, jump := some a.toNat }) ∧
  (∀ (s : State) (slot : Nat) (f : Fj) (p : Nat) (r : List Nat), FjReady s.blk slot 1 f → f.x.rstack = p :: r →
    FjEnds (.fjRet slot) s slot 1 f { f := { f.counted with x := { f.counted.x with rstack := r } }, jump := some p }) ∧
  (∀ (s : State) (slot : Nat) (f : Fj) (r : BitVec 16) (n : Nat), FjReady s.blk slot 3 f → (n : Int) =
    (f.x.pc + 3 : Nat) + r.toInt → n < f.img.code → FjEnds (.fjJmp slot r) s slot 3 f { f := f.counted, jump := some n }) ∧
  (∀ (s : State) (slot : Nat) (f : Fj) (i : Instr), FjReady s.blk slot 1 f → i ∈ [.fjEnd slot, .fjLock slot] → f.x.lockcnt ≠ 0 →
    FjFaults i s slot 1 f 1) ∧
  (∀ (s : State) (slot : Nat) (f : Fj), FjReady s.blk slot 1 f → f.x.lockcnt = 0 → FjFaults (.fjUnlock slot) s slot 1 f 1) ∧
  (∀ (s : State) (slot : Nat) (f : Fj) (a : BitVec 24), FjReady s.blk slot 4 f → f.img.code ≤ a.toNat →
    FjFaults (.fjCall slot a) s slot 4 f 2) ∧
  (∀ (s : State) (slot : Nat) (f : Fj) (a : BitVec 24), FjReady s.blk slot 4 f → a.toNat < f.img.code → 16 ≤ f.x.rstack.length →
    FjFaults (.fjCall slot a) s slot 4 f 4) ∧
  (∀ (s : State) (slot : Nat) (f : Fj), FjReady s.blk slot 1 f → f.x.rstack = [] → FjFaults (.fjRet slot) s slot 1 f 4) ∧
  (∀ (s : State) (slot : Nat) (f : Fj) (r : BitVec 16), FjReady s.blk slot 3 f → ((f.x.pc + 3 : Nat) + r.toInt < 0 ∨
    (f.img.code : Int) ≤ (f.x.pc + 3 : Nat) + r.toInt) → FjFaults (.fjJmp slot r) s slot 3 f 2) ∧
  (∀ (s : State) (slot : Nat) (f : Fj) (c : BitVec 8) (r : BitVec 16) (n : Nat), FjReady s.blk slot 4 f → f.is [.bool] c = true →
    f.flag c = true → (n : Int) = (f.x.pc + 4 : Nat) + r.toInt → n < f.img.code →
    FjEnds (.fjJt slot c r) s slot 4 f { f := f.counted, jump := some n }) ∧
  (∀ (s : State) (slot : Nat) (f : Fj) (c : BitVec 8) (r : BitVec 16), FjReady s.blk slot 4 f → f.is [.bool] c = true → f.flag c =
    false → FjEnds (.fjJt slot c r) s slot 4 f { f := f.counted }) ∧
  (∀ (s : State) (slot : Nat) (f : Fj) (c : BitVec 8) (r : BitVec 16), FjReady s.blk slot 4 f → f.is [.bool] c = true → f.flag c =
    true → ((f.x.pc + 4 : Nat) + r.toInt < 0 ∨ (f.img.code : Int) ≤ (f.x.pc + 4 : Nat) + r.toInt) →
    FjFaults (.fjJt slot c r) s slot 4 f 2) ∧
  (∀ (s : State) (slot : Nat) (f : Fj) (c : BitVec 8) (r : BitVec 16) (n : Nat), FjReady s.blk slot 4 f → f.is [.bool] c = true →
    f.flag c = false → (n : Int) = (f.x.pc + 4 : Nat) + r.toInt → n < f.img.code →
    FjEnds (.fjJf slot c r) s slot 4 f { f := f.counted, jump := some n }) ∧
  (∀ (s : State) (slot : Nat) (f : Fj) (c : BitVec 8) (r : BitVec 16), FjReady s.blk slot 4 f → f.is [.bool] c = true → f.flag c =
    true → FjEnds (.fjJf slot c r) s slot 4 f { f := f.counted }) ∧
  (∀ (s : State) (slot : Nat) (f : Fj) (c : BitVec 8) (r : BitVec 16), FjReady s.blk slot 4 f → f.is [.bool] c = true → f.flag c =
    false → ((f.x.pc + 4 : Nat) + r.toInt < 0 ∨ (f.img.code : Int) ≤ (f.x.pc + 4 : Nat) + r.toInt) →
    FjFaults (.fjJf slot c r) s slot 4 f 2) ∧
  (∀ (s : State) (slot : Nat) (f : Fj) (u : BitVec 8) (r : BitVec 16), FjReady s.blk slot 4 f → f.is [.uint] u = true →
    f.val u ≤ 1 → FjEnds (.fjDjnz slot u r) s slot 4 f { f := if f.val u = 0 then f.counted else f.counted.set u 0 }) ∧
  (∀ (s : State) (slot : Nat) (f : Fj) (u : BitVec 8) (r : BitVec 16) (n : Nat), FjReady s.blk slot 4 f → f.is [.uint] u = true →
    2 ≤ f.val u → (n : Int) = (f.x.pc + 4 : Nat) + r.toInt → n < f.img.code →
    FjEnds (.fjDjnz slot u r) s slot 4 f { f := f.counted.set u (f.val u - 1), jump := some n }) ∧
  (∀ (s : State) (slot : Nat) (f : Fj) (u : BitVec 8) (r : BitVec 16), FjReady s.blk slot 4 f → f.is [.uint] u = true →
    2 ≤ f.val u → ((f.x.pc + 4 : Nat) + r.toInt < 0 ∨ (f.img.code : Int) ≤ (f.x.pc + 4 : Nat) + r.toInt) →
    FjFaults (.fjDjnz slot u r) s slot 4 f 2) ∧
  (∀ (s : State) (slot : Nat) (f : Fj) (c : BitVec 8) (r : BitVec 16), FjReady s.blk slot 4 f → f.is [.bool] c = false →
    FjFaults (.fjJt slot c r) s slot 4 f 1 ∧ FjFaults (.fjJf slot c r) s slot 4 f 1) ∧
  (∀ (s : State) (slot : Nat) (f : Fj) (u : BitVec 8) (r : BitVec 16), FjReady s.blk slot 4 f → f.is [.uint] u = false →
    FjFaults (.fjDjnz slot u r) s slot 4 f 1)

/-- The load, store and move instructions have their effect or their fault. Where the task's next instruction may be fetched: with
operand locals of the types of R255, words inside their area and, for a store, words that the task may write, exec answers a next
state in which the local named has received the value, or the word named has been written, at once in data memory and staged in the
output half (R255, R256, R245). An operand local of another type or a reserved bit number or BOOL constant is ILL, an address or
index outside its area RANGE, a store to the input half or outside OUTSET ACCESS, the first of these deciding; a fault writes
nothing (R250). Spec: 12_fjoask_instructions.md. -/
def Obligations.FjLoadsAndStoresComplete : Prop :=
  (∀ (s : State) (slot : Nat) (f : Fj) (d : BitVec 8) (a : BitVec 16), FjReady s.blk slot 4 f → f.is tyW d = true →
    FjEnds (.fjLd slot d a) s slot 4 f { f := f.counted.set d (loadAs (f.ty d) (f.rd a.toNat)) }) ∧
  (∀ (s : State) (slot : Nat) (f : Fj) (d : BitVec 8) (a : BitVec 16), FjReady s.blk slot 4 f → f.is tyD d = true →
    inArea a.toNat 0 2 = true →
    FjEnds (.fjLd2 slot d a) s slot 4 f { f := f.counted.set d ((f.rd a.toNat).toNat + 2 ^ 32 * (f.rd (a.toNat + 1)).toNat) }) ∧
  (∀ (s : State) (slot : Nat) (f : Fj) (a : BitVec 16) (v : BitVec 8), FjReady s.blk slot 4 f → f.is tyW v = true →
    f.noWrite a.toNat = false → FjEnds (.fjSt slot a v) s slot 4 f { f := f.counted.wr a.toNat (f.word v) }) ∧
  (∀ (s : State) (slot : Nat) (f : Fj) (a : BitVec 16) (v : BitVec 8), FjReady s.blk slot 4 f → f.is tyD v = true →
    inArea a.toNat 0 2 = true → f.noWrite a.toNat = false → f.noWrite (a.toNat + 1) = false →
    FjEnds (.fjSt2 slot a v) s slot 4 f { f := (f.counted.wr a.toNat (f.word v)).wr (a.toNat + 1) (BitVec.ofNat 32 (f.val v / 2 ^ 32)) }) ∧
  (∀ (s : State) (slot : Nat) (f : Fj) (d : BitVec 8) (a : BitVec 16) (i : BitVec 8), FjReady s.blk slot 5 f → f.is tyW d = true →
    f.is [.uint] i = true → inArea a.toNat (f.val i) 1 = true →
    FjEnds (.fjLdx slot d a i) s slot 5 f { f := f.counted.set d (loadAs (f.ty d) (f.rd (a.toNat + f.val i))) }) ∧
  (∀ (s : State) (slot : Nat) (f : Fj) (a : BitVec 16) (i v : BitVec 8), FjReady s.blk slot 5 f → f.is [.uint] i = true →
    f.is tyW v = true → inArea a.toNat (f.val i) 1 = true → f.noWrite (a.toNat + f.val i) = false →
    FjEnds (.fjStx slot a i v) s slot 5 f { f := f.counted.wr (a.toNat + f.val i) (f.word v) }) ∧
  (∀ (s : State) (slot : Nat) (f : Fj) (d : BitVec 8) (a : BitVec 16) (k : BitVec 8), FjReady s.blk slot 5 f → f.is [.bool] d =
    true → k.toNat < 32 → FjEnds (.fjLdb slot d a k) s slot 5 f { f := f.counted.setB d (bitOf (f.rd a.toNat).toNat k.toNat) }) ∧
  (∀ (s : State) (slot : Nat) (f : Fj) (a : BitVec 16) (k v : BitVec 8), FjReady s.blk slot 5 f → f.is [.bool] v = true →
    k.toNat < 32 → f.noWrite a.toNat = false →
    FjEnds (.fjStb slot a k v) s slot 5 f { f := f.counted.wrMask a.toNat (2 ^ k.toNat) (if f.flag v then 0xFFFFFFFF else 0) }) ∧
  (∀ (s : State) (slot : Nat) (f : Fj) (d a : BitVec 8), FjReady s.blk slot 3 f → f.same tyAll [d, a] = true →
    FjEnds (.fjMov slot d a) s slot 3 f { f := f.counted.set d (f.val a) }) ∧
  (∀ (s : State) (slot : Nat) (f : Fj) (d : BitVec 8) (k : BitVec 32), FjReady s.blk slot 6 f → f.is (.time :: tyW) d = true →
    FjEnds (.fjLdk slot d k) s slot 6 f { f := if f.ty d = .time then f.counted.setI d k.toInt else f.counted.set d (loadAs (f.ty d) k) }) ∧
  (∀ (s : State) (slot : Nat) (f : Fj) (d k : BitVec 8), FjReady s.blk slot 3 f → f.is [.int, .time] d = true →
    FjEnds (.fjLdk8 slot d k) s slot 3 f { f := f.counted.setI d k.toInt }) ∧
  (∀ (s : State) (slot : Nat) (f : Fj) (d k : BitVec 8), FjReady s.blk slot 3 f → f.is [.uint, .qual] d = true →
    FjEnds (.fjLdk8 slot d k) s slot 3 f { f := f.counted.set d k.toNat }) ∧
  (∀ (s : State) (slot : Nat) (f : Fj) (d k : BitVec 8), FjReady s.blk slot 3 f → f.is [.bool] d = true → k.toNat < 2 →
    FjEnds (.fjLdk8 slot d k) s slot 3 f { f := f.counted.set d k.toNat }) ∧
  (∀ (s : State) (slot : Nat) (f : Fj) (d k : BitVec 8), FjReady s.blk slot 3 f → f.is [.real] d = true →
    FjEnds (.fjLdk8 slot d k) s slot 3 f { f := f.counted.setW d (intToF k.toInt 1).1 }) ∧
  (∀ (s : State) (slot : Nat) (f : Fj) (d : BitVec 8) (k : BitVec 32), FjReady s.blk slot 6 f → f.is [.time] d = true →
    FjEnds (.fjLdkh slot d k) s slot 6 f { f := f.counted.set d (f.val d % 2 ^ 32 + 2 ^ 32 * k.toNat) }) ∧
  (∀ (s : State) (slot : Nat) (f : Fj) (d : BitVec 8) (a : BitVec 16), FjReady s.blk slot 4 f → f.is tyW d = false →
    FjFaults (.fjLd slot d a) s slot 4 f 1 ∧ FjFaults (.fjSt slot a d) s slot 4 f 1) ∧
  (∀ (s : State) (slot : Nat) (f : Fj) (d : BitVec 8) (a : BitVec 16), FjReady s.blk slot 4 f → f.is tyD d = false →
    FjFaults (.fjLd2 slot d a) s slot 4 f 1 ∧ FjFaults (.fjSt2 slot a d) s slot 4 f 1) ∧
  (∀ (s : State) (slot : Nat) (f : Fj) (d : BitVec 8) (a : BitVec 16), FjReady s.blk slot 4 f → f.is tyD d = true →
    inArea a.toNat 0 2 = false → FjFaults (.fjLd2 slot d a) s slot 4 f 2 ∧ FjFaults (.fjSt2 slot a d) s slot 4 f 2) ∧
  (∀ (s : State) (slot : Nat) (f : Fj) (v : BitVec 8) (a : BitVec 16), FjReady s.blk slot 4 f → f.is tyW v = true →
    f.noWrite a.toNat = true → FjFaults (.fjSt slot a v) s slot 4 f 3) ∧
  (∀ (s : State) (slot : Nat) (f : Fj) (v : BitVec 8) (a : BitVec 16), FjReady s.blk slot 4 f → f.is tyD v = true →
    inArea a.toNat 0 2 = true → f.noWrite a.toNat = true ∨ f.noWrite (a.toNat + 1) = true → FjFaults (.fjSt2 slot a v) s slot 4 f 3) ∧
  (∀ (s : State) (slot : Nat) (f : Fj) (d i : BitVec 8) (a : BitVec 16), FjReady s.blk slot 5 f → f.is tyW d = false ∨
    f.is [.uint] i = false → FjFaults (.fjLdx slot d a i) s slot 5 f 1 ∧ FjFaults (.fjStx slot a i d) s slot 5 f 1) ∧
  (∀ (s : State) (slot : Nat) (f : Fj) (d i : BitVec 8) (a : BitVec 16), FjReady s.blk slot 5 f → f.is tyW d = true →
    f.is [.uint] i = true → inArea a.toNat (f.val i) 1 = false → FjFaults (.fjLdx slot d a i) s slot 5 f 2 ∧
    FjFaults (.fjStx slot a i d) s slot 5 f 2) ∧
  (∀ (s : State) (slot : Nat) (f : Fj) (v i : BitVec 8) (a : BitVec 16), FjReady s.blk slot 5 f → f.is tyW v = true →
    f.is [.uint] i = true → inArea a.toNat (f.val i) 1 = true → f.noWrite (a.toNat + f.val i) = true →
    FjFaults (.fjStx slot a i v) s slot 5 f 3) ∧
  (∀ (s : State) (slot : Nat) (f : Fj) (d k : BitVec 8) (a : BitVec 16), FjReady s.blk slot 5 f → f.is [.bool] d = false ∨
    32 ≤ k.toNat → FjFaults (.fjLdb slot d a k) s slot 5 f 1 ∧ FjFaults (.fjStb slot a k d) s slot 5 f 1) ∧
  (∀ (s : State) (slot : Nat) (f : Fj) (v k : BitVec 8) (a : BitVec 16), FjReady s.blk slot 5 f → f.is [.bool] v = true →
    k.toNat < 32 → f.noWrite a.toNat = true → FjFaults (.fjStb slot a k v) s slot 5 f 3) ∧
  (∀ (s : State) (slot : Nat) (f : Fj) (d a : BitVec 8), FjReady s.blk slot 3 f → f.same tyAll [d, a] = false →
    FjFaults (.fjMov slot d a) s slot 3 f 1) ∧
  (∀ (s : State) (slot : Nat) (f : Fj) (d : BitVec 8) (k : BitVec 32), FjReady s.blk slot 6 f → f.is (.time :: tyW) d = false →
    FjFaults (.fjLdk slot d k) s slot 6 f 1) ∧
  (∀ (s : State) (slot : Nat) (f : Fj) (d k : BitVec 8), FjReady s.blk slot 3 f → f.is (.time :: tyW) d = false ∨ (f.ty d = .bool ∧
    2 ≤ k.toNat) → FjFaults (.fjLdk8 slot d k) s slot 3 f 1) ∧
  (∀ (s : State) (slot : Nat) (f : Fj) (d : BitVec 8) (k : BitVec 32), FjReady s.blk slot 6 f → f.is [.time] d = false →
    FjFaults (.fjLdkh slot d k) s slot 6 f 1)

/-- The integer and bit instructions have their effect or their fault. Where the task's next instruction may be fetched: for ADD,
SUB, MUL, DIV, REM, NEG, ABS, MIN, MAX, ADDK, AND, OR, XOR, NOT, SHL and SHR with operands of one type of the row's list, exec
answers a next state in which local d holds the exact integer result, saturated with OF where it lies outside the type (R257, R281),
the bitwise result on the type's width, or for a zero divisor the result of R282 with DZ. Operand locals of other types are ILL and
nothing is written (R250). Spec: 12_fjoask_instructions.md, 13_fjoask_arithmetic.md. -/
def Obligations.FjIntegerInstructionsComplete : Prop :=
  (∀ (s : State) (slot : Nat) (f : Fj) (d a b : BitVec 8), FjReady s.blk slot 4 f → f.same tyIUT [d, a, b] = true →
    FjEnds (.fjAdd slot d a b) s slot 4 f { f := f.counted.sat d (f.int a + f.int b) }) ∧
  (∀ (s : State) (slot : Nat) (f : Fj) (d a b : BitVec 8), FjReady s.blk slot 4 f → f.same tyIUT [d, a, b] = true →
    FjEnds (.fjSub slot d a b) s slot 4 f { f := f.counted.sat d (f.int a - f.int b) }) ∧
  (∀ (s : State) (slot : Nat) (f : Fj) (d a b : BitVec 8), FjReady s.blk slot 4 f → f.same tyIU [d, a, b] = true →
    FjEnds (.fjMul slot d a b) s slot 4 f { f := f.counted.sat d (f.int a * f.int b) }) ∧
  (∀ (s : State) (slot : Nat) (f : Fj) (d a b : BitVec 8), FjReady s.blk slot 4 f → f.same tyIU [d, a, b] = true → f.int b ≠ 0 →
    FjEnds (.fjDiv slot d a b) s slot 4 f { f := f.counted.sat d (Int.tdiv (f.int a) (f.int b)) }) ∧
  (∀ (s : State) (slot : Nat) (f : Fj) (d a b : BitVec 8), FjReady s.blk slot 4 f → f.same tyIU [d, a, b] = true → f.int b = 0 →
    FjEnds (.fjDiv slot d a b) s slot 4 f { f := (f.counted.setI d (if f.int a = 0 then 0 else if f.int a < 0 then (limits (f.ty d)).1 else (limits (f.ty d)).2)).flags { dz := true } }) ∧
  (∀ (s : State) (slot : Nat) (f : Fj) (d a b : BitVec 8), FjReady s.blk slot 4 f → f.same tyIU [d, a, b] = true → f.int b ≠ 0 →
    FjEnds (.fjRem slot d a b) s slot 4 f { f := f.counted.setI d (Int.tmod (f.int a) (f.int b)) }) ∧
  (∀ (s : State) (slot : Nat) (f : Fj) (d a b : BitVec 8), FjReady s.blk slot 4 f → f.same tyIU [d, a, b] = true → f.int b = 0 →
    FjEnds (.fjRem slot d a b) s slot 4 f { f := (f.counted.setI d (f.int a)).flags { dz := true } }) ∧
  (∀ (s : State) (slot : Nat) (f : Fj) (d a : BitVec 8), FjReady s.blk slot 3 f → f.same tyIT [d, a] = true →
    FjEnds (.fjNeg slot d a) s slot 3 f { f := f.counted.sat d (-(f.int a)) }) ∧
  (∀ (s : State) (slot : Nat) (f : Fj) (d a : BitVec 8), FjReady s.blk slot 3 f → f.same tyIT [d, a] = true →
    FjEnds (.fjAbs slot d a) s slot 3 f { f := f.counted.sat d (f.int a).natAbs }) ∧
  (∀ (s : State) (slot : Nat) (f : Fj) (d a b : BitVec 8), FjReady s.blk slot 4 f → f.same tyIUT [d, a, b] = true →
    FjEnds (.fjMin slot d a b) s slot 4 f { f := f.counted.sat d (min (f.int a) (f.int b)) }) ∧
  (∀ (s : State) (slot : Nat) (f : Fj) (d a b : BitVec 8), FjReady s.blk slot 4 f → f.same tyIUT [d, a, b] = true →
    FjEnds (.fjMax slot d a b) s slot 4 f { f := f.counted.sat d (max (f.int a) (f.int b)) }) ∧
  (∀ (s : State) (slot : Nat) (f : Fj) (d a k : BitVec 8), FjReady s.blk slot 4 f → f.same tyIUT [d, a] = true →
    FjEnds (.fjAddk slot d a k) s slot 4 f { f := f.counted.sat d (f.int a + k.toInt) }) ∧
  (∀ (s : State) (slot : Nat) (f : Fj) (d a b : BitVec 8), FjReady s.blk slot 4 f → f.same tyIUQ [d, a, b] = true →
    FjEnds (.fjAnd slot d a b) s slot 4 f { f := f.counted.set d (Nat.land (f.val a) (f.val b)) }) ∧
  (∀ (s : State) (slot : Nat) (f : Fj) (d a b : BitVec 8), FjReady s.blk slot 4 f → f.same tyIUQ [d, a, b] = true →
    FjEnds (.fjOr slot d a b) s slot 4 f { f := f.counted.set d (Nat.lor (f.val a) (f.val b)) }) ∧
  (∀ (s : State) (slot : Nat) (f : Fj) (d a b : BitVec 8), FjReady s.blk slot 4 f → f.same tyIUQ [d, a, b] = true →
    FjEnds (.fjXor slot d a b) s slot 4 f { f := f.counted.set d (Nat.xor (f.val a) (f.val b)) }) ∧
  (∀ (s : State) (slot : Nat) (f : Fj) (d a : BitVec 8), FjReady s.blk slot 3 f → f.same tyIUQ [d, a] = true →
    FjEnds (.fjNot slot d a) s slot 3 f { f := f.counted.set d (2 ^ widthOf (f.ty d) - 1 - f.val a) }) ∧
  (∀ (s : State) (slot : Nat) (f : Fj) (d a b : BitVec 8), FjReady s.blk slot 4 f → f.same tyIUQ [d, a] = true → f.is [.uint] b =
    true →
    FjEnds (.fjShl slot d a b) s slot 4 f { f := f.counted.set d (if widthOf (f.ty d) ≤ f.val b then 0 else f.val a * 2 ^ f.val b) }) ∧
  (∀ (s : State) (slot : Nat) (f : Fj) (d a b : BitVec 8), FjReady s.blk slot 4 f → f.same tyIUQ [d, a] = true → f.is [.uint] b =
    true → FjEnds (.fjShr slot d a b) s slot 4 f { f := f.counted.setI d (f.int a / (2 ^ min (f.val b) (widthOf (f.ty d)) : Nat)) }) ∧
  (∀ (s : State) (slot : Nat) (f : Fj) (d a b : BitVec 8) (i : Instr), FjReady s.blk slot 4 f → i ∈ [.fjAdd slot d a b,
    .fjSub slot d a b, .fjMin slot d a b, .fjMax slot d a b] → f.same tyIUT [d, a, b] = false → FjFaults i s slot 4 f 1) ∧
  (∀ (s : State) (slot : Nat) (f : Fj) (d a b : BitVec 8) (i : Instr), FjReady s.blk slot 4 f → i ∈ [.fjMul slot d a b,
    .fjDiv slot d a b, .fjRem slot d a b] → f.same tyIU [d, a, b] = false → FjFaults i s slot 4 f 1) ∧
  (∀ (s : State) (slot : Nat) (f : Fj) (d a : BitVec 8) (i : Instr), FjReady s.blk slot 3 f → i ∈ [.fjNeg slot d a,
    .fjAbs slot d a] → f.same tyIT [d, a] = false → FjFaults i s slot 3 f 1) ∧
  (∀ (s : State) (slot : Nat) (f : Fj) (d a k : BitVec 8), FjReady s.blk slot 4 f → f.same tyIUT [d, a] = false →
    FjFaults (.fjAddk slot d a k) s slot 4 f 1) ∧
  (∀ (s : State) (slot : Nat) (f : Fj) (d a b : BitVec 8) (i : Instr), FjReady s.blk slot 4 f → i ∈ [.fjAnd slot d a b,
    .fjOr slot d a b, .fjXor slot d a b] → f.same tyIUQ [d, a, b] = false → FjFaults i s slot 4 f 1) ∧
  (∀ (s : State) (slot : Nat) (f : Fj) (d a : BitVec 8), FjReady s.blk slot 3 f → f.same tyIUQ [d, a] = false →
    FjFaults (.fjNot slot d a) s slot 3 f 1) ∧
  (∀ (s : State) (slot : Nat) (f : Fj) (d a b : BitVec 8) (i : Instr), FjReady s.blk slot 4 f → i ∈ [.fjShl slot d a b,
    .fjShr slot d a b] → f.same tyIUQ [d, a] = false ∨ f.is [.uint] b = false → FjFaults i s slot 4 f 1)

/-- The real instructions have their rounded result and its sticky flags, or their fault. Where the task's next instruction may be
fetched: for FADD, FSUB, FMUL, FDIV, FMA, FSQRT, FNEG, FABS, FMIN, FMAX, FRND, FLN, FEXP and FPOW on REAL32 operands, exec answers a
next state in which d holds the operation's result and the task's sticky flags have gained the operation's (FNEG and FABS set none)
(R257, R258, R272, R283). CVT between the pairs of types of R259 delivers the converted value with its flags (R287). Operand locals
of other types, and any other pair for CVT, are ILL and nothing is written (R250). Spec: 12_fjoask_instructions.md,
13_fjoask_arithmetic.md. -/
def Obligations.FjRealInstructionsComplete : Prop :=
  (∀ (s : State) (slot : Nat) (f : Fj) (d a b : BitVec 8), FjReady s.blk slot 4 f → f.same [.real] [d, a, b] = true →
    FjEnds (.fjFadd slot d a b) s slot 4 f { f := (f.counted.setW d (fAdd (f.word a) (f.word b)).1).flags (fAdd (f.word a) (f.word b)).2 }) ∧
  (∀ (s : State) (slot : Nat) (f : Fj) (d a b : BitVec 8), FjReady s.blk slot 4 f → f.same [.real] [d, a, b] = true →
    FjEnds (.fjFsub slot d a b) s slot 4 f { f := (f.counted.setW d (fSub (f.word a) (f.word b)).1).flags (fSub (f.word a) (f.word b)).2 }) ∧
  (∀ (s : State) (slot : Nat) (f : Fj) (d a b : BitVec 8), FjReady s.blk slot 4 f → f.same [.real] [d, a, b] = true →
    FjEnds (.fjFmul slot d a b) s slot 4 f { f := (f.counted.setW d (fMul (f.word a) (f.word b)).1).flags (fMul (f.word a) (f.word b)).2 }) ∧
  (∀ (s : State) (slot : Nat) (f : Fj) (d a b : BitVec 8), FjReady s.blk slot 4 f → f.same [.real] [d, a, b] = true →
    FjEnds (.fjFdiv slot d a b) s slot 4 f { f := (f.counted.setW d (fDiv (f.word a) (f.word b)).1).flags (fDiv (f.word a) (f.word b)).2 }) ∧
  (∀ (s : State) (slot : Nat) (f : Fj) (d a b c : BitVec 8), FjReady s.blk slot 5 f → f.same [.real] [d, a, b, c] = true →
    FjEnds (.fjFma slot d a b c) s slot 5 f { f := (f.counted.setW d (fMa (f.word a) (f.word b) (f.word c)).1).flags (fMa (f.word a) (f.word b) (f.word c)).2 }) ∧
  (∀ (s : State) (slot : Nat) (f : Fj) (d a : BitVec 8), FjReady s.blk slot 3 f → f.same [.real] [d, a] = true →
    FjEnds (.fjFsqrt slot d a) s slot 3 f { f := (f.counted.setW d (fSqrt (f.word a)).1).flags (fSqrt (f.word a)).2 }) ∧
  (∀ (s : State) (slot : Nat) (f : Fj) (d a : BitVec 8), FjReady s.blk slot 3 f → f.same [.real] [d, a] = true →
    FjEnds (.fjFneg slot d a) s slot 3 f { f := f.counted.setW d (f.word a ^^^ 0x80000000) }) ∧
  (∀ (s : State) (slot : Nat) (f : Fj) (d a : BitVec 8), FjReady s.blk slot 3 f → f.same [.real] [d, a] = true →
    FjEnds (.fjFabs slot d a) s slot 3 f { f := f.counted.setW d (f.word a &&& 0x7FFFFFFF) }) ∧
  (∀ (s : State) (slot : Nat) (f : Fj) (d a b : BitVec 8), FjReady s.blk slot 4 f → f.same [.real] [d, a, b] = true →
    FjEnds (.fjFmin slot d a b) s slot 4 f { f := (f.counted.setW d (fMinMax false (f.word a) (f.word b)).1).flags (fMinMax false (f.word a) (f.word b)).2 }) ∧
  (∀ (s : State) (slot : Nat) (f : Fj) (d a b : BitVec 8), FjReady s.blk slot 4 f → f.same [.real] [d, a, b] = true →
    FjEnds (.fjFmax slot d a b) s slot 4 f { f := (f.counted.setW d (fMinMax true (f.word a) (f.word b)).1).flags (fMinMax true (f.word a) (f.word b)).2 }) ∧
  (∀ (s : State) (slot : Nat) (f : Fj) (d a : BitVec 8), FjReady s.blk slot 3 f → f.same [.real] [d, a] = true →
    FjEnds (.fjFrnd slot d a) s slot 3 f { f := (f.counted.setW d (fRnd (f.word a)).1).flags (fRnd (f.word a)).2 }) ∧
  (∀ (s : State) (slot : Nat) (f : Fj) (d a : BitVec 8), FjReady s.blk slot 4 f → f.same [.real] [d, a] = true →
    FjEnds (.fjFln slot d a) s slot 4 f { f := (f.counted.setW d (fLn (f.word a)).1).flags (fLn (f.word a)).2 }) ∧
  (∀ (s : State) (slot : Nat) (f : Fj) (d a : BitVec 8), FjReady s.blk slot 4 f → f.same [.real] [d, a] = true →
    FjEnds (.fjFexp slot d a) s slot 4 f { f := (f.counted.setW d (fExp (f.word a)).1).flags (fExp (f.word a)).2 }) ∧
  (∀ (s : State) (slot : Nat) (f : Fj) (d a b : BitVec 8), FjReady s.blk slot 5 f → f.same [.real] [d, a, b] = true →
    FjEnds (.fjFpow slot d a b) s slot 5 f { f := (f.counted.setW d (fPow (f.word a) (f.word b)).1).flags (fPow (f.word a) (f.word b)).2 }) ∧
  (∀ (s : State) (slot : Nat) (f : Fj) (d a : BitVec 8), FjReady s.blk slot 3 f → f.is [.int, .uint] a = true → f.is [.real] d =
    true → FjEnds (.fjCvt slot d a) s slot 3 f { f := (f.counted.setW d (intToF (f.int a) 1).1).flags (intToF (f.int a) 1).2 }) ∧
  (∀ (s : State) (slot : Nat) (f : Fj) (d a : BitVec 8), FjReady s.blk slot 3 f → f.is [.real] a = true → f.is [.int, .uint] d =
    true →
    FjEnds (.fjCvt slot d a) s slot 3 f { f := (f.counted.setI d (fToInt (limits (f.ty d)).1 (limits (f.ty d)).2 1 (f.word a)).1).flags (fToInt (limits (f.ty d)).1 (limits (f.ty d)).2 1 (f.word a)).2 }) ∧
  (∀ (s : State) (slot : Nat) (f : Fj) (d a : BitVec 8), FjReady s.blk slot 3 f → f.is [.int, .uint] a = true → f.is [.int,
    .uint] d = true → f.ty a ≠ f.ty d → FjEnds (.fjCvt slot d a) s slot 3 f { f := f.counted.sat d (f.int a) }) ∧
  (∀ (s : State) (slot : Nat) (f : Fj) (d a : BitVec 8), FjReady s.blk slot 3 f → f.is [.time] a = true → f.is [.real] d = true →
    FjEnds (.fjCvt slot d a) s slot 3 f { f := (f.counted.setW d (intToF (f.int a) 1000000000).1).flags (intToF (f.int a) 1000000000).2 }) ∧
  (∀ (s : State) (slot : Nat) (f : Fj) (d a : BitVec 8), FjReady s.blk slot 3 f → f.is [.real] a = true → f.is [.time] d = true →
    FjEnds (.fjCvt slot d a) s slot 3 f { f := (f.counted.setI d (fToInt (limits .time).1 (limits .time).2 1000000000 (f.word a)).1).flags (fToInt (limits .time).1 (limits .time).2 1000000000 (f.word a)).2 }) ∧
  (∀ (s : State) (slot : Nat) (f : Fj) (d a : BitVec 8), FjReady s.blk slot 3 f → f.is [.bool] a = true → f.is [.int, .uint] d =
    true → FjEnds (.fjCvt slot d a) s slot 3 f { f := f.counted.set d (f.val a) }) ∧
  (∀ (s : State) (slot : Nat) (f : Fj) (d a : BitVec 8), FjReady s.blk slot 3 f → f.is [.int, .uint] a = true → f.is [.bool] d =
    true → FjEnds (.fjCvt slot d a) s slot 3 f { f := f.counted.setB d (f.val a != 0) }) ∧
  (∀ (s : State) (slot : Nat) (f : Fj) (d a b : BitVec 8) (i : Instr), FjReady s.blk slot 4 f → i ∈ [.fjFadd slot d a b,
    .fjFsub slot d a b, .fjFmul slot d a b, .fjFdiv slot d a b, .fjFmin slot d a b, .fjFmax slot d a b] → f.same [.real] [d, a, b] =
    false → FjFaults i s slot 4 f 1) ∧
  (∀ (s : State) (slot : Nat) (f : Fj) (d a b c : BitVec 8), FjReady s.blk slot 5 f → f.same [.real] [d, a, b, c] = false →
    FjFaults (.fjFma slot d a b c) s slot 5 f 1) ∧
  (∀ (s : State) (slot : Nat) (f : Fj) (d a : BitVec 8) (i : Instr), FjReady s.blk slot 3 f → i ∈ [.fjFsqrt slot d a,
    .fjFneg slot d a, .fjFabs slot d a, .fjFrnd slot d a] → f.same [.real] [d, a] = false → FjFaults i s slot 3 f 1) ∧
  (∀ (s : State) (slot : Nat) (f : Fj) (d a : BitVec 8) (i : Instr), FjReady s.blk slot 4 f → i ∈ [.fjFln slot d a,
    .fjFexp slot d a] → f.same [.real] [d, a] = false → FjFaults i s slot 4 f 1) ∧
  (∀ (s : State) (slot : Nat) (f : Fj) (d a b : BitVec 8), FjReady s.blk slot 5 f → f.same [.real] [d, a, b] = false →
    FjFaults (.fjFpow slot d a b) s slot 5 f 1) ∧
  (∀ (s : State) (slot : Nat) (f : Fj) (d a : BitVec 8), FjReady s.blk slot 3 f → f.ty d = f.ty a ∨ f.is [.bool, .int, .uint, .real,
    .time] d = false ∨ f.is [.bool, .int, .uint, .real, .time] a = false ∨ (f.ty a = .bool ∧ f.ty d = .real) ∨ (f.ty a = .real ∧
    f.ty d = .bool) ∨ (f.ty a = .time ∧ f.ty d ≠ .real) ∨ (f.ty d = .time ∧ f.ty a ≠ .real) →
    FjFaults (.fjCvt slot d a) s slot 3 f 1)

/-- The compare, select, boolean, edge and latch instructions have their effect or their fault. Where the task's next instruction
may be fetched: for CMP, BAND, BOR, BXOR, BNOT, SEL, LIM, TSTQ, EDGR, EDGF, EDGB, SR and RS with operands of the types that the row
allows, exec answers a next state in which the destination holds the result of the row; an edge instruction also keeps the input in
its state local, and its result stands last where both are one local (R260, R261). Operand locals of other types, a reserved
condition, or an order condition on QUAL or BOOL, are ILL and nothing is written (R250). Spec: 12_fjoask_instructions.md,
13_fjoask_arithmetic.md. -/
def Obligations.FjComparisonsAndBooleansComplete : Prop :=
  (∀ (s : State) (slot : Nat) (f : Fj) (d a b cond : BitVec 8), FjReady s.blk slot 5 f → f.is [.bool] d = true → f.same [.int,
    .uint, .time] [a, b] = true → cond.toNat ≤ 5 →
    FjEnds (.fjCmp slot d a b cond) s slot 5 f { f := f.counted.setB d (match cond.toNat with | 0 => f.int a == f.int b | 1 => f.int a != f.int b | 2 => decide (f.int a < f.int b) | 3 => decide (f.int a ≤ f.int b) | 4 => decide (f.int b < f.int a) | _ => decide (f.int b ≤ f.int a)) }) ∧
  (∀ (s : State) (slot : Nat) (f : Fj) (d a b cond : BitVec 8), FjReady s.blk slot 5 f → f.is [.bool] d = true → f.same [.qual,
    .bool] [a, b] = true → cond.toNat ≤ 1 →
    FjEnds (.fjCmp slot d a b cond) s slot 5 f { f := f.counted.setB d (if cond.toNat = 0 then f.int a == f.int b else f.int a != f.int b) }) ∧
  (∀ (s : State) (slot : Nat) (f : Fj) (d a b cond : BitVec 8), FjReady s.blk slot 5 f → f.is [.bool] d = true → f.same [.real] [a,
    b] = true → cond.toNat ≤ 5 →
    FjEnds (.fjCmp slot d a b cond) s slot 5 f { f := (f.counted.setB d (fCompare cond.toNat (f.word a) (f.word b)).1).flags { iv := (fCompare cond.toNat (f.word a) (f.word b)).2 } }) ∧
  (∀ (s : State) (slot : Nat) (f : Fj) (d a b : BitVec 8), FjReady s.blk slot 4 f → f.same [.bool] [d, a, b] = true →
    FjEnds (.fjBand slot d a b) s slot 4 f { f := f.counted.setB d (f.flag a && f.flag b) }) ∧
  (∀ (s : State) (slot : Nat) (f : Fj) (d a b : BitVec 8), FjReady s.blk slot 4 f → f.same [.bool] [d, a, b] = true →
    FjEnds (.fjBor slot d a b) s slot 4 f { f := f.counted.setB d (f.flag a || f.flag b) }) ∧
  (∀ (s : State) (slot : Nat) (f : Fj) (d a b : BitVec 8), FjReady s.blk slot 4 f → f.same [.bool] [d, a, b] = true →
    FjEnds (.fjBxor slot d a b) s slot 4 f { f := f.counted.setB d (f.flag a != f.flag b) }) ∧
  (∀ (s : State) (slot : Nat) (f : Fj) (d a : BitVec 8), FjReady s.blk slot 3 f → f.same [.bool] [d, a] = true →
    FjEnds (.fjBnot slot d a) s slot 3 f { f := f.counted.setB d (!f.flag a) }) ∧
  (∀ (s : State) (slot : Nat) (f : Fj) (d c a b : BitVec 8), FjReady s.blk slot 5 f → f.is [.bool] c = true → f.same tyAll [d, a,
    b] = true → FjEnds (.fjSel slot d c a b) s slot 5 f { f := f.counted.set d (if f.flag c then f.val a else f.val b) }) ∧
  (∀ (s : State) (slot : Nat) (f : Fj) (d a lo hi : BitVec 8), FjReady s.blk slot 5 f → f.same [.int, .uint, .time] [d, a, lo, hi] =
    true → FjEnds (.fjLim slot d a lo hi) s slot 5 f { f := f.counted.setI d (min (max (f.int a) (f.int lo)) (f.int hi)) }) ∧
  (∀ (s : State) (slot : Nat) (f : Fj) (d a lo hi : BitVec 8), FjReady s.blk slot 5 f → f.same [.real] [d, a, lo, hi] = true →
    FjEnds (.fjLim slot d a lo hi) s slot 5 f { f := (f.counted.setW d (fMinMax false (fMinMax true (f.word a) (f.word lo)).1 (f.word hi)).1).flags ((fMinMax true (f.word a) (f.word lo)).2.or (fMinMax false (fMinMax true (f.word a) (f.word lo)).1 (f.word hi)).2) }) ∧
  (∀ (s : State) (slot : Nat) (f : Fj) (d q : BitVec 8) (k : BitVec 16), FjReady s.blk slot 5 f → f.is [.bool] d = true →
    f.is [.qual] q = true → FjEnds (.fjTstq slot d q k) s slot 5 f { f := f.counted.setB d (Nat.land (f.val q) k.toNat != 0) }) ∧
  (∀ (s : State) (slot : Nat) (f : Fj) (d a m : BitVec 8), FjReady s.blk slot 4 f → f.same [.bool] [d, a, m] = true →
    FjEnds (.fjEdgr slot d a m) s slot 4 f { f := (f.counted.setB m (f.flag a)).setB d (f.flag a && !f.flag m) }) ∧
  (∀ (s : State) (slot : Nat) (f : Fj) (d a m : BitVec 8), FjReady s.blk slot 4 f → f.same [.bool] [d, a, m] = true →
    FjEnds (.fjEdgf slot d a m) s slot 4 f { f := (f.counted.setB m (f.flag a)).setB d (!f.flag a && f.flag m) }) ∧
  (∀ (s : State) (slot : Nat) (f : Fj) (d a m : BitVec 8), FjReady s.blk slot 4 f → f.same [.bool] [d, a, m] = true →
    FjEnds (.fjEdgb slot d a m) s slot 4 f { f := (f.counted.setB m (f.flag a)).setB d (f.flag a != f.flag m) }) ∧
  (∀ (s : State) (slot : Nat) (f : Fj) (q m r : BitVec 8), FjReady s.blk slot 4 f → f.same [.bool] [q, m, r] = true →
    FjEnds (.fjSr slot q m r) s slot 4 f { f := f.counted.setB q (f.flag m || (f.flag q && !f.flag r)) }) ∧
  (∀ (s : State) (slot : Nat) (f : Fj) (q m r : BitVec 8), FjReady s.blk slot 4 f → f.same [.bool] [q, m, r] = true →
    FjEnds (.fjRs slot q m r) s slot 4 f { f := f.counted.setB q (!f.flag r && (f.flag m || f.flag q)) }) ∧
  (∀ (s : State) (slot : Nat) (f : Fj) (d a b cond : BitVec 8), FjReady s.blk slot 5 f → f.is [.bool] d = false ∨ f.same [.int,
    .uint, .real, .time, .qual, .bool] [a, b] = false ∨ 5 < cond.toNat ∨ ((f.ty a = .qual ∨ f.ty a = .bool) ∧ 1 < cond.toNat) →
    FjFaults (.fjCmp slot d a b cond) s slot 5 f 1) ∧
  (∀ (s : State) (slot : Nat) (f : Fj) (d a b : BitVec 8) (i : Instr), FjReady s.blk slot 4 f → i ∈ [.fjBand slot d a b,
    .fjBor slot d a b, .fjBxor slot d a b, .fjEdgr slot d a b, .fjEdgf slot d a b, .fjEdgb slot d a b, .fjSr slot d a b,
    .fjRs slot d a b] → f.same [.bool] [d, a, b] = false → FjFaults i s slot 4 f 1) ∧
  (∀ (s : State) (slot : Nat) (f : Fj) (d a : BitVec 8), FjReady s.blk slot 3 f → f.same [.bool] [d, a] = false →
    FjFaults (.fjBnot slot d a) s slot 3 f 1) ∧
  (∀ (s : State) (slot : Nat) (f : Fj) (d c a b : BitVec 8), FjReady s.blk slot 5 f → f.is [.bool] c = false ∨ f.same tyAll [d, a,
    b] = false → FjFaults (.fjSel slot d c a b) s slot 5 f 1) ∧
  (∀ (s : State) (slot : Nat) (f : Fj) (d a lo hi : BitVec 8), FjReady s.blk slot 5 f → f.same [.int, .uint, .real, .time] [d, a,
    lo, hi] = false → FjFaults (.fjLim slot d a lo hi) s slot 5 f 1) ∧
  (∀ (s : State) (slot : Nat) (f : Fj) (d q : BitVec 8) (k : BitVec 16), FjReady s.blk slot 5 f → f.is [.bool] d = false ∨
    f.is [.qual] q = false → FjFaults (.fjTstq slot d q k) s slot 5 f 1)

/-- The timer, time and counter instructions have their effect or their fault. Where the task's next instruction may be fetched: for
TSTART, TSTARTP, TSTARTW, TCANCEL, TPAUSE, TRESUME, TREAD, TON, TNOW, WNOW, CTU and CTD with operands of the row's types, a declared
timer of the row's mode and durations in range, exec answers a next state in which the operation has been staged at t_E, or the
local has received the timer's reading with the task's own staged operations, t_E, TWALL or the count (R262, R263, R195). TON
cancels with i = 0 and starts an idle timer with i = 1. Another type or mode or a reserved sel is ILL, an undeclared timer, a
negative duration or a period of 0 or of 2^32 µs or more RANGE, and nothing is written (R250, R263). Spec:
12_fjoask_instructions.md, 09_timer_wheel.md. -/
def Obligations.FjTimerInstructionsComplete : Prop :=
  (∀ (s : State) (slot : Nat) (f : Fj) (t : BitVec 16) (a : BitVec 8), FjReady s.blk slot 4 f → f.is [.time] a = true →
    f.tIll t.toNat 1 = false → f.tOut t.toNat = false → 0 ≤ f.int a →
    FjEnds (.fjTstart slot t a) s slot 4 f { f := f.counted.stage (.timer t.toNat (.start f.te (usOf (f.int a).toNat))) }) ∧
  (∀ (s : State) (slot : Nat) (f : Fj) (t : BitVec 16) (a : BitVec 8), FjReady s.blk slot 4 f → f.is [.time] a = true →
    f.tIll t.toNat 2 = false → f.tOut t.toNat = false → 0 < f.int a → usOf (f.int a).toNat < 2 ^ 32 →
    FjEnds (.fjTstartp slot t a) s slot 4 f { f := f.counted.stage (.timer t.toNat (.startP f.te (usOf (f.int a).toNat))) }) ∧
  (∀ (s : State) (slot : Nat) (f : Fj) (t : BitVec 16), FjReady s.blk slot 3 f → f.tIll t.toNat 3 = false → f.tOut t.toNat = false →
    FjEnds (.fjTstartw slot t) s slot 3 f { f := f.counted.stage (.timer t.toNat (.startW f.te)) }) ∧
  (∀ (s : State) (slot : Nat) (f : Fj) (t : BitVec 16), FjReady s.blk slot 3 f → f.tOut t.toNat = false →
    FjEnds (.fjTcancel slot t) s slot 3 f { f := f.counted.stage (.timer t.toNat .cancel) }) ∧
  (∀ (s : State) (slot : Nat) (f : Fj) (t : BitVec 16) (a : BitVec 8), FjReady s.blk slot 4 f → f.is [.time] a = true →
    f.tIll t.toNat 1 = false → f.tOut t.toNat = false → 0 ≤ f.int a →
    FjEnds (.fjTpause slot t a) s slot 4 f { f := f.counted.stage (.timer t.toNat (.pause f.te (usOf (f.int a).toNat))) }) ∧
  (∀ (s : State) (slot : Nat) (f : Fj) (t : BitVec 16), FjReady s.blk slot 3 f → f.tIll t.toNat 1 = false → f.tOut t.toNat = false →
    FjEnds (.fjTresume slot t) s slot 3 f { f := f.counted.stage (.timer t.toNat (.resume f.te)) }) ∧
  (∀ (s : State) (slot : Nat) (f : Fj) (d : BitVec 8) (t : BitVec 16), FjReady s.blk slot 5 f → f.is [.bool] d = true →
    f.tOut t.toNat = false → FjEnds (.fjTread slot d t 0) s slot 5 f { f := f.counted.setB d ((f.timer t.toNat).due f.te) }) ∧
  (∀ (s : State) (slot : Nat) (f : Fj) (d : BitVec 8) (t : BitVec 16), FjReady s.blk slot 5 f → f.is [.time] d = true →
    f.tOut t.toNat = false → FjEnds (.fjTread slot d t 1) s slot 5 f { f := f.counted.set d ((f.timer t.toNat).remainAt f.te) }) ∧
  (∀ (s : State) (slot : Nat) (f : Fj) (d : BitVec 8) (t : BitVec 16), FjReady s.blk slot 5 f → f.is [.time] d = true →
    f.tOut t.toNat = false → FjEnds (.fjTread slot d t 2) s slot 5 f { f := f.counted.set d ((f.timer t.toNat).sinceAt f.te) }) ∧
  (∀ (s : State) (slot : Nat) (f : Fj) (d : BitVec 8) (t : BitVec 16), FjReady s.blk slot 5 f → f.is [.uint] d = true →
    f.tOut t.toNat = false →
    FjEnds (.fjTread slot d t 3) s slot 5 f { f := f.counted.set d (satN 0xFFFFFFFF ((f.timer t.toNat).count f.te)) }) ∧
  (∀ (s : State) (slot : Nat) (f : Fj) (d : BitVec 8) (t : BitVec 16), FjReady s.blk slot 5 f → f.is [.uint] d = true →
    f.tOut t.toNat = false →
    FjEnds (.fjTread slot d t 4) s slot 5 f { f := f.counted.set d ((f.timer t.toNat).mode.code + 4 * b2n (f.timer t.toNat).paused) }) ∧
  (∀ (s : State) (slot : Nat) (f : Fj) (d : BitVec 8) (t : BitVec 16) (i p : BitVec 8), FjReady s.blk slot 6 f → f.is [.bool] d =
    true → f.is [.bool] i = true → f.is [.time] p = true → f.tIll t.toNat 1 = false → f.tOut t.toNat = false → 0 ≤ f.int p →
    f.flag i = false → FjEnds (.fjTon slot d t i p) s slot 6 f { f := (f.counted.stage (.timer t.toNat .cancel)).setB d false }) ∧
  (∀ (s : State) (slot : Nat) (f : Fj) (d : BitVec 8) (t : BitVec 16) (i p : BitVec 8), FjReady s.blk slot 6 f → f.is [.bool] d =
    true → f.is [.bool] i = true → f.is [.time] p = true → f.tIll t.toNat 1 = false → f.tOut t.toNat = false → 0 ≤ f.int p →
    f.flag i = true → (f.timer t.toNat).mode ≠ .idle →
    FjEnds (.fjTon slot d t i p) s slot 6 f { f := f.counted.setB d ((f.timer t.toNat).due f.te) }) ∧
  (∀ (s : State) (slot : Nat) (f : Fj) (d : BitVec 8), FjReady s.blk slot 2 f → f.is [.time] d = true →
    FjEnds (.fjTnow slot d) s slot 2 f { f := f.counted.set d (f.c.e * 31250) }) ∧
  (∀ (s : State) (slot : Nat) (f : Fj) (d : BitVec 8), FjReady s.blk slot 2 f → f.is [.time] d = true →
    FjEnds (.fjWnow slot d) s slot 2 f { f := f.counted.set d ((tget wzD f.inH 4).toNat + 2 ^ 32 * (tget wzD f.inH 5).toNat) }) ∧
  (∀ (s : State) (slot : Nat) (f : Fj) (c i m : BitVec 8), FjReady s.blk slot 4 f → f.is [.uint] c = true → f.is [.bool] i = true →
    f.is [.bool] m = true →
    FjEnds (.fjCtu slot c i m) s slot 4 f { f := if f.flag i && !f.flag m then (f.counted.setB m (f.flag i)).sat c ((f.val c : Int) + 1) else f.counted.setB m (f.flag i) }) ∧
  (∀ (s : State) (slot : Nat) (f : Fj) (c i m : BitVec 8), FjReady s.blk slot 4 f → f.is [.uint] c = true → f.is [.bool] i = true →
    f.is [.bool] m = true →
    FjEnds (.fjCtd slot c i m) s slot 4 f { f := if f.flag i && !f.flag m then (f.counted.setB m (f.flag i)).sat c ((f.val c : Int) - 1) else f.counted.setB m (f.flag i) }) ∧
  (∀ (s : State) (slot : Nat) (f : Fj) (d : BitVec 8) (t : BitVec 16) (i p : BitVec 8), FjReady s.blk slot 6 f → f.is [.bool] d =
    true → f.is [.bool] i = true → f.is [.time] p = true → f.tIll t.toNat 1 = false → f.tOut t.toNat = false → 0 ≤ f.int p →
    f.flag i = true → (f.timer t.toNat).mode = .idle →
    FjEnds (.fjTon slot d t i p) s slot 6 f { f := (f.counted.stage (.timer t.toNat (.start f.te (usOf (f.int p).toNat)))).setB d (((f.counted.stage (.timer t.toNat (.start f.te (usOf (f.int p).toNat)))).timer t.toNat).due f.te) }) ∧
  (∀ (s : State) (slot : Nat) (f : Fj) (t : BitVec 16) (a : BitVec 8), FjReady s.blk slot 4 f → f.is [.time] a = false ∨
    f.tIll t.toNat 1 = true → FjFaults (.fjTstart slot t a) s slot 4 f 1 ∧ FjFaults (.fjTpause slot t a) s slot 4 f 1) ∧
  (∀ (s : State) (slot : Nat) (f : Fj) (t : BitVec 16) (a : BitVec 8), FjReady s.blk slot 4 f → f.is [.time] a = true →
    f.tIll t.toNat 1 = false → f.tOut t.toNat = true ∨ f.int a < 0 → FjFaults (.fjTstart slot t a) s slot 4 f 2 ∧
    FjFaults (.fjTpause slot t a) s slot 4 f 2) ∧
  (∀ (s : State) (slot : Nat) (f : Fj) (t : BitVec 16) (a : BitVec 8), FjReady s.blk slot 4 f → f.is [.time] a = false ∨
    f.tIll t.toNat 2 = true → FjFaults (.fjTstartp slot t a) s slot 4 f 1) ∧
  (∀ (s : State) (slot : Nat) (f : Fj) (t : BitVec 16) (a : BitVec 8), FjReady s.blk slot 4 f → f.is [.time] a = true →
    f.tIll t.toNat 2 = false → f.tOut t.toNat = true ∨ f.int a ≤ 0 ∨ 2 ^ 32 ≤ usOf (f.int a).toNat →
    FjFaults (.fjTstartp slot t a) s slot 4 f 2) ∧
  (∀ (s : State) (slot : Nat) (f : Fj) (t : BitVec 16), FjReady s.blk slot 3 f → f.tIll t.toNat 3 = true →
    FjFaults (.fjTstartw slot t) s slot 3 f 1) ∧
  (∀ (s : State) (slot : Nat) (f : Fj) (t : BitVec 16), FjReady s.blk slot 3 f → f.tIll t.toNat 1 = true →
    FjFaults (.fjTresume slot t) s slot 3 f 1) ∧
  (∀ (s : State) (slot : Nat) (f : Fj) (t : BitVec 16) (i : Instr), FjReady s.blk slot 3 f → i ∈ [.fjTstartw slot t,
    .fjTresume slot t, .fjTcancel slot t] → f.tOut t.toNat = true → FjFaults i s slot 3 f 2) ∧
  (∀ (s : State) (slot : Nat) (f : Fj) (d : BitVec 8) (t : BitVec 16) (k : BitVec 8), FjReady s.blk slot 5 f → 4 < k.toNat ∨
    f.is (if k.toNat = 0 then [.bool] else if k.toNat ≤ 2 then [.time] else [.uint]) d = false →
    FjFaults (.fjTread slot d t k) s slot 5 f 1) ∧
  (∀ (s : State) (slot : Nat) (f : Fj) (d : BitVec 8) (t : BitVec 16) (k : BitVec 8), FjReady s.blk slot 5 f → k.toNat ≤ 4 →
    f.is (if k.toNat = 0 then [.bool] else if k.toNat ≤ 2 then [.time] else [.uint]) d = true → f.tOut t.toNat = true →
    FjFaults (.fjTread slot d t k) s slot 5 f 2) ∧
  (∀ (s : State) (slot : Nat) (f : Fj) (d : BitVec 8) (t : BitVec 16) (i p : BitVec 8), FjReady s.blk slot 6 f → f.is [.bool] d =
    false ∨ f.is [.bool] i = false ∨ f.is [.time] p = false ∨ f.tIll t.toNat 1 = true → FjFaults (.fjTon slot d t i p) s slot 6 f 1) ∧
  (∀ (s : State) (slot : Nat) (f : Fj) (d : BitVec 8) (t : BitVec 16) (i p : BitVec 8), FjReady s.blk slot 6 f → f.is [.bool] d =
    true → f.is [.bool] i = true → f.is [.time] p = true → f.tIll t.toNat 1 = false → f.tOut t.toNat = true ∨ f.int p < 0 →
    FjFaults (.fjTon slot d t i p) s slot 6 f 2) ∧
  (∀ (s : State) (slot : Nat) (f : Fj) (d : BitVec 8), FjReady s.blk slot 2 f → f.is [.time] d = false →
    FjFaults (.fjTnow slot d) s slot 2 f 1 ∧ FjFaults (.fjWnow slot d) s slot 2 f 1) ∧
  (∀ (s : State) (slot : Nat) (f : Fj) (c i m : BitVec 8), FjReady s.blk slot 4 f → f.is [.uint] c = false ∨ f.is [.bool] i =
    false ∨ f.is [.bool] m = false → FjFaults (.fjCtu slot c i m) s slot 4 f 1 ∧ FjFaults (.fjCtd slot c i m) s slot 4 f 1)

/-- The phasor instructions have their result and flags, or their fault. Where the task's next instruction may be fetched: for
PMAKE, PPOL, PRE, PIM, PMAG, PANG, PADD, PSUB, PMUL, PDIV, PCONJ, PSCL, PROT and PSEQ with operands of the row's types, exec answers
a next state in which d holds the operation's phasor or real and the sticky flags have gained the operation's (R272, R273, R288).
Operand locals of other types and a reserved PSEQ selector are ILL and nothing is written (R250). Spec: 12_fjoask_instructions.md,
13_fjoask_arithmetic.md. -/
def Obligations.FjPhasorInstructionsComplete : Prop :=
  (∀ (s : State) (slot : Nat) (f : Fj) (d a b : BitVec 8), FjReady s.blk slot 5 f → f.is [.phasor] d = true → f.same [.real] [a,
    b] = true → FjEnds (.fjPmake slot d a b) s slot 5 f { f := f.counted.setPh d (f.word a, f.word b) }) ∧
  (∀ (s : State) (slot : Nat) (f : Fj) (d a b : BitVec 8), FjReady s.blk slot 5 f → f.is [.phasor] d = true → f.same [.real] [a,
    b] = true →
    FjEnds (.fjPpol slot d a b) s slot 5 f { f := (f.counted.setPh d (pPol (f.word a) (f.word b)).1).flags (pPol (f.word a) (f.word b)).2 }) ∧
  (∀ (s : State) (slot : Nat) (f : Fj) (d a : BitVec 8), FjReady s.blk slot 4 f → f.is [.real] d = true → f.is [.phasor] a = true →
    FjEnds (.fjPre slot d a) s slot 4 f { f := f.counted.setW d (f.ph a).1 }) ∧
  (∀ (s : State) (slot : Nat) (f : Fj) (d a : BitVec 8), FjReady s.blk slot 4 f → f.is [.real] d = true → f.is [.phasor] a = true →
    FjEnds (.fjPim slot d a) s slot 4 f { f := f.counted.setW d (f.ph a).2 }) ∧
  (∀ (s : State) (slot : Nat) (f : Fj) (d a : BitVec 8), FjReady s.blk slot 4 f → f.is [.real] d = true → f.is [.phasor] a = true →
    FjEnds (.fjPmag slot d a) s slot 4 f { f := (f.counted.setW d (pMag (f.ph a)).1).flags (pMag (f.ph a)).2 }) ∧
  (∀ (s : State) (slot : Nat) (f : Fj) (d a : BitVec 8), FjReady s.blk slot 4 f → f.is [.real] d = true → f.is [.phasor] a = true →
    FjEnds (.fjPang slot d a) s slot 4 f { f := (f.counted.setW d (pAng (f.ph a)).1).flags (pAng (f.ph a)).2 }) ∧
  (∀ (s : State) (slot : Nat) (f : Fj) (d a b : BitVec 8), FjReady s.blk slot 5 f → f.same [.phasor] [d, a, b] = true →
    FjEnds (.fjPadd slot d a b) s slot 5 f { f := (f.counted.setPh d (pAdd (f.ph a) (f.ph b)).1).flags (pAdd (f.ph a) (f.ph b)).2 }) ∧
  (∀ (s : State) (slot : Nat) (f : Fj) (d a b : BitVec 8), FjReady s.blk slot 5 f → f.same [.phasor] [d, a, b] = true →
    FjEnds (.fjPsub slot d a b) s slot 5 f { f := (f.counted.setPh d (pSub (f.ph a) (f.ph b)).1).flags (pSub (f.ph a) (f.ph b)).2 }) ∧
  (∀ (s : State) (slot : Nat) (f : Fj) (d a b : BitVec 8), FjReady s.blk slot 5 f → f.same [.phasor] [d, a, b] = true →
    FjEnds (.fjPmul slot d a b) s slot 5 f { f := (f.counted.setPh d (pMul (f.ph a) (f.ph b)).1).flags (pMul (f.ph a) (f.ph b)).2 }) ∧
  (∀ (s : State) (slot : Nat) (f : Fj) (d a b : BitVec 8), FjReady s.blk slot 5 f → f.same [.phasor] [d, a, b] = true →
    FjEnds (.fjPdiv slot d a b) s slot 5 f { f := (f.counted.setPh d (pDiv (f.ph a) (f.ph b)).1).flags (pDiv (f.ph a) (f.ph b)).2 }) ∧
  (∀ (s : State) (slot : Nat) (f : Fj) (d a : BitVec 8), FjReady s.blk slot 4 f → f.same [.phasor] [d, a] = true →
    FjEnds (.fjPconj slot d a) s slot 4 f { f := f.counted.setPh d ((f.ph a).1, fNeg (f.ph a).2) }) ∧
  (∀ (s : State) (slot : Nat) (f : Fj) (d a r : BitVec 8), FjReady s.blk slot 5 f → f.same [.phasor] [d, a] = true →
    f.is [.real] r = true →
    FjEnds (.fjPscl slot d a r) s slot 5 f { f := (f.counted.setPh d (pScl (f.ph a) (f.word r)).1).flags (pScl (f.ph a) (f.word r)).2 }) ∧
  (∀ (s : State) (slot : Nat) (f : Fj) (d a g : BitVec 8), FjReady s.blk slot 5 f → f.same [.phasor] [d, a] = true →
    f.is [.real] g = true →
    FjEnds (.fjProt slot d a g) s slot 5 f { f := (f.counted.setPh d (pRot (f.ph a) (f.word g)).1).flags (pRot (f.ph a) (f.word g)).2 }) ∧
  (∀ (s : State) (slot : Nat) (f : Fj) (d a b c k : BitVec 8), FjReady s.blk slot 7 f → f.same [.phasor] [d, a, b, c] = true →
    k.toNat < 8 → k.toNat % 4 ≠ 3 →
    FjEnds (.fjPseq slot d a b c k) s slot 7 f { f := (f.counted.setPh d (pSeq (k.toNat % 4) (bitOf k.toNat 2) (f.ph a) (f.ph b) (f.ph c)).1).flags (pSeq (k.toNat % 4) (bitOf k.toNat 2) (f.ph a) (f.ph b) (f.ph c)).2 }) ∧
  (∀ (s : State) (slot : Nat) (f : Fj) (d a b : BitVec 8), FjReady s.blk slot 5 f → f.is [.phasor] d = false ∨ f.same [.real] [a,
    b] = false → FjFaults (.fjPmake slot d a b) s slot 5 f 1 ∧ FjFaults (.fjPpol slot d a b) s slot 5 f 1) ∧
  (∀ (s : State) (slot : Nat) (f : Fj) (d a : BitVec 8) (i : Instr), FjReady s.blk slot 4 f → i ∈ [.fjPre slot d a, .fjPim slot d a,
    .fjPmag slot d a, .fjPang slot d a] → f.is [.real] d = false ∨ f.is [.phasor] a = false → FjFaults i s slot 4 f 1) ∧
  (∀ (s : State) (slot : Nat) (f : Fj) (d a b : BitVec 8) (i : Instr), FjReady s.blk slot 5 f → i ∈ [.fjPadd slot d a b,
    .fjPsub slot d a b, .fjPmul slot d a b, .fjPdiv slot d a b] → f.same [.phasor] [d, a, b] = false → FjFaults i s slot 5 f 1) ∧
  (∀ (s : State) (slot : Nat) (f : Fj) (d a : BitVec 8), FjReady s.blk slot 4 f → f.same [.phasor] [d, a] = false →
    FjFaults (.fjPconj slot d a) s slot 4 f 1) ∧
  (∀ (s : State) (slot : Nat) (f : Fj) (d a r : BitVec 8), FjReady s.blk slot 5 f → f.same [.phasor] [d, a] = false ∨
    f.is [.real] r = false → FjFaults (.fjPscl slot d a r) s slot 5 f 1 ∧ FjFaults (.fjProt slot d a r) s slot 5 f 1) ∧
  (∀ (s : State) (slot : Nat) (f : Fj) (d a b c k : BitVec 8), FjReady s.blk slot 7 f → f.same [.phasor] [d, a, b, c] = false ∨
    8 ≤ k.toNat ∨ k.toNat % 4 = 3 → FjFaults (.fjPseq slot d a b c k) s slot 7 f 1)

/-- The task, fast-counter, control-object and event instructions have their effect or their fault. Where the task's next
instruction may be fetched: for FLGRD, FLGCLR, TENA, TDIS, TKICK, FREC, FCRD, FCSET, FCCLR, CTLRD, CTLACK, CTLOP and EVT with
operands in range, exec answers a next state in which the local has received the reading or the effect has been staged (R274 to
R278). TKICK acts at once: an EVENT task that has not run in the cycle becomes ready with one more trigger counted, and a kick of
one that is running, has run or is disabled is kept for the next cycle (R275). CTLRD of an IDLE object's VALUE, CLIENT or AUTHORITY
is a free value of the model (log 39). Another type or a reserved selector or bit is ILL, an absent task, timer or object RANGE, and
a counter that the slot does not own ACCESS, and nothing is written (R250). Spec: 12_fjoask_instructions.md. -/
def Obligations.FjTaskAndFieldInstructionsComplete : Prop :=
  (∀ (s : State) (slot : Nat) (f : Fj) (d : BitVec 8), FjReady s.blk slot 3 f → f.is [.uint] d = true →
    FjEnds (.fjFlgrd slot d) s slot 3 f { f := f.counted.set d f.x.flags.word }) ∧
  (∀ (s : State) (slot : Nat) (f : Fj) (k : BitVec 8), FjReady s.blk slot 3 f → k.toNat < 32 →
    FjEnds (.fjFlgclr slot k) s slot 3 f { f := { f.counted with x := { f.counted.x with flags := { iv := f.x.flags.iv && !bitOf k.toNat 0, dz := f.x.flags.dz && !bitOf k.toNat 1, ovf := f.x.flags.ovf && !bitOf k.toNat 2, uf := f.x.flags.uf && !bitOf k.toNat 3, nx := f.x.flags.nx && !bitOf k.toNat 4 } } } }) ∧
  (∀ (s : State) (slot : Nat) (f : Fj) (k : BitVec 8) (n : Nat), FjReady s.blk slot 3 f → f.kindOf k.toNat = some n → n ≠ 1 →
    FjEnds (.fjTena slot k) s slot 3 f { f := f.counted.stage (.tena k.toNat) }) ∧
  (∀ (s : State) (slot : Nat) (f : Fj) (k : BitVec 8) (n : Nat), FjReady s.blk slot 3 f → f.kindOf k.toNat = some n → n ≠ 1 →
    FjEnds (.fjTdis slot k) s slot 3 f { f := f.counted.stage (.tdis k.toNat) }) ∧
  (∀ (s : State) (slot : Nat) (f : Fj) (d k : BitVec 8) (n : Nat), FjReady s.blk slot 5 f → f.is [.uint] d = true →
    f.kindOf k.toNat = some n → k.toNat ≠ f.t →
    FjEnds (.fjFrec slot d k 0) s slot 5 f { f := f.counted.set d (tget ctxD f.c.ctxs k.toNat).fault } ∧
    FjEnds (.fjFrec slot d k 1) s slot 5 f { f := f.counted.set d (tget ctxD f.c.ctxs k.toNat).fpc } ∧
    FjEnds (.fjFrec slot d k 2) s slot 5 f { f := f.counted.set d (tget ctxD f.c.ctxs k.toNat).fprog } ∧
    FjEnds (.fjFrec slot d k 3) s slot 5 f { f := f.counted.set d (tget ctxD f.c.ctxs k.toNat).trap }) ∧
  (∀ (s : State) (slot : Nat) (f : Fj) (d k : BitVec 8), FjReady s.blk slot 5 f → k.toNat < 8 → f.is [.uint] d = true →
    FjEnds (.fjFcrd slot d k 0) s slot 5 f { f := f.counted.setW d (tget wzD f.inH (0x18 + 4 * k.toNat)) }) ∧
  (∀ (s : State) (slot : Nat) (f : Fj) (d k : BitVec 8), FjReady s.blk slot 5 f → k.toNat < 8 → f.is [.time] d = true →
    FjEnds (.fjFcrd slot d k 1) s slot 5 f { f := f.counted.set d ((tget wzD f.inH (0x18 + 4 * k.toNat + 2)).toNat + 2 ^ 32 * (tget wzD f.inH (0x18 + 4 * k.toNat + 3)).toNat) }) ∧
  (∀ (s : State) (slot : Nat) (f : Fj) (k a : BitVec 8), FjReady s.blk slot 4 f → k.toNat < 8 → f.is [.uint] a = true →
    bitOf f.img.counters k.toNat = true → FjEnds (.fjFcset slot k a) s slot 4 f { f := f.counted.stage (.fcset k.toNat (f.val a)) }) ∧
  (∀ (s : State) (slot : Nat) (f : Fj) (k : BitVec 8), FjReady s.blk slot 3 f → k.toNat < 8 → bitOf f.img.counters k.toNat = true →
    FjEnds (.fjFcclr slot k) s slot 3 f { f := f.counted.stage (.fcclr k.toNat) }) ∧
  (∀ (s : State) (slot : Nat) (f : Fj) (d o : BitVec 8), FjReady s.blk slot 5 f → f.is [.bool] d = true →
    o.toNat < f.img.objs.length →
    FjEnds (.fjCtlrd slot d o 0) s slot 5 f { f := f.counted.setB d (tget ctlD f.c.objs o.toNat).isPending } ∧
    FjEnds (.fjCtlrd slot d o 5) s slot 5 f { f := f.counted.setB d (tget ctlD f.c.objs o.toNat).isSelected }) ∧
  (∀ (s : State) (slot : Nat) (f : Fj) (d o : BitVec 8) (v c a : Nat), FjReady s.blk slot 5 f → f.is [.uint] d = true →
    o.toNat < f.img.objs.length → (tget ctlD f.c.objs o.toNat).value = some v → (tget ctlD f.c.objs o.toNat).client = some c →
    (tget ctlD f.c.objs o.toNat).auth = some a → FjEnds (.fjCtlrd slot d o 1) s slot 5 f { f := f.counted.set d v } ∧
    FjEnds (.fjCtlrd slot d o 2) s slot 5 f { f := f.counted.set d c } ∧
    FjEnds (.fjCtlrd slot d o 3) s slot 5 f { f := f.counted.set d a } ∧
    FjEnds (.fjCtlrd slot d o 4) s slot 5 f { f := f.counted.set d (tget ctlD f.c.objs o.toNat).result }) ∧
  (∀ (s : State) (slot : Nat) (f : Fj) (o a : BitVec 8), FjReady s.blk slot 4 f → f.is [.uint] a = true →
    o.toNat < f.img.objs.length → FjEnds (.fjCtlack slot o a) s slot 4 f { f := f.counted.stage (.ack o.toNat (f.val a)) }) ∧
  (∀ (s : State) (slot : Nat) (f : Fj) (o a c : BitVec 8), FjReady s.blk slot 5 f → f.is [.bool, .uint] a = true →
    o.toNat < f.img.objs.length → c.toNat ≤ 3 →
    FjEnds (.fjCtlop slot o a c) s slot 5 f { f := f.counted.stage (.ctlop o.toNat (f.val a) c.toNat) }) ∧
  (∀ (s : State) (slot : Nat) (f : Fj) (a k : BitVec 8), FjReady s.blk slot 4 f → f.is [.uint] a = true →
    FjEnds (.fjEvt slot a k) s slot 4 f { f := f.counted.stage (.evt (f.val a) k.toNat) }) ∧
  (∀ (s : State) (slot : Nat) (f : Fj) (k : BitVec 8), FjReady s.blk slot 3 f → f.kindOf k.toNat = some 2 → k.toNat ∉ f.c.ended →
    k.toNat ∉ f.c.stack → (tget ctxD f.c.ctxs k.toNat).off = false →
    FjEnds (.fjTkick slot k) s slot 3 f { f := { f.counted with c := { f.c with ready := insNat k.toNat f.c.ready, due := tupd trigD f.c.due k.toNat fun o => if o.count = 0 then { source := 0xFFFFFFFF, count := 1, wall := (tget wzD f.inH 4).toNat + 2 ^ 32 * (tget wzD f.inH 5).toNat, qual := (tget wzD f.inH 6).toNat % 2 ^ 16 } else { o with count := o.count + 1 } } } }) ∧
  (∀ (s : State) (slot : Nat) (f : Fj) (k : BitVec 8), FjReady s.blk slot 3 f → f.kindOf k.toNat = some 2 → k.toNat ∈ f.c.ended ∨
    k.toNat ∈ f.c.stack ∨ (tget ctxD f.c.ctxs k.toNat).off = true →
    FjEnds (.fjTkick slot k) s slot 3 f { f := { f.counted with c := { f.c with kicks := tupd trigD f.c.kicks k.toNat fun o => if o.count = 0 then { source := 0xFFFFFFFF, count := 1, wall := (tget wzD f.inH 4).toNat + 2 ^ 32 * (tget wzD f.inH 5).toNat, qual := (tget wzD f.inH 6).toNat % 2 ^ 16 } else { o with count := o.count + 1 } } } }) ∧
  (∀ (s : State) (slot : Nat) (f : Fj) (k : BitVec 8), FjReady s.blk slot 3 f → f.kindOf k.toNat ≠ some 2 →
    FjFaults (.fjTkick slot k) s slot 3 f 2) ∧
  (∀ (s : State) (slot : Nat) (f : Fj) (k : BitVec 8), FjReady s.blk slot 3 f → f.kindOf k.toNat = none ∨ f.kindOf k.toNat =
    some 1 → FjFaults (.fjTena slot k) s slot 3 f 2 ∧ FjFaults (.fjTdis slot k) s slot 3 f 2) ∧
  (∀ (s : State) (slot : Nat) (f : Fj) (d : BitVec 8), FjReady s.blk slot 3 f → f.is [.uint] d = false →
    FjFaults (.fjFlgrd slot d) s slot 3 f 1) ∧
  (∀ (s : State) (slot : Nat) (f : Fj) (k : BitVec 8), FjReady s.blk slot 3 f → 32 ≤ k.toNat →
    FjFaults (.fjFlgclr slot k) s slot 3 f 1) ∧
  (∀ (s : State) (slot : Nat) (f : Fj) (d k : BitVec 8) (n : Nat), FjReady s.blk slot 5 f → f.is [.uint] d = true →
    f.kindOf k.toNat = some n → k.toNat = f.t → FjEnds (.fjFrec slot d k 0) s slot 5 f { f := f.counted.set d f.x.fault } ∧
    FjEnds (.fjFrec slot d k 1) s slot 5 f { f := f.counted.set d f.x.fpc } ∧
    FjEnds (.fjFrec slot d k 2) s slot 5 f { f := f.counted.set d f.x.fprog } ∧
    FjEnds (.fjFrec slot d k 3) s slot 5 f { f := f.counted.set d f.x.trap }) ∧
  (∀ (s : State) (slot : Nat) (f : Fj) (d k j : BitVec 8), FjReady s.blk slot 5 f → f.is [.uint] d = false ∨ 3 < j.toNat →
    FjFaults (.fjFrec slot d k j) s slot 5 f 1) ∧
  (∀ (s : State) (slot : Nat) (f : Fj) (d k j : BitVec 8), FjReady s.blk slot 5 f → f.is [.uint] d = true → j.toNat ≤ 3 →
    f.kindOf k.toNat = none → FjFaults (.fjFrec slot d k j) s slot 5 f 2) ∧
  (∀ (s : State) (slot : Nat) (f : Fj) (d k j : BitVec 8), FjReady s.blk slot 5 f → 8 ≤ k.toNat ∨ 1 < j.toNat ∨ (j = 0 ∧
    f.is [.uint] d = false) ∨ (j = 1 ∧ f.is [.time] d = false) → FjFaults (.fjFcrd slot d k j) s slot 5 f 1) ∧
  (∀ (s : State) (slot : Nat) (f : Fj) (k a : BitVec 8), FjReady s.blk slot 4 f → 8 ≤ k.toNat ∨ f.is [.uint] a = false →
    FjFaults (.fjFcset slot k a) s slot 4 f 1) ∧
  (∀ (s : State) (slot : Nat) (f : Fj) (k a : BitVec 8), FjReady s.blk slot 4 f → k.toNat < 8 → f.is [.uint] a = true →
    bitOf f.img.counters k.toNat = false → FjFaults (.fjFcset slot k a) s slot 4 f 3) ∧
  (∀ (s : State) (slot : Nat) (f : Fj) (k : BitVec 8), FjReady s.blk slot 3 f → 8 ≤ k.toNat →
    FjFaults (.fjFcclr slot k) s slot 3 f 1) ∧
  (∀ (s : State) (slot : Nat) (f : Fj) (k : BitVec 8), FjReady s.blk slot 3 f → k.toNat < 8 → bitOf f.img.counters k.toNat = false →
    FjFaults (.fjFcclr slot k) s slot 3 f 3) ∧
  (∀ (s : State) (slot : Nat) (f : Fj) (d o : BitVec 8), FjReady s.blk slot 5 f → f.is [.uint] d = true →
    o.toNat < f.img.objs.length → (tget ctlD f.c.objs o.toNat).state = .idle →
    FjEnds (.fjCtlrd slot d o 1) s slot 5 f { f := f.counted.set d (Config.ctlIdle 1).toNat } ∧
    FjEnds (.fjCtlrd slot d o 2) s slot 5 f { f := f.counted.set d (Config.ctlIdle 2).toNat } ∧
    FjEnds (.fjCtlrd slot d o 3) s slot 5 f { f := f.counted.set d (Config.ctlIdle 3).toNat } ∧
    FjEnds (.fjCtlrd slot d o 4) s slot 5 f { f := f.counted.set d (tget ctlD f.c.objs o.toNat).result }) ∧
  (∀ (s : State) (slot : Nat) (f : Fj) (d o j : BitVec 8), FjReady s.blk slot 5 f → 5 < j.toNat ∨ f.is (if j.toNat = 0 ∨ j.toNat =
    5 then [.bool] else [.uint]) d = false → FjFaults (.fjCtlrd slot d o j) s slot 5 f 1) ∧
  (∀ (s : State) (slot : Nat) (f : Fj) (d o j : BitVec 8), FjReady s.blk slot 5 f → j.toNat ≤ 5 → f.is (if j.toNat = 0 ∨ j.toNat =
    5 then [.bool] else [.uint]) d = true → f.img.objs.length ≤ o.toNat → FjFaults (.fjCtlrd slot d o j) s slot 5 f 2) ∧
  (∀ (s : State) (slot : Nat) (f : Fj) (o a : BitVec 8), FjReady s.blk slot 4 f → f.is [.uint] a = false →
    FjFaults (.fjCtlack slot o a) s slot 4 f 1) ∧
  (∀ (s : State) (slot : Nat) (f : Fj) (o a : BitVec 8), FjReady s.blk slot 4 f → f.is [.uint] a = true →
    f.img.objs.length ≤ o.toNat → FjFaults (.fjCtlack slot o a) s slot 4 f 2) ∧
  (∀ (s : State) (slot : Nat) (f : Fj) (o a c : BitVec 8), FjReady s.blk slot 5 f → f.is [.bool, .uint] a = false ∨ 3 < c.toNat →
    FjFaults (.fjCtlop slot o a c) s slot 5 f 1) ∧
  (∀ (s : State) (slot : Nat) (f : Fj) (o a c : BitVec 8), FjReady s.blk slot 5 f → f.is [.bool, .uint] a = true → c.toNat ≤ 3 →
    f.img.objs.length ≤ o.toNat → FjFaults (.fjCtlop slot o a c) s slot 5 f 2) ∧
  (∀ (s : State) (slot : Nat) (f : Fj) (a k : BitVec 8), FjReady s.blk slot 4 f → f.is [.uint] a = false →
    FjFaults (.fjEvt slot a k) s slot 4 f 1)

/-- The long instructions run to their end element by element, are interrupted at a boundary, resumed at PROG, or fault. For GATH
(single words and points), SCAT, BMOV, CURV and SUMV. Started at element 0 with the checks of R265, R269 and R271 met, every index
in bounds when its element is processed, the words written allowed, and no task of higher priority or halt waiting: exec answers a
next state in which all elements have been processed in order, and m or d has received the mask or the sum (R266 to R271). A bad
index at element k leaves the elements before it and is RANGE with FPROG k (R271). Where a task of higher priority or a halt waits,
BMOV stops at the next boundary with PROG the next element; resumed, it goes on from element PROG; and a GATH whose N is at or below
PROG completes at once (R271). Inside a LOCK section or with an operand local of another type they are ILL, with a bad header,
table, count or area RANGE, with a destination that the task may not write ACCESS, and nothing is written (R250, R254). Spec:
12_fjoask_instructions.md. -/
def Obligations.FjLongInstructionsComplete : Prop :=
  (∀ (s : State) (slot : Nat) (f : Fj) (m : BitVec 8) (ad as_ ax : BitVec 16) (n bound : Nat), FjReady s.blk slot 8 f →
    f.is [.uint] m = true → f.x.lockcnt = 0 → f.x.prog = 0 → f.undisturbed → f.header ax.toNat false = some (n, 0, bound) →
    inArea ad.toNat 0 n = true → f.noWrites ad.toNat n = false → (∀ i, i < n →
    (f.gathered ad.toNat as_.toNat ax.toNat i).index ax.toNat i < bound ∧
    inArea as_.toNat ((f.gathered ad.toNat as_.toNat ax.toNat i).index ax.toNat i) 1 = true) →
    FjEnds (.fjGath slot m ad as_ ax) s slot 8 f { f := (f.gathered ad.toNat as_.toNat ax.toNat n).set m 0 }) ∧
  (∀ (s : State) (slot : Nat) (f : Fj) (m : BitVec 8) (ad as_ ax : BitVec 16) (n bound : Nat), FjReady s.blk slot 8 f →
    f.is [.uint] m = true → f.x.lockcnt = 0 → f.x.prog = 0 → f.undisturbed → f.header ax.toNat false = some (n, 1, bound) →
    inArea ad.toNat 0 (2 * n) = true → f.noWrites ad.toNat (2 * n) = false → (∀ i, i < n →
    (f.gatheredPoints ad.toNat as_.toNat ax.toNat n i).1.index ax.toNat i < bound ∧
    inArea as_.toNat (2 * (f.gatheredPoints ad.toNat as_.toNat ax.toNat n i).1.index ax.toNat i) 2 = true) →
    FjEnds (.fjGath slot m ad as_ ax) s slot 8 f { f := (f.gatheredPoints ad.toNat as_.toNat ax.toNat n n).1.set m ((f.gatheredPoints ad.toNat as_.toNat ax.toNat n n).2 % 2 ^ 16) }) ∧
  (∀ (s : State) (slot : Nat) (f : Fj) (ad as_ ax : BitVec 16) (n bound : Nat), FjReady s.blk slot 7 f → f.x.lockcnt = 0 →
    f.x.prog = 0 → f.undisturbed → f.header ax.toNat true = some (n, 0, bound) → inArea as_.toNat 0 n = true → (∀ i, i < n →
    (f.scattered ad.toNat as_.toNat ax.toNat i).index ax.toNat i < bound ∧
    inArea ad.toNat ((f.scattered ad.toNat as_.toNat ax.toNat i).index ax.toNat i) 1 = true ∧
    (f.scattered ad.toNat as_.toNat ax.toNat i).noWrite (ad.toNat + (f.scattered ad.toNat as_.toNat ax.toNat i).index ax.toNat i) =
    false) → FjEnds (.fjScat slot ad as_ ax) s slot 7 f { f := f.scattered ad.toNat as_.toNat ax.toNat n }) ∧
  (∀ (s : State) (slot : Nat) (f : Fj) (ad as_ : BitVec 16) (n : BitVec 8), FjReady s.blk slot 6 f → f.x.lockcnt = 0 → f.x.prog =
    0 → f.undisturbed → inArea ad.toNat 0 (n256 n) = true → inArea as_.toNat 0 (n256 n) = true → f.noWrites ad.toNat (n256 n) =
    false → FjEnds (.fjBmov slot ad as_ n) s slot 6 f { f := f.moved ad.toNat as_.toNat (n256 n) }) ∧
  (∀ (s : State) (slot : Nat) (f : Fj) (ad as_ at_ : BitVec 16) (n : BitVec 8) (z : Nat × Word × List (Word × Word)),
    FjReady s.blk slot 8 f → f.x.lockcnt = 0 → f.x.prog = 0 → f.undisturbed → f.curvTable at_.toNat = some z → 1 ≤ n.toNat →
    n.toNat ≤ 64 → inArea ad.toNat 0 n.toNat = true → inArea as_.toNat 0 n.toNat = true → f.noWrites ad.toNat n.toNat = false →
    FjEnds (.fjCurv slot ad as_ at_ n) s slot 8 f { f := f.curved ad.toNat as_.toNat at_.toNat n.toNat }) ∧
  (∀ (s : State) (slot : Nat) (f : Fj) (d : BitVec 8) (as_ : BitVec 16) (n : BitVec 8), FjReady s.blk slot 5 f → f.is [.real] d =
    true → f.x.lockcnt = 0 → f.x.prog = 0 → f.undisturbed → inArea as_.toNat 0 (n256 n) = true →
    FjEnds (.fjSumv slot d as_ n) s slot 5 f { f := (f.summed as_.toNat (n256 n)).1.set d (f.summed as_.toNat (n256 n)).2.toNat }) ∧
  (∀ (s : State) (slot : Nat) (f : Fj) (m : BitVec 8) (ad as_ ax : BitVec 16), FjReady s.blk slot 8 f → f.is [.uint] m = false ∨
    f.x.lockcnt ≠ 0 → FjFaults (.fjGath slot m ad as_ ax) s slot 8 f 1) ∧
  (∀ (s : State) (slot : Nat) (f : Fj) (m : BitVec 8) (ad as_ ax : BitVec 16), FjReady s.blk slot 8 f → f.is [.uint] m = true →
    f.x.lockcnt = 0 → f.header ax.toNat false = none → FjFaults (.fjGath slot m ad as_ ax) s slot 8 f 2) ∧
  (∀ (s : State) (slot : Nat) (f : Fj) (m : BitVec 8) (ad as_ ax : BitVec 16) (n k bound : Nat), FjReady s.blk slot 8 f →
    f.is [.uint] m = true → f.x.lockcnt = 0 → f.header ax.toNat false = some (n, k, bound) → inArea ad.toNat 0 (if k =
    1 then 2 * n else n) = false → FjFaults (.fjGath slot m ad as_ ax) s slot 8 f 2) ∧
  (∀ (s : State) (slot : Nat) (f : Fj) (m : BitVec 8) (ad as_ ax : BitVec 16) (n k bound : Nat), FjReady s.blk slot 8 f →
    f.is [.uint] m = true → f.x.lockcnt = 0 → f.header ax.toNat false = some (n, k, bound) → inArea ad.toNat 0 (if k =
    1 then 2 * n else n) = true → f.noWrites ad.toNat (if k = 1 then 2 * n else n) = true →
    FjFaults (.fjGath slot m ad as_ ax) s slot 8 f 3) ∧
  (∀ (s : State) (slot : Nat) (f : Fj) (ad as_ ax : BitVec 16), FjReady s.blk slot 7 f → f.x.lockcnt ≠ 0 →
    FjFaults (.fjScat slot ad as_ ax) s slot 7 f 1) ∧
  (∀ (s : State) (slot : Nat) (f : Fj) (ad as_ ax : BitVec 16), FjReady s.blk slot 7 f → f.x.lockcnt = 0 → f.header ax.toNat true =
    none → FjFaults (.fjScat slot ad as_ ax) s slot 7 f 2) ∧
  (∀ (s : State) (slot : Nat) (f : Fj) (ad as_ ax : BitVec 16) (n k bound : Nat), FjReady s.blk slot 7 f → f.x.lockcnt = 0 →
    f.header ax.toNat true = some (n, k, bound) → inArea as_.toNat 0 n = false → FjFaults (.fjScat slot ad as_ ax) s slot 7 f 2) ∧
  (∀ (s : State) (slot : Nat) (f : Fj) (ad as_ ax : BitVec 16) (n k bound : Nat), FjReady s.blk slot 7 f → f.x.lockcnt = 0 →
    f.header ax.toNat true = some (n, k, bound) → inArea as_.toNat 0 n = true → 0x8000 ≤ ad.toNat → ad.toNat < 0xC000 →
    FjFaults (.fjScat slot ad as_ ax) s slot 7 f 3) ∧
  (∀ (s : State) (slot : Nat) (f : Fj) (ad as_ : BitVec 16) (n : BitVec 8), FjReady s.blk slot 6 f → f.x.lockcnt ≠ 0 →
    FjFaults (.fjBmov slot ad as_ n) s slot 6 f 1) ∧
  (∀ (s : State) (slot : Nat) (f : Fj) (ad as_ : BitVec 16) (n : BitVec 8), FjReady s.blk slot 6 f → f.x.lockcnt = 0 →
    inArea ad.toNat 0 (n256 n) = false ∨ inArea as_.toNat 0 (n256 n) = false → FjFaults (.fjBmov slot ad as_ n) s slot 6 f 2) ∧
  (∀ (s : State) (slot : Nat) (f : Fj) (ad as_ : BitVec 16) (n : BitVec 8), FjReady s.blk slot 6 f → f.x.lockcnt = 0 →
    inArea ad.toNat 0 (n256 n) = true → inArea as_.toNat 0 (n256 n) = true → f.noWrites ad.toNat (n256 n) = true →
    FjFaults (.fjBmov slot ad as_ n) s slot 6 f 3) ∧
  (∀ (s : State) (slot : Nat) (f : Fj) (ad as_ at_ : BitVec 16) (n : BitVec 8), FjReady s.blk slot 8 f → f.x.lockcnt ≠ 0 →
    FjFaults (.fjCurv slot ad as_ at_ n) s slot 8 f 1) ∧
  (∀ (s : State) (slot : Nat) (f : Fj) (ad as_ at_ : BitVec 16) (n : BitVec 8), FjReady s.blk slot 8 f → f.x.lockcnt = 0 → n.toNat =
    0 ∨ 64 < n.toNat ∨ f.curvTable at_.toNat = none ∨ inArea ad.toNat 0 n.toNat = false ∨ inArea as_.toNat 0 n.toNat = false →
    FjFaults (.fjCurv slot ad as_ at_ n) s slot 8 f 2) ∧
  (∀ (s : State) (slot : Nat) (f : Fj) (ad as_ at_ : BitVec 16) (n : BitVec 8), FjReady s.blk slot 8 f → f.x.lockcnt = 0 →
    1 ≤ n.toNat → n.toNat ≤ 64 → f.curvTable at_.toNat ≠ none → inArea ad.toNat 0 n.toNat = true → inArea as_.toNat 0 n.toNat =
    true → f.noWrites ad.toNat n.toNat = true → FjFaults (.fjCurv slot ad as_ at_ n) s slot 8 f 3) ∧
  (∀ (s : State) (slot : Nat) (f : Fj) (d : BitVec 8) (as_ : BitVec 16) (n : BitVec 8), FjReady s.blk slot 5 f → f.is [.real] d =
    false ∨ f.x.lockcnt ≠ 0 → FjFaults (.fjSumv slot d as_ n) s slot 5 f 1) ∧
  (∀ (s : State) (slot : Nat) (f : Fj) (d : BitVec 8) (as_ : BitVec 16) (n : BitVec 8), FjReady s.blk slot 5 f → f.is [.real] d =
    true → f.x.lockcnt = 0 → inArea as_.toNat 0 (n256 n) = false → FjFaults (.fjSumv slot d as_ n) s slot 5 f 2) ∧
  (∀ (s : State) (slot : Nat) (f : Fj) (m : BitVec 8) (ad as_ ax : BitVec 16) (n bound k : Nat), FjReady s.blk slot 8 f →
    f.is [.uint] m = true → f.x.lockcnt = 0 → f.x.prog = 0 → f.undisturbed → f.header ax.toNat false = some (n, 0, bound) →
    inArea ad.toNat 0 n = true → f.noWrites ad.toNat n = false → k < n → (∀ i, i < k →
    (f.gathered ad.toNat as_.toNat ax.toNat i).index ax.toNat i < bound ∧
    inArea as_.toNat ((f.gathered ad.toNat as_.toNat ax.toNat i).index ax.toNat i) 1 = true) →
    (bound ≤ (f.gathered ad.toNat as_.toNat ax.toNat k).index ax.toNat k ∨
    inArea as_.toNat ((f.gathered ad.toNat as_.toNat ax.toNat k).index ax.toNat k) 1 = false) →
    FjEnds (.fjGath slot m ad as_ ax) s slot 8 f { f := f.gathered ad.toNat as_.toNat ax.toNat k, fault := 2, fprog := k }) ∧
  (∀ (s : State) (slot : Nat) (f : Fj) (ad as_ ax : BitVec 16) (n bound k : Nat), FjReady s.blk slot 7 f → f.x.lockcnt = 0 →
    f.x.prog = 0 → f.undisturbed → f.header ax.toNat true = some (n, 0, bound) → inArea as_.toNat 0 n = true → ad.toNat < 0x8000 ∨
    0xC000 ≤ ad.toNat → k < n → (∀ i, i < k → (f.scattered ad.toNat as_.toNat ax.toNat i).index ax.toNat i < bound ∧
    inArea ad.toNat ((f.scattered ad.toNat as_.toNat ax.toNat i).index ax.toNat i) 1 = true ∧
    (f.scattered ad.toNat as_.toNat ax.toNat i).noWrite (ad.toNat + (f.scattered ad.toNat as_.toNat ax.toNat i).index ax.toNat i) =
    false) → (bound ≤ (f.scattered ad.toNat as_.toNat ax.toNat k).index ax.toNat k ∨
    inArea ad.toNat ((f.scattered ad.toNat as_.toNat ax.toNat k).index ax.toNat k) 1 = false) →
    FjEnds (.fjScat slot ad as_ ax) s slot 7 f { f := f.scattered ad.toNat as_.toNat ax.toNat k, fault := 2, fprog := k }) ∧
  (∀ (s : State) (slot : Nat) (f : Fj) (ad as_ : BitVec 16) (n : BitVec 8) (p j : Nat), FjReady s.blk slot 6 f → f.x.lockcnt = 0 →
    f.x.prog = p → p + 1 < n256 n → f.counted.wanted = true → inArea ad.toNat 0 (n256 n) = true → inArea as_.toNat 0 (n256 n) =
    true → f.noWrites ad.toNat (n256 n) = false → j = (if ad.toNat ≤ as_.toNat then p else n256 n - 1 - p) →
    FjEnds (.fjBmov slot ad as_ n) s slot 6 f { f := f.wr (ad.toNat + j) (f.rd (as_.toNat + j)), pause := some (p + 1, if p = 0 then 0 else f.x.pstate) }) ∧
  (∀ (s : State) (slot : Nat) (f : Fj) (ad as_ : BitVec 16) (n : BitVec 8) (p : Nat), FjReady s.blk slot 6 f → f.x.lockcnt = 0 →
    f.x.prog = p → f.undisturbed → inArea ad.toNat 0 (n256 n) = true → inArea as_.toNat 0 (n256 n) = true →
    f.noWrites ad.toNat (n256 n) = false →
    FjEnds (.fjBmov slot ad as_ n) s slot 6 f { f := (List.range' p (n256 n - p)).foldl (fun g i => let k := if ad.toNat ≤ as_.toNat then i else n256 n - 1 - i; g.wr (ad.toNat + k) (g.rd (as_.toNat + k))) f }) ∧
  (∀ (s : State) (slot : Nat) (f : Fj) (m : BitVec 8) (ad as_ ax : BitVec 16) (n bound : Nat), FjReady s.blk slot 8 f →
    f.is [.uint] m = true → f.x.lockcnt = 0 → f.x.prog ≠ 0 → f.header ax.toNat false = some (n, 0, bound) → n ≤ f.x.prog →
    inArea ad.toNat 0 n = true → f.noWrites ad.toNat n = false →
    FjEnds (.fjGath slot m ad as_ ax) s slot 8 f { f := f.counted.set m (f.x.pstate.toNat % 2 ^ 16) })

/-- Reset, release and each step of the startup sequence have their effect wherever the step before is complete. In any state
PORST_N_ASSERT resets the logic side, cause 0, and keeps field side and fuses (R38). PORST_N_RELEASE ends a reset and samples the
straps (R39). Out of reset with the clock stopped, BOOT_ROM_COMPLETE starts the clock: the slot that the boot word names boots if it
is bootable and verifies, otherwise the other one with DEGRADED, otherwise the engine is in recovery with STAGE 0xF (R50, R53).
After step 1 MEMORY_SELF_TEST_COMPLETE reaches step 2 and starts the barrier link, DEGRADED where a memory failed (R50, R55); after
step 2 CONVERTER_CALIBRATION_COMPLETE reaches step 3 with the housekeeping origin at that instant (R50, R103); after step 3
BACKSTOP_ARM reaches step 4, armed where a copy verifies, and otherwise DEGRADED with the backstop as it was (R50, R54); after step
4 MAILBOX_ROOT_OPEN sets MBX_ROOT (R50, R62); then, outside recovery, ELEMENT_TABLE_LOAD loads the stored table into both buffers
(R57); after step 8 FABRIC_CLIENTS_SERVED sets MBX_FAB (R62). ADMISSION_END ends a port's admission from the later of its two
instants on (R64). FIELD_POWER_UP starts the field side from its reset values (R42). RECOVERY_RESET resets where a recovery
activation waits for it (R53). Spec: 03_first_second.md, 02_package_supplies_energy.md, 23_firmware_update_keys.md,
10_backstop_trip_path.md. -/
def Obligations.StartupStepsComplete : Prop :=
  (∀ (s : State), Does .porstNAssert s fun b => b.lands.porst = true ∧ b.fside = s.blk.fside ∧ b.nv.fuse = s.blk.nv.fuse ∧
    b.nv.resetCause = 0 ∧ b.sys = {} ∧ b.time = {} ∧ b.lgc = {} ∧ b.elm = {} ∧ b.mbx = {}) ∧
  (∀ (s : State) (h c : Bool), s.blk.lands.porst = true → Does (.porstNRelease h c) s fun b => b.lands.porst = false ∧
    b.sys.hostSel = h ∧ b.sys.clkSel = c) ∧
  (∀ (s : State) (a o : Bool), s.blk.lands.porst = false → s.blk.time.run = false → s.blk.sys.step = 0 →
    s.blk.nv.slotOk s.blk.nv.bootWord.2 = true → (if s.blk.nv.bootWord.2 = 0 then a else o) = true →
    Does (.bootRomComplete a o) s fun b => b.time.run = true ∧ b.sys.step = 1 ∧ b.sys.stage =
    (if s.blk.sys.recovery then 0xF else 1) ∧ b.sys.slotB = (s.blk.nv.bootWord.2 == 1)) ∧
  (∀ (s : State) (a o : Bool), s.blk.lands.porst = false → s.blk.time.run = false → s.blk.sys.step = 0 → s.blk.nv.bootWord.2 ≤ 1 →
    (s.blk.nv.slotOk s.blk.nv.bootWord.2 = false ∨ (if s.blk.nv.bootWord.2 = 0 then a else o) = false) →
    s.blk.nv.slotOk (1 - s.blk.nv.bootWord.2) = true → (if s.blk.nv.bootWord.2 = 0 then o else a) = true →
    Does (.bootRomComplete a o) s fun b => b.time.run = true ∧ b.sys.step = 1 ∧ b.sys.slotB = (s.blk.nv.bootWord.2 == 0) ∧
    b.sys.degraded = true) ∧
  (∀ (s : State) (a o : Bool), s.blk.lands.porst = false → s.blk.time.run = false → s.blk.sys.step = 0 → s.blk.nv.bootWord.2 ≤ 1 →
    (s.blk.nv.slotOk 0 = false ∨ a = false) → (s.blk.nv.slotOk 1 = false ∨ o = false) →
    Does (.bootRomComplete a o) s fun b => b.time.run = true ∧ b.sys.step = 1 ∧ b.sys.stage = 0xF ∧ b.sys.recovery = true) ∧
  (∀ (s : State) (bad lost : List Nat), s.blk.sys.step = 1 → Does (.memorySelfTestComplete bad lost) s fun b => b.bar.run = true ∧
    b.sys.step = 2 ∧ (bad ≠ [] → b.sys.degraded = true)) ∧
  (∀ (s : State) (trims : List (Nat × Int × Int)) (res : List (Nat × TestRes)), s.blk.sys.step = 2 →
    Does (.converterCalibrationComplete trims res) s fun b => b.cnv.calib = true ∧ b.cnv.hkOrg = s.blk.now ∧ b.sys.step = 3) ∧
  (∀ (s : State) (a o : Bool), s.blk.sys.step = 3 → (a = true ∧ s.blk.nv.bsTorn ≠ some 0 ∨ o = true ∧ s.blk.nv.bsTorn ≠ some 1) →
    Does (.backstopArm a o) s fun b => b.sys.step = 4 ∧ b.sys.backstop = true) ∧
  (∀ (s : State) (a o : Bool), s.blk.sys.step = 3 → (a = false ∨ s.blk.nv.bsTorn = some 0) → (o = false ∨ s.blk.nv.bsTorn =
    some 1) → Does (.backstopArm a o) s fun b => b.sys.step = 4 ∧ b.sys.backstop = s.blk.sys.backstop ∧ b.bs = s.blk.bs ∧
    b.sys.degraded = true) ∧
  (∀ (s : State), s.blk.sys.step = 4 → Does .mailboxRootOpen s fun b => b.sys.mbxRoot = true ∧ b.sys.step = 5) ∧
  (∀ (s : State), s.blk.sys.step = 5 → s.blk.sys.recovery = false → s.blk.sys.tableLoaded = false →
    Does .elementTableLoad s fun b => b.elm.active = s.blk.nv.store.table ∧ b.elm.inactive = s.blk.nv.store.table ∧ b.elm.bad = [] ∧
    b.elm.swap = none ∧ b.sys.tableLoaded = true) ∧
  (∀ (s : State), s.blk.sys.step = 8 → Does .fabricClientsServed s fun b => b.sys.mbxFab = true ∧ 9 ≤ b.sys.step) ∧
  (∀ (s : State) (p : Nat), s.blk.time.run = true → p < 4 → 1000 * msE ≤ s.blk.now → (s.blk.sys.linkUpAt.getD p 0 = 0 ∨
    s.blk.sys.linkUpAt.getD p 0 + 250 * msE ≤ s.blk.now) → Does (.admissionEnd p) s fun b => b.sys.admDone =
    lupd s.blk.sys.admDone p fun _ => true) ∧
  (∀ (s : State), Does .fieldPowerUp s fun b => b.fside = { powered := true }) ∧
  (∀ (s : State), s.blk.recoveryDue = true → Does .recoveryReset s fun b => b.lands.porst = true ∧ b.sys = {} ∧ b.nv.fuse =
    s.blk.nv.fuse)

/-- Rails, brown-out, reference loss, TIM10M loss, PWR_FAIL, the shutdown flush and the field lockout have their effect. Out of
reset, RAIL_OUT_OF_WINDOW marks a rail that is inside as out, VANA setting QUESTIONABLE at once (R35); RAIL_RETURN unmarks a rail
that is out (R35). In any state BROWN_OUT and REFERENCE_LOSS reset the logic side under causes 1 and 2 and keep the field side and
the fuses (R35, R44, R541). TIM10M_LOSS, while TIM10M_IN is selected and not lost, sets LOST and turns LOCKED into HOLDOVER (R44,
R352). PWR_FAIL_FALL lowers the land; out of reset with no shutdown in progress it starts the orderly shutdown (R40). PWR_FAIL_RISE
raises the land; of a shutdown that PWR_FAIL_N started it asks the cancellation before FLUSHED and ends it after (R70).
SHUTDOWN_FLUSH_COMPLETE, in a shutdown not yet flushed, sets FLUSHED, or ends the shutdown where its cancellation was asked (R69,
R70). On a powered field side VFLD_LOCKOUT_ENTER sets the lockout and VFLD_LOCKOUT_EXIT clears it (R36). Spec:
02_package_supplies_energy.md, 03_first_second.md, 16_network_time.md. -/
def Obligations.SupplyAndShutdownCommandsComplete : Prop :=
  (∀ (s : State) (r : Nat), r < 4 → s.blk.lands.porst = false → s.blk.sys.rails.getD r false = false →
    Does (.railOutOfWindow r) s fun b => b.sys.rails = lupd s.blk.sys.rails r (fun _ => true) ∧ b.sys.vanaQ =
    (s.blk.sys.vanaQ || r == 3)) ∧
  (∀ (s : State) (r mV : Nat), s.blk.sys.rails.getD r false = true → Does (.railReturn r mV) s fun b => b.sys.rails =
    lupd s.blk.sys.rails r (fun _ => false)) ∧
  (∀ (s : State), Does .brownOut s fun b => b.nv.resetCause = 1 ∧ b.lands.porst = true ∧ b.sys = {} ∧ b.fside = s.blk.fside ∧
    b.nv.fuse = s.blk.nv.fuse) ∧
  (∀ (s : State), Does .referenceLoss s fun b => b.nv.resetCause = 2 ∧ b.lands.porst = true ∧ b.sys = {} ∧ b.fside = s.blk.fside ∧
    b.nv.fuse = s.blk.nv.fuse) ∧
  (∀ (s : State), s.blk.time.ref10m = true → s.blk.time.lost = false → Does .tim10mLoss s fun b => b.time.lost = true ∧
    b.time.servo.state = (if s.blk.time.servo.state = .locked then .holdover else s.blk.time.servo.state)) ∧
  (∀ (s : State), s.blk.lands.pwrFailN = true → Does .pwrFailFall s fun b => b.lands.pwrFailN = false ∧ (s.blk.lands.porst = false →
    s.blk.sys.shutdown = none → b.sys.shutdown = some .pwrFail ∧ b.sys.flushed = false ∧ b.sys.cancel = false)) ∧
  (∀ (s : State), Does .pwrFailRise s fun b => b.lands.pwrFailN = true ∧ (s.blk.sys.shutdown = some .pwrFail → s.blk.sys.flushed =
    false → b.sys.cancel = true ∧ b.sys.shutdown = some .pwrFail) ∧ (s.blk.sys.shutdown = some .pwrFail → s.blk.sys.flushed = true →
    b.sys.shutdown = none ∧ b.sys.flushed = false)) ∧
  (∀ (s : State) (res : FlashRes), s.blk.sys.shutdown.isSome = true → s.blk.sys.flushed = false →
    Does (.shutdownFlushComplete res) s fun b => if s.blk.sys.cancel = true then b.sys.shutdown = none ∧ b.sys.flushed =
    false else b.sys.flushed = true ∧ b.sys.shutdown = s.blk.sys.shutdown) ∧
  (∀ (s : State), s.blk.fside.powered = true → Does .vfldLockoutEnter s fun b => b.fside.lockout = true) ∧
  (∀ (s : State), s.blk.fside.powered = true → Does .vfldLockoutExit s fun b => b.fside = { s.blk.fside with lockout := false })

/-- The element tick, the generation, the element pass, their publication and the timer wheel have their effect. While the clock
runs, ELEMENT_TICK moves it to the issuing edge of the next tick, advances the epoch by one and latches the stations' values and
VANA's QUESTIONABLE (R16, R18, R35). ACC_GENERATION_PUBLISH publishes generation E once, the one before standing as the previous
(R18). ELEMENT_PASS, on a loaded table, with generation E published and pass E not yet run, runs pass E and leaves its states to be
published; the first pass sets ELEM_RUN and ends the step at 300 ms (R18, R57). ELEMENT_STATE_PUBLICATION, once pass E has run,
publishes its states, keeps the states before as the previous and takes its matrix (R18, R19). TRACKER_NOMINAL_TIMEOUT makes a
tracker held for 2 s publish FNOM with NOMINAL (R129). TIMER_EXPIRY counts, on a notifying timer of the logic or the firmware class,
the expiries not yet notified (R198). TIMER_HOLD_EXPIRY makes a timer whose pause has run out idle and leaves any other as it is
(R192). Spec: 01_islands_and_data_flow.md, 07_accumulators.md, 08_protection_elements.md, 09_timer_wheel.md. -/
def Obligations.TickAndGenerationCommandsComplete : Prop :=
  (∀ (s : State) (x y z : Bool), s.blk.time.run = true → Does (.elementTick x y z) s fun b => b.time = s.blk.time.tick ∧
    b.time.epoch = s.blk.time.epoch + 1 ∧ b.lgc.stnSet = s.blk.lgc.stns ∧ b.sys.vanaQ = s.blk.sys.rails.getD 3 false) ∧
  (∀ (s : State), s.blk.time.run = true → s.blk.acc.cur.epoch < s.blk.time.epoch →
    Does .accGenerationPublish s fun b => b.acc.cur.epoch = s.blk.time.epoch ∧ b.acc.prev = s.blk.acc.cur) ∧
  (∀ (s : State), s.blk.sys.tableLoaded = true → s.blk.sys.elemRun = true → s.blk.acc.cur.epoch = s.blk.time.epoch →
    s.blk.elm.passEpoch ≠ some s.blk.time.epoch → s.blk.elm.pubEpoch ≠ s.blk.time.epoch → Does .elementPass s fun b => b.elm =
    (s.blk.runTo (s.blk.edgeNow + 7812 * nsE + nsE / 2)).pass.elm ∧ b.elm.passEpoch = some s.blk.time.epoch ∧ b.elm.fresh = false) ∧
  (∀ (s : State), s.blk.sys.tableLoaded = true → s.blk.sys.elemRun = false → s.blk.acc.cur.epoch = s.blk.time.epoch →
    s.blk.elm.passEpoch ≠ some s.blk.time.epoch → Does .elementPass s fun b => b.elm.passEpoch = some s.blk.time.epoch ∧
    b.sys.elemRun = true ∧ (s.blk.sys.step = 5 → 6 ≤ b.sys.step)) ∧
  (∀ (s : State), s.blk.elm.passEpoch = some s.blk.time.epoch → Does .elementStatePublication s fun b => b.elm.pub =
    s.blk.elm.states ∧ b.elm.prev = s.blk.elm.pub ∧ b.elm.pubEpoch = s.blk.time.epoch ∧ b.elm.prevEpoch = s.blk.elm.pubEpoch ∧
    b.elm.drive = s.blk.elm.nextDrive ∧ b.elm.passEpoch = none) ∧
  (∀ (s : State) (t : Nat), t < 40 → (tget trackerD s.blk.acc.trk t).held = true → (tget trackerD s.blk.acc.trk t).nominal = false →
    (tget trackerD s.blk.acc.trk t).heldAt + 2 * secE ≤ s.blk.now →
    Does (.trackerNominalTimeout t) s fun b => tget trackerD b.acc.trk t =
    { tget trackerD s.blk.acc.trk t with nominal := true, freq := (s.blk.acc.track.fnom, 1) }) ∧
  (∀ (s : State) (n : Nat), (s.blk.wheel.get n).mode = .oneshot → (s.blk.wheel.get n).due (s.blk.nowNs / 1000 * 1000) = true →
    (s.blk.wheel.get n).notify = true → (s.blk.wheel.get n).done = 0 → ((s.blk.wheel.get n).cls = 1 ∨ (s.blk.wheel.get n).cls = 2) →
    Does (.timerExpiry n) s fun b => b.wheel = s.blk.wheel.upd n fun t => { t with pend := t.pend + 1, done := 1 }) ∧
  (∀ (s : State) (n m : Nat), (s.blk.wheel.get n).mode = .periodic → (s.blk.wheel.get n).count (s.blk.nowNs / 1000 * 1000) = m →
    (s.blk.wheel.get n).notify = true → (s.blk.wheel.get n).done < m → ((s.blk.wheel.get n).cls = 1 ∨ (s.blk.wheel.get n).cls = 2) →
    Does (.timerExpiry n) s fun b => b.wheel = s.blk.wheel.upd n fun t => { t with pend := t.pend + (m - t.done), done := m }) ∧
  (∀ (s : State) (n : Nat), Does (.timerHoldExpiry n) s fun b => b.wheel =
    s.blk.wheel.upd n (Timer.lapse (s.blk.timerRef (s.blk.wheel.get n))))

/-- The strobe, conversions, takes, urgent takes, housekeeping and self-tests have their effect. STROBE_EDGE on the strobe grid
starts the next grid period and keeps its index and instant (R91, R92). KEPT_CONVERSION inside an urgent entry's window joins that
entry's take, and inside a running entry's window the take of that entry, newest first (R90, R100). TAKE_SAMPLE, outside a self-test
and an urgent entry, frees a complete take; one of an external input with a sensor is, after calibration, reduced to one sample with
the take's mean instant, clip mark, count and gain, four times its mean where WB_EN is 0 or it clipped, and that value itself where
INTEG is 0 (R89, R80, R135). URGENT_REQUEST_START, where the request may start, no self-test runs, the twin converter serves none
and this period had none, pre-empts the entry (R100, R101). URGENT_TAKE_COMPLETE of a full urgent take frees the converter (R102).
HOUSEKEEPING_ROUND from its instant on counts the round and asks every converter of its path (R103). CONVERTER_SELF_TEST_START
starts a wanted test (R113). CONVERTER_SELF_TEST_VERDICT, once every take of the schedule is there, takes the verdict once (R114).
DISPUTED_CLEAR clears DISPUTED 60 s after the last disagreement (R119). RETURNING_END puts what returns back into service after
32,000 generations, a converter of path A serving again (R122). Spec: 05_converters_and_sequences.md, 06_twin_paths.md,
04_analogue_inputs.md, 17_ethernet_ports.md. -/
def Obligations.ConversionCommandsComplete : Prop :=
  (∀ (s : State) (idx el : Nat), s.blk.onGrid el = true → Does (.strobeEdge idx el) s fun b => b.cnv.idx = idx ∧ b.cnv.strobeEl =
    el ∧ b.cnv.grid = s.blk.cnv.grid + 1) ∧
  (∀ (s : State) (p : Path) (k idx : Nat) (raw : BitVec 16) (u : Urg) (st : Nat), (s.blk.twin k).inSchedule = false →
    (tget convD s.blk.cnv.convs (cix p k)).urgent = some (u, st) → st + entSettle u.entry ≤ idx → idx < st + entLen u.entry →
    Does (.keptConversion p k idx raw) s fun b => b.cnv.convs =
    tset convD s.blk.cnv.convs (cix p k) { tget convD s.blk.cnv.convs (cix p k) with kept := ((tget convD s.blk.cnv.convs (cix p k)).code u.entry raw, idx) :: (tget convD s.blk.cnv.convs (cix p k)).kept }) ∧
  (∀ (s : State) (p : Path) (k idx ei base left : Nat) (raw : BitVec 16) (c : Conv), tget convD s.blk.cnv.convs (cix p k) = c →
    (s.blk.twin k).inSchedule = false → c.urgent = none → c.pos (s.blk.cnv.seq k) idx = .running ei base left →
    base + entSettle (entAt (s.blk.cnv.seq k) ei) ≤ idx →
    Does (.keptConversion p k idx raw) s fun b => (tget convD b.cnv.convs (cix p k)).kept =
    (c.code (entAt (s.blk.cnv.seq k) ei) raw, idx) :: (if c.takeEnt = ei ∧ c.takeBase = base then c.kept else []) ∧
    (tget convD b.cnv.convs (cix p k)).takeEnt = ei ∧ (tget convD b.cnv.convs (cix p k)).takeBase = base) ∧
  (∀ (s : State) (p : Path) (k n e : Nat) (c : Conv), tget convD s.blk.cnv.convs (cix p k) = c → (s.blk.twin k).inSchedule = false →
    c.urgent = none → c.kept ≠ [] → entAt (s.blk.cnv.seq k) c.takeEnt = e → (entTake e ≤ c.kept.length ∨ c.cutTake = true ∧
    entLast e = true) → entInput e < 8 → n = 8 * k + entInput e → (s.blk.inRec n).sensor ≠ 0 → s.blk.cnv.calib = true →
    Does (.takeSample p k) s fun b => b.cnv.convs = tset convD s.blk.cnv.convs (cix p k) { c with kept := [], cutTake := false } ∧
    ∃ y, (tget smpD b.acc.hist (pix p n)).head? = some y ∧ y.clip = (takeValue c.kept).2 ∧ y.n = c.kept.length ∧ y.inst =
    s.blk.takeInst c.takeEl c.takeIdx c.kept ∧ y.grid = c.takeGrid ∧ y.gain = entGain e ∧ ((s.blk.inRec n).wbEn = false ∨ y.clip =
    true → y.x = 4 * (takeValue c.kept).1) ∧ ((s.blk.inRec n).integ = false → y.w = y.x * 2 ^ 26)) ∧
  (∀ (s : State) (p : Path) (k idx : Nat) (u : Urg) (q : List Urg), (tget convD s.blk.cnv.convs (cix p k)).nextUrgent idx = some (u,
    q) → (tget convD s.blk.cnv.convs (cix p k)).urgent = none → (s.blk.twin k).testing = none →
    (tget convD s.blk.cnv.convs (match p with | .a => 20 + k | .b => k)).urgent = none →
    (tget convD s.blk.cnv.convs (match p with | .a => 20 + k | .b => k)).urgGrid ≠ some s.blk.cnv.grid →
    Does (.urgentRequestStart p k idx) s fun b => ∃ e x y, b.cnv.convs =
    tset convD s.blk.cnv.convs (cix p k) { tget convD s.blk.cnv.convs (cix p k) with queue := q, urgent := some (u, idx), urgGrid := some s.blk.cnv.grid, kept := [], entry := e, base := x, resume := y }) ∧
  (∀ (s : State) (p : Path) (k idx : Nat) (u : Urg), (tget convD s.blk.cnv.convs (cix p k)).urgent = some (u, idx) →
    entTake u.entry ≤ (tget convD s.blk.cnv.convs (cix p k)).kept.length →
    Does (.urgentTakeComplete p k) s fun b => (tget convD b.cnv.convs (cix p k)).urgent = none ∧
    (tget convD b.cnv.convs (cix p k)).kept = [] ∧ (tget convD b.cnv.convs (cix p k)).base =
    (if (tget convD s.blk.cnv.convs (cix p k)).resume then idx + entLen u.entry else (tget convD s.blk.cnv.convs (cix p k)).base)) ∧
  (∀ (s : State), s.blk.cnv.calib = true → s.blk.cnv.hkInt ≠ 0 → s.blk.cnv.roundAt .a ≤ s.blk.now →
    Does (.housekeepingRound .a) s fun b => b.cnv.hkA = s.blk.cnv.hkA + 1 ∧ b.cnv.hkB = s.blk.cnv.hkB ∧ b.cnv.convs =
    tupdAll convD s.blk.cnv.convs ((List.range 20).map fun k => cix .a k) (fun _ c => c.ask)) ∧
  (∀ (s : State), s.blk.cnv.calib = true → s.blk.cnv.hkInt ≠ 0 → s.blk.cnv.roundAt .b ≤ s.blk.now →
    Does (.housekeepingRound .b) s fun b => b.cnv.hkB = s.blk.cnv.hkB + 1 ∧ b.cnv.hkA = s.blk.cnv.hkA ∧ b.cnv.convs =
    tupdAll convD s.blk.cnv.convs ((List.range 20).map fun k => cix .b k) (fun _ c => c.ask)) ∧
  (∀ (s : State) (k : Nat) (w : TestBy), (s.blk.twin k).want = some w → (s.blk.twin k).testing = none →
    Does (.converterSelfTestStart k) s fun b => b.cnv.twins =
    tset twinD s.blk.cnv.twins k { s.blk.twin k with want := none, testing := some (w, s.blk.cnv.idx), testBeg := s.blk.cnv.strobeEl, resumed := false, verdict := none }) ∧
  (∀ (s : State) (k el : Nat) (w : TestBy × Nat), (s.blk.twin k).testing = some w → (s.blk.twin k).verdict = none →
    takesDone (tget convD s.blk.cnv.convs k).test = true → takesDone (tget convD s.blk.cnv.convs (20 + k)).test = true →
    Does (.converterSelfTestVerdict k el) s fun b => if (s.blk.twin k).resumed then (b.twin k).testing = none ∧ (b.twin k).cause =
    (verdictOf (s.blk.topGain k) (tget convD s.blk.cnv.convs k).zeroOfs (tget convD s.blk.cnv.convs (20 + k)).zeroOfs (takesRes (tget convD s.blk.cnv.convs k).test (tget convD s.blk.cnv.convs (20 + k)).test)).1 else (b.twin k).testing =
    some w ∧ (b.twin k).verdict =
    some (verdictOf (s.blk.topGain k) (tget convD s.blk.cnv.convs k).zeroOfs (tget convD s.blk.cnv.convs (20 + k)).zeroOfs (takesRes (tget convD s.blk.cnv.convs k).test (tget convD s.blk.cnv.convs (20 + k)).test))) ∧
  (∀ (s : State) (k : Nat), (s.blk.twin k).disputed = true → (s.blk.twin k).lastDis + 60 * secE ≤ s.blk.now →
    Does (.disputedClear k) s fun b => b.cnv.twins = tset twinD s.blk.cnv.twins k { s.blk.twin k with disputed := false }) ∧
  (∀ (s : State) (k m : Nat) (c : Bool) (l : List Nat), (s.blk.twin k).returning = some (.b, c, l, m) → 32000 ≤ m →
    Does (.returningEnd k) s fun b => b.cnv.twins =
    tset twinD s.blk.cnv.twins k { s.blk.twin k with removedB := (s.blk.twin k).removedB && !c, bufB := (s.blk.twin k).bufB.filter fun i => !decide (i ∈ l), returning := none }) ∧
  (∀ (s : State) (k m : Nat) (c : Bool) (l : List Nat), (s.blk.twin k).returning = some (.a, c, l, m) → 32000 ≤ m →
    Does (.returningEnd k) s fun b => b.cnv.twins =
    tset twinD s.blk.cnv.twins k { s.blk.twin k with removedA := (s.blk.twin k).removedA && !c, bufA := (s.blk.twin k).bufA.filter fun i => !decide (i ∈ l), returning := none, onPathB := if c then false else (s.blk.twin k).onPathB })

/-- Detector groups, the backstop's drives, the trip insertion and the wire-break evaluation have their effect. From 20 µs after an
arrival group opened, TW_GROUP_CLOSE closes it, begins its dead time and keeps the epoch of its DIR; the published detector also
numbers an arrival record with the group and the stamp of its first arrival and enters it into the FIFO, or drops it where the FIFO
is full (R143, R146). TW_DEAD_TIME_END, once the dead time is over, clears TWF (R209). INC_REFERENCE_RELEASE, 2 T_w after the start,
clears INC and the reference (R142). BACKSTOP_MIN_ON_EXPIRY ends the drive of a clear group whose MIN_ON has passed (R211).
BACKSTOP_RELOAD of failing parts clears them where a copy verifies, and otherwise clears BACKSTOP and is a LOSS (R217). While the
link runs, TRIP_INSERTION puts a changed command into the register with a new inserted frame (R15, R214); unchanged or with the link
silent, register and field side stay. WIRE_BREAK_EVALUATION after calibration, of an input with WB_EN and a sensor, takes its oldest
ended half off; where that half and the latest of the other polarity kept two samples, D below the threshold becomes the correction
and ends the run of open evaluations, and the second open one in a row declares a break (R81 to R84). Spec: 07_accumulators.md,
10_backstop_trip_path.md, 04_analogue_inputs.md, 01_islands_and_data_flow.md. -/
def Obligations.DetectorAndBackstopCommandsComplete : Prop :=
  (∀ (s : State) (p : Path) (d t0 : Nat), d < 40 → (s.blk.detOf true p d).openAt = some t0 → t0 + 20 * usE ≤ s.blk.anNow →
    Does (.twGroupClose true d) s fun b => (b.detOf true p d).openAt = none ∧ (b.detOf true p d).deadTo = t0 + 20 * usE + msE ∧
    (b.detOf true p d).dirAt = some s.blk.time.epoch ∧ b.acc = s.blk.acc) ∧
  (∀ (s : State) (d t0 : Nat), d < 40 → (s.blk.detOf false (s.blk.grpPath d) d).openAt = some t0 → t0 + 20 * usE ≤ s.blk.anNow →
    Does (.twGroupClose false d) s fun b => (b.detOf false (s.blk.grpPath d) d).openAt = none ∧ b.acc.rseq = s.blk.acc.rseq + 1 ∧
    if 256 ≤ s.blk.acc.fifo.length then b.acc.fifo = s.blk.acc.fifo ∧ b.acc.drops = s.blk.acc.drops + 1 else b.acc.drops =
    s.blk.acc.drops ∧ ∃ r, b.acc.fifo = s.blk.acc.fifo ++ [r] ∧ r.group = d ∧ r.stamp = s.blk.stampAt t0 ∧ r.rseq = s.blk.acc.rseq) ∧
  (∀ (s : State) (k : Bool) (p : Path) (d : Nat), d < 40 → (s.blk.detOf k p d).deadTo ≠ 0 →
    (s.blk.detOf k p d).deadTo ≤ s.blk.anNow → Does (.twDeadTimeEnd k d) s fun b => b.detOf k p d =
    { s.blk.detOf k p d with deadTo := 0, twf := false, twfBy := [] }) ∧
  (∀ (s : State) (k : Bool) (p : Path) (d t0 w : Nat), d < 40 → (s.blk.detOf k p d).startAt = some t0 →
    s.blk.tw (if d < 32 then 4 * d else 128 + 4 * (d - 32)) = w → t0 + 2 * w ≤ s.blk.anNow →
    Does (.incReferenceRelease k d) s fun b => b.detOf k p d =
    { s.blk.detOf k p d with inc := false, incBy := [], startAt := none, againAt := t0 + 3 * w, runs := [] }) ∧
  (∀ (s : State) (j : Nat) (x : Group), tget groupD s.blk.bs.groups j = x → x.driving = true → x.set = false →
    x.holdTo ≤ s.blk.now → Does (.backstopMinOnExpiry j) s fun b => b.bs.groups =
    tset groupD s.blk.bs.groups j { x with driving := false, set := false } ∧ b.bs.img = s.blk.bs.img) ∧
  (∀ (s : State) (a c : Bool), s.blk.bs.bad ≠ [] → s.blk.flt.spStopped = false → (a || c) = true →
    Does (.backstopReload a c) s fun b => b.bs.bad = [] ∧ b.bs.img = s.blk.bs.img ∧ b.flt.transient = s.blk.flt.transient + 1) ∧
  (∀ (s : State), s.blk.bs.bad ≠ [] → s.blk.flt.spStopped = false → Does (.backstopReload false false) s fun b => b.bs.img = none ∧
    b.sys.backstop = false ∧ b.sys.degraded = true ∧ b.flt.loss = s.blk.flt.loss + 1) ∧
  (∀ (s : State), s.blk.formCmd ≠ s.blk.bar.cmd → s.blk.bar.run = true → Does .tripInsertion s fun b => b.bar.cmd = s.blk.formCmd ∧
    b.bar.ins = true ∧ b.bar.inserted = s.blk.bar.inserted + 1 ∧ b.bar.seqDn = (s.blk.bar.seqDn + 1) % 16) ∧
  (∀ (s : State), (s.blk.formCmd = s.blk.bar.cmd ∨ s.blk.bar.run = false) → Does .tripInsertion s fun b => b.bar = s.blk.bar ∧
    b.fside = s.blk.fside) ∧
  (∀ (s : State) (n : Nat) (a : AIn) (h : Machine.Half) (r : List Machine.Half), tget ainD s.blk.cnv.ains n = a → a.closed =
    h :: r → (s.blk.inRec n).wbEn = true → (s.blk.inRec n).sensor ≠ 0 → s.blk.cnv.calib = true →
    Does (.wireBreakEvaluation n) s fun b => (tget ainD b.cnv.ains n).closed = r) ∧
  (∀ (s : State) (n t : Nat) (a : AIn) (h : Machine.Half) (r : List Machine.Half) (x y u v d : Int), tget ainD s.blk.cnv.ains n =
    a → a.closed = h :: r → (s.blk.inRec n).wbEn = true → (s.blk.inRec n).sensor ≠ 0 → s.blk.cnv.calib = true → lastTwo h.kept =
    some (x, y) → (if h.pos then a.negLast else a.posLast) = some ((u, v), t) → (if h.pos then x + y - u - v else u + v - x - y) =
    d → openD (s.blk.gainOf n) d = false → Does (.wireBreakEvaluation n) s fun b => (tget ainD b.cnv.ains n).dc = some d ∧
    (tget ainD b.cnv.ains n).opens = 0 ∧ (a.broken.isSome = true → 1 ≤ a.closes → (tget ainD b.cnv.ains n).broken = none)) ∧
  (∀ (s : State) (n t : Nat) (a : AIn) (h : Machine.Half) (r : List Machine.Half) (x y u v d : Int), tget ainD s.blk.cnv.ains n =
    a → a.closed = h :: r → (s.blk.inRec n).wbEn = true → (s.blk.inRec n).sensor ≠ 0 → s.blk.cnv.calib = true → lastTwo h.kept =
    some (x, y) → (if h.pos then a.negLast else a.posLast) = some ((u, v), t) → (if h.pos then x + y - u - v else u + v - x - y) =
    d → openD (s.blk.gainOf n) d = true → a.broken = none →
    Does (.wireBreakEvaluation n) s fun b => (tget ainD b.cnv.ains n).opens = a.opens + 1 ∧ (tget ainD b.cnv.ains n).dc = a.dc ∧
    (tget ainD b.cnv.ains n).broken = (if 1 ≤ a.opens then some (if a.opens =
    0 then (if h.start < t then h.start else t) else a.tbCand) else none))

/-- The recorder's interval and the sampled-value interval have their effect. While the disturbance recorder runs,
RECORDER_INTERVAL_END with no interval begun begins one at the last boundary passed; at a later boundary, with a reservation and no
record open, the set of the interval that ended joins the ring of pre-trigger sets, of which PRE are kept; with a record open that
has a set to come and room in its list of segments, that set joins the record (R469 to R473). SV_INTERVAL_END of a rate, from the
first interval on and while the SP runs, takes the interval that ended last once (R389, R539). Spec: 21_disturbance_recorder.md,
17_ethernet_ports.md. -/
def Obligations.RecorderAndSampledValueIntervalsComplete : Prop :=
  (∀ (s : State), s.blk.dist.run = true → s.blk.dist.start = none → Does .recorderIntervalEnd s fun b => b.dist.start =
    some (s.blk.ns64 / s.blk.distIv * s.blk.distIv) ∧ b.dist.seen = s.blk.chanLevels ∧ b.dist.tq = s.blk.time.tcQual ∧ b.dist.ring =
    s.blk.dist.ring) ∧
  (∀ (s : State) (t fin : Nat), s.blk.dist.run = true → s.blk.dist.start = some t → s.blk.ns64 / s.blk.distIv * s.blk.distIv = fin →
    fin ≠ t → s.blk.distOpen = none → s.blk.dist.open_.isSome = true → Does .recorderIntervalEnd s fun b => b.dist.start =
    some fin ∧ b.dist.ring =
    (s.blk.dist.ring ++ [s.blk.distSet (fin - s.blk.distIv) s.blk.distIv]).drop (s.blk.dist.ring.length + 1 - s.blk.dist.cfg.pre)) ∧
  (∀ (s : State) (t fin k : Nat) (r : DRec), s.blk.dist.run = true → s.blk.dist.start = some t →
    s.blk.ns64 / s.blk.distIv * s.blk.distIv = fin → fin ≠ t → s.blk.distOpen = some (k, r) → r.sets.length ≤ r.last →
    ({ r with sets := r.sets ++ [s.blk.distSet (fin - s.blk.distIv) s.blk.distIv], endAt := s.blk.elapsedAt fin } : DRec).segs.length < 16128 →
    Does .recorderIntervalEnd s fun b => b.dist.start = some fin ∧ b.dist.recs =
    tset drecD s.blk.dist.recs k (some { r with sets := r.sets ++ [s.blk.distSet (fin - s.blk.distIv) s.blk.distIv], endAt := s.blk.elapsedAt fin })) ∧
  (∀ (s : State) (rate hi : Nat), (rate = 4800 ∨ rate = 14400) → s.blk.spUp = true → 1000000000 ≤ s.blk.ns64 * rate → hi =
    s.blk.ns64 / 1000000000 * 1000000000 + (s.blk.ns64 % 1000000000 * rate / 1000000000 * 1000000000 + rate - 1) / rate →
    tget natD s.blk.net.svAt rate ≠ hi → Does (.svIntervalEnd rate) s fun b => b.net.svAt = tset natD s.blk.net.svAt rate hi)

/-- READ-IN, WRITE-OUT, the kettle, the arming delay and a task switch have their effect. CYCLE_READ_IN of a running slot on a
running pair, with no cycle in progress or to be repeated, at an aligned boundary from its next epoch on, once P(E) has come:
undamaged and with no new image due, its cycle begins on the committed data, tagged E and timed now, the next one N later; with a
new image due whose period divides E, that image is in force for it; damaged, the slot becomes FAULTED (R219, R221, R222, R536). An
EMPTY slot whose first image is due starts under the same conditions (R239). CYCLE_WRITE_OUT of a cycle whose tasks have all ended
and that is not past its kettle commits its data under its tag; a failed pulse test then fails the pair (R223, R232). KETTLE_FIRE
from the kettle on of a cycle in progress or to be repeated stops the slot as KETTLE and, where no planned takeover runs, its pair
(R225). ARM_DELAY_EXPIRY under the DELAY policy commands the release once R58 has been met for ARM_DELAY (R59). TASK_SWITCH where
the slot may run starts the best ready task if none runs or if it outranks a running one without a LOCK, and otherwise lets the
running one go on; the debug boundary follows on a shadow without a halt pending (R227, R497). Spec: 11_cyclic_execution.md,
08_protection_elements.md, 03_first_second.md, 24_fault_handling.md. -/
def Obligations.CycleCommandsComplete : Prop :=
  (∀ (s : State) (n : Nat) (y : Slot) (i : FjImg) (p : Nat), n < 8 → s.blk.slot n = y → y.img = some i → y.pair = some p →
    (s.blk.pair p).state = .running → y.running = true → y.cyc = none → y.redo = none → (∀ q j, y.next = some (q, j) →
    s.blk.time.epoch < q) → y.damaged = false → s.blk.time.epoch % i.n = 0 → y.nextE ≤ s.blk.time.epoch →
    y.blockTo ≤ s.blk.time.epoch → s.blk.elm.pubEpoch = s.blk.time.epoch → Does (.cycleReadIn n) s fun b => ∃ c, (b.slot n).cyc =
    some c ∧ c.e = s.blk.time.epoch ∧ c.at_ = s.blk.now ∧ c.data = y.data ∧ (b.slot n).nextE = s.blk.time.epoch + i.n ∧
    (b.slot n).inTag = s.blk.time.epoch ∧ (b.slot n).blockTo = 0 ∧ (b.slot n).count = y.count + c.skips + 1) ∧
  (∀ (s : State) (n : Nat) (y : Slot) (i j : FjImg) (p q : Nat), n < 8 → s.blk.slot n = y → y.img = some i → y.pair = some p →
    (s.blk.pair p).state = .running → y.running = true → y.cyc = none → y.redo = none → y.next = some (q, j) →
    q ≤ s.blk.time.epoch → y.damaged = false → s.blk.time.epoch % i.n = 0 → s.blk.time.epoch % j.n = 0 →
    y.nextE ≤ s.blk.time.epoch → y.blockTo ≤ s.blk.time.epoch → s.blk.elm.pubEpoch = s.blk.time.epoch →
    Does (.cycleReadIn n) s fun b => (b.slot n).img = some j ∧ (b.slot n).next = none ∧ (b.slot n).nextE = s.blk.time.epoch + j.n ∧
    ∃ c, (b.slot n).cyc = some c ∧ c.e = s.blk.time.epoch) ∧
  (∀ (s : State) (n : Nat) (y : Slot) (i : FjImg) (p : Nat), n < 8 → s.blk.slot n = y → y.img = some i → y.pair = some p →
    (s.blk.pair p).state = .running → y.running = true → y.cyc = none → y.redo = none → y.damaged = true → s.blk.time.epoch % i.n =
    0 → y.nextE ≤ s.blk.time.epoch → y.blockTo ≤ s.blk.time.epoch → s.blk.elm.pubEpoch = s.blk.time.epoch → y.takeover = none →
    Does (.cycleReadIn n) s fun b => (b.slot n).state = .faulted ∧ (b.slot n).cyc = none ∧ (b.pair p).state = .stopped) ∧
  (∀ (s : State) (n : Nat) (y : Slot) (i : FjImg) (p q : Nat), n < 8 → s.blk.slot n = y → y.img = none → y.next = some (q, i) →
    y.pair = some p → (s.blk.pair p).state = .running → q ≤ s.blk.time.epoch → s.blk.time.epoch % i.n = 0 → s.blk.elm.pubEpoch =
    s.blk.time.epoch → Does (.cycleReadIn n) s fun b => (b.slot n).img = some i ∧ ∃ c, (b.slot n).cyc = some c ∧ c.e =
    s.blk.time.epoch) ∧
  (∀ (s : State) (n : Nat) (y : Slot) (i : FjImg) (c : Cyc) (p : Nat), n < 8 → s.blk.slot n = y → y.img = some i → y.cyc = some c →
    y.pair = some p → c.ready = [] → c.stack = [] → s.blk.now ≤ c.kettle i →
    Does (.cycleWriteOut n true) s fun b => (b.slot n).cyc = none ∧ (b.slot n).data = c.data ∧ (b.slot n).lastTag = c.e ∧
    (b.slot n).cycled = true) ∧
  (∀ (s : State) (n : Nat) (y : Slot) (i : FjImg) (c : Cyc) (p : Nat), n < 8 → p < 9 → s.blk.slot n = y → y.img = some i → y.cyc =
    some c → y.pair = some p → y.takeover = none → (s.blk.pair p).state = .running → (s.blk.pair p).slot = some n → y.running =
    true → c.ready = [] → c.stack = [] → s.blk.now ≤ c.kettle i → Does (.cycleWriteOut n false) s fun b => (b.slot n).cyc = none ∧
    (b.slot n).data = c.data ∧ (b.slot n).lastTag = c.e ∧ (b.pair p).state = .failed) ∧
  (∀ (s : State) (n : Nat) (y : Slot) (i : FjImg) (c : Cyc) (p : Nat), n < 8 → s.blk.slot n = y → y.img = some i → (y.cyc = some c ∨
    y.cyc = none ∧ y.redo = some c) → y.pair = some p → c.kettle i ≤ s.blk.now → Does (.kettleFire n) s fun b => (b.slot n).state =
    .kettle ∧ (b.slot n).cyc = none ∧ (b.slot n).redo = none ∧ (y.takeover = none → b.lgc.pairs =
    tset pairD s.blk.lgc.pairs p (if (s.blk.pair p).state =
    .testing then { s.blk.pair p with back := .stopped } else { s.blk.pair p with state := .stopped }))) ∧
  (∀ (s : State) (n a : Nat), (s.blk.slot n).armOk = some a → s.blk.sys.armPolicy = 1 → a + s.blk.sys.armDelay * msE ≤ s.blk.now →
    Gives (.armDelayExpiry n) s (s.blk.putSlot n { s.blk.slot n with armCmd := true })) ∧
  (∀ (s : State) (n : Nat) (i : FjImg) (c : Cyc) (t : Nat) (b1 : Block), s.blk.mayRun n = true → (s.blk.slot n).img = some i →
    (s.blk.slot n).cyc = some c → i.best c.ready = some t → (c.stack = [] ∨ ∃ u r, c.stack = u :: r ∧ i.outranks t u = true ∧
    (c.active = false ∨ (tget ctxD c.ctxs u).lockcnt = 0)) → b1 =
    s.blk.putSlot n { s.blk.slot n with cyc := some (c.startTask i t) } → Gives (.taskSwitch n) s (if 8 ≤ n ∧
    (s.blk.pair (n - 8)).hreq.isNone then b1.debugAfter n else b1)) ∧
  (∀ (s : State) (n : Nat) (i : FjImg) (c : Cyc) (u : Nat) (r : List Nat) (b1 : Block), s.blk.mayRun n = true → (s.blk.slot n).img =
    some i → (s.blk.slot n).cyc = some c → c.stack = u :: r → (∀ t, i.best c.ready = some t → i.outranks t u = false ∨ c.active =
    true ∧ (tget ctxD c.ctxs u).lockcnt ≠ 0) → b1 = s.blk.putSlot n { s.blk.slot n with cyc := some { c with active := true } } →
    Gives (.taskSwitch n) s (if 8 ≤ n ∧ (s.blk.pair (n - 8)).hreq.isNone then b1.debugAfter n else b1))

/-- Detections, self-test verdicts, spare loads and takeovers of the pairs have their effect. LOCKSTEP_MISMATCH, DELAY_PARITY_ERROR
and PAIR_ECC_UNCORRECTABLE stop a pair that runs or loads for a slot, is stopped, spare, in SERVICE or HALTED, and start its
self-test under CAUSE 1, 2 or 4; the cycle in progress of a running slot it serves is kept for its repetition and the slot is
MIGRATING (R231, R233, R234, R239). PAIR_ECC_CORRECTED counts the error with event 454 (R533). PAIR_SELF_TEST_VERDICT of a pair
under test: without a failed step and with fewer than two transients in 60 s, or in a planned test, it runs again for its slot,
repeating the cycle kept, or is stopped or in SERVICE again; with a failed step, or a third transient in 60 s, a pair tested in the
spare role is FAILED, a LASTING fault, and for a running slot without a planned takeover the pair is FAILED and the spare loads for
the slot, or with none in sight the slot is FAULTED (R232 to R236, R532). SPARE_LOAD_COMPLETE makes the loaded pair serve its
migrating slot unless the microcode store is reloaded (R233, R537). SPARE_PULSE_TEST and SPARE_SELF_TEST fail a spare that fails
them and leave the block as it was otherwise (R232). TAKEOVER_IMAGE_LOADED and TAKEOVER_DATA_COPIED carry a planned takeover on, the
latter at an aligned boundary from the slot's next epoch on, once P(E) has come (R237). Spec: 11_cyclic_execution.md,
24_fault_handling.md. -/
def Obligations.PairCommandsComplete : Prop :=
  (∀ (s : State) (p : Nat), p < 9 → ((s.blk.pair p).state = .stopped ∨ (s.blk.pair p).state = .spare ∨ (s.blk.pair p).state =
    .service ∨ (s.blk.pair p).state = .halted ∨ ((s.blk.pair p).state = .running ∨ (s.blk.pair p).state = .loading) ∧
    (s.blk.pair p).slot.isSome = true) → Does (.lockstepMismatch p) s fun b => (b.pair p).state = .testing ∧ (b.pair p).cause = 1 ∧
    (b.pair p).planned = false) ∧
  (∀ (s : State) (p : Nat), p < 9 → ((s.blk.pair p).state = .stopped ∨ (s.blk.pair p).state = .spare ∨ (s.blk.pair p).state =
    .service ∨ (s.blk.pair p).state = .halted ∨ ((s.blk.pair p).state = .running ∨ (s.blk.pair p).state = .loading) ∧
    (s.blk.pair p).slot.isSome = true) → Does (.delayParityError p) s fun b => (b.pair p).state = .testing ∧ (b.pair p).cause = 2 ∧
    (b.pair p).planned = false) ∧
  (∀ (s : State) (p : Nat), p < 9 → ((s.blk.pair p).state = .stopped ∨ (s.blk.pair p).state = .spare ∨ (s.blk.pair p).state =
    .service ∨ (s.blk.pair p).state = .halted ∨ ((s.blk.pair p).state = .running ∨ (s.blk.pair p).state = .loading) ∧
    (s.blk.pair p).slot.isSome = true) → Does (.pairEccUncorrectable p) s fun b => (b.pair p).state = .testing ∧ (b.pair p).cause =
    4 ∧ (b.pair p).planned = false) ∧
  (∀ (s : State) (p n : Nat) (i : Instr), (i = .lockstepMismatch p ∨ i = .delayParityError p ∨ i = .pairEccUncorrectable p) →
    (s.blk.pair p).state = .running → (s.blk.pair p).slot = some n → (s.blk.slot n).running = true →
    Does i s fun b => (b.slot n).state = .migrating ∧ (b.slot n).cyc = none ∧ (b.slot n).redo =
    (match (s.blk.slot n).cyc with | some c => some c | none => (s.blk.slot n).redo) ∧ (b.pair p).back = .running) ∧
  (∀ (s : State) (p : Nat), Gives (.pairEccCorrected p) s ((s.blk.fault .corrected).raise 454 p)) ∧
  (∀ (s : State) (p n : Nat) (x : Pair) (i : FjImg) (c : Cyc), s.blk.pair p = x → x.state = .testing → (x.planned = true ∨
    (x.transAt.filter fun a => decide (s.blk.now < a + 60 * secE)).length < 2) → x.back = .running → x.slot = some n →
    (s.blk.slot n).img = some i → (s.blk.slot n).redo = some c → Does (.pairSelfTestVerdict p false) s fun b => (b.pair p).state =
    .running ∧ (b.slot n).redo = none ∧ ∃ d, (b.slot n).cyc = some d ∧ d.e = c.e ∧ d.repeated = true ∧ d.data = (s.blk.slot n).data) ∧
  (∀ (s : State) (p : Nat) (x : Pair), s.blk.pair p = x → x.state = .testing → (x.planned = true ∨
    (x.transAt.filter fun a => decide (s.blk.now < a + 60 * secE)).length < 2) → (x.back = .stopped ∨ x.back = .service) →
    Does (.pairSelfTestVerdict p false) s fun b => (b.pair p).state = x.back) ∧
  (∀ (s : State) (p : Nat) (failed : Bool) (x : Pair), s.blk.pair p = x → x.state = .testing → (failed = true ∨ x.planned = false ∧
    2 ≤ (x.transAt.filter fun a => decide (s.blk.now < a + 60 * secE)).length) → x.back = .spare →
    Does (.pairSelfTestVerdict p failed) s fun b => (b.pair p).state = .failed ∧ (b.pair p).slot = none ∧ (b.pair p).cause =
    Nat.lor x.cause 16 ∧ b.flt.lasting = s.blk.flt.lasting + 1) ∧
  (∀ (s : State) (p q n : Nat) (failed : Bool) (x : Pair), s.blk.pair p = x → x.state = .testing → (failed = true ∨ x.planned =
    false ∧ 2 ≤ (x.transAt.filter fun a => decide (s.blk.now < a + 60 * secE)).length) → x.back = .running → x.slot = some n →
    (s.blk.slot n).running = true → (s.blk.slot n).takeover = none → s.blk.spare = some q →
    Does (.pairSelfTestVerdict p failed) s fun b => (b.pair p).state = .failed ∧ (b.slot n).state = .migrating ∧ (b.slot n).pair =
    some q ∧ (b.pair q).state = .loading ∧ (b.pair q).slot = some n ∧ b.flt.lasting = s.blk.flt.lasting + 1) ∧
  (∀ (s : State) (p n : Nat) (failed : Bool) (x : Pair), s.blk.pair p = x → x.state = .testing → (failed = true ∨ x.planned =
    false ∧ 2 ≤ (x.transAt.filter fun a => decide (s.blk.now < a + 60 * secE)).length) → x.back = .running → x.slot = some n →
    (s.blk.slot n).running = true → (s.blk.slot n).takeover = none → (∀ q, q < 9 → (s.blk.pair q).state ≠ .spare ∧
    (s.blk.pair q).state ≠ .loading) → Does (.pairSelfTestVerdict p failed) s fun b => (b.pair p).state = .failed ∧
    (b.slot n).state = .faulted ∧ (b.slot n).pair = none ∧ b.flt.loss = s.blk.flt.loss + 1) ∧
  (∀ (s : State) (p n : Nat), (s.blk.pair p).state = .loading → (s.blk.pair p).slot = some n → (s.blk.slot n).state = .migrating →
    s.blk.flt.ucReload = false → Does (.spareLoadComplete p) s fun b => (b.pair p).state = .running ∧ (b.slot n).pair = some p ∧
    ((s.blk.slot n).img.isSome = true → (s.blk.slot n).redo.isSome = true → (b.slot n).cyc.isSome = true ∧ (b.slot n).redo = none)) ∧
  (∀ (s : State) (p : Nat), (s.blk.pair p).state = .spare → Does (.sparePulseTest p false) s fun b => (b.pair p).state = .failed ∧
    (b.pair p).cause = 24 ∧ b.flt.lasting = s.blk.flt.lasting + 1) ∧
  (∀ (s : State) (p : Nat), Gives (.sparePulseTest p true) s s.blk) ∧
  (∀ (s : State) (p : Nat), (s.blk.pair p).state = .spare → Does (.spareSelfTest p false) s fun b => (b.pair p).state = .failed ∧
    (b.pair p).slot = none ∧ b.flt.lasting = s.blk.flt.lasting + 1) ∧
  (∀ (s : State) (p : Nat), Gives (.spareSelfTest p true) s s.blk) ∧
  (∀ (s : State) (n k : Nat), (s.blk.slot n).takeover = some (0, k) → s.blk.flt.ucReload = false →
    Gives (.takeoverImageLoaded n) s (s.blk.putSlot n { s.blk.slot n with takeover := some (1, k) })) ∧
  (∀ (s : State) (n k q : Nat) (y : Slot) (i : FjImg), s.blk.slot n = y → y.takeover = some (2, k) → s.blk.loader n = some q →
    y.img = some i → s.blk.elm.pubEpoch = s.blk.time.epoch → y.nextE ≤ s.blk.time.epoch → y.blockTo ≤ s.blk.time.epoch →
    s.blk.time.epoch % i.n = 0 → Does (.takeoverDataCopied n) s fun b => b.lgc.pairs =
    tset pairD s.blk.lgc.pairs q { s.blk.pair q with state := .running, slot := some n, planned := false } ∧ (b.slot n).takeover =
    none ∧ (b.slot n).pair = some q ∧ (b.slot n).waitReq = none)

/-- GOOSE and sampled-value frames, a missed frame, a retransmission and a timed launch have their effect. GOOSE_FRAME_RECEIVED and
SV_FRAME_RECEIVED of a frame that the port admits, that matches a filter and its full reference, and of a declared station that
accepts its simulation mark: with the declared revision and members, fresh or not behind the last frame, its numbers become the
station's, no miss stands, and (GOOSE) its TimeAllowedToLive holds; otherwise it is counted bad (R301, R307, R308, R382, R388).
STATION_MISS of a station whose next miss is due counts it; a RETURNING station drops out, and an UP one that reaches its limit
drops out with the dropout counted (R308, R309). GOOSE_RETRANSMIT of a state sent before, at its time, sends it with the next sqNum
and twice the gap, at most Tmax (R386). TIMED_LAUNCH starts what its port may send (R363). Spec: 17_ethernet_ports.md,
14_process_image_remote_io.md. -/
def Obligations.StationCommandsComplete : Prop :=
  (∀ (s : State) (h : RxHdr) (f : GooseRx) (b : Block) (i : Nat) (e : SubDecl) (d : StnDecl) (x : Stn), s.blk.rxIn h = (true, b) →
    b.filterEntry false f.dst f.appid f.ref h.port = some (i, e) → e.ref = f.ref → tget stnD b.lgc.stns (e.index i) = x → x.decl =
    some d → (f.sim = true → d.acceptSim = true) → f.confRev = d.confRev → f.members.map (·.1) = d.members → (x.fresh = true ∨
    x.seq.1 < f.stNum ∨ x.seq.1 = f.stNum ∧ x.seq.2 ≤ f.sqNum) →
    Does (.gooseFrameReceived h f) s fun b2 => (tget stnD b2.lgc.stns (e.index i)).seq = (f.stNum, f.sqNum) ∧
    (tget stnD b2.lgc.stns (e.index i)).miss = 0 ∧ (tget stnD b2.lgc.stns (e.index i)).ttl = f.ttl ∧
    (tget stnD b2.lgc.stns (e.index i)).seen = true ∧ (tget stnD b2.lgc.stns (e.index i)).fresh = false) ∧
  (∀ (s : State) (h : RxHdr) (f : GooseRx) (b : Block) (i : Nat) (e : SubDecl) (d : StnDecl) (x : Stn), s.blk.rxIn h = (true, b) →
    b.filterEntry false f.dst f.appid f.ref h.port = some (i, e) → e.ref = f.ref → tget stnD b.lgc.stns (e.index i) = x → x.decl =
    some d → (f.sim = true → d.acceptSim = true) → (f.confRev ≠ d.confRev ∨ f.members.map (·.1) ≠ d.members ∨ x.fresh = false ∧
    (f.stNum < x.seq.1 ∨ f.stNum = x.seq.1 ∧ f.sqNum < x.seq.2)) →
    Does (.gooseFrameReceived h f) s fun b2 => (tget stnD b2.lgc.stns (e.index i)).bad = x.bad + 1 ∧
    (tget stnD b2.lgc.stns (e.index i)).seq = x.seq ∧ (tget stnD b2.lgc.stns (e.index i)).values = x.values) ∧
  (∀ (s : State) (h : RxHdr) (f : SvRx) (b : Block) (i : Nat) (e : SubDecl) (d : StnDecl) (x : Stn), s.blk.rxIn h = (true, b) →
    b.filterEntry true f.dst f.appid f.ref h.port = some (i, e) → e.ref = f.ref → tget stnD b.lgc.stns (e.index i) = x → x.decl =
    some d → (f.sim = true → d.acceptSim = true) → f.confRev = d.confRev → f.asdus.length = d.asdu → (∀ a, a ∈ f.asdus → a.length =
    d.members.length) → (x.fresh = true ∨ 0 < (f.smpCnt + d.rate - x.seq.2 % d.rate) % d.rate ∧
    2 * ((f.smpCnt + d.rate - x.seq.2 % d.rate) % d.rate) < d.rate) →
    Does (.svFrameReceived h f) s fun b2 => (tget stnD b2.lgc.stns (e.index i)).seq = (0, f.smpCnt) ∧
    (tget stnD b2.lgc.stns (e.index i)).miss = 0 ∧ (tget stnD b2.lgc.stns (e.index i)).seen = true ∧
    (tget stnD b2.lgc.stns (e.index i)).fresh = false) ∧
  (∀ (s : State) (h : RxHdr) (f : SvRx) (b : Block) (i : Nat) (e : SubDecl) (d : StnDecl) (x : Stn), s.blk.rxIn h = (true, b) →
    b.filterEntry true f.dst f.appid f.ref h.port = some (i, e) → e.ref = f.ref → tget stnD b.lgc.stns (e.index i) = x → x.decl =
    some d → (f.sim = true → d.acceptSim = true) → (f.confRev ≠ d.confRev ∨ f.asdus.length ≠ d.asdu ∨ (∃ a, a ∈ f.asdus ∧
    a.length ≠ d.members.length) ∨ x.fresh = false ∧ ((f.smpCnt + d.rate - x.seq.2 % d.rate) % d.rate = 0 ∨
    d.rate ≤ 2 * ((f.smpCnt + d.rate - x.seq.2 % d.rate) % d.rate))) →
    Does (.svFrameReceived h f) s fun b2 => (tget stnD b2.lgc.stns (e.index i)).bad = x.bad + 1 ∧
    (tget stnD b2.lgc.stns (e.index i)).seq = x.seq ∧ (tget stnD b2.lgc.stns (e.index i)).values = x.values) ∧
  (∀ (s : State) (k : Nat) (x : Stn) (d : StnDecl), tget stnD s.blk.lgc.stns k = x → x.decl = some d → x.seen = true →
    x.missAt d ≤ s.blk.now → x.state ≠ .returning → (x.state = .up → x.miss + 1 < d.missLim) →
    Gives (.stationMiss k) s (s.blk.putStn k fun x => { x with miss := x.miss + 1 })) ∧
  (∀ (s : State) (k : Nat) (x : Stn) (d : StnDecl), tget stnD s.blk.lgc.stns k = x → x.decl = some d → x.seen = true →
    x.missAt d ≤ s.blk.now → x.state = .returning → Does (.stationMiss k) s fun b => (tget stnD b.lgc.stns k).state = .dropped ∧
    (tget stnD b.lgc.stns k).miss = x.miss + 1) ∧
  (∀ (s : State) (k : Nat) (x : Stn) (d : StnDecl), tget stnD s.blk.lgc.stns k = x → x.decl = some d → x.seen = true →
    x.missAt d ≤ s.blk.now → x.state = .up → d.missLim ≤ x.miss + 1 →
    Does (.stationMiss k) s fun b => (tget stnD b.lgc.stns k).state = .dropped ∧ (tget stnD b.lgc.stns k).miss = x.miss + 1 ∧
    (tget stnD b.lgc.stns k).drops = x.drops + 1 ∧ (tget stnD b.lgc.stns k).fresh = true) ∧
  (∀ (s : State) (k : Nat) (d : PubDecl) (c : CbSt), tget (fun _ => none) s.blk.net.pubs k = some d → tget cbD s.blk.net.cbs k = c →
    c.last.isSome = true → c.nextAt ≤ s.blk.now → ∃ g, g = (if d.tmax < 2 * c.gap then d.tmax else 2 * c.gap) ∧ ∃ c2 : CbSt, c2 =
    { c with sqNum := (c.sqNum + 1) % 2 ^ 32, gap := g, nextAt := c.nextAt + g * msE } ∧
    Gives (.gooseRetransmit k) s (Block.gooseSend k d c2 { s.blk with net := { s.blk.net with cbs := tset cbD s.blk.net.cbs k c2 } })) ∧
  (∀ (s : State) (p : Nat), Gives (.timedLaunch p) s (s.blk.kick p false))

/-- The field side's input changes, output faults and tests have their effect. With the field side powered. DI_CHANGE_ACCEPTED takes
its samples one after another, 1 µs apart; a sample at or above the ON level makes the raw state ON, at or below the OFF level OFF,
and between them it stays; a rising one not within 1 s of the last wetting starts it; a run of DEB makes the raw state the accepted
one, with an edge entry stamped at its first sample less 20 µs where the queue has room (R315 to R317). WETTING_END after 2 ms ends
the wetting (R316). FAST_INPUT_EDGE of a changed level sets it, and a selected edge makes an entry, less 200 ns, where there is room
(R318, R319). OUTPUT_OVERCURRENT_ONSET takes an ON output in normal drive, not shut down, to its peak phase with OVERLOAD;
PEAK_PHASE_END and FOLDBACK_START, not shut down, end the peak and the regulation in the next phase or in normal drive; RETRY_PULSE
of an ON output in foldback starts a pulse, RETRY_PULSE_END ends it (R323). OVERLOAD_CLEAR clears OVERLOAD after 1 ms of normal
drive (R326). OVERTEMP_ENTER, OVERTEMP_CLEAR, THERMAL_SHUTDOWN and BACKFEED_CLEAR set and clear their bits in any state,
THERMAL_RECOVERY ends a shutdown, in foldback while commanded ON (R323, R326). OPEN_WIRE_TEST and BACKFEED_DETECT of an OFF output
outside input mode, the former with OW_EN, judge OPEN and set BACKFEED (R326). Spec: 15_field_io_barrier.md. -/
def Obligations.FieldSideCommandsComplete : Prop :=
  (∀ (s : State) (i v ft : Nat) (l : List Nat) (t : State), exec (.diChangeAccepted i l (ft - 100)) s = .next t →
    exec (.diChangeAccepted i (l ++ [v]) ft) s = exec (.diChangeAccepted i [v] ft) t) ∧
  (∀ (s : State) (i v ft : Nat) (f : FldSt) (raw : Bool), s.blk.fside = f → f.powered = true → raw =
    (if diLevel i true (presetOn (f.presetOf i)) ≤ v then true else if v ≤ diLevel i false (presetOff (f.presetOf i)) then false else bitOf f.diRaw i) →
    Does (.diChangeAccepted i [v] ft) s fun b => b.fside.diRaw = setBit f.diRaw i raw ∧ b.fside.ft = ft ∧ (raw = true →
    bitOf f.diRaw i = false → (∀ t, tget optD f.wetLast i = some t → t + 100000000 ≤ ft) → b.fside.wet =
    tset optD f.wet i (some ft)) ∧ (raw = bitOf f.di i → b.fside.di = f.di ∧ b.fside.diRun = tset optD f.diRun i none)) ∧
  (∀ (s : State) (i v ft t : Nat) (f : FldSt) (raw : Bool), s.blk.fside = f → f.powered = true → raw =
    (if diLevel i true (presetOn (f.presetOf i)) ≤ v then true else if v ≤ diLevel i false (presetOff (f.presetOf i)) then false else bitOf f.diRaw i) →
    raw ≠ bitOf f.di i → t = (tget optD f.diRun i).getD ft →
    Does (.diChangeAccepted i [v] ft) s fun b => if t + 10000 * f.debOf i ≤ ft then b.fside.di = setBit f.di i raw ∧ b.fside.diRun =
    tset optD f.diRun i none ∧ (8 ≤ i → f.fastQ.length + f.slowQ.length < 64 → b.fside.slowQ =
    f.slowQ ++ [{ input := i, level := raw, ft := t - 2000 }]) else b.fside.di = f.di ∧ b.fside.diRun =
    tset optD f.diRun i (some t) ∧ b.fside.slowQ = f.slowQ) ∧
  (∀ (s : State) (i ft t : Nat) (f : FldSt), s.blk.fside = f → f.powered = true → tget optD f.wet i = some t → t + 200000 ≤ ft →
    Gives (.wettingEnd i ft) s { s.blk with fside := { f with ft := ft, wet := tset optD f.wet i none } }) ∧
  (∀ (s : State) (i ft : Nat) (l : Bool) (f : FldSt), s.blk.fside = f → f.powered = true → bitOf f.di i ≠ l → i < 8 →
    Does (.fastInputEdge i l ft) s fun b => b.fside.di = setBit f.di i l ∧ b.fside.slowQ = f.slowQ ∧ ((f.edgeSel i = 2 ∨
    f.edgeSel i = 0 ∧ l = true ∨ f.edgeSel i = 1 ∧ l = false) → b.fside.fastQ =
    (if f.fastQ.length + f.slowQ.length < 64 then f.fastQ ++ [{ input := i, level := l, ft := ft - 20 }] else f.fastQ))) ∧
  (∀ (s : State) (j ft : Nat) (f : FldSt), s.blk.fside = f → f.powered = true → bitOf f.cmd j = true → (f.chan j).phase = .normal →
    (f.chan j).shut = false →
    Gives (.outputOvercurrentOnset j ft) s { s.blk with fside := { f with ft := ft, chans := tset chanD f.chans j { f.chan j with phase := .peak, overload := true } } }) ∧
  (∀ (s : State) (j ft : Nat) (low : Bool) (f : FldSt), s.blk.fside = f → f.powered = true → (f.chan j).phase = .peak →
    (f.chan j).shut = false → Does (.peakPhaseEnd j ft low) s fun b => b.fside.chans =
    tset chanD f.chans j (if low then { f.chan j with phase := .normal, normalAt := ft, fold := false } else { f.chan j with phase := .regulation })) ∧
  (∀ (s : State) (j ft : Nat) (low : Bool) (f : FldSt), s.blk.fside = f → f.powered = true → (f.chan j).phase = .regulation →
    (f.chan j).shut = false → Does (.foldbackStart j ft low) s fun b => b.fside.chans =
    tset chanD f.chans j (if low then { f.chan j with phase := .normal, normalAt := ft, fold := false } else { f.chan j with phase := .foldback, fold := true })) ∧
  (∀ (s : State) (j : Nat) (f : FldSt), s.blk.fside = f → f.powered = true → (f.chan j).phase = .foldback → (f.chan j).shut =
    false → bitOf f.cmd j = true → Does (.retryPulse j) s fun b => b.fside.chans =
    tset chanD f.chans j { f.chan j with phase := .retry }) ∧
  (∀ (s : State) (j ft : Nat) (up : Bool) (f : FldSt), s.blk.fside = f → f.powered = true → (f.chan j).phase = .retry →
    Does (.retryPulseEnd j ft up) s fun b => b.fside.chans =
    tset chanD f.chans j (if up then { f.chan j with phase := .normal, normalAt := ft, fold := false } else { f.chan j with phase := .foldback })) ∧
  (∀ (s : State) (j ft : Nat) (f : FldSt), s.blk.fside = f → f.powered = true → (f.chan j).overload = true → (f.chan j).phase =
    .normal → (f.chan j).normalAt + 100000 ≤ ft → Does (.overloadClear j ft) s fun b => b.fside.chans =
    tset chanD f.chans j { f.chan j with overload := false }) ∧
  (∀ (s : State) (j : Nat) (f : FldSt), s.blk.fside = f → f.powered = true → Does (.overtempEnter j) s fun b => b.fside.chans =
    tset chanD f.chans j { f.chan j with overtemp := true }) ∧
  (∀ (s : State) (j : Nat) (f : FldSt), s.blk.fside = f → f.powered = true → Does (.overtempClear j) s fun b => b.fside.chans =
    tset chanD f.chans j { f.chan j with overtemp := false }) ∧
  (∀ (s : State) (j : Nat) (f : FldSt), s.blk.fside = f → f.powered = true → Does (.thermalShutdown j) s fun b => b.fside.chans =
    tset chanD f.chans j { f.chan j with shut := true, overtemp := true }) ∧
  (∀ (s : State) (j : Nat) (f : FldSt), s.blk.fside = f → f.powered = true → (f.chan j).shut = true →
    Does (.thermalRecovery j) s fun b => b.fside.chans =
    tset chanD f.chans j (if bitOf f.cmd j then { f.chan j with shut := false, phase := .foldback, fold := true } else { f.chan j with shut := false })) ∧
  (∀ (s : State) (j : Nat) (f : FldSt), s.blk.fside = f → f.powered = true → bitOf f.cmd j = false → bitOf f.owEn j = true →
    f.rbIn j = false → Does (.openWireTest j true) s fun b => b.fside.chans =
    tset chanD f.chans j { f.chan j with owRun := satN 2 ((f.chan j).owRun + 1), open_ := (f.chan j).open_ || decide (2 ≤ (f.chan j).owRun + 1) }) ∧
  (∀ (s : State) (j : Nat) (f : FldSt), s.blk.fside = f → f.powered = true → bitOf f.cmd j = false → bitOf f.owEn j = true →
    f.rbIn j = false → Does (.openWireTest j false) s fun b => b.fside.chans =
    tset chanD f.chans j { f.chan j with owRun := 0, open_ := false }) ∧
  (∀ (s : State) (j : Nat) (f : FldSt), s.blk.fside = f → f.powered = true → bitOf f.cmd j = false → f.rbIn j = false →
    Does (.backfeedDetect j) s fun b => b.fside.chans = tset chanD f.chans j { f.chan j with backfeed := true }) ∧
  (∀ (s : State) (j : Nat) (f : FldSt), s.blk.fside = f → f.powered = true → Does (.backfeedClear j) s fun b => b.fside.chans =
    tset chanD f.chans j { f.chan j with backfeed := false })

/-- Downlink and uplink frames, their losses and the edge FIFO's reads have their effect. While the link runs and the field side is
powered: DOWNLINK_FRAME of a frame formed by R328 applies its OUT and its word there, and the next frame starts with the next SEQ,
the next address and the command as it is; BAD_DOWNLINK_FRAME counts the bad frame there and the next frame starts; DOWNLINK_ABORT
restarts the silence timer (R327 to R329, R334). SILENCE_EXPIRY of a running timer makes a powered field side silent, unlocked, with
the expiry counted (R334, R335). A good uplink frame whose turn it is, with the link running, carries its part across: DI, RB with
FAULT, up to two edge entries, which leave the queue, a DIAG, the TIME map, STATUS and CFGECHO, or IDLE (R330 to R333).
BAD_UPLINK_FRAME is counted; UPLINK_LOSS falls 10 µs after the last good frame; CFGECHO_MISMATCH is raised where an echo differs for
more than 1 ms; LINK_DELAY_MEASURED is the delay in force (R331, R333, R538). FIELD_EDGE_DISCARD drops the entries older than 20 ms
(R332). EDGE_FIFO_DRAIN takes 64 entries while the SP runs; EDGE_POP_READ and DROP_COUNTER_READ return their words, and clear them
except through the tongs (R339, R340). Spec: 15_field_io_barrier.md. -/
def Obligations.BarrierLinkCommandsComplete : Prop :=
  (∀ (s : State) (ft n out a d : Nat) (ins : Bool), s.blk.bar.run = true → s.blk.fside.powered = true → s.blk.bar.tx =
    dnFrame n ins out a d → out < 2 ^ 32 → a < 256 → d < 2 ^ 24 → Does (.downlinkFrame ft) s fun b => b.fside =
    s.blk.fside.down ft out a d ∧ b.bar.seqDn = (s.blk.bar.seqDn + 1) % 16 ∧ b.bar.caddr = (s.blk.bar.caddr + 1) % 26 ∧ b.bar.ins =
    false ∧ b.bar.cmd = s.blk.formCmd ∧ b.bar.tx = dnFrame b.bar.seqDn false b.bar.cmd b.bar.caddr (s.blk.bar.cfg.word b.bar.caddr)) ∧
  (∀ (s : State) (ft : Nat), s.blk.bar.run = true → s.blk.fside.powered = true →
    Gives (.downlinkAbort ft) s { s.blk with fside := { s.blk.fside with ft := ft, silAt := ft, silRun := true } }) ∧
  (∀ (s : State), s.blk.bar.run = true → s.blk.fside.powered = true → Does .badDownlinkFrame s fun b => b.fside =
    { s.blk.fside with goodRun := 0, badDn := satN 255 (s.blk.fside.badDn + 1) } ∧ b.bar.seqDn = (s.blk.bar.seqDn + 1) % 16 ∧
    b.bar.caddr = (s.blk.bar.caddr + 1) % 26) ∧
  (∀ (s : State) (ft : Nat) (f : FldSt), s.blk.fside = f → f.powered = true → f.silRun = true → f.silAt + f.silence ≤ ft →
    Does (.silenceExpiry ft) s fun b => b.fside.silent = true ∧ b.fside.locked = false ∧ b.fside.goodRun = 0 ∧ b.fside.silRun =
    false ∧ b.fside.silCnt = satN 255 (f.silCnt + 1)) ∧
  (∀ (s : State), s.blk.bar.run = true → s.blk.fside.powered = true → s.blk.fside.upPos = 0 →
    Does .uplinkDiFrame s fun b => b.bar.diReg = s.blk.fside.di ∧ b.bar.goodAt = s.blk.now ∧ b.bar.badRun = 0 ∧ b.fside.upPos = 1) ∧
  (∀ (s : State) (w : BitVec 32), s.blk.bar.run = true → s.blk.fside.powered = true → s.blk.fside.upPos = 2 →
    Does (.uplinkRbFrame w) s fun b => b.bar.rbReg = w.toNat ∧ b.fside.rb = w.toNat ∧ b.bar.faultReg =
    (maskOf ((List.range 32).filter fun j => (s.blk.fside.chan j).bits != 0)) ∧ b.fside.upPos = 3) ∧
  (∀ (s : State), s.blk.bar.run = true → s.blk.fside.powered = true → s.blk.fside.upPos % 2 = 1 →
    Does .auxIdle s fun b => b.bar.goodAt = s.blk.now ∧ b.bar.badRun = 0 ∧ b.bar.goodRun = s.blk.bar.goodRun + 1 ∧ b.fside.upPos =
    (s.blk.fside.upPos + 1) % 4) ∧
  (∀ (s : State), s.blk.bar.run = true → s.blk.fside.powered = true → s.blk.fside.upPos % 2 = 1 → s.blk.fside.auxDue = .edges →
    Does .auxEdges s fun b => b.fside.fastQ = s.blk.fside.fastQ.drop 2 ∧ b.fside.slowQ =
    s.blk.fside.slowQ.drop (2 - (s.blk.fside.fastQ.take 2).length) ∧ b.fside.lostNow = false ∧ b.bar.goodAt = s.blk.now) ∧
  (∀ (s : State) (j : Nat) (cur : BitVec 12), s.blk.bar.run = true → s.blk.fside.powered = true → s.blk.fside.upPos % 2 = 1 →
    s.blk.fside.auxDue = .diag j → Does (.auxDiag j cur) s fun b => (tget diagD b.bar.diag j).bits = (s.blk.fside.chan j).bits ∧
    (tget diagD b.bar.diag j).cur = cur.toNat ∧ b.fside.round = s.blk.fside.round + 1) ∧
  (∀ (s : State) (ft : Nat), s.blk.bar.run = true → s.blk.fside.powered = true → s.blk.fside.upPos % 2 = 1 → s.blk.fside.auxDue =
    .time → Does (.auxTime ft) s fun b => b.fside.ft = ft ∧ b.bar.mapFt = ft % 2 ^ 32 ∧ b.bar.mapNs =
    ofSigned 64 ((s.blk.ns64 : Int) - s.blk.bar.delay)) ∧
  (∀ (s : State) (v : BitVec 12) (t : Byte), s.blk.bar.run = true → s.blk.fside.powered = true → s.blk.fside.upPos % 2 = 1 →
    s.blk.fside.auxDue = .status → Does (.auxStatus v t) s fun b => b.bar.vfld = v.toNat ∧ b.bar.temp = (t.toNat : Int) - 64 ∧
    b.bar.badDn = s.blk.bar.badDn + s.blk.fside.badDn ∧ b.fside.badDn = 0) ∧
  (∀ (s : State) (a : Nat), s.blk.bar.run = true → s.blk.fside.powered = true → s.blk.fside.upPos % 2 = 1 → s.blk.fside.auxDue =
    .echo a → a ≤ 0x19 → Does (.auxCfgecho a) s fun b => b.bar.differ = (if s.blk.fside.word a =
    s.blk.bar.cfg.word a then remNat a s.blk.bar.differ else insNat a s.blk.bar.differ)) ∧
  (∀ (s : State) (x : Bool), s.blk.bar.run = true → s.blk.fside.powered = true → (s.blk.fside.upPos % 2 == 1) = x →
    Does (.badUplinkFrame x) s fun b => b.bar.badRun = s.blk.bar.badRun + 1 ∧ b.bar.badUp = s.blk.bar.badUp + 1 ∧ b.bar.goodRun =
    0 ∧ b.fside.upPos = (s.blk.fside.upPos + 1) % 4) ∧
  (∀ (s : State), s.blk.bar.run = true → s.blk.bar.loss = none → s.blk.bar.goodAt + 10 * usE ≤ s.blk.now →
    Does .uplinkLoss s fun b => b.bar.loss = some s.blk.now ∧ b.bar.goodRun = 0 ∧ b.bar.losses = s.blk.bar.losses + 1) ∧
  (∀ (s : State) (a : Nat), a ∈ s.blk.bar.differ → tget natD s.blk.bar.sentAt a ≠ 0 →
    tget natD s.blk.bar.sentAt a + msE < s.blk.now →
    Gives (.cfgechoMismatch a) s (Block.raise 334 a { s.blk with bar := { s.blk.bar with differ := remNat a s.blk.bar.differ } })) ∧
  (∀ (s : State) (ns : Nat), Gives (.linkDelayMeasured ns) s { s.blk with bar := { s.blk.bar with delay := ns } }) ∧
  (∀ (s : State) (ft : Nat), s.blk.fside.powered = true → Does (.fieldEdgeDiscard ft) s fun b => b.fside.fastQ =
    (s.blk.fside.fastQ.filter fun e => !decide (e.ft + 2000000 < ft)) ∧ b.fside.slowQ =
    (s.blk.fside.slowQ.filter fun e => !decide (e.ft + 2000000 < ft)) ∧ b.fside.di = s.blk.fside.di) ∧
  (∀ (s : State), s.blk.spUp = true → Does .edgeFifoDrain s fun b => b.bar.fifo = s.blk.bar.fifo.drop 64) ∧
  (∀ (s : State) (t : Bool), Does (.edgePopRead t) s fun b => b.mbx.rdData =
    (match s.blk.bar.fifo with | [] => zeros 4 | e :: _ => e.bytes.drop 16) ∧ b.bar.fifo =
    (if t then s.blk.bar.fifo else s.blk.bar.fifo.drop 1)) ∧
  (∀ (s : State) (t : Bool), Does (.dropCounterRead t) s fun b => b.mbx.rdData =
    leBytes 2 s.blk.bar.cntDrop ++ leBytes 2 s.blk.bar.recRef ∧ b.bar.cntDrop = (if t then s.blk.bar.cntDrop else 0) ∧
    b.bar.recRef = (if t then s.blk.bar.recRef else 0))

/-- The transfer of INC, the step, the latching reads, the source, beacons, PPS and the servo's times have their effect.
INC_TRANSFER takes FREQ_INC as staged, within its clamps, and INC within 500 ppm of it, and begins the 2.5 s anew (R188, R347,
R348); INC_SLEW_LAPSE from 2.5 s on sets INC equal to FREQ_INC (R348). TIME_STEP_GO moves SEC and NS to the target, FRAC 0, or by
the signed offset, FRAC as it was, and leaves ELAPSED (R349). TC_NS_READ, TIME_NS_READ and EPOCH_LO_READ return their words and
latch the others, except through the tongs (R20, R347, R368). TIM_SOURCE_SELECT sets REF10M and clears LOST (R44, R347).
STAMP_INTERRUPT captures the counter and the wait (R355). PORT_BEACON enters the beacon with the counter among the port's two latest
(R356). PPS_PULSE, where PPS is allowed, rises for its width from the carry of NS that stands, or else from the next one, to which
it moves the running clock (R360); PPS_PULSE_END from its end on ends it (R366). While the SP runs, EST_RECOMPUTE in HOLDOVER
recomputes EST, HOLDOVER_EXPIRY from HOLD_MAX on and STEPPED_TIMEOUT from 1 s after the step with no SLAVE port enter FREERUN (R352,
R353, R539). Spec: 16_network_time.md, 09_timer_wheel.md, 02_package_supplies_energy.md. -/
def Obligations.TimeCommandsComplete : Prop :=
  (∀ (s : State) (v : Byte) (q f w : Nat), q = s.blk.time.freqHi.toNat * 2 ^ 32 + s.blk.time.freqLo.toNat → f =
    (if q < freqLo then freqLo else if freqHi < q then freqHi else q) → w = v.toNat * 2 ^ 32 + s.blk.time.incLo.toNat →
    Does (.incTransfer v) s fun b => b.time.freqInc = f ∧ b.time.inc =
    (if w + f * 500 / 1000000 < f then f - f * 500 / 1000000 else if f + f * 500 / 1000000 < w then f + f * 500 / 1000000 else w) ∧
    b.time.incHi = v ∧ b.time.incAt = s.blk.now) ∧
  (∀ (s : State), s.blk.time.incAt + 5 * secE / 2 ≤ s.blk.now →
    Gives .incSlewLapse s { s.blk with time := { s.blk.time with inc := s.blk.time.freqInc } }) ∧
  (∀ (s : State) (v n : Nat), v = s.blk.time.stepHi.toNat * 2 ^ 32 + s.blk.time.stepLo.toNat → n = v % 2 ^ 64 →
    Does (.timeStepGo true) s fun b => b.time.sec = n / 1000000000 ∧ b.time.ns = n % 1000000000 ∧ b.time.frac = 0 ∧ b.time.elapsed =
    s.blk.time.elapsed) ∧
  (∀ (s : State) (v n : Nat), v = s.blk.time.stepHi.toNat * 2 ^ 32 + s.blk.time.stepLo.toNat → n =
    ofSigned 64 ((s.blk.ns64 : Int) + toSigned 64 v) → Does (.timeStepGo false) s fun b => b.time.sec = n / 1000000000 ∧ b.time.ns =
    n % 1000000000 ∧ b.time.frac = s.blk.time.frac ∧ b.time.elapsed = s.blk.time.elapsed) ∧
  (∀ (s : State) (t : Bool), Does (.tcNsRead t) s fun b => b.mbx.rdData = leBytes 4 s.blk.time.ns ∧ b.time =
    (if t then s.blk.time else { s.blk.time with latSec := s.blk.time.sec, latFrac := s.blk.time.frac, latQual := s.blk.time.tcQual })) ∧
  (∀ (s : State) (t : Bool), Does (.timeNsRead t) s fun b => b.mbx.rdData =
    leBytes 4 s.blk.time.ns ++ (if t then [] else leBytes 4 s.blk.time.sec) ∧ b.time =
    (if t then s.blk.time else { s.blk.time with rdSec := s.blk.time.sec, rdQual := s.blk.time.tcQual, rdEpoch := s.blk.time.epoch })) ∧
  (∀ (s : State) (t : Bool), Does (.epochLoRead t) s fun b => b.mbx.rdData = leBytes (if t then 4 else 8) s.blk.time.epoch ∧
    b.time = (if t then s.blk.time else { s.blk.time with epochLatch := s.blk.time.epoch })) ∧
  (∀ (s : State) (r : Bool), Does (.timSourceSelect r) s fun b => b.time.ref10m = r ∧ b.time.lost = false) ∧
  (∀ (s : State) (w : Nat),
    Gives (.stampInterrupt w) s { s.blk with time := { s.blk.time with capNs := s.blk.time.ns, capSec := s.blk.time.sec, capWait := satN 255 w } }) ∧
  (∀ (s : State) (p n : Nat) (x : PtpPort), tget ptpD s.blk.time.ports p = x → Does (.portBeacon p n) s fun b => ∃ y, b.time.ports =
    tset ptpD s.blk.time.ports p y ∧ y.beacons = ((n, s.blk.ns64) :: x.beacons).take 2) ∧
  (∀ (s : State) (c : Nat), s.blk.time.ppsAllowed = true → s.blk.time.carryAt = some c →
    Gives .ppsPulse s { s.blk with time := { s.blk.time with ppsHigh := some (c + s.blk.time.cfg.width * msE), carryAt := none } }) ∧
  (∀ (s : State) (c : Nat) (t : TimeSt), s.blk.time.ppsAllowed = true → s.blk.time.carryAt = none → s.blk.time.run = true → t =
    s.blk.time.advance ((secF - (s.blk.time.ns * nsE + s.blk.time.frac) + s.blk.time.inc - 1) / s.blk.time.inc) → t.carryAt =
    some c → Gives .ppsPulse s { s.blk with time := { t with ppsHigh := some (c + s.blk.time.cfg.width * msE), carryAt := none } }) ∧
  (∀ (s : State) (t : Nat), s.blk.time.ppsHigh = some t → t ≤ s.blk.now →
    Gives .ppsPulseEnd s { s.blk with time := { s.blk.time with ppsHigh := none } }) ∧
  (∀ (s : State), s.blk.time.servo.state = .holdover → s.blk.spUp = true → Does .estRecompute s fun b => b.time.servo.est =
    s.blk.time.formEst ∧ b.time.servo.state = .holdover) ∧
  (∀ (s : State), s.blk.spUp = true → s.blk.time.servo.state = .holdover →
    s.blk.time.servo.holdAt + s.blk.time.cfg.holdMax * secE ≤ s.blk.now → Does .holdoverExpiry s fun b => b.time.servo.state =
    .freerun) ∧
  (∀ (s : State), s.blk.spUp = true → s.blk.time.servo.state = .stepped → s.blk.time.slave = none →
    s.blk.time.servo.stepAt + secE ≤ s.blk.now → Does .steppedTimeout s fun b => b.time.servo.state = .freerun)

/-- PTP messages, the transmission intervals, the announce timeout and the transparent clock have their effect. A PTP message that
the port does not take, or of another domain, leaves the block as the port's counts leave it (R357). A PTP_SYNC of one step on the
SLAVE port runs the servo on its offset; of two steps it waits for its PTP_FOLLOW_UP, which runs the servo on the stamp kept and
both corrections (R350, R355); on another port both only count. PTP_ANNOUNCE becomes its port's master and the master is chosen
again (R358). PTP_PDELAY_REQ is answered from its port with its receive stamp; PTP_PDELAY_RESP of the open request sets the link
delay to half of what remains. PTP_UNSUPPORTED is counted (R359). PTP_TRANSMIT_INTERVAL of a port that sends PTP: a delay request
goes with the next number, one still open counting as failed with event 355; a MASTER port sends its Sync. TRANSPARENT_CLOCK_FORWARD
adds residence and link delay to the correction, in the frame for one step and in the Follow_Up for two (R358). ANNOUNCE_TIMEOUT
after 3 s forgets the port's master and chooses again; on the SLAVE port with event 349, LOCKED becoming HOLDOVER (R352). Spec:
16_network_time.md. -/
def Obligations.PtpMessagesComplete : Prop :=
  (∀ (s : State) (p d q o rr rt w : Nat) (t : Bool) (c : Int) (a : Announce) (b : Block) (i : Instr), (i = .ptpSync p d q t o c ∨
    i = .ptpFollowUp p d q o c ∨ i = .ptpAnnounce p d a ∨ i = .ptpPdelayReq p d q w ∨ i = .ptpPdelayResp p d q rr rt c) →
    s.blk.ptpIn p d = (false, b) → Gives i s b) ∧
  (∀ (s : State) (p d q o : Nat) (c : Int) (b : Block), s.blk.ptpIn p d = (true, b) → b.time.slave = some (s.blk.ptpPort p) →
    Gives (.ptpSync p d q false o c) s (b.servo (b.theta p (b.rxStampNs p) o c))) ∧
  (∀ (s : State) (p d q o : Nat) (c : Int) (b : Block), s.blk.ptpIn p d = (true, b) → b.time.slave = some (s.blk.ptpPort p) →
    Gives (.ptpSync p d q true o c) s (b.putPtp p fun x => { x with syncWait := some (q, b.rxStampNs p, c) })) ∧
  (∀ (s : State) (p d q o rx : Nat) (c e : Int) (b : Block), s.blk.ptpIn p d = (true, b) → b.time.slave = some (s.blk.ptpPort p) →
    (tget ptpD b.time.ports p).syncWait = some (q, rx, e) → ∃ b2, b2 = b.putPtp p (fun x => { x with syncWait := none }) ∧
    Gives (.ptpFollowUp p d q o c) s (b2.servo (b2.theta p rx o (e + c)))) ∧
  (∀ (s : State) (p d q o : Nat) (t : Bool) (c : Int) (b : Block) (i : Instr), (i = .ptpSync p d q t o c ∨ i =
    .ptpFollowUp p d q o c) → s.blk.ptpIn p d = (true, b) → b.time.slave ≠ some (s.blk.ptpPort p) → Gives i s b) ∧
  (∀ (s : State) (p d : Nat) (a : Announce) (b : Block), s.blk.ptpIn p d = (true, b) →
    Gives (.ptpAnnounce p d a) s ((b.putPtp (s.blk.ptpPort p) fun x => { x with best := some a, annAt := s.blk.now }).bmca)) ∧
  (∀ (s : State) (p d q w : Nat) (b : Block), s.blk.ptpIn p d = (true, b) →
    Gives (.ptpPdelayReq p d q w) s ((b.enqueue p { body := .ptp (.pdelayResp q w (b.rxStampNs p)), queue := 7 }).kick p false)) ∧
  (∀ (s : State) (p d q rr rt t1 : Nat) (c : Int) (b : Block), s.blk.ptpIn p d = (true, b) → (tget ptpD b.time.ports p).pdelayWait =
    some (q, t1) →
    Gives (.ptpPdelayResp p d q rr rt c) s (b.putPtp p fun x => { x with pdelayWait := none, linkDelay := satN (2 ^ 32 - 1) (rneI (dist64 (b.rxStampNs p) t1 - dist64 rt rr - rneI c 65536) 2).toNat })) ∧
  (∀ (s : State) (p : Nat), s.blk.alive p = true →
    Gives (.ptpUnsupported p) s ((s.blk.goodRx p).putPtp p fun x => { x with discard := satN (2 ^ 32 - 1) (x.discard + 1) })) ∧
  (∀ (s : State) (p n : Nat), s.blk.ptpOn p = true → (tget ptpD s.blk.time.ports p).pdelayWait = none →
    (tget ptpD s.blk.time.ports p).seqPdelay = n →
    Gives (.ptpTransmitInterval p .pdelayReq) s (((s.blk.putPtp p fun x => { x with seqPdelay := (x.seqPdelay + 1) % 65536 }).enqueue p { body := .ptp (.pdelayReq n), queue := 7 }).kick p false)) ∧
  (∀ (s : State) (p n : Nat) (b : Block), s.blk.ptpOn p = true → (tget ptpD s.blk.time.ports p).pdelayWait.isSome = true → b =
    (s.blk.putPtp p fun x => { x with pdelayFail := satN (2 ^ 32 - 1) (x.pdelayFail + 1), pdelayWait := none }).raise 355 p →
    (tget ptpD s.blk.time.ports p).seqPdelay = n →
    Gives (.ptpTransmitInterval p .pdelayReq) s (((b.putPtp p fun x => { x with seqPdelay := (x.seqPdelay + 1) % 65536 }).enqueue p { body := .ptp (.pdelayReq n), queue := 7 }).kick p false)) ∧
  (∀ (s : State) (p n : Nat), s.blk.ptpOn p = true → (tget ptpD s.blk.time.ports p).pstate = 6 → s.blk.ptpPort p = p →
    (tget ptpD s.blk.time.ports p).seqSync = n →
    Gives (.ptpTransmitInterval p .sync) s (((s.blk.putPtp p fun x => { x with seqSync := (x.seqSync + 1) % 65536 }).enqueue p { body := .ptp (.sync n), queue := 7 }).kick p false)) ∧
  (∀ (s : State) (p q rx tx o : Nat) (c e : Int) (b : Block), o = (if p % 2 = 0 then p + 1 else p - 1) → s.blk.alive p = true →
    s.blk.time.cfg.profile ≠ 0 → (s.blk.red p = 2 ∨ 2 ≤ p ∧ s.blk.time.cfg.tc.getD p false = true ∧ s.blk.time.cfg.tc.getD o false =
    true) → b = s.blk.goodRx p → e = c + (dist64 tx rx + ((tget ptpD b.time.ports p).linkDelay : Nat)) * 65536 →
    Gives (.transparentClockForward p q false c rx tx) s ((b.enqueue o { body := .tc 0 q e, queue := 7 }).kick o false)) ∧
  (∀ (s : State) (p q rx tx o : Nat) (c e : Int) (b b2 : Block), o = (if p % 2 = 0 then p + 1 else p - 1) → s.blk.alive p = true →
    s.blk.time.cfg.profile ≠ 0 → (s.blk.red p = 2 ∨ 2 ≤ p ∧ s.blk.time.cfg.tc.getD p false = true ∧ s.blk.time.cfg.tc.getD o false =
    true) → b = s.blk.goodRx p → e = c + (dist64 tx rx + ((tget ptpD b.time.ports p).linkDelay : Nat)) * 65536 → b2 =
    (b.enqueue o { body := .tc 0 q c, queue := 7 }).kick o false →
    Gives (.transparentClockForward p q true c rx tx) s ((b2.enqueue o { body := .tc 1 q e, queue := 7 }).kick o false)) ∧
  (∀ (s : State) (p : Nat), p < 4 → (tget ptpD s.blk.time.ports p).best.isSome = true →
    (tget ptpD s.blk.time.ports p).annAt + 3 * secE ≤ s.blk.now → s.blk.time.slave ≠ some p →
    Gives (.announceTimeout p) s ((s.blk.putPtp p fun x => { x with best := none, annTo := true }).bmca)) ∧
  (∀ (s : State) (p : Nat) (b : Block), p < 4 → (tget ptpD s.blk.time.ports p).best.isSome = true →
    (tget ptpD s.blk.time.ports p).annAt + 3 * secE ≤ s.blk.now → s.blk.time.slave = some p → b =
    ((s.blk.putPtp p fun x => { x with best := none, annTo := true }).bmca).raise 349 p →
    Gives (.announceTimeout p) s (if b.time.servo.state = .locked then b.setTState .holdover else b))

/-- Links, frames without a service, redundancy and the end of a transmission have their effect. LINK_UP of a port in a mode from
step 5 on, its link down, brings the link up, hears it now and, within the first second, begins its admission (R50, R64, R375);
LINK_DOWN of a link that is up takes it down from now on. RX_BAD_FRAME is counted, with an event open at the first of a run (R376);
RX_UNSUPPORTED_FRAME and PAUSE_FRAME are counted (R374, R376); PRP_SUPERVISION_RX of a frame taken is policed. Frames not taken
leave the block as the redundancy rules leave it. PRP_SUPERVISION_TX and HSR_SUPERVISION_TX send on a pair of that protocol.
PRP_PORT_LOST: a PRP port unheard for 6 s while its partner was heard later is lost; HSR_RING_OPEN: a ring port unheard for 6 s.
DUP_ENTRY_EXPIRY drops the entries of 400 ms. HSR_FORWARD of a frame the node sent itself discards it; of another one not yet
forwarded it goes to the partner, or is dropped with its queue full; of one forwarded before, it is counted. FRAME_TRANSMISSION_END
keeps the frame among the last sent and starts the next (R363, R378, R379, R394). Spec: 17_ethernet_ports.md, 03_first_second.md. -/
def Obligations.PortCommandsComplete : Prop :=
  (∀ (s : State) (p : Nat), p < 4 → 5 ≤ s.blk.sys.step → s.blk.mode p ≠ 0 → (s.blk.port p).link = false →
    Does (.linkUp p) s fun b => (b.port p).link = true ∧ (b.port p).downAt = none ∧ (b.port p).heardAt = s.blk.now ∧
    (b.port p).lost = none ∧ (s.blk.now < secE → b.sys.linkUpAt = lupd s.blk.sys.linkUpAt p fun _ => s.blk.now)) ∧
  (∀ (s : State) (p : Nat), (s.blk.port p).link = true → Does (.linkDown p) s fun b => (b.port p).link = false ∧ (b.port p).downAt =
    some s.blk.now) ∧
  (∀ (s : State) (p : Nat) (l : Bool) (b : Block), s.blk.alive p = true → b =
    s.blk.putPort p (fun x => { x.count (if l then .rxLong else .rxErr) with badRun := x.badRun + 1 }) →
    Gives (.rxBadFrame p l) s (if (s.blk.port p).badRun = 0 then b.raiseOpen (netSrc p 1) else b)) ∧
  (∀ (s : State) (h : RxHdr) (b : Block), s.blk.rxIn h = (true, b) → Gives (.rxUnsupportedFrame h) s (b.countNet h.port .rxUnsup)) ∧
  (∀ (s : State) (p : Nat), s.blk.alive p = true → Gives (.pauseFrame p) s ((s.blk.goodRx p).countNet p .pauseRx)) ∧
  (∀ (s : State) (h : RxHdr) (b : Block), s.blk.rxIn h = (true, b) → Gives (.prpSupervisionRx h) s (b.police h.port false).2) ∧
  (∀ (s : State) (h : RxHdr) (b : Block) (i : Instr), (i = .rxUnsupportedFrame h ∨ i = .prpSupervisionRx h) → s.blk.rxIn h = (false,
    b) → Gives i s b) ∧
  (∀ (s : State) (k : Nat), k < 2 → s.blk.red (2 * k) = 1 →
    Gives (.prpSupervisionTx k) s (s.blk.sendOn (2 ^ (2 * k)) 0 none .supervision)) ∧
  (∀ (s : State) (k : Nat), k < 2 → s.blk.red (2 * k) = 2 →
    Gives (.hsrSupervisionTx k) s (s.blk.sendOn (2 ^ (2 * k)) 0 none .supervision)) ∧
  (∀ (s : State) (p : Nat), p < 4 → s.blk.red p = 1 → (s.blk.port p).lost = none → (s.blk.port p).heardAt + 6 * secE ≤ s.blk.now →
    (s.blk.port p).heardAt < (s.blk.port (if p % 2 = 0 then p + 1 else p - 1)).heardAt →
    Gives (.prpPortLost p) s ((s.blk.putPort p fun x => { x with lost := some s.blk.now }).raiseOpen (netSrc p 4))) ∧
  (∀ (s : State) (p : Nat), p < 4 → s.blk.red p = 2 → (s.blk.port p).lost = none → (s.blk.port p).heardAt + 6 * secE ≤ s.blk.now →
    Gives (.hsrRingOpen p) s ((s.blk.putPort p fun x => { x with lost := some s.blk.now }).raiseOpen (netSrc p 4))) ∧
  (∀ (s : State) (k : Nat),
    Gives (.dupEntryExpiry k) s (s.blk.putDups k ((s.blk.dups k).filter fun d => decide (s.blk.now < d.at_ + 400 * msE)))) ∧
  (∀ (s : State) (h : RxHdr) (u m : Bool), s.blk.alive h.port = true → s.blk.red h.port = 2 →
    Gives (.hsrForward h true u m) s (if u then (s.blk.goodRx h.port).heard h.port else s.blk.goodRx h.port)) ∧
  (∀ (s : State) (h : RxHdr) (q l : Nat) (u m : Bool), s.blk.alive h.port = true → s.blk.red h.port = 2 → h.seq = some (q, l) →
    (s.blk.dupOf (h.port / 2) h.src q).any (·.fwd) = true →
    Gives (.hsrForward h false u m) s (if m then s.blk else (s.blk.goodRx h.port).countNet h.port .dupDiscard)) ∧
  (∀ (s : State) (h : RxHdr) (q l o : Nat) (u m : Bool) (b : Block), s.blk.alive h.port = true → s.blk.red h.port = 2 → h.seq =
    some (q, l) → (s.blk.dupOf (h.port / 2) h.src q).any (·.fwd) = false → o = (if h.port % 2 = 0 then h.port + 1 else h.port - 1) →
    b = (if m then s.blk else s.blk.goodRx h.port).dupPut (h.port / 2) h.src q (fun d => { d with fwd := true }) →
    Gives (.hsrForward h false u m) s (if 8 ≤ (b.port o).fwd.length then (b.countNet o .txqDrop).raise (netSrc o 6) 8 else (b.putPort o fun x => { x with fwd := x.fwd ++ [{ body := .ring h.src q, queue := 8 }] }).kick o false)) ∧
  (∀ (s : State) (p : Nat) (f : TxFrame), (s.blk.port p).sending = some f →
    Gives (.frameTransmissionEnd p) s ((s.blk.putPort p fun x => { x with sending := none, sent := (f :: x.sent).take 16 }).kick p true))

/-- Hellos, admission, probation and silence of neighbours have their effect. With the fabric on and a hello interval begun that has
had none, HELLO_SEND sends a hello on every fabric port with the next count (R399). HELLO_RECEIVED of a frame taken on a fabric
port, from an address not blocked and within the policing, is weighed against the neighbour list; on a port outside the fabric it is
counted as unsupported (R400 to R402). CONFLICT_BLOCK_END keeps the addresses whose 10 s run. PENDING_ADMISSION admits as many
pending neighbours as there is room for, up to 32, the first first (R66). PROBATION_END from 300 ms after its admission makes a
neighbour UP, and NEIGHBOUR_SILENT from 300 ms after its last hello takes it down; NEIGHBOUR_ENTRY_FREE drops an entry DOWN for 10 s
and keeps every other. OWN_PROBATION_END ends the node's own probation 300 ms after its first hello (R400 to R402). Spec:
18_morzor_fabric.md. -/
def Obligations.NeighbourCommandsComplete : Prop :=
  (∀ (s : State), s.blk.fabOn = true → s.blk.helloIv.isSome = true → s.blk.fab.helloIv ≠ s.blk.helloIv →
    Does .helloSend s fun b => b.fab.hcount = (s.blk.fab.hcount + 1) % 65536 ∧ b.fab.helloIv = s.blk.helloIv ∧
    b.fab.firstAt.isSome = true) ∧
  (∀ (s : State) (h : RxHdr) (x : Hello) (b c : Block), s.blk.rxIn h = (true, b) → b.fabRefuse h = false → b.isBlocked x.mac =
    false → b.police h.port true = (true, c) →
    Gives (.helloReceived h x) s ((c.countFab (b.logical h.port) .rx).hello (b.logical h.port) x)) ∧
  (∀ (s : State) (h : RxHdr) (x : Hello) (b : Block), s.blk.rxIn h = (true, b) → b.fabRefuse h = true →
    Gives (.helloReceived h x) s (b.countNet h.port .rxUnsup)) ∧
  (∀ (s : State),
    Gives .conflictBlockEnd s { s.blk with fab := { s.blk.fab with blocked := s.blk.fab.blocked.filter fun x => decide (s.blk.now < x.2) } }) ∧
  (∀ (s : State) (n : Nat), n = min (min 32 (256 - s.blk.fab.nbrs.length)) s.blk.fab.pendq.length →
    Gives .pendingAdmission s ((s.blk.fab.pendq.take n).foldl (fun b p => b.admitOne p) { s.blk with fab := { s.blk.fab with pendq := s.blk.fab.pendq.drop n } })) ∧
  (∀ (s : State) (a l : Nat) (n : Nbr), s.blk.findNbr a l = some n → n.state = .probation → n.admAt + 300 * msE ≤ s.blk.now →
    Gives (.probationEnd a l) s ((s.blk.mapNbr a l fun n => { n with state := .up }).reroute)) ∧
  (∀ (s : State) (a l : Nat) (n : Nbr), s.blk.findNbr a l = some n → n.heardAt + 300 * msE ≤ s.blk.now →
    Gives (.neighbourSilent a l) s (s.blk.nbrDown a l)) ∧
  (∀ (s : State) (a l : Nat), Does (.neighbourEntryFree a l) s fun b => ∀ n, n ∈ b.fab.nbrs ↔ n ∈ s.blk.fab.nbrs ∧ ¬ (n.addr = a ∧
    n.port = l ∧ n.state = .down ∧ n.downAt + 10 * secE ≤ s.blk.now)) ∧
  (∀ (s : State) (t : Nat), s.blk.fab.firstAt = some t → s.blk.fab.probing = true → t + 300 * msE ≤ s.blk.now →
    Gives .ownProbationEnd s (Block.raise 410 0 { s.blk with fab := { s.blk.fab with probing := false } }))

/-- Unicast and broadcast frames, reassembly and the travelling-wave and whisk messages have their effect. FABRIC_UNICAST_FRAME of a
frame admitted: to the node's own address it is consumed; else, outside the node's probation, with more than one hop left and a
route, it goes on with one hop less, with one hop left it is discarded and counted in HOP_DROP (R405). FABRIC_BROADCAST_FRAME seen
before is counted; a new one in the node's zone is consumed and, outside probation with more than one hop left, flooded to the other
fabric ports (R406). SEGMENT_REASSEMBLY_TIMEOUT drops the reassemblies of 50 ms (R398). PROTECTION_SIGNAL_RX gives its signal to the
filter as its GOOSE (R411). TW_RECORD_SEND takes the oldest arrival record, and sends it and pairs it where its group is enabled
(R414); TW_RECORD_RX pairs a record of an enabled group with the declared peer; TW_PAIR_WAIT_EXPIRY drops the records past PAIR_WAIT
(R414). FABRIC_WHISK_RX of a future instant with no compare armed arms it; FABRIC_WHISK_ANSWER of an open call's OK is counted, with
UNSYNC where marked; FABRIC_WHISK_WAIT_END answers each call whose WAIT has passed with its counts and records and keeps the others
(R416). Spec: 18_morzor_fabric.md, 19_whisk_and_debug.md. -/
def Obligations.FabricFramesComplete : Prop :=
  (∀ (s : State) (h : RxHdr) (f : FabHdr) (y : FabBody) (b : Block) (i : Instr), (i = .fabricUnicastFrame h f y ∨ i =
    .fabricBroadcastFrame h f y) → s.blk.fabIn h f y = (false, b) → Gives i s b) ∧
  (∀ (s : State) (h : RxHdr) (f : FabHdr) (y : FabBody) (b : Block), s.blk.fabIn h f y = (true, b) → f.bcast = false → f.mcast =
    false → f.dst = b.fabAddr → Gives (.fabricUnicastFrame h f y) s (b.consume h f y)) ∧
  (∀ (s : State) (h : RxHdr) (f : FabHdr) (y : FabBody) (b c : Block) (l n : Nat), s.blk.fabIn h f y = (true, b) → f.bcast = false →
    f.mcast = false → f.dst ≠ b.fabAddr → b.fab.probing = false → 2 ≤ f.hops → b.egress (b.logical h.port) f.dst = (some (l, n),
    c) →
    Gives (.fabricUnicastFrame h f y) s (((c.countFab (b.logical h.port) .fwd).fabPass).fabEmit l { f with hops := f.hops - 1 } y (some n))) ∧
  (∀ (s : State) (h : RxHdr) (f : FabHdr) (y : FabBody) (b : Block), s.blk.fabIn h f y = (true, b) → f.bcast = false → f.mcast =
    false → f.dst ≠ b.fabAddr → b.fab.probing = false → f.hops ≤ 1 →
    Gives (.fabricUnicastFrame h f y) s (b.fabDiscard (b.logical h.port) .hopDrop 400)) ∧
  (∀ (s : State) (h : RxHdr) (f : FabHdr) (y : FabBody) (b : Block), s.blk.fabIn h f y = (true, b) → f.bcast = true →
    b.bdupHas f.src f.svc f.seq = true → Gives (.fabricBroadcastFrame h f y) s (b.countFab (b.logical h.port) .dupBcast)) ∧
  (∀ (s : State) (h : RxHdr) (f : FabHdr) (y : FabBody) (b c : Block), s.blk.fabIn h f y = (true, b) → f.bcast = true →
    b.bdupHas f.src f.svc f.seq = false → (b.bdupPut f.src f.svc f.seq).inZone f = true → c =
    (b.bdupPut f.src f.svc f.seq).consume h f y → c.inZone f = true → c.fab.probing = false → 2 ≤ f.hops →
    Gives (.fabricBroadcastFrame h f y) s ((c.fabPorts.filter fun p => p != b.logical h.port).foldl (fun b p => b.fabEmit p { f with hops := f.hops - 1 } y none) (c.countFab (b.logical h.port) .fwd))) ∧
  (∀ (s : State), Does .segmentReassemblyTimeout s fun b => b.fab.reasm =
    s.blk.fab.reasm.filter fun m => decide (s.blk.now < m.at_ + 50 * msE)) ∧
  (∀ (s : State) (m : FabMsg) (f : GooseRx) (b : Block), s.blk.take 1 (fun _ => true) = some (m, b) → m.body = .signal f →
    Gives .protectionSignalRx s (b.gooseFilter m.hdr f)) ∧
  (∀ (s : State) (x : Arrival) (r : List Arrival), s.blk.acc.toFab = x :: r → (32 ≤ x.group ∨ (tget twD s.blk.fab.tw x.group).en =
    false) → Gives .twRecordSend s { s.blk with acc := { s.blk.acc with toFab := r } }) ∧
  (∀ (s : State) (x : Arrival) (r : List Arrival) (c : TwCfg) (b : Block), s.blk.acc.toFab = x :: r → x.group < 32 →
    tget twD s.blk.fab.tw x.group = c → c.en = true → b =
    Block.fabSend 2 c.remote false false false false (.bytes (leBytes 1 c.rgroup ++ zeros 3 ++ x.bytes)) { s.blk with acc := { s.blk.acc with toFab := r } } →
    Gives .twRecordSend s (b.twPair { group := x.group, stamp := x.stamp, rseq := x.rseq, at_ := s.blk.now })) ∧
  (∀ (s : State) (m : FabMsg) (b : Block) (g : Nat) (c : TwCfg), s.blk.take 2 (fun _ => true) = some (m, b) → m.bytes.length = 36 →
    fld m.bytes 0 1 = g → g < 32 → tget twD b.fab.tw g = c → c.en = true → c.remote = m.src → c.rgroup = fld m.bytes 16 1 →
    Gives .twRecordRx s (b.twPair { group := g, remote := true, rseq := fld m.bytes 32 4, at_ := b.now, stamp := { sec := fld m.bytes 4 6, ns := fld m.bytes 10 4, qual := fld m.bytes 14 2 } })) ∧
  (∀ (s : State), Does .twPairWaitExpiry s fun b => b.fab.unpaired =
    s.blk.fab.unpaired.filter fun w => !decide (w.at_ + (tget twD s.blk.fab.tw w.group).wait * msE ≤ s.blk.now)) ∧
  (∀ (s : State) (m : FabMsg) (b : Block) (w : Nat), s.blk.take 3 (fun m => m.bytes.length == 8) = some (m, b) → fld m.bytes 0 8 =
    w → dist64 b.ns64 w < 0 → b.snap.arm = none → Does .fabricWhiskRx s fun b2 => b2.snap.arm =
    some { at_ := w, source := 3, armedAt := b.ns64 }) ∧
  (∀ (s : State) (m : FabMsg) (b : Block) (i : Nat) (c : WhiskCall), s.blk.take 3 (fun m => m.bytes.length == 12) = some (m, b) →
    (b.fab.whisks.findIdx? fun c => c.w == fld m.bytes 0 8 && decide (b.now < c.dueAt)) = some i → b.fab.whisks[i]? = some c →
    fld m.bytes 8 2 = stOK → Does .fabricWhiskAnswer s fun b2 => b2.fab.whisks =
    lupd b.fab.whisks i fun c => { c with armed := c.armed + 1, unsync := c.unsync + b2n (fld m.bytes 10 1 != 0) }) ∧
  (∀ (s : State),
    Gives .fabricWhiskWaitEnd s ((s.blk.fab.whisks.filter fun c => decide (c.dueAt ≤ s.blk.now)).foldl (fun b c => b.answer c.req stOK c.epoch (leBytes 2 c.armed ++ leBytes 2 c.unsync ++ leBytes 2 c.late ++ leBytes 2 c.conflict ++ c.recs.flatMap fun x => leBytes 2 x.1 ++ leBytes 2 x.2)) { s.blk with fab := { s.blk.fab with whisks := s.blk.fab.whisks.filter fun c => decide (s.blk.now < c.dueAt) } }))

/-- Update-chain messages and the fabric's sessions have their effect. CHAIN_START_RX begins the staging by the rules of upd.begin
and answers its status (R520). CHAIN_DATA_RX of a record of the right length while the staging waits for it and the flash and the
assembly have room: one that verifies is taken and one that does not is answered BAD_TAG. CHAIN_ACK_RX of the successor moves the
chain on from its NEXT (R417, R520). CHAIN_RESEND, 50 ms after the last send, sends what still waits again, the start at most 8
times and then the chain is broken (R417). SESSION_OPEN_RX from an address that the access list admits, with a free client number
and MBX_FAB, opens the lowest with the lower level and answers OK; without an entry it answers NO_AUTH (R418). SESSION_OPEN_REPLY_RX
with OK opens the calls that wait for it and sends their requests. SESSION_REQUEST_RX of a session's peer joins its queue;
SESSION_RESPONSE_RX of an open call answers it; SESSION_CLOSE_RX of its peer closes it; SESSION_IDLE_CLOSE closes an empty session
after 10 s; FAB_CALL_TIMEOUT answers each call past its time LATE and keeps the others (R418, R419). Spec: 18_morzor_fabric.md,
23_firmware_update_keys.md. -/
def Obligations.ChainAndSessionMessagesComplete : Prop :=
  (∀ (s : State) (m : FabMsg) (b c : Block) (st : Nat),
    s.blk.take 4 (fun m => !m.seg && fld m.bytes 0 1 == 0 && m.bytes.length == 516) = some (m, b) → b.begin true (m.bytes.drop 4) =
    (st, c) → Gives .chainStartRx s (c.chainAck m.src st)) ∧
  (∀ (s : State) (m : FabMsg) (b c : Block) (ok : Bool), s.blk.take 4 (fun m => m.seg) = some (m, b) → m.bytes.length = recSize →
    b.flashBusy = false → (b.nv.stg.asmCnt.filter fun x => !x.2.isEmpty).length < 64 → b.nv.stg.state = .staging → b.nv.stg.held =
    false → b.nv.nextIn < b.nv.stg.hdr.nblocks → b.takeRecord b.nv.nextIn m.bytes (some m.src) = (ok, c) →
    Gives .chainDataRx s (if ok then c else c.chainAck m.src stBADTAG)) ∧
  (∀ (s : State) (m : FabMsg) (b : Block) (n : Nat), s.blk.take 4 (fun m => !m.seg && fld m.bytes 0 1 == 1 && m.bytes.length == 8) =
    some (m, b) → b.chainOn = true → m.src = b.nv.chain.succ → fld m.bytes 1 2 = stOK → fld m.bytes 4 4 = n →
    Gives .chainAckRx s (Block.chainGo { b with nv := { b.nv with chain := { b.nv.chain with started := true, succNext := n, sendPos := n, sends := b.nv.chain.sends.filter fun x => decide (n ≤ x.1) && x.1 != startIx } } })) ∧
  (∀ (s : State), s.blk.chainOn = true → s.blk.nv.chain.started = true → s.blk.nv.chain.succNext < s.blk.nv.stg.next →
    s.blk.nv.chain.sentAt + 50 * msE ≤ s.blk.now →
    Gives .chainResend s (Block.chainGo { s.blk with nv := { s.blk.nv with chain := { s.blk.nv.chain with sendPos := s.blk.nv.chain.succNext } } })) ∧
  (∀ (s : State), s.blk.chainOn = true → s.blk.nv.chain.started = false → s.blk.nv.chain.sentAt + 50 * msE ≤ s.blk.now →
    Gives .chainResend s (if 8 ≤ tget natD s.blk.nv.chain.sends startIx then s.blk.chainBreak else s.blk.chainSend startIx)) ∧
  (∀ (s : State) (m : FabMsg) (b : Block) (a c lv : Nat), s.blk.takeOp 0 = some (m, b) → b.accessOf m.src = some a →
    (((List.range 128).map (· + 128)).find? fun c => (tget sessD b.fab.sess c).isNone) = some c → b.sys.mbxFab = true → lv =
    min a (fld m.bytes 1 1) →
    Gives .sessionOpenRx s ((Block.raise 406 c { b with fab := { b.fab with sess := tset sessD b.fab.sess c (some { peer := m.src, level := lv, reqAt := b.now }) }, mbx := { b.mbx with clients := tset clientD b.mbx.clients c { auth := lv } } }).sessSend m.src 1 lv c (leBytes 2 stOK))) ∧
  (∀ (s : State) (m : FabMsg) (b : Block), s.blk.takeOp 0 = some (m, b) → b.accessOf m.src = none →
    Gives .sessionOpenRx s ((b.raise 407 stNOAUTH).sessSend m.src 1 0 255 (leBytes 2 stNOAUTH))) ∧
  (∀ (s : State) (m : FabMsg) (b b2 : Block) (c0 : Call) (mine : Call → Bool), s.blk.takeOp 1 = some (m, b) →
    (b.fab.calls.find? fun c => c.target == m.src && !c.sent) = some c0 → (mine =
    fun c => c.target == m.src && c.level == c0.level && !c.sent) → fld m.bytes 4 2 = stOK → b2 =
    { b with fab := { b.fab with outs := b.fab.outs ++ [{ target := m.src, level := c0.level, client := fld m.bytes 2 1 }], calls := b.fab.calls.map fun c => if mine c then { c with sent := true } else c } } →
    Gives .sessionOpenReplyRx s ((b.fab.calls.filter mine).foldl (fun b c => b.callSend c (fld m.bytes 2 1)) b2)) ∧
  (∀ (s : State) (m : FabMsg) (b : Block) (c : Nat) (x : Sess), s.blk.takeOp 2 = some (m, b) → fld m.bytes 2 1 = c →
    tget sessD b.fab.sess c = some x → x.peer = m.src → 20 ≤ m.bytes.length → x.queue.length + b.outstanding c < 8 →
    Gives .sessionRequestRx s { b with fab := { b.fab with sess := tset sessD b.fab.sess c (some { x with queue := x.queue ++ [leBytes 1 c ++ m.bytes.drop 5], reqAt := b.now }) } }) ∧
  (∀ (s : State) (m : FabMsg) (b : Block) (c : Call) (mine : Call → Bool), s.blk.takeOp 3 = some (m, b) → (mine =
    fun c => c.sent && c.target == m.src && fld c.inner 4 4 == fld (m.bytes.drop 4) 4 4 && decide (b.now < c.dueAt)) →
    b.fab.calls.find? mine = some c → (m.bytes.drop 4).length ≤ 4096 →
    Gives .sessionResponseRx s (Block.answer c.req stOK b.time.epoch (m.bytes.drop 4) { b with fab := { b.fab with calls := b.fab.calls.eraseP mine } })) ∧
  (∀ (s : State) (m : FabMsg) (b : Block) (c : Nat) (x : Sess), s.blk.takeOp 4 = some (m, b) → fld m.bytes 2 1 = c →
    tget sessD b.fab.sess c = some x → x.peer = m.src → Gives .sessionCloseRx s (b.sessClose c)) ∧
  (∀ (s : State) (c : Nat) (x : Sess), tget sessD s.blk.fab.sess c = some x → x.queue = [] → s.blk.outstanding c = 0 →
    x.reqAt + 10 * secE ≤ s.blk.now → Gives (.sessionIdleClose c) s ((s.blk.sessSend x.peer 4 0 c []).sessClose c)) ∧
  (∀ (s : State),
    Gives .fabCallTimeout s ((s.blk.fab.calls.filter fun c => decide (c.dueAt ≤ s.blk.now)).foldl (fun b c => b.answer c.req stLATE b.time.epoch []) { s.blk with fab := { s.blk.fab with calls := s.blk.fab.calls.filter fun c => decide (s.blk.now < c.dueAt) } }))

/-- Doorbells, ring resets, PERST, link changes, acceptance, room, vectors, QSPI and register writes have their effect. Out of
reset: DOORBELL_WRITE of a client whose rings are not in reset takes its two offsets, or with bit 31 begins the ring reset, as
RING_RESET does; RING_RESET_COMPLETE makes every offset zero (R429, R436). With PCIe selected PCIE_PERST resets the rings, the
vectors and bus mastering and PCIE_LINK_STATE_CHANGE takes the new link with event 426 (R436, R448). REQUEST_ACCEPT, with MBX_ROOT,
the SP running and no handover's hold, takes the next client's request by the rotation (R27, R433). RESPONSE_RING_ROOM of a stalled
ring writes what waits and now fits and signals each response written (R435). VECTOR_SIGNAL of a held vector with PEND signals if it
may (R430). BAR0_ACCESS_ERROR reads 0 with event 428 (R428). With QSPI selected QSPI_READ and QSPI_WRITE of an address that is
allowed move their words, with an access error where one is cut short, and of another are access errors; QSPI_STATUS returns INT,
ERR and MBX_ROOT and clears ERR; QSPI_INVALID_OPCODE changes nothing (R427). REGISTER_WRITE writes its register (R429, R347). Spec:
19_mailbox_interface.md, 02_package_supplies_energy.md. -/
def Obligations.HostLinkCommandsComplete : Prop :=
  (∀ (s : State) (c : Nat) (v : Word), s.blk.lands.porst = false → c < 128 → (tget clientD s.blk.mbx.clients c).rstBusy = false →
    Gives (.doorbellWrite c v) s (if bitOf v.toNat 31 then s.blk.ringRst c else s.blk.updClient c fun x => { x with reqProd := bits v.toNat 12 0, rspCons := bits v.toNat 28 16 })) ∧
  (∀ (s : State) (c : Nat), s.blk.lands.porst = false → c < 128 → (tget clientD s.blk.mbx.clients c).rstBusy = false →
    Gives (.ringReset c) s (s.blk.ringRst c)) ∧
  (∀ (s : State) (c : Nat), (tget clientD s.blk.mbx.clients c).rstBusy = true →
    Gives (.ringResetComplete c) s (s.blk.updClient c fun x => { x with reqProd := 0, reqCons := 0, rspProd := 0, rspCons := 0, fmtErr := false, stall := false, rstBusy := false })) ∧
  (∀ (s : State), s.blk.lands.porst = false → s.blk.sys.hostSel = false → Does .pciePerst s fun b => b.mbx.bme = false ∧
    b.mbx.msix = msixReset ∧ b.sys = s.blk.sys ∧ b.time = s.blk.time ∧ b.lgc.pairs = s.blk.lgc.pairs) ∧
  (∀ (s : State) (u : Bool) (v w : Nat), s.blk.lands.porst = false → s.blk.sys.hostSel = false →
    Gives (.pcieLinkStateChange u v w) s (Block.raise 426 (b2n u : Nat) { s.blk with mbx := { s.blk.mbx with pcieUp := u, speed := if u then v else 0, width := if u then w else 0 } })) ∧
  (∀ (s : State) (c : Nat) (d : List Nat) (f : Nat), s.blk.sys.mbxRoot = true → s.blk.spUp = true →
    s.blk.mbx.ringsFrom ≤ s.blk.now → s.blk.nextClient = some (c, d, f) →
    Gives .requestAccept s (Block.takeReq 2 c { s.blk with mbx := { s.blk.mbx with passDone := d, passFrom := f } })) ∧
  (∀ (s : State) (c : Nat) (x y : Client) (l : List Rsp), tget clientD s.blk.mbx.clients c = x → x.stall = true → x.rstBusy =
    false → x.unstall x.waiting = (y, l) →
    Gives (.responseRingRoom c) s (l.foldl (fun b r => if bitOf r.flags.toNat 1 then b else b.vecCause (16 + c % 16)) (s.blk.updClient c fun _ => y))) ∧
  (∀ (s : State) (v : Nat) (x : Vec), tget vecD s.blk.mbx.vec v = x → x.held = true → x.pend = true →
    Does (.vectorSignal v) s fun b => b.mbx.vec = tset vecD s.blk.mbx.vec v (x.signal s.blk.now)) ∧
  (∀ (s : State), s.blk.lands.porst = false → Does .bar0AccessError s fun b => b.mbx.rdData = zeros 4 ∧ b.mbx.qspiErr =
    (s.blk.mbx.qspiErr || s.blk.sys.hostSel)) ∧
  (∀ (s : State) (a : BitVec 24) (n : Nat) (cut : Bool) (b : Block) (l : List Byte), s.blk.lands.porst = false → s.blk.sys.hostSel =
    true → qspiAddrOk a.toNat = true → s.blk.readWords (bitOf a.toNat 23) (a.toNat % 2 ^ 23) n = (b, l) →
    Gives (.qspiRead a n cut) s (if cut then { b.accessError with mbx := { b.accessError.mbx with rdData := l } } else { b with mbx := { b.mbx with rdData := l } })) ∧
  (∀ (s : State) (a : BitVec 24) (l : List Word) (cut : Bool) (b : Block), s.blk.lands.porst = false → s.blk.sys.hostSel = true →
    qspiAddrOk a.toNat = true → s.blk.writeWords (bitOf a.toNat 23) (a.toNat % 2 ^ 23) l = b →
    Gives (.qspiWrite a l cut) s (if cut then b.accessError else b)) ∧
  (∀ (s : State) (a : BitVec 24) (n : Nat) (l : List Word) (cut : Bool) (i : Instr), (i = .qspiRead a n cut ∨ i =
    .qspiWrite a l cut) → s.blk.lands.porst = false → s.blk.sys.hostSel = true → qspiAddrOk a.toNat = false →
    Gives i s s.blk.accessError) ∧
  (∀ (s : State), s.blk.lands.porst = false → s.blk.sys.hostSel = true → Does .qspiStatus s fun b => b.mbx.rdData =
    leBytes 1 (bitsOf [s.blk.vecSum != 0, s.blk.mbx.qspiErr, s.blk.sys.mbxRoot]) ∧ b.mbx.qspiErr = false) ∧
  (∀ (s : State) (o : Byte), Gives (.qspiInvalidOpcode o) s s.blk) ∧
  (∀ (s : State) (o : Nat) (v : Word), s.blk.lands.porst = false → Gives (.registerWrite .bar0 o v) s (s.blk.bar0Write o v)) ∧
  (∀ (s : State) (o : Nat) (v : Word), s.blk.lands.porst = false →
    Gives (.registerWrite .bar2 o v) s (s.blk.bar2Write o (leBytes 4 v.toNat))) ∧
  (∀ (s : State) (o : Nat) (v : Word), s.blk.lands.porst = false →
    Gives (.registerWrite .tim o v) s (if o < timSize then s.blk.timWrite o v else s.blk)) ∧
  (∀ (s : State) (o : Nat) (v : Word), s.blk.lands.porst = false →
    Gives (.registerWrite .fld o v) s (if o < fldSize then s.blk.fldWrite o v else s.blk)) ∧
  (∀ (s : State) (o : Nat) (v : Word), s.blk.lands.porst = false →
    Gives (.registerWrite .pci o v) s (if s.blk.sys.hostSel then s.blk else { s.blk with mbx := { s.blk.mbx with bme := bitOf v.toNat 2 } }))

/-- The whisk's register writes, its pin, its comparison, the snapshot and the debug access have their effect. A write of WHISK_CTRL
takes PIN_EN and OUT_EN; WHISK_FIRE_WRITE whisks under source 0 and, without ARM, disarms; WHISK_ARM_WRITE without FIRE arms a free
comparator at WHISK_AT and leaves an armed one; WHISK_DISARM_WRITE disarms (R429). WHISK_IN_EDGE whisks under source 1 where PIN_EN
is set. WHISK_COMPARE_FIRE of an armed comparator whose instant has come whisks under its source, marked TIMED where it was armed 1
µs ahead, and answers the command that armed it (R360, R483). SNAPSHOT_COMPLETE of a snapshot being latched, once generation E and
pass E are in it or 40 µs have gone, makes it HELD and serves what waits (R485, R486). WHISK_OUT_END at its time ends the pulse
(R484). DBGACC_ACCESS at a level other than 0 reads or writes through the tongs, an address that they refuse is an error; at level 0
it is an error (R490 to R492). Spec: 19_mailbox_interface.md, 22_snapshots_debug.md, 16_network_time.md. -/
def Obligations.WhiskAndDebugAccessComplete : Prop :=
  (∀ (s : State) (v : Word) (b : Block), b =
    Block.whisk 0 false { s.blk with snap := { s.blk.snap with pinEn := bitOf v.toNat 2, outEn := bitOf v.toNat 3 } } →
    bitOf v.toNat 0 = true → bitOf v.toNat 1 = false → Gives (.whiskFireWrite v) s b.disarm) ∧
  (∀ (s : State) (v : Word) (b : Block), b =
    { s.blk with snap := { s.blk.snap with pinEn := bitOf v.toNat 2, outEn := bitOf v.toNat 3 } } → bitOf v.toNat 0 = false →
    bitOf v.toNat 1 = true →
    Gives (.whiskArmWrite v) s (if s.blk.snap.arm.isSome then b else { b with snap := { b.snap with arm := some { at_ := s.blk.snap.atLo.toNat + 2 ^ 32 * s.blk.snap.atHi.toNat, source := 2, armedAt := s.blk.ns64 } } })) ∧
  (∀ (s : State) (v : Word), bitOf v.toNat 0 = false → bitOf v.toNat 1 = false →
    Gives (.whiskDisarmWrite v) s (Block.disarm { s.blk with snap := { s.blk.snap with pinEn := bitOf v.toNat 2, outEn := bitOf v.toNat 3 } })) ∧
  (∀ (s : State), s.blk.snap.pinEn = true → Gives .whiskInEdge s (s.blk.whisk 1 false)) ∧
  (∀ (s : State) (a : WArm) (b : Block), s.blk.snap.arm = some a → 0 ≤ dist64 s.blk.ns64 a.at_ → b =
    Block.whisk a.source (decide (1000 ≤ dist64 a.at_ a.armedAt)) { s.blk with snap := { s.blk.snap with arm := none } } →
    Gives .whiskCompareFire s (match a.req with | some r => b.fireAnswer r | none => b)) ∧
  (∀ (s : State), s.blk.snap.state = .latching → (s.blk.snap.accHeld = true ∧ s.blk.snap.elmHeld = true ∨
    s.blk.snap.hdr.elapsed + 40000 ≤ s.blk.nowNs) →
    Gives .snapshotComplete s (Block.snapServe s.blk.snap.waits { s.blk with snap := { s.blk.snap with state := .held, waits := [] } })) ∧
  (∀ (s : State) (t : Nat), s.blk.snap.outTo = some t → t ≤ s.blk.now →
    Gives .whiskOutEnd s { s.blk with snap := { s.blk.snap with outTo := none } }) ∧
  (∀ (s : State) (a : Word) (w : Word) (b : Block) (v : Nat), s.blk.snap.level ≠ 0 → s.blk.tongs a.toNat = some (b, v) →
    Gives (.dbgaccAccess a false w) s { b with snap := { b.snap with err := false, dr := BitVec.ofNat 32 v } }) ∧
  (∀ (s : State) (a : Word) (w : Word), s.blk.snap.level ≠ 0 → s.blk.tongs a.toNat = none →
    Gives (.dbgaccAccess a false w) s { s.blk with snap := { s.blk.snap with err := true } }) ∧
  (∀ (s : State) (a : Word) (w : Word), s.blk.snap.level ≠ 0 → Gives (.dbgaccAccess a true w) s (s.blk.dbgWrite a.toNat w)) ∧
  (∀ (s : State) (a : Word) (w : Word) (x : Bool), s.blk.snap.level = 0 →
    Gives (.dbgaccAccess a x w) s { s.blk with snap := { s.blk.snap with err := true } })

/-- The sys. commands have their effect: information, clients, arming, shutdown, the backstop and the ladle. Each request called
while the SP runs: sys.info answers its bytes (R445). sys.client reads every client's record or journals the write of one, and
answers a field out of range BAD_ARG (R440). sys.arm arms the running ones of its slots not yet armed; without FORCE it answers
NOT_READY while one of them does not meet its conditions, with FORCE it raises 491; the epoch is the latest boundary of those it
arms (R60). sys.shutdown starts the shutdown and answers OK (R68). sys.bstop with its length and reserved bytes as R216 has them:
read answers the set in force, or NOT_READY; stage verifies the staged set, or answers BAD_ARG with the offset of its first fault;
commit from the host of a staged set whose last word it names orders the first copy, with the next GEN and its CRC; state answers
its bytes. BACKSTOP_COMMIT_EFFECT at its epoch puts the set in force with event 321 (R216). sys.ladle read and write without a fault
start a transfer; an abort ends it with CONFLICT; LADLE_TRANSFER_END ends an active one with its data, LADLE_BUS_ERROR one of the
host with LINK_ERR and event 432 (R441). sys.nop echoes its payload (R445). Spec: 19_mailbox_interface.md, 03_first_second.md,
10_backstop_trip_path.md. -/
def Obligations.SysCommandsComplete : Prop :=
  (∀ (s : State) (r : Req), Called 0x0101 r s.blk → Gives (.sysInfo r) s (s.blk.ok r s.blk.infoBytes)) ∧
  (∀ (s : State) (r : Req), Called 0x0102 r s.blk → (fld r.payload 1 1 = 0 ∨ fld r.payload 1 1 = 2) → 1 ≤ fld r.payload 0 1 →
    fld r.payload 0 1 ≤ 127 → fld r.payload 2 1 ≤ 3 → fld r.payload 3 1 ≤ 1 → Gives (.sysClient r) s (if fld r.payload 1 1 =
    2 then s.blk.ok r ((List.range 128).map fun c => BitVec.ofNat 8 ((tget clientD s.blk.mbx.clients c).auth + 4 * b2n (tget clientD s.blk.mbx.clients c).disabled)) else s.blk.journal false 0x0102 r)) ∧
  (∀ (s : State) (r : Req), Called 0x0102 r s.blk → (fld r.payload 1 1 ≠ 0 ∧ fld r.payload 1 1 ≠ 2 ∨ fld r.payload 0 1 = 0 ∨
    127 < fld r.payload 0 1 ∨ 3 < fld r.payload 2 1 ∨ 1 < fld r.payload 3 1) → Gives (.sysClient r) s (s.blk.status r stBADARG)) ∧
  (∀ (s : State) (r : Req) (todo run : List Nat) (b : Block), Called 0x0103 r s.blk → fld r.payload 0 2 ≤ 255 →
    fld r.payload 2 2 ≤ 1 → todo = (bitList (fld r.payload 0 2) 8).filter (fun k => !(s.blk.slot k).free) → run =
    todo.filter (fun k => (s.blk.slot k).running) → (fld r.payload 2 2 = 1 ∨ ∀ k, k ∈ todo → (s.blk.slot k).armOk.isSome = true) →
    b = run.foldl (fun (b : Block) k => b.putSlot k { b.slot k with armCmd := true }) s.blk →
    Gives (.sysArm r) s (Block.answer r stOK (run.foldl (fun e k => max e (s.blk.slot k).boundary) s.blk.time.epoch) [] (if fld r.payload 2 2 =
    1 then b.raise 491 (fld r.payload 0 2) else b))) ∧
  (∀ (s : State) (r : Req) (k : Nat), Called 0x0103 r s.blk → fld r.payload 0 2 ≤ 255 → fld r.payload 2 2 = 0 →
    k ∈ bitList (fld r.payload 0 2) 8 → (s.blk.slot k).free = false → (s.blk.slot k).armOk = none →
    Gives (.sysArm r) s (s.blk.status r stNOTREADY)) ∧
  (∀ (s : State) (r : Req), Called 0x0104 r s.blk → Gives (.sysShutdown r) s ((s.blk.shutStart .command 1).status r stOK)) ∧
  (∀ (s : State) (r : Req), Called 0x0105 r s.blk → fld r.payload 0 1 = 0 → bstopArgs r.payload = true →
    Gives (.sysBstopRead r) s (match s.blk.bs.img with | some g => s.blk.ok r g | none => s.blk.status r stNOTREADY)) ∧
  (∀ (s : State) (r : Req), Called 0x0105 r s.blk → fld r.payload 0 1 = 1 → bstopArgs r.payload = true →
    Gives (.sysBstopStage r) s (match bsInvalid s.blk.pcf (memRead s.blk.bs.stage 0 4096) with | none => Block.ok r [] { s.blk with bs := { s.blk.bs with staged := true } } | some o => s.blk.answer r stBADARG s.blk.time.epoch (leBytes 2 o))) ∧
  (∀ (s : State) (r : Req) (g h : List Byte) (n : Nat), Called 0x0105 r s.blk → fld r.payload 0 1 = 2 → r.client < 128 →
    bstopArgs r.payload = true → s.blk.bs.staged = true → g = memRead s.blk.bs.stage 0 4096 → fld g 4092 4 = fld r.payload 4 4 →
    s.blk.bs.commit = none → s.blk.flashBusy = false → n = (match s.blk.bs.img with | some i => bsGen i + 1 | none => 1) → h =
    leBytes 4 n ++ (g.drop 4).take 4088 →
    Gives (.sysBstopCommit r) s (Block.order (.backstop 1) { s.blk with bs := { s.blk.bs with commit := some (r, h ++ leBytes 4 (crc32 h)) } })) ∧
  (∀ (s : State) (r : Req), Called 0x0105 r s.blk → fld r.payload 0 1 = 2 → 128 ≤ r.client →
    Gives (.sysBstopCommit r) s (s.blk.status r stNOAUTH)) ∧
  (∀ (s : State) (r : Req), Called 0x0105 r s.blk → fld r.payload 0 1 = 3 → bstopArgs r.payload = true →
    Gives (.sysBstopState r) s (s.blk.ok r s.blk.bstopBytes)) ∧
  (∀ (s : State) (r : Req) (i : Instr), (fld r.payload 0 1 = 0 ∧ i = .sysBstopRead r ∨ fld r.payload 0 1 = 1 ∧ i =
    .sysBstopStage r ∨ fld r.payload 0 1 = 3 ∧ i = .sysBstopState r) → Called 0x0105 r s.blk → bstopArgs r.payload = false →
    Gives i s (s.blk.status r stBADARG)) ∧
  (∀ (s : State) (t : Nat) (g : List Byte), s.blk.bs.load = some (t, g) → t ≤ s.blk.time.epoch →
    Gives .backstopCommitEffect s (Block.distObserve ((Block.bsLoad g { s.blk with bs := { s.blk.bs with load := none, commit := none }, nv := { s.blk.nv with bsCut := false } }).raise 321 (bsGen g)))) ∧
  (∀ (s : State) (r : Req) (w : Bool) (i : Instr), (fld r.payload 0 1 = 0 ∧ w = false ∧ i = .sysLadleRead r ∨ fld r.payload 0 1 =
    1 ∧ w = true ∧ i = .sysLadleWrite r) → Called 0x0106 r s.blk →
    Gives i s (match s.blk.ladleFail w r with | some st => s.blk.status r st | none => { s.blk with mbx := { s.blk.mbx with ladles := runLadles (s.blk.mbx.ladles ++ [{ client := r.client, seq := r.seq, flags := r.flags, write := w, obj := fld r.payload 2 2, offset := fld r.payload 4 4, length := fld r.payload 8 4, host := fld r.payload 16 8, epoch := s.blk.time.epoch, data := if w then r.payload.drop 24 else s.blk.objBytes (fld r.payload 2 2) (fld r.payload 4 4) (fld r.payload 8 4) }]) } })) ∧
  (∀ (s : State) (r : Req) (m : List Byte) (l : Ladle), Called 0x0106 r s.blk → fld r.payload 0 1 = 2 → fld r.payload 1 1 = 0 →
    r.payload.length = 24 → s.blk.ladleOf r.client (fld r.payload 12 4) = some l →
    Gives (.sysLadleAbort r m) s ((s.blk.ladleEnd l stCONFLICT (if l.active then l.moved m else [])).status r stOK)) ∧
  (∀ (s : State) (r : Req) (m : List Byte), Called 0x0106 r s.blk → fld r.payload 0 1 = 2 →
    s.blk.ladleOf r.client (fld r.payload 12 4) = none → Gives (.sysLadleAbort r m) s (s.blk.status r stBADARG)) ∧
  (∀ (s : State) (c q : Nat) (d : List Byte) (l : Ladle), s.blk.ladleOf c q = some l → l.active = true → (l.write = false ∨ l.host =
    0) → Gives (.ladleTransferEnd c q d) s (s.blk.ladleEnd l stOK l.data)) ∧
  (∀ (s : State) (c q : Nat) (d : List Byte) (l : Ladle), s.blk.ladleOf c q = some l → l.active = true → l.write = true →
    l.host ≠ 0 → d.length = l.length → Gives (.ladleTransferEnd c q d) s (s.blk.ladleEnd l stOK d)) ∧
  (∀ (s : State) (c q : Nat) (m : List Byte) (l : Ladle), s.blk.ladleOf c q = some l → l.active = true → l.host ≠ 0 →
    Gives (.ladleBusError c q m) s ((s.blk.ladleEnd l stLINKERR (l.moved m)).raise 432 l.obj)) ∧
  (∀ (s : State) (r : Req), Called 0x0107 r s.blk → Gives (.sysNop r) s (s.blk.ok r r.payload))

/-- The cnv. commands and the effects of their settings have their effect. Each request called while the SP runs. Reads: cnv.input
answers the records asked for, cnv.seq its state, cnv.house the interval and the forty records, cnv.plaus the twenty records,
cnv.twin read the records of the newest generation under its epoch (R76, R94, R103, R110, R120). Writes: a well-formed cnv.input,
cnv.house or cnv.plaus record goes to the journal and an ill-formed one is answered BAD_ARG; a well-formed cnv.seq is accepted with
its P and goes to the journal where the flash is free (R76, R94, R96, R103, R110). cnv.urgent of a good entry joins the queue of its
converter and path while that holds fewer than four, and is answered BUSY otherwise (R101). cnv.twin TEST of an index, and RETURN of
a path with a part removed, are wanted of it unless it is busy, and then answered BUSY (R121, R122). INPUT_RECORD_EFFECT,
SEQUENCE_SET_EFFECT, HOUSE_EFFECT and PLAUS_EFFECT put in force, in order, what is due, and leave what is not (R77, R97, R103,
R110). Spec: 19_mailbox_interface.md, 05_converters_and_sequences.md, 06_twin_paths.md, 04_analogue_inputs.md. -/
def Obligations.CnvCommandsComplete : Prop :=
  (∀ (s : State) (r : Req) (f n : Nat), Called 0x0201 r s.blk → r.rd = true → fld r.payload 0 1 = f → fld r.payload 1 1 = n →
    Gives (.cnvInput r) s (if n = 0 ∨ 160 < f + n ∨
    fld r.payload 2 2 ≠ 0 then s.blk.status r stBADARG else s.blk.ok r ((List.range n).flatMap fun i => inRecBytes (f + i) (s.blk.inRec (f + i))))) ∧
  (∀ (s : State) (r : Req), Called 0x0201 r s.blk → r.rd = false →
    Gives (.cnvInput r) s (if inRecOk r.payload then s.blk.journal true 0x0201 r else s.blk.status r stBADARG)) ∧
  (∀ (s : State),
    Gives .inputRecordEffect s (Block.groups ((s.blk.cnv.inPend.filter fun x => decide (x.1 ≤ s.blk.time.epoch)).foldl (fun b x => b.inApply x.2.1 x.2.2) { s.blk with cnv := { s.blk.cnv with inPend := s.blk.cnv.inPend.filter fun x => decide (s.blk.time.epoch < x.1) } }))) ∧
  (∀ (s : State) (r : Req), Called 0x0202 r s.blk → r.rd = true → Gives (.cnvSeq r) s (s.blk.ok r s.blk.cnv.seqBytes)) ∧
  (∀ (s : State) (r : Req) (p : Nat) (ss : List (Nat × List Nat)), Called 0x0202 r s.blk → r.rd = false → fld r.payload 0 2 = p →
    fld r.payload 2 2 = 0 → fld r.payload 4 4 < 2 ^ 20 → 16 ≤ p → p ≤ 368 → seqsOf r.payload = ss → r.payload.length =
    8 + 64 * ss.length → (p = s.blk.cnv.pAcc ∨ ss.length = 20) → (∀ x, x ∈ ss → s.blk.seqOk p x.1 x.2 = true) →
    Gives (.cnvSeq r) s (if s.blk.flashBusy then s.blk.status r stBUSY else Block.journal true 0x0202 r { s.blk with cnv := { s.blk.cnv with pAcc := p } })) ∧
  (∀ (s : State) (b : Block), b =
    (s.blk.cnv.seqPend.filter fun x => decide (x.1 ≤ s.blk.time.epoch)).foldl (fun b x => b.seqApply x.2.1 x.2.2) { s.blk with cnv := { s.blk.cnv with seqPend := s.blk.cnv.seqPend.filter fun x => decide (s.blk.time.epoch < x.1) } } →
    Gives .sequenceSetEffect s (if b.cnv.p = s.blk.cnv.p then b else b.distP)) ∧
  (∀ (s : State) (r : Req) (k : Nat) (p : Path) (c : Conv), Called 0x0203 r s.blk → fld r.payload 0 1 ≤ 63 →
    bits (fld r.payload 0 1) 4 0 = k → k < 20 → p = (if bitOf (fld r.payload 0 1) 5 then .b else .a) → fld r.payload 1 1 ≤ 1 →
    fld r.payload 2 2 = 0 → urgentOk (fld r.payload 4 4) = true → tget convD s.blk.cnv.convs (cix p k) = c →
    Gives (.cnvUrgent r) s (if 4 ≤ c.queue.length then s.blk.status r stBUSY else s.blk.putConv (cix p k) { c with queue := c.queue ++ [{ entry := fld r.payload 4 4, by_ := some r }] })) ∧
  (∀ (s : State) (r : Req), Called 0x0204 r s.blk → r.rd = true →
    Gives (.cnvHouse r) s (s.blk.ok r (leBytes 4 s.blk.cnv.hkInt ++ ((List.range 40).flatMap fun j => (tget convD s.blk.cnv.convs j).hkBytes (s.blk.cnv.shift != 0) (s.blk.cnv.hkInt == 0))))) ∧
  (∀ (s : State) (r : Req), Called 0x0204 r s.blk → r.rd = false → Gives (.cnvHouse r) s (if fld r.payload 0 4 = 0 ∨
    100 ≤ fld r.payload 0 4 ∧ fld r.payload 0 4 ≤ 10000 then s.blk.journal false 0x0204 r else s.blk.status r stBADARG)) ∧
  (∀ (s : State),
    Gives .houseEffect s ((s.blk.cnv.hkPend.filter fun x => decide (x.1 ≤ s.blk.time.epoch)).foldl (fun (b : Block) x => { b with cnv := { b.cnv with hkInt := x.2, hkOrg := tickE x.1, hkA := 0, hkB := 0 } }) { s.blk with cnv := { s.blk.cnv with hkPend := s.blk.cnv.hkPend.filter fun x => decide (s.blk.time.epoch < x.1) } })) ∧
  (∀ (s : State) (r : Req), Called 0x0205 r s.blk → r.rd = true →
    Gives (.cnvPlaus r) s (s.blk.ok r (leBytes 4 0xFFFFF ++ (List.range 20).flatMap fun k => (s.blk.twin k).plaus.bytes))) ∧
  (∀ (s : State) (r : Req) (rs : List (Nat × List Byte)), Called 0x0205 r s.blk → r.rd = false →
    maskRecs 4 16 20 (fld r.payload 0 4) r.payload = rs → Gives (.cnvPlaus r) s (if fld r.payload 0 4 < 2 ^ 20 ∧ r.payload.length =
    4 + 16 * rs.length ∧ (rs.all fun x => plausOk x.2) = true then s.blk.journal true 0x0205 r else s.blk.status r stBADARG)) ∧
  (∀ (s : State),
    Gives .plausEffect s ((s.blk.cnv.plPend.filter fun x => decide (x.1 ≤ s.blk.time.epoch)).foldl (fun (b : Block) x => x.2.foldl (fun (b : Block) y => b.putTwin y.1 { b.twin y.1 with plaus := y.2, count := 0 }) b) { s.blk with cnv := { s.blk.cnv with plPend := s.blk.cnv.plPend.filter fun x => decide (s.blk.time.epoch < x.1) } })) ∧
  (∀ (s : State) (r : Req), Called 0x0206 r s.blk → fld r.payload 0 1 = 0 → Gives (.cnvTwinRead r) s (if fld r.payload 1 3 =
    0 then s.blk.answer r stOK s.blk.acc.cur.epoch ((List.range 20).flatMap fun k => s.blk.twinBytes (tget twinD s.blk.acc.cur.twins k)) else s.blk.status r stBADARG)) ∧
  (∀ (s : State) (r : Req) (k : Nat), Called 0x0206 r s.blk → fld r.payload 0 1 = 1 → fld r.payload 1 1 = k → k < 20 →
    fld r.payload 2 2 = 0 →
    Gives (.cnvTwinTest r) s (if (s.blk.twin k).busy then s.blk.status r stBUSY else s.blk.putTwin k { s.blk.twin k with want := some (.test r) })) ∧
  (∀ (s : State) (r : Req) (k : Nat) (p : Path), Called 0x0206 r s.blk → fld r.payload 0 1 = 2 → fld r.payload 1 1 = k → k < 20 →
    (fld r.payload 2 1 = 0 ∧ p = .a ∧ ((s.blk.twin k).removedA = true ∨ (s.blk.twin k).bufA ≠ []) ∨ fld r.payload 2 1 = 1 ∧ p = .b ∧
    ((s.blk.twin k).removedB = true ∨ (s.blk.twin k).bufB ≠ [])) → fld r.payload 3 1 = 0 →
    Gives (.cnvTwinReturn r) s (if (s.blk.twin k).busy then s.blk.status r stBUSY else s.blk.putTwin k { s.blk.twin k with want := some (.ret r p) }))

/-- The acc. commands and the effects of their settings have their effect. Each request called while the SP runs. acc.read with HOLD
a multiple of 4, the reserved byte 0 and at most 4,096 bytes to answer returns the inputs' values of the newest generation under its
epoch, and is answered BAD_ARG otherwise (R134). acc.mm of at most 93 inputs returns their extremes, or with SWAP waits for its
epoch; otherwise it is BAD_ARG (R139). acc.freq of trackers below 40 returns them, of another BAD_ARG (R130). acc.track and acc.td
read their settings; a well-formed write goes to the journal, an ill-formed one is BAD_ARG (R130, R145). acc.tw of 1 to 64 records
takes the oldest out of the FIFO and restarts DROPS (R146). HOLD_SWAP_EFFECT answers each swap whose generation is published and
begins its hold anew; TRACK_EFFECT and TD_EFFECT put in force, in order, what is due (R139, R130, R145). Spec:
19_mailbox_interface.md, 07_accumulators.md. -/
def Obligations.AccCommandsComplete : Prop :=
  (∀ (s : State) (r : Req) (ins hs : List Nat) (m : Nat), Called 0x0301 r s.blk → maskAt r.payload 0 20 = ins → fld r.payload 20 2 =
    m → ((List.range 16).filter fun h => bitOf m h) = hs → Gives (.accRead r) s (if m % 4 ≠ 0 ∨ 1 < fld r.payload 22 1 ∨
    fld r.payload 23 1 ≠ 0 ∨
    4096 < ins.length * (20 + 8 * hs.length) then s.blk.status r stBADARG else s.blk.answer r stOK s.blk.acc.cur.epoch (ins.flatMap (s.blk.acc.cur.inBytes hs (fld r.payload 22 1 == 1))))) ∧
  (∀ (s : State) (r : Req) (ins : List Nat) (f : Nat), Called 0x0302 r s.blk → maskAt r.payload 0 20 = ins → fld r.payload 20 1 =
    f → Gives (.accMm r) s (if 3 < f ∨ fld r.payload 21 3 ≠ 0 ∨
    93 < ins.length then s.blk.status r stBADARG else if bitOf f 1 then { s.blk with acc := { s.blk.acc with swapPend := s.blk.acc.swapPend ++ [(s.blk.effS, r)] } } else s.blk.answer r stOK s.blk.acc.cur.epoch (ins.flatMap (s.blk.mmBytes (bitOf f 0))))) ∧
  (∀ (s : State),
    Gives .holdSwapEffect s ((s.blk.acc.swapPend.filter fun x => decide (x.1 ≤ s.blk.acc.cur.epoch)).foldl (fun b x => b.holdSwap x.1 x.2) { s.blk with acc := { s.blk.acc with swapPend := s.blk.acc.swapPend.filter fun x => decide (s.blk.acc.cur.epoch < x.1) } })) ∧
  (∀ (s : State) (r : Req), Called 0x0303 r s.blk →
    Gives (.accFreq r) s (if 2 ^ 40 ≤ fld r.payload 0 8 then s.blk.status r stBADARG else s.blk.answer r stOK s.blk.acc.cur.epoch ((bitList (fld r.payload 0 8) 40).flatMap s.blk.acc.cur.trackBytes))) ∧
  (∀ (s : State) (r : Req), Called 0x0304 r s.blk →
    Gives (.accTrack r) s (if r.rd then s.blk.ok r s.blk.acc.track.bytes else if trackOk r.payload then s.blk.journal true 0x0304 r else s.blk.status r stBADARG)) ∧
  (∀ (s : State),
    Gives .trackEffect s ((s.blk.acc.trackPend.filter fun x => decide (x.1 ≤ s.blk.time.epoch)).foldl (fun b x => b.trackApply x.2) { s.blk with acc := { s.blk.acc with trackPend := s.blk.acc.trackPend.filter fun x => decide (s.blk.time.epoch < x.1) } })) ∧
  (∀ (s : State) (r : Req), Called 0x0305 r s.blk → r.rd = true → Gives (.accTd r) s (s.blk.ok r s.blk.acc.td.bytes)) ∧
  (∀ (s : State) (r : Req) (rs : List (Nat × List Byte)), Called 0x0305 r s.blk → r.rd = false →
    maskRecs 52 8 160 (fld r.payload 32 20) r.payload = rs → (∀ f, f < 32 → fld r.payload f 1 ≤ 7 ∨ fld r.payload f 1 = 0xFF) →
    r.payload.length = 52 + 8 * rs.length → (∀ x, x ∈ rs → 1 ≤ fld x.2 2 1 ∧ fld x.2 2 1 ≤ 16 ∧ fld x.2 3 1 = 0 ∧ fld x.2 6 2 = 0) →
    Gives (.accTd r) s (s.blk.journal true 0x0305 r)) ∧
  (∀ (s : State) (r : Req) (f : Nat), Called 0x0305 r s.blk → r.rd = false → f < 32 → 7 < fld r.payload f 1 →
    fld r.payload f 1 ≠ 0xFF → Gives (.accTd r) s (s.blk.status r stBADARG)) ∧
  (∀ (s : State),
    Gives .tdEffect s ((s.blk.acc.tdPend.filter fun x => decide (x.1 ≤ s.blk.time.epoch)).foldl (fun b x => b.tdApply x.2) { s.blk with acc := { s.blk.acc with tdPend := s.blk.acc.tdPend.filter fun x => decide (s.blk.time.epoch < x.1) } })) ∧
  (∀ (s : State) (r : Req) (n : Nat), Called 0x0306 r s.blk → fld r.payload 0 1 = n → Gives (.accTw r) s (if n = 0 ∨ 64 < n ∨
    fld r.payload 1 3 ≠ 0 then s.blk.status r stBADARG else Block.ok r (leBytes 2 (s.blk.acc.fifo.take n).length ++ leBytes 2 (s.blk.acc.fifo.drop n).length ++ leBytes 4 s.blk.acc.drops ++ (s.blk.acc.fifo.take n).flatMap Arrival.bytes) { s.blk with acc := { s.blk.acc with fifo := s.blk.acc.fifo.drop n, drops := 0 } }))

/-- The elem. commands and the swap's and the reset's effects have their effect. Each request called while the SP runs. elem.table
write of 1 to 63 descriptors and copy of the active table change the inactive table, BUSY while a swap or a ladle holds it; read
returns the buffer's descriptors (R182). elem.curve writes a curve of 2 to 32 increasing points into the inactive table, or reads
one (R158). elem.swap of a sound inactive table goes to the journal, of another answers BAD_ARG with the index and reason, and BUSY
during a swap (R183). ELEMENT_SWAP_EFFECT at its tick exchanges the tables (R184). elem.read of 1 to 512 states returns those
published, under their epoch (R185). elem.reset of a range names its tick, and LATCH_CLEAR_EFFECT at that tick clears the latches of
its range (R186). Fields out of range are answered BAD_ARG. Spec: 19_mailbox_interface.md, 08_protection_elements.md. -/
def Obligations.ElementCommandsComplete : Prop :=
  (∀ (s : State) (r : Req) (f n : Nat), Called 0x0401 r s.blk → fld r.payload 0 1 = 0 → fld r.payload 1 1 = 0 → fld r.payload 2 2 =
    f → fld r.payload 4 2 = n → fld r.payload 6 2 = 0 → 1 ≤ n → n ≤ 63 → f + n ≤ 4096 → r.payload.length = 8 + 64 * n →
    Gives (.elemTableWrite r) s (if (s.blk.swapBusy || s.blk.ladleOn 2) =
    true then s.blk.status r stBUSY else Block.status r stOK { s.blk with elm := { s.blk.elm with inactive := { s.blk.elm.inactive with descs := tsetRun descD s.blk.elm.inactive.descs f ((List.range n).map fun i => cut r.payload (8 + 64 * i) 64) } } })) ∧
  (∀ (s : State) (r : Req), Called 0x0401 r s.blk → fld r.payload 0 1 = 1 → fld r.payload 1 1 = 0 → fld r.payload 2 2 ≤ 4095 →
    fld r.payload 4 2 = 0 → fld r.payload 6 2 = 0 → r.payload.length = 8 →
    Gives (.elemTableCopy r) s (if (s.blk.swapBusy || s.blk.ladleOn 2) =
    true then s.blk.status r stBUSY else Block.status r stOK { s.blk with elm := { s.blk.elm with inactive := s.blk.elm.active } })) ∧
  (∀ (s : State) (r : Req) (u f n : Nat) (t : TableBuf), Called 0x0401 r s.blk → fld r.payload 0 1 = 2 → fld r.payload 1 1 = u →
    u ≤ 1 → t = (if u = 0 then s.blk.elm.active else s.blk.elm.inactive) → fld r.payload 2 2 = f → fld r.payload 4 2 = n →
    fld r.payload 6 2 = 0 → 1 ≤ n → n ≤ 63 → f + n ≤ 4096 → r.payload.length = 8 →
    Gives (.elemTableRead r) s (s.blk.ok r ((List.range n).flatMap fun i => tget descD t.descs (f + i)))) ∧
  (∀ (s : State) (r : Req) (i : Instr), (fld r.payload 0 1 = 0 ∧ i = .elemTableWrite r ∨ fld r.payload 0 1 = 2 ∧ i =
    .elemTableRead r) → Called 0x0401 r s.blk → (fld r.payload 4 2 = 0 ∨ 63 < fld r.payload 4 2 ∨
    4096 < fld r.payload 2 2 + fld r.payload 4 2) → Gives i s (s.blk.status r stBADARG)) ∧
  (∀ (s : State) (r : Req) (i u : Nat), Called 0x0402 r s.blk → r.payload.length = 264 → fld r.payload 0 1 = i → i ≤ 7 →
    fld r.payload 1 1 = 2 → fld r.payload 2 1 = u → u ≤ 1 → allZero (r.payload.drop 3) = true →
    Gives (.elemCurve r) s (s.blk.ok r ((tget curveD (if u =
    0 then s.blk.elm.active.curves else s.blk.elm.inactive.curves) i).bytes i 2 u))) ∧
  (∀ (s : State) (r : Req) (i : Nat) (c : Curve), Called 0x0402 r s.blk → r.payload.length = 264 → fld r.payload 0 1 = i → i ≤ 7 →
    fld r.payload 1 1 = 0 → fld r.payload 2 1 = 0 → curveIn r.payload = c → 2 ≤ c.npts → c.npts ≤ 32 → realNonneg c.tr = true →
    ptsOk c.pts = true → allZero (r.payload.drop (8 + 8 * c.npts)) = true →
    Gives (.elemCurve r) s (if s.blk.swapBusy then s.blk.status r stBUSY else Block.status r stOK { s.blk with elm := { s.blk.elm with inactive := { s.blk.elm.inactive with curves := tset curveD s.blk.elm.inactive.curves i c } } })) ∧
  (∀ (s : State) (r : Req), Called 0x0403 r s.blk →
    Gives (.elemSwap r) s (if 1 < fld r.payload 0 4 then s.blk.status r stBADARG else if s.blk.swapBusy then s.blk.status r stBUSY else match s.blk.tableFail with | some (i, w) => s.blk.answer r stBADARG s.blk.time.epoch (leBytes 2 i ++ leBytes 2 w) | none => s.blk.journal true 0x0403 r)) ∧
  (∀ (s : State) (t : Nat) (k : Bool), s.blk.elm.swap = some (t, k) → t ≤ s.blk.time.epoch →
    Does .elementSwapEffect s fun b => b.elm.active = s.blk.elm.inactive ∧ b.elm.inactive = s.blk.elm.active ∧ b.elm.swap = none ∧
    b.elm.bad = []) ∧
  (∀ (s : State) (r : Req) (f n : Nat), Called 0x0404 r s.blk → fld r.payload 0 2 = f → fld r.payload 2 2 = n →
    Gives (.elemRead r) s (if n = 0 ∨ 512 < n ∨ 4096 < f + n ∨
    fld r.payload 4 4 ≠ 0 then s.blk.status r stBADARG else s.blk.answer r stOK s.blk.elm.pubEpoch ((List.range n).flatMap fun i => (tget elStD s.blk.elm.pub (f + i)).bytes))) ∧
  (∀ (s : State) (r : Req) (f n : Nat), Called 0x0405 r s.blk → fld r.payload 0 2 = f → fld r.payload 2 2 = n →
    Gives (.elemReset r) s (if n = 0 ∨ 4096 < n ∨
    4096 < f + n then s.blk.status r stBADARG else Block.answer r stOK s.blk.effS [] { s.blk with elm := { s.blk.elm with resets := s.blk.elm.resets ++ [(s.blk.effS, f, n)] } })) ∧
  (∀ (s : State) (t f n : Nat), s.blk.elm.resets = [(t, f, n)] → t ≤ s.blk.time.epoch →
    Does .latchClearEffect s fun b => b.elm.resets = [] ∧ b.elm.states =
    tmap elStD s.blk.elm.states fun i x => if x.latched && decide (f ≤ i ∧
    i < f + n) then { x with latched := false, operate := x.own, drives := 0, off := false } else x)

/-- The cyc. and img. commands and an image's takeover have their effect. Each request called while the SP runs. cyc.load of a
staged image whose CRC, container, code and checks pass loads it, and its read says so; BUSY while a ladle writes it (R446).
cyc.activate of loaded images alone, within the timers that class 1 has, goes to the journal (R447). IMAGE_TAKEOVER of a running
slot between its cycles, at an aligned boundary from its epoch on, once P(E) has come, takes the new image (R221). cyc.restart of a
stopped slot, not damaged or COLD, starts it on its own pair, the spare or the pair named, or is NOT_READY without one; of a running
slot it enables the tasks named and restarts their counts (R230, R292). cyc.service enter of a lidded or running slot with a spare
and no activation starts the planned takeover, and otherwise is NOT_READY; exit of a pair in SERVICE or HALTED tests it for the
spare role (R237, R238). cyc.state, img.read and img.station return their records, the output half being the one published (R24,
R239, R312, R313). Spec: 19_mailbox_interface.md, 11_cyclic_execution.md, 14_process_image_remote_io.md. -/
def Obligations.CycAndImgCommandsComplete : Prop :=
  (∀ (s : State) (r : Req) (n : Nat) (p : List Byte) (i : FjImg), Called 0x0501 r s.blk → fld r.payload 0 1 ≤ 7 →
    fld r.payload 1 1 = 0 → fld r.payload 2 2 = 0 → fld r.payload 4 4 = n → n ≤ imgMax →
    memRead (s.blk.slot (fld r.payload 0 1)).stage 0 n = p → crc32 p = fld r.payload 8 4 → Config.fjImage p = some i →
    i.code ≤ codeMax → s.blk.imgReason i = none →
    Gives (.cycLoadCheck r) s (if s.blk.ladleOn (0x10 + fld r.payload 0 1) then s.blk.status r stBUSY else (s.blk.putSlot (fld r.payload 0 1) { s.blk.slot (fld r.payload 0 1) with loaded := some ({ i with bytes := p }, n) }).status r stOK)) ∧
  (∀ (s : State) (r : Req), Called 0x0501 r s.blk → fld r.payload 1 1 = 0 → 7 < fld r.payload 0 1 →
    Gives (.cycLoadCheck r) s (s.blk.status r stBADARG)) ∧
  (∀ (s : State) (r : Req), Called 0x0501 r s.blk → fld r.payload 0 1 ≤ 7 → fld r.payload 1 1 = 2 → fld r.payload 2 2 = 0 →
    Gives (.cycLoadRead r) s (s.blk.ok r (match (s.blk.slot (fld r.payload 0 1)).loaded with | some x => leBytes 4 1 ++ leBytes 4 x.2 | none => zeros 8))) ∧
  (∀ (s : State) (r : Req) (n : Nat) (x : FjImg × Nat), Called 0x0502 r s.blk → n < 8 → fld r.payload 0 1 = 2 ^ n →
    allZero (r.payload.drop 1) = true → (s.blk.slot n).loaded = some x → (∀ k, k < 8 → (s.blk.slot k).acting = none ∧
    (s.blk.slot k).next = none ∧ (s.blk.slot k).img = none) → x.1.timers.length ≤ clsQuota 1 → s.blk.flashBusy = false →
    Gives (.cycActivate r) s ((s.blk.putSlot n { s.blk.slot n with acting := some x.1, loaded := none }).journal true 0x0502 r)) ∧
  (∀ (s : State) (r : Req) (n : Nat), Called 0x0502 r s.blk → n ∈ bitList (fld r.payload 0 1) 8 → (s.blk.slot n).loaded = none →
    Gives (.cycActivate r) s (s.blk.status r stBADARG)) ∧
  (∀ (s : State) (n q : Nat) (i o : FjImg), (s.blk.slot n).next = some (q, i) → (s.blk.slot n).img = some o →
    (s.blk.slot n).running = true → (s.blk.slot n).cyc = none → (s.blk.slot n).redo = none → q ≤ s.blk.time.epoch →
    s.blk.time.epoch % o.n = 0 → s.blk.elm.pubEpoch = s.blk.time.epoch → Gives (.imageTakeover n) s (s.blk.takeImage n i false)) ∧
  (∀ (s : State) (r : Req) (n : Nat), Called 0x0503 r s.blk → fld r.payload 0 1 = n → n ≤ 7 → fld r.payload 1 1 ≤ 3 →
    fld r.payload 2 2 = 0 → fld r.payload 4 1 = 255 → fld r.payload 5 3 = 0 → ((s.blk.slot n).state = .kettle ∨
    (s.blk.slot n).state = .faulted) → ((s.blk.slot n).damaged = false ∨ fld r.payload 1 1 % 2 = 1) →
    Gives (.cycRestart r) s (match (match s.blk.ownPair n with | some q => some q | none => s.blk.spare) with | some q => (s.blk.restart n q (bitOf (fld r.payload 1 1) 0) (bitOf (fld r.payload 1 1) 1)).answer r stOK (s.blk.restartEpoch n) [] | none => s.blk.status r stNOTREADY)) ∧
  (∀ (s : State) (r : Req) (n q : Nat), Called 0x0503 r s.blk → fld r.payload 0 1 = n → n ≤ 7 → fld r.payload 1 1 ≤ 3 →
    fld r.payload 2 2 = 0 → fld r.payload 4 1 = q → q ≤ 8 → fld r.payload 5 3 = 0 → ((s.blk.slot n).state = .kettle ∨
    (s.blk.slot n).state = .faulted) → ((s.blk.slot n).damaged = false ∨ fld r.payload 1 1 % 2 = 1) →
    Gives (.cycRestart r) s (if s.blk.ownPair n = some q ∨ (s.blk.pair q).state =
    .spare then (s.blk.restart n q (bitOf (fld r.payload 1 1) 0) (bitOf (fld r.payload 1 1) 1)).answer r stOK (s.blk.restartEpoch n) [] else s.blk.status r stNOTREADY)) ∧
  (∀ (s : State) (r : Req) (n k : Nat), Called 0x0503 r s.blk → fld r.payload 0 1 = n → n ≤ 7 → fld r.payload 1 1 ≤ 3 →
    fld r.payload 2 2 = k → k ≠ 0 → (fld r.payload 4 1 ≤ 8 ∨ fld r.payload 4 1 = 255) → fld r.payload 5 3 = 0 →
    (s.blk.slot n).running = true → Does (.cycRestart r) s fun b => (b.slot n).ctxs =
    tupdAll ctxD (s.blk.slot n).ctxs (List.range 16) fun t c => if bitOf k t then { c with lidOut := c.lidOut || c.faultDis, faultDis := false, tdis := false, faults := 0 } else c) ∧
  (∀ (s : State) (r : Req) (n : Nat), Called 0x0504 r s.blk → fld r.payload 0 1 = 0 → fld r.payload 1 1 = n → n ≤ 7 →
    fld r.payload 2 2 = 0 → s.blk.nv.stg.req = none →
    Gives (.cycServiceEnter r) s (match s.blk.spare with | some q => if (s.blk.slot n).pair.isSome = true ∧ ((s.blk.slot n).state = .lidded ∨ (s.blk.slot n).state = .run) ∧ (s.blk.slot n).takeover = none then s.blk.takeoverStart n q 0 (some r) else s.blk.status r stNOTREADY | none => s.blk.status r stNOTREADY)) ∧
  (∀ (s : State) (r : Req) (p : Nat), Called 0x0504 r s.blk → fld r.payload 0 1 = 1 → fld r.payload 1 1 = p → p ≤ 8 →
    fld r.payload 2 2 = 0 → ((s.blk.pair p).state = .service ∨ (s.blk.pair p).state = .halted) →
    Does (.cycServiceExit r) s fun b => b.pair p =
    { s.blk.pair p with state := .testing, planned := true, back := .spare, exitReq := some r, hreq := none, slot := none, bps := [] } ∧
    b.slot (8 + p) = {}) ∧
  (∀ (s : State) (r : Req) (p : Nat), Called 0x0504 r s.blk → fld r.payload 0 1 = 1 → fld r.payload 1 1 = p → p ≤ 8 →
    fld r.payload 2 2 = 0 → (s.blk.pair p).state ≠ .service → (s.blk.pair p).state ≠ .halted →
    Gives (.cycServiceExit r) s (s.blk.status r stNOTREADY)) ∧
  (∀ (s : State) (r : Req), Called 0x0505 r s.blk →
    Gives (.cycState r) s (if allZero r.payload then s.blk.answer r stOK s.blk.pin s.blk.cycBytes else s.blk.status r stBADARG)) ∧
  (∀ (s : State) (r : Req) (k n f h : Nat) (y : Slot), Called 0x0601 r s.blk → fld r.payload 0 1 = k → k ≤ 7 → s.blk.slot k = y →
    fld r.payload 1 1 = h → h ≤ 1 → fld r.payload 2 2 = f → fld r.payload 4 2 = n → fld r.payload 6 2 = 0 → 1 ≤ n → n ≤ 1021 →
    f + n ≤ 16384 → Gives (.imgRead r) s (if y.state =
    .empty then s.blk.status r stNOTREADY else s.blk.answer r stOK s.blk.pin (leBytes 8 (if h =
    0 then y.inTag else y.pubTag) ++ leBytes 1 y.state.code ++ zeros 3 ++ ((tgetRun wzD (if h =
    0 then y.inHalf else y.pubLast) f n).flatMap fun w => leBytes 4 w.toNat)))) ∧
  (∀ (s : State) (r : Req), Called 0x0601 r s.blk → (7 < fld r.payload 0 1 ∨ 1 < fld r.payload 1 1 ∨ fld r.payload 4 2 = 0 ∨
    1021 < fld r.payload 4 2 ∨ 16384 < fld r.payload 2 2 + fld r.payload 4 2 ∨ fld r.payload 6 2 ≠ 0) →
    Gives (.imgRead r) s (s.blk.status r stBADARG)) ∧
  (∀ (s : State) (r : Req) (f n : Nat), Called 0x0602 r s.blk → fld r.payload 0 1 = f → fld r.payload 1 1 = n → fld r.payload 2 1 =
    0 → fld r.payload 3 1 = 0 → 1 ≤ n → n ≤ 64 → f + n ≤ 256 →
    Gives (.imgStation r) s (s.blk.ok r ((List.range n).flatMap fun i => s.blk.stnRec (f + i)))) ∧
  (∀ (s : State) (r : Req) (f n : Nat), Called 0x0602 r s.blk → fld r.payload 0 1 = f → fld r.payload 1 1 = n → fld r.payload 2 1 =
    1 → fld r.payload 3 1 = 0 → 1 ≤ n → n ≤ 64 → f + n ≤ 256 →
    Gives (.imgStation r) s (if s.blk.authOf r.client < 2 then s.blk.status r stNOAUTH else (List.range n).foldl (fun b i => b.putStn (f + i) fun x => { x with dropsR := 0, bad := 0 }) (s.blk.ok r ((List.range n).flatMap fun i => s.blk.stnRec (f + i)))))

/-- The io. and time. commands and the effects of their settings have their effect. Each request called while the SP runs. io.cfg
and time.cfg read what is in force where the reserved fields are 0; a well-formed write goes to the journal, io.cfg's NOT_READY
where it changes the safe state or the input mode of an output whose slot has not left the lid; an ill-formed one is BAD_ARG (R342,
R370). IO_CFG_EFFECT and TIME_CFG_EFFECT put in force, in order, what is due; the latter chooses the master again (R342, R352,
R370). io.read returns the latched set under its epoch, io.edges takes 1 to 64 of the oldest edges and restarts DROPS (R341, R343).
time.read returns the time now, or at a tick still kept (R369). time.set is refused with CONFLICT while a port is SLAVE unless
FORCE, and otherwise names its tick; TIME_SET_EFFECT steps the counter there (R352, R371). time.ptp returns four records and clears
their timeout flags (R372). Spec: 19_mailbox_interface.md, 15_field_io_barrier.md, 16_network_time.md. -/
def Obligations.IoAndTimeMailboxCommandsComplete : Prop :=
  (∀ (s : State) (r : Req), Called 0x0701 r s.blk → fld r.payload 0 1 = 2 →
    Gives (.ioCfg r) s (if fldCfgRsv r.payload then s.blk.ok r s.blk.bar.cfg.bytes else s.blk.status r stBADARG)) ∧
  (∀ (s : State) (r : Req), Called 0x0701 r s.blk → fld r.payload 0 1 = 0 → fldCfgOk r.payload = true → (∀ j, j < 32 →
    (bitOf (fldCfgOf r.payload).safe j = bitOf s.blk.bar.cfg.safe j ∧ (j < 24 ∨ bitOf (fldCfgOf r.payload).rbIn (j - 24) =
    bitOf s.blk.bar.cfg.rbIn (j - 24)) ∨ ∀ n, s.blk.ownerOf j = some n → (s.blk.slot n).free = true)) →
    Gives (.ioCfg r) s (s.blk.journal true 0x0701 r)) ∧
  (∀ (s : State) (r : Req) (j n : Nat), Called 0x0701 r s.blk → fld r.payload 0 1 = 0 → fldCfgOk r.payload = true → j < 32 →
    (bitOf (fldCfgOf r.payload).safe j ≠ bitOf s.blk.bar.cfg.safe j ∨ 24 ≤ j ∧
    bitOf (fldCfgOf r.payload).rbIn (j - 24) ≠ bitOf s.blk.bar.cfg.rbIn (j - 24)) → s.blk.ownerOf j = some n → (s.blk.slot n).free =
    false → Gives (.ioCfg r) s (s.blk.status r stNOTREADY)) ∧
  (∀ (s : State) (r : Req), Called 0x0701 r s.blk → fld r.payload 0 1 ≠ 2 → (fld r.payload 0 1 ≠ 0 ∨ fldCfgOk r.payload = false) →
    Gives (.ioCfg r) s (s.blk.status r stBADARG)) ∧
  (∀ (s : State) (t : Nat) (c : FldCfg), s.blk.bar.cfgPend = [(t, c)] → t ≤ s.blk.time.epoch →
    Does .ioCfgEffect s fun b => b.bar.cfg = c ∧ b.bar.cfgPend = []) ∧
  (∀ (s : State) (r : Req), Called 0x0702 r s.blk → Gives (.ioRead r) s (if fld r.payload 0 4 =
    0 then s.blk.answer r stOK s.blk.bar.set.epoch s.blk.bar.set.bytes else s.blk.status r stBADARG)) ∧
  (∀ (s : State) (r : Req) (n : Nat), Called 0x0703 r s.blk → fld r.payload 0 1 = n → Gives (.ioEdges r) s (if n = 0 ∨ 64 < n ∨
    fld r.payload 1 3 ≠ 0 then s.blk.status r stBADARG else Block.ok r (leBytes 2 (s.blk.bar.log.take n).length ++ leBytes 2 (s.blk.bar.log.drop n).length ++ leBytes 4 s.blk.bar.edgesDrop ++ (s.blk.bar.log.take n).flatMap Edge.bytes) { s.blk with bar := { s.blk.bar with log := s.blk.bar.log.drop n, edgesDrop := 0 } })) ∧
  (∀ (s : State) (r : Req), Called 0x0801 r s.blk → fld r.payload 0 1 = 0 → Gives (.timeReadNow r) s (if fld r.payload 1 3 =
    0 then s.blk.ok r (s.blk.timeReadBytes s.blk.stamp s.blk.time.epoch) else s.blk.status r stBADARG)) ∧
  (∀ (s : State) (r : Req) (e : Nat) (t : Stamp), Called 0x0801 r s.blk → fld r.payload 0 1 = 1 → fld r.payload 1 3 = 0 →
    fld r.payload 4 8 = e → e ≤ s.blk.time.epoch → s.blk.time.epoch ≤ e + 65536 → s.blk.time.tickStamp e = some t →
    Gives (.timeReadTick r) s (s.blk.ok r (s.blk.timeReadBytes t e))) ∧
  (∀ (s : State) (r : Req) (e : Nat), Called 0x0801 r s.blk → fld r.payload 0 1 = 1 → fld r.payload 4 8 = e →
    (fld r.payload 1 3 ≠ 0 ∨ s.blk.time.epoch < e ∨ e + 65536 < s.blk.time.epoch) →
    Gives (.timeReadTick r) s (s.blk.status r stBADARG)) ∧
  (∀ (s : State) (r : Req), Called 0x0802 r s.blk → Gives (.timeCfg r) s (if fld r.payload 0 1 =
    2 then (if timeCfgRsv r.payload then s.blk.ok r (timeCfgBytes s.blk.time.cfg) else s.blk.status r stBADARG) else if timeCfgOk r.payload then s.blk.journal false 0x0802 r else s.blk.status r stBADARG)) ∧
  (∀ (s : State), (s.blk.time.cfgPend.any fun x => decide (x.1 ≤ s.blk.time.epoch)) = true →
    Gives .timeCfgEffect s (Block.bmca ((s.blk.time.cfgPend.filter fun x => decide (x.1 ≤ s.blk.time.epoch)).foldl (fun b x => b.timeCfgApply x.2) { s.blk with time := { s.blk.time with cfgPend := s.blk.time.cfgPend.filter fun x => decide (s.blk.time.epoch < x.1) } }))) ∧
  (∀ (s : State) (r : Req) (v : Int), Called 0x0803 r s.blk → fld r.payload 0 1 ≤ 1 → fld r.payload 1 1 ≤ 1 → fld r.payload 2 2 =
    0 → v = (if fld r.payload 0 1 = 0 then fldInt r.payload 4 8 else (fld r.payload 4 8 : Int)) →
    Gives (.timeSet r) s (if s.blk.time.slave.isSome = true ∧ fld r.payload 1 1 =
    0 then s.blk.status r stCONFLICT else Block.answer r stOK s.blk.effS [] { s.blk with time := { s.blk.time with setPend := s.blk.time.setPend ++ [(s.blk.effS, fld r.payload 0 1 == 1, v)] } })) ∧
  (∀ (s : State),
    Gives .timeSetEffect s ((s.blk.time.setPend.filter fun x => decide (x.1 ≤ s.blk.time.epoch)).foldl (fun b x => b.stepTo x.2.1 x.2.2 255) { s.blk with time := { s.blk.time with setPend := s.blk.time.setPend.filter fun x => decide (s.blk.time.epoch < x.1) } })) ∧
  (∀ (s : State) (r : Req), Called 0x0804 r s.blk → allZero r.payload = true → ∃ out : List Byte, out.length = 64 ∧
    Gives (.timePtp r) s (Block.ok r out { s.blk with time := { s.blk.time with ports := tupdAll ptpD s.blk.time.ports (List.range 4) fun _ p => { p with annTo := false } } }))

/-- The net. and fab. commands and the effects of their settings have their effect. Each request called while the SP runs. net.cfg,
fab.cfg, fab.sig, fab.tw and fab.access read what is in force where the reserved fields are 0; a well-formed write goes to the
journal and an ill-formed one is BAD_ARG (R392, R412, R413, R420, R422). NET_CFG_EFFECT, FAB_CFG_EFFECT and FAB_TW_EFFECT put in
force what is due, a logical port that goes down taking its neighbours down (R392, R401, R413, R422). net.stat and fab.stat return
their counters and, by OP 1 from authority 2, restart them (R393, R424). fab.route write and unpin of fields in range go to the
journal, read returns both tables; fab.invalidate drops the sieve entries it names (R408). fab.nbr returns the neighbours from FIRST
on; fab.twloc takes 1 to 64 of the oldest locations (R415, R423). fab.whisk of good fields: late is LATE, with the comparator armed
otherwise it is CONFLICT, else it arms here and sends (R361, R416). fab.call of a good inner message goes by the session it has,
waits for one that opens, or opens one (R419). Spec: 19_mailbox_interface.md, 17_ethernet_ports.md, 18_morzor_fabric.md. -/
def Obligations.NetAndFabMailboxCommandsComplete : Prop :=
  (∀ (s : State) (r : Req), Called 0x0901 r s.blk → Gives (.netCfg r) s (if fld r.payload 0 1 =
    2 then (if netCfgRsv r.payload then s.blk.ok r (netCfgBytes s.blk.net.cfg) else s.blk.status r stBADARG) else if netCfgOk r.payload then s.blk.journal false 0x0901 r else s.blk.status r stBADARG)) ∧
  (∀ (s : State),
    Gives .netCfgEffect s (((List.range 4).filter fun l => s.blk.lport l && s.blk.lportUp l).foldl (fun b l => b.lportDown l) s.blk.netCfgEffect)) ∧
  (∀ (s : State) (r : Req) (op : Nat) (b : Block), Called 0x0902 r s.blk → fld r.payload 0 1 = op → op ≤ 1 →
    allZero (cut r.payload 1 3) = true → b = s.blk.ok r ((List.range 4).flatMap s.blk.netRec) → Gives (.netStat r) s (if op =
    0 then b else if s.blk.authOf r.client < 2 then s.blk.status r stNOAUTH else (List.range 4).foldl (fun b p => b.putPort p fun x => { x with ctrs := [] }) b)) ∧
  (∀ (s : State) (r : Req), Called 0x0A01 r s.blk → Gives (.fabCfg r) s (if fld r.payload 0 1 =
    2 then (if fabCfgRsv r.payload then s.blk.ok r (fabCfgBytes s.blk.fab.cfg) else s.blk.status r stBADARG) else if fld r.payload 0 1 =
    0 ∧ fabCfgOk r.payload = true then s.blk.journal false 0x0A01 r else s.blk.status r stBADARG)) ∧
  (∀ (s : State),
    Gives .fabCfgEffect s ((s.blk.fab.cfgPend.filter fun x => decide (x.1 ≤ s.blk.time.epoch)).foldl (fun b x => b.fabApply x.2) { s.blk with fab := { s.blk.fab with cfgPend := s.blk.fab.cfgPend.filter fun x => decide (s.blk.time.epoch < x.1) } })) ∧
  (∀ (s : State) (r : Req), Called 0x0A02 r s.blk → fld r.payload 0 1 = 0 → Gives (.fabRouteWrite r) s (if fld r.payload 1 1 ≤ 3 ∧
    fld r.payload 3 1 ≤ 3 ∧ fld r.payload 6 1 ≤ 14 ∧ fld r.payload 7 1 =
    0 then s.blk.journal false 0x0A02 r else s.blk.status r stBADARG)) ∧
  (∀ (s : State) (r : Req), Called 0x0A02 r s.blk → fld r.payload 0 1 = 1 → Gives (.fabRouteUnpin r) s (if fld r.payload 1 1 ≤ 3 ∧
    fld r.payload 7 1 = 0 then s.blk.journal false 0x0A02 r else s.blk.status r stBADARG)) ∧
  (∀ (s : State) (r : Req), Called 0x0A02 r s.blk → fld r.payload 0 1 = 2 → Gives (.fabRouteRead r) s (if fld r.payload 1 1 ≤ 3 ∧
    fld r.payload 7 1 =
    0 then s.blk.ok r (((List.range 256).flatMap fun i => (tget routeEntD s.blk.fab.zone i).bytes) ++ ((List.range 256).flatMap fun i => (tget routeEntD s.blk.fab.node i).bytes)) else s.blk.status r stBADARG)) ∧
  (∀ (s : State) (r : Req) (m : Nat), Called 0x0A03 r s.blk → fld r.payload 0 1 = m → Gives (.fabInvalidate r) s (if m ≤ 2 ∧
    fld r.payload 1 1 =
    0 then Block.ok r [] (s.blk.unsieve fun e => m == 0 || (m == 1 && e.dst / 256 == fld r.payload 2 2 / 256) || (m == 2 && e.dst == fld r.payload 2 2)) else s.blk.status r stBADARG)) ∧
  (∀ (s : State) (r : Req), Called 0x0A04 r s.blk → fld r.payload 0 2 ≤ 255 → 1 ≤ fld r.payload 2 2 → fld r.payload 2 2 ≤ 255 →
    ∃ p : List Byte, p.take 6 =
    leBytes 2 ((s.blk.fab.nbrs.drop (fld r.payload 0 2)).take (fld r.payload 2 2)).length ++ leBytes 2 s.blk.fab.nbrs.length ++ leBytes 2 s.blk.fab.pendq.length ∧
    Gives (.fabNbr r) s (s.blk.ok r p)) ∧
  (∀ (s : State) (r : Req) (op : Nat) (b : Block), Called 0x0A05 r s.blk → fld r.payload 0 1 = op → op ≤ 1 →
    allZero (cut r.payload 1 3) = true → b = s.blk.ok r ((List.range 5).flatMap s.blk.fabRec) → Gives (.fabStat r) s (if op =
    0 then b else if s.blk.authOf r.client < 2 then s.blk.status r stNOAUTH else { b with fab := { b.fab with ctrs := [] } })) ∧
  (∀ (s : State) (r : Req), Called 0x0A06 r s.blk → fld r.payload 0 1 = 2 → allZero (cut r.payload 1 3) = true →
    Gives (.fabSig r) s (if sigRsv r.payload then s.blk.ok r (leBytes 1 2 ++ zeros 3 ++ (List.range 128).flatMap fun i => leBytes 2 (tget sigD s.blk.sigs i).dst ++ leBytes 1 (tget sigD s.blk.sigs i).flags ++ zeros 1) else s.blk.status r stBADARG)) ∧
  (∀ (s : State) (r : Req), Called 0x0A06 r s.blk → fld r.payload 0 1 = 0 → allZero (cut r.payload 1 3) = true → (∀ i, i < 128 →
    fld r.payload (6 + 4 * i) 1 ≤ 15 ∧ fld r.payload (7 + 4 * i) 1 = 0 ∧ (bitOf (fld r.payload (6 + 4 * i) 1) 1 = false ∨
    bitOf (fld r.payload (6 + 4 * i) 1) 2 = false) ∧ (bitOf (fld r.payload (6 + 4 * i) 1) 3 = true →
    bitOf (fld r.payload (6 + 4 * i) 1) 1 = true ∨ bitOf (fld r.payload (6 + 4 * i) 1) 2 = true)) →
    Gives (.fabSig r) s (s.blk.journal false 0x0A06 r)) ∧
  (∀ (s : State) (r : Req), Called 0x0A07 r s.blk → fld r.payload 0 1 = 2 → allZero (cut r.payload 1 3) = true →
    Gives (.fabTw r) s (if twRsv r.payload then s.blk.ok r (leBytes 1 2 ++ zeros 3 ++ (List.range 32).flatMap fun i => (tget twD s.blk.fab.tw i).bytes) else s.blk.status r stBADARG)) ∧
  (∀ (s : State) (r : Req), Called 0x0A07 r s.blk → fld r.payload 0 1 = 0 → allZero (cut r.payload 1 3) = true → (∀ i, i < 32 →
    twCfgOk (cut r.payload (4 + 16 * i) 16) = true) → Gives (.fabTw r) s (s.blk.journal false 0x0A07 r)) ∧
  (∀ (s : State) (r : Req) (i : Nat), Called 0x0A07 r s.blk → fld r.payload 0 1 = 0 → i < 32 →
    twCfgOk (cut r.payload (4 + 16 * i) 16) = false → Gives (.fabTw r) s (s.blk.status r stBADARG)) ∧
  (∀ (s : State) (t : Nat) (x : Tab TwCfg), s.blk.fab.twPend = [(t, x)] → t ≤ s.blk.time.epoch →
    Does .fabTwEffect s fun b => b.fab.tw = x ∧ b.fab.twPend = [] ∧ b.fab.unpaired =
    s.blk.fab.unpaired.filter fun w => tget twD s.blk.fab.tw w.group == tget twD x w.group) ∧
  (∀ (s : State) (r : Req) (n : Nat), Called 0x0A08 r s.blk → fld r.payload 0 1 = n → 1 ≤ n → n ≤ 64 → allZero (cut r.payload 1 3) =
    true →
    Gives (.fabTwloc r) s (Block.ok r (leBytes 2 (s.blk.fab.locs.take n).length ++ leBytes 2 (s.blk.fab.locs.drop n).length ++ leBytes 4 s.blk.fab.twDrops ++ (s.blk.fab.locs.take n).flatMap TwLoc.bytes) { s.blk with fab := { s.blk.fab with locs := s.blk.fab.locs.drop n, twDrops := 0 } })) ∧
  (∀ (s : State) (r : Req) (w n f : Nat), Called 0x0A09 r s.blk → fld r.payload 0 8 = w → fld r.payload 10 1 = f → f ≤ 7 →
    (bitOf f 0 = false ∨ bitOf f 1 = false) → (bitOf f 2 = true → bitOf f 0 = true ∨ bitOf f 1 = true) → fld r.payload 11 1 = 0 →
    fld r.payload 12 2 = n → 1 ≤ n → n ≤ 1000 → fld r.payload 14 2 = 0 → dist64 s.blk.ns64 w < 0 → (∀ a, s.blk.snap.arm = some a →
    a.at_ = w ∧ a.source ≠ 2) →
    Gives (.fabWhisk r) s (Block.fabSend 3 (fld r.payload 8 2) (bitOf f 0) (bitOf f 1) (bitOf f 2) false (.bytes (leBytes 8 w)) { s.blk with snap := { s.blk.snap with arm := some (s.blk.snap.arm.getD { at_ := w, source := 3, armedAt := s.blk.ns64 }) }, fab := { s.blk.fab with whisks := s.blk.fab.whisks ++ [{ req := r, w := w, epoch := s.blk.time.epoch, dueAt := s.blk.now + n * msE }] } })) ∧
  (∀ (s : State) (r : Req) (w f : Nat), Called 0x0A09 r s.blk → fld r.payload 0 8 = w → fld r.payload 10 1 = f → f ≤ 7 →
    (bitOf f 0 = false ∨ bitOf f 1 = false) → (bitOf f 2 = true → bitOf f 0 = true ∨ bitOf f 1 = true) → fld r.payload 11 1 = 0 →
    1 ≤ fld r.payload 12 2 → fld r.payload 12 2 ≤ 1000 → fld r.payload 14 2 = 0 → 0 ≤ dist64 s.blk.ns64 w →
    Gives (.fabWhisk r) s (s.blk.status r stLATE)) ∧
  (∀ (s : State) (r : Req) (w f : Nat) (a : WArm), Called 0x0A09 r s.blk → fld r.payload 0 8 = w → fld r.payload 10 1 = f → f ≤ 7 →
    (bitOf f 0 = false ∨ bitOf f 1 = false) → (bitOf f 2 = true → bitOf f 0 = true ∨ bitOf f 1 = true) → fld r.payload 11 1 = 0 →
    1 ≤ fld r.payload 12 2 → fld r.payload 12 2 ≤ 1000 → fld r.payload 14 2 = 0 → dist64 s.blk.ns64 w < 0 → s.blk.snap.arm =
    some a → (a.at_ ≠ w ∨ a.source = 2) → Gives (.fabWhisk r) s (s.blk.status r stCONFLICT)) ∧
  (∀ (s : State) (r : Req) (t : Nat) (i : List Byte) (c : Call), Called 0x0A0A r s.blk → fld r.payload 2 2 = t → 10 ≤ t →
    t ≤ 10000 → r.payload.drop 4 = i → 16 ≤ i.length → i.length ≤ 4092 → fld i 10 2 + 16 = i.length → fld i 2 2 ≠ 0x0A0A → c =
    { req := r, target := fld r.payload 0 2, level := s.blk.authOf r.client, dueAt := s.blk.now + t * msE, inner := i } →
    Gives (.fabCall r) s (match s.blk.fab.outs.find? (fun o => o.target == c.target && o.level == c.level) with | some o => Block.callSend c o.client { s.blk with fab := { s.blk.fab with calls := s.blk.fab.calls ++ [{ c with sent := true }] } } | none => if s.blk.fab.calls.any (fun d => d.target == c.target && d.level == c.level && !d.sent) then { s.blk with fab := { s.blk.fab with calls := s.blk.fab.calls ++ [c] } } else Block.sessSend c.target 0 c.level 0 [] { s.blk with fab := { s.blk.fab with calls := s.blk.fab.calls ++ [c] } })) ∧
  (∀ (s : State) (r : Req), Called 0x0A0B r s.blk → fld r.payload 0 1 = 2 → allZero (cut r.payload 1 3) = true → (∀ i, i < 32 →
    allZero (cut r.payload (9 + 8 * i) 3) = true) →
    Gives (.fabAccess r) s (s.blk.ok r (leBytes 1 2 ++ zeros 3 ++ s.blk.fab.access.flatMap fun a => leBytes 2 a.addr ++ leBytes 2 a.mask ++ leBytes 1 a.auth ++ zeros 3))) ∧
  (∀ (s : State) (r : Req), Called 0x0A0B r s.blk → fld r.payload 0 1 = 0 → allZero (cut r.payload 1 3) = true → (∀ i, i < 32 →
    allZero (cut r.payload (9 + 8 * i) 3) = true) → (∀ a, a ∈ accessOfBytes r.payload → a.auth ≤ 3 ∨ a.auth = 255) →
    Gives (.fabAccess r) s (s.blk.journal false 0x0A0B r))

/-- The rec. and dist. commands, the refill, the hourly summary and a record's end have their effect. Each request called while the
SP runs. rec.notes hands out and removes the oldest 1 to 64 notifications and restarts DROPS (R456); rec.code answers the lifetime
state of 1 to 39 codes (R462); rec.index the record numbers and the record time (R463); rec.cfg reads 1 to 512 colanders or enters a
well-formed write in the journal, and REC_CFG_EFFECT puts what is due in force with full buckets (R465, R454). COLANDER_REFILL gives
every bucket RATE for each millisecond since the last, at most BURST tokens (R454). HOURLY_SUMMARY at a multiple of 3,600 s orders
the hourly record and begins the next interval (R457). dist.cfg reads or journals its settings (R477) and, accepted, tries the
reservation (R475); DIST_CFG_EFFECT leaves the newest due settings in force (R476). dist.trigger is answered OK with the open
record's number, BUSY in FULL, NOT_READY in DISABLED (R478); dist.list answers STATE, the counts and the entries (R479); keep,
release and delete are BAD_ARG unless the record is complete, a delete of a record being read BUSY (R480), and the end of a keep
tries the reservation again (R475). RECORD_CLOSE closes a record whose last set is taken (R473); RECORD_COMPLETE marks each record
whose end is 1 ms past (R476). Fields out of range are answered BAD_ARG. Spec: 19_mailbox_interface.md, 20_event_recorder.md,
21_disturbance_recorder.md. -/
def Obligations.RecAndDistCommandsComplete : Prop :=
  (∀ (s : State) (r : Req) (n : Nat), Called 0x0B01 r s.blk → fld r.payload 0 1 = n → Gives (.recNotes r) s (if n = 0 ∨ 64 < n ∨
    allZero (r.payload.drop 1) =
    false then s.blk.status r stBADARG else Block.ok r (leBytes 2 (s.blk.evr.notes.take n).length ++ leBytes 2 (s.blk.evr.notes.drop n).length ++ leBytes 4 s.blk.evr.drops ++ (s.blk.evr.notes.take n).flatMap Note.bytes) { s.blk with evr := { s.blk.evr with notes := s.blk.evr.notes.drop n, drops := 0 } })) ∧
  (∀ (s : State) (r : Req) (f n : Nat), Called 0x0B02 r s.blk → fld r.payload 0 2 = f → fld r.payload 2 2 = n →
    Gives (.recCode r) s (if n = 0 ∨ 39 < n ∨ 512 < f + n ∨ allZero (r.payload.drop 4) =
    false then s.blk.status r stBADARG else s.blk.ok r ((List.range n).flatMap fun i => s.blk.codeBytes (f + i)))) ∧
  (∀ (s : State) (r : Req), Called 0x0B03 r s.blk → Gives (.recIndex r) s (if allZero r.payload =
    true then s.blk.ok r (leBytes 4 s.blk.nv.nextRseq ++ leBytes 4 s.blk.nv.oldestRseq ++ leBytes 4 s.blk.opsec ++ leBytes 4 s.blk.evr.pcycle ++ leBytes 4 ((s.blk.opsec / 3600 + 1) * 3600) ++ leBytes 1 (b2n s.blk.evr.pcSat + 2 * b2n s.blk.evr.foldSkip) ++ zeros 3 ++ leBytes 4 (s.blk.evr.lifeRseq.getD 0xFFFFFFFF) ++ zeros 4) else s.blk.status r stBADARG)) ∧
  (∀ (s : State) (r : Req) (f n : Nat), Called 0x0B04 r s.blk → fld r.payload 0 1 = 2 → fld r.payload 1 1 = 0 → fld r.payload 2 2 =
    f → fld r.payload 4 2 = n → fld r.payload 6 2 = 0 → 1 ≤ n → n ≤ 512 → f + n ≤ 512 → r.payload.length = 8 →
    Gives (.recCfg r) s (s.blk.ok r ((List.range n).flatMap fun i => leBytes 2 (tget colD s.blk.evr.col (f + i)).rate ++ leBytes 1 (tget colD s.blk.evr.col (f + i)).burst ++ zeros 1))) ∧
  (∀ (s : State) (r : Req) (f n : Nat), Called 0x0B04 r s.blk → fld r.payload 0 1 = 0 → fld r.payload 1 1 = 0 → fld r.payload 2 2 =
    f → fld r.payload 4 2 = n → fld r.payload 6 2 = 0 → 1 ≤ n → n ≤ 512 → f + n ≤ 512 → r.payload.length = 8 + 4 * n → (∀ i, i < n →
    fld r.payload (8 + 4 * i) 2 ≤ 1000 ∧ 1 ≤ fld r.payload (10 + 4 * i) 1 ∧ fld r.payload (11 + 4 * i) 1 = 0) →
    Gives (.recCfg r) s (s.blk.journal false 0x0B04 r)) ∧
  (∀ (s : State) (r : Req) (f n : Nat), Called 0x0B04 r s.blk → fld r.payload 2 2 = f → fld r.payload 4 2 = n →
    (fld r.payload 0 1 ≠ 0 ∧ fld r.payload 0 1 ≠ 2) ∨ fld r.payload 1 1 ≠ 0 ∨ fld r.payload 6 2 ≠ 0 ∨ n = 0 ∨ 512 < n ∨
    512 < f + n ∨ (fld r.payload 0 1 = 0 ∧ ∃ i, i < n ∧ (1000 < fld r.payload (8 + 4 * i) 2 ∨ fld r.payload (10 + 4 * i) 1 = 0 ∨
    fld r.payload (11 + 4 * i) 1 ≠ 0)) → Gives (.recCfg r) s (s.blk.status r stBADARG)) ∧
  (∀ (s : State),
    Gives .recCfgEffect s { s.blk with evr := { s.blk.evr with col := (s.blk.evr.cfgPend.filter fun x => decide (x.1 ≤ s.blk.time.epoch)).foldl (fun t x => tsetRun colD t x.2.1 (x.2.2.map fun c => { rate := c.1, burst := c.2, bucket := c.2 * 1000 })) s.blk.evr.col, cfgPend := s.blk.evr.cfgPend.filter fun x => decide (s.blk.time.epoch < x.1) } }) ∧
  (∀ (s : State),
    Gives .colanderRefill s { s.blk with evr := { s.blk.evr with col := (tmap colD s.blk.evr.col fun _ c => { c with bucket := satN (c.burst * 1000) (c.bucket + (s.blk.nowMs - s.blk.evr.refMs) * c.rate) }), refMs := s.blk.nowMs } }) ∧
  (∀ (s : State), s.blk.evr.started = true → s.blk.sys.shutdown = none → s.blk.opsec % 3600 = 0 → s.blk.evr.intStart < s.blk.opsec →
    Does .hourlySummary s fun b => b.nv.jobs = s.blk.nv.jobs ++ [{ job := .summary (s.blk.summary 0) }] ∧ b.evr =
    { s.blk.evr with intv := [], intStart := s.blk.opsec, carried := false, dropsInt := 0 }) ∧
  (∀ (s : State) (r : Req), Called 0x0C01 r s.blk → fld r.payload 0 1 = 2 →
    Gives (.distCfg r) s (if distCfgRsv r.payload then s.blk.ok r s.blk.dist.cfg.bytes else s.blk.status r stBADARG)) ∧
  (∀ (s : State) (r : Req), Called 0x0C01 r s.blk → fld r.payload 0 1 ≠ 2 → Gives (.distCfg r) s (if fld r.payload 0 1 = 0 ∧
    distCfgOk r.payload = true then Block.distReserve 64 (s.blk.journal false 0x0C01 r) else s.blk.status r stBADARG)) ∧
  (∀ (s : State), Does .distCfgEffect s fun b => b.dist.cfg =
    ((s.blk.dist.cfgPend.filter fun x => decide (x.1 ≤ s.blk.time.epoch)).map Prod.snd).getLastD s.blk.dist.cfg ∧ b.dist.cfgPend =
    s.blk.dist.cfgPend.filter fun x => decide (s.blk.time.epoch < x.1)) ∧
  (∀ (s : State) (r : Req), Called 0x0C02 r s.blk →
    Gives (.distTrigger r) s (if fld r.payload 0 4 ≠ 0 then s.blk.status r stBADARG else if s.blk.dist.cfg.en =
    false then s.blk.status r stNOTREADY else match s.blk.dist.open_ with | none => s.blk.status r stBUSY | some k => Block.answer r stOK (s.blk.time.epoch + 1) (leBytes 1 k ++ zeros 3) { s.blk with dist := { s.blk.dist with manual := true } })) ∧
  (∀ (s : State) (r : Req) (f m : Nat) (l : List (Nat × DRec)), Called 0x0C03 r s.blk → fld r.payload 0 1 = f → fld r.payload 1 1 =
    m → l = (s.blk.dist.held.filter fun x => decide (f ≤ x.1)).take m → Gives (.distList r) s (if 63 < f ∨ m = 0 ∨ 63 < m ∨
    fld r.payload 2 2 ≠ 0 then s.blk.status r stBADARG else s.blk.ok r (leBytes 1 (if s.blk.dist.cfg.en =
    false then 0 else if s.blk.dist.open_ =
    none then 3 else if s.blk.dist.recording then 2 else 1) ++ leBytes 1 l.length ++ leBytes 1 s.blk.dist.held.length ++ zeros 1 ++ leBytes 4 s.blk.dist.free ++ l.flatMap (fun x => s.blk.distEntry (s.blk.cffSize x.1 x.2) x.1 x.2)))) ∧
  (∀ (s : State) (r : Req) (i : Instr) (k : Nat) (d : DRec) (p : Bool), Called 0x0C04 r s.blk → fld r.payload 1 1 = 0 ∧ i =
    .distKeep r ∧ p = true ∨ fld r.payload 1 1 = 1 ∧ i = .distRelease r ∧ p = false → s.blk.distNamed r = some (k, d) →
    Gives i s (Block.distReserve 64 (Block.ok r [] { s.blk with dist := { s.blk.dist with recs := tset drecD s.blk.dist.recs k (some { d with keep := p }) } }))) ∧
  (∀ (s : State) (r : Req) (i : Instr), Called 0x0C04 r s.blk → fld r.payload 1 1 = 0 ∧ i = .distKeep r ∨ fld r.payload 1 1 = 1 ∧
    i = .distRelease r ∨ fld r.payload 1 1 = 2 ∧ i = .distDelete r ∨ 2 < fld r.payload 1 1 ∧ i = .distKeep r → s.blk.distNamed r =
    none → Gives i s (s.blk.status r stBADARG)) ∧
  (∀ (s : State) (r : Req) (k : Nat) (d : DRec), Called 0x0C04 r s.blk → fld r.payload 1 1 = 2 → s.blk.distNamed r = some (k, d) →
    Gives (.distDelete r) s (if s.blk.distReading k then s.blk.status r stBUSY else Block.distReserve 64 (Block.ok r [] (s.blk.distFree k)))) ∧
  (∀ (s : State) (k : Nat) (d : DRec), s.blk.distOpen = some (k, d) → d.last < d.sets.length →
    Gives .recordClose s (s.blk.distClose false false 0 d.endAt)) ∧
  (∀ (s : State),
    Gives .recordComplete s ((s.blk.dist.held.filter fun x => x.2.closed && !x.2.complete && decide (x.2.endAt + msE ≤ s.blk.now)).foldl (fun b x => Block.raise 492 (x.2.sets.length * distI x.2.d x.2.p / 1000000 : Nat) { b with dist := { b.dist with recs := tset drecD b.dist.recs x.1 (some { x.2 with complete := true }) } }) s.blk))

/-- The snap. and upd. commands and every step of an activation have their effect. Each request called while the SP runs. snap.info
and snap.read answer the held snapshot under its epoch, a read waiting while it latches; snap.release gives it back under its
SNAP_ID; snap.fire whisks now, or arms AT unless LATE or CONFLICT (R489). upd.begin starts or resumes a staging (R515), upd.abort
ends it (R517), upd.flash reports the areas (R518), upd.chain is read or journalled (R519), upd.activate refused for the first of
the conditions that holds, or begun (R521), and each BUSY during an activation (R522). The image verified or not, decrypted or not,
the blob accepted or not move it on or end it (R522); SP_HANDOVER at a tick, with at most 125 µs of held rings, makes the staged
slot the running one and begins the roll (R27, R522). ROLLING_SLOT_MOVE takes a running slot over onto the spare, and reloads the
pair of another in place; ROLL_END answers H and the mask and raises 464 (R523). upd.confirm burns steps until F equals ARB, each
FUSE_STEP_BURNED one, then orders the boot word (R525). upd.state answers its 64 bytes (R526); a sound upd.key orders the key word
(R513). An erase, and each sector of a compaction, counts its sector (R499, R502, R506); the program in flight ends with the
controller's status (R503). Spec: 19_mailbox_interface.md, 22_snapshots_debug.md, 23_firmware_update_keys.md. -/
def Obligations.SnapAndUpdateCommandsComplete : Prop :=
  (∀ (s : State) (r : Req), Called 0x0D01 r s.blk →
    Gives (.snapInfo r) s (if fld r.payload 0 4 ≠ 0 then s.blk.status r stBADARG else s.blk.answer r stOK s.blk.snapEpoch (leBytes 1 (match s.blk.snap.state with | .empty => 0 | .latching => 1 | .held => 2) ++ zeros 3 ++ s.blk.snap.bytes 0 64))) ∧
  (∀ (s : State) (r : Req) (o n : Nat), Called 0x0D02 r s.blk → fld r.payload 0 4 = o → fld r.payload 4 4 = n →
    Gives (.snapRead r) s (if o % 4 ≠ 0 ∨ n % 4 ≠ 0 ∨ n < 4 ∨ 4064 < n ∨ snapSize < o + n ∨
    1 < fld r.payload 8 4 then s.blk.status r stBADARG else match s.blk.snap.state with | .empty => s.blk.status r stNOTREADY | .latching => { s.blk with snap := { s.blk.snap with waits := s.blk.snap.waits ++ [r] } } | .held => s.blk.snapData r)) ∧
  (∀ (s : State) (r : Req), Called 0x0D03 r s.blk →
    Gives (.snapRelease r) s (match s.blk.snap.state with | .empty => s.blk.status r stNOTREADY | .latching => s.blk.status r stBUSY | .held => if fld r.payload 0 4 ≠ s.blk.snap.hdr.snapId then s.blk.status r stBADARG else Block.ok r [] { s.blk with snap := { s.blk.snap with state := .empty, hdr := {}, data := [] } })) ∧
  (∀ (s : State) (r : Req) (f w : Nat), Called 0x0D04 r s.blk → fld r.payload 0 4 = f → fld r.payload 4 8 = w →
    Gives (.snapFire r) s (if 1 < f ∨ f = 0 ∧ w ≠ 0 then s.blk.status r stBADARG else if f =
    0 then (s.blk.whisk 4 false).fireAnswer r else if 0 ≤ dist64 s.blk.ns64 w then s.blk.status r stLATE else if s.blk.snap.arm.isSome then s.blk.status r stCONFLICT else { s.blk with snap := { s.blk.snap with arm := some { at_ := w, source := 5, armedAt := s.blk.ns64, req := some r } } })) ∧
  (∀ (s : State) (r : Req) (f e : Nat) (b : Block), Called 0x0E01 r s.blk → fld r.payload 0 4 = f →
    s.blk.begin (f == 1) (r.payload.drop 4) = (e, b) →
    Gives (.updBegin r) s (if s.blk.activating then s.blk.status r stBUSY else if 1 < f then s.blk.status r stBADARG else if e =
    stOK then b.ok r (leBytes 4 b.nv.stg.next ++ leBytes 4 b.nv.stg.hdr.nblocks) else b.status r e)) ∧
  (∀ (s : State) (r : Req), Called 0x0E02 r s.blk →
    Gives (.updAbort r) s (if s.blk.activating then s.blk.status r stBUSY else if allZero r.payload then s.blk.stageEnd.status r stOK else s.blk.status r stBADARG)) ∧
  (∀ (s : State) (r : Req), Called 0x0E03 r s.blk →
    Gives (.updFlash r) s (if s.blk.activating then s.blk.status r stBUSY else if allZero r.payload then s.blk.ok r ((List.range 2).flatMap fun d => (List.range 9).flatMap fun a => s.blk.nv.areaBytes d a) else s.blk.status r stBADARG)) ∧
  (∀ (s : State) (r : Req) (o : Nat), Called 0x0E04 r s.blk → fld r.payload 0 1 = o →
    Gives (.updChain r) s (if s.blk.activating then s.blk.status r stBUSY else if (o ≠ 0 ∧ o ≠ 2) ∨
    1 < fld r.payload 1 1 then s.blk.status r stBADARG else if o =
    2 then s.blk.ok r (leBytes 1 2 ++ leBytes 1 (b2n s.blk.nv.chain.en) ++ leBytes 2 s.blk.nv.chain.succ) else s.blk.journal false 0x0E04 r)) ∧
  (∀ (s : State) (r : Req) (f : Nat) (g : Staging), Called 0x0E05 r s.blk → fld r.payload 0 4 = f → s.blk.nv.stg = g →
    Gives (.updActivate r) s (if s.blk.activating then s.blk.status r stBUSY else if 1 < f then s.blk.status r stBADARG else if g.state ≠ .complete then s.blk.status r stNOTREADY else if s.blk.sys.recovery =
    false ∧ ((g.hdr.cfgFmt / 256 ≠ s.blk.runHdr.cfgFmt / 256 ∧ f = 0) ∨ ∃ x, x ∈ s.blk.protFormats ∧ ¬ (g.hdr.pcfOldest ≤ x ∧
    x ≤ g.hdr.pcf)) then s.blk.status r stBADARG else if s.blk.sys.recovery = false ∧
    ((List.range 8).any fun k => (s.blk.slot k).state == .run) = true ∧ s.blk.spare =
    none then s.blk.status r stNOTREADY else if s.blk.keyRunning then s.blk.status r stBUSY else if s.blk.nv.logLeft < 2 then s.blk.status r stWORN else { s.blk with nv := { s.blk.nv with stg := { g with state := .verifying, req := some r, step := 0, cfgReset := g.hdr.cfgFmt / 256 != s.blk.runHdr.cfgFmt / 256 && !s.blk.sys.recovery, moved := 0 } } })) ∧
  (∀ (s : State), s.blk.nv.stg.state = .verifying →
    Gives (.imageVerifyComplete true) s (if s.blk.sys.recovery then Block.order (.boot false s.blk.target s.blk.nv.stg.req) { s.blk with nv := { s.blk.nv.putImg s.blk.target { s.blk.nv.imgSlot s.blk.target with bootable := true } with stg := { s.blk.nv.stg with state := .activating, step := 1, req := none } } } else { s.blk with nv := { s.blk.nv with stg := { s.blk.nv.stg with state := .activating, step := 1 } } })) ∧
  (∀ (s : State), s.blk.nv.stg.state = .verifying →
    Gives (.imageVerifyComplete false) s (((s.blk.actAnswer stBADSIG s.blk.time.epoch []).stageEnd).raise 462 0)) ∧
  (∀ (s : State) (ok : Bool), s.blk.nv.stg.state = .activating → s.blk.nv.stg.step = 1 → s.blk.sys.recovery = false →
    Gives (.imageDecryptComplete ok) s (if ok then { s.blk with nv := { s.blk.nv with stg := { s.blk.nv.stg with step := 2 } } } else (s.blk.actAnswer stBADTAG s.blk.time.epoch []).stageEnd)) ∧
  (∀ (s : State), s.blk.nv.stg.state = .activating → s.blk.nv.stg.step = 2 → s.blk.nv.stg.hdr.blobVer = s.blk.runHdr.blobVer →
    Gives .blobCheckComplete s { s.blk with nv := { s.blk.nv with stg := { s.blk.nv.stg with step := 3 } } }) ∧
  (∀ (s : State), s.blk.nv.stg.state = .activating → s.blk.nv.stg.step = 2 → s.blk.nv.stg.hdr.blobVer ≠ s.blk.runHdr.blobVer → ∃ b,
    b = s.blk.actAnswer stNOTREADY s.blk.time.epoch [] ∧
    Gives .blobCheckComplete s { b with nv := { b.nv with stg := { b.nv.stg with state := .complete, step := 0 } } }) ∧
  (∀ (s : State) (us : Nat), s.blk.nv.stg.state = .activating → s.blk.nv.stg.step = 3 → s.blk.now = s.blk.edgeNow → us ≤ 125 →
    Does (.spHandover us) s fun b => b.nv.stg.state = .rolling ∧ b.nv.stg.step = 4 ∧ b.nv.stg.h = s.blk.time.epoch ∧ b.sys.slotB =
    (s.blk.target == 1) ∧ b.nv.fuse = s.blk.nv.fuse ∧ b.mbx.ringsFrom = s.blk.now + us * usE) ∧
  (∀ (s : State) (n : Nat), s.blk.nv.stg.state ≠ .verifying → s.blk.nv.stg.state ≠ .activating → (∀ k, k < 8 →
    (s.blk.slot k).takeover = none) → s.blk.oldSlots.head? = some n → (s.blk.slot n).running = true →
    Gives (.rollingSlotMove n) s (match s.blk.spare with | some q => let b := (s.blk.putPair q { s.blk.pair q with uc := s.blk.ucNow }).takeoverStart n q 2 none; { b with nv := { b.nv with stg := { b.nv.stg with moved := b.nv.stg.moved + 1 } } } | none => s.blk)) ∧
  (∀ (s : State) (n : Nat), s.blk.nv.stg.state ≠ .verifying → s.blk.nv.stg.state ≠ .activating → (∀ k, k < 8 →
    (s.blk.slot k).takeover = none) → s.blk.oldSlots.head? = some n → (s.blk.slot n).running = false →
    Gives (.rollingSlotMove n) s (match (s.blk.slot n).pair.orElse fun _ => s.blk.ownPair n with | some p => s.blk.putPair p { s.blk.pair p with uc := s.blk.ucNow } | none => s.blk)) ∧
  (∀ (s : State), s.blk.nv.stg.state = .rolling → (∀ k, k < 8 → (s.blk.slot k).takeover = none) → (∀ j, j ∈ s.blk.nv.jobs → ∀ k,
    j.job ≠ .boot false k none) → s.blk.oldSlots = [] ∨ s.blk.spare = none → ∃ b, b =
    (s.blk.actAnswer stOK s.blk.nv.stg.h (leBytes 1 s.blk.ucMask ++ zeros 3)).raise 464 s.blk.nv.stg.moved ∧
    Gives .rollEnd s { b with nv := { b.nv with stg := { confirm := b.nv.stg.confirm } } }) ∧
  (∀ (s : State) (r : Req), Called 0x0E06 r s.blk → Gives (.updConfirm r) s (if s.blk.activating ∨
    s.blk.nv.stg.confirm.isSome then s.blk.status r stBUSY else if allZero r.payload =
    false then s.blk.status r stBADARG else if s.blk.nv.bootWord = (true,
    s.blk.runSlot) then s.blk.status r stOK else if s.blk.nv.logLeft < 2 then s.blk.status r stWORN else if s.blk.flashBusy then s.blk.status r stBUSY else if s.blk.runHdr.arb ≤ s.blk.nv.fuse then s.blk.order (.boot true s.blk.runSlot (some r)) else { s.blk with nv := { s.blk.nv with stg := { s.blk.nv.stg with confirm := some r } } })) ∧
  (∀ (s : State) (r : Req), Called 0x0E07 r s.blk →
    Gives (.updState r) s (if allZero r.payload then s.blk.answer r stOK s.blk.pin s.blk.updBytes else s.blk.status r stBADARG)) ∧
  (∀ (s : State) (r : Req), Called 0x0E08 r s.blk →
    Gives (.updKey r) s (if s.blk.activating then (s.blk.raise 467 stBUSY).status r stBUSY else match s.blk.keyFail r.payload with | some e => (s.blk.raise 467 e).status r e | none => s.blk.order (.key (fld r.payload 4 2) r))) ∧
  (∀ (s : State) (d n : Nat) (ok : Bool), d < 2 → s.blk.flashBusy = false →
    Gives (.backgroundEraseComplete d n ok) s (s.blk.erased d n ok)) ∧
  (∀ (s : State) (p : Bool) (d : Nat) (l : List Nat), d < 2 → s.blk.flashBusy = false → (∀ n, n ∈ l → areaOf n =
    some (if p then 3 else 2)) → Gives (.journalCompaction p d l) s (l.foldl (fun b n => b.erased d n true) s.blk)) ∧
  (∀ (s : State) (res : FlashRes),
    Gives (.flashProgramComplete res) s (match s.blk.inFlight with | some j => (s.blk.flashRes j.job.area res).jobDone j res.status | none => s.blk)) ∧
  (∀ (s : State) (r : Req), s.blk.nv.stg.confirm = some r → s.blk.nv.fuse < 64 → Does .fuseStepBurned s fun b => b.nv.fuse =
    s.blk.nv.fuse + 1 ∧ (s.blk.runHdr.arb ≤ s.blk.nv.fuse + 1 → b.nv.stg.confirm = none ∧ b.nv.jobs =
    s.blk.nv.jobs ++ [{ job := .boot true s.blk.runSlot (some r) }]) ∧ (s.blk.nv.fuse + 1 < s.blk.runHdr.arb → b.nv.stg.confirm =
    some r ∧ b.nv.jobs = s.blk.nv.jobs))

/-- The diag. commands and the routes' effect have their effect. Each request called while the SP runs. diag.wheel answers the
classes' summary, or 1 to 255 timer records, of the published generation under its epoch (R203). diag.tongs answers the words a
tongs run reads, BAD_ARG outside the spaces (R493). diag.debug reads the level or sets it, event 496 with a change (R491).
diag.shadow gives a pair in SERVICE the slot's image, data and contexts, or stops its run, and is NOT_READY for another pair (R496).
diag.halt's halt, step, resume and breakpoint act on a pair that accepts halt control, and are NOT_READY with event 498 for another
(R495, R497). diag.ctx answers the context as last committed under its half's tag (R494). diag.route reads or journals the routes,
and ROUTE_EFFECT puts what is due in force (R544). diag.faults answers its 80 bytes (R541). Fields out of range are answered
BAD_ARG. Spec: 19_mailbox_interface.md, 22_snapshots_debug.md, 09_timer_wheel.md, 24_fault_handling.md. -/
def Obligations.DiagCommandsComplete : Prop :=
  (∀ (s : State) (r : Req), Called 0x0F01 r s.blk → fld r.payload 0 1 ≠ 1 → Gives (.diagWheelSummary r) s (if fld r.payload 0 1 =
    0 ∧ allZero (r.payload.drop 1) =
    true then s.blk.answer r stOK s.blk.pin (leBytes 8 (if s.blk.sys.elemRun then s.blk.wheel.pubInc else s.blk.time.freqTick) ++ leBytes 4 s.blk.time.clamps ++ zeros 4 ++ ((List.range 3).flatMap fun c => leBytes 4 (clsQuota c) ++ leBytes 4 (s.blk.wheel.used c) ++ leBytes 4 (s.blk.wheel.high.getD c 0) ++ leBytes 4 (s.blk.wheel.refused.getD c 0))) else s.blk.status r stBADARG)) ∧
  (∀ (s : State) (r : Req) (f n : Nat), Called 0x0F01 r s.blk → fld r.payload 0 1 = 1 → fld r.payload 2 2 = n → fld r.payload 4 4 =
    f → Gives (.diagWheelRead r) s (if fld r.payload 1 1 ≠ 0 ∨ n = 0 ∨ 255 < n ∨
    131072 < f + n then s.blk.status r stBADARG else s.blk.answer r stOK s.blk.pin ((List.range n).flatMap fun i => (tget timerR (if s.blk.sys.elemRun then s.blk.wheel.pub else s.blk.wheel.timers) (f + i)).bytes (s.blk.pin * 31250)))) ∧
  (∀ (s : State) (r : Req) (n : Nat), Called 0x0F02 r s.blk → fld r.payload 4 2 = n → Gives (.diagTongs r) s (if n = 0 ∨ 1024 < n ∨
    fld r.payload 6 2 ≠ 0 then s.blk.status r stBADARG else match s.blk.tongsRun (fld r.payload 0 4) n with | some (b, l) => b.ok r l | none => s.blk.status r stBADARG)) ∧
  (∀ (s : State) (r : Req) (o l : Nat), Called 0x0F03 r s.blk → fld r.payload 0 1 = o → fld r.payload 1 1 = l →
    Gives (.diagDebug r) s (if (o ≠ 0 ∧ o ≠ 2) ∨ fld r.payload 2 2 ≠ 0 ∨ 2 < l ∨ (o = 2 ∧
    l ≠ 0) then s.blk.status r stBADARG else if o =
    2 then s.blk.ok r (leBytes 1 2 ++ leBytes 1 s.blk.snap.level ++ zeros 2) else Block.ok r [] (Block.raiseIf (l != s.blk.snap.level) 496 l { s.blk with snap := { s.blk.snap with level := l } }))) ∧
  (∀ (s : State) (r : Req) (p n : Nat), Called 0x0F04 r s.blk → fld r.payload 0 1 = p → fld r.payload 1 1 = n →
    Gives (.diagShadow r) s (if 8 < p ∨ (7 < n ∧ n ≠ 255) ∨
    fld r.payload 2 2 ≠ 0 then s.blk.status r stBADARG else if (s.blk.pair p).state ≠ .service then s.blk.status r stNOTREADY else if n =
    255 then (s.blk.putSlot (8 + p) {}).status r stOK else match (s.blk.slot n).img with | none => s.blk.status r stNOTREADY | some i => (s.blk.putSlot (8 + p) { img := some i, data := (s.blk.slot n).data, ctxs := (s.blk.slot n).ctxs, last := (s.blk.slot n).last, shadow := some n }).status r stOK)) ∧
  (∀ (s : State) (r : Req) (p : Nat), Called 0x0F05 r s.blk → fld r.payload 0 1 = p → p ≤ 8 → fld r.payload 1 1 = 0 →
    fld r.payload 2 1 ≤ 3 → fld r.payload 3 1 = 0 → s.blk.halting p = true → (s.blk.pair p).hreq = none →
    Gives (.diagHalt r) s (s.blk.halt p (some r))) ∧
  (∀ (s : State) (r : Req) (p : Nat), Called 0x0F05 r s.blk → fld r.payload 0 1 = p → p ≤ 8 → fld r.payload 1 1 = 1 →
    fld r.payload 2 1 ≤ 3 → fld r.payload 3 1 = 0 → s.blk.halting p = true → (s.blk.pair p).hreq = none →
    Gives (.diagStep r) s (s.blk.stepPair p (some r))) ∧
  (∀ (s : State) (r : Req) (p : Nat), Called 0x0F05 r s.blk → fld r.payload 0 1 = p → p ≤ 8 → fld r.payload 1 1 = 2 →
    fld r.payload 2 1 ≤ 3 → fld r.payload 3 1 = 0 → s.blk.halting p = true → (s.blk.pair p).hreq = none →
    Gives (.diagResume r) s ((s.blk.resumePair p).ok r [])) ∧
  (∀ (s : State) (r : Req) (p k : Nat), Called 0x0F05 r s.blk → fld r.payload 0 1 = p → p ≤ 8 → fld r.payload 1 1 = 3 →
    fld r.payload 2 1 = k → k ≤ 3 → fld r.payload 3 1 = 0 → s.blk.halting p = true →
    Gives (.diagBreakpoint r) s ((s.blk.breakpoint p k (fld r.payload 4 4)).ok r [])) ∧
  (∀ (s : State) (r : Req) (i : Instr) (p : Nat), Called 0x0F05 r s.blk → fld r.payload 0 1 = p → p ≤ 8 → (fld r.payload 1 1 = 0 ∧
    i = .diagHalt r ∨ fld r.payload 1 1 = 1 ∧ i = .diagStep r ∨ fld r.payload 1 1 = 2 ∧ i = .diagResume r ∨ fld r.payload 1 1 = 3 ∧
    i = .diagBreakpoint r) → fld r.payload 2 1 ≤ 3 → fld r.payload 3 1 = 0 → s.blk.halting p = false →
    Gives i s ((s.blk.raise 498 p).status r stNOTREADY)) ∧
  (∀ (s : State) (r : Req) (n t : Nat), Called 0x0F06 r s.blk → fld r.payload 0 1 = n → fld r.payload 1 1 = t →
    Gives (.diagCtx r) s (if 7 < n ∨ (match (s.blk.slot n).img with | some i => i.tasks.length | none => 0) ≤ t ∨
    fld r.payload 2 2 ≠ 0 then s.blk.status r stBADARG else s.blk.answer r stOK (s.blk.slot n).lastTag (tget ctxD (s.blk.slot n).ctxs t).bytes)) ∧
  (∀ (s : State) (r : Req) (f n : Nat), Called 0x0F07 r s.blk → fld r.payload 0 1 = 2 → fld r.payload 1 1 = 0 → fld r.payload 2 2 =
    f → fld r.payload 4 2 = n → fld r.payload 6 2 = 0 → 1 ≤ n → n ≤ 512 → f + n ≤ 512 → r.payload.length = 8 →
    Gives (.diagRoute r) s (s.blk.ok r ((List.range n).flatMap fun i => leBytes 1 (tget routeD s.blk.mbx.routes (f + i))))) ∧
  (∀ (s : State) (r : Req) (f n : Nat), Called 0x0F07 r s.blk → fld r.payload 0 1 = 0 → fld r.payload 1 1 = 0 → fld r.payload 2 2 =
    f → fld r.payload 4 2 = n → fld r.payload 6 2 = 0 → 1 ≤ n → n ≤ 512 → f + n ≤ 512 → r.payload.length = 8 + n →
    Gives (.diagRoute r) s (if (r.payload.drop 8).all (fun v => decide (v.toNat < 16)) then s.blk.journal false 0x0F07 r else s.blk.status r stBADARG)) ∧
  (∀ (s : State) (r : Req), Called 0x0F07 r s.blk → ((fld r.payload 0 1 ≠ 0 ∧ fld r.payload 0 1 ≠ 2) ∨ fld r.payload 1 1 ≠ 0 ∨
    fld r.payload 6 2 ≠ 0 ∨ fld r.payload 4 2 = 0 ∨ 512 < fld r.payload 4 2 ∨ 512 < fld r.payload 2 2 + fld r.payload 4 2) →
    Gives (.diagRoute r) s (s.blk.status r stBADARG)) ∧
  (∀ (s : State),
    Gives .routeEffect s { s.blk with mbx := { s.blk.mbx with routes := (s.blk.mbx.routePend.filter fun x => decide (x.1 ≤ s.blk.time.epoch)).foldl (fun t x => tsetRun routeD t x.2.1 x.2.2) s.blk.mbx.routes, routePend := s.blk.mbx.routePend.filter fun x => decide (s.blk.time.epoch < x.1) } }) ∧
  (∀ (s : State) (r : Req), Called 0x0F08 r s.blk →
    Gives (.diagFaults r) s (if allZero r.payload then s.blk.answer r stOK s.blk.pin s.blk.faultBytes else s.blk.status r stBADARG))

/-- The ctl. commands, their arbitration, lapse and timeout have their effect. Each request called while the SP runs. A sound SELECT
or OPERATE joins the orders that the next tick arbitrates, an OPERATE of a select-before-operate object only under the client's own
selection in CLASS and VALUE, else NOT_SELECTED (R442); an undeclared object, a class outside CLASSES or a select of a DIRECT object
is BAD_ARG (R442). ctl.cancel releases the client's selection at once, or is answered NOT_SELECTED (R442); ctl.read answers 1 to 255
objects' records (R442). CONTROL_ARBITRATION takes each object's orders of an ended epoch together, and a lone order on an IDLE
object wins: a select holds the object to its lapse, an operate of a slot in RUN makes it PENDING (R443). SELECTION_LAPSE returns a
lapsed selection to IDLE (R442); CONTROL_ANSWER_TIMEOUT of an operate unanswered at its deadline returns it to IDLE, raises 435 and
answers NO_ANSWER (R442). Spec: 19_mailbox_interface.md. -/
def Obligations.CtlCommandsComplete : Prop :=
  (∀ (s : State) (r : Req), Called 0x1001 r s.blk →
    Gives (.ctlSelect r) s (if s.blk.ctlBad true r.payload then s.blk.status r stBADARG else s.blk.ctlOrder r true)) ∧
  (∀ (s : State) (r : Req) (d : CtlDecl) (n i : Nat), Called 0x1002 r s.blk → fld r.payload 0 1 = n → fld r.payload 1 1 = i →
    s.blk.ctlDecl n i = some d → s.blk.ctlBad false r.payload = false → Gives (.ctlOperate r) s (if d.sbo ∧
    (s.blk.ctlObj n i).selectedBy r.client (fld r.payload 2 1) (fld r.payload 4 4) =
    false then s.blk.status r stNOTSEL else s.blk.ctlOrder r false)) ∧
  (∀ (s : State) (r : Req), Called 0x1002 r s.blk → s.blk.ctlBad false r.payload = true →
    Gives (.ctlOperate r) s (s.blk.status r stBADARG)) ∧
  (∀ (s : State) (r : Req) (n i : Nat) (o : CtlObj), Called 0x1003 r s.blk → fld r.payload 0 1 = n → fld r.payload 1 1 = i →
    s.blk.ctlObj n i = o → Gives (.ctlCancel r) s (if 7 < n ∨ s.blk.ctlDecl n i = none ∨ fld r.payload 2 1 ≠ 0 ∨
    fld r.payload 3 1 ≠ 0 ∨
    fld r.payload 4 4 ≠ 0 then s.blk.status r stBADARG else match o.state with | .selected c _ _ _ _ => if c = r.client then (s.blk.putCtl n i { o with state := .idle }).status r stOK else s.blk.status r stNOTSEL | _ => s.blk.status r stNOTSEL)) ∧
  (∀ (s : State) (r : Req) (n f k : Nat), Called 0x1004 r s.blk → fld r.payload 0 1 = n → fld r.payload 1 1 = f →
    fld r.payload 2 1 = k → Gives (.ctlRead r) s (if 7 < n ∨ k = 0 ∨ 256 < f + k ∨
    fld r.payload 3 1 ≠ 0 then s.blk.status r stBADARG else s.blk.ok r ((List.range k).flatMap fun j => s.blk.ctlBytes n (f + j)))) ∧
  (∀ (s : State),
    Gives .controlArbitration s (((s.blk.mbx.orders.filter fun o => decide (o.epoch < s.blk.time.epoch)).map fun o => (o.epoch,
    o.slot, o.index)).eraseDups.foldl (fun b k => b.arbitrate k.1 k.2.1 k.2.2) s.blk)) ∧
  (∀ (s : State) (o : Order) (d : CtlDecl), s.blk.mbx.orders = [o] → o.epoch < s.blk.time.epoch → s.blk.ctlDecl o.slot o.index =
    some d → (s.blk.ctlObj o.slot o.index).state = .idle → o.select = true ∨ o.client = none ∨ (s.blk.slot o.slot).state = .run →
    Gives .controlArbitration s (Block.orderIdle o d { s.blk with mbx := { s.blk.mbx with orders := [] } })) ∧
  (∀ (s : State) (n i : Nat) (o : CtlObj) (c a k v e : Nat), tget ctlD (s.blk.slot n).objs i = o → o.state = .selected c a k v e →
    e ≤ s.blk.time.epoch → Gives (.selectionLapse n i) s (s.blk.putCtl n i { o with state := .idle })) ∧
  (∀ (s : State) (n i : Nat) (o : CtlObj) (c a k v q t dl f : Nat) (b : Block), s.blk.ctlObj n i = o → o.state =
    .pending c a k v q t dl f → dl ≤ s.blk.now → b = (s.blk.putCtl n i { o with state := .idle }).raise 435 (n * 256 + i : Nat) →
    Gives (.controlAnswerTimeout n i) s (match b.orderReq 0x1002 c q with | some r => b.status r stNOANSWER | none => b))

/-- Memory errors, row tests, repairs, reloads, the SP's restart and the die's heat have their effect. A corrected word is counted,
and raises the event of its memory with its quantity (R533). An uncorrectable element table row, timer, store or accumulator word
takes its effect, and where no spare row is left event 456 (R533, R534); the march test puts the row back in service or leaves it
remapped with event 455 (R534). DESCRIPTOR_REPAIR rewrites a failing active descriptor from the stored table (R534). An
uncorrectable timer word leaves the timer idle (R535); a slot store's image is reloaded, its damaged data stops the slot, a LOSS
(R536). An LPDDR word's effect is its consumer's, event 447 naming it (R537). The microcode store comes back (R537). The watchdog's
expiry restarts the SP alone with the mailboxes closed and the time in HOLDOVER; the second restart within 60 s boots the other
bootable slot, the third leaves the SP stopped, a LOSS (R539, R540); the restart's end opens the mailboxes of the steps reached and
raises 499 (R539). A die at the limit is noted, event 479 on the crossing (R546). Spec: 24_fault_handling.md. -/
def Obligations.FaultCommandsComplete : Prop :=
  (∀ (s : State) (n w : Nat) (i : Bool) (u : LpddrUse), Gives (.memoryScrubError (.table w) true) s (s.blk.fault .corrected) ∧
    Gives (.memoryScrubError (.accum n w) true) s (s.blk.fault .corrected) ∧
    Gives (.memoryScrubError (.timer n w) true) s ((s.blk.fault .corrected).raise 323 n) ∧
    Gives (.memoryScrubError (.store n w i) true) s ((s.blk.fault .corrected).raise 448 n) ∧
    Gives (.memoryScrubError (.pair n) true) s (s.blk.eccCorrected n) ∧
    Gives (.memoryScrubError (.sp n) true) s ((s.blk.fault .corrected).raise 450 n) ∧
    Gives (.memoryScrubError .microcode true) s ((s.blk.fault .corrected).raise 452 0) ∧
    Gives (.memoryScrubError (.lpddr n u) true) s ((s.blk.fault .corrected).raise 446 n)) ∧
  (∀ (s : State) (n w : Nat) (i : Bool) (u : LpddrUse), Gives (.memoryScrubError (.table w) false) s (s.blk.tableLost w) ∧
    Gives (.memoryScrubError (.timer n w) false) s (s.blk.timerLost n w) ∧
    Gives (.memoryScrubError (.store n w i) false) s (s.blk.storeLost n w i) ∧
    Gives (.memoryScrubError (.pair n) false) s (s.blk.detect n .ecc) ∧
    Gives (.memoryScrubError (.sp n) false) s ((s.blk.raise 451 n).spFail) ∧
    Gives (.memoryScrubError .microcode false) s (Block.raise 452 1 (Block.fault .transient { s.blk with flt := { s.blk.flt with ucReload := true } })) ∧
    Gives (.memoryScrubError (.lpddr n u) false) s (s.blk.lpddrLost u)) ∧
  (∀ (s : State) (n w : Nat), n < 160 →
    Gives (.memoryScrubError (.accum n w) false) s ((((s.blk.fault .transient).rowFail 3 w).raise 453 n).restartInput s.blk.now n)) ∧
  (∀ (s : State) (i : Nat), i < 4096 → i ∉ s.blk.elm.bad → 16 ≤ s.blk.rowsUsed 0 → i ∉ s.blk.flt.testing → i ∉ s.blk.flt.remapped →
    Does (.memoryScrubError (.table i) false) s fun b => b.elm.bad = insNat i s.blk.elm.bad ∧ b.flt.testing = s.blk.flt.testing ∧
    b.flt.transient = s.blk.flt.transient + 1) ∧
  (∀ (s : State) (m n k : Nat) (ok : Bool), rowId m n = k → k ∈ s.blk.flt.testing → s.blk.spUp = true →
    Gives (.rowMarchTestComplete m n ok) s (if ok then { s.blk with flt := { s.blk.flt with testing := remNat k s.blk.flt.testing } } else Block.raise 455 k { s.blk with flt := { s.blk.flt with testing := remNat k s.blk.flt.testing, remapped := insNat k s.blk.flt.remapped } })) ∧
  (∀ (s : State) (i : Nat), i ∈ s.blk.elm.bad → s.blk.spUp = true →
    Gives (.descriptorRepair i) s { s.blk with elm := { s.blk.elm with active := { s.blk.elm.active with descs := tset descD s.blk.elm.active.descs i (tget descD s.blk.nv.store.table.descs i) } } }) ∧
  (∀ (s : State) (n w : Nat), (s.blk.wheel.get n).cls ≠ 0 → Does (.timerMemoryError n w) s fun b => b.flt.transient =
    s.blk.flt.transient + 1 ∧ b.elm = s.blk.elm ∧ b.wheel = s.blk.wheel.upd n fun t => { Timer.op .cancel t with pend := 0 }) ∧
  (∀ (s : State) (n w k : Nat), (s.blk.wheel.get n).cls = 0 → (s.blk.wheel.get n).owner = k →
    Does (.timerMemoryError n w) s fun b => (tget elStD b.elm.states k).qual.blocked = true ∧ (tget elStD b.elm.states k).latched =
    (tget elStD s.blk.elm.states k).latched ∧ (tget elStD b.elm.states k).operate = (tget elStD s.blk.elm.states k).latched ∧
    b.flt.transient = s.blk.flt.transient + 1) ∧
  (∀ (s : State) (n w : Nat), n < 8 → Gives (.slotStoreError n w true) s (((s.blk.rowFail 2 w).raise 449 n).fault .transient)) ∧
  (∀ (s : State) (n w : Nat), n < 8 → Does (.slotStoreError n w false) s fun b => b.lgc.slots =
    tset slotD s.blk.lgc.slots n { s.blk.slot n with damaged := true } ∧ b.flt.loss = s.blk.flt.loss + 1) ∧
  (∀ (s : State) (k : Nat) (hit : List Nat),
    Gives (.lpddrError (.sets k hit)) s (let b := (s.blk.fault .transient).raise 447 0; match tget drecD b.dist.recs k with | some r => { b with dist := { b.dist with recs := tset drecD b.dist.recs k (some { r with sets := (List.range r.sets.length).map fun i => { r.sets.getD i {} with bad := (r.sets.getD i {}).bad || hit.contains i } }) } } | none => b)) ∧
  (∀ (s : State) (c q : Nat) (m : List Byte),
    Gives (.lpddrError (.ladle c q m)) s (let b := (s.blk.fault .transient).raise 447 1; match b.ladleOf c q with | some l => if l.active then b.ladleEnd l stCONFLICT (l.moved m) else b | none => b)) ∧
  (∀ (s : State), Gives (.lpddrError .other) s ((s.blk.raise 447 2).spFail)) ∧
  (∀ (s : State), Gives .microcodeReloadComplete s { s.blk with flt := { s.blk.flt with ucReload := false } }) ∧
  (∀ (s : State), s.blk.sys.step ≠ 0 → s.blk.flt.spRestarting = none → s.blk.flt.spStopped = false →
    (s.blk.flt.spRestarts.filter fun t => decide (s.blk.now < t + 60 * secE)).length < 2 →
    Does .spWatchdogExpiry s fun b => b.flt.spRestarting = some s.blk.now ∧ b.flt.spRestarts =
    s.blk.now :: (s.blk.flt.spRestarts.filter fun t => decide (s.blk.now < t + 60 * secE)) ∧ b.sys.mbxRoot = false ∧ b.sys.mbxHost =
    false ∧ b.sys.mbxFab = false ∧ b.time.servo.state = .holdover ∧ b.time.inc = s.blk.time.freqInc ∧ b.flt.transient =
    s.blk.flt.transient + 1) ∧
  (∀ (s : State), s.blk.sys.step ≠ 0 → s.blk.flt.spRestarting = none → s.blk.flt.spStopped = false →
    (s.blk.flt.spRestarts.filter fun t => decide (s.blk.now < t + 60 * secE)).length = 1 → s.blk.nv.slotOk (1 - s.blk.runSlot) =
    true → Does .spWatchdogExpiry s fun b => b.sys.slotB = (1 - s.blk.runSlot == 1) ∧ b.sys.degraded = true) ∧
  (∀ (s : State), s.blk.sys.step ≠ 0 → s.blk.flt.spRestarting = none → s.blk.flt.spStopped = false →
    2 ≤ (s.blk.flt.spRestarts.filter fun t => decide (s.blk.now < t + 60 * secE)).length →
    Does .spWatchdogExpiry s fun b => b.flt.spRestarting = none ∧ b.flt.spStopped = true ∧ b.flt.loss = s.blk.flt.loss + 1 ∧
    b.sys.mbxRoot = false ∧ b.sys.mbxHost = false ∧ b.sys.mbxFab = false ∧ b.time.servo.state = .holdover) ∧
  (∀ (s : State) (t : Nat), s.blk.flt.spRestarting = some t → Does .spRestartComplete s fun b => b.flt.spRestarting = none ∧
    b.sys.mbxRoot = decide (5 ≤ s.blk.sys.step) ∧ b.sys.mbxHost = s.blk.sys.ready ∧ b.sys.mbxFab = decide (9 ≤ s.blk.sys.step)) ∧
  (∀ (s : State), overTemp * 10 ≤ s.blk.dieNow →
    Gives .dieOvertemp s (Block.raiseIf s.blk.dieArmed 479 (s.blk.dieNow / 10) { s.blk with flt := { s.blk.flt with hot := true, coolSince := none } }))
end

