-- ==== Sys2Proof/Laws/Tab.lean ====
section
/-! SUPPORT. What reading and writing a sparse table do: an index written reads as the value written, no other index changes, and
every write keeps the canonical form. The same for byte storage. -/

namespace Sys2Proof.Machine
open Sys2Proof

variable {α : Type}

@[simp] theorem tget_nil (d : Nat → α) (k : Nat) : tget d [] k = d k := rfl
theorem tget_cons (d : Nat → α) (i : Nat) (v : α) (r : Tab α) (k : Nat) :
    tget d ((i, v) :: r) k = if k = i then v else tget d r k := rfl

@[simp] theorem tdrop_nil (k : Nat) : tdrop ([] : Tab α) k = [] := rfl
theorem tdrop_cons (i : Nat) (v : α) (r : Tab α) (k : Nat) :
    tdrop ((i, v) :: r) k = if i = k then tdrop r k else (i, v) :: tdrop r k := by
  simp only [tdrop, List.filter_cons, bne_iff_ne, ne_eq]; by_cases h : i = k <;> simp [h]

/-- An index dropped reads as the default. -/
theorem tget_tdrop_same (d : Nat → α) (t : Tab α) (k : Nat) : tget d (tdrop t k) k = d k := by
  induction t with
  | nil => rfl
  | cons x r ih =>
    obtain ⟨i, w⟩ := x
    rw [tdrop_cons]
    split
    · exact ih
    · rename_i h; rw [tget_cons, if_neg (fun e => h e.symm)]; exact ih

/-- Dropping an index changes no other. -/
theorem tget_tdrop_ne (d : Nat → α) (t : Tab α) {k j : Nat} (h : j ≠ k) : tget d (tdrop t k) j = tget d t j := by
  induction t with
  | nil => rfl
  | cons x r ih =>
    obtain ⟨i, w⟩ := x
    rw [tdrop_cons]
    split
    · rename_i e; subst e; rw [tget_cons, if_neg h]; exact ih
    · rw [tget_cons, tget_cons, ih]

variable [DecidableEq α]

/-- The index written reads as the value written. -/
@[simp] theorem tget_tset_same (d : Nat → α) (t : Tab α) (k : Nat) (v : α) : tget d (tset d t k v) k = v := by
  induction t with
  | nil => simp only [tset]; split
           · rename_i h; rw [tget_nil, h]
           · simp [tget_cons]
  | cons x r ih =>
    obtain ⟨i, w⟩ := x
    simp only [tset]
    split
    · split
      · rename_i h; rw [tget_tdrop_same, h]
      · simp [tget_cons]
    · split
      · split
        · rename_i h; rw [tget_tdrop_same, h]
        · simp [tget_cons]
      · rename_i h; rw [tget_cons, if_neg h]; exact ih

/-- No other index changes. -/
theorem tget_tset_ne (d : Nat → α) (t : Tab α) (v : α) {k j : Nat} (h : j ≠ k) : tget d (tset d t k v) j = tget d t j := by
  induction t with
  | nil => simp only [tset]; split
           · rfl
           · rw [tget_cons, if_neg h]
  | cons x r ih =>
    obtain ⟨i, w⟩ := x
    simp only [tset]
    split
    · split
      · exact tget_tdrop_ne d _ h
      · rw [tget_cons, if_neg h]
    · split
      · rename_i e; subst e
        split
        · rw [tget_tdrop_ne d r h, tget_cons, if_neg h]
        · rw [tget_cons, tget_cons, if_neg h, if_neg h]
      · rw [tget_cons, tget_cons, ih]

/-- Reading any index after a write. -/
theorem tget_tset (d : Nat → α) (t : Tab α) (k j : Nat) (v : α) : tget d (tset d t k v) j = if j = k then v else tget d t j := by
  split
  · rename_i h; subst h; simp
  · exact tget_tset_ne d t v ‹_›

@[simp] theorem tget_tupd_same (d : Nat → α) (t : Tab α) (k : Nat) (f : α → α) : tget d (tupd d t k f) k = f (tget d t k) := by
  simp [tupd]
theorem tget_tupd_ne (d : Nat → α) (t : Tab α) (f : α → α) {k j : Nat} (h : j ≠ k) : tget d (tupd d t k f) j = tget d t j := by
  simp [tupd, tget_tset_ne d t _ h]

/-- An index below a run written stays as it was. -/
theorem tget_tsetRun_lt (d : Nat → α) (vs : List α) : ∀ (t : Tab α) (k : Nat) {j : Nat}, j < k → tget d (tsetRun d t k vs) j = tget d t j := by
  induction vs with
  | nil => intros; rfl
  | cons v r ih => intro t k j h; rw [tsetRun, ih _ _ (by omega), tget_tset_ne d t v (by omega)]

/-- A run written reads back, index by index. -/
theorem tget_tsetRun (d : Nat → α) (vs : List α) : ∀ (t : Tab α) (k i : Nat) (h : i < vs.length),
    tget d (tsetRun d t k vs) (k + i) = vs[i] := by
  induction vs with
  | nil => intro t k i h; exact absurd h (Nat.not_lt_zero _)
  | cons v r ih =>
    intro t k i h
    cases i with
    | zero => rw [tsetRun]; simp [tget_tsetRun_lt d r _ (k + 1) (Nat.lt_succ_self k)]
    | succ i => rw [tsetRun, show k + (i + 1) = k + 1 + i by omega]; simpa using ih _ (k + 1) i (by simpa using h)

/-- An index past a run written stays as it was. -/
theorem tget_tsetRun_ge (d : Nat → α) (vs : List α) : ∀ (t : Tab α) (k : Nat) {j : Nat}, k + vs.length ≤ j →
    tget d (tsetRun d t k vs) j = tget d t j := by
  induction vs with
  | nil => intros; rfl
  | cons v r ih =>
    intro t k j h
    simp only [List.length_cons] at h
    rw [tsetRun, ih _ _ (by omega), tget_tset_ne d t v (by omega)]

/-! ### The canonical form -/

omit [DecidableEq α] in
theorem tabRising_cons (lo : Option Nat) (i : Nat) (v : α) (r : Tab α) :
    tabRising lo ((i, v) :: r) = ((match lo with | none => true | some l => decide (l < i)) && tabRising (some i) r) := rfl

omit [DecidableEq α] in
/-- A rising table rises from any lower index too. -/
theorem tabRising_lower {t : Tab α} {a b : Nat} (h : a ≤ b) (hr : tabRising (some b) t = true) : tabRising (some a) t = true := by
  cases t with
  | nil => rfl
  | cons x r =>
    obtain ⟨i, v⟩ := x
    simp only [tabRising_cons, Bool.and_eq_true, decide_eq_true_eq] at hr ⊢
    exact ⟨by omega, hr.2⟩

omit [DecidableEq α] in
theorem tabRising_none {t : Tab α} {b : Nat} (hr : tabRising (some b) t = true) : tabRising none t = true := by
  cases t with
  | nil => rfl
  | cons x r =>
    obtain ⟨i, v⟩ := x
    simp only [tabRising_cons, Bool.and_eq_true] at hr ⊢
    exact ⟨trivial, hr.2⟩

omit [DecidableEq α] in
/-- Dropping an index keeps the order. -/
theorem tabRising_tdrop (k : Nat) : ∀ (t : Tab α) (lo : Option Nat), tabRising lo t = true → tabRising lo (tdrop t k) = true := by
  intro t
  induction t with
  | nil => intros; rfl
  | cons x r ih =>
    obtain ⟨i, v⟩ := x
    intro lo h
    rw [tdrop_cons]
    simp only [tabRising_cons, Bool.and_eq_true] at h
    split
    · have h2 := ih _ h.2
      cases lo with
      | none => exact tabRising_none h2
      | some l => exact tabRising_lower (by have := h.1; simp at this; omega) h2
    · simp only [tabRising_cons, Bool.and_eq_true]; exact ⟨h.1, ih _ h.2⟩

/-- A write keeps the order. -/
theorem tabRising_tset (d : Nat → α) (k : Nat) (v : α) : ∀ (t : Tab α) (lo : Option Nat),
    (∀ l, lo = some l → l < k) → tabRising lo t = true → tabRising lo (tset d t k v) = true := by
  intro t
  induction t with
  | nil =>
    intro lo hl _
    simp only [tset]; split
    · rfl
    · cases lo with
      | none => rfl
      | some l => simp [tabRising_cons, tabRising, hl l rfl]
  | cons x r ih =>
    obtain ⟨i, w⟩ := x
    intro lo hl h
    have hh := h
    simp only [tabRising_cons, Bool.and_eq_true] at h
    simp only [tset]
    split
    · rename_i hk
      split
      · exact tabRising_tdrop k _ lo hh
      · simp only [tabRising_cons, Bool.and_eq_true]
        exact ⟨by cases lo with | none => rfl | some l => simpa using hl l rfl, by simpa using hk, h.2⟩
    · split
      · rename_i hk; subst hk
        split
        · have h2 := tabRising_tdrop k r _ h.2
          cases lo with
          | none => exact tabRising_none h2
          | some l => exact tabRising_lower (Nat.le_of_lt (hl l rfl)) h2
        · simp only [tabRising_cons, Bool.and_eq_true]; exact h
      · rename_i h1 h2
        simp only [tabRising_cons, Bool.and_eq_true]
        exact ⟨h.1, ih (some i) (by intro l e; cases e; omega) h.2⟩

/-- A write lists no default. -/
theorem tabLean_tset (d : Nat → α) (k : Nat) (v : α) (t : Tab α) (h : tabLean d t = true) : tabLean d (tset d t k v) = true := by
  have drop : ∀ t : Tab α, tabLean d t = true → tabLean d (tdrop t k) = true := by
    intro t h
    simp only [tabLean, tdrop, List.all_eq_true, List.mem_filter] at h ⊢
    exact fun x hx => h x hx.1
  induction t with
  | nil => simp only [tset]; split
           · rfl
           · simp [tabLean, *]
  | cons x r ih =>
    obtain ⟨i, w⟩ := x
    have hh := h
    simp only [tabLean, List.all_cons, Bool.and_eq_true] at h
    simp only [tset]
    split
    · split
      · exact drop _ hh
      · rename_i hv; simp only [tabLean, List.all_cons, Bool.and_eq_true]; exact ⟨by simpa using hv, h⟩
    · split
      · rename_i hk
        split
        · exact drop _ h.2
        · rename_i hv; subst hk; simp only [tabLean, List.all_cons, Bool.and_eq_true]; exact ⟨by simpa using hv, h.2⟩
      · simp only [tabLean, List.all_cons, Bool.and_eq_true]; exact ⟨h.1, ih h.2⟩

/-- A write keeps the canonical form. -/
theorem tabWf_tset (d : Nat → α) (t : Tab α) (k : Nat) (v : α) (h : tabWf d t = true) : tabWf d (tset d t k v) = true := by
  simp only [tabWf, Bool.and_eq_true] at h ⊢
  exact ⟨tabRising_tset d k v t none (by intro l e; cases e) h.1, tabLean_tset d k v t h.2⟩

theorem tabWf_tupd (d : Nat → α) (t : Tab α) (k : Nat) (f : α → α) (h : tabWf d t = true) : tabWf d (tupd d t k f) = true :=
  tabWf_tset d t k _ h

theorem tabWf_tsetRun (d : Nat → α) (vs : List α) : ∀ (t : Tab α) (k : Nat), tabWf d t = true → tabWf d (tsetRun d t k vs) = true := by
  induction vs with
  | nil => intro t k h; exact h
  | cons v r ih => intro t k h; exact ih _ _ (tabWf_tset d t k v h)

theorem tabWf_nil (d : Nat → α) : tabWf d ([] : Tab α) = true := rfl

/-- Rewriting every listed entry keeps the canonical form. -/
theorem tabWf_tmap (d : Nat → α) (f : Nat → α → α) (t : Tab α) (h : tabWf d t = true) : tabWf d (tmap d t f) = true := by
  simp only [tabWf, Bool.and_eq_true] at h ⊢
  refine ⟨?_, ?_⟩
  · have : ∀ (t : Tab α) (lo : Option Nat), tabRising lo t = true → tabRising lo (tmap d t f) = true := by
      intro t
      induction t with
      | nil => intros; rfl
      | cons x r ih =>
        obtain ⟨i, v⟩ := x
        intro lo h
        simp only [tabRising_cons, Bool.and_eq_true] at h
        simp only [tmap]
        split
        · have h2 := ih _ h.2
          cases lo with
          | none => exact tabRising_none h2
          | some l => exact tabRising_lower (by have := h.1; simp at this; omega) h2
        · simp only [tabRising_cons, Bool.and_eq_true]; exact ⟨h.1, ih _ h.2⟩
    exact this t none h.1
  · have h2 := h.2
    clear h
    induction t with
    | nil => rfl
    | cons x r ih =>
      obtain ⟨i, v⟩ := x
      simp only [tabLean, List.all_cons, Bool.and_eq_true] at h2
      simp only [tmap]
      split
      · exact ih h2.2
      · rename_i hv; simp only [tabLean, List.all_cons, Bool.and_eq_true]; exact ⟨by simpa using hv, ih h2.2⟩

/-! ### Byte storage -/

@[simp] theorem memGet_memSet_same (m : Mem) (a : Nat) (v : Byte) : memGet (memSet m a v) a = v := tget_tset_same memDflt m a v
theorem memGet_memSet_ne (m : Mem) (v : Byte) {a c : Nat} (h : c ≠ a) : memGet (memSet m a v) c = memGet m c := tget_tset_ne memDflt m v h
theorem memGet_memWrite (m : Mem) (a i : Nat) (bs : List Byte) (h : i < bs.length) : memGet (memWrite m a bs) (a + i) = bs[i] :=
  tget_tsetRun memDflt bs m a i h
theorem memGet_memWrite_lt (m : Mem) (bs : List Byte) {a c : Nat} (h : c < a) : memGet (memWrite m a bs) c = memGet m c :=
  tget_tsetRun_lt memDflt bs m a h
theorem memGet_memWrite_ge (m : Mem) (bs : List Byte) {a c : Nat} (h : a + bs.length ≤ c) : memGet (memWrite m a bs) c = memGet m c :=
  tget_tsetRun_ge memDflt bs m a h
/-- Every operation on byte storage keeps its canonical form. -/
theorem memWf_memSet (m : Mem) (a : Nat) (v : Byte) (h : memWf m = true) : memWf (memSet m a v) = true := tabWf_tset memDflt m a v h
theorem memWf_memWrite (m : Mem) (a : Nat) (bs : List Byte) (h : memWf m = true) : memWf (memWrite m a bs) = true :=
  tabWf_tsetRun memDflt bs m a h

end Sys2Proof.Machine
end

