-- ==== Sys2Proof/Laws/Bytes.lean ====
section
/-! SUPPORT. Laws of byte fields and checks: what a little-endian number reads back as, where a field of a payload lies, the
range of a CRC-32, and that a run written to storage reads back. -/

namespace Sys2Proof.Machine
open Sys2Proof

@[simp] theorem leBytes_length (n : Nat) : ∀ v, (leBytes n v).length = n := by
  induction n with
  | zero => intro v; rfl
  | succ n ih => intro v; rw [leBytes, List.length_cons, ih]

@[simp] theorem zeros_length (n : Nat) : (zeros n).length = n := List.length_replicate

/-- A number written in n bytes reads back modulo 2^(8n). -/
theorem leNat_leBytes (n : Nat) : ∀ v, leNat (leBytes n v) = v % 2 ^ (8 * n) := by
  induction n with
  | zero => intro v; simp [leBytes, leNat, Nat.mod_one]
  | succ n ih =>
    intro v
    rw [leBytes, leNat, ih]
    have : 2 ^ (8 * (n + 1)) = 256 * 2 ^ (8 * n) := by rw [Nat.mul_add, Nat.pow_add]; omega
    rw [this, Nat.mod_mul]
    simp

theorem leNat_zeros (n : Nat) : leNat (zeros n) = 0 := by
  induction n with
  | zero => rfl
  | succ k ih => show (0 : Byte).toNat + 256 * leNat (zeros k) = 0; rw [ih]; rfl

/-- A field at the end of a known prefix reads what stands there. -/
theorem fld_append (p q : List Byte) (o w : Nat) (h : p.length = o) : fld (p ++ q) o w = leNat (q.take w) := by
  rw [fld, ← h, List.drop_left]

/-- Bytes within a run of zero bytes are zero bytes, whatever stands before and behind the run. -/
theorem cut_zeros (p q : List Byte) (n o w : Nat) (h : p.length ≤ o) (k : o + w ≤ p.length + n) :
    cut (p ++ zeros n ++ q) o w = zeros w := by
  obtain ⟨i, rfl⟩ : ∃ i, o = p.length + i := ⟨o - p.length, by omega⟩
  rw [cut, List.append_assoc, ← List.drop_drop, List.drop_left, List.drop_append_of_le_length (by rw [zeros_length]; omega),
    zeros, List.drop_replicate, List.take_append_of_le_length (by rw [List.length_replicate]; omega), List.take_replicate,
    Nat.min_eq_left (by omega)]
  rfl

/-- A field within a run of zero bytes reads 0. -/
theorem fld_zeros (p q : List Byte) (n o w : Nat) (h : p.length ≤ o) (k : o + w ≤ p.length + n) : fld (p ++ zeros n ++ q) o w = 0 := by
  have e := cut_zeros p q n o w h k
  rw [cut] at e
  rw [fld, e]; exact leNat_zeros _

theorem allZero_zeros (n : Nat) : allZero (zeros n) = true := by
  rw [allZero, List.all_eq_true]
  intro x hx
  rw [List.eq_of_mem_replicate hx]; rfl

/-- Bytes written from an index read back. -/
theorem memRead_memWrite (m : Mem) (a : Nat) (bs : List Byte) : memRead (memWrite m a bs) a bs.length = bs := by
  rw [memRead, memWrite, tgetRun]
  refine List.ext_getElem (by simp) fun i h1 h2 => ?_
  rw [List.getElem_map, List.getElem_range]
  exact tget_tsetRun memDflt bs m a i h2

/-- A CRC-32 fits 32 bits. -/
theorem crc32_lt (bs : List Byte) : crc32 bs < 2 ^ 32 := by
  have hs : ∀ n c, c < 2 ^ 32 → crc32Step n c < 2 ^ 32 := by
    intro n
    induction n with
    | zero => intro c h; exact h
    | succ n ih =>
      intro c h
      rw [crc32Step]
      apply ih
      split
      · exact Nat.xor_lt_two_pow (by omega) (by decide)
      · omega
  have hr : ∀ (l : List Byte) c, c < 2 ^ 32 → crc32Run l c < 2 ^ 32 := by
    intro l
    induction l with
    | nil => intro c h; exact h
    | cons x r ih => intro c h; exact ih _ (hs 8 _ (Nat.xor_lt_two_pow h (by have := x.isLt; omega)))
  exact Nat.xor_lt_two_pow (hr bs _ (by decide)) (by decide)

end Sys2Proof.Machine
end

