-- ==== Sys2Proof/Laws/Fj.lean ====
section
/-! SUPPORT. The Fjoask interpreter: counting in a LOCK section changes nothing that an operand reads, and an instruction whose
bytes may be fetched gives its own outcome. -/

namespace Sys2Proof.Machine
open Sys2Proof

@[simp] theorem counted_ty (f : Fj) (v : Loc) : f.counted.ty v = f.ty v := rfl
@[simp] theorem counted_is (f : Fj) (l : List Ty) (v : Loc) : f.counted.is l v = f.is l v := rfl
@[simp] theorem counted_same (f : Fj) (l : List Ty) (v : List Loc) : f.counted.same l v = f.same l v := rfl
@[simp] theorem counted_val (f : Fj) (v : Loc) : f.counted.val v = f.val v := rfl
@[simp] theorem counted_word (f : Fj) (v : Loc) : f.counted.word v = f.word v := rfl
@[simp] theorem counted_flag (f : Fj) (v : Loc) : f.counted.flag v = f.flag v := rfl
@[simp] theorem counted_int (f : Fj) (v : Loc) : f.counted.int v = f.int v := rfl
@[simp] theorem counted_ph (f : Fj) (v : Loc) : f.counted.ph v = f.ph v := rfl
@[simp] theorem counted_rd (f : Fj) (a : Nat) : f.counted.rd a = f.rd a := rfl
@[simp] theorem counted_noWrite (f : Fj) (a : Nat) : f.counted.noWrite a = f.noWrite a := rfl
@[simp] theorem counted_noWrites (f : Fj) (a n : Nat) : f.counted.noWrites a n = f.noWrites a n := rfl
@[simp] theorem counted_te (f : Fj) : f.counted.te = f.te := rfl
@[simp] theorem counted_timer (f : Fj) (i : Nat) : f.counted.timer i = f.timer i := rfl
@[simp] theorem counted_tIll (f : Fj) (i m : Nat) : f.counted.tIll i m = f.tIll i m := rfl
@[simp] theorem counted_tOut (f : Fj) (i : Nat) : f.counted.tOut i = f.tOut i := rfl
@[simp] theorem counted_kindOf (f : Fj) (k : Nat) : f.counted.kindOf k = f.kindOf k := rfl
@[simp] theorem counted_img (f : Fj) : f.counted.img = f.img := rfl
@[simp] theorem counted_c (f : Fj) : f.counted.c = f.c := rfl
@[simp] theorem counted_t (f : Fj) : f.counted.t = f.t := rfl
@[simp] theorem counted_inH (f : Fj) : f.counted.inH = f.inH := rfl
@[simp] theorem counted_pc (f : Fj) : f.counted.x.pc = f.x.pc := rfl
@[simp] theorem counted_rstack (f : Fj) : f.counted.x.rstack = f.x.rstack := rfl
@[simp] theorem counted_flags (f : Fj) : f.counted.x.flags = f.x.flags := rfl
@[simp] theorem counted_prog (f : Fj) : f.counted.x.prog = f.x.prog := rfl
@[simp] theorem counted_header (f : Fj) (x : Nat) (m : Bool) : f.counted.header x m = f.header x m := rfl
@[simp] theorem counted_curvTable (f : Fj) (a : Nat) : f.counted.curvTable a = f.curvTable a := rfl
/-- Inside a LOCK section before the instruction is inside it after counting. -/
@[simp] theorem counted_locked (f : Fj) : f.counted.locked = f.locked := by
  simp only [Fj.locked, Fj.counted]; split <;> simp_all

/-- A local of an allowed type has one of the types. -/
theorem is_mem {f : Fj} {l : List Ty} {v : Loc} (h : f.is l v = true) : f.ty v ∈ l := by
  simp only [Fj.is, Bool.and_eq_true, List.contains_iff_mem] at h; exact h.2

/-- Operands of one type of a set: the first is of a type of the set. -/
theorem same_head {f : Fj} {l : List Ty} {v : Loc} {r : List Loc} (h : f.same l (v :: r) = true) : f.is l v = true := by
  simp only [Fj.same, List.all_cons, Bool.and_eq_true] at h; exact h.1.1

/-- Counting keeps the count zero outside a LOCK section. -/
theorem counted_free {f : Fj} (h : f.x.lockcnt = 0) : f.counted.x.lockcnt = 0 := by simp [Fj.counted, h]
theorem counted_held {f : Fj} (h : f.x.lockcnt ≠ 0) : f.counted.x.lockcnt ≠ 0 := by simp [Fj.counted, h]

/-- An instruction whose bytes may be fetched gives the outcome of its own steps. -/
theorem fj_ready {b : Block} {slot len : Nat} {f : Fj} (h : FjReady b slot len f) (body : Fj → FjOut) :
    b.fj slot len body = (b.fjPut slot len f.x.lockcnt (body f.counted)).debugAfter slot := by
  obtain ⟨h1, h2, h3⟩ := h
  have h4 : ¬ f.img.code < f.x.pc + len := by omega
  simp only [Block.fj, h1, h2, h4, if_false, Fj.counted]

/-- The same as a completed command. -/
theorem fj_gives {i : Instr} {s : State} {slot len : Nat} {f : Fj} {body : Fj → FjOut} {o : FjOut}
    (h : FjReady s.blk slot len f) (hi : exec i s = s.done (s.blk.fj slot len body)) (ho : body f.counted = o) :
    FjEnds i s slot len f o := by
  subst ho; rw [FjEnds, Gives, hi, fj_ready h]; rfl

/-- Outside a LOCK section counting changes nothing. -/
theorem counted_self {f : Fj} (h : f.x.lockcnt = 0) : f.counted = f := by
  have e : ({ f.x with lockcnt := if f.x.lockcnt = 0 then 0 else f.x.lockcnt + 1 } : Ctx) = f.x := by
    rw [if_pos h, ← h]
  rw [Fj.counted, e]

/-- A long instruction runs to its end when every element succeeds and nothing waits at a boundary. `G k` is what the first `k`
elements leave. -/
theorem fjElems_runs {body : Fj → Nat → Nat → Nat × Fj × Nat} {fin_ : Fj → Nat → Fj} (G : Nat → Fj × Nat) (n : Nat)
    (hb : ∀ k < n, body (G k).1 k (G k).2 = (0, (G (k + 1)).1, (G (k + 1)).2)) (hw : ∀ k ≤ n, (G k).1.wanted = false) :
    ∀ fuel k, n ≤ k + fuel → k ≤ n → fjElems body fin_ fuel k n (G k).1 (G k).2 = { f := fin_ (G n).1 (G n).2 } := by
  intro fuel
  induction fuel with
  | zero => intro k h1 h2; have e : k = n := by omega
            subst e; rfl
  | succ m ih =>
    intro k h1 h2
    unfold fjElems
    split
    · have e : k = n := by omega
      subst e; rfl
    · have hk : k < n := by omega
      rw [hb k hk]
      simp only [ne_eq, not_true_eq_false, if_false, hw (k + 1) hk, Bool.and_false, Bool.false_eq_true]
      exact ih (k + 1) (by omega) hk

/-- What decides whether a task of higher priority waits is none of the words, locals or flags that an element writes. -/
theorem wr_wanted (f : Fj) (a : Nat) (w : Word) : (f.wr a w).wanted = f.wanted := by
  simp only [Fj.wr, Fj.wrMask]; (repeat split) <;> rfl
theorem flags_wanted (f : Fj) (r : FFlags) : (f.flags r).wanted = f.wanted := rfl

/-- A fold over the elements keeps what every element keeps. -/
theorem fold_keeps {α β : Type} (g : α → Nat → α) (p : α → β) (h : ∀ x i, p (g x i) = p x) (x : α) (n : Nat) :
    p ((List.range n).foldl g x) = p x := by
  induction n with
  | zero => rfl
  | succ n ih => rw [List.range_succ, List.foldl_append]; simp [h, ih]

end Sys2Proof.Machine
end

