-- ==== Sys2Proof/Laws/Ops.lean ====
section
/-! SUPPORT. The frames of the shared operations: what raising an event, counting a fault, answering a request and ordering a
flash write leave alone. -/

namespace Sys2Proof.Machine
open Sys2Proof

/-! ### A cause at a vector touches the mailbox side alone -/

@[simp] theorem vecCause_lands (v : Nat) (b : Block) : (b.vecCause v).lands = b.lands := rfl
@[simp] theorem vecCause_nv (v : Nat) (b : Block) : (b.vecCause v).nv = b.nv := rfl
@[simp] theorem vecCause_sys (v : Nat) (b : Block) : (b.vecCause v).sys = b.sys := rfl
@[simp] theorem vecCause_time (v : Nat) (b : Block) : (b.vecCause v).time = b.time := rfl
@[simp] theorem vecCause_evr (v : Nat) (b : Block) : (b.vecCause v).evr = b.evr := rfl
@[simp] theorem vecCause_flt (v : Nat) (b : Block) : (b.vecCause v).flt = b.flt := rfl
@[simp] theorem vecCause_cnv (v : Nat) (b : Block) : (b.vecCause v).cnv = b.cnv := rfl
@[simp] theorem vecCause_acc (v : Nat) (b : Block) : (b.vecCause v).acc = b.acc := rfl
@[simp] theorem vecCause_bs (v : Nat) (b : Block) : (b.vecCause v).bs = b.bs := rfl
@[simp] theorem vecCause_fside (v : Nat) (b : Block) : (b.vecCause v).fside = b.fside := rfl
@[simp] theorem vecCause_bar (v : Nat) (b : Block) : (b.vecCause v).bar = b.bar := rfl
@[simp] theorem vecCause_wheel (v : Nat) (b : Block) : (b.vecCause v).wheel = b.wheel := rfl
@[simp] theorem vecCause_elm (v : Nat) (b : Block) : (b.vecCause v).elm = b.elm := rfl
@[simp] theorem vecCause_lgc (v : Nat) (b : Block) : (b.vecCause v).lgc = b.lgc := rfl
@[simp] theorem vecCause_net (v : Nat) (b : Block) : (b.vecCause v).net = b.net := rfl
@[simp] theorem vecCause_fab (v : Nat) (b : Block) : (b.vecCause v).fab = b.fab := rfl
@[simp] theorem vecCause_dist (v : Nat) (b : Block) : (b.vecCause v).dist = b.dist := rfl
@[simp] theorem vecCause_snap (v : Nat) (b : Block) : (b.vecCause v).snap = b.snap := rfl
@[simp] theorem vecCause_fresh (v : Nat) (b : Block) : (b.vecCause v).fresh = b.fresh := rfl
@[simp] theorem vecCause_accepted (v : Nat) (b : Block) : (b.vecCause v).mbx.accepted = b.mbx.accepted := rfl
@[simp] theorem vecCause_clients (v : Nat) (b : Block) : (b.vecCause v).mbx.clients = b.mbx.clients := rfl
@[simp] theorem vecCause_srcPend (v : Nat) (b : Block) : (b.vecCause v).mbx.srcPend = b.mbx.srcPend := rfl
@[simp] theorem vecCause_routes (v : Nat) (b : Block) : (b.vecCause v).mbx.routes = b.mbx.routes := rfl

/-! ### A quantity touches the recorder alone -/

@[simp] theorem quantity_lands (n : Nat) (q : Int) (b : Block) : (b.quantity n q).lands = b.lands := rfl
@[simp] theorem quantity_nv (n : Nat) (q : Int) (b : Block) : (b.quantity n q).nv = b.nv := rfl
@[simp] theorem quantity_sys (n : Nat) (q : Int) (b : Block) : (b.quantity n q).sys = b.sys := rfl
@[simp] theorem quantity_time (n : Nat) (q : Int) (b : Block) : (b.quantity n q).time = b.time := rfl
@[simp] theorem quantity_mbx (n : Nat) (q : Int) (b : Block) : (b.quantity n q).mbx = b.mbx := rfl
@[simp] theorem quantity_flt (n : Nat) (q : Int) (b : Block) : (b.quantity n q).flt = b.flt := rfl
@[simp] theorem quantity_cnv (n : Nat) (q : Int) (b : Block) : (b.quantity n q).cnv = b.cnv := rfl
@[simp] theorem quantity_acc (n : Nat) (q : Int) (b : Block) : (b.quantity n q).acc = b.acc := rfl
@[simp] theorem quantity_bs (n : Nat) (q : Int) (b : Block) : (b.quantity n q).bs = b.bs := rfl
@[simp] theorem quantity_fside (n : Nat) (q : Int) (b : Block) : (b.quantity n q).fside = b.fside := rfl
@[simp] theorem quantity_bar (n : Nat) (q : Int) (b : Block) : (b.quantity n q).bar = b.bar := rfl
@[simp] theorem quantity_wheel (n : Nat) (q : Int) (b : Block) : (b.quantity n q).wheel = b.wheel := rfl
@[simp] theorem quantity_elm (n : Nat) (q : Int) (b : Block) : (b.quantity n q).elm = b.elm := rfl
@[simp] theorem quantity_lgc (n : Nat) (q : Int) (b : Block) : (b.quantity n q).lgc = b.lgc := rfl
@[simp] theorem quantity_net (n : Nat) (q : Int) (b : Block) : (b.quantity n q).net = b.net := rfl
@[simp] theorem quantity_fab (n : Nat) (q : Int) (b : Block) : (b.quantity n q).fab = b.fab := rfl
@[simp] theorem quantity_dist (n : Nat) (q : Int) (b : Block) : (b.quantity n q).dist = b.dist := rfl
@[simp] theorem quantity_snap (n : Nat) (q : Int) (b : Block) : (b.quantity n q).snap = b.snap := rfl
@[simp] theorem quantity_fresh (n : Nat) (q : Int) (b : Block) : (b.quantity n q).fresh = b.fresh := rfl
@[simp] theorem quantity_notes (n : Nat) (q : Int) (b : Block) : (b.quantity n q).evr.notes = b.evr.notes := rfl
@[simp] theorem quantity_started (n : Nat) (q : Int) (b : Block) : (b.quantity n q).evr.started = b.evr.started := rfl
@[simp] theorem quantity_col (n : Nat) (q : Int) (b : Block) : (b.quantity n q).evr.col = b.evr.col := rfl
@[simp] theorem quantity_hw (n : Nat) (q : Int) (b : Block) : (b.quantity n q).evr.hw = b.evr.hw := rfl
@[simp] theorem quantity_pcycle (n : Nat) (q : Int) (b : Block) : (b.quantity n q).evr.pcycle = b.evr.pcycle := rfl

/-! ### A notification touches vectors, SUPPRESSED and the recorder -/

@[simp] theorem notify_lands (n : Nat) (st : Stamp) (q : Option Int) (u : Nat) (b : Block) : (b.notify n st q u).lands = b.lands := rfl
@[simp] theorem notify_sys (n : Nat) (st : Stamp) (q : Option Int) (u : Nat) (b : Block) : (b.notify n st q u).sys = b.sys := rfl
@[simp] theorem notify_time (n : Nat) (st : Stamp) (q : Option Int) (u : Nat) (b : Block) : (b.notify n st q u).time = b.time := rfl
@[simp] theorem notify_flt (n : Nat) (st : Stamp) (q : Option Int) (u : Nat) (b : Block) : (b.notify n st q u).flt = b.flt := rfl
@[simp] theorem notify_cnv (n : Nat) (st : Stamp) (q : Option Int) (u : Nat) (b : Block) : (b.notify n st q u).cnv = b.cnv := rfl
@[simp] theorem notify_acc (n : Nat) (st : Stamp) (q : Option Int) (u : Nat) (b : Block) : (b.notify n st q u).acc = b.acc := rfl
@[simp] theorem notify_bs (n : Nat) (st : Stamp) (q : Option Int) (u : Nat) (b : Block) : (b.notify n st q u).bs = b.bs := rfl
@[simp] theorem notify_fside (n : Nat) (st : Stamp) (q : Option Int) (u : Nat) (b : Block) : (b.notify n st q u).fside = b.fside := rfl
@[simp] theorem notify_bar (n : Nat) (st : Stamp) (q : Option Int) (u : Nat) (b : Block) : (b.notify n st q u).bar = b.bar := rfl
@[simp] theorem notify_wheel (n : Nat) (st : Stamp) (q : Option Int) (u : Nat) (b : Block) : (b.notify n st q u).wheel = b.wheel := rfl
@[simp] theorem notify_elm (n : Nat) (st : Stamp) (q : Option Int) (u : Nat) (b : Block) : (b.notify n st q u).elm = b.elm := rfl
@[simp] theorem notify_lgc (n : Nat) (st : Stamp) (q : Option Int) (u : Nat) (b : Block) : (b.notify n st q u).lgc = b.lgc := rfl
@[simp] theorem notify_net (n : Nat) (st : Stamp) (q : Option Int) (u : Nat) (b : Block) : (b.notify n st q u).net = b.net := rfl
@[simp] theorem notify_fab (n : Nat) (st : Stamp) (q : Option Int) (u : Nat) (b : Block) : (b.notify n st q u).fab = b.fab := rfl
@[simp] theorem notify_dist (n : Nat) (st : Stamp) (q : Option Int) (u : Nat) (b : Block) : (b.notify n st q u).dist = b.dist := rfl
@[simp] theorem notify_snap (n : Nat) (st : Stamp) (q : Option Int) (u : Nat) (b : Block) : (b.notify n st q u).snap = b.snap := rfl
@[simp] theorem notify_fresh (n : Nat) (st : Stamp) (q : Option Int) (u : Nat) (b : Block) : (b.notify n st q u).fresh = b.fresh := rfl
@[simp] theorem notify_fuse (n : Nat) (st : Stamp) (q : Option Int) (u : Nat) (b : Block) : (b.notify n st q u).nv.fuse = b.nv.fuse := rfl
@[simp] theorem notify_jobs (n : Nat) (st : Stamp) (q : Option Int) (u : Nat) (b : Block) : (b.notify n st q u).nv.jobs = b.nv.jobs := rfl
@[simp] theorem notify_store (n : Nat) (st : Stamp) (q : Option Int) (u : Nat) (b : Block) : (b.notify n st q u).nv.store = b.nv.store := rfl
@[simp] theorem notify_accepted (n : Nat) (st : Stamp) (q : Option Int) (u : Nat) (b : Block) : (b.notify n st q u).mbx.accepted = b.mbx.accepted := rfl
@[simp] theorem notify_clients (n : Nat) (st : Stamp) (q : Option Int) (u : Nat) (b : Block) : (b.notify n st q u).mbx.clients = b.mbx.clients := rfl
@[simp] theorem notify_started (n : Nat) (st : Stamp) (q : Option Int) (u : Nat) (b : Block) : (b.notify n st q u).evr.started = b.evr.started := rfl

/-! ### So does the colander -/

@[simp] theorem sieve_lands (n : Nat) (st : Stamp) (q : Option Int) (u : Nat) (b : Block) : (b.sieve n st q u).lands = b.lands := by unfold Block.sieve; dsimp only; split <;> simp
@[simp] theorem sieve_sys (n : Nat) (st : Stamp) (q : Option Int) (u : Nat) (b : Block) : (b.sieve n st q u).sys = b.sys := by unfold Block.sieve; dsimp only; split <;> simp
@[simp] theorem sieve_time (n : Nat) (st : Stamp) (q : Option Int) (u : Nat) (b : Block) : (b.sieve n st q u).time = b.time := by unfold Block.sieve; dsimp only; split <;> simp
@[simp] theorem sieve_flt (n : Nat) (st : Stamp) (q : Option Int) (u : Nat) (b : Block) : (b.sieve n st q u).flt = b.flt := by unfold Block.sieve; dsimp only; split <;> simp
@[simp] theorem sieve_cnv (n : Nat) (st : Stamp) (q : Option Int) (u : Nat) (b : Block) : (b.sieve n st q u).cnv = b.cnv := by unfold Block.sieve; dsimp only; split <;> simp
@[simp] theorem sieve_acc (n : Nat) (st : Stamp) (q : Option Int) (u : Nat) (b : Block) : (b.sieve n st q u).acc = b.acc := by unfold Block.sieve; dsimp only; split <;> simp
@[simp] theorem sieve_bs (n : Nat) (st : Stamp) (q : Option Int) (u : Nat) (b : Block) : (b.sieve n st q u).bs = b.bs := by unfold Block.sieve; dsimp only; split <;> simp
@[simp] theorem sieve_fside (n : Nat) (st : Stamp) (q : Option Int) (u : Nat) (b : Block) : (b.sieve n st q u).fside = b.fside := by unfold Block.sieve; dsimp only; split <;> simp
@[simp] theorem sieve_bar (n : Nat) (st : Stamp) (q : Option Int) (u : Nat) (b : Block) : (b.sieve n st q u).bar = b.bar := by unfold Block.sieve; dsimp only; split <;> simp
@[simp] theorem sieve_wheel (n : Nat) (st : Stamp) (q : Option Int) (u : Nat) (b : Block) : (b.sieve n st q u).wheel = b.wheel := by unfold Block.sieve; dsimp only; split <;> simp
@[simp] theorem sieve_elm (n : Nat) (st : Stamp) (q : Option Int) (u : Nat) (b : Block) : (b.sieve n st q u).elm = b.elm := by unfold Block.sieve; dsimp only; split <;> simp
@[simp] theorem sieve_lgc (n : Nat) (st : Stamp) (q : Option Int) (u : Nat) (b : Block) : (b.sieve n st q u).lgc = b.lgc := by unfold Block.sieve; dsimp only; split <;> simp
@[simp] theorem sieve_net (n : Nat) (st : Stamp) (q : Option Int) (u : Nat) (b : Block) : (b.sieve n st q u).net = b.net := by unfold Block.sieve; dsimp only; split <;> simp
@[simp] theorem sieve_fab (n : Nat) (st : Stamp) (q : Option Int) (u : Nat) (b : Block) : (b.sieve n st q u).fab = b.fab := by unfold Block.sieve; dsimp only; split <;> simp
@[simp] theorem sieve_dist (n : Nat) (st : Stamp) (q : Option Int) (u : Nat) (b : Block) : (b.sieve n st q u).dist = b.dist := by unfold Block.sieve; dsimp only; split <;> simp
@[simp] theorem sieve_snap (n : Nat) (st : Stamp) (q : Option Int) (u : Nat) (b : Block) : (b.sieve n st q u).snap = b.snap := by unfold Block.sieve; dsimp only; split <;> simp
@[simp] theorem sieve_fresh (n : Nat) (st : Stamp) (q : Option Int) (u : Nat) (b : Block) : (b.sieve n st q u).fresh = b.fresh := by unfold Block.sieve; dsimp only; split <;> simp
@[simp] theorem sieve_fuse (n : Nat) (st : Stamp) (q : Option Int) (u : Nat) (b : Block) : (b.sieve n st q u).nv.fuse = b.nv.fuse := by unfold Block.sieve; dsimp only; split <;> simp
@[simp] theorem sieve_jobs (n : Nat) (st : Stamp) (q : Option Int) (u : Nat) (b : Block) : (b.sieve n st q u).nv.jobs = b.nv.jobs := by unfold Block.sieve; dsimp only; split <;> simp
@[simp] theorem sieve_store (n : Nat) (st : Stamp) (q : Option Int) (u : Nat) (b : Block) : (b.sieve n st q u).nv.store = b.nv.store := by unfold Block.sieve; dsimp only; split <;> simp
@[simp] theorem sieve_accepted (n : Nat) (st : Stamp) (q : Option Int) (u : Nat) (b : Block) : (b.sieve n st q u).mbx.accepted = b.mbx.accepted := by unfold Block.sieve; dsimp only; split <;> simp
@[simp] theorem sieve_clients (n : Nat) (st : Stamp) (q : Option Int) (u : Nat) (b : Block) : (b.sieve n st q u).mbx.clients = b.mbx.clients := by unfold Block.sieve; dsimp only; split <;> simp
@[simp] theorem sieve_started (n : Nat) (st : Stamp) (q : Option Int) (u : Nat) (b : Block) : (b.sieve n st q u).evr.started = b.evr.started := by unfold Block.sieve; dsimp only; split <;> simp

/-! ### So does a raise -/

@[simp] theorem raiseAt_lands (n : Nat) (st : Stamp) (q : Option Int) (u : Nat) (b : Block) : (b.raiseAt n st q u).lands = b.lands := by unfold Block.raiseAt; cases q <;> dsimp only <;> split <;> simp
@[simp] theorem raiseAt_sys (n : Nat) (st : Stamp) (q : Option Int) (u : Nat) (b : Block) : (b.raiseAt n st q u).sys = b.sys := by unfold Block.raiseAt; cases q <;> dsimp only <;> split <;> simp
@[simp] theorem raiseAt_time (n : Nat) (st : Stamp) (q : Option Int) (u : Nat) (b : Block) : (b.raiseAt n st q u).time = b.time := by unfold Block.raiseAt; cases q <;> dsimp only <;> split <;> simp
@[simp] theorem raiseAt_flt (n : Nat) (st : Stamp) (q : Option Int) (u : Nat) (b : Block) : (b.raiseAt n st q u).flt = b.flt := by unfold Block.raiseAt; cases q <;> dsimp only <;> split <;> simp
@[simp] theorem raiseAt_cnv (n : Nat) (st : Stamp) (q : Option Int) (u : Nat) (b : Block) : (b.raiseAt n st q u).cnv = b.cnv := by unfold Block.raiseAt; cases q <;> dsimp only <;> split <;> simp
@[simp] theorem raiseAt_acc (n : Nat) (st : Stamp) (q : Option Int) (u : Nat) (b : Block) : (b.raiseAt n st q u).acc = b.acc := by unfold Block.raiseAt; cases q <;> dsimp only <;> split <;> simp
@[simp] theorem raiseAt_bs (n : Nat) (st : Stamp) (q : Option Int) (u : Nat) (b : Block) : (b.raiseAt n st q u).bs = b.bs := by unfold Block.raiseAt; cases q <;> dsimp only <;> split <;> simp
@[simp] theorem raiseAt_fside (n : Nat) (st : Stamp) (q : Option Int) (u : Nat) (b : Block) : (b.raiseAt n st q u).fside = b.fside := by unfold Block.raiseAt; cases q <;> dsimp only <;> split <;> simp
@[simp] theorem raiseAt_bar (n : Nat) (st : Stamp) (q : Option Int) (u : Nat) (b : Block) : (b.raiseAt n st q u).bar = b.bar := by unfold Block.raiseAt; cases q <;> dsimp only <;> split <;> simp
@[simp] theorem raiseAt_wheel (n : Nat) (st : Stamp) (q : Option Int) (u : Nat) (b : Block) : (b.raiseAt n st q u).wheel = b.wheel := by unfold Block.raiseAt; cases q <;> dsimp only <;> split <;> simp
@[simp] theorem raiseAt_elm (n : Nat) (st : Stamp) (q : Option Int) (u : Nat) (b : Block) : (b.raiseAt n st q u).elm = b.elm := by unfold Block.raiseAt; cases q <;> dsimp only <;> split <;> simp
@[simp] theorem raiseAt_lgc (n : Nat) (st : Stamp) (q : Option Int) (u : Nat) (b : Block) : (b.raiseAt n st q u).lgc = b.lgc := by unfold Block.raiseAt; cases q <;> dsimp only <;> split <;> simp
@[simp] theorem raiseAt_net (n : Nat) (st : Stamp) (q : Option Int) (u : Nat) (b : Block) : (b.raiseAt n st q u).net = b.net := by unfold Block.raiseAt; cases q <;> dsimp only <;> split <;> simp
@[simp] theorem raiseAt_fab (n : Nat) (st : Stamp) (q : Option Int) (u : Nat) (b : Block) : (b.raiseAt n st q u).fab = b.fab := by unfold Block.raiseAt; cases q <;> dsimp only <;> split <;> simp
@[simp] theorem raiseAt_dist (n : Nat) (st : Stamp) (q : Option Int) (u : Nat) (b : Block) : (b.raiseAt n st q u).dist = b.dist := by unfold Block.raiseAt; cases q <;> dsimp only <;> split <;> simp
@[simp] theorem raiseAt_snap (n : Nat) (st : Stamp) (q : Option Int) (u : Nat) (b : Block) : (b.raiseAt n st q u).snap = b.snap := by unfold Block.raiseAt; cases q <;> dsimp only <;> split <;> simp
@[simp] theorem raiseAt_fresh (n : Nat) (st : Stamp) (q : Option Int) (u : Nat) (b : Block) : (b.raiseAt n st q u).fresh = b.fresh := by unfold Block.raiseAt; cases q <;> dsimp only <;> split <;> simp
@[simp] theorem raiseAt_fuse (n : Nat) (st : Stamp) (q : Option Int) (u : Nat) (b : Block) : (b.raiseAt n st q u).nv.fuse = b.nv.fuse := by unfold Block.raiseAt; cases q <;> dsimp only <;> split <;> simp
@[simp] theorem raiseAt_jobs (n : Nat) (st : Stamp) (q : Option Int) (u : Nat) (b : Block) : (b.raiseAt n st q u).nv.jobs = b.nv.jobs := by unfold Block.raiseAt; cases q <;> dsimp only <;> split <;> simp
@[simp] theorem raiseAt_store (n : Nat) (st : Stamp) (q : Option Int) (u : Nat) (b : Block) : (b.raiseAt n st q u).nv.store = b.nv.store := by unfold Block.raiseAt; cases q <;> dsimp only <;> split <;> simp
@[simp] theorem raiseAt_accepted (n : Nat) (st : Stamp) (q : Option Int) (u : Nat) (b : Block) : (b.raiseAt n st q u).mbx.accepted = b.mbx.accepted := by unfold Block.raiseAt; cases q <;> dsimp only <;> split <;> simp
@[simp] theorem raiseAt_clients (n : Nat) (st : Stamp) (q : Option Int) (u : Nat) (b : Block) : (b.raiseAt n st q u).mbx.clients = b.mbx.clients := by unfold Block.raiseAt; cases q <;> dsimp only <;> split <;> simp
@[simp] theorem raiseAt_started (n : Nat) (st : Stamp) (q : Option Int) (u : Nat) (b : Block) : (b.raiseAt n st q u).evr.started = b.evr.started := by unfold Block.raiseAt; cases q <;> dsimp only <;> split <;> simp

@[simp] theorem raise_lands (n : Nat) (q : Int) (b : Block) : (b.raise n q).lands = b.lands := by simp [Block.raise]
@[simp] theorem raise_sys (n : Nat) (q : Int) (b : Block) : (b.raise n q).sys = b.sys := by simp [Block.raise]
@[simp] theorem raise_time (n : Nat) (q : Int) (b : Block) : (b.raise n q).time = b.time := by simp [Block.raise]
@[simp] theorem raise_flt (n : Nat) (q : Int) (b : Block) : (b.raise n q).flt = b.flt := by simp [Block.raise]
@[simp] theorem raise_cnv (n : Nat) (q : Int) (b : Block) : (b.raise n q).cnv = b.cnv := by simp [Block.raise]
@[simp] theorem raise_acc (n : Nat) (q : Int) (b : Block) : (b.raise n q).acc = b.acc := by simp [Block.raise]
@[simp] theorem raise_bs (n : Nat) (q : Int) (b : Block) : (b.raise n q).bs = b.bs := by simp [Block.raise]
@[simp] theorem raise_fside (n : Nat) (q : Int) (b : Block) : (b.raise n q).fside = b.fside := by simp [Block.raise]
@[simp] theorem raise_bar (n : Nat) (q : Int) (b : Block) : (b.raise n q).bar = b.bar := by simp [Block.raise]
@[simp] theorem raise_wheel (n : Nat) (q : Int) (b : Block) : (b.raise n q).wheel = b.wheel := by simp [Block.raise]
@[simp] theorem raise_elm (n : Nat) (q : Int) (b : Block) : (b.raise n q).elm = b.elm := by simp [Block.raise]
@[simp] theorem raise_lgc (n : Nat) (q : Int) (b : Block) : (b.raise n q).lgc = b.lgc := by simp [Block.raise]
@[simp] theorem raise_net (n : Nat) (q : Int) (b : Block) : (b.raise n q).net = b.net := by simp [Block.raise]
@[simp] theorem raise_fab (n : Nat) (q : Int) (b : Block) : (b.raise n q).fab = b.fab := by simp [Block.raise]
@[simp] theorem raise_dist (n : Nat) (q : Int) (b : Block) : (b.raise n q).dist = b.dist := by simp [Block.raise]
@[simp] theorem raise_snap (n : Nat) (q : Int) (b : Block) : (b.raise n q).snap = b.snap := by simp [Block.raise]
@[simp] theorem raise_fresh (n : Nat) (q : Int) (b : Block) : (b.raise n q).fresh = b.fresh := by simp [Block.raise]
@[simp] theorem raise_fuse (n : Nat) (q : Int) (b : Block) : (b.raise n q).nv.fuse = b.nv.fuse := by simp [Block.raise]
@[simp] theorem raise_jobs (n : Nat) (q : Int) (b : Block) : (b.raise n q).nv.jobs = b.nv.jobs := by simp [Block.raise]
@[simp] theorem raise_store (n : Nat) (q : Int) (b : Block) : (b.raise n q).nv.store = b.nv.store := by simp [Block.raise]
@[simp] theorem raise_accepted (n : Nat) (q : Int) (b : Block) : (b.raise n q).mbx.accepted = b.mbx.accepted := by simp [Block.raise]
@[simp] theorem raise_clients (n : Nat) (q : Int) (b : Block) : (b.raise n q).mbx.clients = b.mbx.clients := by simp [Block.raise]
@[simp] theorem raise_started (n : Nat) (q : Int) (b : Block) : (b.raise n q).evr.started = b.evr.started := by simp [Block.raise]

@[simp] theorem raiseOpen_lands (n : Nat) (b : Block) : (b.raiseOpen n).lands = b.lands := by simp [Block.raiseOpen]
@[simp] theorem raiseOpen_sys (n : Nat) (b : Block) : (b.raiseOpen n).sys = b.sys := by simp [Block.raiseOpen]
@[simp] theorem raiseOpen_time (n : Nat) (b : Block) : (b.raiseOpen n).time = b.time := by simp [Block.raiseOpen]
@[simp] theorem raiseOpen_flt (n : Nat) (b : Block) : (b.raiseOpen n).flt = b.flt := by simp [Block.raiseOpen]
@[simp] theorem raiseOpen_cnv (n : Nat) (b : Block) : (b.raiseOpen n).cnv = b.cnv := by simp [Block.raiseOpen]
@[simp] theorem raiseOpen_acc (n : Nat) (b : Block) : (b.raiseOpen n).acc = b.acc := by simp [Block.raiseOpen]
@[simp] theorem raiseOpen_bs (n : Nat) (b : Block) : (b.raiseOpen n).bs = b.bs := by simp [Block.raiseOpen]
@[simp] theorem raiseOpen_fside (n : Nat) (b : Block) : (b.raiseOpen n).fside = b.fside := by simp [Block.raiseOpen]
@[simp] theorem raiseOpen_bar (n : Nat) (b : Block) : (b.raiseOpen n).bar = b.bar := by simp [Block.raiseOpen]
@[simp] theorem raiseOpen_wheel (n : Nat) (b : Block) : (b.raiseOpen n).wheel = b.wheel := by simp [Block.raiseOpen]
@[simp] theorem raiseOpen_elm (n : Nat) (b : Block) : (b.raiseOpen n).elm = b.elm := by simp [Block.raiseOpen]
@[simp] theorem raiseOpen_lgc (n : Nat) (b : Block) : (b.raiseOpen n).lgc = b.lgc := by simp [Block.raiseOpen]
@[simp] theorem raiseOpen_net (n : Nat) (b : Block) : (b.raiseOpen n).net = b.net := by simp [Block.raiseOpen]
@[simp] theorem raiseOpen_fab (n : Nat) (b : Block) : (b.raiseOpen n).fab = b.fab := by simp [Block.raiseOpen]
@[simp] theorem raiseOpen_dist (n : Nat) (b : Block) : (b.raiseOpen n).dist = b.dist := by simp [Block.raiseOpen]
@[simp] theorem raiseOpen_snap (n : Nat) (b : Block) : (b.raiseOpen n).snap = b.snap := by simp [Block.raiseOpen]
@[simp] theorem raiseOpen_fresh (n : Nat) (b : Block) : (b.raiseOpen n).fresh = b.fresh := by simp [Block.raiseOpen]
@[simp] theorem raiseOpen_fuse (n : Nat) (b : Block) : (b.raiseOpen n).nv.fuse = b.nv.fuse := by simp [Block.raiseOpen]
@[simp] theorem raiseOpen_jobs (n : Nat) (b : Block) : (b.raiseOpen n).nv.jobs = b.nv.jobs := by simp [Block.raiseOpen]
@[simp] theorem raiseOpen_store (n : Nat) (b : Block) : (b.raiseOpen n).nv.store = b.nv.store := by simp [Block.raiseOpen]
@[simp] theorem raiseOpen_accepted (n : Nat) (b : Block) : (b.raiseOpen n).mbx.accepted = b.mbx.accepted := by simp [Block.raiseOpen]
@[simp] theorem raiseOpen_clients (n : Nat) (b : Block) : (b.raiseOpen n).mbx.clients = b.mbx.clients := by simp [Block.raiseOpen]
@[simp] theorem raiseOpen_started (n : Nat) (b : Block) : (b.raiseOpen n).evr.started = b.evr.started := by simp [Block.raiseOpen]

@[simp] theorem raiseIf_lands (c : Bool) (n : Nat) (q : Int) (b : Block) : (b.raiseIf c n q).lands = b.lands := by unfold Block.raiseIf; split <;> simp
@[simp] theorem raiseIf_sys (c : Bool) (n : Nat) (q : Int) (b : Block) : (b.raiseIf c n q).sys = b.sys := by unfold Block.raiseIf; split <;> simp
@[simp] theorem raiseIf_time (c : Bool) (n : Nat) (q : Int) (b : Block) : (b.raiseIf c n q).time = b.time := by unfold Block.raiseIf; split <;> simp
@[simp] theorem raiseIf_flt (c : Bool) (n : Nat) (q : Int) (b : Block) : (b.raiseIf c n q).flt = b.flt := by unfold Block.raiseIf; split <;> simp
@[simp] theorem raiseIf_cnv (c : Bool) (n : Nat) (q : Int) (b : Block) : (b.raiseIf c n q).cnv = b.cnv := by unfold Block.raiseIf; split <;> simp
@[simp] theorem raiseIf_acc (c : Bool) (n : Nat) (q : Int) (b : Block) : (b.raiseIf c n q).acc = b.acc := by unfold Block.raiseIf; split <;> simp
@[simp] theorem raiseIf_bs (c : Bool) (n : Nat) (q : Int) (b : Block) : (b.raiseIf c n q).bs = b.bs := by unfold Block.raiseIf; split <;> simp
@[simp] theorem raiseIf_fside (c : Bool) (n : Nat) (q : Int) (b : Block) : (b.raiseIf c n q).fside = b.fside := by unfold Block.raiseIf; split <;> simp
@[simp] theorem raiseIf_bar (c : Bool) (n : Nat) (q : Int) (b : Block) : (b.raiseIf c n q).bar = b.bar := by unfold Block.raiseIf; split <;> simp
@[simp] theorem raiseIf_wheel (c : Bool) (n : Nat) (q : Int) (b : Block) : (b.raiseIf c n q).wheel = b.wheel := by unfold Block.raiseIf; split <;> simp
@[simp] theorem raiseIf_elm (c : Bool) (n : Nat) (q : Int) (b : Block) : (b.raiseIf c n q).elm = b.elm := by unfold Block.raiseIf; split <;> simp
@[simp] theorem raiseIf_lgc (c : Bool) (n : Nat) (q : Int) (b : Block) : (b.raiseIf c n q).lgc = b.lgc := by unfold Block.raiseIf; split <;> simp
@[simp] theorem raiseIf_net (c : Bool) (n : Nat) (q : Int) (b : Block) : (b.raiseIf c n q).net = b.net := by unfold Block.raiseIf; split <;> simp
@[simp] theorem raiseIf_fab (c : Bool) (n : Nat) (q : Int) (b : Block) : (b.raiseIf c n q).fab = b.fab := by unfold Block.raiseIf; split <;> simp
@[simp] theorem raiseIf_dist (c : Bool) (n : Nat) (q : Int) (b : Block) : (b.raiseIf c n q).dist = b.dist := by unfold Block.raiseIf; split <;> simp
@[simp] theorem raiseIf_snap (c : Bool) (n : Nat) (q : Int) (b : Block) : (b.raiseIf c n q).snap = b.snap := by unfold Block.raiseIf; split <;> simp
@[simp] theorem raiseIf_fresh (c : Bool) (n : Nat) (q : Int) (b : Block) : (b.raiseIf c n q).fresh = b.fresh := by unfold Block.raiseIf; split <;> simp
@[simp] theorem raiseIf_fuse (c : Bool) (n : Nat) (q : Int) (b : Block) : (b.raiseIf c n q).nv.fuse = b.nv.fuse := by unfold Block.raiseIf; split <;> simp
@[simp] theorem raiseIf_jobs (c : Bool) (n : Nat) (q : Int) (b : Block) : (b.raiseIf c n q).nv.jobs = b.nv.jobs := by unfold Block.raiseIf; split <;> simp
@[simp] theorem raiseIf_store (c : Bool) (n : Nat) (q : Int) (b : Block) : (b.raiseIf c n q).nv.store = b.nv.store := by unfold Block.raiseIf; split <;> simp
@[simp] theorem raiseIf_accepted (c : Bool) (n : Nat) (q : Int) (b : Block) : (b.raiseIf c n q).mbx.accepted = b.mbx.accepted := by unfold Block.raiseIf; split <;> simp
@[simp] theorem raiseIf_clients (c : Bool) (n : Nat) (q : Int) (b : Block) : (b.raiseIf c n q).mbx.clients = b.mbx.clients := by unfold Block.raiseIf; split <;> simp
@[simp] theorem raiseIf_started (c : Bool) (n : Nat) (q : Int) (b : Block) : (b.raiseIf c n q).evr.started = b.evr.started := by unfold Block.raiseIf; split <;> simp

/-! ### A fault counted touches the counts, and DEGRADED -/

@[simp] theorem fault_lands (c : FClass) (b : Block) : (b.fault c).lands = b.lands := by cases c <;> rfl
@[simp] theorem fault_nv (c : FClass) (b : Block) : (b.fault c).nv = b.nv := by cases c <;> rfl
@[simp] theorem fault_time (c : FClass) (b : Block) : (b.fault c).time = b.time := by cases c <;> rfl
@[simp] theorem fault_evr (c : FClass) (b : Block) : (b.fault c).evr = b.evr := by cases c <;> rfl
@[simp] theorem fault_mbx (c : FClass) (b : Block) : (b.fault c).mbx = b.mbx := by cases c <;> rfl
@[simp] theorem fault_cnv (c : FClass) (b : Block) : (b.fault c).cnv = b.cnv := by cases c <;> rfl
@[simp] theorem fault_acc (c : FClass) (b : Block) : (b.fault c).acc = b.acc := by cases c <;> rfl
@[simp] theorem fault_bs (c : FClass) (b : Block) : (b.fault c).bs = b.bs := by cases c <;> rfl
@[simp] theorem fault_fside (c : FClass) (b : Block) : (b.fault c).fside = b.fside := by cases c <;> rfl
@[simp] theorem fault_bar (c : FClass) (b : Block) : (b.fault c).bar = b.bar := by cases c <;> rfl
@[simp] theorem fault_wheel (c : FClass) (b : Block) : (b.fault c).wheel = b.wheel := by cases c <;> rfl
@[simp] theorem fault_elm (c : FClass) (b : Block) : (b.fault c).elm = b.elm := by cases c <;> rfl
@[simp] theorem fault_lgc (c : FClass) (b : Block) : (b.fault c).lgc = b.lgc := by cases c <;> rfl
@[simp] theorem fault_net (c : FClass) (b : Block) : (b.fault c).net = b.net := by cases c <;> rfl
@[simp] theorem fault_fab (c : FClass) (b : Block) : (b.fault c).fab = b.fab := by cases c <;> rfl
@[simp] theorem fault_dist (c : FClass) (b : Block) : (b.fault c).dist = b.dist := by cases c <;> rfl
@[simp] theorem fault_snap (c : FClass) (b : Block) : (b.fault c).snap = b.snap := by cases c <;> rfl
@[simp] theorem fault_fresh (c : FClass) (b : Block) : (b.fault c).fresh = b.fresh := by cases c <;> rfl

/-! ### A request taken off touches the accepted list alone -/

@[simp] theorem drop_lands (r : Req) (b : Block) : (b.drop r).lands = b.lands := rfl
@[simp] theorem drop_nv (r : Req) (b : Block) : (b.drop r).nv = b.nv := rfl
@[simp] theorem drop_sys (r : Req) (b : Block) : (b.drop r).sys = b.sys := rfl
@[simp] theorem drop_time (r : Req) (b : Block) : (b.drop r).time = b.time := rfl
@[simp] theorem drop_evr (r : Req) (b : Block) : (b.drop r).evr = b.evr := rfl
@[simp] theorem drop_flt (r : Req) (b : Block) : (b.drop r).flt = b.flt := rfl
@[simp] theorem drop_cnv (r : Req) (b : Block) : (b.drop r).cnv = b.cnv := rfl
@[simp] theorem drop_acc (r : Req) (b : Block) : (b.drop r).acc = b.acc := rfl
@[simp] theorem drop_bs (r : Req) (b : Block) : (b.drop r).bs = b.bs := rfl
@[simp] theorem drop_fside (r : Req) (b : Block) : (b.drop r).fside = b.fside := rfl
@[simp] theorem drop_bar (r : Req) (b : Block) : (b.drop r).bar = b.bar := rfl
@[simp] theorem drop_wheel (r : Req) (b : Block) : (b.drop r).wheel = b.wheel := rfl
@[simp] theorem drop_elm (r : Req) (b : Block) : (b.drop r).elm = b.elm := rfl
@[simp] theorem drop_lgc (r : Req) (b : Block) : (b.drop r).lgc = b.lgc := rfl
@[simp] theorem drop_net (r : Req) (b : Block) : (b.drop r).net = b.net := rfl
@[simp] theorem drop_fab (r : Req) (b : Block) : (b.drop r).fab = b.fab := rfl
@[simp] theorem drop_dist (r : Req) (b : Block) : (b.drop r).dist = b.dist := rfl
@[simp] theorem drop_snap (r : Req) (b : Block) : (b.drop r).snap = b.snap := rfl
@[simp] theorem drop_fresh (r : Req) (b : Block) : (b.drop r).fresh = b.fresh := rfl
@[simp] theorem drop_clients (r : Req) (b : Block) : (b.drop r).mbx.clients = b.mbx.clients := rfl

/-! ### A flash order touches the queue of the flash alone -/

@[simp] theorem order_lands (j : Job) (b : Block) : (b.order j).lands = b.lands := rfl
@[simp] theorem order_sys (j : Job) (b : Block) : (b.order j).sys = b.sys := rfl
@[simp] theorem order_time (j : Job) (b : Block) : (b.order j).time = b.time := rfl
@[simp] theorem order_evr (j : Job) (b : Block) : (b.order j).evr = b.evr := rfl
@[simp] theorem order_mbx (j : Job) (b : Block) : (b.order j).mbx = b.mbx := rfl
@[simp] theorem order_flt (j : Job) (b : Block) : (b.order j).flt = b.flt := rfl
@[simp] theorem order_cnv (j : Job) (b : Block) : (b.order j).cnv = b.cnv := rfl
@[simp] theorem order_acc (j : Job) (b : Block) : (b.order j).acc = b.acc := rfl
@[simp] theorem order_bs (j : Job) (b : Block) : (b.order j).bs = b.bs := rfl
@[simp] theorem order_fside (j : Job) (b : Block) : (b.order j).fside = b.fside := rfl
@[simp] theorem order_bar (j : Job) (b : Block) : (b.order j).bar = b.bar := rfl
@[simp] theorem order_wheel (j : Job) (b : Block) : (b.order j).wheel = b.wheel := rfl
@[simp] theorem order_elm (j : Job) (b : Block) : (b.order j).elm = b.elm := rfl
@[simp] theorem order_lgc (j : Job) (b : Block) : (b.order j).lgc = b.lgc := rfl
@[simp] theorem order_net (j : Job) (b : Block) : (b.order j).net = b.net := rfl
@[simp] theorem order_fab (j : Job) (b : Block) : (b.order j).fab = b.fab := rfl
@[simp] theorem order_dist (j : Job) (b : Block) : (b.order j).dist = b.dist := rfl
@[simp] theorem order_snap (j : Job) (b : Block) : (b.order j).snap = b.snap := rfl
@[simp] theorem order_fresh (j : Job) (b : Block) : (b.order j).fresh = b.fresh := rfl
@[simp] theorem order_fuse (j : Job) (b : Block) : (b.order j).nv.fuse = b.nv.fuse := rfl
@[simp] theorem order_store (j : Job) (b : Block) : (b.order j).nv.store = b.nv.store := rfl

/-! ### A response delivered to a host client -/

@[simp] theorem deliver_lands (r : Rsp) (b : Block) : (b.deliver r).lands = b.lands := by
  unfold Block.deliver; dsimp only; split
  · simp
  · split
    · split <;> simp
    · simp
@[simp] theorem deliver_sys (r : Rsp) (b : Block) : (b.deliver r).sys = b.sys := by
  unfold Block.deliver; dsimp only; split
  · simp
  · split
    · split <;> simp
    · simp
@[simp] theorem deliver_time (r : Rsp) (b : Block) : (b.deliver r).time = b.time := by
  unfold Block.deliver; dsimp only; split
  · simp
  · split
    · split <;> simp
    · simp
@[simp] theorem deliver_flt (r : Rsp) (b : Block) : (b.deliver r).flt = b.flt := by
  unfold Block.deliver; dsimp only; split
  · simp
  · split
    · split <;> simp
    · simp
@[simp] theorem deliver_cnv (r : Rsp) (b : Block) : (b.deliver r).cnv = b.cnv := by
  unfold Block.deliver; dsimp only; split
  · simp
  · split
    · split <;> simp
    · simp
@[simp] theorem deliver_acc (r : Rsp) (b : Block) : (b.deliver r).acc = b.acc := by
  unfold Block.deliver; dsimp only; split
  · simp
  · split
    · split <;> simp
    · simp
@[simp] theorem deliver_bs (r : Rsp) (b : Block) : (b.deliver r).bs = b.bs := by
  unfold Block.deliver; dsimp only; split
  · simp
  · split
    · split <;> simp
    · simp
@[simp] theorem deliver_fside (r : Rsp) (b : Block) : (b.deliver r).fside = b.fside := by
  unfold Block.deliver; dsimp only; split
  · simp
  · split
    · split <;> simp
    · simp
@[simp] theorem deliver_bar (r : Rsp) (b : Block) : (b.deliver r).bar = b.bar := by
  unfold Block.deliver; dsimp only; split
  · simp
  · split
    · split <;> simp
    · simp
@[simp] theorem deliver_wheel (r : Rsp) (b : Block) : (b.deliver r).wheel = b.wheel := by
  unfold Block.deliver; dsimp only; split
  · simp
  · split
    · split <;> simp
    · simp
@[simp] theorem deliver_elm (r : Rsp) (b : Block) : (b.deliver r).elm = b.elm := by
  unfold Block.deliver; dsimp only; split
  · simp
  · split
    · split <;> simp
    · simp
@[simp] theorem deliver_lgc (r : Rsp) (b : Block) : (b.deliver r).lgc = b.lgc := by
  unfold Block.deliver; dsimp only; split
  · simp
  · split
    · split <;> simp
    · simp
@[simp] theorem deliver_net (r : Rsp) (b : Block) : (b.deliver r).net = b.net := by
  unfold Block.deliver; dsimp only; split
  · simp
  · split
    · split <;> simp
    · simp
@[simp] theorem deliver_fab (r : Rsp) (b : Block) : (b.deliver r).fab = b.fab := by
  unfold Block.deliver; dsimp only; split
  · simp
  · split
    · split <;> simp
    · simp
@[simp] theorem deliver_dist (r : Rsp) (b : Block) : (b.deliver r).dist = b.dist := by
  unfold Block.deliver; dsimp only; split
  · simp
  · split
    · split <;> simp
    · simp
@[simp] theorem deliver_snap (r : Rsp) (b : Block) : (b.deliver r).snap = b.snap := by
  unfold Block.deliver; dsimp only; split
  · simp
  · split
    · split <;> simp
    · simp
@[simp] theorem deliver_fresh (r : Rsp) (b : Block) : (b.deliver r).fresh = b.fresh := by
  unfold Block.deliver; dsimp only; split
  · simp
  · split
    · split <;> simp
    · simp
@[simp] theorem deliver_fuse (r : Rsp) (b : Block) : (b.deliver r).nv.fuse = b.nv.fuse := by
  unfold Block.deliver; dsimp only; split
  · simp
  · split
    · split <;> simp
    · simp
@[simp] theorem deliver_jobs (r : Rsp) (b : Block) : (b.deliver r).nv.jobs = b.nv.jobs := by
  unfold Block.deliver; dsimp only; split
  · simp
  · split
    · split <;> simp
    · simp
@[simp] theorem deliver_store (r : Rsp) (b : Block) : (b.deliver r).nv.store = b.nv.store := by
  unfold Block.deliver; dsimp only; split
  · simp
  · split
    · split <;> simp
    · simp
@[simp] theorem deliver_accepted (r : Rsp) (b : Block) : (b.deliver r).mbx.accepted = b.mbx.accepted := by
  unfold Block.deliver; dsimp only; split
  · simp
  · split
    · split <;> simp
    · simp
@[simp] theorem deliver_started (r : Rsp) (b : Block) : (b.deliver r).evr.started = b.evr.started := by
  unfold Block.deliver; dsimp only; split
  · simp
  · split
    · split <;> simp
    · simp

end Sys2Proof.Machine
end

