-- ==== Sys2Proof/Laws/Frames.lean ====
section
/-! SUPPORT. Frames of the engine's larger operations: what a step of the backstop, the recorder's look at the levels, a frame
queued at a port leave alone. -/

namespace Sys2Proof.Machine
open Sys2Proof

/-- A fold whose every step keeps a field keeps it. -/
theorem foldl_keeps {α β γ : Type} (p : β → γ) (f : β → α → β) (h : ∀ b x, p (f b x) = p b) (l : List α) (b : β) :
    p (l.foldl f b) = p b := by
  induction l generalizing b with
  | nil => rfl
  | cons x l ih => simp [ih, h]

/-- A fold none of whose steps does anything leaves everything as it was. -/
theorem foldl_idle {α β : Type} (f : β → α → β) (b : β) (l : List α) (h : ∀ x, x ∈ l → f b x = b) : l.foldl f b = b := by
  induction l with
  | nil => rfl
  | cons x l ih =>
    rw [List.foldl_cons, h x (by simp)]
    exact ih fun y hy => h y (by simp [hy])

@[simp] theorem distObserve_off {b : Block} (h : b.dist.run = false) : b.distObserve = b := by simp [Block.distObserve, h]
@[simp] theorem distTick_off {b : Block} (h : b.dist.manual = false) : b.distTick = b := by simp [Block.distTick, h]

theorem driveEnd_frame {γ : Type} (p : Block → γ) (hq : ∀ (n : Nat) (q : Int) (b : Block), p (b.quantity n q) = p b)
    (hb : ∀ (b : Block) (x : BsSt), p { b with bs := x } = p b) (j : Nat) (b : Block) : p (b.driveEnd j) = p b := by
  unfold Block.driveEnd; dsimp only; split
  · rw [hq, hb]
  · rfl

theorem groupStep_frame {γ : Type} (p : Block → γ) (hq : ∀ (n : Nat) (q : Int) (b : Block), p (b.quantity n q) = p b)
    (hr : ∀ (n : Nat) (b : Block), p (b.raiseOpen n) = p b)
    (hb : ∀ (b : Block) (x : BsSt), p { b with bs := x } = p b) (g : List Byte) (j : Nat) (b : Block) :
    p (b.groupStep g j) = p b := by
  unfold Block.groupStep; dsimp only; split
  · rw [hr, hb]
  · split
    · split
      · rw [driveEnd_frame p hq hb, hb]
      · rw [hb]
    · rfl

theorem groups_frame {γ : Type} (p : Block → γ) (hq : ∀ (n : Nat) (q : Int) (b : Block), p (b.quantity n q) = p b)
    (hr : ∀ (n : Nat) (b : Block), p (b.raiseOpen n) = p b)
    (hb : ∀ (b : Block) (x : BsSt), p { b with bs := x } = p b) (b : Block) : p b.groups = p b := by
  unfold Block.groups; split
  · rfl
  · exact foldl_keeps p _ (fun b j => groupStep_frame p hq hr hb _ j b) _ _

/-! ### The groups of the backstop touch its own state and the recorder -/

@[simp] theorem groups_lands (b : Block) : b.groups.lands = b.lands := groups_frame (·.lands) (by simp) (by simp) (by simp) b
@[simp] theorem groups_sys (b : Block) : b.groups.sys = b.sys := groups_frame (·.sys) (by simp) (by simp) (by simp) b
@[simp] theorem groups_time (b : Block) : b.groups.time = b.time := groups_frame (·.time) (by simp) (by simp) (by simp) b
@[simp] theorem groups_flt (b : Block) : b.groups.flt = b.flt := groups_frame (·.flt) (by simp) (by simp) (by simp) b
@[simp] theorem groups_cnv (b : Block) : b.groups.cnv = b.cnv := groups_frame (·.cnv) (by simp) (by simp) (by simp) b
@[simp] theorem groups_acc (b : Block) : b.groups.acc = b.acc := groups_frame (·.acc) (by simp) (by simp) (by simp) b
@[simp] theorem groups_fside (b : Block) : b.groups.fside = b.fside := groups_frame (·.fside) (by simp) (by simp) (by simp) b
@[simp] theorem groups_bar (b : Block) : b.groups.bar = b.bar := groups_frame (·.bar) (by simp) (by simp) (by simp) b
@[simp] theorem groups_wheel (b : Block) : b.groups.wheel = b.wheel := groups_frame (·.wheel) (by simp) (by simp) (by simp) b
@[simp] theorem groups_elm (b : Block) : b.groups.elm = b.elm := groups_frame (·.elm) (by simp) (by simp) (by simp) b
@[simp] theorem groups_lgc (b : Block) : b.groups.lgc = b.lgc := groups_frame (·.lgc) (by simp) (by simp) (by simp) b
@[simp] theorem groups_net (b : Block) : b.groups.net = b.net := groups_frame (·.net) (by simp) (by simp) (by simp) b
@[simp] theorem groups_fab (b : Block) : b.groups.fab = b.fab := groups_frame (·.fab) (by simp) (by simp) (by simp) b
@[simp] theorem groups_dist (b : Block) : b.groups.dist = b.dist := groups_frame (·.dist) (by simp) (by simp) (by simp) b
@[simp] theorem groups_snap (b : Block) : b.groups.snap = b.snap := groups_frame (·.snap) (by simp) (by simp) (by simp) b
@[simp] theorem groups_fresh (b : Block) : b.groups.fresh = b.fresh := groups_frame (·.fresh) (by simp) (by simp) (by simp) b

/-! ### A kept conversion is compared: nothing but the backstop and the recorder -/

@[simp] theorem compare_lands (p : Path) (n g : Nat) (c : Int) (b : Block) : (b.compare p n g c).lands = b.lands := by
  unfold Block.compare; split
  · rfl
  · split <;> simp
@[simp] theorem compare_sys (p : Path) (n g : Nat) (c : Int) (b : Block) : (b.compare p n g c).sys = b.sys := by
  unfold Block.compare; split
  · rfl
  · split <;> simp
@[simp] theorem compare_time (p : Path) (n g : Nat) (c : Int) (b : Block) : (b.compare p n g c).time = b.time := by
  unfold Block.compare; split
  · rfl
  · split <;> simp
@[simp] theorem compare_flt (p : Path) (n g : Nat) (c : Int) (b : Block) : (b.compare p n g c).flt = b.flt := by
  unfold Block.compare; split
  · rfl
  · split <;> simp
@[simp] theorem compare_cnv (p : Path) (n g : Nat) (c : Int) (b : Block) : (b.compare p n g c).cnv = b.cnv := by
  unfold Block.compare; split
  · rfl
  · split <;> simp
@[simp] theorem compare_acc (p : Path) (n g : Nat) (c : Int) (b : Block) : (b.compare p n g c).acc = b.acc := by
  unfold Block.compare; split
  · rfl
  · split <;> simp
@[simp] theorem compare_fside (p : Path) (n g : Nat) (c : Int) (b : Block) : (b.compare p n g c).fside = b.fside := by
  unfold Block.compare; split
  · rfl
  · split <;> simp
@[simp] theorem compare_bar (p : Path) (n g : Nat) (c : Int) (b : Block) : (b.compare p n g c).bar = b.bar := by
  unfold Block.compare; split
  · rfl
  · split <;> simp
@[simp] theorem compare_wheel (p : Path) (n g : Nat) (c : Int) (b : Block) : (b.compare p n g c).wheel = b.wheel := by
  unfold Block.compare; split
  · rfl
  · split <;> simp
@[simp] theorem compare_elm (p : Path) (n g : Nat) (c : Int) (b : Block) : (b.compare p n g c).elm = b.elm := by
  unfold Block.compare; split
  · rfl
  · split <;> simp
@[simp] theorem compare_lgc (p : Path) (n g : Nat) (c : Int) (b : Block) : (b.compare p n g c).lgc = b.lgc := by
  unfold Block.compare; split
  · rfl
  · split <;> simp
@[simp] theorem compare_net (p : Path) (n g : Nat) (c : Int) (b : Block) : (b.compare p n g c).net = b.net := by
  unfold Block.compare; split
  · rfl
  · split <;> simp
@[simp] theorem compare_fab (p : Path) (n g : Nat) (c : Int) (b : Block) : (b.compare p n g c).fab = b.fab := by
  unfold Block.compare; split
  · rfl
  · split <;> simp
@[simp] theorem compare_dist (p : Path) (n g : Nat) (c : Int) (b : Block) : (b.compare p n g c).dist = b.dist := by
  unfold Block.compare; split
  · rfl
  · split <;> simp
@[simp] theorem compare_snap (p : Path) (n g : Nat) (c : Int) (b : Block) : (b.compare p n g c).snap = b.snap := by
  unfold Block.compare; split
  · rfl
  · split <;> simp
@[simp] theorem compare_fresh (p : Path) (n g : Nat) (c : Int) (b : Block) : (b.compare p n g c).fresh = b.fresh := by
  unfold Block.compare; split
  · rfl
  · split <;> simp
/-! ### A startup step reached touches the step and the stage -/

@[simp] theorem reach_lands (k : Nat) (b : Block) : (b.reach k).lands = b.lands := by unfold Block.reach; split <;> rfl
@[simp] theorem reach_nv (k : Nat) (b : Block) : (b.reach k).nv = b.nv := by unfold Block.reach; split <;> rfl
@[simp] theorem reach_time (k : Nat) (b : Block) : (b.reach k).time = b.time := by unfold Block.reach; split <;> rfl
@[simp] theorem reach_evr (k : Nat) (b : Block) : (b.reach k).evr = b.evr := by unfold Block.reach; split <;> rfl
@[simp] theorem reach_mbx (k : Nat) (b : Block) : (b.reach k).mbx = b.mbx := by unfold Block.reach; split <;> rfl
@[simp] theorem reach_flt (k : Nat) (b : Block) : (b.reach k).flt = b.flt := by unfold Block.reach; split <;> rfl
@[simp] theorem reach_cnv (k : Nat) (b : Block) : (b.reach k).cnv = b.cnv := by unfold Block.reach; split <;> rfl
@[simp] theorem reach_acc (k : Nat) (b : Block) : (b.reach k).acc = b.acc := by unfold Block.reach; split <;> rfl
@[simp] theorem reach_bs (k : Nat) (b : Block) : (b.reach k).bs = b.bs := by unfold Block.reach; split <;> rfl
@[simp] theorem reach_fside (k : Nat) (b : Block) : (b.reach k).fside = b.fside := by unfold Block.reach; split <;> rfl
@[simp] theorem reach_bar (k : Nat) (b : Block) : (b.reach k).bar = b.bar := by unfold Block.reach; split <;> rfl
@[simp] theorem reach_wheel (k : Nat) (b : Block) : (b.reach k).wheel = b.wheel := by unfold Block.reach; split <;> rfl
@[simp] theorem reach_elm (k : Nat) (b : Block) : (b.reach k).elm = b.elm := by unfold Block.reach; split <;> rfl
@[simp] theorem reach_lgc (k : Nat) (b : Block) : (b.reach k).lgc = b.lgc := by unfold Block.reach; split <;> rfl
@[simp] theorem reach_net (k : Nat) (b : Block) : (b.reach k).net = b.net := by unfold Block.reach; split <;> rfl
@[simp] theorem reach_fab (k : Nat) (b : Block) : (b.reach k).fab = b.fab := by unfold Block.reach; split <;> rfl
@[simp] theorem reach_dist (k : Nat) (b : Block) : (b.reach k).dist = b.dist := by unfold Block.reach; split <;> rfl
@[simp] theorem reach_snap (k : Nat) (b : Block) : (b.reach k).snap = b.snap := by unfold Block.reach; split <;> rfl
@[simp] theorem reach_fresh (k : Nat) (b : Block) : (b.reach k).fresh = b.fresh := by unfold Block.reach; split <;> rfl
@[simp] theorem reach_sys_recovery (k : Nat) (b : Block) : (b.reach k).sys.recovery = b.sys.recovery := by unfold Block.reach; split <;> rfl
@[simp] theorem reach_sys_slotB (k : Nat) (b : Block) : (b.reach k).sys.slotB = b.sys.slotB := by unfold Block.reach; split <;> rfl
@[simp] theorem reach_sys_backstop (k : Nat) (b : Block) : (b.reach k).sys.backstop = b.sys.backstop := by unfold Block.reach; split <;> rfl
@[simp] theorem reach_sys_elemRun (k : Nat) (b : Block) : (b.reach k).sys.elemRun = b.sys.elemRun := by unfold Block.reach; split <;> rfl
@[simp] theorem reach_sys_logicRun (k : Nat) (b : Block) : (b.reach k).sys.logicRun = b.sys.logicRun := by unfold Block.reach; split <;> rfl
@[simp] theorem reach_sys_ready (k : Nat) (b : Block) : (b.reach k).sys.ready = b.sys.ready := by unfold Block.reach; split <;> rfl
@[simp] theorem reach_sys_mbxRoot (k : Nat) (b : Block) : (b.reach k).sys.mbxRoot = b.sys.mbxRoot := by unfold Block.reach; split <;> rfl
@[simp] theorem reach_sys_mbxHost (k : Nat) (b : Block) : (b.reach k).sys.mbxHost = b.sys.mbxHost := by unfold Block.reach; split <;> rfl
@[simp] theorem reach_sys_mbxFab (k : Nat) (b : Block) : (b.reach k).sys.mbxFab = b.sys.mbxFab := by unfold Block.reach; split <;> rfl
@[simp] theorem reach_sys_degraded (k : Nat) (b : Block) : (b.reach k).sys.degraded = b.sys.degraded := by unfold Block.reach; split <;> rfl
@[simp] theorem reach_sys_shutdown (k : Nat) (b : Block) : (b.reach k).sys.shutdown = b.sys.shutdown := by unfold Block.reach; split <;> rfl
@[simp] theorem reach_sys_flushed (k : Nat) (b : Block) : (b.reach k).sys.flushed = b.sys.flushed := by unfold Block.reach; split <;> rfl
@[simp] theorem reach_sys_cancel (k : Nat) (b : Block) : (b.reach k).sys.cancel = b.sys.cancel := by unfold Block.reach; split <;> rfl
@[simp] theorem reach_sys_hostSel (k : Nat) (b : Block) : (b.reach k).sys.hostSel = b.sys.hostSel := by unfold Block.reach; split <;> rfl
@[simp] theorem reach_sys_clkSel (k : Nat) (b : Block) : (b.reach k).sys.clkSel = b.sys.clkSel := by unfold Block.reach; split <;> rfl
@[simp] theorem reach_sys_tableLoaded (k : Nat) (b : Block) : (b.reach k).sys.tableLoaded = b.sys.tableLoaded := by unfold Block.reach; split <;> rfl
@[simp] theorem reach_sys_rails (k : Nat) (b : Block) : (b.reach k).sys.rails = b.sys.rails := by unfold Block.reach; split <;> rfl
@[simp] theorem reach_sys_vanaQ (k : Nat) (b : Block) : (b.reach k).sys.vanaQ = b.sys.vanaQ := by unfold Block.reach; split <;> rfl
@[simp] theorem reach_sys_armPolicy (k : Nat) (b : Block) : (b.reach k).sys.armPolicy = b.sys.armPolicy := by unfold Block.reach; split <;> rfl
@[simp] theorem reach_sys_armDelay (k : Nat) (b : Block) : (b.reach k).sys.armDelay = b.sys.armDelay := by unfold Block.reach; split <;> rfl
@[simp] theorem reach_sys_admDone (k : Nat) (b : Block) : (b.reach k).sys.admDone = b.sys.admDone := by unfold Block.reach; split <;> rfl
@[simp] theorem reach_sys_linkUpAt (k : Nat) (b : Block) : (b.reach k).sys.linkUpAt = b.sys.linkUpAt := by unfold Block.reach; split <;> rfl
theorem reach_next {k : Nat} {b : Block} (h : b.sys.step + 1 = k) : (b.reach k).sys.step = k := by simp [Block.reach, h]
theorem reach_mono (k : Nat) (b : Block) : b.sys.step ≤ (b.reach k).sys.step := by
  unfold Block.reach; split
  · rename_i h; simp; omega
  · simp

@[simp] theorem admitEnd_lands (b : Block) : b.admitEnd.lands = b.lands := by unfold Block.admitEnd; split <;> simp
@[simp] theorem admitEnd_nv (b : Block) : b.admitEnd.nv = b.nv := by unfold Block.admitEnd; split <;> simp
@[simp] theorem admitEnd_time (b : Block) : b.admitEnd.time = b.time := by unfold Block.admitEnd; split <;> simp
@[simp] theorem admitEnd_evr (b : Block) : b.admitEnd.evr = b.evr := by unfold Block.admitEnd; split <;> simp
@[simp] theorem admitEnd_mbx (b : Block) : b.admitEnd.mbx = b.mbx := by unfold Block.admitEnd; split <;> simp
@[simp] theorem admitEnd_flt (b : Block) : b.admitEnd.flt = b.flt := by unfold Block.admitEnd; split <;> simp
@[simp] theorem admitEnd_cnv (b : Block) : b.admitEnd.cnv = b.cnv := by unfold Block.admitEnd; split <;> simp
@[simp] theorem admitEnd_acc (b : Block) : b.admitEnd.acc = b.acc := by unfold Block.admitEnd; split <;> simp
@[simp] theorem admitEnd_bs (b : Block) : b.admitEnd.bs = b.bs := by unfold Block.admitEnd; split <;> simp
@[simp] theorem admitEnd_fside (b : Block) : b.admitEnd.fside = b.fside := by unfold Block.admitEnd; split <;> simp
@[simp] theorem admitEnd_bar (b : Block) : b.admitEnd.bar = b.bar := by unfold Block.admitEnd; split <;> simp
@[simp] theorem admitEnd_wheel (b : Block) : b.admitEnd.wheel = b.wheel := by unfold Block.admitEnd; split <;> simp
@[simp] theorem admitEnd_elm (b : Block) : b.admitEnd.elm = b.elm := by unfold Block.admitEnd; split <;> simp
@[simp] theorem admitEnd_lgc (b : Block) : b.admitEnd.lgc = b.lgc := by unfold Block.admitEnd; split <;> simp
@[simp] theorem admitEnd_net (b : Block) : b.admitEnd.net = b.net := by unfold Block.admitEnd; split <;> simp
@[simp] theorem admitEnd_fab (b : Block) : b.admitEnd.fab = b.fab := by unfold Block.admitEnd; split <;> simp
@[simp] theorem admitEnd_dist (b : Block) : b.admitEnd.dist = b.dist := by unfold Block.admitEnd; split <;> simp
@[simp] theorem admitEnd_snap (b : Block) : b.admitEnd.snap = b.snap := by unfold Block.admitEnd; split <;> simp
@[simp] theorem admitEnd_fresh (b : Block) : b.admitEnd.fresh = b.fresh := by unfold Block.admitEnd; split <;> simp
@[simp] theorem admitEnd_sys_recovery (b : Block) : b.admitEnd.sys.recovery = b.sys.recovery := by unfold Block.admitEnd; split <;> simp
@[simp] theorem admitEnd_sys_slotB (b : Block) : b.admitEnd.sys.slotB = b.sys.slotB := by unfold Block.admitEnd; split <;> simp
@[simp] theorem admitEnd_sys_backstop (b : Block) : b.admitEnd.sys.backstop = b.sys.backstop := by unfold Block.admitEnd; split <;> simp
@[simp] theorem admitEnd_sys_elemRun (b : Block) : b.admitEnd.sys.elemRun = b.sys.elemRun := by unfold Block.admitEnd; split <;> simp
@[simp] theorem admitEnd_sys_logicRun (b : Block) : b.admitEnd.sys.logicRun = b.sys.logicRun := by unfold Block.admitEnd; split <;> simp
@[simp] theorem admitEnd_sys_ready (b : Block) : b.admitEnd.sys.ready = b.sys.ready := by unfold Block.admitEnd; split <;> simp
@[simp] theorem admitEnd_sys_mbxRoot (b : Block) : b.admitEnd.sys.mbxRoot = b.sys.mbxRoot := by unfold Block.admitEnd; split <;> simp
@[simp] theorem admitEnd_sys_mbxHost (b : Block) : b.admitEnd.sys.mbxHost = b.sys.mbxHost := by unfold Block.admitEnd; split <;> simp
@[simp] theorem admitEnd_sys_mbxFab (b : Block) : b.admitEnd.sys.mbxFab = b.sys.mbxFab := by unfold Block.admitEnd; split <;> simp
@[simp] theorem admitEnd_sys_degraded (b : Block) : b.admitEnd.sys.degraded = b.sys.degraded := by unfold Block.admitEnd; split <;> simp
@[simp] theorem admitEnd_sys_shutdown (b : Block) : b.admitEnd.sys.shutdown = b.sys.shutdown := by unfold Block.admitEnd; split <;> simp
@[simp] theorem admitEnd_sys_flushed (b : Block) : b.admitEnd.sys.flushed = b.sys.flushed := by unfold Block.admitEnd; split <;> simp
@[simp] theorem admitEnd_sys_cancel (b : Block) : b.admitEnd.sys.cancel = b.sys.cancel := by unfold Block.admitEnd; split <;> simp
@[simp] theorem admitEnd_sys_hostSel (b : Block) : b.admitEnd.sys.hostSel = b.sys.hostSel := by unfold Block.admitEnd; split <;> simp
@[simp] theorem admitEnd_sys_clkSel (b : Block) : b.admitEnd.sys.clkSel = b.sys.clkSel := by unfold Block.admitEnd; split <;> simp
@[simp] theorem admitEnd_sys_tableLoaded (b : Block) : b.admitEnd.sys.tableLoaded = b.sys.tableLoaded := by unfold Block.admitEnd; split <;> simp
@[simp] theorem admitEnd_sys_rails (b : Block) : b.admitEnd.sys.rails = b.sys.rails := by unfold Block.admitEnd; split <;> simp
@[simp] theorem admitEnd_sys_vanaQ (b : Block) : b.admitEnd.sys.vanaQ = b.sys.vanaQ := by unfold Block.admitEnd; split <;> simp
@[simp] theorem admitEnd_sys_armPolicy (b : Block) : b.admitEnd.sys.armPolicy = b.sys.armPolicy := by unfold Block.admitEnd; split <;> simp
@[simp] theorem admitEnd_sys_armDelay (b : Block) : b.admitEnd.sys.armDelay = b.sys.armDelay := by unfold Block.admitEnd; split <;> simp
@[simp] theorem admitEnd_sys_admDone (b : Block) : b.admitEnd.sys.admDone = b.sys.admDone := by unfold Block.admitEnd; split <;> simp
@[simp] theorem admitEnd_sys_linkUpAt (b : Block) : b.admitEnd.sys.linkUpAt = b.sys.linkUpAt := by unfold Block.admitEnd; split <;> simp
theorem admitEnd_mono (b : Block) : b.sys.step ≤ b.admitEnd.sys.step := by
  unfold Block.admitEnd; split
  · exact reach_mono _ _
  · exact Nat.le_refl _

@[simp] theorem cutOff_fuse (b : Block) : b.cutOff.fuse = b.nv.fuse := by
  unfold Block.cutOff; dsimp only; split
  · rfl
  · split
    · rfl
    · split
      · rfl
      · split <;> rfl
    · rfl
    · rfl
    · unfold NvSt.lifeTorn; split <;> rfl
    · rfl

/-! ### A request that is called is carried out -/

@[simp] theorem onReq_called {cmd : Nat} {r : Req} {b : Block} (h : Called cmd r b) (f : Block → Block) :
    b.onReq cmd r f = f b := by simp [Block.onReq, h.1, h.2.1, h.2.2]

@[simp] theorem onOp_called {cmd : Nat} {r : Req} {b : Block} (h : Called cmd r b) (f : Block → Block) :
    b.onOp cmd r true f = f b := by simp [Block.onOp, h]

end Sys2Proof.Machine
end

