-- ==== Sys2Proof/Laws/State.lean ====
section
/-! SUPPORT. What each named update of the state leaves in every field: one lemma per field per update. -/

namespace Sys2Proof.Machine
open Sys2Proof

/-! ### The queue and the block -/

theorem State.done_eq (s : State) (b : Block) : s.done b = .next { s with blk := b } := rfl
@[simp] theorem blk_withBlk (s : State) (b : Block) : ({ s with blk := b } : State).blk = b := rfl
@[simp] theorem pending_withBlk (s : State) (b : Block) : ({ s with blk := b } : State).pending = s.pending := rfl
@[simp] theorem blk_withPending (s : State) (q : List Instr) : ({ s with pending := q } : State).blk = s.blk := rfl
@[simp] theorem pending_withPending (s : State) (q : List Instr) : ({ s with pending := q } : State).pending = q := rfl
@[simp] theorem withFetchWord_eq (s : State) (nbits w : Nat) : s.withFetchWord nbits w = s := rfl
@[simp] theorem reset_pending : State.reset.pending = [] := rfl

/-! ### `putSlot` changes a slot's state alone -/

@[simp] theorem putSlot_lands (s : Nat) (x : Slot) (b : Block) : (b.putSlot s x).lands = b.lands := rfl
@[simp] theorem putSlot_nv (s : Nat) (x : Slot) (b : Block) : (b.putSlot s x).nv = b.nv := rfl
@[simp] theorem putSlot_sys (s : Nat) (x : Slot) (b : Block) : (b.putSlot s x).sys = b.sys := rfl
@[simp] theorem putSlot_time (s : Nat) (x : Slot) (b : Block) : (b.putSlot s x).time = b.time := rfl
@[simp] theorem putSlot_evr (s : Nat) (x : Slot) (b : Block) : (b.putSlot s x).evr = b.evr := rfl
@[simp] theorem putSlot_mbx (s : Nat) (x : Slot) (b : Block) : (b.putSlot s x).mbx = b.mbx := rfl
@[simp] theorem putSlot_flt (s : Nat) (x : Slot) (b : Block) : (b.putSlot s x).flt = b.flt := rfl
@[simp] theorem putSlot_cnv (s : Nat) (x : Slot) (b : Block) : (b.putSlot s x).cnv = b.cnv := rfl
@[simp] theorem putSlot_acc (s : Nat) (x : Slot) (b : Block) : (b.putSlot s x).acc = b.acc := rfl
@[simp] theorem putSlot_bs (s : Nat) (x : Slot) (b : Block) : (b.putSlot s x).bs = b.bs := rfl
@[simp] theorem putSlot_fside (s : Nat) (x : Slot) (b : Block) : (b.putSlot s x).fside = b.fside := rfl
@[simp] theorem putSlot_bar (s : Nat) (x : Slot) (b : Block) : (b.putSlot s x).bar = b.bar := rfl
@[simp] theorem putSlot_wheel (s : Nat) (x : Slot) (b : Block) : (b.putSlot s x).wheel = b.wheel := rfl
@[simp] theorem putSlot_elm (s : Nat) (x : Slot) (b : Block) : (b.putSlot s x).elm = b.elm := rfl
@[simp] theorem putSlot_net (s : Nat) (x : Slot) (b : Block) : (b.putSlot s x).net = b.net := rfl
@[simp] theorem putSlot_fab (s : Nat) (x : Slot) (b : Block) : (b.putSlot s x).fab = b.fab := rfl
@[simp] theorem putSlot_dist (s : Nat) (x : Slot) (b : Block) : (b.putSlot s x).dist = b.dist := rfl
@[simp] theorem putSlot_snap (s : Nat) (x : Slot) (b : Block) : (b.putSlot s x).snap = b.snap := rfl
@[simp] theorem putSlot_fresh (s : Nat) (x : Slot) (b : Block) : (b.putSlot s x).fresh = b.fresh := rfl

/-! ### `putPair` changes a pair's state alone -/

@[simp] theorem putPair_lands (p : Nat) (x : Pair) (b : Block) : (b.putPair p x).lands = b.lands := rfl
@[simp] theorem putPair_nv (p : Nat) (x : Pair) (b : Block) : (b.putPair p x).nv = b.nv := rfl
@[simp] theorem putPair_sys (p : Nat) (x : Pair) (b : Block) : (b.putPair p x).sys = b.sys := rfl
@[simp] theorem putPair_time (p : Nat) (x : Pair) (b : Block) : (b.putPair p x).time = b.time := rfl
@[simp] theorem putPair_evr (p : Nat) (x : Pair) (b : Block) : (b.putPair p x).evr = b.evr := rfl
@[simp] theorem putPair_mbx (p : Nat) (x : Pair) (b : Block) : (b.putPair p x).mbx = b.mbx := rfl
@[simp] theorem putPair_flt (p : Nat) (x : Pair) (b : Block) : (b.putPair p x).flt = b.flt := rfl
@[simp] theorem putPair_cnv (p : Nat) (x : Pair) (b : Block) : (b.putPair p x).cnv = b.cnv := rfl
@[simp] theorem putPair_acc (p : Nat) (x : Pair) (b : Block) : (b.putPair p x).acc = b.acc := rfl
@[simp] theorem putPair_bs (p : Nat) (x : Pair) (b : Block) : (b.putPair p x).bs = b.bs := rfl
@[simp] theorem putPair_fside (p : Nat) (x : Pair) (b : Block) : (b.putPair p x).fside = b.fside := rfl
@[simp] theorem putPair_bar (p : Nat) (x : Pair) (b : Block) : (b.putPair p x).bar = b.bar := rfl
@[simp] theorem putPair_wheel (p : Nat) (x : Pair) (b : Block) : (b.putPair p x).wheel = b.wheel := rfl
@[simp] theorem putPair_elm (p : Nat) (x : Pair) (b : Block) : (b.putPair p x).elm = b.elm := rfl
@[simp] theorem putPair_net (p : Nat) (x : Pair) (b : Block) : (b.putPair p x).net = b.net := rfl
@[simp] theorem putPair_fab (p : Nat) (x : Pair) (b : Block) : (b.putPair p x).fab = b.fab := rfl
@[simp] theorem putPair_dist (p : Nat) (x : Pair) (b : Block) : (b.putPair p x).dist = b.dist := rfl
@[simp] theorem putPair_snap (p : Nat) (x : Pair) (b : Block) : (b.putPair p x).snap = b.snap := rfl
@[simp] theorem putPair_fresh (p : Nat) (x : Pair) (b : Block) : (b.putPair p x).fresh = b.fresh := rfl

/-! ### `putConv` changes a converter index's state alone -/

@[simp] theorem putConv_lands (j : Nat) (x : Conv) (b : Block) : (b.putConv j x).lands = b.lands := rfl
@[simp] theorem putConv_nv (j : Nat) (x : Conv) (b : Block) : (b.putConv j x).nv = b.nv := rfl
@[simp] theorem putConv_sys (j : Nat) (x : Conv) (b : Block) : (b.putConv j x).sys = b.sys := rfl
@[simp] theorem putConv_time (j : Nat) (x : Conv) (b : Block) : (b.putConv j x).time = b.time := rfl
@[simp] theorem putConv_evr (j : Nat) (x : Conv) (b : Block) : (b.putConv j x).evr = b.evr := rfl
@[simp] theorem putConv_mbx (j : Nat) (x : Conv) (b : Block) : (b.putConv j x).mbx = b.mbx := rfl
@[simp] theorem putConv_flt (j : Nat) (x : Conv) (b : Block) : (b.putConv j x).flt = b.flt := rfl
@[simp] theorem putConv_acc (j : Nat) (x : Conv) (b : Block) : (b.putConv j x).acc = b.acc := rfl
@[simp] theorem putConv_bs (j : Nat) (x : Conv) (b : Block) : (b.putConv j x).bs = b.bs := rfl
@[simp] theorem putConv_fside (j : Nat) (x : Conv) (b : Block) : (b.putConv j x).fside = b.fside := rfl
@[simp] theorem putConv_bar (j : Nat) (x : Conv) (b : Block) : (b.putConv j x).bar = b.bar := rfl
@[simp] theorem putConv_wheel (j : Nat) (x : Conv) (b : Block) : (b.putConv j x).wheel = b.wheel := rfl
@[simp] theorem putConv_elm (j : Nat) (x : Conv) (b : Block) : (b.putConv j x).elm = b.elm := rfl
@[simp] theorem putConv_lgc (j : Nat) (x : Conv) (b : Block) : (b.putConv j x).lgc = b.lgc := rfl
@[simp] theorem putConv_net (j : Nat) (x : Conv) (b : Block) : (b.putConv j x).net = b.net := rfl
@[simp] theorem putConv_fab (j : Nat) (x : Conv) (b : Block) : (b.putConv j x).fab = b.fab := rfl
@[simp] theorem putConv_dist (j : Nat) (x : Conv) (b : Block) : (b.putConv j x).dist = b.dist := rfl
@[simp] theorem putConv_snap (j : Nat) (x : Conv) (b : Block) : (b.putConv j x).snap = b.snap := rfl
@[simp] theorem putConv_fresh (j : Nat) (x : Conv) (b : Block) : (b.putConv j x).fresh = b.fresh := rfl

/-! ### `putTwin` changes a twin index's state alone -/

@[simp] theorem putTwin_lands (k : Nat) (x : Twin) (b : Block) : (b.putTwin k x).lands = b.lands := rfl
@[simp] theorem putTwin_nv (k : Nat) (x : Twin) (b : Block) : (b.putTwin k x).nv = b.nv := rfl
@[simp] theorem putTwin_sys (k : Nat) (x : Twin) (b : Block) : (b.putTwin k x).sys = b.sys := rfl
@[simp] theorem putTwin_time (k : Nat) (x : Twin) (b : Block) : (b.putTwin k x).time = b.time := rfl
@[simp] theorem putTwin_evr (k : Nat) (x : Twin) (b : Block) : (b.putTwin k x).evr = b.evr := rfl
@[simp] theorem putTwin_mbx (k : Nat) (x : Twin) (b : Block) : (b.putTwin k x).mbx = b.mbx := rfl
@[simp] theorem putTwin_flt (k : Nat) (x : Twin) (b : Block) : (b.putTwin k x).flt = b.flt := rfl
@[simp] theorem putTwin_acc (k : Nat) (x : Twin) (b : Block) : (b.putTwin k x).acc = b.acc := rfl
@[simp] theorem putTwin_bs (k : Nat) (x : Twin) (b : Block) : (b.putTwin k x).bs = b.bs := rfl
@[simp] theorem putTwin_fside (k : Nat) (x : Twin) (b : Block) : (b.putTwin k x).fside = b.fside := rfl
@[simp] theorem putTwin_bar (k : Nat) (x : Twin) (b : Block) : (b.putTwin k x).bar = b.bar := rfl
@[simp] theorem putTwin_wheel (k : Nat) (x : Twin) (b : Block) : (b.putTwin k x).wheel = b.wheel := rfl
@[simp] theorem putTwin_elm (k : Nat) (x : Twin) (b : Block) : (b.putTwin k x).elm = b.elm := rfl
@[simp] theorem putTwin_lgc (k : Nat) (x : Twin) (b : Block) : (b.putTwin k x).lgc = b.lgc := rfl
@[simp] theorem putTwin_net (k : Nat) (x : Twin) (b : Block) : (b.putTwin k x).net = b.net := rfl
@[simp] theorem putTwin_fab (k : Nat) (x : Twin) (b : Block) : (b.putTwin k x).fab = b.fab := rfl
@[simp] theorem putTwin_dist (k : Nat) (x : Twin) (b : Block) : (b.putTwin k x).dist = b.dist := rfl
@[simp] theorem putTwin_snap (k : Nat) (x : Twin) (b : Block) : (b.putTwin k x).snap = b.snap := rfl
@[simp] theorem putTwin_fresh (k : Nat) (x : Twin) (b : Block) : (b.putTwin k x).fresh = b.fresh := rfl

/-! ### `putAin` changes an input's state alone -/

@[simp] theorem putAin_lands (n : Nat) (x : AIn) (b : Block) : (b.putAin n x).lands = b.lands := rfl
@[simp] theorem putAin_nv (n : Nat) (x : AIn) (b : Block) : (b.putAin n x).nv = b.nv := rfl
@[simp] theorem putAin_sys (n : Nat) (x : AIn) (b : Block) : (b.putAin n x).sys = b.sys := rfl
@[simp] theorem putAin_time (n : Nat) (x : AIn) (b : Block) : (b.putAin n x).time = b.time := rfl
@[simp] theorem putAin_evr (n : Nat) (x : AIn) (b : Block) : (b.putAin n x).evr = b.evr := rfl
@[simp] theorem putAin_mbx (n : Nat) (x : AIn) (b : Block) : (b.putAin n x).mbx = b.mbx := rfl
@[simp] theorem putAin_flt (n : Nat) (x : AIn) (b : Block) : (b.putAin n x).flt = b.flt := rfl
@[simp] theorem putAin_acc (n : Nat) (x : AIn) (b : Block) : (b.putAin n x).acc = b.acc := rfl
@[simp] theorem putAin_bs (n : Nat) (x : AIn) (b : Block) : (b.putAin n x).bs = b.bs := rfl
@[simp] theorem putAin_fside (n : Nat) (x : AIn) (b : Block) : (b.putAin n x).fside = b.fside := rfl
@[simp] theorem putAin_bar (n : Nat) (x : AIn) (b : Block) : (b.putAin n x).bar = b.bar := rfl
@[simp] theorem putAin_wheel (n : Nat) (x : AIn) (b : Block) : (b.putAin n x).wheel = b.wheel := rfl
@[simp] theorem putAin_elm (n : Nat) (x : AIn) (b : Block) : (b.putAin n x).elm = b.elm := rfl
@[simp] theorem putAin_lgc (n : Nat) (x : AIn) (b : Block) : (b.putAin n x).lgc = b.lgc := rfl
@[simp] theorem putAin_net (n : Nat) (x : AIn) (b : Block) : (b.putAin n x).net = b.net := rfl
@[simp] theorem putAin_fab (n : Nat) (x : AIn) (b : Block) : (b.putAin n x).fab = b.fab := rfl
@[simp] theorem putAin_dist (n : Nat) (x : AIn) (b : Block) : (b.putAin n x).dist = b.dist := rfl
@[simp] theorem putAin_snap (n : Nat) (x : AIn) (b : Block) : (b.putAin n x).snap = b.snap := rfl
@[simp] theorem putAin_fresh (n : Nat) (x : AIn) (b : Block) : (b.putAin n x).fresh = b.fresh := rfl

/-! ### `putPort` changes a port's state alone -/

@[simp] theorem putPort_lands (p : Nat) (f : PortSt → PortSt) (b : Block) : (b.putPort p f).lands = b.lands := rfl
@[simp] theorem putPort_nv (p : Nat) (f : PortSt → PortSt) (b : Block) : (b.putPort p f).nv = b.nv := rfl
@[simp] theorem putPort_sys (p : Nat) (f : PortSt → PortSt) (b : Block) : (b.putPort p f).sys = b.sys := rfl
@[simp] theorem putPort_time (p : Nat) (f : PortSt → PortSt) (b : Block) : (b.putPort p f).time = b.time := rfl
@[simp] theorem putPort_evr (p : Nat) (f : PortSt → PortSt) (b : Block) : (b.putPort p f).evr = b.evr := rfl
@[simp] theorem putPort_mbx (p : Nat) (f : PortSt → PortSt) (b : Block) : (b.putPort p f).mbx = b.mbx := rfl
@[simp] theorem putPort_flt (p : Nat) (f : PortSt → PortSt) (b : Block) : (b.putPort p f).flt = b.flt := rfl
@[simp] theorem putPort_cnv (p : Nat) (f : PortSt → PortSt) (b : Block) : (b.putPort p f).cnv = b.cnv := rfl
@[simp] theorem putPort_acc (p : Nat) (f : PortSt → PortSt) (b : Block) : (b.putPort p f).acc = b.acc := rfl
@[simp] theorem putPort_bs (p : Nat) (f : PortSt → PortSt) (b : Block) : (b.putPort p f).bs = b.bs := rfl
@[simp] theorem putPort_fside (p : Nat) (f : PortSt → PortSt) (b : Block) : (b.putPort p f).fside = b.fside := rfl
@[simp] theorem putPort_bar (p : Nat) (f : PortSt → PortSt) (b : Block) : (b.putPort p f).bar = b.bar := rfl
@[simp] theorem putPort_wheel (p : Nat) (f : PortSt → PortSt) (b : Block) : (b.putPort p f).wheel = b.wheel := rfl
@[simp] theorem putPort_elm (p : Nat) (f : PortSt → PortSt) (b : Block) : (b.putPort p f).elm = b.elm := rfl
@[simp] theorem putPort_lgc (p : Nat) (f : PortSt → PortSt) (b : Block) : (b.putPort p f).lgc = b.lgc := rfl
@[simp] theorem putPort_fab (p : Nat) (f : PortSt → PortSt) (b : Block) : (b.putPort p f).fab = b.fab := rfl
@[simp] theorem putPort_dist (p : Nat) (f : PortSt → PortSt) (b : Block) : (b.putPort p f).dist = b.dist := rfl
@[simp] theorem putPort_snap (p : Nat) (f : PortSt → PortSt) (b : Block) : (b.putPort p f).snap = b.snap := rfl
@[simp] theorem putPort_fresh (p : Nat) (f : PortSt → PortSt) (b : Block) : (b.putPort p f).fresh = b.fresh := rfl

/-! ### `putPtp` changes a port's PTP state alone -/

@[simp] theorem putPtp_lands (p : Nat) (f : PtpPort → PtpPort) (b : Block) : (b.putPtp p f).lands = b.lands := rfl
@[simp] theorem putPtp_nv (p : Nat) (f : PtpPort → PtpPort) (b : Block) : (b.putPtp p f).nv = b.nv := rfl
@[simp] theorem putPtp_sys (p : Nat) (f : PtpPort → PtpPort) (b : Block) : (b.putPtp p f).sys = b.sys := rfl
@[simp] theorem putPtp_evr (p : Nat) (f : PtpPort → PtpPort) (b : Block) : (b.putPtp p f).evr = b.evr := rfl
@[simp] theorem putPtp_mbx (p : Nat) (f : PtpPort → PtpPort) (b : Block) : (b.putPtp p f).mbx = b.mbx := rfl
@[simp] theorem putPtp_flt (p : Nat) (f : PtpPort → PtpPort) (b : Block) : (b.putPtp p f).flt = b.flt := rfl
@[simp] theorem putPtp_cnv (p : Nat) (f : PtpPort → PtpPort) (b : Block) : (b.putPtp p f).cnv = b.cnv := rfl
@[simp] theorem putPtp_acc (p : Nat) (f : PtpPort → PtpPort) (b : Block) : (b.putPtp p f).acc = b.acc := rfl
@[simp] theorem putPtp_bs (p : Nat) (f : PtpPort → PtpPort) (b : Block) : (b.putPtp p f).bs = b.bs := rfl
@[simp] theorem putPtp_fside (p : Nat) (f : PtpPort → PtpPort) (b : Block) : (b.putPtp p f).fside = b.fside := rfl
@[simp] theorem putPtp_bar (p : Nat) (f : PtpPort → PtpPort) (b : Block) : (b.putPtp p f).bar = b.bar := rfl
@[simp] theorem putPtp_wheel (p : Nat) (f : PtpPort → PtpPort) (b : Block) : (b.putPtp p f).wheel = b.wheel := rfl
@[simp] theorem putPtp_elm (p : Nat) (f : PtpPort → PtpPort) (b : Block) : (b.putPtp p f).elm = b.elm := rfl
@[simp] theorem putPtp_lgc (p : Nat) (f : PtpPort → PtpPort) (b : Block) : (b.putPtp p f).lgc = b.lgc := rfl
@[simp] theorem putPtp_net (p : Nat) (f : PtpPort → PtpPort) (b : Block) : (b.putPtp p f).net = b.net := rfl
@[simp] theorem putPtp_fab (p : Nat) (f : PtpPort → PtpPort) (b : Block) : (b.putPtp p f).fab = b.fab := rfl
@[simp] theorem putPtp_dist (p : Nat) (f : PtpPort → PtpPort) (b : Block) : (b.putPtp p f).dist = b.dist := rfl
@[simp] theorem putPtp_snap (p : Nat) (f : PtpPort → PtpPort) (b : Block) : (b.putPtp p f).snap = b.snap := rfl
@[simp] theorem putPtp_fresh (p : Nat) (f : PtpPort → PtpPort) (b : Block) : (b.putPtp p f).fresh = b.fresh := rfl

/-! ### `putStn` changes a station's state alone -/

@[simp] theorem putStn_lands (k : Nat) (f : Stn → Stn) (b : Block) : (b.putStn k f).lands = b.lands := rfl
@[simp] theorem putStn_nv (k : Nat) (f : Stn → Stn) (b : Block) : (b.putStn k f).nv = b.nv := rfl
@[simp] theorem putStn_sys (k : Nat) (f : Stn → Stn) (b : Block) : (b.putStn k f).sys = b.sys := rfl
@[simp] theorem putStn_time (k : Nat) (f : Stn → Stn) (b : Block) : (b.putStn k f).time = b.time := rfl
@[simp] theorem putStn_evr (k : Nat) (f : Stn → Stn) (b : Block) : (b.putStn k f).evr = b.evr := rfl
@[simp] theorem putStn_mbx (k : Nat) (f : Stn → Stn) (b : Block) : (b.putStn k f).mbx = b.mbx := rfl
@[simp] theorem putStn_flt (k : Nat) (f : Stn → Stn) (b : Block) : (b.putStn k f).flt = b.flt := rfl
@[simp] theorem putStn_cnv (k : Nat) (f : Stn → Stn) (b : Block) : (b.putStn k f).cnv = b.cnv := rfl
@[simp] theorem putStn_acc (k : Nat) (f : Stn → Stn) (b : Block) : (b.putStn k f).acc = b.acc := rfl
@[simp] theorem putStn_bs (k : Nat) (f : Stn → Stn) (b : Block) : (b.putStn k f).bs = b.bs := rfl
@[simp] theorem putStn_fside (k : Nat) (f : Stn → Stn) (b : Block) : (b.putStn k f).fside = b.fside := rfl
@[simp] theorem putStn_bar (k : Nat) (f : Stn → Stn) (b : Block) : (b.putStn k f).bar = b.bar := rfl
@[simp] theorem putStn_wheel (k : Nat) (f : Stn → Stn) (b : Block) : (b.putStn k f).wheel = b.wheel := rfl
@[simp] theorem putStn_elm (k : Nat) (f : Stn → Stn) (b : Block) : (b.putStn k f).elm = b.elm := rfl
@[simp] theorem putStn_net (k : Nat) (f : Stn → Stn) (b : Block) : (b.putStn k f).net = b.net := rfl
@[simp] theorem putStn_fab (k : Nat) (f : Stn → Stn) (b : Block) : (b.putStn k f).fab = b.fab := rfl
@[simp] theorem putStn_dist (k : Nat) (f : Stn → Stn) (b : Block) : (b.putStn k f).dist = b.dist := rfl
@[simp] theorem putStn_snap (k : Nat) (f : Stn → Stn) (b : Block) : (b.putStn k f).snap = b.snap := rfl
@[simp] theorem putStn_fresh (k : Nat) (f : Stn → Stn) (b : Block) : (b.putStn k f).fresh = b.fresh := rfl

/-! ### `updClient` changes a client's rings alone -/

@[simp] theorem updClient_lands (c : Nat) (f : Client → Client) (b : Block) : (b.updClient c f).lands = b.lands := rfl
@[simp] theorem updClient_nv (c : Nat) (f : Client → Client) (b : Block) : (b.updClient c f).nv = b.nv := rfl
@[simp] theorem updClient_sys (c : Nat) (f : Client → Client) (b : Block) : (b.updClient c f).sys = b.sys := rfl
@[simp] theorem updClient_time (c : Nat) (f : Client → Client) (b : Block) : (b.updClient c f).time = b.time := rfl
@[simp] theorem updClient_evr (c : Nat) (f : Client → Client) (b : Block) : (b.updClient c f).evr = b.evr := rfl
@[simp] theorem updClient_flt (c : Nat) (f : Client → Client) (b : Block) : (b.updClient c f).flt = b.flt := rfl
@[simp] theorem updClient_cnv (c : Nat) (f : Client → Client) (b : Block) : (b.updClient c f).cnv = b.cnv := rfl
@[simp] theorem updClient_acc (c : Nat) (f : Client → Client) (b : Block) : (b.updClient c f).acc = b.acc := rfl
@[simp] theorem updClient_bs (c : Nat) (f : Client → Client) (b : Block) : (b.updClient c f).bs = b.bs := rfl
@[simp] theorem updClient_fside (c : Nat) (f : Client → Client) (b : Block) : (b.updClient c f).fside = b.fside := rfl
@[simp] theorem updClient_bar (c : Nat) (f : Client → Client) (b : Block) : (b.updClient c f).bar = b.bar := rfl
@[simp] theorem updClient_wheel (c : Nat) (f : Client → Client) (b : Block) : (b.updClient c f).wheel = b.wheel := rfl
@[simp] theorem updClient_elm (c : Nat) (f : Client → Client) (b : Block) : (b.updClient c f).elm = b.elm := rfl
@[simp] theorem updClient_lgc (c : Nat) (f : Client → Client) (b : Block) : (b.updClient c f).lgc = b.lgc := rfl
@[simp] theorem updClient_net (c : Nat) (f : Client → Client) (b : Block) : (b.updClient c f).net = b.net := rfl
@[simp] theorem updClient_fab (c : Nat) (f : Client → Client) (b : Block) : (b.updClient c f).fab = b.fab := rfl
@[simp] theorem updClient_dist (c : Nat) (f : Client → Client) (b : Block) : (b.updClient c f).dist = b.dist := rfl
@[simp] theorem updClient_snap (c : Nat) (f : Client → Client) (b : Block) : (b.updClient c f).snap = b.snap := rfl
@[simp] theorem updClient_fresh (c : Nat) (f : Client → Client) (b : Block) : (b.updClient c f).fresh = b.fresh := rfl

/-! ### Reading back -/

@[simp] theorem slot_putSlot (s : Nat) (x : Slot) (b : Block) : (b.putSlot s x).slot s = x := tget_tset_same ..
@[simp] theorem pair_putPair (p : Nat) (x : Pair) (b : Block) : (b.putPair p x).pair p = x := tget_tset_same ..
theorem slot_putSlot_ne {s k : Nat} (h : k ≠ s) (x : Slot) (b : Block) : (b.putSlot s x).slot k = b.slot k := tget_tset_ne _ _ _ h
theorem pair_putPair_ne {p k : Nat} (h : k ≠ p) (x : Pair) (b : Block) : (b.putPair p x).pair k = b.pair k := tget_tset_ne _ _ _ h
@[simp] theorem pair_putSlot (s k : Nat) (x : Slot) (b : Block) : (b.putSlot s x).pair k = b.pair k := rfl
@[simp] theorem slot_putPair (p k : Nat) (x : Pair) (b : Block) : (b.putPair p x).slot k = b.slot k := rfl

end Sys2Proof.Machine
end

