-- ==== Sys2Proof/Tests/Slice0.lean ====
section
/-! SUPPORT. Tests: ill-formed commands refused by each check of WellFormed.lean; Fjoask words written out from R252 to R274;
worked examples of the spec; and, for each statement with hypotheses, operands and a state that meet the hypotheses of every
clause (`test_witness_<Name>`; a clause's conclusion is not repeated). Where a hypothesis rests on an opaque function of Config
(an image's container, a tag, a signature), its witness takes that function's answer as its premise. -/

namespace Sys2Proof.Machine
open Sys2Proof

/-! ### Ill-formed commands -/

theorem test_wf_slot : Instr.wf (.armDelayExpiry 8) = false := by decide
theorem test_wf_run : Instr.wf (.cycleReadIn 17) = false := by decide
theorem test_wf_pair : Instr.wf (.lockstepMismatch 9) = false := by decide
theorem test_wf_port : Instr.wf (.linkUp 4) = false := by decide
theorem test_wf_portPair : Instr.wf (.dupEntryExpiry 2) = false := by decide
theorem test_wf_rail : Instr.wf (.railOutOfWindow 4) = false := by decide
theorem test_wf_output : Instr.wf (.retryPulse 32) = false := by decide
theorem test_wf_di : Instr.wf (.diChangeAccepted 64 [] 0) = false := by decide
theorem test_wf_fast : Instr.wf (.fastInputEdge 8 true 0) = false := by decide
theorem test_wf_group : Instr.wf (.backstopMinOnExpiry 64) = false := by decide
theorem test_wf_feeder : Instr.wf (.trackerNominalTimeout 40) = false := by decide
theorem test_wf_input : Instr.wf (.wireBreakEvaluation 160) = false := by decide
theorem test_wf_index : Instr.wf (.disputedClear 20) = false := by decide
theorem test_wf_timer : Instr.wf (.timerExpiry 131072) = false := by decide
theorem test_wf_client : Instr.wf (.ringReset 256) = false := by decide
theorem test_wf_vector : Instr.wf (.vectorSignal 32) = false := by decide
theorem test_wf_station : Instr.wf (.stationMiss 256) = false := by decide
theorem test_wf_published : Instr.wf (.gooseRetransmit 128) = false := by decide
theorem test_wf_node : Instr.wf (.neighbourEntryFree 65536 0) = false := by decide
theorem test_wf_rate : Instr.wf (.svIntervalEnd 4000) = false := by decide
theorem test_wf_cfgAddr : Instr.wf (.auxCfgecho 256) = false := by decide
theorem test_wf_request_code : Instr.wf (.sysNop { cmd := 0x0106 }) = false := by decide
theorem test_wf_request_client : Instr.wf (.sysNop { cmd := 0x0107, client := 256 }) = false := by decide
theorem test_wf_request_payload : Instr.wf (.sysNop { cmd := 0x0107, payload := zeros 4097 }) = false := by decide +kernel
theorem test_wf_accepts : Instr.wf (.sysNop { cmd := 0x0107, payload := zeros 4 }) = true ∧ Instr.wf (.cycleReadIn 16) = true := by decide

/-! ### Words of the instruction set, byte by byte from the maps -/

/-- Flow, R252: JT (0x08) c, r16. -/
theorem test_word_jt : fjDecode 2 [0x08, 0x05, 0x34, 0xFE] = some (.fjJt 2 5 0xFE34, []) := by decide
/-- Loads and stores, R255: LD (0x10) d, As, with a byte of the next instruction behind it. -/
theorem test_word_ld : fjDecode 0 [0x10, 0x07, 0xCD, 0x80, 0x01] = some (.fjLd 0 7 0x80CD, [0x01]) := by decide
/-- LDKH (0x1B) d, K32. -/
theorem test_word_ldkh : fjDecode 1 [0x1B, 0x0B, 0x78, 0x56, 0x34, 0x12] = some (.fjLdkh 1 11 0x12345678, []) := by decide
/-- Integers, R257: SUB (0x21) d, a, b. -/
theorem test_word_sub : fjDecode 0 [0x21, 0x01, 0x02, 0x03] = some (.fjSub 0 1 2 3, []) := by decide
/-- Reals: FMA (0x34) d, a, b, c. -/
theorem test_word_fma : fjDecode 0 [0x34, 0x01, 0x02, 0x03, 0x04] = some (.fjFma 0 1 2 3 4, []) := by decide
/-- Comparisons, R260: LIM (0x46) d, a, lo, hi. -/
theorem test_word_lim : fjDecode 0 [0x46, 0x01, 0x02, 0x03, 0x04] = some (.fjLim 0 1 2 3 4, []) := by decide
/-- Timers, R262: TSTART (0x50) t16, a. -/
theorem test_word_tstart : fjDecode 3 [0x50, 0x01, 0x02, 0x09] = some (.fjTstart 3 0x0201 9, []) := by decide
/-- Long instructions: the worked example of R271, GATH L10, 0x0200, 0x8400, 0x0100. -/
theorem test_word_gath : fjDecode 4 [0x70, 0x0A, 0x00, 0x02, 0x00, 0x84, 0x00, 0x01] =
    some (.fjGath 4 10 0x0200 0x8400 0x0100, []) := by decide
/-- Page 0xF0, R272: PSEQ (0x0D) d, a, b, c, k8. -/
theorem test_word_pseq : fjDecode 0 [0xF0, 0x0D, 0x01, 0x02, 0x03, 0x04, 0x02] = some (.fjPseq 0 1 2 3 4 2, []) := by decide
/-- Page 0xF1, R274: CTLOP (0x0B) o8, a, cls. -/
theorem test_word_ctlop : fjDecode 0 [0xF1, 0x0B, 0x07, 0x02, 0x01] = some (.fjCtlop 0 7 2 1, []) := by decide
/-- A reserved escape is an undefined opcode (R249). -/
theorem test_word_reserved_escape : fjDecode 0 [0xF2, 0x00, 0, 0, 0, 0, 0, 0] = none := by decide

/-! ### Figures that the spec works out -/

/-- R556: CRC-32 of "123456789". -/
theorem test_crc32 : crc32 [0x31, 0x32, 0x33, 0x34, 0x35, 0x36, 0x37, 0x38, 0x39] = 0xCBF43926 := by decide +kernel
/-- R556: CRC-16 of "123456789". -/
theorem test_crc16 : crc16 [0x31, 0x32, 0x33, 0x34, 0x35, 0x36, 0x37, 0x38, 0x39] = 0x29B1 := by decide +kernel
/-- 10, worked example: 800,000 µV at gain 1 is 16,384 codes; a set comparator holds at 14,746 and drops out at 14,745. -/
theorem test_threshold : thCode 800000 1 = 16384 ∧ (Cmp.test 16384 100 2 14746 { on := true }).on = true ∧
    (Cmp.test 16384 100 2 14745 { on := true }).on = false ∧ (Cmp.test 16384 100 2 16384 { run := 1 }).on = true := by decide
/-- 20, worked example: 40,000 ms falls into bin 15 and 20 ms into bin 5. -/
theorem test_bins : binOf 40000 = 15 ∧ binOf 20 = 5 := by decide
/-- 21, worked example: D = 40 and P = 40 give 40 µs. -/
theorem test_dist_interval : distI 40 40 = 40000 := by decide
/-- 18, worked example: 4,410 m with an error of 49 m at one end. -/
theorem test_fault_location :
    let x := twLocate { en := true, len := 12000, vel := 294000 } 10
      { stamp := { sec := 1, ns := 250015000, qual := 0x601 } } { stamp := { sec := 1, ns := 250025816, qual := 0x601 }, remote := true }
    x.dist = 4410 ∧ x.err = 49 ∧ x.outside = false := by decide

/-! ### Small blocks for the witnesses -/

/-! ### A slot that runs a task -/

/-- Types of the locals: BOOL, INT32, UINT32, REAL32, TIME64, QUAL, PHASOR, four times over. -/
def wTypes : List Ty := [.bool, .int, .uint, .real, .time, .qual, .phasor, .bool, .int, .uint, .real, .time, .qual, .phasor,
  .bool, .int, .uint, .real, .time, .qual, .phasor, .bool, .int, .uint, .real, .time, .qual, .phasor]
/-- Two tasks, a timer of each mode, eight fast counters and a control object. -/
def wImg : FjImg := {
  tasks := [{ types := wTypes, outset := [(0, 99)] }, { kind := 2 }], code := 4096
  timers := [(1, false), (2, false), (3, false)], counters := 255, objs := [{}] }
/-- Data words: an index list of two single words at 0x100, one of two points at 0x110, a curve at 0x120. -/
def wData : Tab Word := [(3, 0x3F800000), (0x100, 0x00080002), (0x101, 3), (0x102, 1), (0x110, 0x00080102), (0x111, 3), (0x112, 1),
  (0x120, 0x00000200), (0x121, 0x3F800000)]
/-- The task about to execute at PC 0, with some locals that are not 0. -/
def wCyc (x : Ctx) : Cyc :=
  { stack := [0], active := true, data := wData, ctxs := [(0, x)]
    objs := [(0, { state := .pending 1 2 0 5 0 0 0 0 })] }
def wCtx : Ctx := { locals := [(7, 1), (8, 5), (9, 1), (11, 5000000)] }
def wBlk (x : Ctx) : Block := {
  lgc := { slots := [(0, { img := some wImg, cyc := some (wCyc x) })] }
  wheel := { timers := [(4096, { cls := 1, slot := 0, mode := .oneshot }), (4097, { cls := 1, slot := 0, owner := 1, mode := .periodic })] } }
/-- What an instruction works on there: outside a LOCK section, inside one, and in a routine. -/
def wFj (x : Ctx) : Fj := ((wBlk x).fjNow 0).getD {}
def wIn : Ctx := { wCtx with lockcnt := 5 }
def wSub : Ctx := { wCtx with rstack := [7] }
/-- The state of a block with no command waiting. -/
def st (b : Block) : State := { blk := b }

theorem test_task_runs (x : Ctx) : (wBlk x).fjNow 0 = some (wFj x) := rfl

/-! ### A request that is accepted -/

def rq (cmd : Nat) (p : List Byte) : Req := { cmd := cmd, payload := p }
/-- The same as a read. -/
def rqRd (cmd : Nat) (p : List Byte) : Req := { cmd := cmd, flags := 1, payload := p }
/-- The block with the one request accepted. -/
def call (b : Block) (r : Req) : State := st { b with mbx := { b.mbx with accepted := [{ req := r }] } }

/-! ### Ports -/

/-- The four ports in a mode, with their links up. -/
def wNet (m : Nat) : NetSt := {
  cfg := { mode := [m, m, m, m] }, ports := [(0, { link := true }), (1, { link := true }), (2, { link := true }), (3, { link := true })] }
/-- Port 0 carries stations, and a subscription of station 3 takes the frames of identity 0. -/
def wSubs (sv : Bool) : Block := {
  net := { wNet 1 with subs := [(0, some { sv := sv, ports := 1, idHash := crc32 [], station := 3 })] }
  lgc := { stns := [(3, { decl := some {} })] } }
/-- Four ports with PTP on, port 1 following a master. -/
def wPtp : Block := {
  net := wNet 1, time := { cfg := { profile := 1, ptpEn := [true, true, true, true] }, slave := some 1
                           ports := [(1, { pstate := 6, syncWait := some (7, 0, 0), pdelayWait := some (9, 0) })] } }
/-- Four ports, redundant in mode `m`. -/
def wRed (m : Nat) : Block := { net := { wNet 1 with cfg := { mode := [1, 1, 1, 1], red := [m, m] } } }
/-- The engine at fabric address 5 on four ports, admitting no port. -/
def wFab : Block := {
  net := wNet 2, fab := { cfg := { en := true, addr := some 5 }, probing := false }, sys := { admDone := [true, true, true, true] } }
/-- A message that waits, from engine 9. -/
def wMsg (svc : Nat) (seg : Bool) (p : List Byte) : FabMsg := { svc := svc, src := 9, seg := seg, body := .bytes p }
def wInbox (b : Block) (m : FabMsg) : Block := { b with fab := { b.fab with inbox := [m] } }
/-- Slot 0 with one control object that takes every class by select and operate, in the given state. -/
def wCtl (o : CtlObj) : Block := { lgc := { slots := [(0, { img := some { objs := [{ sbo := true, classes := 15 }] }, objs := [(0, o)] })] } }
/-- A blob header of two records (R509, R515). -/
def wHdr : List Byte :=
  [0x5A, 0x57, 0x33, 0x32, 1, 0] ++ zeros 18 ++ leBytes 4 2 ++ leBytes 4 1 ++ leBytes 4 1 ++ zeros 8 ++ [6, 0, 255] ++ zeros 465
theorem wit_begin (h : bitOf 6 Config.order.toNat = true) :
    (call {} (rq 0x0E01 (zeros 4 ++ wHdr))).blk.begin false ((rq 0x0E01 (zeros 4 ++ wHdr)).payload.drop 4) =
      (stOK, ((call {} (rq 0x0E01 (zeros 4 ++ wHdr))).blk.begin false ((rq 0x0E01 (zeros 4 ++ wHdr)).payload.drop 4)).2) := by
  have e : ((rq 0x0E01 (zeros 4 ++ wHdr)).payload.drop 4) = wHdr := rfl
  have k : (call {} (rq 0x0E01 (zeros 4 ++ wHdr))).blk.hdrOk wHdr = true := by
    have h1 : (hdrOf wHdr).hwMin = 0 := by decide +kernel
    have h2 : (hdrOf wHdr).hwMax = 255 := by decide +kernel
    have h3 : (hdrOf wHdr).order = 6 := by decide +kernel
    have h4 : Config.hwMajor.toNat ≤ 255 := by omega
    simp only [Block.hdrOk, h1, h2, h3, h, Nat.zero_le, h4, and_self, decide_true, Bool.and_true, true_and]
    decide +kernel
  rw [e]
  simp only [Block.begin, k]
  rfl
/-- An image that loads: an ERROR task and nothing else. -/
def wGood : FjImg := { tasks := [{ kind := 1, types := List.replicate 64 .uint }] }
/-- A staging that takes its first record. -/
def wStg : Block := { nv := { stg := { state := .staging, hdr := { nblocks := 1 } } } }
theorem wit_record (h : Config.blockTag 0 [] 0 (zeros recSize) = true) :
    wStg.takeRecord 0 (zeros recSize) (some 9) = (true, (wStg.takeRecord 0 (zeros recSize) (some 9)).2) := by
  have e : (wStg.takeRecord 0 (zeros recSize) (some 9)).1 = true := by
    show (if Config.blockTag 0 [] 0 (zeros recSize) = true then _ else _ : Bool × Block).1 = true
    rw [if_pos h]
  exact Prod.ext e rfl
/-- A key set (R513). -/
def wKey : List Byte := [0x5A, 0x57, 0x4B, 0x59, 1]
theorem wit_key (h : Config.keySig 0 wKey = true) (k : Config.keyTag 0 wKey = true) :
    (call {} (rq 0x0E08 wKey)).blk.keyFail wKey = none := by
  have e : (call {} (rq 0x0E08 wKey)).blk.nv.keyWord.1 = 0 := rfl
  simp only [Block.keyFail, e, h, k]
  decide
/-- Inside a LOCK section of 64 instructions, and past the last byte of the code. -/
def wFull : Ctx := { wCtx with lockcnt := 64 }
def wEnd : Ctx := { wCtx with pc := 4094 }
/-- A block whose recorder runs, with event 300's token bucket at `k` thousandths. -/
def wRec (k : Nat) : Block := { evr := { started := true, col := [(300, { bucket := k })] } }
/-- A `dist.cfg` WRITE of D 40, POST 1, MAXLEN 1 and nothing enabled. -/
def wDist : List Byte := [0, 0, 40, 0, 0, 0, 0, 0, 1, 0, 0, 0, 1] ++ zeros 1227
theorem wit_zero (o w : Nat) (h : 13 ≤ o) : fld wDist o w = 0 := by
  obtain ⟨k, rfl⟩ : ∃ k, o = 13 + k := ⟨o - 13, by omega⟩
  rw [fld, ← List.drop_drop, show List.drop 13 wDist = zeros 1227 from rfl, zeros, List.drop_replicate, List.take_replicate]
  exact leNat_zeros _
theorem wit_bsel : (distCfgOf wDist).bsel = [] := by
  have e : ((List.range 512).map fun i => fld wDist (216 + 2 * i) 2) = List.replicate 512 0 := by
    rw [List.eq_replicate_iff]
    refine ⟨by rw [List.length_map, List.length_range], fun x hx => ?_⟩
    obtain ⟨i, -, rfl⟩ := List.mem_map.1 hx
    exact wit_zero _ _ (by omega)
  have t : ∀ n i, tsetRun natD [] i (List.replicate n 0) = [] := by
    intro n
    induction n with
    | zero => intro i; rfl
    | succ k ih => intro i; exact ih (i + 1)
  rw [distCfgOf]
  dsimp only
  rw [e]
  exact t 512 0
theorem wit_dist : distCfgOk wDist = true := by
  have h : (distCfgOf wDist).bsel.all (fun x => selOk x.2) = true := by rw [wit_bsel]; rfl
  unfold distCfgOk
  simp only [h, Bool.and_true]
  decide +kernel
/-- A staged settings image in format 1 with nothing enabled. -/
def wSet : List Byte := [0, 0, 0, 0, 1, 0] ++ zeros 4086
def wSetImg : List Byte := wSet ++ leBytes 4 (crc32 wSet)
theorem wit_fld (o l : Nat) (h : 6 ≤ o) (k : o + l ≤ 4092) : fld wSetImg o l = 0 :=
  fld_zeros [0, 0, 0, 0, 1, 0] _ 4086 o l h k
theorem wit_firstBad (l : List (Nat × Bool)) (h : ∀ x ∈ l, x.2 = true) : firstBad l = none := by
  induction l with
  | nil => rfl
  | cons x r ih =>
    obtain ⟨o, ok⟩ := x
    rw [firstBad, if_pos (h (o, ok) (List.mem_cons_self ..))]
    exact ih fun y hy => h y (List.mem_cons_of_mem _ hy)
theorem wit_image : bsInvalid 1 wSetImg = none := by
  have hl : wSetImg.length = 4096 := by rw [wSetImg, wSet, List.length_append, List.length_append, zeros_length, leBytes_length] <;> rfl
  have hw : wSet.length = 4092 := by rw [wSet, List.length_append, zeros_length] <;> rfl
  have h0 : wSetImg.take 4092 = wSet := List.take_left' hw
  have hc : fld wSetImg 4092 4 = crc32 wSet := by
    rw [wSetImg, fld_append _ _ _ _ hw, List.take_of_length_le (Nat.le_of_eq (leBytes_length ..)), leNat_leBytes]
    exact Nat.mod_eq_of_lt (crc32_lt _)
  have hv : fld wSetImg 4 2 = 1 := rfl
  have hz : allZero (cut wSetImg 3664 428) = true := by
    rw [wSetImg, wSet, cut_zeros [0, 0, 0, 0, 1, 0] _ 4086 3664 428 (by decide) (by decide)]; exact allZero_zeros _
  rw [bsInvalid, if_pos hl]
  apply wit_firstBad
  intro x hx
  simp only [bsChecks, List.mem_append, List.mem_flatMap, List.mem_range, List.mem_cons, List.mem_map, List.not_mem_nil, or_false] at hx
  obtain ((((rfl | rfl | rfl) | ⟨n, hn, rfl | rfl | rfl | rfl⟩) | ⟨n, hn, rfl | rfl | rfl⟩) | ⟨n, hn, ⟨i, hi, rfl⟩ | rfl | rfl | rfl | rfl | rfl⟩) | rfl | rfl := hx
  all_goals simp (disch := omega) only [bsTh, bsHys, bsCnt, bsDet, bsEn, wit_fld, hv, hz, h0, hc, Bool.true_or, beq_self_eq_true]
  all_goals rfl
theorem wit_read : memRead (memWrite [] 0 wSetImg) 0 4096 = wSetImg := by
  have hl : wSetImg.length = 4096 := by rw [wSetImg, wSet, List.length_append, List.length_append, zeros_length, leBytes_length] <;> rfl
  rw [← hl]; exact memRead_memWrite [] 0 wSetImg
theorem wit_settings : ∃ (s : State) (r : Req), Called 0x0105 r s.blk ∧ fld r.payload 0 1 = 1 ∧ bstopArgs r.payload = true ∧
    bsInvalid s.blk.pcf (memRead s.blk.bs.stage 0 4096) = none := by
  obtain ⟨m, h⟩ : ∃ m : Mem, memRead m 0 4096 = wSetImg := ⟨_, wit_read⟩
  exact ⟨call { bs := { stage := m } } (rq 0x0105 [1, 0, 0, 0]), rq 0x0105 [1, 0, 0, 0], ⟨rfl, rfl, rfl⟩, by decide, by decide,
    (congrArg (bsInvalid 1) h).trans wit_image⟩
/-- An input's level is at most twice the table's figure. -/
theorem test_diLevel_le (i : Nat) (on : Bool) (mv : Nat) : diLevel i on mv ≤ 2 * mv := by
  unfold diLevel
  have h : Config.diTol i on % 101 < 101 := Nat.mod_lt _ (by decide)
  calc mv * (950 + Config.diTol i on % 101) / 1000 ≤ mv * 2000 / 1000 := Nat.div_le_div_right (Nat.mul_le_mul_left _ (by omega))
    _ = 2 * mv := by omega
/-- Every take of a schedule, of 16 conversions of 0. -/
def wTakes : TestTakes := (List.range 112).map fun i => (i, ((0 : Int), 16))
/-- Slot 0 in state RUN on pair 2, at tick 0. -/
def wRun (y : Slot) : Block := { lgc := { slots := [(0, y)], pairs := [(2, { state := .running, slot := some 0 })] } }
/-- The barrier link in operation, the AUX frame due next. -/
def wAux (n r : Nat) : Block := { bar := { run := true }, fside := { powered := true, upPos := 1, auxN := n, round := r } }
/-- The same slot with no timer running, no fast counter, an idle object and task 1 ended. -/
def wQuiet : Block := {
  lgc := { slots := [(0, { img := some { wImg with counters := 0 }, cyc := some { wCyc wCtx with objs := [], ended := [1] } })] } }
def wQuietFj : Fj := (wQuiet.fjNow 0).getD {}
/-- A service run on pair 0 with a halt ordered. -/
def wHalt : Block := {
  lgc := { slots := [(8, { img := some wImg, cyc := some (wCyc wCtx) })], pairs := [(0, { state := .service, hreq := some (false, none) })] } }
def wHaltFj : Fj := (wHalt.fjNow 8).getD {}

/-! ### The hypotheses of every clause can be met -/

theorem test_witness_StepTakesTheFrontCommand :
    (∃ (c : Instr) (q : List Instr) (s : State), s.pending = c :: q) ∧
    (∃ (s : State), s.pending = [] ∧ s.blk.time.run = true) ∧
    (∃ (s : State), s.pending = [] ∧ s.blk.time.run = false) :=
  ⟨⟨.vfldLockoutEnter, [], { blk := {}, pending := [.vfldLockoutEnter] }, by decide⟩,
   ⟨st { time := { run := true } }, by decide, by decide⟩,
   ⟨st { time := { run := false } }, by decide, by decide⟩⟩

theorem test_witness_FjDecodingUndoesEncoding :
    ∃ (i : Instr) (slot : Nat) (bs r : List Byte), fjSlot i = some slot ∧ fjEncode i = some bs :=
  ⟨.fjAdd 0 1 2 3, 0, (fjEncode (.fjAdd 0 1 2 3)).getD [], [], rfl, rfl⟩

theorem test_witness_UndefinedOpcodesDecodeToNothing :
    ∃ (slot : Nat) (a c : Byte) (l : List Byte), 8 ≤ l.length :=
  ⟨0, 0x20, 0, zeros 8, by decide⟩

theorem test_witness_FuseStepsAreNeverUndone :
    ∃ (n : Nat) (s t : State), s.fuseFrom n ∧ step s = .next t :=
  ⟨3, { blk := { nv := { fuse := 3 } }, pending := [.vfldLockoutEnter] }, _, ⟨by decide, by decide⟩, rfl⟩

theorem test_witness_DivisionByZeroSetsDz :
    (∃ (s : State) (slot : Nat) (f : Fj) (d a b : BitVec 8), FjReady s.blk slot 4 f ∧ f.same [.int] [d, a, b] = true ∧ f.int b = 0) ∧
    (∃ (s : State) (slot : Nat) (f : Fj) (d a b : BitVec 8), FjReady s.blk slot 4 f ∧ f.same [.uint] [d, a, b] = true ∧ f.int b = 0) ∧
    (∃ (s : State) (slot : Nat) (f : Fj) (d a b : BitVec 8), FjReady s.blk slot 4 f ∧ (f.same [.int] [d, a, b] = true ∨
      f.same [.uint] [d, a, b] = true) ∧ f.int b = 0) :=
  ⟨⟨st (wBlk wCtx), 0, wFj wCtx, 8, 8, 15, ⟨rfl, by decide, by decide⟩, by decide, by decide⟩,
   ⟨st (wBlk wCtx), 0, wFj wCtx, 9, 9, 16, ⟨rfl, by decide, by decide⟩, by decide, by decide⟩,
   ⟨st (wBlk wCtx), 0, wFj wCtx, 8, 8, 15, ⟨rfl, by decide, by decide⟩, by decide, by decide⟩⟩

theorem test_witness_SaturationStaysInTheType :
    (∃ (f : Fj) (d : BitVec 8) (v : Int), f.is [.int] d = true) ∧
    (∃ (f : Fj) (d : BitVec 8) (v : Int), f.is [.uint] d = true) ∧
    (∃ (f : Fj) (d : BitVec 8) (v : Int), f.is [.time] d = true) :=
  ⟨⟨wFj wCtx, 8, 0x80000000, by decide⟩,
   ⟨wFj wCtx, 9, -1, by decide⟩,
   ⟨wFj wCtx, 11, 0, by decide⟩⟩

theorem test_witness_BlockMoveCopies :
    (∃ (s : State) (slot : Nat) (f : Fj) (ad as_ : BitVec 16) (n : BitVec 8), FjReady s.blk slot 6 f ∧ f.x.lockcnt = 0 ∧ f.x.prog =
      0 ∧ f.undisturbed ∧ inArea ad.toNat 0 (n256 n) = true ∧ inArea as_.toNat 0 (n256 n) = true ∧ f.noWrites ad.toNat (n256 n) =
      false) ∧
    (∃ (f : Fj) (a s n : Nat), inArea a 0 n = true ∧ inArea s 0 n = true ∧ f.noWrites a n = false) :=
  ⟨⟨st (wBlk wCtx), 0, wFj wCtx, 0x200, 0x100, 4, ⟨rfl, by decide, by decide⟩, by decide, by decide, by decide, by decide, by decide, by decide⟩,
   ⟨wFj wCtx, 0x200, 0x100, 4, by decide, by decide, by decide⟩⟩

theorem test_witness_InstructionsNeedTheirBytes :
    (∃ (i : Instr) (slot : Nat) (s : State), fjSlot i = some slot ∧ s.blk.fjNow slot = none) ∧
    (∃ (i : Instr) (slot : Nat) (bs : List Byte) (s : State) (f : Fj), fjSlot i = some slot ∧ fjEncode i = some bs ∧
      s.blk.fjNow slot = some f ∧ f.x.lockcnt = 64) ∧
    (∃ (i : Instr) (slot : Nat) (bs : List Byte) (s : State) (f : Fj), fjSlot i = some slot ∧ fjEncode i = some bs ∧
      s.blk.fjNow slot = some f ∧ f.x.lockcnt ≠ 64 ∧ f.img.code < f.x.pc + bs.length) ∧
    (∃ (b : Block) (slot len lc : Nat) (o : FjOut), o.fault ≠ 0) :=
  ⟨⟨.fjAdd 0 1 2 3, 0, st {}, rfl, rfl⟩,
   ⟨.fjAdd 0 1 2 3, 0, (fjEncode (.fjAdd 0 1 2 3)).getD [], st (wBlk wFull), wFj wFull, rfl, rfl, rfl, by decide⟩,
   ⟨.fjAdd 0 1 2 3, 0, (fjEncode (.fjAdd 0 1 2 3)).getD [], st (wBlk wEnd), wFj wEnd, rfl, rfl, rfl, by decide, by decide⟩,
   ⟨wBlk wCtx, 0, 4, 0, { f := wFj wCtx, fault := 5 }, by decide⟩⟩

theorem test_witness_FjKeepsToItsSlot :
    (∃ (i : Instr) (slot : Nat) (s : State), fjSlot i = some slot ∧ slot < 8) ∧
    (∃ (i : Instr) (slot : Nat) (s : State), fjSlot i = some slot ∧ 8 ≤ slot) :=
  ⟨⟨.fjAdd 0 1 2 3, 0, st (wBlk wCtx), rfl, by decide⟩,
   ⟨.fjAdd 8 1 2 3, 8, st (wBlk wCtx), rfl, by decide⟩⟩

theorem test_witness_RaisesAreCounted :
    (∃ (b : Block) (n : Nat) (q : Int), b.recording) ∧
    (∃ (b : Block) (n : Nat) (q : Int), ¬ b.recording) ∧
    (∃ (b : Block) (n : Nat) (q : Int), b.recording ∧ 1000 ≤ (tget colD b.evr.col n).bucket) ∧
    (∃ (b : Block) (n : Nat) (q : Int), b.recording ∧ (tget colD b.evr.col n).bucket < 1000) :=
  ⟨⟨wRec 60000, 300, 5, ⟨rfl, rfl⟩⟩,
   ⟨{}, 300, 5, by simp [Block.recording]⟩,
   ⟨wRec 60000, 300, 5, ⟨rfl, rfl⟩, by decide⟩,
   ⟨wRec 999, 300, 5, ⟨rfl, rfl⟩, by decide⟩⟩

theorem test_witness_QuantitiesFallIntoTheirBins :
    ∃ (b : Block) (n m : Nat) (v : Int), m ≠ n :=
  ⟨{}, 300, 301, 5, by decide⟩

theorem test_witness_WhisksCountDriveAndTrigger :
    (∃ (b : Block) (src : Nat) (timed : Bool), (∀ x, b.snap.atEdge = some x → x.1 ≠ b.now)) ∧
    (∃ (s : State), s.blk.snap.pinEn = true) :=
  ⟨⟨{}, 0, false, by simp⟩,
   ⟨st { snap := { pinEn := true } }, by decide⟩⟩

theorem test_witness_ResponsesEchoTheirRequest :
    (∃ (b : Block) (r : Req) (st e : Nat) (p : List Byte), b.has r = false) ∧
    (∃ (b : Block) (r : Req) (st e : Nat) (p : List Byte), b.has r = true) ∧
    (∃ (b : Block) (r : Req) (st e : Nat) (p : List Byte) (x : Client), b.has r = true ∧ r.client < 128 ∧
      tget clientD b.mbx.clients r.client = x ∧ x.stall = false ∧ x.rspCons ≤ x.rspProd ∧ x.rspProd + msgSize p.length < 8192) ∧
    (∃ (c f cmd seq st e : Nat) (p : List Byte), c < 256 ∧ f < 256 ∧ cmd < 65536 ∧ seq < 2 ^ 32 ∧ st < 65536 ∧ e < 2 ^ 32 ∧
      p.length ≤ 4096) :=
  ⟨⟨{}, {}, 0, 0, [], by decide⟩,
   ⟨(call {} (rq 7 [])).blk, rq 7 [], 0, 0, [], by decide⟩,
   ⟨(call {} (rq 7 [])).blk, rq 7 [], 0, 0, [], clientD 0, by decide, by decide, rfl, by decide, by decide, by decide⟩,
   ⟨127, 0x81, 0xF08, 0xFFFFFFFF, 65535, 0xFFFFFFFF, zeros 8, by decide, by decide, by decide, by decide, by decide, by decide, by decide⟩⟩

theorem test_witness_OutputsStayOffUntilAFrame :
    (∃ (i : Instr) (s : State), onFieldSide i = true ∧ s.blk.fside.seen = false) ∧
    (∃ (s : State) (ft : Nat), s.blk.bar.run = true ∧ s.blk.fside.powered = true ∧ lineGood 0xB4 s.blk.bar.tx = true) ∧
    (∃ (s : State), s.blk.fside.seen = false) ∧
    (∃ (f : FldSt), f.powered = true ∧ f.lockout = false ∧ f.seen = true ∧ f.silent = true) :=
  ⟨⟨.vfldLockoutEnter, st {}, by decide, by decide⟩,
   ⟨st { bar := { run := true, tx := dnFrame 1 false 0 0 0 }, fside := { powered := true } }, 0, by decide +kernel, by decide +kernel, by decide +kernel⟩,
   ⟨st { fside := { seen := false } }, by decide⟩,
   ⟨{ powered := true, seen := true, silent := true }, by decide, by decide, by decide, by decide⟩⟩

theorem test_witness_FieldSideCommandsKeepTheEngine :
    ∃ (i : Instr) (s : State), onFieldSide i = true :=
  ⟨.vfldLockoutEnter, st {}, by decide⟩

theorem test_witness_FjFlowInstructionsComplete :
    (∃ (s : State) (slot : Nat) (f : Fj), FjReady s.blk slot 1 f) ∧
    (∃ (s : State) (slot : Nat) (f : Fj), FjReady s.blk slot 1 f ∧ f.x.lockcnt = 0) ∧
    (∃ (s : State) (slot : Nat) (f : Fj) (k : BitVec 8), FjReady s.blk slot 2 f) ∧
    (∃ (s : State) (slot : Nat) (f : Fj), FjReady s.blk slot 2 f) ∧
    (∃ (s : State) (slot : Nat) (f : Fj), FjReady s.blk slot 1 f ∧ f.x.lockcnt ≠ 0) ∧
    (∃ (s : State) (slot : Nat) (f : Fj) (a : BitVec 24), FjReady s.blk slot 4 f ∧ a.toNat < f.img.code ∧ f.x.rstack.length < 16) ∧
    (∃ (s : State) (slot : Nat) (f : Fj) (p : Nat) (r : List Nat), FjReady s.blk slot 1 f ∧ f.x.rstack = p :: r) ∧
    (∃ (s : State) (slot : Nat) (f : Fj) (r : BitVec 16) (n : Nat), FjReady s.blk slot 3 f ∧ (n : Int) =
      (f.x.pc + 3 : Nat) + r.toInt ∧ n < f.img.code) ∧
    (∃ (s : State) (slot : Nat) (f : Fj) (i : Instr), FjReady s.blk slot 1 f ∧ i ∈ [.fjEnd slot, .fjLock slot] ∧ f.x.lockcnt ≠ 0) ∧
    (∃ (s : State) (slot : Nat) (f : Fj) (a : BitVec 24), FjReady s.blk slot 4 f ∧ f.img.code ≤ a.toNat) ∧
    (∃ (s : State) (slot : Nat) (f : Fj) (a : BitVec 24), FjReady s.blk slot 4 f ∧ a.toNat < f.img.code ∧ 16 ≤ f.x.rstack.length) ∧
    (∃ (s : State) (slot : Nat) (f : Fj), FjReady s.blk slot 1 f ∧ f.x.rstack = []) ∧
    (∃ (s : State) (slot : Nat) (f : Fj) (r : BitVec 16), FjReady s.blk slot 3 f ∧ ((f.x.pc + 3 : Nat) + r.toInt < 0 ∨
      (f.img.code : Int) ≤ (f.x.pc + 3 : Nat) + r.toInt)) ∧
    (∃ (s : State) (slot : Nat) (f : Fj) (c : BitVec 8) (r : BitVec 16) (n : Nat), FjReady s.blk slot 4 f ∧ f.is [.bool] c = true ∧
      f.flag c = true ∧ (n : Int) = (f.x.pc + 4 : Nat) + r.toInt ∧ n < f.img.code) ∧
    (∃ (s : State) (slot : Nat) (f : Fj) (c : BitVec 8) (r : BitVec 16), FjReady s.blk slot 4 f ∧ f.is [.bool] c = true ∧ f.flag c =
      false) ∧
    (∃ (s : State) (slot : Nat) (f : Fj) (c : BitVec 8) (r : BitVec 16), FjReady s.blk slot 4 f ∧ f.is [.bool] c = true ∧ f.flag c =
      true ∧ ((f.x.pc + 4 : Nat) + r.toInt < 0 ∨ (f.img.code : Int) ≤ (f.x.pc + 4 : Nat) + r.toInt)) ∧
    (∃ (s : State) (slot : Nat) (f : Fj) (c : BitVec 8) (r : BitVec 16) (n : Nat), FjReady s.blk slot 4 f ∧ f.is [.bool] c = true ∧
      f.flag c = false ∧ (n : Int) = (f.x.pc + 4 : Nat) + r.toInt ∧ n < f.img.code) ∧
    (∃ (s : State) (slot : Nat) (f : Fj) (c : BitVec 8) (r : BitVec 16), FjReady s.blk slot 4 f ∧ f.is [.bool] c = true ∧ f.flag c =
      true) ∧
    (∃ (s : State) (slot : Nat) (f : Fj) (c : BitVec 8) (r : BitVec 16), FjReady s.blk slot 4 f ∧ f.is [.bool] c = true ∧ f.flag c =
      false ∧ ((f.x.pc + 4 : Nat) + r.toInt < 0 ∨ (f.img.code : Int) ≤ (f.x.pc + 4 : Nat) + r.toInt)) ∧
    (∃ (s : State) (slot : Nat) (f : Fj) (u : BitVec 8) (r : BitVec 16), FjReady s.blk slot 4 f ∧ f.is [.uint] u = true ∧
      f.val u ≤ 1) ∧
    (∃ (s : State) (slot : Nat) (f : Fj) (u : BitVec 8) (r : BitVec 16) (n : Nat), FjReady s.blk slot 4 f ∧ f.is [.uint] u = true ∧
      2 ≤ f.val u ∧ (n : Int) = (f.x.pc + 4 : Nat) + r.toInt ∧ n < f.img.code) ∧
    (∃ (s : State) (slot : Nat) (f : Fj) (u : BitVec 8) (r : BitVec 16), FjReady s.blk slot 4 f ∧ f.is [.uint] u = true ∧
      2 ≤ f.val u ∧ ((f.x.pc + 4 : Nat) + r.toInt < 0 ∨ (f.img.code : Int) ≤ (f.x.pc + 4 : Nat) + r.toInt)) ∧
    (∃ (s : State) (slot : Nat) (f : Fj) (c : BitVec 8) (r : BitVec 16), FjReady s.blk slot 4 f ∧ f.is [.bool] c = false) ∧
    (∃ (s : State) (slot : Nat) (f : Fj) (u : BitVec 8) (r : BitVec 16), FjReady s.blk slot 4 f ∧ f.is [.uint] u = false) :=
  ⟨⟨st (wBlk wCtx), 0, wFj wCtx, ⟨rfl, by decide, by decide⟩⟩,
   ⟨st (wBlk wCtx), 0, wFj wCtx, ⟨rfl, by decide, by decide⟩, by decide⟩,
   ⟨st (wBlk wCtx), 0, wFj wCtx, 0, ⟨rfl, by decide, by decide⟩⟩,
   ⟨st (wBlk wCtx), 0, wFj wCtx, ⟨rfl, by decide, by decide⟩⟩,
   ⟨st (wBlk wIn), 0, wFj wIn, ⟨rfl, by decide, by decide⟩, by decide⟩,
   ⟨st (wBlk wCtx), 0, wFj wCtx, 16, ⟨rfl, by decide, by decide⟩, by decide, by decide⟩,
   ⟨st (wBlk wSub), 0, wFj wSub, 7, [], ⟨rfl, by decide, by decide⟩, by decide⟩,
   ⟨st (wBlk wCtx), 0, wFj wCtx, 0, 3, ⟨rfl, by decide, by decide⟩, by decide, by decide⟩,
   ⟨st (wBlk wIn), 0, wFj wIn, .fjEnd 0, ⟨rfl, by decide, by decide⟩, by decide, by decide⟩,
   ⟨st (wBlk wCtx), 0, wFj wCtx, 5000, ⟨rfl, by decide, by decide⟩, by decide⟩,
   ⟨st (wBlk ({ wCtx with rstack := List.replicate 16 7 })), 0, wFj ({ wCtx with rstack := List.replicate 16 7 }), 16, ⟨rfl, by decide, by decide⟩, by decide, by decide⟩,
   ⟨st (wBlk wCtx), 0, wFj wCtx, ⟨rfl, by decide, by decide⟩, by decide⟩,
   ⟨st (wBlk wCtx), 0, wFj wCtx, 32767, ⟨rfl, by decide, by decide⟩, by decide⟩,
   ⟨st (wBlk wCtx), 0, wFj wCtx, 7, 0, 4, ⟨rfl, by decide, by decide⟩, by decide, by decide, by decide, by decide⟩,
   ⟨st (wBlk wCtx), 0, wFj wCtx, 0, 0, ⟨rfl, by decide, by decide⟩, by decide, by decide⟩,
   ⟨st (wBlk wCtx), 0, wFj wCtx, 7, 32767, ⟨rfl, by decide, by decide⟩, by decide, by decide, by decide⟩,
   ⟨st (wBlk wCtx), 0, wFj wCtx, 0, 0, 4, ⟨rfl, by decide, by decide⟩, by decide, by decide, by decide, by decide⟩,
   ⟨st (wBlk wCtx), 0, wFj wCtx, 7, 0, ⟨rfl, by decide, by decide⟩, by decide, by decide⟩,
   ⟨st (wBlk wCtx), 0, wFj wCtx, 0, 32767, ⟨rfl, by decide, by decide⟩, by decide, by decide, by decide⟩,
   ⟨st (wBlk wCtx), 0, wFj wCtx, 2, 0, ⟨rfl, by decide, by decide⟩, by decide, by decide⟩,
   ⟨st (wBlk ({ wCtx with locals := [(9, 3)] })), 0, wFj ({ wCtx with locals := [(9, 3)] }), 9, 0, 4, ⟨rfl, by decide, by decide⟩, by decide, by decide, by decide, by decide⟩,
   ⟨st (wBlk ({ wCtx with locals := [(9, 3)] })), 0, wFj ({ wCtx with locals := [(9, 3)] }), 9, 32767, ⟨rfl, by decide, by decide⟩, by decide, by decide, by decide⟩,
   ⟨st (wBlk wCtx), 0, wFj wCtx, 1, 0, ⟨rfl, by decide, by decide⟩, by decide⟩,
   ⟨st (wBlk wCtx), 0, wFj wCtx, 0, 0, ⟨rfl, by decide, by decide⟩, by decide⟩⟩

theorem test_witness_FjLoadsAndStoresComplete :
    (∃ (s : State) (slot : Nat) (f : Fj) (d : BitVec 8) (a : BitVec 16), FjReady s.blk slot 4 f ∧ f.is tyW d = true) ∧
    (∃ (s : State) (slot : Nat) (f : Fj) (d : BitVec 8) (a : BitVec 16), FjReady s.blk slot 4 f ∧ f.is tyD d = true ∧
      inArea a.toNat 0 2 = true) ∧
    (∃ (s : State) (slot : Nat) (f : Fj) (a : BitVec 16) (v : BitVec 8), FjReady s.blk slot 4 f ∧ f.is tyW v = true ∧
      f.noWrite a.toNat = false) ∧
    (∃ (s : State) (slot : Nat) (f : Fj) (a : BitVec 16) (v : BitVec 8), FjReady s.blk slot 4 f ∧ f.is tyD v = true ∧
      inArea a.toNat 0 2 = true ∧ f.noWrite a.toNat = false ∧ f.noWrite (a.toNat + 1) = false) ∧
    (∃ (s : State) (slot : Nat) (f : Fj) (d : BitVec 8) (a : BitVec 16) (i : BitVec 8), FjReady s.blk slot 5 f ∧ f.is tyW d = true ∧
      f.is [.uint] i = true ∧ inArea a.toNat (f.val i) 1 = true) ∧
    (∃ (s : State) (slot : Nat) (f : Fj) (a : BitVec 16) (i v : BitVec 8), FjReady s.blk slot 5 f ∧ f.is [.uint] i = true ∧
      f.is tyW v = true ∧ inArea a.toNat (f.val i) 1 = true ∧ f.noWrite (a.toNat + f.val i) = false) ∧
    (∃ (s : State) (slot : Nat) (f : Fj) (d : BitVec 8) (a : BitVec 16) (k : BitVec 8), FjReady s.blk slot 5 f ∧ f.is [.bool] d =
      true ∧ k.toNat < 32) ∧
    (∃ (s : State) (slot : Nat) (f : Fj) (a : BitVec 16) (k v : BitVec 8), FjReady s.blk slot 5 f ∧ f.is [.bool] v = true ∧
      k.toNat < 32 ∧ f.noWrite a.toNat = false) ∧
    (∃ (s : State) (slot : Nat) (f : Fj) (d a : BitVec 8), FjReady s.blk slot 3 f ∧ f.same tyAll [d, a] = true) ∧
    (∃ (s : State) (slot : Nat) (f : Fj) (d : BitVec 8) (k : BitVec 32), FjReady s.blk slot 6 f ∧ f.is (.time :: tyW) d = true) ∧
    (∃ (s : State) (slot : Nat) (f : Fj) (d k : BitVec 8), FjReady s.blk slot 3 f ∧ f.is [.int, .time] d = true) ∧
    (∃ (s : State) (slot : Nat) (f : Fj) (d k : BitVec 8), FjReady s.blk slot 3 f ∧ f.is [.uint, .qual] d = true) ∧
    (∃ (s : State) (slot : Nat) (f : Fj) (d k : BitVec 8), FjReady s.blk slot 3 f ∧ f.is [.bool] d = true ∧ k.toNat < 2) ∧
    (∃ (s : State) (slot : Nat) (f : Fj) (d k : BitVec 8), FjReady s.blk slot 3 f ∧ f.is [.real] d = true) ∧
    (∃ (s : State) (slot : Nat) (f : Fj) (d : BitVec 8) (k : BitVec 32), FjReady s.blk slot 6 f ∧ f.is [.time] d = true) ∧
    (∃ (s : State) (slot : Nat) (f : Fj) (d : BitVec 8) (a : BitVec 16), FjReady s.blk slot 4 f ∧ f.is tyW d = false) ∧
    (∃ (s : State) (slot : Nat) (f : Fj) (d : BitVec 8) (a : BitVec 16), FjReady s.blk slot 4 f ∧ f.is tyD d = false) ∧
    (∃ (s : State) (slot : Nat) (f : Fj) (d : BitVec 8) (a : BitVec 16), FjReady s.blk slot 4 f ∧ f.is tyD d = true ∧
      inArea a.toNat 0 2 = false) ∧
    (∃ (s : State) (slot : Nat) (f : Fj) (v : BitVec 8) (a : BitVec 16), FjReady s.blk slot 4 f ∧ f.is tyW v = true ∧
      f.noWrite a.toNat = true) ∧
    (∃ (s : State) (slot : Nat) (f : Fj) (v : BitVec 8) (a : BitVec 16), FjReady s.blk slot 4 f ∧ f.is tyD v = true ∧
      inArea a.toNat 0 2 = true ∧ (f.noWrite a.toNat = true ∨ f.noWrite (a.toNat + 1) = true)) ∧
    (∃ (s : State) (slot : Nat) (f : Fj) (d i : BitVec 8) (a : BitVec 16), FjReady s.blk slot 5 f ∧ (f.is tyW d = false ∨
      f.is [.uint] i = false)) ∧
    (∃ (s : State) (slot : Nat) (f : Fj) (d i : BitVec 8) (a : BitVec 16), FjReady s.blk slot 5 f ∧ f.is tyW d = true ∧
      f.is [.uint] i = true ∧ inArea a.toNat (f.val i) 1 = false) ∧
    (∃ (s : State) (slot : Nat) (f : Fj) (v i : BitVec 8) (a : BitVec 16), FjReady s.blk slot 5 f ∧ f.is tyW v = true ∧
      f.is [.uint] i = true ∧ inArea a.toNat (f.val i) 1 = true ∧ f.noWrite (a.toNat + f.val i) = true) ∧
    (∃ (s : State) (slot : Nat) (f : Fj) (d k : BitVec 8) (a : BitVec 16), FjReady s.blk slot 5 f ∧ (f.is [.bool] d = false ∨
      32 ≤ k.toNat)) ∧
    (∃ (s : State) (slot : Nat) (f : Fj) (v k : BitVec 8) (a : BitVec 16), FjReady s.blk slot 5 f ∧ f.is [.bool] v = true ∧
      k.toNat < 32 ∧ f.noWrite a.toNat = true) ∧
    (∃ (s : State) (slot : Nat) (f : Fj) (d a : BitVec 8), FjReady s.blk slot 3 f ∧ f.same tyAll [d, a] = false) ∧
    (∃ (s : State) (slot : Nat) (f : Fj) (d : BitVec 8) (k : BitVec 32), FjReady s.blk slot 6 f ∧ f.is (.time :: tyW) d = false) ∧
    (∃ (s : State) (slot : Nat) (f : Fj) (d k : BitVec 8), FjReady s.blk slot 3 f ∧ (f.is (.time :: tyW) d = false ∨ (f.ty d =
      .bool ∧ 2 ≤ k.toNat))) ∧
    (∃ (s : State) (slot : Nat) (f : Fj) (d : BitVec 8) (k : BitVec 32), FjReady s.blk slot 6 f ∧ f.is [.time] d = false) :=
  ⟨⟨st (wBlk wCtx), 0, wFj wCtx, 0, 0, ⟨rfl, by decide, by decide⟩, by decide⟩,
   ⟨st (wBlk wCtx), 0, wFj wCtx, 4, 0, ⟨rfl, by decide, by decide⟩, by decide, by decide⟩,
   ⟨st (wBlk wCtx), 0, wFj wCtx, 0, 7, ⟨rfl, by decide, by decide⟩, by decide, by decide⟩,
   ⟨st (wBlk wCtx), 0, wFj wCtx, 0, 11, ⟨rfl, by decide, by decide⟩, by decide, by decide, by decide, by decide⟩,
   ⟨st (wBlk wCtx), 0, wFj wCtx, 0, 0, 16, ⟨rfl, by decide, by decide⟩, by decide, by decide, by decide⟩,
   ⟨st (wBlk wCtx), 0, wFj wCtx, 0, 9, 14, ⟨rfl, by decide, by decide⟩, by decide, by decide, by decide, by decide⟩,
   ⟨st (wBlk wCtx), 0, wFj wCtx, 0, 0, 14, ⟨rfl, by decide, by decide⟩, by decide, by decide⟩,
   ⟨st (wBlk wCtx), 0, wFj wCtx, 0, 7, 14, ⟨rfl, by decide, by decide⟩, by decide, by decide, by decide⟩,
   ⟨st (wBlk wCtx), 0, wFj wCtx, 0, 7, ⟨rfl, by decide, by decide⟩, by decide⟩,
   ⟨st (wBlk wCtx), 0, wFj wCtx, 0, 7, ⟨rfl, by decide, by decide⟩, by decide⟩,
   ⟨st (wBlk wCtx), 0, wFj wCtx, 1, 7, ⟨rfl, by decide, by decide⟩, by decide⟩,
   ⟨st (wBlk wCtx), 0, wFj wCtx, 2, 7, ⟨rfl, by decide, by decide⟩, by decide⟩,
   ⟨st (wBlk wCtx), 0, wFj wCtx, 0, 0, ⟨rfl, by decide, by decide⟩, by decide, by decide⟩,
   ⟨st (wBlk wCtx), 0, wFj wCtx, 3, 7, ⟨rfl, by decide, by decide⟩, by decide⟩,
   ⟨st (wBlk wCtx), 0, wFj wCtx, 4, 7, ⟨rfl, by decide, by decide⟩, by decide⟩,
   ⟨st (wBlk wCtx), 0, wFj wCtx, 4, 0, ⟨rfl, by decide, by decide⟩, by decide⟩,
   ⟨st (wBlk wCtx), 0, wFj wCtx, 0, 0, ⟨rfl, by decide, by decide⟩, by decide⟩,
   ⟨st (wBlk wCtx), 0, wFj wCtx, 4, 32767, ⟨rfl, by decide, by decide⟩, by decide, by decide⟩,
   ⟨st (wBlk wCtx), 0, wFj wCtx, 0, 32768, ⟨rfl, by decide, by decide⟩, by decide, by decide⟩,
   ⟨st (wBlk wCtx), 0, wFj wCtx, 4, 32768, ⟨rfl, by decide, by decide⟩, by decide, by decide, by decide⟩,
   ⟨st (wBlk wCtx), 0, wFj wCtx, 0, 7, 0, ⟨rfl, by decide, by decide⟩, by decide⟩,
   ⟨st (wBlk wCtx), 0, wFj wCtx, 0, 9, 32767, ⟨rfl, by decide, by decide⟩, by decide, by decide, by decide⟩,
   ⟨st (wBlk wCtx), 0, wFj wCtx, 0, 9, 32768, ⟨rfl, by decide, by decide⟩, by decide, by decide, by decide, by decide⟩,
   ⟨st (wBlk wCtx), 0, wFj wCtx, 0, 40, 0, ⟨rfl, by decide, by decide⟩, by decide⟩,
   ⟨st (wBlk wCtx), 0, wFj wCtx, 0, 7, 32768, ⟨rfl, by decide, by decide⟩, by decide, by decide, by decide⟩,
   ⟨st (wBlk wCtx), 0, wFj wCtx, 0, 8, ⟨rfl, by decide, by decide⟩, by decide⟩,
   ⟨st (wBlk wCtx), 0, wFj wCtx, 6, 7, ⟨rfl, by decide, by decide⟩, by decide⟩,
   ⟨st (wBlk wCtx), 0, wFj wCtx, 0, 7, ⟨rfl, by decide, by decide⟩, by decide⟩,
   ⟨st (wBlk wCtx), 0, wFj wCtx, 0, 7, ⟨rfl, by decide, by decide⟩, by decide⟩⟩

theorem test_witness_FjIntegerInstructionsComplete :
    (∃ (s : State) (slot : Nat) (f : Fj) (d a b : BitVec 8), FjReady s.blk slot 4 f ∧ f.same tyIUT [d, a, b] = true) ∧
    (∃ (s : State) (slot : Nat) (f : Fj) (d a b : BitVec 8), FjReady s.blk slot 4 f ∧ f.same tyIU [d, a, b] = true) ∧
    (∃ (s : State) (slot : Nat) (f : Fj) (d a b : BitVec 8), FjReady s.blk slot 4 f ∧ f.same tyIU [d, a, b] = true ∧ f.int b ≠ 0) ∧
    (∃ (s : State) (slot : Nat) (f : Fj) (d a b : BitVec 8), FjReady s.blk slot 4 f ∧ f.same tyIU [d, a, b] = true ∧ f.int b = 0) ∧
    (∃ (s : State) (slot : Nat) (f : Fj) (d a : BitVec 8), FjReady s.blk slot 3 f ∧ f.same tyIT [d, a] = true) ∧
    (∃ (s : State) (slot : Nat) (f : Fj) (d a k : BitVec 8), FjReady s.blk slot 4 f ∧ f.same tyIUT [d, a] = true) ∧
    (∃ (s : State) (slot : Nat) (f : Fj) (d a b : BitVec 8), FjReady s.blk slot 4 f ∧ f.same tyIUQ [d, a, b] = true) ∧
    (∃ (s : State) (slot : Nat) (f : Fj) (d a : BitVec 8), FjReady s.blk slot 3 f ∧ f.same tyIUQ [d, a] = true) ∧
    (∃ (s : State) (slot : Nat) (f : Fj) (d a b : BitVec 8), FjReady s.blk slot 4 f ∧ f.same tyIUQ [d, a] = true ∧ f.is [.uint] b =
      true) ∧
    (∃ (s : State) (slot : Nat) (f : Fj) (d a b : BitVec 8) (i : Instr), FjReady s.blk slot 4 f ∧ i ∈ [.fjAdd slot d a b,
      .fjSub slot d a b, .fjMin slot d a b, .fjMax slot d a b] ∧ f.same tyIUT [d, a, b] = false) ∧
    (∃ (s : State) (slot : Nat) (f : Fj) (d a b : BitVec 8) (i : Instr), FjReady s.blk slot 4 f ∧ i ∈ [.fjMul slot d a b,
      .fjDiv slot d a b, .fjRem slot d a b] ∧ f.same tyIU [d, a, b] = false) ∧
    (∃ (s : State) (slot : Nat) (f : Fj) (d a : BitVec 8) (i : Instr), FjReady s.blk slot 3 f ∧ i ∈ [.fjNeg slot d a,
      .fjAbs slot d a] ∧ f.same tyIT [d, a] = false) ∧
    (∃ (s : State) (slot : Nat) (f : Fj) (d a k : BitVec 8), FjReady s.blk slot 4 f ∧ f.same tyIUT [d, a] = false) ∧
    (∃ (s : State) (slot : Nat) (f : Fj) (d a b : BitVec 8) (i : Instr), FjReady s.blk slot 4 f ∧ i ∈ [.fjAnd slot d a b,
      .fjOr slot d a b, .fjXor slot d a b] ∧ f.same tyIUQ [d, a, b] = false) ∧
    (∃ (s : State) (slot : Nat) (f : Fj) (d a : BitVec 8), FjReady s.blk slot 3 f ∧ f.same tyIUQ [d, a] = false) ∧
    (∃ (s : State) (slot : Nat) (f : Fj) (d a b : BitVec 8) (i : Instr), FjReady s.blk slot 4 f ∧ i ∈ [.fjShl slot d a b,
      .fjShr slot d a b] ∧ (f.same tyIUQ [d, a] = false ∨ f.is [.uint] b = false)) :=
  ⟨⟨st (wBlk wCtx), 0, wFj wCtx, 1, 8, 15, ⟨rfl, by decide, by decide⟩, by decide⟩,
   ⟨st (wBlk wCtx), 0, wFj wCtx, 1, 8, 15, ⟨rfl, by decide, by decide⟩, by decide⟩,
   ⟨st (wBlk wCtx), 0, wFj wCtx, 1, 8, 8, ⟨rfl, by decide, by decide⟩, by decide, by decide⟩,
   ⟨st (wBlk wCtx), 0, wFj wCtx, 1, 8, 15, ⟨rfl, by decide, by decide⟩, by decide, by decide⟩,
   ⟨st (wBlk wCtx), 0, wFj wCtx, 1, 8, ⟨rfl, by decide, by decide⟩, by decide⟩,
   ⟨st (wBlk wCtx), 0, wFj wCtx, 1, 8, 14, ⟨rfl, by decide, by decide⟩, by decide⟩,
   ⟨st (wBlk wCtx), 0, wFj wCtx, 1, 8, 15, ⟨rfl, by decide, by decide⟩, by decide⟩,
   ⟨st (wBlk wCtx), 0, wFj wCtx, 1, 8, ⟨rfl, by decide, by decide⟩, by decide⟩,
   ⟨st (wBlk wCtx), 0, wFj wCtx, 1, 8, 16, ⟨rfl, by decide, by decide⟩, by decide, by decide⟩,
   ⟨st (wBlk wCtx), 0, wFj wCtx, 0, 7, 14, .fjAdd 0 0 7 14, ⟨rfl, by decide, by decide⟩, by decide, by decide⟩,
   ⟨st (wBlk wCtx), 0, wFj wCtx, 0, 7, 14, .fjMul 0 0 7 14, ⟨rfl, by decide, by decide⟩, by decide, by decide⟩,
   ⟨st (wBlk wCtx), 0, wFj wCtx, 0, 7, .fjNeg 0 0 7, ⟨rfl, by decide, by decide⟩, by decide, by decide⟩,
   ⟨st (wBlk wCtx), 0, wFj wCtx, 0, 7, 14, ⟨rfl, by decide, by decide⟩, by decide⟩,
   ⟨st (wBlk wCtx), 0, wFj wCtx, 0, 7, 14, .fjAnd 0 0 7 14, ⟨rfl, by decide, by decide⟩, by decide, by decide⟩,
   ⟨st (wBlk wCtx), 0, wFj wCtx, 0, 7, ⟨rfl, by decide, by decide⟩, by decide⟩,
   ⟨st (wBlk wCtx), 0, wFj wCtx, 0, 7, 14, .fjShl 0 0 7 14, ⟨rfl, by decide, by decide⟩, by decide, by decide⟩⟩

theorem test_witness_FjRealInstructionsComplete :
    (∃ (s : State) (slot : Nat) (f : Fj) (d a b : BitVec 8), FjReady s.blk slot 4 f ∧ f.same [.real] [d, a, b] = true) ∧
    (∃ (s : State) (slot : Nat) (f : Fj) (d a b c : BitVec 8), FjReady s.blk slot 5 f ∧ f.same [.real] [d, a, b, c] = true) ∧
    (∃ (s : State) (slot : Nat) (f : Fj) (d a : BitVec 8), FjReady s.blk slot 3 f ∧ f.same [.real] [d, a] = true) ∧
    (∃ (s : State) (slot : Nat) (f : Fj) (d a : BitVec 8), FjReady s.blk slot 4 f ∧ f.same [.real] [d, a] = true) ∧
    (∃ (s : State) (slot : Nat) (f : Fj) (d a b : BitVec 8), FjReady s.blk slot 5 f ∧ f.same [.real] [d, a, b] = true) ∧
    (∃ (s : State) (slot : Nat) (f : Fj) (d a : BitVec 8), FjReady s.blk slot 3 f ∧ f.is [.int, .uint] a = true ∧ f.is [.real] d =
      true) ∧
    (∃ (s : State) (slot : Nat) (f : Fj) (d a : BitVec 8), FjReady s.blk slot 3 f ∧ f.is [.real] a = true ∧ f.is [.int, .uint] d =
      true) ∧
    (∃ (s : State) (slot : Nat) (f : Fj) (d a : BitVec 8), FjReady s.blk slot 3 f ∧ f.is [.int, .uint] a = true ∧ f.is [.int,
      .uint] d = true ∧ f.ty a ≠ f.ty d) ∧
    (∃ (s : State) (slot : Nat) (f : Fj) (d a : BitVec 8), FjReady s.blk slot 3 f ∧ f.is [.time] a = true ∧ f.is [.real] d = true) ∧
    (∃ (s : State) (slot : Nat) (f : Fj) (d a : BitVec 8), FjReady s.blk slot 3 f ∧ f.is [.real] a = true ∧ f.is [.time] d = true) ∧
    (∃ (s : State) (slot : Nat) (f : Fj) (d a : BitVec 8), FjReady s.blk slot 3 f ∧ f.is [.bool] a = true ∧ f.is [.int, .uint] d =
      true) ∧
    (∃ (s : State) (slot : Nat) (f : Fj) (d a : BitVec 8), FjReady s.blk slot 3 f ∧ f.is [.int, .uint] a = true ∧ f.is [.bool] d =
      true) ∧
    (∃ (s : State) (slot : Nat) (f : Fj) (d a b : BitVec 8) (i : Instr), FjReady s.blk slot 4 f ∧ i ∈ [.fjFadd slot d a b,
      .fjFsub slot d a b, .fjFmul slot d a b, .fjFdiv slot d a b, .fjFmin slot d a b, .fjFmax slot d a b] ∧ f.same [.real] [d, a,
      b] = false) ∧
    (∃ (s : State) (slot : Nat) (f : Fj) (d a b c : BitVec 8), FjReady s.blk slot 5 f ∧ f.same [.real] [d, a, b, c] = false) ∧
    (∃ (s : State) (slot : Nat) (f : Fj) (d a : BitVec 8) (i : Instr), FjReady s.blk slot 3 f ∧ i ∈ [.fjFsqrt slot d a,
      .fjFneg slot d a, .fjFabs slot d a, .fjFrnd slot d a] ∧ f.same [.real] [d, a] = false) ∧
    (∃ (s : State) (slot : Nat) (f : Fj) (d a : BitVec 8) (i : Instr), FjReady s.blk slot 4 f ∧ i ∈ [.fjFln slot d a,
      .fjFexp slot d a] ∧ f.same [.real] [d, a] = false) ∧
    (∃ (s : State) (slot : Nat) (f : Fj) (d a b : BitVec 8), FjReady s.blk slot 5 f ∧ f.same [.real] [d, a, b] = false) ∧
    (∃ (s : State) (slot : Nat) (f : Fj) (d a : BitVec 8), FjReady s.blk slot 3 f ∧ (f.ty d = f.ty a ∨ f.is [.bool, .int, .uint,
      .real, .time] d = false ∨ f.is [.bool, .int, .uint, .real, .time] a = false ∨ (f.ty a = .bool ∧ f.ty d = .real) ∨ (f.ty a =
      .real ∧ f.ty d = .bool) ∨ (f.ty a = .time ∧ f.ty d ≠ .real) ∨ (f.ty d = .time ∧ f.ty a ≠ .real))) :=
  ⟨⟨st (wBlk wCtx), 0, wFj wCtx, 3, 10, 17, ⟨rfl, by decide, by decide⟩, by decide⟩,
   ⟨st (wBlk wCtx), 0, wFj wCtx, 3, 10, 17, 24, ⟨rfl, by decide, by decide⟩, by decide⟩,
   ⟨st (wBlk wCtx), 0, wFj wCtx, 3, 10, ⟨rfl, by decide, by decide⟩, by decide⟩,
   ⟨st (wBlk wCtx), 0, wFj wCtx, 3, 10, ⟨rfl, by decide, by decide⟩, by decide⟩,
   ⟨st (wBlk wCtx), 0, wFj wCtx, 3, 10, 17, ⟨rfl, by decide, by decide⟩, by decide⟩,
   ⟨st (wBlk wCtx), 0, wFj wCtx, 3, 8, ⟨rfl, by decide, by decide⟩, by decide, by decide⟩,
   ⟨st (wBlk wCtx), 0, wFj wCtx, 1, 10, ⟨rfl, by decide, by decide⟩, by decide, by decide⟩,
   ⟨st (wBlk wCtx), 0, wFj wCtx, 1, 9, ⟨rfl, by decide, by decide⟩, by decide, by decide, by decide⟩,
   ⟨st (wBlk wCtx), 0, wFj wCtx, 3, 11, ⟨rfl, by decide, by decide⟩, by decide, by decide⟩,
   ⟨st (wBlk wCtx), 0, wFj wCtx, 4, 10, ⟨rfl, by decide, by decide⟩, by decide, by decide⟩,
   ⟨st (wBlk wCtx), 0, wFj wCtx, 1, 7, ⟨rfl, by decide, by decide⟩, by decide, by decide⟩,
   ⟨st (wBlk wCtx), 0, wFj wCtx, 0, 8, ⟨rfl, by decide, by decide⟩, by decide, by decide⟩,
   ⟨st (wBlk wCtx), 0, wFj wCtx, 0, 7, 14, .fjFadd 0 0 7 14, ⟨rfl, by decide, by decide⟩, by decide, by decide⟩,
   ⟨st (wBlk wCtx), 0, wFj wCtx, 0, 7, 14, 21, ⟨rfl, by decide, by decide⟩, by decide⟩,
   ⟨st (wBlk wCtx), 0, wFj wCtx, 0, 7, .fjFsqrt 0 0 7, ⟨rfl, by decide, by decide⟩, by decide, by decide⟩,
   ⟨st (wBlk wCtx), 0, wFj wCtx, 0, 7, .fjFln 0 0 7, ⟨rfl, by decide, by decide⟩, by decide, by decide⟩,
   ⟨st (wBlk wCtx), 0, wFj wCtx, 0, 7, 14, ⟨rfl, by decide, by decide⟩, by decide⟩,
   ⟨st (wBlk wCtx), 0, wFj wCtx, 0, 7, ⟨rfl, by decide, by decide⟩, by decide⟩⟩

theorem test_witness_FjComparisonsAndBooleansComplete :
    (∃ (s : State) (slot : Nat) (f : Fj) (d a b cond : BitVec 8), FjReady s.blk slot 5 f ∧ f.is [.bool] d = true ∧ f.same [.int,
      .uint, .time] [a, b] = true ∧ cond.toNat ≤ 5) ∧
    (∃ (s : State) (slot : Nat) (f : Fj) (d a b cond : BitVec 8), FjReady s.blk slot 5 f ∧ f.is [.bool] d = true ∧ f.same [.qual,
      .bool] [a, b] = true ∧ cond.toNat ≤ 1) ∧
    (∃ (s : State) (slot : Nat) (f : Fj) (d a b cond : BitVec 8), FjReady s.blk slot 5 f ∧ f.is [.bool] d = true ∧
      f.same [.real] [a, b] = true ∧ cond.toNat ≤ 5) ∧
    (∃ (s : State) (slot : Nat) (f : Fj) (d a b : BitVec 8), FjReady s.blk slot 4 f ∧ f.same [.bool] [d, a, b] = true) ∧
    (∃ (s : State) (slot : Nat) (f : Fj) (d a : BitVec 8), FjReady s.blk slot 3 f ∧ f.same [.bool] [d, a] = true) ∧
    (∃ (s : State) (slot : Nat) (f : Fj) (d c a b : BitVec 8), FjReady s.blk slot 5 f ∧ f.is [.bool] c = true ∧ f.same tyAll [d, a,
      b] = true) ∧
    (∃ (s : State) (slot : Nat) (f : Fj) (d a lo hi : BitVec 8), FjReady s.blk slot 5 f ∧ f.same [.int, .uint, .time] [d, a, lo,
      hi] = true) ∧
    (∃ (s : State) (slot : Nat) (f : Fj) (d a lo hi : BitVec 8), FjReady s.blk slot 5 f ∧ f.same [.real] [d, a, lo, hi] = true) ∧
    (∃ (s : State) (slot : Nat) (f : Fj) (d q : BitVec 8) (k : BitVec 16), FjReady s.blk slot 5 f ∧ f.is [.bool] d = true ∧
      f.is [.qual] q = true) ∧
    (∃ (s : State) (slot : Nat) (f : Fj) (d a m : BitVec 8), FjReady s.blk slot 4 f ∧ f.same [.bool] [d, a, m] = true) ∧
    (∃ (s : State) (slot : Nat) (f : Fj) (q m r : BitVec 8), FjReady s.blk slot 4 f ∧ f.same [.bool] [q, m, r] = true) ∧
    (∃ (s : State) (slot : Nat) (f : Fj) (d a b cond : BitVec 8), FjReady s.blk slot 5 f ∧ (f.is [.bool] d = false ∨ f.same [.int,
      .uint, .real, .time, .qual, .bool] [a, b] = false ∨ 5 < cond.toNat ∨ ((f.ty a = .qual ∨ f.ty a = .bool) ∧ 1 < cond.toNat))) ∧
    (∃ (s : State) (slot : Nat) (f : Fj) (d a b : BitVec 8) (i : Instr), FjReady s.blk slot 4 f ∧ i ∈ [.fjBand slot d a b,
      .fjBor slot d a b, .fjBxor slot d a b, .fjEdgr slot d a b, .fjEdgf slot d a b, .fjEdgb slot d a b, .fjSr slot d a b,
      .fjRs slot d a b] ∧ f.same [.bool] [d, a, b] = false) ∧
    (∃ (s : State) (slot : Nat) (f : Fj) (d a : BitVec 8), FjReady s.blk slot 3 f ∧ f.same [.bool] [d, a] = false) ∧
    (∃ (s : State) (slot : Nat) (f : Fj) (d c a b : BitVec 8), FjReady s.blk slot 5 f ∧ (f.is [.bool] c = false ∨ f.same tyAll [d,
      a, b] = false)) ∧
    (∃ (s : State) (slot : Nat) (f : Fj) (d a lo hi : BitVec 8), FjReady s.blk slot 5 f ∧ f.same [.int, .uint, .real, .time] [d, a,
      lo, hi] = false) ∧
    (∃ (s : State) (slot : Nat) (f : Fj) (d q : BitVec 8) (k : BitVec 16), FjReady s.blk slot 5 f ∧ (f.is [.bool] d = false ∨
      f.is [.qual] q = false)) :=
  ⟨⟨st (wBlk wCtx), 0, wFj wCtx, 0, 8, 15, 0, ⟨rfl, by decide, by decide⟩, by decide, by decide, by decide⟩,
   ⟨st (wBlk wCtx), 0, wFj wCtx, 0, 7, 14, 0, ⟨rfl, by decide, by decide⟩, by decide, by decide, by decide⟩,
   ⟨st (wBlk wCtx), 0, wFj wCtx, 0, 10, 17, 0, ⟨rfl, by decide, by decide⟩, by decide, by decide, by decide⟩,
   ⟨st (wBlk wCtx), 0, wFj wCtx, 0, 7, 14, ⟨rfl, by decide, by decide⟩, by decide⟩,
   ⟨st (wBlk wCtx), 0, wFj wCtx, 0, 7, ⟨rfl, by decide, by decide⟩, by decide⟩,
   ⟨st (wBlk wCtx), 0, wFj wCtx, 0, 7, 14, 21, ⟨rfl, by decide, by decide⟩, by decide, by decide⟩,
   ⟨st (wBlk wCtx), 0, wFj wCtx, 1, 8, 15, 22, ⟨rfl, by decide, by decide⟩, by decide⟩,
   ⟨st (wBlk wCtx), 0, wFj wCtx, 3, 10, 17, 24, ⟨rfl, by decide, by decide⟩, by decide⟩,
   ⟨st (wBlk wCtx), 0, wFj wCtx, 0, 12, 0, ⟨rfl, by decide, by decide⟩, by decide, by decide⟩,
   ⟨st (wBlk wCtx), 0, wFj wCtx, 0, 7, 14, ⟨rfl, by decide, by decide⟩, by decide⟩,
   ⟨st (wBlk wCtx), 0, wFj wCtx, 0, 7, 14, ⟨rfl, by decide, by decide⟩, by decide⟩,
   ⟨st (wBlk wCtx), 0, wFj wCtx, 0, 7, 14, 21, ⟨rfl, by decide, by decide⟩, by decide⟩,
   ⟨st (wBlk wCtx), 0, wFj wCtx, 0, 7, 15, .fjBand 0 0 7 15, ⟨rfl, by decide, by decide⟩, by decide, by decide⟩,
   ⟨st (wBlk wCtx), 0, wFj wCtx, 0, 8, ⟨rfl, by decide, by decide⟩, by decide⟩,
   ⟨st (wBlk wCtx), 0, wFj wCtx, 0, 7, 14, 22, ⟨rfl, by decide, by decide⟩, by decide⟩,
   ⟨st (wBlk wCtx), 0, wFj wCtx, 0, 7, 14, 21, ⟨rfl, by decide, by decide⟩, by decide⟩,
   ⟨st (wBlk wCtx), 0, wFj wCtx, 0, 7, 0, ⟨rfl, by decide, by decide⟩, by decide⟩⟩

theorem test_witness_FjTimerInstructionsComplete :
    (∃ (s : State) (slot : Nat) (f : Fj) (t : BitVec 16) (a : BitVec 8), FjReady s.blk slot 4 f ∧ f.is [.time] a = true ∧
      f.tIll t.toNat 1 = false ∧ f.tOut t.toNat = false ∧ 0 ≤ f.int a) ∧
    (∃ (s : State) (slot : Nat) (f : Fj) (t : BitVec 16) (a : BitVec 8), FjReady s.blk slot 4 f ∧ f.is [.time] a = true ∧
      f.tIll t.toNat 2 = false ∧ f.tOut t.toNat = false ∧ 0 < f.int a ∧ usOf (f.int a).toNat < 2 ^ 32) ∧
    (∃ (s : State) (slot : Nat) (f : Fj) (t : BitVec 16), FjReady s.blk slot 3 f ∧ f.tIll t.toNat 3 = false ∧ f.tOut t.toNat =
      false) ∧
    (∃ (s : State) (slot : Nat) (f : Fj) (t : BitVec 16), FjReady s.blk slot 3 f ∧ f.tOut t.toNat = false) ∧
    (∃ (s : State) (slot : Nat) (f : Fj) (t : BitVec 16), FjReady s.blk slot 3 f ∧ f.tIll t.toNat 1 = false ∧ f.tOut t.toNat =
      false) ∧
    (∃ (s : State) (slot : Nat) (f : Fj) (d : BitVec 8) (t : BitVec 16), FjReady s.blk slot 5 f ∧ f.is [.bool] d = true ∧
      f.tOut t.toNat = false) ∧
    (∃ (s : State) (slot : Nat) (f : Fj) (d : BitVec 8) (t : BitVec 16), FjReady s.blk slot 5 f ∧ f.is [.time] d = true ∧
      f.tOut t.toNat = false) ∧
    (∃ (s : State) (slot : Nat) (f : Fj) (d : BitVec 8) (t : BitVec 16), FjReady s.blk slot 5 f ∧ f.is [.uint] d = true ∧
      f.tOut t.toNat = false) ∧
    (∃ (s : State) (slot : Nat) (f : Fj) (d : BitVec 8) (t : BitVec 16) (i p : BitVec 8), FjReady s.blk slot 6 f ∧ f.is [.bool] d =
      true ∧ f.is [.bool] i = true ∧ f.is [.time] p = true ∧ f.tIll t.toNat 1 = false ∧ f.tOut t.toNat = false ∧ 0 ≤ f.int p ∧
      f.flag i = false) ∧
    (∃ (s : State) (slot : Nat) (f : Fj) (d : BitVec 8) (t : BitVec 16) (i p : BitVec 8), FjReady s.blk slot 6 f ∧ f.is [.bool] d =
      true ∧ f.is [.bool] i = true ∧ f.is [.time] p = true ∧ f.tIll t.toNat 1 = false ∧ f.tOut t.toNat = false ∧ 0 ≤ f.int p ∧
      f.flag i = true ∧ (f.timer t.toNat).mode ≠ .idle) ∧
    (∃ (s : State) (slot : Nat) (f : Fj) (d : BitVec 8), FjReady s.blk slot 2 f ∧ f.is [.time] d = true) ∧
    (∃ (s : State) (slot : Nat) (f : Fj) (c i m : BitVec 8), FjReady s.blk slot 4 f ∧ f.is [.uint] c = true ∧ f.is [.bool] i =
      true ∧ f.is [.bool] m = true) ∧
    (∃ (s : State) (slot : Nat) (f : Fj) (d : BitVec 8) (t : BitVec 16) (i p : BitVec 8), FjReady s.blk slot 6 f ∧ f.is [.bool] d =
      true ∧ f.is [.bool] i = true ∧ f.is [.time] p = true ∧ f.tIll t.toNat 1 = false ∧ f.tOut t.toNat = false ∧ 0 ≤ f.int p ∧
      f.flag i = true ∧ (f.timer t.toNat).mode = .idle) ∧
    (∃ (s : State) (slot : Nat) (f : Fj) (t : BitVec 16) (a : BitVec 8), FjReady s.blk slot 4 f ∧ (f.is [.time] a = false ∨
      f.tIll t.toNat 1 = true)) ∧
    (∃ (s : State) (slot : Nat) (f : Fj) (t : BitVec 16) (a : BitVec 8), FjReady s.blk slot 4 f ∧ f.is [.time] a = true ∧
      f.tIll t.toNat 1 = false ∧ (f.tOut t.toNat = true ∨ f.int a < 0)) ∧
    (∃ (s : State) (slot : Nat) (f : Fj) (t : BitVec 16) (a : BitVec 8), FjReady s.blk slot 4 f ∧ (f.is [.time] a = false ∨
      f.tIll t.toNat 2 = true)) ∧
    (∃ (s : State) (slot : Nat) (f : Fj) (t : BitVec 16) (a : BitVec 8), FjReady s.blk slot 4 f ∧ f.is [.time] a = true ∧
      f.tIll t.toNat 2 = false ∧ (f.tOut t.toNat = true ∨ f.int a ≤ 0 ∨ 2 ^ 32 ≤ usOf (f.int a).toNat)) ∧
    (∃ (s : State) (slot : Nat) (f : Fj) (t : BitVec 16), FjReady s.blk slot 3 f ∧ f.tIll t.toNat 3 = true) ∧
    (∃ (s : State) (slot : Nat) (f : Fj) (t : BitVec 16), FjReady s.blk slot 3 f ∧ f.tIll t.toNat 1 = true) ∧
    (∃ (s : State) (slot : Nat) (f : Fj) (t : BitVec 16) (i : Instr), FjReady s.blk slot 3 f ∧ i ∈ [.fjTstartw slot t,
      .fjTresume slot t, .fjTcancel slot t] ∧ f.tOut t.toNat = true) ∧
    (∃ (s : State) (slot : Nat) (f : Fj) (d : BitVec 8) (t : BitVec 16) (k : BitVec 8), FjReady s.blk slot 5 f ∧ (4 < k.toNat ∨
      f.is (if k.toNat = 0 then [.bool] else if k.toNat ≤ 2 then [.time] else [.uint]) d = false)) ∧
    (∃ (s : State) (slot : Nat) (f : Fj) (d : BitVec 8) (t : BitVec 16) (k : BitVec 8), FjReady s.blk slot 5 f ∧ k.toNat ≤ 4 ∧
      f.is (if k.toNat = 0 then [.bool] else if k.toNat ≤ 2 then [.time] else [.uint]) d = true ∧ f.tOut t.toNat = true) ∧
    (∃ (s : State) (slot : Nat) (f : Fj) (d : BitVec 8) (t : BitVec 16) (i p : BitVec 8), FjReady s.blk slot 6 f ∧ (f.is [.bool] d =
      false ∨ f.is [.bool] i = false ∨ f.is [.time] p = false ∨ f.tIll t.toNat 1 = true)) ∧
    (∃ (s : State) (slot : Nat) (f : Fj) (d : BitVec 8) (t : BitVec 16) (i p : BitVec 8), FjReady s.blk slot 6 f ∧ f.is [.bool] d =
      true ∧ f.is [.bool] i = true ∧ f.is [.time] p = true ∧ f.tIll t.toNat 1 = false ∧ (f.tOut t.toNat = true ∨ f.int p < 0)) ∧
    (∃ (s : State) (slot : Nat) (f : Fj) (d : BitVec 8), FjReady s.blk slot 2 f ∧ f.is [.time] d = false) ∧
    (∃ (s : State) (slot : Nat) (f : Fj) (c i m : BitVec 8), FjReady s.blk slot 4 f ∧ (f.is [.uint] c = false ∨ f.is [.bool] i =
      false ∨ f.is [.bool] m = false)) :=
  ⟨⟨st (wBlk wCtx), 0, wFj wCtx, 0, 11, ⟨rfl, by decide, by decide⟩, by decide, by decide, by decide, by decide⟩,
   ⟨st (wBlk wCtx), 0, wFj wCtx, 1, 11, ⟨rfl, by decide, by decide⟩, by decide, by decide, by decide, by decide, by decide⟩,
   ⟨st (wBlk wCtx), 0, wFj wCtx, 2, ⟨rfl, by decide, by decide⟩, by decide, by decide⟩,
   ⟨st (wBlk wCtx), 0, wFj wCtx, 0, ⟨rfl, by decide, by decide⟩, by decide⟩,
   ⟨st (wBlk wCtx), 0, wFj wCtx, 0, ⟨rfl, by decide, by decide⟩, by decide, by decide⟩,
   ⟨st (wBlk wCtx), 0, wFj wCtx, 0, 0, ⟨rfl, by decide, by decide⟩, by decide, by decide⟩,
   ⟨st (wBlk wCtx), 0, wFj wCtx, 4, 0, ⟨rfl, by decide, by decide⟩, by decide, by decide⟩,
   ⟨st (wBlk wCtx), 0, wFj wCtx, 2, 0, ⟨rfl, by decide, by decide⟩, by decide, by decide⟩,
   ⟨st (wBlk wCtx), 0, wFj wCtx, 0, 0, 14, 25, ⟨rfl, by decide, by decide⟩, by decide, by decide, by decide, by decide, by decide, by decide, by decide⟩,
   ⟨st (wBlk wCtx), 0, wFj wCtx, 0, 0, 7, 25, ⟨rfl, by decide, by decide⟩, by decide, by decide, by decide, by decide, by decide, by decide, by decide, by decide⟩,
   ⟨st (wBlk wCtx), 0, wFj wCtx, 4, ⟨rfl, by decide, by decide⟩, by decide⟩,
   ⟨st (wBlk wCtx), 0, wFj wCtx, 2, 7, 14, ⟨rfl, by decide, by decide⟩, by decide, by decide, by decide⟩,
   ⟨st wQuiet, 0, wQuietFj, 0, 0, 7, 25, ⟨rfl, by decide, by decide⟩, by decide, by decide, by decide, by decide, by decide, by decide, by decide, by decide⟩,
   ⟨st (wBlk wCtx), 0, wFj wCtx, 0, 7, ⟨rfl, by decide, by decide⟩, by decide⟩,
   ⟨st (wBlk wCtx), 0, wFj wCtx, 256, 11, ⟨rfl, by decide, by decide⟩, by decide, by decide, by decide⟩,
   ⟨st (wBlk wCtx), 0, wFj wCtx, 0, 7, ⟨rfl, by decide, by decide⟩, by decide⟩,
   ⟨st (wBlk wCtx), 0, wFj wCtx, 1, 18, ⟨rfl, by decide, by decide⟩, by decide, by decide, by decide⟩,
   ⟨st (wBlk wCtx), 0, wFj wCtx, 0, ⟨rfl, by decide, by decide⟩, by decide⟩,
   ⟨st (wBlk wCtx), 0, wFj wCtx, 1, ⟨rfl, by decide, by decide⟩, by decide⟩,
   ⟨st (wBlk wCtx), 0, wFj wCtx, 256, .fjTstartw 0 256, ⟨rfl, by decide, by decide⟩, by decide, by decide⟩,
   ⟨st (wBlk wCtx), 0, wFj wCtx, 0, 0, 14, ⟨rfl, by decide, by decide⟩, by decide⟩,
   ⟨st (wBlk wCtx), 0, wFj wCtx, 0, 256, 0, ⟨rfl, by decide, by decide⟩, by decide, by decide, by decide⟩,
   ⟨st (wBlk wCtx), 0, wFj wCtx, 0, 0, 14, 21, ⟨rfl, by decide, by decide⟩, by decide⟩,
   ⟨st (wBlk wCtx), 0, wFj wCtx, 0, 256, 14, 25, ⟨rfl, by decide, by decide⟩, by decide, by decide, by decide, by decide, by decide⟩,
   ⟨st (wBlk wCtx), 0, wFj wCtx, 0, ⟨rfl, by decide, by decide⟩, by decide⟩,
   ⟨st (wBlk wCtx), 0, wFj wCtx, 0, 7, 14, ⟨rfl, by decide, by decide⟩, by decide⟩⟩

theorem test_witness_FjPhasorInstructionsComplete :
    (∃ (s : State) (slot : Nat) (f : Fj) (d a b : BitVec 8), FjReady s.blk slot 5 f ∧ f.is [.phasor] d = true ∧ f.same [.real] [a,
      b] = true) ∧
    (∃ (s : State) (slot : Nat) (f : Fj) (d a : BitVec 8), FjReady s.blk slot 4 f ∧ f.is [.real] d = true ∧ f.is [.phasor] a = true) ∧
    (∃ (s : State) (slot : Nat) (f : Fj) (d a b : BitVec 8), FjReady s.blk slot 5 f ∧ f.same [.phasor] [d, a, b] = true) ∧
    (∃ (s : State) (slot : Nat) (f : Fj) (d a : BitVec 8), FjReady s.blk slot 4 f ∧ f.same [.phasor] [d, a] = true) ∧
    (∃ (s : State) (slot : Nat) (f : Fj) (d a r : BitVec 8), FjReady s.blk slot 5 f ∧ f.same [.phasor] [d, a] = true ∧
      f.is [.real] r = true) ∧
    (∃ (s : State) (slot : Nat) (f : Fj) (d a g : BitVec 8), FjReady s.blk slot 5 f ∧ f.same [.phasor] [d, a] = true ∧
      f.is [.real] g = true) ∧
    (∃ (s : State) (slot : Nat) (f : Fj) (d a b c k : BitVec 8), FjReady s.blk slot 7 f ∧ f.same [.phasor] [d, a, b, c] = true ∧
      k.toNat < 8 ∧ k.toNat % 4 ≠ 3) ∧
    (∃ (s : State) (slot : Nat) (f : Fj) (d a b : BitVec 8), FjReady s.blk slot 5 f ∧ (f.is [.phasor] d = false ∨ f.same [.real] [a,
      b] = false)) ∧
    (∃ (s : State) (slot : Nat) (f : Fj) (d a : BitVec 8) (i : Instr), FjReady s.blk slot 4 f ∧ i ∈ [.fjPre slot d a,
      .fjPim slot d a, .fjPmag slot d a, .fjPang slot d a] ∧ (f.is [.real] d = false ∨ f.is [.phasor] a = false)) ∧
    (∃ (s : State) (slot : Nat) (f : Fj) (d a b : BitVec 8) (i : Instr), FjReady s.blk slot 5 f ∧ i ∈ [.fjPadd slot d a b,
      .fjPsub slot d a b, .fjPmul slot d a b, .fjPdiv slot d a b] ∧ f.same [.phasor] [d, a, b] = false) ∧
    (∃ (s : State) (slot : Nat) (f : Fj) (d a : BitVec 8), FjReady s.blk slot 4 f ∧ f.same [.phasor] [d, a] = false) ∧
    (∃ (s : State) (slot : Nat) (f : Fj) (d a r : BitVec 8), FjReady s.blk slot 5 f ∧ (f.same [.phasor] [d, a] = false ∨
      f.is [.real] r = false)) ∧
    (∃ (s : State) (slot : Nat) (f : Fj) (d a b c k : BitVec 8), FjReady s.blk slot 7 f ∧ (f.same [.phasor] [d, a, b, c] = false ∨
      8 ≤ k.toNat ∨ k.toNat % 4 = 3)) :=
  ⟨⟨st (wBlk wCtx), 0, wFj wCtx, 6, 10, 17, ⟨rfl, by decide, by decide⟩, by decide, by decide⟩,
   ⟨st (wBlk wCtx), 0, wFj wCtx, 3, 13, ⟨rfl, by decide, by decide⟩, by decide, by decide⟩,
   ⟨st (wBlk wCtx), 0, wFj wCtx, 6, 13, 20, ⟨rfl, by decide, by decide⟩, by decide⟩,
   ⟨st (wBlk wCtx), 0, wFj wCtx, 6, 13, ⟨rfl, by decide, by decide⟩, by decide⟩,
   ⟨st (wBlk wCtx), 0, wFj wCtx, 6, 13, 17, ⟨rfl, by decide, by decide⟩, by decide, by decide⟩,
   ⟨st (wBlk wCtx), 0, wFj wCtx, 6, 13, 17, ⟨rfl, by decide, by decide⟩, by decide, by decide⟩,
   ⟨st (wBlk wCtx), 0, wFj wCtx, 6, 13, 20, 27, 0, ⟨rfl, by decide, by decide⟩, by decide, by decide, by decide⟩,
   ⟨st (wBlk wCtx), 0, wFj wCtx, 0, 7, 14, ⟨rfl, by decide, by decide⟩, by decide⟩,
   ⟨st (wBlk wCtx), 0, wFj wCtx, 0, 7, .fjPre 0 0 7, ⟨rfl, by decide, by decide⟩, by decide, by decide⟩,
   ⟨st (wBlk wCtx), 0, wFj wCtx, 0, 7, 14, .fjPadd 0 0 7 14, ⟨rfl, by decide, by decide⟩, by decide, by decide⟩,
   ⟨st (wBlk wCtx), 0, wFj wCtx, 0, 7, ⟨rfl, by decide, by decide⟩, by decide⟩,
   ⟨st (wBlk wCtx), 0, wFj wCtx, 0, 7, 14, ⟨rfl, by decide, by decide⟩, by decide⟩,
   ⟨st (wBlk wCtx), 0, wFj wCtx, 0, 7, 14, 21, 0, ⟨rfl, by decide, by decide⟩, by decide⟩⟩

theorem test_witness_FjTaskAndFieldInstructionsComplete :
    (∃ (s : State) (slot : Nat) (f : Fj) (d : BitVec 8), FjReady s.blk slot 3 f ∧ f.is [.uint] d = true) ∧
    (∃ (s : State) (slot : Nat) (f : Fj) (k : BitVec 8), FjReady s.blk slot 3 f ∧ k.toNat < 32) ∧
    (∃ (s : State) (slot : Nat) (f : Fj) (k : BitVec 8) (n : Nat), FjReady s.blk slot 3 f ∧ f.kindOf k.toNat = some n ∧ n ≠ 1) ∧
    (∃ (s : State) (slot : Nat) (f : Fj) (d k : BitVec 8) (n : Nat), FjReady s.blk slot 5 f ∧ f.is [.uint] d = true ∧
      f.kindOf k.toNat = some n ∧ k.toNat ≠ f.t) ∧
    (∃ (s : State) (slot : Nat) (f : Fj) (d k : BitVec 8), FjReady s.blk slot 5 f ∧ k.toNat < 8 ∧ f.is [.uint] d = true) ∧
    (∃ (s : State) (slot : Nat) (f : Fj) (d k : BitVec 8), FjReady s.blk slot 5 f ∧ k.toNat < 8 ∧ f.is [.time] d = true) ∧
    (∃ (s : State) (slot : Nat) (f : Fj) (k a : BitVec 8), FjReady s.blk slot 4 f ∧ k.toNat < 8 ∧ f.is [.uint] a = true ∧
      bitOf f.img.counters k.toNat = true) ∧
    (∃ (s : State) (slot : Nat) (f : Fj) (k : BitVec 8), FjReady s.blk slot 3 f ∧ k.toNat < 8 ∧ bitOf f.img.counters k.toNat = true) ∧
    (∃ (s : State) (slot : Nat) (f : Fj) (d o : BitVec 8), FjReady s.blk slot 5 f ∧ f.is [.bool] d = true ∧
      o.toNat < f.img.objs.length) ∧
    (∃ (s : State) (slot : Nat) (f : Fj) (d o : BitVec 8) (v c a : Nat), FjReady s.blk slot 5 f ∧ f.is [.uint] d = true ∧
      o.toNat < f.img.objs.length ∧ (tget ctlD f.c.objs o.toNat).value = some v ∧ (tget ctlD f.c.objs o.toNat).client = some c ∧
      (tget ctlD f.c.objs o.toNat).auth = some a) ∧
    (∃ (s : State) (slot : Nat) (f : Fj) (o a : BitVec 8), FjReady s.blk slot 4 f ∧ f.is [.uint] a = true ∧
      o.toNat < f.img.objs.length) ∧
    (∃ (s : State) (slot : Nat) (f : Fj) (o a c : BitVec 8), FjReady s.blk slot 5 f ∧ f.is [.bool, .uint] a = true ∧
      o.toNat < f.img.objs.length ∧ c.toNat ≤ 3) ∧
    (∃ (s : State) (slot : Nat) (f : Fj) (a k : BitVec 8), FjReady s.blk slot 4 f ∧ f.is [.uint] a = true) ∧
    (∃ (s : State) (slot : Nat) (f : Fj) (k : BitVec 8), FjReady s.blk slot 3 f ∧ f.kindOf k.toNat = some 2 ∧ k.toNat ∉ f.c.ended ∧
      k.toNat ∉ f.c.stack ∧ (tget ctxD f.c.ctxs k.toNat).off = false) ∧
    (∃ (s : State) (slot : Nat) (f : Fj) (k : BitVec 8), FjReady s.blk slot 3 f ∧ f.kindOf k.toNat = some 2 ∧ (k.toNat ∈ f.c.ended ∨
      k.toNat ∈ f.c.stack ∨ (tget ctxD f.c.ctxs k.toNat).off = true)) ∧
    (∃ (s : State) (slot : Nat) (f : Fj) (k : BitVec 8), FjReady s.blk slot 3 f ∧ f.kindOf k.toNat ≠ some 2) ∧
    (∃ (s : State) (slot : Nat) (f : Fj) (k : BitVec 8), FjReady s.blk slot 3 f ∧ (f.kindOf k.toNat = none ∨ f.kindOf k.toNat =
      some 1)) ∧
    (∃ (s : State) (slot : Nat) (f : Fj) (d : BitVec 8), FjReady s.blk slot 3 f ∧ f.is [.uint] d = false) ∧
    (∃ (s : State) (slot : Nat) (f : Fj) (k : BitVec 8), FjReady s.blk slot 3 f ∧ 32 ≤ k.toNat) ∧
    (∃ (s : State) (slot : Nat) (f : Fj) (d k : BitVec 8) (n : Nat), FjReady s.blk slot 5 f ∧ f.is [.uint] d = true ∧
      f.kindOf k.toNat = some n ∧ k.toNat = f.t) ∧
    (∃ (s : State) (slot : Nat) (f : Fj) (d k j : BitVec 8), FjReady s.blk slot 5 f ∧ (f.is [.uint] d = false ∨ 3 < j.toNat)) ∧
    (∃ (s : State) (slot : Nat) (f : Fj) (d k j : BitVec 8), FjReady s.blk slot 5 f ∧ f.is [.uint] d = true ∧ j.toNat ≤ 3 ∧
      f.kindOf k.toNat = none) ∧
    (∃ (s : State) (slot : Nat) (f : Fj) (d k j : BitVec 8), FjReady s.blk slot 5 f ∧ (8 ≤ k.toNat ∨ 1 < j.toNat ∨ (j = 0 ∧
      f.is [.uint] d = false) ∨ (j = 1 ∧ f.is [.time] d = false))) ∧
    (∃ (s : State) (slot : Nat) (f : Fj) (k a : BitVec 8), FjReady s.blk slot 4 f ∧ (8 ≤ k.toNat ∨ f.is [.uint] a = false)) ∧
    (∃ (s : State) (slot : Nat) (f : Fj) (k a : BitVec 8), FjReady s.blk slot 4 f ∧ k.toNat < 8 ∧ f.is [.uint] a = true ∧
      bitOf f.img.counters k.toNat = false) ∧
    (∃ (s : State) (slot : Nat) (f : Fj) (k : BitVec 8), FjReady s.blk slot 3 f ∧ 8 ≤ k.toNat) ∧
    (∃ (s : State) (slot : Nat) (f : Fj) (k : BitVec 8), FjReady s.blk slot 3 f ∧ k.toNat < 8 ∧ bitOf f.img.counters k.toNat =
      false) ∧
    (∃ (s : State) (slot : Nat) (f : Fj) (d o : BitVec 8), FjReady s.blk slot 5 f ∧ f.is [.uint] d = true ∧
      o.toNat < f.img.objs.length ∧ (tget ctlD f.c.objs o.toNat).state = .idle) ∧
    (∃ (s : State) (slot : Nat) (f : Fj) (d o j : BitVec 8), FjReady s.blk slot 5 f ∧ (5 < j.toNat ∨ f.is (if j.toNat = 0 ∨
      j.toNat = 5 then [.bool] else [.uint]) d = false)) ∧
    (∃ (s : State) (slot : Nat) (f : Fj) (d o j : BitVec 8), FjReady s.blk slot 5 f ∧ j.toNat ≤ 5 ∧ f.is (if j.toNat = 0 ∨ j.toNat =
      5 then [.bool] else [.uint]) d = true ∧ f.img.objs.length ≤ o.toNat) ∧
    (∃ (s : State) (slot : Nat) (f : Fj) (o a : BitVec 8), FjReady s.blk slot 4 f ∧ f.is [.uint] a = false) ∧
    (∃ (s : State) (slot : Nat) (f : Fj) (o a : BitVec 8), FjReady s.blk slot 4 f ∧ f.is [.uint] a = true ∧
      f.img.objs.length ≤ o.toNat) ∧
    (∃ (s : State) (slot : Nat) (f : Fj) (o a c : BitVec 8), FjReady s.blk slot 5 f ∧ (f.is [.bool, .uint] a = false ∨ 3 < c.toNat)) ∧
    (∃ (s : State) (slot : Nat) (f : Fj) (o a c : BitVec 8), FjReady s.blk slot 5 f ∧ f.is [.bool, .uint] a = true ∧ c.toNat ≤ 3 ∧
      f.img.objs.length ≤ o.toNat) ∧
    (∃ (s : State) (slot : Nat) (f : Fj) (a k : BitVec 8), FjReady s.blk slot 4 f ∧ f.is [.uint] a = false) :=
  ⟨⟨st (wBlk wCtx), 0, wFj wCtx, 2, ⟨rfl, by decide, by decide⟩, by decide⟩,
   ⟨st (wBlk wCtx), 0, wFj wCtx, 0, ⟨rfl, by decide, by decide⟩, by decide⟩,
   ⟨st (wBlk wCtx), 0, wFj wCtx, 0, 0, ⟨rfl, by decide, by decide⟩, by decide, by decide⟩,
   ⟨st (wBlk wCtx), 0, wFj wCtx, 2, 1, 2, ⟨rfl, by decide, by decide⟩, by decide, by decide, by decide⟩,
   ⟨st (wBlk wCtx), 0, wFj wCtx, 2, 7, ⟨rfl, by decide, by decide⟩, by decide, by decide⟩,
   ⟨st (wBlk wCtx), 0, wFj wCtx, 4, 7, ⟨rfl, by decide, by decide⟩, by decide, by decide⟩,
   ⟨st (wBlk wCtx), 0, wFj wCtx, 0, 9, ⟨rfl, by decide, by decide⟩, by decide, by decide, by decide⟩,
   ⟨st (wBlk wCtx), 0, wFj wCtx, 0, ⟨rfl, by decide, by decide⟩, by decide, by decide⟩,
   ⟨st (wBlk wCtx), 0, wFj wCtx, 0, 0, ⟨rfl, by decide, by decide⟩, by decide, by decide⟩,
   ⟨st (wBlk wCtx), 0, wFj wCtx, 2, 0, 5, 1, 2, ⟨rfl, by decide, by decide⟩, by decide, by decide, by decide, by decide, by decide⟩,
   ⟨st (wBlk wCtx), 0, wFj wCtx, 0, 9, ⟨rfl, by decide, by decide⟩, by decide, by decide⟩,
   ⟨st (wBlk wCtx), 0, wFj wCtx, 0, 7, 0, ⟨rfl, by decide, by decide⟩, by decide, by decide, by decide⟩,
   ⟨st (wBlk wCtx), 0, wFj wCtx, 2, 7, ⟨rfl, by decide, by decide⟩, by decide⟩,
   ⟨st (wBlk wCtx), 0, wFj wCtx, 1, ⟨rfl, by decide, by decide⟩, by decide, by decide, by decide, by decide⟩,
   ⟨st wQuiet, 0, wQuietFj, 1, ⟨rfl, by decide, by decide⟩, by decide, by decide⟩,
   ⟨st (wBlk wCtx), 0, wFj wCtx, 0, ⟨rfl, by decide, by decide⟩, by decide⟩,
   ⟨st (wBlk wCtx), 0, wFj wCtx, 2, ⟨rfl, by decide, by decide⟩, by decide⟩,
   ⟨st (wBlk wCtx), 0, wFj wCtx, 0, ⟨rfl, by decide, by decide⟩, by decide⟩,
   ⟨st (wBlk wCtx), 0, wFj wCtx, 40, ⟨rfl, by decide, by decide⟩, by decide⟩,
   ⟨st (wBlk wCtx), 0, wFj wCtx, 2, 0, 0, ⟨rfl, by decide, by decide⟩, by decide, by decide, by decide⟩,
   ⟨st (wBlk wCtx), 0, wFj wCtx, 0, 7, 14, ⟨rfl, by decide, by decide⟩, by decide⟩,
   ⟨st (wBlk wCtx), 0, wFj wCtx, 2, 7, 0, ⟨rfl, by decide, by decide⟩, by decide, by decide, by decide⟩,
   ⟨st (wBlk wCtx), 0, wFj wCtx, 0, 7, 14, ⟨rfl, by decide, by decide⟩, by decide⟩,
   ⟨st (wBlk wCtx), 0, wFj wCtx, 0, 7, ⟨rfl, by decide, by decide⟩, by decide⟩,
   ⟨st wQuiet, 0, wQuietFj, 0, 9, ⟨rfl, by decide, by decide⟩, by decide, by decide, by decide⟩,
   ⟨st (wBlk wCtx), 0, wFj wCtx, 8, ⟨rfl, by decide, by decide⟩, by decide⟩,
   ⟨st wQuiet, 0, wQuietFj, 0, ⟨rfl, by decide, by decide⟩, by decide, by decide⟩,
   ⟨st wQuiet, 0, wQuietFj, 2, 0, ⟨rfl, by decide, by decide⟩, by decide, by decide, by decide⟩,
   ⟨st (wBlk wCtx), 0, wFj wCtx, 0, 7, 14, ⟨rfl, by decide, by decide⟩, by decide⟩,
   ⟨st (wBlk wCtx), 0, wFj wCtx, 0, 7, 0, ⟨rfl, by decide, by decide⟩, by decide, by decide, by decide⟩,
   ⟨st (wBlk wCtx), 0, wFj wCtx, 0, 7, ⟨rfl, by decide, by decide⟩, by decide⟩,
   ⟨st (wBlk wCtx), 0, wFj wCtx, 1, 9, ⟨rfl, by decide, by decide⟩, by decide, by decide⟩,
   ⟨st (wBlk wCtx), 0, wFj wCtx, 0, 7, 14, ⟨rfl, by decide, by decide⟩, by decide⟩,
   ⟨st (wBlk wCtx), 0, wFj wCtx, 1, 7, 0, ⟨rfl, by decide, by decide⟩, by decide, by decide, by decide⟩,
   ⟨st (wBlk wCtx), 0, wFj wCtx, 0, 7, ⟨rfl, by decide, by decide⟩, by decide⟩⟩

theorem test_witness_FjLongInstructionsComplete :
    (∃ (s : State) (slot : Nat) (f : Fj) (m : BitVec 8) (ad as_ ax : BitVec 16) (n bound : Nat), FjReady s.blk slot 8 f ∧
      f.is [.uint] m = true ∧ f.x.lockcnt = 0 ∧ f.x.prog = 0 ∧ f.undisturbed ∧ f.header ax.toNat false = some (n, 0, bound) ∧
      inArea ad.toNat 0 n = true ∧ f.noWrites ad.toNat n = false ∧ (∀ i, i < n →
      (f.gathered ad.toNat as_.toNat ax.toNat i).index ax.toNat i < bound ∧
      inArea as_.toNat ((f.gathered ad.toNat as_.toNat ax.toNat i).index ax.toNat i) 1 = true)) ∧
    (∃ (s : State) (slot : Nat) (f : Fj) (m : BitVec 8) (ad as_ ax : BitVec 16) (n bound : Nat), FjReady s.blk slot 8 f ∧
      f.is [.uint] m = true ∧ f.x.lockcnt = 0 ∧ f.x.prog = 0 ∧ f.undisturbed ∧ f.header ax.toNat false = some (n, 1, bound) ∧
      inArea ad.toNat 0 (2 * n) = true ∧ f.noWrites ad.toNat (2 * n) = false ∧ (∀ i, i < n →
      (f.gatheredPoints ad.toNat as_.toNat ax.toNat n i).1.index ax.toNat i < bound ∧
      inArea as_.toNat (2 * (f.gatheredPoints ad.toNat as_.toNat ax.toNat n i).1.index ax.toNat i) 2 = true)) ∧
    (∃ (s : State) (slot : Nat) (f : Fj) (ad as_ ax : BitVec 16) (n bound : Nat), FjReady s.blk slot 7 f ∧ f.x.lockcnt = 0 ∧
      f.x.prog = 0 ∧ f.undisturbed ∧ f.header ax.toNat true = some (n, 0, bound) ∧ inArea as_.toNat 0 n = true ∧ (∀ i, i < n →
      (f.scattered ad.toNat as_.toNat ax.toNat i).index ax.toNat i < bound ∧
      inArea ad.toNat ((f.scattered ad.toNat as_.toNat ax.toNat i).index ax.toNat i) 1 = true ∧
      (f.scattered ad.toNat as_.toNat ax.toNat i).noWrite (ad.toNat + (f.scattered ad.toNat as_.toNat ax.toNat i).index ax.toNat i) =
      false)) ∧
    (∃ (s : State) (slot : Nat) (f : Fj) (ad as_ : BitVec 16) (n : BitVec 8), FjReady s.blk slot 6 f ∧ f.x.lockcnt = 0 ∧ f.x.prog =
      0 ∧ f.undisturbed ∧ inArea ad.toNat 0 (n256 n) = true ∧ inArea as_.toNat 0 (n256 n) = true ∧ f.noWrites ad.toNat (n256 n) =
      false) ∧
    (∃ (s : State) (slot : Nat) (f : Fj) (ad as_ at_ : BitVec 16) (n : BitVec 8) (z : Nat × Word × List (Word × Word)),
      FjReady s.blk slot 8 f ∧ f.x.lockcnt = 0 ∧ f.x.prog = 0 ∧ f.undisturbed ∧ f.curvTable at_.toNat = some z ∧ 1 ≤ n.toNat ∧
      n.toNat ≤ 64 ∧ inArea ad.toNat 0 n.toNat = true ∧ inArea as_.toNat 0 n.toNat = true ∧ f.noWrites ad.toNat n.toNat = false) ∧
    (∃ (s : State) (slot : Nat) (f : Fj) (d : BitVec 8) (as_ : BitVec 16) (n : BitVec 8), FjReady s.blk slot 5 f ∧ f.is [.real] d =
      true ∧ f.x.lockcnt = 0 ∧ f.x.prog = 0 ∧ f.undisturbed ∧ inArea as_.toNat 0 (n256 n) = true) ∧
    (∃ (s : State) (slot : Nat) (f : Fj) (m : BitVec 8) (ad as_ ax : BitVec 16), FjReady s.blk slot 8 f ∧ (f.is [.uint] m = false ∨
      f.x.lockcnt ≠ 0)) ∧
    (∃ (s : State) (slot : Nat) (f : Fj) (m : BitVec 8) (ad as_ ax : BitVec 16), FjReady s.blk slot 8 f ∧ f.is [.uint] m = true ∧
      f.x.lockcnt = 0 ∧ f.header ax.toNat false = none) ∧
    (∃ (s : State) (slot : Nat) (f : Fj) (m : BitVec 8) (ad as_ ax : BitVec 16) (n k bound : Nat), FjReady s.blk slot 8 f ∧
      f.is [.uint] m = true ∧ f.x.lockcnt = 0 ∧ f.header ax.toNat false = some (n, k, bound) ∧ inArea ad.toNat 0 (if k =
      1 then 2 * n else n) = false) ∧
    (∃ (s : State) (slot : Nat) (f : Fj) (m : BitVec 8) (ad as_ ax : BitVec 16) (n k bound : Nat), FjReady s.blk slot 8 f ∧
      f.is [.uint] m = true ∧ f.x.lockcnt = 0 ∧ f.header ax.toNat false = some (n, k, bound) ∧ inArea ad.toNat 0 (if k =
      1 then 2 * n else n) = true ∧ f.noWrites ad.toNat (if k = 1 then 2 * n else n) = true) ∧
    (∃ (s : State) (slot : Nat) (f : Fj) (ad as_ ax : BitVec 16), FjReady s.blk slot 7 f ∧ f.x.lockcnt ≠ 0) ∧
    (∃ (s : State) (slot : Nat) (f : Fj) (ad as_ ax : BitVec 16), FjReady s.blk slot 7 f ∧ f.x.lockcnt = 0 ∧
      f.header ax.toNat true = none) ∧
    (∃ (s : State) (slot : Nat) (f : Fj) (ad as_ ax : BitVec 16) (n k bound : Nat), FjReady s.blk slot 7 f ∧ f.x.lockcnt = 0 ∧
      f.header ax.toNat true = some (n, k, bound) ∧ inArea as_.toNat 0 n = false) ∧
    (∃ (s : State) (slot : Nat) (f : Fj) (ad as_ ax : BitVec 16) (n k bound : Nat), FjReady s.blk slot 7 f ∧ f.x.lockcnt = 0 ∧
      f.header ax.toNat true = some (n, k, bound) ∧ inArea as_.toNat 0 n = true ∧ 0x8000 ≤ ad.toNat ∧ ad.toNat < 0xC000) ∧
    (∃ (s : State) (slot : Nat) (f : Fj) (ad as_ : BitVec 16) (n : BitVec 8), FjReady s.blk slot 6 f ∧ f.x.lockcnt ≠ 0) ∧
    (∃ (s : State) (slot : Nat) (f : Fj) (ad as_ : BitVec 16) (n : BitVec 8), FjReady s.blk slot 6 f ∧ f.x.lockcnt = 0 ∧
      (inArea ad.toNat 0 (n256 n) = false ∨ inArea as_.toNat 0 (n256 n) = false)) ∧
    (∃ (s : State) (slot : Nat) (f : Fj) (ad as_ : BitVec 16) (n : BitVec 8), FjReady s.blk slot 6 f ∧ f.x.lockcnt = 0 ∧
      inArea ad.toNat 0 (n256 n) = true ∧ inArea as_.toNat 0 (n256 n) = true ∧ f.noWrites ad.toNat (n256 n) = true) ∧
    (∃ (s : State) (slot : Nat) (f : Fj) (ad as_ at_ : BitVec 16) (n : BitVec 8), FjReady s.blk slot 8 f ∧ f.x.lockcnt ≠ 0) ∧
    (∃ (s : State) (slot : Nat) (f : Fj) (ad as_ at_ : BitVec 16) (n : BitVec 8), FjReady s.blk slot 8 f ∧ f.x.lockcnt = 0 ∧
      (n.toNat = 0 ∨ 64 < n.toNat ∨ f.curvTable at_.toNat = none ∨ inArea ad.toNat 0 n.toNat = false ∨ inArea as_.toNat 0 n.toNat =
      false)) ∧
    (∃ (s : State) (slot : Nat) (f : Fj) (ad as_ at_ : BitVec 16) (n : BitVec 8), FjReady s.blk slot 8 f ∧ f.x.lockcnt = 0 ∧
      1 ≤ n.toNat ∧ n.toNat ≤ 64 ∧ f.curvTable at_.toNat ≠ none ∧ inArea ad.toNat 0 n.toNat = true ∧ inArea as_.toNat 0 n.toNat =
      true ∧ f.noWrites ad.toNat n.toNat = true) ∧
    (∃ (s : State) (slot : Nat) (f : Fj) (d : BitVec 8) (as_ : BitVec 16) (n : BitVec 8), FjReady s.blk slot 5 f ∧ (f.is [.real] d =
      false ∨ f.x.lockcnt ≠ 0)) ∧
    (∃ (s : State) (slot : Nat) (f : Fj) (d : BitVec 8) (as_ : BitVec 16) (n : BitVec 8), FjReady s.blk slot 5 f ∧ f.is [.real] d =
      true ∧ f.x.lockcnt = 0 ∧ inArea as_.toNat 0 (n256 n) = false) ∧
    (∃ (s : State) (slot : Nat) (f : Fj) (m : BitVec 8) (ad as_ ax : BitVec 16) (n bound k : Nat), FjReady s.blk slot 8 f ∧
      f.is [.uint] m = true ∧ f.x.lockcnt = 0 ∧ f.x.prog = 0 ∧ f.undisturbed ∧ f.header ax.toNat false = some (n, 0, bound) ∧
      inArea ad.toNat 0 n = true ∧ f.noWrites ad.toNat n = false ∧ k < n ∧ (∀ i, i < k →
      (f.gathered ad.toNat as_.toNat ax.toNat i).index ax.toNat i < bound ∧
      inArea as_.toNat ((f.gathered ad.toNat as_.toNat ax.toNat i).index ax.toNat i) 1 = true) ∧
      (bound ≤ (f.gathered ad.toNat as_.toNat ax.toNat k).index ax.toNat k ∨
      inArea as_.toNat ((f.gathered ad.toNat as_.toNat ax.toNat k).index ax.toNat k) 1 = false)) ∧
    (∃ (s : State) (slot : Nat) (f : Fj) (ad as_ ax : BitVec 16) (n bound k : Nat), FjReady s.blk slot 7 f ∧ f.x.lockcnt = 0 ∧
      f.x.prog = 0 ∧ f.undisturbed ∧ f.header ax.toNat true = some (n, 0, bound) ∧ inArea as_.toNat 0 n = true ∧
      (ad.toNat < 0x8000 ∨ 0xC000 ≤ ad.toNat) ∧ k < n ∧ (∀ i, i < k →
      (f.scattered ad.toNat as_.toNat ax.toNat i).index ax.toNat i < bound ∧
      inArea ad.toNat ((f.scattered ad.toNat as_.toNat ax.toNat i).index ax.toNat i) 1 = true ∧
      (f.scattered ad.toNat as_.toNat ax.toNat i).noWrite (ad.toNat + (f.scattered ad.toNat as_.toNat ax.toNat i).index ax.toNat i) =
      false) ∧ (bound ≤ (f.scattered ad.toNat as_.toNat ax.toNat k).index ax.toNat k ∨
      inArea ad.toNat ((f.scattered ad.toNat as_.toNat ax.toNat k).index ax.toNat k) 1 = false)) ∧
    (∃ (s : State) (slot : Nat) (f : Fj) (ad as_ : BitVec 16) (n : BitVec 8) (p j : Nat), FjReady s.blk slot 6 f ∧ f.x.lockcnt = 0 ∧
      f.x.prog = p ∧ p + 1 < n256 n ∧ f.counted.wanted = true ∧ inArea ad.toNat 0 (n256 n) = true ∧ inArea as_.toNat 0 (n256 n) =
      true ∧ f.noWrites ad.toNat (n256 n) = false ∧ j = (if ad.toNat ≤ as_.toNat then p else n256 n - 1 - p)) ∧
    (∃ (s : State) (slot : Nat) (f : Fj) (ad as_ : BitVec 16) (n : BitVec 8) (p : Nat), FjReady s.blk slot 6 f ∧ f.x.lockcnt = 0 ∧
      f.x.prog = p ∧ f.undisturbed ∧ inArea ad.toNat 0 (n256 n) = true ∧ inArea as_.toNat 0 (n256 n) = true ∧
      f.noWrites ad.toNat (n256 n) = false) ∧
    (∃ (s : State) (slot : Nat) (f : Fj) (m : BitVec 8) (ad as_ ax : BitVec 16) (n bound : Nat), FjReady s.blk slot 8 f ∧
      f.is [.uint] m = true ∧ f.x.lockcnt = 0 ∧ f.x.prog ≠ 0 ∧ f.header ax.toNat false = some (n, 0, bound) ∧ n ≤ f.x.prog ∧
      inArea ad.toNat 0 n = true ∧ f.noWrites ad.toNat n = false) :=
  ⟨⟨st (wBlk wCtx), 0, wFj wCtx, 2, 0, 0, 256, 2, 8, ⟨rfl, by decide, by decide⟩, by decide, by decide, by decide, by decide, by decide, by decide, by decide, by decide⟩,
   ⟨st (wBlk wCtx), 0, wFj wCtx, 2, 0, 0, 272, 2, 8, ⟨rfl, by decide, by decide⟩, by decide, by decide, by decide, by decide, by decide, by decide, by decide, by decide⟩,
   ⟨st (wBlk wCtx), 0, wFj wCtx, 0, 0, 256, 2, 8, ⟨rfl, by decide, by decide⟩, by decide, by decide, by decide, by decide, by decide, by decide⟩,
   ⟨st (wBlk wCtx), 0, wFj wCtx, 0, 0, 14, ⟨rfl, by decide, by decide⟩, by decide, by decide, by decide, by decide, by decide, by decide⟩,
   ⟨st (wBlk wCtx), 0, wFj wCtx, 0, 0, 0x120, 14, (2, 0x3F800000, []), ⟨rfl, by decide, by decide⟩, by decide, by decide, by decide, by decide, by decide, by decide, by decide, by decide, by decide⟩,
   ⟨st (wBlk wCtx), 0, wFj wCtx, 3, 0, 14, ⟨rfl, by decide, by decide⟩, by decide, by decide, by decide, by decide, by decide⟩,
   ⟨st (wBlk wCtx), 0, wFj wCtx, 0, 0, 0, 0, ⟨rfl, by decide, by decide⟩, by decide⟩,
   ⟨st (wBlk wCtx), 0, wFj wCtx, 2, 0, 0, 0, ⟨rfl, by decide, by decide⟩, by decide, by decide, by decide⟩,
   ⟨st (wBlk wCtx), 0, wFj wCtx, 2, 32767, 0, 256, 2, 0, 8, ⟨rfl, by decide, by decide⟩, by decide, by decide, by decide, by decide⟩,
   ⟨st (wBlk wCtx), 0, wFj wCtx, 2, 32768, 0, 256, 2, 0, 8, ⟨rfl, by decide, by decide⟩, by decide, by decide, by decide, by decide, by decide⟩,
   ⟨st (wBlk wIn), 0, wFj wIn, 0, 0, 0, ⟨rfl, by decide, by decide⟩, by decide⟩,
   ⟨st (wBlk wCtx), 0, wFj wCtx, 0, 0, 0, ⟨rfl, by decide, by decide⟩, by decide, by decide⟩,
   ⟨st (wBlk wCtx), 0, wFj wCtx, 0, 32767, 256, 2, 0, 8, ⟨rfl, by decide, by decide⟩, by decide, by decide, by decide⟩,
   ⟨st (wBlk wCtx), 0, wFj wCtx, 32768, 0, 256, 2, 0, 8, ⟨rfl, by decide, by decide⟩, by decide, by decide, by decide, by decide, by decide⟩,
   ⟨st (wBlk wIn), 0, wFj wIn, 0, 0, 14, ⟨rfl, by decide, by decide⟩, by decide⟩,
   ⟨st (wBlk wCtx), 0, wFj wCtx, 0, 32767, 14, ⟨rfl, by decide, by decide⟩, by decide, by decide⟩,
   ⟨st (wBlk wCtx), 0, wFj wCtx, 32768, 0, 14, ⟨rfl, by decide, by decide⟩, by decide, by decide, by decide, by decide⟩,
   ⟨st (wBlk wIn), 0, wFj wIn, 0, 0, 0, 21, ⟨rfl, by decide, by decide⟩, by decide⟩,
   ⟨st (wBlk wCtx), 0, wFj wCtx, 0, 0, 0, 21, ⟨rfl, by decide, by decide⟩, by decide, by decide⟩,
   ⟨st (wBlk wCtx), 0, wFj wCtx, 32768, 0, 288, 21, ⟨rfl, by decide, by decide⟩, by decide, by decide, by decide, by decide, by decide, by decide, by decide⟩,
   ⟨st (wBlk wCtx), 0, wFj wCtx, 0, 0, 14, ⟨rfl, by decide, by decide⟩, by decide⟩,
   ⟨st (wBlk wCtx), 0, wFj wCtx, 3, 32767, 14, ⟨rfl, by decide, by decide⟩, by decide, by decide, by decide⟩,
   ⟨st (wBlk wCtx), 0, wFj wCtx, 2, 0, 32767, 256, 2, 8, 0, ⟨rfl, by decide, by decide⟩, by decide, by decide, by decide, by decide, by decide, by decide, by decide, by decide, by decide, by decide⟩,
   ⟨st (wBlk wCtx), 0, wFj wCtx, 32767, 0, 256, 2, 8, 0, ⟨rfl, by decide, by decide⟩, by decide, by decide, by decide, by decide, by decide, by decide, by decide, by decide, by decide⟩,
   ⟨st wHalt, 8, wHaltFj, 0, 0, 14, 0, 0, ⟨rfl, by decide, by decide⟩, by decide, by decide, by decide, by decide, by decide, by decide, by decide, by decide⟩,
   ⟨st (wBlk wCtx), 0, wFj wCtx, 0, 0, 14, 0, ⟨rfl, by decide, by decide⟩, by decide, by decide, by decide, by decide, by decide, by decide⟩,
   ⟨st (wBlk ({ wCtx with prog := 5 })), 0, wFj ({ wCtx with prog := 5 }), 2, 0, 0, 256, 2, 8, ⟨rfl, by decide, by decide⟩, by decide, by decide, by decide, by decide, by decide, by decide, by decide⟩⟩

theorem test_witness_StartupStepsComplete :
    (∃ (s : State) (h c : Bool), s.blk.lands.porst = true) ∧
    (∃ (s : State) (a o : Bool), s.blk.lands.porst = false ∧ s.blk.time.run = false ∧ s.blk.sys.step = 0 ∧
      s.blk.nv.slotOk s.blk.nv.bootWord.2 = true ∧ (if s.blk.nv.bootWord.2 = 0 then a else o) = true) ∧
    (∃ (s : State) (a o : Bool), s.blk.lands.porst = false ∧ s.blk.time.run = false ∧ s.blk.sys.step = 0 ∧ s.blk.nv.bootWord.2 ≤ 1 ∧
      (s.blk.nv.slotOk s.blk.nv.bootWord.2 = false ∨ (if s.blk.nv.bootWord.2 = 0 then a else o) = false) ∧
      s.blk.nv.slotOk (1 - s.blk.nv.bootWord.2) = true ∧ (if s.blk.nv.bootWord.2 = 0 then o else a) = true) ∧
    (∃ (s : State) (a o : Bool), s.blk.lands.porst = false ∧ s.blk.time.run = false ∧ s.blk.sys.step = 0 ∧ s.blk.nv.bootWord.2 ≤ 1 ∧
      (s.blk.nv.slotOk 0 = false ∨ a = false) ∧ (s.blk.nv.slotOk 1 = false ∨ o = false)) ∧
    (∃ (s : State) (bad lost : List Nat), s.blk.sys.step = 1) ∧
    (∃ (s : State) (trims : List (Nat × Int × Int)) (res : List (Nat × TestRes)), s.blk.sys.step = 2) ∧
    (∃ (s : State) (a o : Bool), s.blk.sys.step = 3 ∧ (a = true ∧ s.blk.nv.bsTorn ≠ some 0 ∨ o = true ∧ s.blk.nv.bsTorn ≠ some 1)) ∧
    (∃ (s : State) (a o : Bool), s.blk.sys.step = 3 ∧ (a = false ∨ s.blk.nv.bsTorn = some 0) ∧ (o = false ∨ s.blk.nv.bsTorn =
      some 1)) ∧
    (∃ (s : State), s.blk.sys.step = 4) ∧
    (∃ (s : State), s.blk.sys.step = 5 ∧ s.blk.sys.recovery = false ∧ s.blk.sys.tableLoaded = false) ∧
    (∃ (s : State), s.blk.sys.step = 8) ∧
    (∃ (s : State) (p : Nat), s.blk.time.run = true ∧ p < 4 ∧ 1000 * msE ≤ s.blk.now ∧ (s.blk.sys.linkUpAt.getD p 0 = 0 ∨
      s.blk.sys.linkUpAt.getD p 0 + 250 * msE ≤ s.blk.now)) ∧
    (∃ (s : State), s.blk.recoveryDue = true) :=
  ⟨⟨st { lands := { porst := true } }, false, false, by decide⟩,
   ⟨st { lands := { porst := false }, time := { run := false }, sys := { step := 0 } }, true, false, by decide, by decide, by decide, by decide, by decide⟩,
   ⟨st { lands := { porst := false }, nv := { imgA := {}, imgB := { hdr := some {}, bootable := true } } }, false, true, by decide, by decide, by decide, by decide, by decide, by decide, by decide⟩,
   ⟨st { lands := { porst := false }, time := { run := false }, sys := { step := 0 } }, false, false, by decide, by decide, by decide, by decide, by decide, by decide⟩,
   ⟨st { sys := { step := 1 } }, [], [], by decide⟩,
   ⟨st { sys := { step := 2 } }, [], [], by decide⟩,
   ⟨st { sys := { step := 3 } }, true, false, by decide, by decide⟩,
   ⟨st { sys := { step := 3 } }, false, false, by decide, by decide, by decide⟩,
   ⟨st { sys := { step := 4 } }, by decide⟩,
   ⟨st { sys := { step := 5, recovery := false, tableLoaded := false } }, by decide, by decide, by decide⟩,
   ⟨st { sys := { step := 8 } }, by decide⟩,
   ⟨st { time := { elapsed := 2 ^ 80, run := true } }, 0, by decide, by decide, by decide, by decide⟩,
   ⟨st { sys := { recovery := true }, nv := { stg := { state := .activating, step := 5 } } }, by decide⟩⟩

theorem test_witness_SupplyAndShutdownCommandsComplete :
    (∃ (s : State) (r : Nat), r < 4 ∧ s.blk.lands.porst = false ∧ s.blk.sys.rails.getD r false = false) ∧
    (∃ (s : State) (r mV : Nat), s.blk.sys.rails.getD r false = true) ∧
    (∃ (s : State), s.blk.time.ref10m = true ∧ s.blk.time.lost = false) ∧
    (∃ (s : State), s.blk.lands.pwrFailN = true) ∧
    (∃ (s : State) (res : FlashRes), s.blk.sys.shutdown.isSome = true ∧ s.blk.sys.flushed = false) ∧
    (∃ (s : State), s.blk.fside.powered = true) :=
  ⟨⟨st { lands := { porst := false } }, 0, by decide, by decide, by decide⟩,
   ⟨st { sys := { rails := [true, false, false, false] } }, 0, 0, by decide⟩,
   ⟨st { time := { ref10m := true, lost := false } }, by decide, by decide⟩,
   ⟨st { lands := { pwrFailN := true } }, by decide⟩,
   ⟨st { sys := { shutdown := some .command } }, .good, by decide, by decide⟩,
   ⟨st { fside := { powered := true } }, by decide⟩⟩

theorem test_witness_TickAndGenerationCommandsComplete :
    (∃ (s : State) (x y z : Bool), s.blk.time.run = true) ∧
    (∃ (s : State), s.blk.time.run = true ∧ s.blk.acc.cur.epoch < s.blk.time.epoch) ∧
    (∃ (s : State), s.blk.sys.tableLoaded = true ∧ s.blk.sys.elemRun = true ∧ s.blk.acc.cur.epoch = s.blk.time.epoch ∧
      s.blk.elm.passEpoch ≠ some s.blk.time.epoch ∧ s.blk.elm.pubEpoch ≠ s.blk.time.epoch) ∧
    (∃ (s : State), s.blk.sys.tableLoaded = true ∧ s.blk.sys.elemRun = false ∧ s.blk.acc.cur.epoch = s.blk.time.epoch ∧
      s.blk.elm.passEpoch ≠ some s.blk.time.epoch) ∧
    (∃ (s : State), s.blk.elm.passEpoch = some s.blk.time.epoch) ∧
    (∃ (s : State) (t : Nat), t < 40 ∧ (tget trackerD s.blk.acc.trk t).held = true ∧ (tget trackerD s.blk.acc.trk t).nominal =
      false ∧ (tget trackerD s.blk.acc.trk t).heldAt + 2 * secE ≤ s.blk.now) ∧
    (∃ (s : State) (n : Nat), (s.blk.wheel.get n).mode = .oneshot ∧ (s.blk.wheel.get n).due (s.blk.nowNs / 1000 * 1000) = true ∧
      (s.blk.wheel.get n).notify = true ∧ (s.blk.wheel.get n).done = 0 ∧ ((s.blk.wheel.get n).cls = 1 ∨ (s.blk.wheel.get n).cls =
      2)) ∧
    (∃ (s : State) (n m : Nat), (s.blk.wheel.get n).mode = .periodic ∧ (s.blk.wheel.get n).count (s.blk.nowNs / 1000 * 1000) = m ∧
      (s.blk.wheel.get n).notify = true ∧ (s.blk.wheel.get n).done < m ∧ ((s.blk.wheel.get n).cls = 1 ∨ (s.blk.wheel.get n).cls =
      2)) :=
  ⟨⟨st { time := { run := true } }, false, false, false, by decide⟩,
   ⟨st { time := { run := true, epoch := 3 } }, by decide, by decide⟩,
   ⟨st { sys := { tableLoaded := true, elemRun := true }, time := { epoch := 3 }, acc := { cur := { epoch := 3 } } }, by decide, by decide, by decide, by decide, by decide⟩,
   ⟨st { sys := { tableLoaded := true, elemRun := false }, acc := { cur := { epoch := 0 } } }, by decide, by decide, by decide, by decide⟩,
   ⟨st { elm := { passEpoch := some 0 } }, by decide⟩,
   ⟨st { time := { elapsed := 2 ^ 80 }, acc := { trk := [(0, { held := true, nominal := false })] } }, 0, by decide, by decide, by decide, by decide⟩,
   ⟨st { time := { elapsed := 2 ^ 60 }, wheel := { timers := [(0, { cls := 2, mode := .oneshot, x := 5, notify := true })] } }, 0, by decide, by decide, by decide, by decide, by decide⟩,
   ⟨st { time := { elapsed := 2 ^ 60 }, wheel := { timers := [(5, { cls := 1, mode := .periodic, notify := true, period := 9 })] } }, 5, _, by decide, rfl, by decide, by decide, by decide⟩⟩

theorem test_witness_ConversionCommandsComplete :
    (∃ (s : State) (idx el : Nat), s.blk.onGrid el = true) ∧
    (∃ (s : State) (p : Path) (k idx : Nat) (raw : BitVec 16) (u : Urg) (st : Nat), (s.blk.twin k).inSchedule = false ∧
      (tget convD s.blk.cnv.convs (cix p k)).urgent = some (u, st) ∧ st + entSettle u.entry ≤ idx ∧ idx < st + entLen u.entry) ∧
    (∃ (s : State) (p : Path) (k idx ei base left : Nat) (raw : BitVec 16) (c : Conv), tget convD s.blk.cnv.convs (cix p k) = c ∧
      (s.blk.twin k).inSchedule = false ∧ c.urgent = none ∧ c.pos (s.blk.cnv.seq k) idx = .running ei base left ∧
      base + entSettle (entAt (s.blk.cnv.seq k) ei) ≤ idx) ∧
    (∃ (s : State) (p : Path) (k n e : Nat) (c : Conv), tget convD s.blk.cnv.convs (cix p k) = c ∧ (s.blk.twin k).inSchedule =
      false ∧ c.urgent = none ∧ c.kept ≠ [] ∧ entAt (s.blk.cnv.seq k) c.takeEnt = e ∧ (entTake e ≤ c.kept.length ∨ c.cutTake =
      true ∧ entLast e = true) ∧ entInput e < 8 ∧ n = 8 * k + entInput e ∧ (s.blk.inRec n).sensor ≠ 0 ∧ s.blk.cnv.calib = true) ∧
    (∃ (s : State) (p : Path) (k idx : Nat) (u : Urg) (q : List Urg), (tget convD s.blk.cnv.convs (cix p k)).nextUrgent idx =
      some (u, q) ∧ (tget convD s.blk.cnv.convs (cix p k)).urgent = none ∧ (s.blk.twin k).testing = none ∧
      (tget convD s.blk.cnv.convs (match p with | .a => 20 + k | .b => k)).urgent = none ∧
      (tget convD s.blk.cnv.convs (match p with | .a => 20 + k | .b => k)).urgGrid ≠ some s.blk.cnv.grid) ∧
    (∃ (s : State) (p : Path) (k idx : Nat) (u : Urg), (tget convD s.blk.cnv.convs (cix p k)).urgent = some (u, idx) ∧
      entTake u.entry ≤ (tget convD s.blk.cnv.convs (cix p k)).kept.length) ∧
    (∃ (s : State), s.blk.cnv.calib = true ∧ s.blk.cnv.hkInt ≠ 0 ∧ s.blk.cnv.roundAt .a ≤ s.blk.now) ∧
    (∃ (s : State), s.blk.cnv.calib = true ∧ s.blk.cnv.hkInt ≠ 0 ∧ s.blk.cnv.roundAt .b ≤ s.blk.now) ∧
    (∃ (s : State) (k : Nat) (w : TestBy), (s.blk.twin k).want = some w ∧ (s.blk.twin k).testing = none) ∧
    (∃ (s : State) (k el : Nat) (w : TestBy × Nat), (s.blk.twin k).testing = some w ∧ (s.blk.twin k).verdict = none ∧
      takesDone (tget convD s.blk.cnv.convs k).test = true ∧ takesDone (tget convD s.blk.cnv.convs (20 + k)).test = true) ∧
    (∃ (s : State) (k : Nat), (s.blk.twin k).disputed = true ∧ (s.blk.twin k).lastDis + 60 * secE ≤ s.blk.now) ∧
    (∃ (s : State) (k m : Nat) (c : Bool) (l : List Nat), (s.blk.twin k).returning = some (.b, c, l, m) ∧ 32000 ≤ m) ∧
    (∃ (s : State) (k m : Nat) (c : Bool) (l : List Nat), (s.blk.twin k).returning = some (.a, c, l, m) ∧ 32000 ≤ m) :=
  ⟨⟨st {}, 0, 0, by decide⟩,
   ⟨st { cnv := { convs := [(0, { urgent := some ({ entry := 8 }, 0) })] } }, .a, 0, 0, 0, { entry := 8 }, 0, by decide, by decide, by decide, by decide⟩,
   ⟨st { cnv := { seqs := [(0, [0x0001033F])], convs := [(0, { on := true })] } }, .a, 0, 4, 0, 0, _, 0, _, rfl, by decide, by decide, rfl, by decide⟩,
   ⟨st { cnv := { calib := true, seqs := [(0, [1])], convs := [(20, { kept := [(5, 0), (6, 0)], takeEnt := 0 })], inRecs := [(1, { sensor := 1 })] } }, .b, 0, 1, 1, { kept := [(5, 0), (6, 0)], takeEnt := 0 }, by decide, by decide, by decide, by decide, by decide, by decide, by decide, by decide, by decide, by decide⟩,
   ⟨st { cnv := { grid := 3, convs := [(0, { queue := [{ by_ := some {} }] })] } }, .a, 0, 0, { by_ := some {} }, [], by decide, by decide, by decide, by decide, by decide⟩,
   ⟨st { cnv := { convs := [(0, { urgent := some ({ by_ := some {} }, 0), kept := [(5, 0)] })] } }, .a, 0, 0, { by_ := some {} }, by decide, by decide⟩,
   ⟨st { time := { elapsed := 2 ^ 80 }, cnv := { calib := true } }, by decide, by decide, by decide⟩,
   ⟨st { time := { elapsed := 2 ^ 80 }, cnv := { calib := true } }, by decide, by decide, by decide⟩,
   ⟨st { cnv := { twins := [(0, { want := some .hk })] } }, 0, .hk, by decide, by decide⟩,
   ⟨st { cnv := { twins := [(0, { testing := some (.hk, 3) })], convs := [(0, { test := wTakes }), (20, { test := wTakes })] } }, 0, 0, (.hk, 3), by decide, by decide, by decide +kernel, by decide +kernel⟩,
   ⟨st { time := { elapsed := 2 ^ 80 }, cnv := { twins := [(0, { disputed := true })] } }, 0, by decide, by decide⟩,
   ⟨st { cnv := { twins := [(0, { returning := some (.b, false, ([]), 32000) })] } }, 0, 32000, false, [], by decide, by decide⟩,
   ⟨st { cnv := { twins := [(0, { returning := some (.a, false, ([]), 32000) })] } }, 0, 32000, false, [], by decide, by decide⟩⟩

theorem test_witness_DetectorAndBackstopCommandsComplete :
    (∃ (s : State) (p : Path) (d t0 : Nat), d < 40 ∧ (s.blk.detOf true p d).openAt = some t0 ∧ t0 + 20 * usE ≤ s.blk.anNow) ∧
    (∃ (s : State) (d t0 : Nat), d < 40 ∧ (s.blk.detOf false (s.blk.grpPath d) d).openAt = some t0 ∧ t0 + 20 * usE ≤ s.blk.anNow) ∧
    (∃ (s : State) (k : Bool) (p : Path) (d : Nat), d < 40 ∧ (s.blk.detOf k p d).deadTo ≠ 0 ∧
      (s.blk.detOf k p d).deadTo ≤ s.blk.anNow) ∧
    (∃ (s : State) (k : Bool) (p : Path) (d t0 w : Nat), d < 40 ∧ (s.blk.detOf k p d).startAt = some t0 ∧
      s.blk.tw (if d < 32 then 4 * d else 128 + 4 * (d - 32)) = w ∧ t0 + 2 * w ≤ s.blk.anNow) ∧
    (∃ (s : State) (j : Nat) (x : Group), tget groupD s.blk.bs.groups j = x ∧ x.driving = true ∧ x.set = false ∧
      x.holdTo ≤ s.blk.now) ∧
    (∃ (s : State) (a c : Bool), s.blk.bs.bad ≠ [] ∧ s.blk.flt.spStopped = false ∧ (a || c) = true) ∧
    (∃ (s : State), s.blk.bs.bad ≠ [] ∧ s.blk.flt.spStopped = false) ∧
    (∃ (s : State), s.blk.formCmd ≠ s.blk.bar.cmd ∧ s.blk.bar.run = true) ∧
    (∃ (s : State), (s.blk.formCmd = s.blk.bar.cmd ∨ s.blk.bar.run = false)) ∧
    (∃ (s : State) (n : Nat) (a : AIn) (h : Machine.Half) (r : List Machine.Half), tget ainD s.blk.cnv.ains n = a ∧ a.closed =
      h :: r ∧ (s.blk.inRec n).wbEn = true ∧ (s.blk.inRec n).sensor ≠ 0 ∧ s.blk.cnv.calib = true) ∧
    (∃ (s : State) (n t : Nat) (a : AIn) (h : Machine.Half) (r : List Machine.Half) (x y u v d : Int), tget ainD s.blk.cnv.ains n =
      a ∧ a.closed = h :: r ∧ (s.blk.inRec n).wbEn = true ∧ (s.blk.inRec n).sensor ≠ 0 ∧ s.blk.cnv.calib = true ∧ lastTwo h.kept =
      some (x, y) ∧ (if h.pos then a.negLast else a.posLast) = some ((u, v), t) ∧ (if h.pos then x + y - u - v else u + v - x - y) =
      d ∧ openD (s.blk.gainOf n) d = false) ∧
    (∃ (s : State) (n t : Nat) (a : AIn) (h : Machine.Half) (r : List Machine.Half) (x y u v d : Int), tget ainD s.blk.cnv.ains n =
      a ∧ a.closed = h :: r ∧ (s.blk.inRec n).wbEn = true ∧ (s.blk.inRec n).sensor ≠ 0 ∧ s.blk.cnv.calib = true ∧ lastTwo h.kept =
      some (x, y) ∧ (if h.pos then a.negLast else a.posLast) = some ((u, v), t) ∧ (if h.pos then x + y - u - v else u + v - x - y) =
      d ∧ openD (s.blk.gainOf n) d = true ∧ a.broken = none) :=
  ⟨⟨st { time := { elapsed := 2 ^ 80 }, bs := { det := [(0, { openAt := some 7 })] } }, .a, 0, 7, by decide, by decide, by decide⟩,
   ⟨st { time := { elapsed := 2 ^ 80 }, acc := { det := [(0, { openAt := some 7 })] } }, 0, 7, by decide, by decide, by decide⟩,
   ⟨st { time := { elapsed := 2 ^ 80 }, bs := { det := [(0, { deadTo := 7 })] } }, true, .a, 0, by decide, by decide, by decide⟩,
   ⟨st { time := { elapsed := 2 ^ 80 }, bs := { det := [(0, { startAt := some 7 })] } }, true, .a, 0, 7, _, by decide, by decide, rfl, by decide⟩,
   ⟨st { time := { elapsed := 2 ^ 80 }, bs := { groups := [(0, { driving := true, set := false })] } }, 0, _, rfl, by decide, by decide, by decide⟩,
   ⟨st { bs := { bad := [3] } }, true, false, by decide, by decide, by decide⟩,
   ⟨st { bs := { bad := [3] } }, by decide, by decide⟩,
   ⟨st { bar := { run := true }, elm := { drive := 4 } }, by decide, by decide⟩,
   ⟨st {}, by decide⟩,
   ⟨st { cnv := { calib := true, ains := [(0, { closed := [{}] })], inRecs := [(0, { wbEn := true, sensor := 1 })] } }, 0, { closed := [{}] }, {}, [], by decide, by decide, by decide, by decide, by decide⟩,
   ⟨st { cnv := { calib := true, ains := [(0, { closed := [{ kept := [5, 6] }], negLast := some ((5, 6), 3) })], inRecs := [(0, { wbEn := true, sensor := 1 })] } }, 0, 3, { closed := [{ kept := [5, 6] }], negLast := some ((5, 6), 3) }, { kept := [5, 6] }, [], 5, 6, 5, 6, 0, by decide, by decide, by decide, by decide, by decide, by decide, by decide, by decide, by decide⟩,
   ⟨st { cnv := { calib := true, ains := [(0, { closed := [{ kept := [500000, 500000] }], negLast := some ((5, 6), 3) })], inRecs := [(0, { wbEn := true, sensor := 1 })] } }, 0, 3, { closed := [{ kept := [500000, 500000] }], negLast := some ((5, 6), 3) }, { kept := [500000, 500000] }, [], 500000, 500000, 5, 6, 999989, by decide, by decide, by decide, by decide, by decide, by decide, by decide, by decide, by decide, by decide⟩⟩

theorem test_witness_RecorderAndSampledValueIntervalsComplete :
    (∃ (s : State), s.blk.dist.run = true ∧ s.blk.dist.start = none) ∧
    (∃ (s : State) (t fin : Nat), s.blk.dist.run = true ∧ s.blk.dist.start = some t ∧ s.blk.ns64 / s.blk.distIv * s.blk.distIv =
      fin ∧ fin ≠ t ∧ s.blk.distOpen = none ∧ s.blk.dist.open_.isSome = true) ∧
    (∃ (s : State) (t fin k : Nat) (r : DRec), s.blk.dist.run = true ∧ s.blk.dist.start = some t ∧
      s.blk.ns64 / s.blk.distIv * s.blk.distIv = fin ∧ fin ≠ t ∧ s.blk.distOpen = some (k, r) ∧ r.sets.length ≤ r.last ∧
      ({ r with sets := r.sets ++ [s.blk.distSet (fin - s.blk.distIv) s.blk.distIv], endAt := s.blk.elapsedAt fin } : DRec).segs.length < 16128) ∧
    (∃ (s : State) (rate hi : Nat), (rate = 4800 ∨ rate = 14400) ∧ s.blk.spUp = true ∧ 1000000000 ≤ s.blk.ns64 * rate ∧ hi =
      s.blk.ns64 / 1000000000 * 1000000000 + (s.blk.ns64 % 1000000000 * rate / 1000000000 * 1000000000 + rate - 1) / rate ∧
      tget natD s.blk.net.svAt rate ≠ hi) :=
  ⟨⟨st { dist := { run := true, start := none } }, by decide, by decide⟩,
   ⟨st { time := { sec := 1 }, dist := { run := true, start := some 7, open_ := some 0 } }, 7, _, by decide, by decide, rfl, by decide, by decide, by decide⟩,
   ⟨st { time := { sec := 1 }, dist := { run := true, start := some 7, open_ := some 0, recording := true, recs := [(0, some { last := 100 })] } }, 7, _, 0, { last := 100 }, by decide, by decide, rfl, by decide, by decide, by decide, by decide +kernel⟩,
   ⟨st { time := { sec := 3, ns := 100 } }, 4800, _, by decide, by decide, by decide, rfl, by decide⟩⟩

theorem test_witness_CycleCommandsComplete :
    (∃ (s : State) (n : Nat) (y : Slot) (i : FjImg) (p : Nat), n < 8 ∧ s.blk.slot n = y ∧ y.img = some i ∧ y.pair = some p ∧
      (s.blk.pair p).state = .running ∧ y.running = true ∧ y.cyc = none ∧ y.redo = none ∧ (∀ q j, y.next = some (q, j) →
      s.blk.time.epoch < q) ∧ y.damaged = false ∧ s.blk.time.epoch % i.n = 0 ∧ y.nextE ≤ s.blk.time.epoch ∧
      y.blockTo ≤ s.blk.time.epoch ∧ s.blk.elm.pubEpoch = s.blk.time.epoch) ∧
    (∃ (s : State) (n : Nat) (y : Slot) (i j : FjImg) (p q : Nat), n < 8 ∧ s.blk.slot n = y ∧ y.img = some i ∧ y.pair = some p ∧
      (s.blk.pair p).state = .running ∧ y.running = true ∧ y.cyc = none ∧ y.redo = none ∧ y.next = some (q, j) ∧
      q ≤ s.blk.time.epoch ∧ y.damaged = false ∧ s.blk.time.epoch % i.n = 0 ∧ s.blk.time.epoch % j.n = 0 ∧
      y.nextE ≤ s.blk.time.epoch ∧ y.blockTo ≤ s.blk.time.epoch ∧ s.blk.elm.pubEpoch = s.blk.time.epoch) ∧
    (∃ (s : State) (n : Nat) (y : Slot) (i : FjImg) (p : Nat), n < 8 ∧ s.blk.slot n = y ∧ y.img = some i ∧ y.pair = some p ∧
      (s.blk.pair p).state = .running ∧ y.running = true ∧ y.cyc = none ∧ y.redo = none ∧ y.damaged = true ∧
      s.blk.time.epoch % i.n = 0 ∧ y.nextE ≤ s.blk.time.epoch ∧ y.blockTo ≤ s.blk.time.epoch ∧ s.blk.elm.pubEpoch =
      s.blk.time.epoch ∧ y.takeover = none) ∧
    (∃ (s : State) (n : Nat) (y : Slot) (i : FjImg) (p q : Nat), n < 8 ∧ s.blk.slot n = y ∧ y.img = none ∧ y.next = some (q, i) ∧
      y.pair = some p ∧ (s.blk.pair p).state = .running ∧ q ≤ s.blk.time.epoch ∧ s.blk.time.epoch % i.n = 0 ∧ s.blk.elm.pubEpoch =
      s.blk.time.epoch) ∧
    (∃ (s : State) (n : Nat) (y : Slot) (i : FjImg) (c : Cyc) (p : Nat), n < 8 ∧ s.blk.slot n = y ∧ y.img = some i ∧ y.cyc =
      some c ∧ y.pair = some p ∧ c.ready = [] ∧ c.stack = [] ∧ s.blk.now ≤ c.kettle i) ∧
    (∃ (s : State) (n : Nat) (y : Slot) (i : FjImg) (c : Cyc) (p : Nat), n < 8 ∧ p < 9 ∧ s.blk.slot n = y ∧ y.img = some i ∧ y.cyc =
      some c ∧ y.pair = some p ∧ y.takeover = none ∧ (s.blk.pair p).state = .running ∧ (s.blk.pair p).slot = some n ∧ y.running =
      true ∧ c.ready = [] ∧ c.stack = [] ∧ s.blk.now ≤ c.kettle i) ∧
    (∃ (s : State) (n : Nat) (y : Slot) (i : FjImg) (c : Cyc) (p : Nat), n < 8 ∧ s.blk.slot n = y ∧ y.img = some i ∧ (y.cyc =
      some c ∨ y.cyc = none ∧ y.redo = some c) ∧ y.pair = some p ∧ c.kettle i ≤ s.blk.now) ∧
    (∃ (s : State) (n a : Nat), (s.blk.slot n).armOk = some a ∧ s.blk.sys.armPolicy = 1 ∧ a + s.blk.sys.armDelay * msE ≤ s.blk.now) ∧
    (∃ (s : State) (n : Nat) (i : FjImg) (c : Cyc) (t : Nat) (b1 : Block), s.blk.mayRun n = true ∧ (s.blk.slot n).img = some i ∧
      (s.blk.slot n).cyc = some c ∧ i.best c.ready = some t ∧ (c.stack = [] ∨ ∃ u r, c.stack = u :: r ∧ i.outranks t u = true ∧
      (c.active = false ∨ (tget ctxD c.ctxs u).lockcnt = 0)) ∧ b1 =
      s.blk.putSlot n { s.blk.slot n with cyc := some (c.startTask i t) }) ∧
    (∃ (s : State) (n : Nat) (i : FjImg) (c : Cyc) (u : Nat) (r : List Nat) (b1 : Block), s.blk.mayRun n = true ∧
      (s.blk.slot n).img = some i ∧ (s.blk.slot n).cyc = some c ∧ c.stack = u :: r ∧ (∀ t, i.best c.ready = some t →
      i.outranks t u = false ∨ c.active = true ∧ (tget ctxD c.ctxs u).lockcnt ≠ 0) ∧ b1 =
      s.blk.putSlot n { s.blk.slot n with cyc := some { c with active := true } }) :=
  ⟨⟨st (wRun { img := some {}, pair := some 2, state := .run }), 0, { img := some {}, pair := some 2, state := .run }, {}, 2, by decide, by decide, by decide, by decide, by decide, by decide, by decide, by decide, (fun _ _ e => by cases e), by decide, by decide, by decide, by decide, by decide⟩,
   ⟨st (wRun { img := some {}, pair := some 2, state := .run, next := some (0, {}) }), 0, { img := some {}, pair := some 2, state := .run, next := some (0, {}) }, {}, {}, 2, 0, by decide, by decide, by decide, by decide, by decide, by decide, by decide, by decide, by decide, by decide, by decide, by decide, by decide, by decide, by decide, by decide⟩,
   ⟨st (wRun { img := some {}, pair := some 2, state := .run, damaged := true }), 0, { img := some {}, pair := some 2, state := .run, damaged := true }, {}, 2, by decide, by decide, by decide, by decide, by decide, by decide, by decide, by decide, by decide, by decide, by decide, by decide, by decide, by decide⟩,
   ⟨st { lgc := { slots := [(0, { img := none, next := some (0, ({})), pair := some (0) })], pairs := [(0, { state := .running })] }, elm := { pubEpoch := 0 } }, 0, _, {}, 0, 0, by decide, rfl, by decide, by decide, by decide, by decide, by decide, by decide, by decide⟩,
   ⟨st { time := { elapsed := 0 }, lgc := { slots := [(0, { img := some {}, cyc := some { ready := [], stack := [] }, pair := some (0) })] } }, 0, _, _, _, 0, by decide, rfl, rfl, rfl, by decide, by decide, by decide, by decide⟩,
   ⟨st (wRun { img := some {}, pair := some 2, state := .run, cyc := some {} }), 0, { img := some {}, pair := some 2, state := .run, cyc := some {} }, {}, {}, 2, by decide, by decide, by decide, by decide, by decide, by decide, by decide, by decide, by decide, by decide, by decide, by decide, by decide⟩,
   ⟨st { time := { elapsed := 2 ^ 80 }, lgc := { slots := [(0, { img := some {}, cyc := some {}, pair := some 0 })] } }, 0, { img := some {}, cyc := some {}, pair := some 0 }, _, {}, 0, by decide, by decide, rfl, by decide, by decide, by decide⟩,
   ⟨st { time := { elapsed := 2 ^ 80 }, lgc := { slots := [(0, { armOk := some (0) })] }, sys := { armPolicy := 1 } }, 0, 0, by decide, by decide, by decide⟩,
   ⟨st { lgc := { slots := [(0, { img := some { tasks := [{}, {}] }, cyc := some { ready := [1] } })] } }, 0, { tasks := [{}, {}] }, { ready := [1] }, 1, _, by decide, by decide, by decide, by decide, Or.inl rfl, rfl⟩,
   ⟨st { lgc := { slots := [(0, { img := some {}, cyc := some { stack := [1, 0] } })] } }, 0, {}, { stack := [1, 0] }, 1, [0], _, by decide, by decide, by decide, by decide, (fun _ e => by cases e), rfl⟩⟩

theorem test_witness_PairCommandsComplete :
    (∃ (s : State) (p : Nat), p < 9 ∧ ((s.blk.pair p).state = .stopped ∨ (s.blk.pair p).state = .spare ∨ (s.blk.pair p).state =
      .service ∨ (s.blk.pair p).state = .halted ∨ ((s.blk.pair p).state = .running ∨ (s.blk.pair p).state = .loading) ∧
      (s.blk.pair p).slot.isSome = true)) ∧
    (∃ (s : State) (p n : Nat) (i : Instr), (i = .lockstepMismatch p ∨ i = .delayParityError p ∨ i = .pairEccUncorrectable p) ∧
      (s.blk.pair p).state = .running ∧ (s.blk.pair p).slot = some n ∧ (s.blk.slot n).running = true) ∧
    (∃ (s : State) (p n : Nat) (x : Pair) (i : FjImg) (c : Cyc), s.blk.pair p = x ∧ x.state = .testing ∧ (x.planned = true ∨
      (x.transAt.filter fun a => decide (s.blk.now < a + 60 * secE)).length < 2) ∧ x.back = .running ∧ x.slot = some n ∧
      (s.blk.slot n).img = some i ∧ (s.blk.slot n).redo = some c) ∧
    (∃ (s : State) (p : Nat) (x : Pair), s.blk.pair p = x ∧ x.state = .testing ∧ (x.planned = true ∨
      (x.transAt.filter fun a => decide (s.blk.now < a + 60 * secE)).length < 2) ∧ (x.back = .stopped ∨ x.back = .service)) ∧
    (∃ (s : State) (p : Nat) (failed : Bool) (x : Pair), s.blk.pair p = x ∧ x.state = .testing ∧ (failed = true ∨ x.planned =
      false ∧ 2 ≤ (x.transAt.filter fun a => decide (s.blk.now < a + 60 * secE)).length) ∧ x.back = .spare) ∧
    (∃ (s : State) (p q n : Nat) (failed : Bool) (x : Pair), s.blk.pair p = x ∧ x.state = .testing ∧ (failed = true ∨ x.planned =
      false ∧ 2 ≤ (x.transAt.filter fun a => decide (s.blk.now < a + 60 * secE)).length) ∧ x.back = .running ∧ x.slot = some n ∧
      (s.blk.slot n).running = true ∧ (s.blk.slot n).takeover = none ∧ s.blk.spare = some q) ∧
    (∃ (s : State) (p n : Nat) (failed : Bool) (x : Pair), s.blk.pair p = x ∧ x.state = .testing ∧ (failed = true ∨ x.planned =
      false ∧ 2 ≤ (x.transAt.filter fun a => decide (s.blk.now < a + 60 * secE)).length) ∧ x.back = .running ∧ x.slot = some n ∧
      (s.blk.slot n).running = true ∧ (s.blk.slot n).takeover = none ∧ (∀ q, q < 9 → (s.blk.pair q).state ≠ .spare ∧
      (s.blk.pair q).state ≠ .loading)) ∧
    (∃ (s : State) (p n : Nat), (s.blk.pair p).state = .loading ∧ (s.blk.pair p).slot = some n ∧ (s.blk.slot n).state = .migrating ∧
      s.blk.flt.ucReload = false) ∧
    (∃ (s : State) (p : Nat), (s.blk.pair p).state = .spare) ∧
    (∃ (s : State) (n k : Nat), (s.blk.slot n).takeover = some (0, k) ∧ s.blk.flt.ucReload = false) ∧
    (∃ (s : State) (n k q : Nat) (y : Slot) (i : FjImg), s.blk.slot n = y ∧ y.takeover = some (2, k) ∧ s.blk.loader n = some q ∧
      y.img = some i ∧ s.blk.elm.pubEpoch = s.blk.time.epoch ∧ y.nextE ≤ s.blk.time.epoch ∧ y.blockTo ≤ s.blk.time.epoch ∧
      s.blk.time.epoch % i.n = 0) :=
  ⟨⟨st {}, 0, by decide, by decide⟩,
   ⟨st (wRun { state := .run }), 2, 0, .lockstepMismatch 2, by decide, by decide, by decide, by decide⟩,
   ⟨st { lgc := { pairs := [(0, { state := .testing, back := .running, slot := some (0) })], slots := [(0, { img := some {}, redo := some {} })] } }, 0, 0, _, _, _, rfl, by decide, by decide, by decide, by decide, rfl, rfl⟩,
   ⟨st { lgc := { pairs := [(0, { state := .testing, back := .stopped })] } }, 0, _, rfl, by decide, by decide, by decide⟩,
   ⟨st { lgc := { pairs := [(0, { state := .testing, back := .spare })] } }, 0, true, _, rfl, by decide, by decide, by decide⟩,
   ⟨st { lgc := { pairs := [(0, { state := .testing, back := .running, slot := some 0 }), (8, { state := .spare })], slots := [(0, { state := .run })] } }, 0, 8, 0, true, _, rfl, by decide, by decide, by decide, by decide, by decide, by decide, by decide⟩,
   ⟨st { lgc := { pairs := [(0, { state := .testing, back := .running, slot := some 0 }), (8, { state := .stopped })], slots := [(0, { state := .run })] } }, 0, 0, true, _, rfl, by decide, by decide, by decide, by decide, by decide, by decide, by decide⟩,
   ⟨st { lgc := { pairs := [(0, { state := .loading, slot := some (0) })], slots := [(0, { state := .migrating })] }, flt := { ucReload := false } }, 0, 0, by decide, by decide, by decide, by decide⟩,
   ⟨st { lgc := { pairs := [(0, { state := .spare })] } }, 0, by decide⟩,
   ⟨st { lgc := { slots := [(0, { takeover := some (0, 0) })] }, flt := { ucReload := false } }, 0, 0, by decide, by decide⟩,
   ⟨st { lgc := { slots := [(0, { img := some {}, takeover := some (2, 1) })], pairs := [(8, { state := .loading, slot := some 0 })] } }, 0, 1, 8, { img := some {}, takeover := some (2, 1) }, {}, by decide, by decide, by decide, by decide, by decide, by decide, by decide, by decide⟩⟩

theorem test_witness_StationCommandsComplete :
    (∃ (s : State) (h : RxHdr) (f : GooseRx) (b : Block) (i : Nat) (e : SubDecl) (d : StnDecl) (x : Stn), s.blk.rxIn h = (true, b) ∧
      b.filterEntry false f.dst f.appid f.ref h.port = some (i, e) ∧ e.ref = f.ref ∧ tget stnD b.lgc.stns (e.index i) = x ∧ x.decl =
      some d ∧ (f.sim = true → d.acceptSim = true) ∧ f.confRev = d.confRev ∧ f.members.map (·.1) = d.members ∧ (x.fresh = true ∨
      x.seq.1 < f.stNum ∨ x.seq.1 = f.stNum ∧ x.seq.2 ≤ f.sqNum)) ∧
    (∃ (s : State) (h : RxHdr) (f : GooseRx) (b : Block) (i : Nat) (e : SubDecl) (d : StnDecl) (x : Stn), s.blk.rxIn h = (true, b) ∧
      b.filterEntry false f.dst f.appid f.ref h.port = some (i, e) ∧ e.ref = f.ref ∧ tget stnD b.lgc.stns (e.index i) = x ∧ x.decl =
      some d ∧ (f.sim = true → d.acceptSim = true) ∧ (f.confRev ≠ d.confRev ∨ f.members.map (·.1) ≠ d.members ∨ x.fresh = false ∧
      (f.stNum < x.seq.1 ∨ f.stNum = x.seq.1 ∧ f.sqNum < x.seq.2))) ∧
    (∃ (s : State) (h : RxHdr) (f : SvRx) (b : Block) (i : Nat) (e : SubDecl) (d : StnDecl) (x : Stn), s.blk.rxIn h = (true, b) ∧
      b.filterEntry true f.dst f.appid f.ref h.port = some (i, e) ∧ e.ref = f.ref ∧ tget stnD b.lgc.stns (e.index i) = x ∧ x.decl =
      some d ∧ (f.sim = true → d.acceptSim = true) ∧ f.confRev = d.confRev ∧ f.asdus.length = d.asdu ∧ (∀ a, a ∈ f.asdus →
      a.length = d.members.length) ∧ (x.fresh = true ∨ 0 < (f.smpCnt + d.rate - x.seq.2 % d.rate) % d.rate ∧
      2 * ((f.smpCnt + d.rate - x.seq.2 % d.rate) % d.rate) < d.rate)) ∧
    (∃ (s : State) (h : RxHdr) (f : SvRx) (b : Block) (i : Nat) (e : SubDecl) (d : StnDecl) (x : Stn), s.blk.rxIn h = (true, b) ∧
      b.filterEntry true f.dst f.appid f.ref h.port = some (i, e) ∧ e.ref = f.ref ∧ tget stnD b.lgc.stns (e.index i) = x ∧ x.decl =
      some d ∧ (f.sim = true → d.acceptSim = true) ∧ (f.confRev ≠ d.confRev ∨ f.asdus.length ≠ d.asdu ∨ (∃ a, a ∈ f.asdus ∧
      a.length ≠ d.members.length) ∨ x.fresh = false ∧ ((f.smpCnt + d.rate - x.seq.2 % d.rate) % d.rate = 0 ∨
      d.rate ≤ 2 * ((f.smpCnt + d.rate - x.seq.2 % d.rate) % d.rate)))) ∧
    (∃ (s : State) (k : Nat) (x : Stn) (d : StnDecl), tget stnD s.blk.lgc.stns k = x ∧ x.decl = some d ∧ x.seen = true ∧
      x.missAt d ≤ s.blk.now ∧ x.state ≠ .returning ∧ (x.state = .up → x.miss + 1 < d.missLim)) ∧
    (∃ (s : State) (k : Nat) (x : Stn) (d : StnDecl), tget stnD s.blk.lgc.stns k = x ∧ x.decl = some d ∧ x.seen = true ∧
      x.missAt d ≤ s.blk.now ∧ x.state = .returning) ∧
    (∃ (s : State) (k : Nat) (x : Stn) (d : StnDecl), tget stnD s.blk.lgc.stns k = x ∧ x.decl = some d ∧ x.seen = true ∧
      x.missAt d ≤ s.blk.now ∧ x.state = .up ∧ d.missLim ≤ x.miss + 1) ∧
    (∃ (s : State) (k : Nat) (d : PubDecl) (c : CbSt), tget (fun _ => none) s.blk.net.pubs k = some d ∧ tget cbD s.blk.net.cbs k =
      c ∧ c.last.isSome = true ∧ c.nextAt ≤ s.blk.now) :=
  ⟨⟨st (wSubs false), {}, {}, _, 0, { ports := 1, idHash := crc32 [], station := 3 }, {}, { decl := some {} }, rfl, by decide +kernel, by decide, by decide, by decide, by decide, by decide, by decide, by decide⟩,
   ⟨st (wSubs false), {}, { confRev := 5 }, _, 0, { ports := 1, idHash := crc32 [], station := 3 }, {}, { decl := some {} }, rfl, by decide +kernel, by decide, by decide, by decide, by decide, by decide⟩,
   ⟨st (wSubs true), {}, { asdus := [[]] }, _, 0, { sv := true, ports := 1, idHash := crc32 [], station := 3 }, {}, { decl := some {} }, rfl, by decide +kernel, by decide, by decide, by decide, by decide, by decide, by decide, by decide, by decide⟩,
   ⟨st (wSubs true), {}, { confRev := 5 }, _, 0, { sv := true, ports := 1, idHash := crc32 [], station := 3 }, {}, { decl := some {} }, rfl, by decide +kernel, by decide, by decide, by decide, by decide, Or.inl (by decide)⟩,
   ⟨st { time := { elapsed := 2 ^ 80 }, lgc := { stns := [(0, { decl := some {}, seen := true })] } }, 0, _, _, rfl, rfl, by decide, by decide, by decide, by decide⟩,
   ⟨st { time := { elapsed := 2 ^ 80 }, lgc := { stns := [(0, { decl := some {}, seen := true, state := .returning })] } }, 0, _, _, rfl, rfl, by decide, by decide, by decide⟩,
   ⟨st { time := { elapsed := 2 ^ 80 }, lgc := { stns := [(0, { decl := some {}, seen := true, state := .up, miss := 100 })] } }, 0, _, {}, rfl, by decide, by decide, by decide, by decide, by decide⟩,
   ⟨st { time := { elapsed := 2 ^ 80 }, net := { pubs := [(0, some {})], cbs := [(0, { last := some {} })] } }, 0, _, _, rfl, rfl, by decide, by decide⟩⟩

theorem test_witness_FieldSideCommandsComplete :
    (∃ (s : State) (i v ft : Nat) (l : List Nat) (t : State), exec (.diChangeAccepted i l (ft - 100)) s = .next t) ∧
    (∃ (s : State) (i v ft : Nat) (f : FldSt) (raw : Bool), s.blk.fside = f ∧ f.powered = true ∧ raw =
      (if diLevel i true (presetOn (f.presetOf i)) ≤ v then true else if v ≤ diLevel i false (presetOff (f.presetOf i)) then false else bitOf f.diRaw i)) ∧
    (∃ (s : State) (i v ft t : Nat) (f : FldSt) (raw : Bool), s.blk.fside = f ∧ f.powered = true ∧ raw =
      (if diLevel i true (presetOn (f.presetOf i)) ≤ v then true else if v ≤ diLevel i false (presetOff (f.presetOf i)) then false else bitOf f.diRaw i) ∧
      raw ≠ bitOf f.di i ∧ t = (tget optD f.diRun i).getD ft) ∧
    (∃ (s : State) (i ft t : Nat) (f : FldSt), s.blk.fside = f ∧ f.powered = true ∧ tget optD f.wet i = some t ∧ t + 200000 ≤ ft) ∧
    (∃ (s : State) (i ft : Nat) (l : Bool) (f : FldSt), s.blk.fside = f ∧ f.powered = true ∧ bitOf f.di i ≠ l ∧ i < 8) ∧
    (∃ (s : State) (j ft : Nat) (f : FldSt), s.blk.fside = f ∧ f.powered = true ∧ bitOf f.cmd j = true ∧ (f.chan j).phase =
      .normal ∧ (f.chan j).shut = false) ∧
    (∃ (s : State) (j ft : Nat) (low : Bool) (f : FldSt), s.blk.fside = f ∧ f.powered = true ∧ (f.chan j).phase = .peak ∧
      (f.chan j).shut = false) ∧
    (∃ (s : State) (j ft : Nat) (low : Bool) (f : FldSt), s.blk.fside = f ∧ f.powered = true ∧ (f.chan j).phase = .regulation ∧
      (f.chan j).shut = false) ∧
    (∃ (s : State) (j : Nat) (f : FldSt), s.blk.fside = f ∧ f.powered = true ∧ (f.chan j).phase = .foldback ∧ (f.chan j).shut =
      false ∧ bitOf f.cmd j = true) ∧
    (∃ (s : State) (j ft : Nat) (up : Bool) (f : FldSt), s.blk.fside = f ∧ f.powered = true ∧ (f.chan j).phase = .retry) ∧
    (∃ (s : State) (j ft : Nat) (f : FldSt), s.blk.fside = f ∧ f.powered = true ∧ (f.chan j).overload = true ∧ (f.chan j).phase =
      .normal ∧ (f.chan j).normalAt + 100000 ≤ ft) ∧
    (∃ (s : State) (j : Nat) (f : FldSt), s.blk.fside = f ∧ f.powered = true) ∧
    (∃ (s : State) (j : Nat) (f : FldSt), s.blk.fside = f ∧ f.powered = true ∧ (f.chan j).shut = true) ∧
    (∃ (s : State) (j : Nat) (f : FldSt), s.blk.fside = f ∧ f.powered = true ∧ bitOf f.cmd j = false ∧ bitOf f.owEn j = true ∧
      f.rbIn j = false) ∧
    (∃ (s : State) (j : Nat) (f : FldSt), s.blk.fside = f ∧ f.powered = true ∧ bitOf f.cmd j = false ∧ f.rbIn j = false) :=
  ⟨⟨st {}, 0, 0, 0, [], _, rfl⟩,
   ⟨st { fside := { powered := true } }, 0, 0, 0, { powered := true }, _, by decide, by decide, rfl⟩,
   ⟨st { fside := { powered := true } }, 0, 40000, 0, _, { powered := true }, true, by decide, by decide, (if_pos (Nat.le_trans (test_diLevel_le _ _ _) (by decide))).symm, by decide, rfl⟩,
   ⟨st { fside := { powered := true, wet := [(0, some (0))] } }, 0, 200000, 0, _, rfl, by decide, by decide, by decide⟩,
   ⟨st { fside := { powered := true } }, 0, 0, true, _, rfl, by decide, by decide, by decide⟩,
   ⟨st { fside := { powered := true, seen := true, out := 1 } }, 0, 0, { powered := true, seen := true, out := 1 }, by decide, by decide, by decide, by decide, by decide⟩,
   ⟨st { fside := { powered := true, chans := [(0, { phase := .peak, shut := false })] } }, 0, 0, false, _, rfl, by decide, by decide, by decide⟩,
   ⟨st { fside := { powered := true, chans := [(0, { phase := .regulation, shut := false })] } }, 0, 0, false, _, rfl, by decide, by decide, by decide⟩,
   ⟨st { fside := { powered := true, seen := true, out := 1, chans := [(0, { phase := .foldback })] } }, 0, _, rfl, by decide, by decide, by decide, by decide⟩,
   ⟨st { fside := { powered := true, chans := [(0, { phase := .retry })] } }, 0, 0, false, _, rfl, by decide, by decide⟩,
   ⟨st { fside := { powered := true, chans := [(0, { overload := true, phase := .normal })] } }, 0, 100000, _, rfl, by decide, by decide, by decide, by decide⟩,
   ⟨st { fside := { powered := true } }, 0, _, rfl, by decide⟩,
   ⟨st { fside := { powered := true, chans := [(0, { shut := true })] } }, 0, _, rfl, by decide, by decide⟩,
   ⟨st { fside := { powered := true, words := [(3, 1)] } }, 0, _, rfl, by decide, by decide, by decide, by decide⟩,
   ⟨st { fside := { powered := true } }, 0, _, rfl, by decide, by decide, by decide⟩⟩

theorem test_witness_BarrierLinkCommandsComplete :
    (∃ (s : State) (ft n out a d : Nat) (ins : Bool), s.blk.bar.run = true ∧ s.blk.fside.powered = true ∧ s.blk.bar.tx =
      dnFrame n ins out a d ∧ out < 2 ^ 32 ∧ a < 256 ∧ d < 2 ^ 24) ∧
    (∃ (s : State) (ft : Nat), s.blk.bar.run = true ∧ s.blk.fside.powered = true) ∧
    (∃ (s : State), s.blk.bar.run = true ∧ s.blk.fside.powered = true) ∧
    (∃ (s : State) (ft : Nat) (f : FldSt), s.blk.fside = f ∧ f.powered = true ∧ f.silRun = true ∧ f.silAt + f.silence ≤ ft) ∧
    (∃ (s : State), s.blk.bar.run = true ∧ s.blk.fside.powered = true ∧ s.blk.fside.upPos = 0) ∧
    (∃ (s : State) (w : BitVec 32), s.blk.bar.run = true ∧ s.blk.fside.powered = true ∧ s.blk.fside.upPos = 2) ∧
    (∃ (s : State), s.blk.bar.run = true ∧ s.blk.fside.powered = true ∧ s.blk.fside.upPos % 2 = 1) ∧
    (∃ (s : State), s.blk.bar.run = true ∧ s.blk.fside.powered = true ∧ s.blk.fside.upPos % 2 = 1 ∧ s.blk.fside.auxDue = .edges) ∧
    (∃ (s : State) (j : Nat) (cur : BitVec 12), s.blk.bar.run = true ∧ s.blk.fside.powered = true ∧ s.blk.fside.upPos % 2 = 1 ∧
      s.blk.fside.auxDue = .diag j) ∧
    (∃ (s : State) (ft : Nat), s.blk.bar.run = true ∧ s.blk.fside.powered = true ∧ s.blk.fside.upPos % 2 = 1 ∧ s.blk.fside.auxDue =
      .time) ∧
    (∃ (s : State) (v : BitVec 12) (t : Byte), s.blk.bar.run = true ∧ s.blk.fside.powered = true ∧ s.blk.fside.upPos % 2 = 1 ∧
      s.blk.fside.auxDue = .status) ∧
    (∃ (s : State) (a : Nat), s.blk.bar.run = true ∧ s.blk.fside.powered = true ∧ s.blk.fside.upPos % 2 = 1 ∧ s.blk.fside.auxDue =
      .echo a ∧ a ≤ 0x19) ∧
    (∃ (s : State) (x : Bool), s.blk.bar.run = true ∧ s.blk.fside.powered = true ∧ (s.blk.fside.upPos % 2 == 1) = x) ∧
    (∃ (s : State), s.blk.bar.run = true ∧ s.blk.bar.loss = none ∧ s.blk.bar.goodAt + 10 * usE ≤ s.blk.now) ∧
    (∃ (s : State) (a : Nat), a ∈ s.blk.bar.differ ∧ tget natD s.blk.bar.sentAt a ≠ 0 ∧
      tget natD s.blk.bar.sentAt a + msE < s.blk.now) ∧
    (∃ (s : State) (ft : Nat), s.blk.fside.powered = true) ∧
    (∃ (s : State), s.blk.spUp = true) :=
  ⟨⟨st { bar := { run := true, tx := dnFrame 0 false 0 0 0 }, fside := { powered := true } }, 0, 0, 0, 0, 0, false, by decide, by decide, rfl, by decide, by decide, by decide⟩,
   ⟨st { bar := { run := true }, fside := { powered := true } }, 0, by decide, by decide⟩,
   ⟨st { bar := { run := true }, fside := { powered := true } }, by decide, by decide⟩,
   ⟨st { fside := { powered := true, silRun := true } }, 10000, _, rfl, by decide, by decide, by decide⟩,
   ⟨st { bar := { run := true }, fside := { powered := true, upPos := 0 } }, by decide, by decide, by decide⟩,
   ⟨st { bar := { run := true }, fside := { powered := true, upPos := 2 } }, 0, by decide, by decide, by decide⟩,
   ⟨st (wAux 0 0), by decide, by decide, by decide⟩,
   ⟨st { bar := { run := true }, fside := { powered := true, upPos := 1, fastQ := [{}] } }, by decide, by decide, by decide, by decide⟩,
   ⟨st (wAux 0 0), 0, 0, by decide, by decide, by decide, by decide⟩,
   ⟨st (wAux 0 32), 0, by decide, by decide, by decide, by decide⟩,
   ⟨st (wAux 0 33), 0, 0, by decide, by decide, by decide, by decide⟩,
   ⟨st (wAux 0 34), 0, by decide, by decide, by decide, by decide, by decide⟩,
   ⟨st { bar := { run := true }, fside := { powered := true } }, _, by decide, by decide, rfl⟩,
   ⟨st { time := { elapsed := 2 ^ 80 }, bar := { run := true, loss := none } }, by decide, by decide, by decide⟩,
   ⟨st { time := { elapsed := 2 ^ 80 }, bar := { differ := [1], sentAt := [(1, 5)] } }, 1, by decide, by decide, by decide⟩,
   ⟨st { fside := { powered := true } }, 0, by decide⟩,
   ⟨st {}, by decide⟩⟩

theorem test_witness_TimeCommandsComplete :
    (∃ (s : State) (v : Byte) (q f w : Nat), q = s.blk.time.freqHi.toNat * 2 ^ 32 + s.blk.time.freqLo.toNat ∧ f =
      (if q < freqLo then freqLo else if freqHi < q then freqHi else q) ∧ w = v.toNat * 2 ^ 32 + s.blk.time.incLo.toNat) ∧
    (∃ (s : State), s.blk.time.incAt + 5 * secE / 2 ≤ s.blk.now) ∧
    (∃ (s : State) (v n : Nat), v = s.blk.time.stepHi.toNat * 2 ^ 32 + s.blk.time.stepLo.toNat ∧ n = v % 2 ^ 64) ∧
    (∃ (s : State) (v n : Nat), v = s.blk.time.stepHi.toNat * 2 ^ 32 + s.blk.time.stepLo.toNat ∧ n =
      ofSigned 64 ((s.blk.ns64 : Int) + toSigned 64 v)) ∧
    (∃ (s : State) (p n : Nat) (x : PtpPort), tget ptpD s.blk.time.ports p = x) ∧
    (∃ (s : State) (c : Nat), s.blk.time.ppsAllowed = true ∧ s.blk.time.carryAt = some c) ∧
    (∃ (s : State) (c : Nat) (t : TimeSt), s.blk.time.ppsAllowed = true ∧ s.blk.time.carryAt = none ∧ s.blk.time.run = true ∧ t =
      s.blk.time.advance ((secF - (s.blk.time.ns * nsE + s.blk.time.frac) + s.blk.time.inc - 1) / s.blk.time.inc) ∧ t.carryAt =
      some c) ∧
    (∃ (s : State) (t : Nat), s.blk.time.ppsHigh = some t ∧ t ≤ s.blk.now) ∧
    (∃ (s : State), s.blk.time.servo.state = .holdover ∧ s.blk.spUp = true) ∧
    (∃ (s : State), s.blk.spUp = true ∧ s.blk.time.servo.state = .holdover ∧
      s.blk.time.servo.holdAt + s.blk.time.cfg.holdMax * secE ≤ s.blk.now) ∧
    (∃ (s : State), s.blk.spUp = true ∧ s.blk.time.servo.state = .stepped ∧ s.blk.time.slave = none ∧
      s.blk.time.servo.stepAt + secE ≤ s.blk.now) :=
  ⟨⟨st {}, 0, _, _, _, rfl, rfl, rfl⟩,
   ⟨st { time := { elapsed := 2 ^ 80 } }, by decide⟩,
   ⟨st {}, _, _, rfl, rfl⟩,
   ⟨st {}, _, _, rfl, rfl⟩,
   ⟨st {}, 0, 0, _, rfl⟩,
   ⟨st { time := { cfg := { ppsMode := 1, ppsAlways := true }, carryAt := some 9 } }, 9, by decide, by decide⟩,
   ⟨st { time := { run := true, cfg := { ppsMode := 1, ppsAlways := true }, ns := 999999999 } }, 17179869184, _, by decide, by decide, by decide, rfl, by decide +kernel⟩,
   ⟨st { time := { elapsed := 2 ^ 80, ppsHigh := some (0) } }, 0, by decide, by decide⟩,
   ⟨st { time := { servo := { state := .holdover } } }, by decide, by decide⟩,
   ⟨st { time := { elapsed := 2 ^ 80, servo := { state := .holdover } } }, by decide, by decide, by decide⟩,
   ⟨st { time := { elapsed := 2 ^ 80, servo := { state := .stepped }, slave := none } }, by decide, by decide, by decide, by decide⟩⟩

theorem test_witness_PtpMessagesComplete :
    (∃ (s : State) (p d q o rr rt w : Nat) (t : Bool) (c : Int) (a : Announce) (b : Block) (i : Instr), (i = .ptpSync p d q t o c ∨
      i = .ptpFollowUp p d q o c ∨ i = .ptpAnnounce p d a ∨ i = .ptpPdelayReq p d q w ∨ i = .ptpPdelayResp p d q rr rt c) ∧
      s.blk.ptpIn p d = (false, b)) ∧
    (∃ (s : State) (p d q o : Nat) (c : Int) (b : Block), s.blk.ptpIn p d = (true, b) ∧ b.time.slave = some (s.blk.ptpPort p)) ∧
    (∃ (s : State) (p d q o rx : Nat) (c e : Int) (b : Block), s.blk.ptpIn p d = (true, b) ∧ b.time.slave = some (s.blk.ptpPort p) ∧
      (tget ptpD b.time.ports p).syncWait = some (q, rx, e)) ∧
    (∃ (s : State) (p d q o : Nat) (t : Bool) (c : Int) (b : Block) (i : Instr), (i = .ptpSync p d q t o c ∨ i =
      .ptpFollowUp p d q o c) ∧ s.blk.ptpIn p d = (true, b) ∧ b.time.slave ≠ some (s.blk.ptpPort p)) ∧
    (∃ (s : State) (p d : Nat) (a : Announce) (b : Block), s.blk.ptpIn p d = (true, b)) ∧
    (∃ (s : State) (p d q w : Nat) (b : Block), s.blk.ptpIn p d = (true, b)) ∧
    (∃ (s : State) (p d q rr rt t1 : Nat) (c : Int) (b : Block), s.blk.ptpIn p d = (true, b) ∧
      (tget ptpD b.time.ports p).pdelayWait = some (q, t1)) ∧
    (∃ (s : State) (p : Nat), s.blk.alive p = true) ∧
    (∃ (s : State) (p n : Nat), s.blk.ptpOn p = true ∧ (tget ptpD s.blk.time.ports p).pdelayWait = none ∧
      (tget ptpD s.blk.time.ports p).seqPdelay = n) ∧
    (∃ (s : State) (p n : Nat) (b : Block), s.blk.ptpOn p = true ∧ (tget ptpD s.blk.time.ports p).pdelayWait.isSome = true ∧ b =
      (s.blk.putPtp p fun x => { x with pdelayFail := satN (2 ^ 32 - 1) (x.pdelayFail + 1), pdelayWait := none }).raise 355 p ∧
      (tget ptpD s.blk.time.ports p).seqPdelay = n) ∧
    (∃ (s : State) (p n : Nat), s.blk.ptpOn p = true ∧ (tget ptpD s.blk.time.ports p).pstate = 6 ∧ s.blk.ptpPort p = p ∧
      (tget ptpD s.blk.time.ports p).seqSync = n) ∧
    (∃ (s : State) (p q rx tx o : Nat) (c e : Int) (b : Block), o = (if p % 2 = 0 then p + 1 else p - 1) ∧ s.blk.alive p = true ∧
      s.blk.time.cfg.profile ≠ 0 ∧ (s.blk.red p = 2 ∨ 2 ≤ p ∧ s.blk.time.cfg.tc.getD p false = true ∧
      s.blk.time.cfg.tc.getD o false = true) ∧ b = s.blk.goodRx p ∧ e =
      c + (dist64 tx rx + ((tget ptpD b.time.ports p).linkDelay : Nat)) * 65536) ∧
    (∃ (s : State) (p q rx tx o : Nat) (c e : Int) (b b2 : Block), o = (if p % 2 = 0 then p + 1 else p - 1) ∧ s.blk.alive p = true ∧
      s.blk.time.cfg.profile ≠ 0 ∧ (s.blk.red p = 2 ∨ 2 ≤ p ∧ s.blk.time.cfg.tc.getD p false = true ∧
      s.blk.time.cfg.tc.getD o false = true) ∧ b = s.blk.goodRx p ∧ e =
      c + (dist64 tx rx + ((tget ptpD b.time.ports p).linkDelay : Nat)) * 65536 ∧ b2 =
      (b.enqueue o { body := .tc 0 q c, queue := 7 }).kick o false) ∧
    (∃ (s : State) (p : Nat), p < 4 ∧ (tget ptpD s.blk.time.ports p).best.isSome = true ∧
      (tget ptpD s.blk.time.ports p).annAt + 3 * secE ≤ s.blk.now ∧ s.blk.time.slave ≠ some p) ∧
    (∃ (s : State) (p : Nat) (b : Block), p < 4 ∧ (tget ptpD s.blk.time.ports p).best.isSome = true ∧
      (tget ptpD s.blk.time.ports p).annAt + 3 * secE ≤ s.blk.now ∧ s.blk.time.slave = some p ∧ b =
      ((s.blk.putPtp p fun x => { x with best := none, annTo := true }).bmca).raise 349 p) :=
  ⟨⟨st {}, 0, 0, 0, 0, 0, 0, 0, false, 0, {}, _, .ptpSync 0 0 0 false 0 0, by decide, rfl⟩,
   ⟨st wPtp, 1, 0, 0, 0, 0, _, rfl, by decide⟩,
   ⟨st wPtp, 1, 0, 7, 0, 0, 0, 0, _, rfl, by decide, by decide⟩,
   ⟨st wPtp, 0, 0, 0, 0, false, 0, _, .ptpSync 0 0 0 false 0 0, by decide, rfl, by decide⟩,
   ⟨st wPtp, 1, 0, {}, _, rfl⟩,
   ⟨st wPtp, 1, 0, 0, 0, _, rfl⟩,
   ⟨st wPtp, 1, 0, 9, 0, 0, 0, 0, _, rfl, by decide⟩,
   ⟨st wPtp, 3, by decide⟩,
   ⟨st wPtp, 2, 0, by decide, by decide, by decide⟩,
   ⟨st wPtp, 1, 0, _, by decide, by decide, rfl, by decide⟩,
   ⟨st wPtp, 1, 0, by decide, by decide, by decide, by decide⟩,
   ⟨st { wRed 2 with time := wPtp.time }, 2, 0, 0, 0, _, 0, _, _, rfl, by decide, by decide, by decide, rfl, rfl⟩,
   ⟨st { wRed 2 with time := wPtp.time }, 2, 0, 0, 0, _, 0, _, _, _, rfl, by decide, by decide, by decide, rfl, rfl, rfl⟩,
   ⟨st { time := { elapsed := 2 ^ 80, ports := [(3, { best := some {} })] } }, 3, by decide, by decide, by decide, by decide⟩,
   ⟨st { time := { elapsed := 2 ^ 80, ports := [(3, { best := some {} })], slave := some 3 } }, 3, _, by decide, by decide, by decide, by decide, rfl⟩⟩

theorem test_witness_PortCommandsComplete :
    (∃ (s : State) (p : Nat), p < 4 ∧ 5 ≤ s.blk.sys.step ∧ s.blk.mode p ≠ 0 ∧ (s.blk.port p).link = false) ∧
    (∃ (s : State) (p : Nat), (s.blk.port p).link = true) ∧
    (∃ (s : State) (p : Nat) (l : Bool) (b : Block), s.blk.alive p = true ∧ b =
      s.blk.putPort p (fun x => { x.count (if l then .rxLong else .rxErr) with badRun := x.badRun + 1 })) ∧
    (∃ (s : State) (h : RxHdr) (b : Block), s.blk.rxIn h = (true, b)) ∧
    (∃ (s : State) (p : Nat), s.blk.alive p = true) ∧
    (∃ (s : State) (h : RxHdr) (b : Block) (i : Instr), (i = .rxUnsupportedFrame h ∨ i = .prpSupervisionRx h) ∧ s.blk.rxIn h =
      (false, b)) ∧
    (∃ (s : State) (k : Nat), k < 2 ∧ s.blk.red (2 * k) = 1) ∧
    (∃ (s : State) (k : Nat), k < 2 ∧ s.blk.red (2 * k) = 2) ∧
    (∃ (s : State) (p : Nat), p < 4 ∧ s.blk.red p = 1 ∧ (s.blk.port p).lost = none ∧ (s.blk.port p).heardAt + 6 * secE ≤ s.blk.now ∧
      (s.blk.port p).heardAt < (s.blk.port (if p % 2 = 0 then p + 1 else p - 1)).heardAt) ∧
    (∃ (s : State) (p : Nat), p < 4 ∧ s.blk.red p = 2 ∧ (s.blk.port p).lost = none ∧ (s.blk.port p).heardAt + 6 * secE ≤ s.blk.now) ∧
    (∃ (s : State) (h : RxHdr) (u m : Bool), s.blk.alive h.port = true ∧ s.blk.red h.port = 2) ∧
    (∃ (s : State) (h : RxHdr) (q l : Nat) (u m : Bool), s.blk.alive h.port = true ∧ s.blk.red h.port = 2 ∧ h.seq = some (q, l) ∧
      (s.blk.dupOf (h.port / 2) h.src q).any (·.fwd) = true) ∧
    (∃ (s : State) (h : RxHdr) (q l o : Nat) (u m : Bool) (b : Block), s.blk.alive h.port = true ∧ s.blk.red h.port = 2 ∧ h.seq =
      some (q, l) ∧ (s.blk.dupOf (h.port / 2) h.src q).any (·.fwd) = false ∧ o = (if h.port % 2 =
      0 then h.port + 1 else h.port - 1) ∧ b =
      (if m then s.blk else s.blk.goodRx h.port).dupPut (h.port / 2) h.src q (fun d => { d with fwd := true })) ∧
    (∃ (s : State) (p : Nat) (f : TxFrame), (s.blk.port p).sending = some f) :=
  ⟨⟨st { sys := { step := 5 }, net := { cfg := { mode := [0, 0, 0, 1] } } }, 3, by decide, by decide, by decide, by decide⟩,
   ⟨st (wRed 1), 3, by decide⟩,
   ⟨st (wRed 1), 3, false, _, by decide, rfl⟩,
   ⟨st (wRed 0), { port := 3 }, _, rfl⟩,
   ⟨st (wRed 0), 3, by decide⟩,
   ⟨st {}, {}, _, .rxUnsupportedFrame {}, by decide, rfl⟩,
   ⟨st (wRed 1), 1, by decide, by decide⟩,
   ⟨st (wRed 2), 1, by decide, by decide⟩,
   ⟨st { time := { elapsed := 2 ^ 80 }, net := { cfg := { red := [1, 1] }, ports := [(2, { heardAt := 5 })] } }, 3, by decide, by decide, by decide, by decide, by decide⟩,
   ⟨st { time := { elapsed := 2 ^ 80 }, net := { cfg := { red := [2, 2] } } }, 3, by decide, by decide, by decide, by decide⟩,
   ⟨st (wRed 2), { port := 3 }, false, false, by decide, by decide⟩,
   ⟨st { wRed 2 with net := { (wRed 2).net with dups := [(1, [{ src := 0, seq := 4, fwd := true }])] } }, { port := 2, seq := some (4, 0) }, 4, 0, false, false, by decide, by decide, by decide, by decide⟩,
   ⟨st (wRed 2), { port := 2, seq := some (4, 0) }, 4, 0, _, true, false, _, by decide, by decide, by decide, by decide, rfl, rfl⟩,
   ⟨st { net := { ports := [(0, { sending := some {} })] } }, 0, {}, by decide⟩⟩

theorem test_witness_NeighbourCommandsComplete :
    (∃ (s : State), s.blk.fabOn = true ∧ s.blk.helloIv.isSome = true ∧ s.blk.fab.helloIv ≠ s.blk.helloIv) ∧
    (∃ (s : State) (h : RxHdr) (x : Hello) (b c : Block), s.blk.rxIn h = (true, b) ∧ b.fabRefuse h = false ∧ b.isBlocked x.mac =
      false ∧ b.police h.port true = (true, c)) ∧
    (∃ (s : State) (h : RxHdr) (x : Hello) (b : Block), s.blk.rxIn h = (true, b) ∧ b.fabRefuse h = true) ∧
    (∃ (s : State) (n : Nat), n = min (min 32 (256 - s.blk.fab.nbrs.length)) s.blk.fab.pendq.length) ∧
    (∃ (s : State) (a l : Nat) (n : Nbr), s.blk.findNbr a l = some n ∧ n.state = .probation ∧ n.admAt + 300 * msE ≤ s.blk.now) ∧
    (∃ (s : State) (a l : Nat) (n : Nbr), s.blk.findNbr a l = some n ∧ n.heardAt + 300 * msE ≤ s.blk.now) ∧
    (∃ (s : State) (t : Nat), s.blk.fab.firstAt = some t ∧ s.blk.fab.probing = true ∧ t + 300 * msE ≤ s.blk.now) :=
  ⟨⟨st { wFab with time := { elapsed := 2 ^ 80 } }, by decide, by decide, by decide⟩,
   ⟨st wFab, { port := 0 }, {}, _, _, rfl, by decide, by decide, rfl⟩,
   ⟨st { net := wNet 1 }, {}, {}, _, rfl, by decide⟩,
   ⟨st { wFab with fab := { wFab.fab with pendq := [{}] } }, 1, by decide⟩,
   ⟨st { time := { elapsed := 2 ^ 80 }, fab := { nbrs := [{ addr := 9 }] } }, 9, 0, { addr := 9 }, by decide, by decide, by decide⟩,
   ⟨st { time := { elapsed := 2 ^ 80 }, fab := { nbrs := [{ addr := 9 }] } }, 9, 0, { addr := 9 }, by decide, by decide⟩,
   ⟨st { time := { elapsed := 2 ^ 80 }, fab := { firstAt := some 7 } }, 7, by decide, by decide, by decide⟩⟩

theorem test_witness_FabricFramesComplete :
    (∃ (s : State) (h : RxHdr) (f : FabHdr) (y : FabBody) (b : Block) (i : Instr), (i = .fabricUnicastFrame h f y ∨ i =
      .fabricBroadcastFrame h f y) ∧ s.blk.fabIn h f y = (false, b)) ∧
    (∃ (s : State) (h : RxHdr) (f : FabHdr) (y : FabBody) (b : Block), s.blk.fabIn h f y = (true, b) ∧ f.bcast = false ∧ f.mcast =
      false ∧ f.dst = b.fabAddr) ∧
    (∃ (s : State) (h : RxHdr) (f : FabHdr) (y : FabBody) (b c : Block) (l n : Nat), s.blk.fabIn h f y = (true, b) ∧ f.bcast =
      false ∧ f.mcast = false ∧ f.dst ≠ b.fabAddr ∧ b.fab.probing = false ∧ 2 ≤ f.hops ∧ b.egress (b.logical h.port) f.dst =
      (some (l, n), c)) ∧
    (∃ (s : State) (h : RxHdr) (f : FabHdr) (y : FabBody) (b : Block), s.blk.fabIn h f y = (true, b) ∧ f.bcast = false ∧ f.mcast =
      false ∧ f.dst ≠ b.fabAddr ∧ b.fab.probing = false ∧ f.hops ≤ 1) ∧
    (∃ (s : State) (h : RxHdr) (f : FabHdr) (y : FabBody) (b : Block), s.blk.fabIn h f y = (true, b) ∧ f.bcast = true ∧
      b.bdupHas f.src f.svc f.seq = true) ∧
    (∃ (s : State) (h : RxHdr) (f : FabHdr) (y : FabBody) (b c : Block), s.blk.fabIn h f y = (true, b) ∧ f.bcast = true ∧
      b.bdupHas f.src f.svc f.seq = false ∧ (b.bdupPut f.src f.svc f.seq).inZone f = true ∧ c =
      (b.bdupPut f.src f.svc f.seq).consume h f y ∧ c.inZone f = true ∧ c.fab.probing = false ∧ 2 ≤ f.hops) ∧
    (∃ (s : State) (m : FabMsg) (f : GooseRx) (b : Block), s.blk.take 1 (fun _ => true) = some (m, b) ∧ m.body = .signal f) ∧
    (∃ (s : State) (x : Arrival) (r : List Arrival), s.blk.acc.toFab = x :: r ∧ (32 ≤ x.group ∨ (tget twD s.blk.fab.tw x.group).en =
      false)) ∧
    (∃ (s : State) (x : Arrival) (r : List Arrival) (c : TwCfg) (b : Block), s.blk.acc.toFab = x :: r ∧ x.group < 32 ∧
      tget twD s.blk.fab.tw x.group = c ∧ c.en = true ∧ b =
      Block.fabSend 2 c.remote false false false false (.bytes (leBytes 1 c.rgroup ++ zeros 3 ++ x.bytes)) { s.blk with acc := { s.blk.acc with toFab := r } }) ∧
    (∃ (s : State) (m : FabMsg) (b : Block) (g : Nat) (c : TwCfg), s.blk.take 2 (fun _ => true) = some (m, b) ∧ m.bytes.length =
      36 ∧ fld m.bytes 0 1 = g ∧ g < 32 ∧ tget twD b.fab.tw g = c ∧ c.en = true ∧ c.remote = m.src ∧ c.rgroup = fld m.bytes 16 1) ∧
    (∃ (s : State) (m : FabMsg) (b : Block) (w : Nat), s.blk.take 3 (fun m => m.bytes.length == 8) = some (m, b) ∧ fld m.bytes 0 8 =
      w ∧ dist64 b.ns64 w < 0 ∧ b.snap.arm = none) ∧
    (∃ (s : State) (m : FabMsg) (b : Block) (i : Nat) (c : WhiskCall), s.blk.take 3 (fun m => m.bytes.length == 12) = some (m, b) ∧
      (b.fab.whisks.findIdx? fun c => c.w == fld m.bytes 0 8 && decide (b.now < c.dueAt)) = some i ∧ b.fab.whisks[i]? = some c ∧
      fld m.bytes 8 2 = stOK) :=
  ⟨⟨st {}, {}, {}, .bytes [], _, .fabricUnicastFrame {} {} (.bytes []), by decide, rfl⟩,
   ⟨st wFab, {}, { dst := 5, src := 9, svc := 4 }, .bytes [], _, rfl, by decide, by decide, by decide⟩,
   ⟨st { wFab with fab := { wFab.fab with node := [(7, { valid := true, port := 2, next := 7 })] } }, {}, { dst := 7, src := 9, svc := 4, hops := 2 }, .bytes [], _, _, 2, 7, rfl, by decide, by decide, by decide, by decide, by decide, rfl⟩,
   ⟨st wFab, {}, { src := 9, svc := 4, dst := 7, hops := 1 }, .bytes [], _, rfl, by decide, by decide, by decide, by decide, by decide⟩,
   ⟨st { wFab with fab := { wFab.fab with bdup := [(9, 4, 0, 0)] } }, {}, { src := 9, svc := 4, bcast := true }, .bytes [], _, rfl, by decide, by decide⟩,
   ⟨st wFab, {}, { src := 9, svc := 4, bcast := true, hops := 5 }, .bytes [], _, _, rfl, by decide, by decide, by decide, rfl, by decide, by decide, by decide⟩,
   ⟨st { fab := { inbox := [{ svc := 1, body := .signal {} }] } }, { svc := 1, body := .signal {} }, {}, _, rfl, by decide⟩,
   ⟨st { acc := { toFab := [{}] } }, {}, [], by decide, by decide⟩,
   ⟨st { acc := { toFab := [{}] }, fab := { tw := [(0, { en := true })] } }, {}, [], { en := true }, _, by decide, by decide, by decide, by decide, rfl⟩,
   ⟨st { fab := { inbox := [wMsg 2 false (zeros 36)], tw := [(0, { en := true, remote := 9 })] } }, wMsg 2 false (zeros 36), _, 0, { en := true, remote := 9 }, rfl, by decide, by decide, by decide, by decide, by decide, by decide, by decide⟩,
   ⟨st { fab := { inbox := [wMsg 3 false (leBytes 8 500)] } }, wMsg 3 false (leBytes 8 500), _, 500, rfl, by decide, by decide, by decide⟩,
   ⟨st { fab := { inbox := [wMsg 3 false (leBytes 8 500 ++ zeros 4)], whisks := [{ w := 500, dueAt := 5 }] } }, wMsg 3 false (leBytes 8 500 ++ zeros 4), _, 0, { w := 500, dueAt := 5 }, rfl, by decide, by decide, by decide⟩⟩

theorem test_witness_ChainAndSessionMessagesComplete :
    (∃ (s : State) (m : FabMsg) (b c : Block) (st : Nat),
      s.blk.take 4 (fun m => !m.seg && fld m.bytes 0 1 == 0 && m.bytes.length == 516) = some (m, b) ∧
      b.begin true (m.bytes.drop 4) = (st, c)) ∧
    ((Config.blockTag 0 [] 0 (zeros recSize) = true) → ∃ (s : State) (m : FabMsg) (b c : Block) (ok : Bool),
      s.blk.take 4 (fun m => m.seg) = some (m, b) ∧ m.bytes.length = recSize ∧ b.flashBusy = false ∧
      (b.nv.stg.asmCnt.filter fun x => !x.2.isEmpty).length < 64 ∧ b.nv.stg.state = .staging ∧ b.nv.stg.held = false ∧
      b.nv.nextIn < b.nv.stg.hdr.nblocks ∧ b.takeRecord b.nv.nextIn m.bytes (some m.src) = (ok, c)) ∧
    (∃ (s : State) (m : FabMsg) (b : Block) (n : Nat),
      s.blk.take 4 (fun m => !m.seg && fld m.bytes 0 1 == 1 && m.bytes.length == 8) = some (m, b) ∧ b.chainOn = true ∧ m.src =
      b.nv.chain.succ ∧ fld m.bytes 1 2 = stOK ∧ fld m.bytes 4 4 = n) ∧
    (∃ (s : State), s.blk.chainOn = true ∧ s.blk.nv.chain.started = true ∧ s.blk.nv.chain.succNext < s.blk.nv.stg.next ∧
      s.blk.nv.chain.sentAt + 50 * msE ≤ s.blk.now) ∧
    (∃ (s : State), s.blk.chainOn = true ∧ s.blk.nv.chain.started = false ∧ s.blk.nv.chain.sentAt + 50 * msE ≤ s.blk.now) ∧
    (∃ (s : State) (m : FabMsg) (b : Block) (a c lv : Nat), s.blk.takeOp 0 = some (m, b) ∧ b.accessOf m.src = some a ∧
      (((List.range 128).map (· + 128)).find? fun c => (tget sessD b.fab.sess c).isNone) = some c ∧ b.sys.mbxFab = true ∧ lv =
      min a (fld m.bytes 1 1)) ∧
    (∃ (s : State) (m : FabMsg) (b : Block), s.blk.takeOp 0 = some (m, b) ∧ b.accessOf m.src = none) ∧
    (∃ (s : State) (m : FabMsg) (b b2 : Block) (c0 : Call) (mine : Call → Bool), s.blk.takeOp 1 = some (m, b) ∧
      (b.fab.calls.find? fun c => c.target == m.src && !c.sent) = some c0 ∧ (mine =
      fun c => c.target == m.src && c.level == c0.level && !c.sent) ∧ fld m.bytes 4 2 = stOK ∧ b2 =
      { b with fab := { b.fab with outs := b.fab.outs ++ [{ target := m.src, level := c0.level, client := fld m.bytes 2 1 }], calls := b.fab.calls.map fun c => if mine c then { c with sent := true } else c } }) ∧
    (∃ (s : State) (m : FabMsg) (b : Block) (c : Nat) (x : Sess), s.blk.takeOp 2 = some (m, b) ∧ fld m.bytes 2 1 = c ∧
      tget sessD b.fab.sess c = some x ∧ x.peer = m.src ∧ 20 ≤ m.bytes.length ∧ x.queue.length + b.outstanding c < 8) ∧
    (∃ (s : State) (m : FabMsg) (b : Block) (c : Call) (mine : Call → Bool), s.blk.takeOp 3 = some (m, b) ∧ (mine =
      fun c => c.sent && c.target == m.src && fld c.inner 4 4 == fld (m.bytes.drop 4) 4 4 && decide (b.now < c.dueAt)) ∧
      b.fab.calls.find? mine = some c ∧ (m.bytes.drop 4).length ≤ 4096) ∧
    (∃ (s : State) (m : FabMsg) (b : Block) (c : Nat) (x : Sess), s.blk.takeOp 4 = some (m, b) ∧ fld m.bytes 2 1 = c ∧
      tget sessD b.fab.sess c = some x ∧ x.peer = m.src) ∧
    (∃ (s : State) (c : Nat) (x : Sess), tget sessD s.blk.fab.sess c = some x ∧ x.queue = [] ∧ s.blk.outstanding c = 0 ∧
      x.reqAt + 10 * secE ≤ s.blk.now) :=
  ⟨⟨st { fab := { inbox := [wMsg 4 false (zeros 516)] } }, wMsg 4 false (zeros 516), {}, {}, stBADARG, by decide +kernel, by decide +kernel⟩,
   fun p0 => ⟨st (wInbox wStg (wMsg 4 true (zeros recSize))), wMsg 4 true (zeros recSize), wStg, ((wStg).takeRecord 0 (zeros recSize) (some 9)).2, true, rfl, by decide +kernel, by decide, by decide, by decide, by decide, by decide, wit_record p0⟩,
   ⟨st { fab := { inbox := [wMsg 4 false (leBytes 4 1 ++ leBytes 4 3)] }, nv := { stg := { state := .staging }, chain := { en := true, succ := 9, started := true } } }, wMsg 4 false (leBytes 4 1 ++ leBytes 4 3), _, 3, rfl, by decide, by decide, by decide, by decide⟩,
   ⟨st { time := { elapsed := 2 ^ 80 }, nv := { stg := { state := .staging, stored := [0], hdr := { nblocks := 2 } }, chain := { en := true, started := true } } }, by decide, by decide, by decide, by decide⟩,
   ⟨st { time := { elapsed := 2 ^ 80 }, nv := { stg := { state := .staging }, chain := { en := true } } }, by decide, by decide, by decide⟩,
   ⟨st { fab := { inbox := [wMsg 5 false [0, 0]], access := [{ addr := 9, mask := 0xFFFF, auth := 2 }] }, sys := { mbxFab := true } }, wMsg 5 false [0, 0], _, 2, 128, _, rfl, by decide, by decide, by decide, rfl⟩,
   ⟨st { fab := { inbox := [wMsg 5 false [0, 0, 0]] } }, wMsg 5 false [0, 0, 0], _, rfl, by decide⟩,
   ⟨st { fab := { inbox := [wMsg 5 false [1, 0, 0]], calls := [{ target := 9 }] } }, wMsg 5 false [1, 0, 0], _, _, _, _, rfl, rfl, rfl, by decide, rfl⟩,
   ⟨st { fab := { inbox := [wMsg 5 false (leBytes 2 2 ++ leBytes 18 128)], sess := [(128, some { peer := 9 })] } }, wMsg 5 false (leBytes 2 2 ++ leBytes 18 128), _, 128, { peer := 9 }, rfl, by decide, by decide, by decide, by decide, by decide⟩,
   ⟨st { fab := { inbox := [wMsg 5 false (leBytes 20 3)], calls := [{ target := 9, sent := true, dueAt := 5 }] } }, wMsg 5 false (leBytes 20 3), _, { target := 9, sent := true, dueAt := 5 }, _, rfl, rfl, rfl, by decide⟩,
   ⟨st { fab := { inbox := [wMsg 5 false (leBytes 2 4 ++ leBytes 2 128)], sess := [(128, some { peer := 9 })] } }, wMsg 5 false (leBytes 2 4 ++ leBytes 2 128), _, 128, { peer := 9 }, rfl, by decide, by decide, by decide⟩,
   ⟨st { time := { elapsed := 2 ^ 80 }, fab := { sess := [(128, some {})] } }, 128, {}, by decide, by decide, by decide, by decide⟩⟩

theorem test_witness_HostLinkCommandsComplete :
    (∃ (s : State) (c : Nat) (v : Word), s.blk.lands.porst = false ∧ c < 128 ∧ (tget clientD s.blk.mbx.clients c).rstBusy = false) ∧
    (∃ (s : State) (c : Nat), s.blk.lands.porst = false ∧ c < 128 ∧ (tget clientD s.blk.mbx.clients c).rstBusy = false) ∧
    (∃ (s : State) (c : Nat), (tget clientD s.blk.mbx.clients c).rstBusy = true) ∧
    (∃ (s : State), s.blk.lands.porst = false ∧ s.blk.sys.hostSel = false) ∧
    (∃ (s : State) (u : Bool) (v w : Nat), s.blk.lands.porst = false ∧ s.blk.sys.hostSel = false) ∧
    (∃ (s : State) (c : Nat) (d : List Nat) (f : Nat), s.blk.sys.mbxRoot = true ∧ s.blk.spUp = true ∧
      s.blk.mbx.ringsFrom ≤ s.blk.now ∧ s.blk.nextClient = some (c, d, f)) ∧
    (∃ (s : State) (c : Nat) (x y : Client) (l : List Rsp), tget clientD s.blk.mbx.clients c = x ∧ x.stall = true ∧ x.rstBusy =
      false ∧ x.unstall x.waiting = (y, l)) ∧
    (∃ (s : State) (v : Nat) (x : Vec), tget vecD s.blk.mbx.vec v = x ∧ x.held = true ∧ x.pend = true) ∧
    (∃ (s : State), s.blk.lands.porst = false) ∧
    (∃ (s : State) (a : BitVec 24) (n : Nat) (cut : Bool) (b : Block) (l : List Byte), s.blk.lands.porst = false ∧
      s.blk.sys.hostSel = true ∧ qspiAddrOk a.toNat = true ∧ s.blk.readWords (bitOf a.toNat 23) (a.toNat % 2 ^ 23) n = (b, l)) ∧
    (∃ (s : State) (a : BitVec 24) (l : List Word) (cut : Bool) (b : Block), s.blk.lands.porst = false ∧ s.blk.sys.hostSel = true ∧
      qspiAddrOk a.toNat = true ∧ s.blk.writeWords (bitOf a.toNat 23) (a.toNat % 2 ^ 23) l = b) ∧
    (∃ (s : State) (a : BitVec 24) (n : Nat) (l : List Word) (cut : Bool) (i : Instr), (i = .qspiRead a n cut ∨ i =
      .qspiWrite a l cut) ∧ s.blk.lands.porst = false ∧ s.blk.sys.hostSel = true ∧ qspiAddrOk a.toNat = false) ∧
    (∃ (s : State), s.blk.lands.porst = false ∧ s.blk.sys.hostSel = true) ∧
    (∃ (s : State) (o : Nat) (v : Word), s.blk.lands.porst = false) :=
  ⟨⟨st { lands := { porst := false }, mbx := { clients := [(0, { rstBusy := false })] } }, 0, 0, by decide, by decide, by decide⟩,
   ⟨st { lands := { porst := false }, mbx := { clients := [(0, { rstBusy := false })] } }, 0, by decide, by decide, by decide⟩,
   ⟨st { mbx := { clients := [(0, { rstBusy := true })] } }, 0, by decide⟩,
   ⟨st { lands := { porst := false }, sys := { hostSel := false } }, by decide, by decide⟩,
   ⟨st { lands := { porst := false }, sys := { hostSel := false } }, false, 0, 0, by decide, by decide⟩,
   ⟨st { sys := { mbxRoot := true }, mbx := { clients := [(0, { reqProd := 16 })] } }, 0, [0], _, by decide, by decide, by decide, rfl⟩,
   ⟨st { mbx := { clients := [(0, { stall := true, rstBusy := false })] } }, 0, _, {}, [], rfl, by decide, by decide, by decide⟩,
   ⟨st { mbx := { vec := [(0, { held := true, pend := true })] } }, 0, { held := true, pend := true }, by decide, by decide, by decide⟩,
   ⟨st { lands := { porst := false } }, by decide⟩,
   ⟨st { lands := { porst := false }, sys := { hostSel := true } }, 4, 1, false, _, _, by decide, by decide, by decide, rfl⟩,
   ⟨st { lands := { porst := false }, sys := { hostSel := true } }, 0, [], false, _, by decide, by decide, by decide, rfl⟩,
   ⟨st { lands := { porst := false }, sys := { hostSel := true } }, 1, 0, [], false, .qspiRead 1 0 false, by decide, by decide, by decide, by decide⟩,
   ⟨st { lands := { porst := false }, sys := { hostSel := true } }, by decide, by decide⟩,
   ⟨st { lands := { porst := false } }, 0, 0, by decide⟩⟩

theorem test_witness_WhiskAndDebugAccessComplete :
    (∃ (s : State) (v : Word) (b : Block), b =
      Block.whisk 0 false { s.blk with snap := { s.blk.snap with pinEn := bitOf v.toNat 2, outEn := bitOf v.toNat 3 } } ∧
      bitOf v.toNat 0 = true ∧ bitOf v.toNat 1 = false) ∧
    (∃ (s : State) (v : Word) (b : Block), b =
      { s.blk with snap := { s.blk.snap with pinEn := bitOf v.toNat 2, outEn := bitOf v.toNat 3 } } ∧ bitOf v.toNat 0 = false ∧
      bitOf v.toNat 1 = true) ∧
    (∃ (s : State) (v : Word), bitOf v.toNat 0 = false ∧ bitOf v.toNat 1 = false) ∧
    (∃ (s : State), s.blk.snap.pinEn = true) ∧
    (∃ (s : State) (a : WArm) (b : Block), s.blk.snap.arm = some a ∧ 0 ≤ dist64 s.blk.ns64 a.at_ ∧ b =
      Block.whisk a.source (decide (1000 ≤ dist64 a.at_ a.armedAt)) { s.blk with snap := { s.blk.snap with arm := none } }) ∧
    (∃ (s : State), s.blk.snap.state = .latching ∧ (s.blk.snap.accHeld = true ∧ s.blk.snap.elmHeld = true ∨
      s.blk.snap.hdr.elapsed + 40000 ≤ s.blk.nowNs)) ∧
    (∃ (s : State) (t : Nat), s.blk.snap.outTo = some t ∧ t ≤ s.blk.now) ∧
    (∃ (s : State) (a w : Word) (b : Block) (v : Nat), s.blk.snap.level ≠ 0 ∧ s.blk.tongs a.toNat = some (b, v)) ∧
    (∃ (s : State) (a w : Word), s.blk.snap.level ≠ 0 ∧ s.blk.tongs a.toNat = none) ∧
    (∃ (s : State) (a w : Word), s.blk.snap.level ≠ 0) ∧
    (∃ (s : State) (a w : Word) (x : Bool), s.blk.snap.level = 0) :=
  ⟨⟨st {}, 1, _, rfl, by decide, by decide⟩,
   ⟨st {}, 2, _, rfl, by decide, by decide⟩,
   ⟨st {}, 0, by decide, by decide⟩,
   ⟨st { snap := { pinEn := true } }, by decide⟩,
   ⟨st { snap := { arm := some {} } }, _, _, rfl, by decide, rfl⟩,
   ⟨st { time := { elapsed := 2 ^ 80 }, snap := { state := .latching } }, by decide, by decide⟩,
   ⟨st { time := { elapsed := 2 ^ 80 }, snap := { outTo := some 7 } }, 7, by decide, by decide⟩,
   ⟨st {}, 0x01000000, 0, _, _, by decide, rfl⟩,
   ⟨st {}, 0, 0, by decide, by decide⟩,
   ⟨st {}, 0, 0, by decide⟩,
   ⟨st { snap := { level := 0 } }, 0, 0, false, by decide⟩⟩

theorem test_witness_SysCommandsComplete :
    (∃ (s : State) (r : Req), Called 0x0101 r s.blk) ∧
    (∃ (s : State) (r : Req), Called 0x0102 r s.blk ∧ (fld r.payload 1 1 = 0 ∨ fld r.payload 1 1 = 2) ∧ 1 ≤ fld r.payload 0 1 ∧
      fld r.payload 0 1 ≤ 127 ∧ fld r.payload 2 1 ≤ 3 ∧ fld r.payload 3 1 ≤ 1) ∧
    (∃ (s : State) (r : Req), Called 0x0102 r s.blk ∧ (fld r.payload 1 1 ≠ 0 ∧ fld r.payload 1 1 ≠ 2 ∨ fld r.payload 0 1 = 0 ∨
      127 < fld r.payload 0 1 ∨ 3 < fld r.payload 2 1 ∨ 1 < fld r.payload 3 1)) ∧
    (∃ (s : State) (r : Req) (todo run : List Nat) (b : Block), Called 0x0103 r s.blk ∧ fld r.payload 0 2 ≤ 255 ∧
      fld r.payload 2 2 ≤ 1 ∧ todo = (bitList (fld r.payload 0 2) 8).filter (fun k => !(s.blk.slot k).free) ∧ run =
      todo.filter (fun k => (s.blk.slot k).running) ∧ (fld r.payload 2 2 = 1 ∨ ∀ k, k ∈ todo → (s.blk.slot k).armOk.isSome = true) ∧
      b = run.foldl (fun (b : Block) k => b.putSlot k { b.slot k with armCmd := true }) s.blk) ∧
    (∃ (s : State) (r : Req) (k : Nat), Called 0x0103 r s.blk ∧ fld r.payload 0 2 ≤ 255 ∧ fld r.payload 2 2 = 0 ∧
      k ∈ bitList (fld r.payload 0 2) 8 ∧ (s.blk.slot k).free = false ∧ (s.blk.slot k).armOk = none) ∧
    (∃ (s : State) (r : Req), Called 0x0104 r s.blk) ∧
    (∃ (s : State) (r : Req), Called 0x0105 r s.blk ∧ fld r.payload 0 1 = 0 ∧ bstopArgs r.payload = true) ∧
    (∃ (s : State) (r : Req), Called 0x0105 r s.blk ∧ fld r.payload 0 1 = 1 ∧ bstopArgs r.payload = true) ∧
    (∃ (s : State) (r : Req) (g h : List Byte) (n : Nat), Called 0x0105 r s.blk ∧ fld r.payload 0 1 = 2 ∧ r.client < 128 ∧
      bstopArgs r.payload = true ∧ s.blk.bs.staged = true ∧ g = memRead s.blk.bs.stage 0 4096 ∧ fld g 4092 4 = fld r.payload 4 4 ∧
      s.blk.bs.commit = none ∧ s.blk.flashBusy = false ∧ n = (match s.blk.bs.img with | some i => bsGen i + 1 | none => 1) ∧ h =
      leBytes 4 n ++ (g.drop 4).take 4088) ∧
    (∃ (s : State) (r : Req), Called 0x0105 r s.blk ∧ fld r.payload 0 1 = 2 ∧ 128 ≤ r.client) ∧
    (∃ (s : State) (r : Req), Called 0x0105 r s.blk ∧ fld r.payload 0 1 = 3 ∧ bstopArgs r.payload = true) ∧
    (∃ (s : State) (r : Req) (i : Instr), (fld r.payload 0 1 = 0 ∧ i = .sysBstopRead r ∨ fld r.payload 0 1 = 1 ∧ i =
      .sysBstopStage r ∨ fld r.payload 0 1 = 3 ∧ i = .sysBstopState r) ∧ Called 0x0105 r s.blk ∧ bstopArgs r.payload = false) ∧
    (∃ (s : State) (t : Nat) (g : List Byte), s.blk.bs.load = some (t, g) ∧ t ≤ s.blk.time.epoch) ∧
    (∃ (s : State) (r : Req) (w : Bool) (i : Instr), (fld r.payload 0 1 = 0 ∧ w = false ∧ i = .sysLadleRead r ∨ fld r.payload 0 1 =
      1 ∧ w = true ∧ i = .sysLadleWrite r) ∧ Called 0x0106 r s.blk) ∧
    (∃ (s : State) (r : Req) (m : List Byte) (l : Ladle), Called 0x0106 r s.blk ∧ fld r.payload 0 1 = 2 ∧ fld r.payload 1 1 = 0 ∧
      r.payload.length = 24 ∧ s.blk.ladleOf r.client (fld r.payload 12 4) = some l) ∧
    (∃ (s : State) (r : Req) (m : List Byte), Called 0x0106 r s.blk ∧ fld r.payload 0 1 = 2 ∧
      s.blk.ladleOf r.client (fld r.payload 12 4) = none) ∧
    (∃ (s : State) (c q : Nat) (d : List Byte) (l : Ladle), s.blk.ladleOf c q = some l ∧ l.active = true ∧ (l.write = false ∨
      l.host = 0)) ∧
    (∃ (s : State) (c q : Nat) (d : List Byte) (l : Ladle), s.blk.ladleOf c q = some l ∧ l.active = true ∧ l.write = true ∧
      l.host ≠ 0 ∧ d.length = l.length) ∧
    (∃ (s : State) (c q : Nat) (m : List Byte) (l : Ladle), s.blk.ladleOf c q = some l ∧ l.active = true ∧ l.host ≠ 0) ∧
    (∃ (s : State) (r : Req), Called 0x0107 r s.blk) :=
  ⟨⟨call {} (rq 0x0101 []), rq 0x0101 [], ⟨by decide, rfl, rfl⟩⟩,
   ⟨call {} (rq 0x0102 [1]), rq 0x0102 [1], ⟨by decide, rfl, rfl⟩, by decide, by decide, by decide, by decide, by decide⟩,
   ⟨call {} (rq 0x0102 []), rq 0x0102 [], ⟨by decide, rfl, rfl⟩, by decide⟩,
   ⟨call {} (rq 0x0103 []), rq 0x0103 [], _, _, _, ⟨by decide, rfl, rfl⟩, by decide, by decide, rfl, rfl, by decide, rfl⟩,
   ⟨call { lgc := { slots := [(0, { state := .lidded })] } } (rq 0x0103 [1, 0, 0, 0]), rq 0x0103 [1, 0, 0, 0], 0, ⟨by decide, rfl, rfl⟩, by decide, by decide, by decide, by decide, by decide⟩,
   ⟨call {} (rq 0x0104 []), rq 0x0104 [], ⟨by decide, rfl, rfl⟩⟩,
   ⟨call {} (rq 0x0105 [0, 0, 0, 0]), rq 0x0105 [0, 0, 0, 0], ⟨by decide, rfl, rfl⟩, by decide, by decide⟩,
   ⟨call {} (rq 0x0105 [1, 0, 0, 0]), rq 0x0105 [1, 0, 0, 0], ⟨by decide, rfl, rfl⟩, by decide, by decide⟩,
   ⟨call { bs := { staged := true } } (rq 0x0105 [2, 0, 0, 0, 0, 0, 0, 0]), rq 0x0105 [2, 0, 0, 0, 0, 0, 0, 0], memRead [] 0 4096, leBytes 4 1 ++ ((memRead [] 0 4096).drop 4).take 4088, 1, ⟨by decide +kernel, rfl, rfl⟩, by decide +kernel, by decide +kernel, by decide +kernel, by decide +kernel, rfl, by decide +kernel, by decide +kernel, by decide +kernel, rfl, rfl⟩,
   ⟨call {} { cmd := 0x0105, client := 200, payload := [2] }, { cmd := 0x0105, client := 200, payload := [2] }, ⟨by decide, rfl, rfl⟩, by decide, by decide⟩,
   ⟨call {} (rq 0x0105 [3, 0, 0, 0]), rq 0x0105 [3, 0, 0, 0], ⟨by decide, rfl, rfl⟩, by decide, by decide⟩,
   ⟨call {} (rq 0x0105 []), rq 0x0105 [], .sysBstopRead (rq 0x0105 []), Or.inl ⟨by decide, rfl⟩, ⟨by decide, rfl, rfl⟩, by decide⟩,
   ⟨st { bs := { load := some (0, ([])) } }, 0, [], by decide, by decide⟩,
   ⟨call {} (rq 0x0106 []), rq 0x0106 [], false, .sysLadleRead (rq 0x0106 []), Or.inl ⟨by decide, rfl, rfl⟩, ⟨by decide, rfl, rfl⟩⟩,
   ⟨st { mbx := { accepted := [{ req := rq 0x0106 ([2] ++ zeros 11 ++ [3] ++ zeros 11) }], ladles := [{ seq := 3 }] } }, rq 0x0106 ([2] ++ zeros 11 ++ [3] ++ zeros 11), [], { seq := 3 }, ⟨by decide, rfl, rfl⟩, by decide, by decide, by decide, by decide⟩,
   ⟨call {} (rq 0x0106 [2]), rq 0x0106 [2], [], ⟨by decide, rfl, rfl⟩, by decide, by decide⟩,
   ⟨st { mbx := { ladles := [{ seq := 3, active := true }] } }, 0, 3, [], { seq := 3, active := true }, by decide, by decide, by decide⟩,
   ⟨st { mbx := { ladles := [{ seq := 3, active := true, write := true, host := 64, length := 1 }] } }, 0, 3, [7], { seq := 3, active := true, write := true, host := 64, length := 1 }, by decide, by decide, by decide, by decide, by decide⟩,
   ⟨st { mbx := { ladles := [{ seq := 3, active := true, host := 64 }] } }, 0, 3, [], { seq := 3, active := true, host := 64 }, by decide, by decide, by decide⟩,
   ⟨call {} (rq 0x0107 []), rq 0x0107 [], ⟨by decide, rfl, rfl⟩⟩⟩

theorem test_witness_CnvCommandsComplete :
    (∃ (s : State) (r : Req) (f n : Nat), Called 0x0201 r s.blk ∧ r.rd = true ∧ fld r.payload 0 1 = f ∧ fld r.payload 1 1 = n) ∧
    (∃ (s : State) (r : Req), Called 0x0201 r s.blk ∧ r.rd = false) ∧
    (∃ (s : State) (r : Req), Called 0x0202 r s.blk ∧ r.rd = true) ∧
    (∃ (s : State) (r : Req) (p : Nat) (ss : List (Nat × List Nat)), Called 0x0202 r s.blk ∧ r.rd = false ∧ fld r.payload 0 2 = p ∧
      fld r.payload 2 2 = 0 ∧ fld r.payload 4 4 < 2 ^ 20 ∧ 16 ≤ p ∧ p ≤ 368 ∧ seqsOf r.payload = ss ∧ r.payload.length =
      8 + 64 * ss.length ∧ (p = s.blk.cnv.pAcc ∨ ss.length = 20) ∧ (∀ x, x ∈ ss → s.blk.seqOk p x.1 x.2 = true)) ∧
    (∃ (s : State) (b : Block), b =
      (s.blk.cnv.seqPend.filter fun x => decide (x.1 ≤ s.blk.time.epoch)).foldl (fun b x => b.seqApply x.2.1 x.2.2) { s.blk with cnv := { s.blk.cnv with seqPend := s.blk.cnv.seqPend.filter fun x => decide (s.blk.time.epoch < x.1) } }) ∧
    (∃ (s : State) (r : Req) (k : Nat) (p : Path) (c : Conv), Called 0x0203 r s.blk ∧ fld r.payload 0 1 ≤ 63 ∧
      bits (fld r.payload 0 1) 4 0 = k ∧ k < 20 ∧ p = (if bitOf (fld r.payload 0 1) 5 then .b else .a) ∧ fld r.payload 1 1 ≤ 1 ∧
      fld r.payload 2 2 = 0 ∧ urgentOk (fld r.payload 4 4) = true ∧ tget convD s.blk.cnv.convs (cix p k) = c) ∧
    (∃ (s : State) (r : Req), Called 0x0204 r s.blk ∧ r.rd = true) ∧
    (∃ (s : State) (r : Req), Called 0x0204 r s.blk ∧ r.rd = false) ∧
    (∃ (s : State) (r : Req), Called 0x0205 r s.blk ∧ r.rd = true) ∧
    (∃ (s : State) (r : Req) (rs : List (Nat × List Byte)), Called 0x0205 r s.blk ∧ r.rd = false ∧
      maskRecs 4 16 20 (fld r.payload 0 4) r.payload = rs) ∧
    (∃ (s : State) (r : Req), Called 0x0206 r s.blk ∧ fld r.payload 0 1 = 0) ∧
    (∃ (s : State) (r : Req) (k : Nat), Called 0x0206 r s.blk ∧ fld r.payload 0 1 = 1 ∧ fld r.payload 1 1 = k ∧ k < 20 ∧
      fld r.payload 2 2 = 0) ∧
    (∃ (s : State) (r : Req) (k : Nat) (p : Path), Called 0x0206 r s.blk ∧ fld r.payload 0 1 = 2 ∧ fld r.payload 1 1 = k ∧ k < 20 ∧
      (fld r.payload 2 1 = 0 ∧ p = .a ∧ ((s.blk.twin k).removedA = true ∨ (s.blk.twin k).bufA ≠ []) ∨ fld r.payload 2 1 = 1 ∧ p =
      .b ∧ ((s.blk.twin k).removedB = true ∨ (s.blk.twin k).bufB ≠ [])) ∧ fld r.payload 3 1 = 0) :=
  ⟨⟨call {} (rqRd 0x0201 []), rqRd 0x0201 [], 0, 0, ⟨by decide, rfl, rfl⟩, by decide, by decide, by decide⟩,
   ⟨call {} (rq 0x0201 []), rq 0x0201 [], ⟨by decide, rfl, rfl⟩, by decide⟩,
   ⟨call { cnv := { pAcc := 40 } } (rqRd 0x0202 (leBytes 2 40 ++ zeros 6)), rqRd 0x0202 (leBytes 2 40 ++ zeros 6), ⟨by decide, rfl, rfl⟩, by decide⟩,
   ⟨call {} (rq 0x0202 [40, 0, 0, 0, 0, 0, 0, 0]), rq 0x0202 [40, 0, 0, 0, 0, 0, 0, 0], 40, _, ⟨by decide, rfl, rfl⟩, by decide, by decide, by decide, by decide, by decide, by decide, rfl, by decide, by decide, by decide⟩,
   ⟨st {}, _, rfl⟩,
   ⟨call {} (rq 0x0203 [0, 0, 0, 0, 15, 3]), rq 0x0203 [0, 0, 0, 0, 15, 3], 0, _, {}, ⟨by decide, rfl, rfl⟩, by decide, by decide, by decide, rfl, by decide, by decide, by decide, by decide⟩,
   ⟨call {} (rqRd 0x0204 []), rqRd 0x0204 [], ⟨by decide, rfl, rfl⟩, by decide⟩,
   ⟨call {} (rq 0x0204 []), rq 0x0204 [], ⟨by decide, rfl, rfl⟩, by decide⟩,
   ⟨call {} (rqRd 0x0205 []), rqRd 0x0205 [], ⟨by decide, rfl, rfl⟩, by decide⟩,
   ⟨call {} (rq 0x0205 []), rq 0x0205 [], _, ⟨by decide, rfl, rfl⟩, by decide, rfl⟩,
   ⟨call {} (rq 0x0206 []), rq 0x0206 [], ⟨by decide, rfl, rfl⟩, by decide⟩,
   ⟨call {} (rq 0x0206 [1]), rq 0x0206 [1], 0, ⟨by decide, rfl, rfl⟩, by decide, by decide, by decide, by decide⟩,
   ⟨call { cnv := { twins := [(0, { removedA := true })] } } (rq 0x0206 [2]), rq 0x0206 [2], 0, .a, ⟨by decide, rfl, rfl⟩, by decide, by decide, by decide, by decide, by decide⟩⟩

theorem test_witness_AccCommandsComplete :
    (∃ (s : State) (r : Req) (ins hs : List Nat) (m : Nat), Called 0x0301 r s.blk ∧ maskAt r.payload 0 20 = ins ∧
      fld r.payload 20 2 = m ∧ ((List.range 16).filter fun h => bitOf m h) = hs) ∧
    (∃ (s : State) (r : Req) (ins : List Nat) (f : Nat), Called 0x0302 r s.blk ∧ maskAt r.payload 0 20 = ins ∧ fld r.payload 20 1 =
      f) ∧
    (∃ (s : State) (r : Req), Called 0x0303 r s.blk) ∧
    (∃ (s : State) (r : Req), Called 0x0304 r s.blk) ∧
    (∃ (s : State) (r : Req), Called 0x0305 r s.blk ∧ r.rd = true) ∧
    (∃ (s : State) (r : Req) (rs : List (Nat × List Byte)), Called 0x0305 r s.blk ∧ r.rd = false ∧
      maskRecs 52 8 160 (fld r.payload 32 20) r.payload = rs ∧ (∀ f, f < 32 → fld r.payload f 1 ≤ 7 ∨ fld r.payload f 1 = 0xFF) ∧
      r.payload.length = 52 + 8 * rs.length ∧ (∀ x, x ∈ rs → 1 ≤ fld x.2 2 1 ∧ fld x.2 2 1 ≤ 16 ∧ fld x.2 3 1 = 0 ∧ fld x.2 6 2 =
      0)) ∧
    (∃ (s : State) (r : Req) (f : Nat), Called 0x0305 r s.blk ∧ r.rd = false ∧ f < 32 ∧ 7 < fld r.payload f 1 ∧
      fld r.payload f 1 ≠ 0xFF) ∧
    (∃ (s : State) (r : Req) (n : Nat), Called 0x0306 r s.blk ∧ fld r.payload 0 1 = n) :=
  ⟨⟨call {} (rq 0x0301 []), rq 0x0301 [], _, _, 0, ⟨by decide, rfl, rfl⟩, rfl, by decide, rfl⟩,
   ⟨call {} (rq 0x0302 []), rq 0x0302 [], _, 0, ⟨by decide, rfl, rfl⟩, rfl, by decide⟩,
   ⟨call {} (rq 0x0303 []), rq 0x0303 [], ⟨by decide, rfl, rfl⟩⟩,
   ⟨call {} (rq 0x0304 []), rq 0x0304 [], ⟨by decide, rfl, rfl⟩⟩,
   ⟨call {} (rqRd 0x0305 ([50, 0, 0xF4, 1] ++ List.replicate 40 0xFF ++ zeros 160)), rqRd 0x0305 ([50, 0, 0xF4, 1] ++ List.replicate 40 0xFF ++ zeros 160), ⟨by decide +kernel, rfl, rfl⟩, by decide +kernel⟩,
   ⟨call {} (rq 0x0305 (zeros 52)), rq 0x0305 (zeros 52), _, ⟨by decide, rfl, rfl⟩, by decide, rfl, by decide, by decide, by decide⟩,
   ⟨call {} (rq 0x0305 [8]), rq 0x0305 [8], 0, ⟨by decide, rfl, rfl⟩, by decide, by decide, by decide, by decide⟩,
   ⟨call {} (rq 0x0306 []), rq 0x0306 [], 0, ⟨by decide, rfl, rfl⟩, by decide⟩⟩

theorem test_witness_ElementCommandsComplete :
    (∃ (s : State) (r : Req) (f n : Nat), Called 0x0401 r s.blk ∧ fld r.payload 0 1 = 0 ∧ fld r.payload 1 1 = 0 ∧
      fld r.payload 2 2 = f ∧ fld r.payload 4 2 = n ∧ fld r.payload 6 2 = 0 ∧ 1 ≤ n ∧ n ≤ 63 ∧ f + n ≤ 4096 ∧ r.payload.length =
      8 + 64 * n) ∧
    (∃ (s : State) (r : Req), Called 0x0401 r s.blk ∧ fld r.payload 0 1 = 1 ∧ fld r.payload 1 1 = 0 ∧ fld r.payload 2 2 ≤ 4095 ∧
      fld r.payload 4 2 = 0 ∧ fld r.payload 6 2 = 0 ∧ r.payload.length = 8) ∧
    (∃ (s : State) (r : Req) (u f n : Nat) (t : TableBuf), Called 0x0401 r s.blk ∧ fld r.payload 0 1 = 2 ∧ fld r.payload 1 1 = u ∧
      u ≤ 1 ∧ t = (if u = 0 then s.blk.elm.active else s.blk.elm.inactive) ∧ fld r.payload 2 2 = f ∧ fld r.payload 4 2 = n ∧
      fld r.payload 6 2 = 0 ∧ 1 ≤ n ∧ n ≤ 63 ∧ f + n ≤ 4096 ∧ r.payload.length = 8) ∧
    (∃ (s : State) (r : Req) (i : Instr), (fld r.payload 0 1 = 0 ∧ i = .elemTableWrite r ∨ fld r.payload 0 1 = 2 ∧ i =
      .elemTableRead r) ∧ Called 0x0401 r s.blk ∧ (fld r.payload 4 2 = 0 ∨ 63 < fld r.payload 4 2 ∨
      4096 < fld r.payload 2 2 + fld r.payload 4 2)) ∧
    (∃ (s : State) (r : Req) (i u : Nat), Called 0x0402 r s.blk ∧ r.payload.length = 264 ∧ fld r.payload 0 1 = i ∧ i ≤ 7 ∧
      fld r.payload 1 1 = 2 ∧ fld r.payload 2 1 = u ∧ u ≤ 1 ∧ allZero (r.payload.drop 3) = true) ∧
    (∃ (s : State) (r : Req) (i : Nat) (c : Curve), Called 0x0402 r s.blk ∧ r.payload.length = 264 ∧ fld r.payload 0 1 = i ∧ i ≤ 7 ∧
      fld r.payload 1 1 = 0 ∧ fld r.payload 2 1 = 0 ∧ curveIn r.payload = c ∧ 2 ≤ c.npts ∧ c.npts ≤ 32 ∧ realNonneg c.tr = true ∧
      ptsOk c.pts = true ∧ allZero (r.payload.drop (8 + 8 * c.npts)) = true) ∧
    (∃ (s : State) (r : Req), Called 0x0403 r s.blk) ∧
    (∃ (s : State) (t : Nat) (k : Bool), s.blk.elm.swap = some (t, k) ∧ t ≤ s.blk.time.epoch) ∧
    (∃ (s : State) (r : Req) (f n : Nat), Called 0x0404 r s.blk ∧ fld r.payload 0 2 = f ∧ fld r.payload 2 2 = n) ∧
    (∃ (s : State) (r : Req) (f n : Nat), Called 0x0405 r s.blk ∧ fld r.payload 0 2 = f ∧ fld r.payload 2 2 = n) ∧
    (∃ (s : State) (t f n : Nat), s.blk.elm.resets = [(t, f, n)] ∧ t ≤ s.blk.time.epoch) :=
  ⟨⟨call {} (rq 0x0401 ([0, 0, 0, 0, 1] ++ zeros 67)), rq 0x0401 ([0, 0, 0, 0, 1] ++ zeros 67), 0, 1, ⟨by decide, rfl, rfl⟩, by decide, by decide, by decide, by decide, by decide, by decide, by decide, by decide, by decide⟩,
   ⟨call {} (rq 0x0401 (1 :: zeros 7)), rq 0x0401 (1 :: zeros 7), ⟨by decide, rfl, rfl⟩, by decide, by decide, by decide, by decide, by decide, by decide⟩,
   ⟨call {} (rq 0x0401 [2, 0, 0, 0, 1, 0, 0, 0]), rq 0x0401 [2, 0, 0, 0, 1, 0, 0, 0], 0, 0, 1, _, ⟨by decide, rfl, rfl⟩, by decide, by decide, by decide, rfl, by decide, by decide, by decide, by decide, by decide, by decide, by decide⟩,
   ⟨call {} (rq 0x0401 []), rq 0x0401 [], .elemTableWrite (rq 0x0401 []), Or.inl ⟨by decide, rfl⟩, ⟨by decide, rfl, rfl⟩, by decide⟩,
   ⟨call {} (rq 0x0402 ([0, 2] ++ zeros 262)), rq 0x0402 ([0, 2] ++ zeros 262), 0, 0, ⟨by decide +kernel, rfl, rfl⟩, by decide +kernel, by decide +kernel, by decide +kernel, by decide +kernel, by decide +kernel, by decide +kernel, by decide +kernel⟩,
   ⟨call {} (rq 0x0402 ([0, 0, 0, 2] ++ zeros 4 ++ leBytes 4 0x40000000 ++ leBytes 4 0x3F800000 ++ leBytes 4 0x40400000 ++ leBytes 4 0x3F800000 ++ zeros 240)), rq 0x0402 ([0, 0, 0, 2] ++ zeros 4 ++ leBytes 4 0x40000000 ++ leBytes 4 0x3F800000 ++ leBytes 4 0x40400000 ++ leBytes 4 0x3F800000 ++ zeros 240), 0, _, ⟨by decide +kernel, rfl, rfl⟩, by decide +kernel, by decide +kernel, by decide +kernel, by decide +kernel, by decide +kernel, rfl, by decide +kernel, by decide +kernel, by decide +kernel, by decide +kernel, by decide +kernel⟩,
   ⟨call {} (rq 0x0403 []), rq 0x0403 [], ⟨by decide, rfl, rfl⟩⟩,
   ⟨st { elm := { swap := some (0, false) } }, 0, false, by decide, by decide⟩,
   ⟨call {} (rq 0x0404 []), rq 0x0404 [], 0, 0, ⟨by decide, rfl, rfl⟩, by decide, by decide⟩,
   ⟨call {} (rq 0x0405 []), rq 0x0405 [], 0, 0, ⟨by decide, rfl, rfl⟩, by decide, by decide⟩,
   ⟨st { elm := { resets := [(0, 0, 0)] } }, 0, 0, 0, by decide, by decide⟩⟩

theorem test_witness_CycAndImgCommandsComplete :
    ((Config.fjImage [] = some wGood) → ∃ (s : State) (r : Req) (n : Nat) (p : List Byte) (i : FjImg), Called 0x0501 r s.blk ∧
      fld r.payload 0 1 ≤ 7 ∧ fld r.payload 1 1 = 0 ∧ fld r.payload 2 2 = 0 ∧ fld r.payload 4 4 = n ∧ n ≤ imgMax ∧
      memRead (s.blk.slot (fld r.payload 0 1)).stage 0 n = p ∧ crc32 p = fld r.payload 8 4 ∧ Config.fjImage p = some i ∧
      i.code ≤ codeMax ∧ s.blk.imgReason i = none) ∧
    (∃ (s : State) (r : Req), Called 0x0501 r s.blk ∧ fld r.payload 1 1 = 0 ∧ 7 < fld r.payload 0 1) ∧
    (∃ (s : State) (r : Req), Called 0x0501 r s.blk ∧ fld r.payload 0 1 ≤ 7 ∧ fld r.payload 1 1 = 2 ∧ fld r.payload 2 2 = 0) ∧
    (∃ (s : State) (r : Req) (n : Nat) (x : FjImg × Nat), Called 0x0502 r s.blk ∧ n < 8 ∧ fld r.payload 0 1 = 2 ^ n ∧
      allZero (r.payload.drop 1) = true ∧ (s.blk.slot n).loaded = some x ∧ (∀ k, k < 8 → (s.blk.slot k).acting = none ∧
      (s.blk.slot k).next = none ∧ (s.blk.slot k).img = none) ∧ x.1.timers.length ≤ clsQuota 1 ∧ s.blk.flashBusy = false) ∧
    (∃ (s : State) (r : Req) (n : Nat), Called 0x0502 r s.blk ∧ n ∈ bitList (fld r.payload 0 1) 8 ∧ (s.blk.slot n).loaded = none) ∧
    (∃ (s : State) (n q : Nat) (i o : FjImg), (s.blk.slot n).next = some (q, i) ∧ (s.blk.slot n).img = some o ∧
      (s.blk.slot n).running = true ∧ (s.blk.slot n).cyc = none ∧ (s.blk.slot n).redo = none ∧ q ≤ s.blk.time.epoch ∧
      s.blk.time.epoch % o.n = 0 ∧ s.blk.elm.pubEpoch = s.blk.time.epoch) ∧
    (∃ (s : State) (r : Req) (n : Nat), Called 0x0503 r s.blk ∧ fld r.payload 0 1 = n ∧ n ≤ 7 ∧ fld r.payload 1 1 ≤ 3 ∧
      fld r.payload 2 2 = 0 ∧ fld r.payload 4 1 = 255 ∧ fld r.payload 5 3 = 0 ∧ ((s.blk.slot n).state = .kettle ∨
      (s.blk.slot n).state = .faulted) ∧ ((s.blk.slot n).damaged = false ∨ fld r.payload 1 1 % 2 = 1)) ∧
    (∃ (s : State) (r : Req) (n q : Nat), Called 0x0503 r s.blk ∧ fld r.payload 0 1 = n ∧ n ≤ 7 ∧ fld r.payload 1 1 ≤ 3 ∧
      fld r.payload 2 2 = 0 ∧ fld r.payload 4 1 = q ∧ q ≤ 8 ∧ fld r.payload 5 3 = 0 ∧ ((s.blk.slot n).state = .kettle ∨
      (s.blk.slot n).state = .faulted) ∧ ((s.blk.slot n).damaged = false ∨ fld r.payload 1 1 % 2 = 1)) ∧
    (∃ (s : State) (r : Req) (n k : Nat), Called 0x0503 r s.blk ∧ fld r.payload 0 1 = n ∧ n ≤ 7 ∧ fld r.payload 1 1 ≤ 3 ∧
      fld r.payload 2 2 = k ∧ k ≠ 0 ∧ (fld r.payload 4 1 ≤ 8 ∨ fld r.payload 4 1 = 255) ∧ fld r.payload 5 3 = 0 ∧
      (s.blk.slot n).running = true) ∧
    (∃ (s : State) (r : Req) (n : Nat), Called 0x0504 r s.blk ∧ fld r.payload 0 1 = 0 ∧ fld r.payload 1 1 = n ∧ n ≤ 7 ∧
      fld r.payload 2 2 = 0 ∧ s.blk.nv.stg.req = none) ∧
    (∃ (s : State) (r : Req) (p : Nat), Called 0x0504 r s.blk ∧ fld r.payload 0 1 = 1 ∧ fld r.payload 1 1 = p ∧ p ≤ 8 ∧
      fld r.payload 2 2 = 0 ∧ ((s.blk.pair p).state = .service ∨ (s.blk.pair p).state = .halted)) ∧
    (∃ (s : State) (r : Req) (p : Nat), Called 0x0504 r s.blk ∧ fld r.payload 0 1 = 1 ∧ fld r.payload 1 1 = p ∧ p ≤ 8 ∧
      fld r.payload 2 2 = 0 ∧ (s.blk.pair p).state ≠ .service ∧ (s.blk.pair p).state ≠ .halted) ∧
    (∃ (s : State) (r : Req), Called 0x0505 r s.blk) ∧
    (∃ (s : State) (r : Req) (k n f h : Nat) (y : Slot), Called 0x0601 r s.blk ∧ fld r.payload 0 1 = k ∧ k ≤ 7 ∧ s.blk.slot k = y ∧
      fld r.payload 1 1 = h ∧ h ≤ 1 ∧ fld r.payload 2 2 = f ∧ fld r.payload 4 2 = n ∧ fld r.payload 6 2 = 0 ∧ 1 ≤ n ∧ n ≤ 1021 ∧
      f + n ≤ 16384) ∧
    (∃ (s : State) (r : Req), Called 0x0601 r s.blk ∧ (7 < fld r.payload 0 1 ∨ 1 < fld r.payload 1 1 ∨ fld r.payload 4 2 = 0 ∨
      1021 < fld r.payload 4 2 ∨ 16384 < fld r.payload 2 2 + fld r.payload 4 2 ∨ fld r.payload 6 2 ≠ 0)) ∧
    (∃ (s : State) (r : Req) (f n : Nat), Called 0x0602 r s.blk ∧ fld r.payload 0 1 = f ∧ fld r.payload 1 1 = n ∧
      fld r.payload 2 1 = 0 ∧ fld r.payload 3 1 = 0 ∧ 1 ≤ n ∧ n ≤ 64 ∧ f + n ≤ 256) ∧
    (∃ (s : State) (r : Req) (f n : Nat), Called 0x0602 r s.blk ∧ fld r.payload 0 1 = f ∧ fld r.payload 1 1 = n ∧
      fld r.payload 2 1 = 1 ∧ fld r.payload 3 1 = 0 ∧ 1 ≤ n ∧ n ≤ 64 ∧ f + n ≤ 256) :=
  ⟨fun p0 => ⟨call {} (rq 0x0501 (zeros 12)), rq 0x0501 (zeros 12), 0, [], wGood, ⟨by decide, rfl, rfl⟩, by decide, by decide, by decide, by decide, by decide, by decide, by decide, p0, by decide, by decide⟩,
   ⟨call {} (rq 0x0501 [8]), rq 0x0501 [8], ⟨by decide, rfl, rfl⟩, by decide, by decide⟩,
   ⟨call { lgc := { slots := [(0, { loaded := some ({}, 0) })] } } (rq 0x0501 [0, 2]), rq 0x0501 [0, 2], ⟨by decide, rfl, rfl⟩, by decide, by decide, by decide⟩,
   ⟨call { lgc := { slots := [(0, { loaded := some ({}, 0) })] } } (rq 0x0502 [1]), rq 0x0502 [1], 0, ({}, 0), ⟨by decide, rfl, rfl⟩, by decide, by decide, by decide, by decide, by decide, by decide, by decide⟩,
   ⟨call { lgc := { slots := [(0, { loaded := none })] } } (rq 0x0502 [1]), rq 0x0502 [1], 0, ⟨by decide, rfl, rfl⟩, by decide, by decide⟩,
   ⟨st { lgc := { slots := [(0, { state := .run, img := some {}, next := some (0, {}) })] } }, 0, 0, {}, {}, by decide, by decide, by decide, by decide, by decide, by decide, by decide, by decide⟩,
   ⟨call { lgc := { slots := [(0, { state := .kettle })], pairs := [(1, { slot := some 0, state := .stopped })] } } (rq 0x0503 [0, 0, 0, 0, 255]), rq 0x0503 [0, 0, 0, 0, 255], 0, ⟨by decide, rfl, rfl⟩, by decide, by decide, by decide, by decide, by decide, by decide, by decide, by decide⟩,
   ⟨call { lgc := { slots := [(0, { state := .kettle })] } } (rq 0x0503 []), rq 0x0503 [], 0, 0, ⟨by decide, rfl, rfl⟩, by decide, by decide, by decide, by decide, by decide, by decide, by decide, by decide, by decide⟩,
   ⟨call { lgc := { slots := [(0, { state := .run })] } } (rq 0x0503 [0, 0, 1, 0]), rq 0x0503 [0, 0, 1, 0], 0, 1, ⟨by decide, rfl, rfl⟩, by decide, by decide, by decide, by decide, by decide, by decide, by decide, by decide⟩,
   ⟨call { nv := { stg := { req := none } } } (rq 0x0504 []), rq 0x0504 [], 0, ⟨by decide, rfl, rfl⟩, by decide, by decide, by decide, by decide, by decide⟩,
   ⟨call { lgc := { pairs := [(0, { state := .service })] } } (rq 0x0504 [1]), rq 0x0504 [1], 0, ⟨by decide, rfl, rfl⟩, by decide, by decide, by decide, by decide, by decide⟩,
   ⟨call {} (rq 0x0504 [1]), rq 0x0504 [1], 0, ⟨by decide, rfl, rfl⟩, by decide, by decide, by decide, by decide, by decide, by decide⟩,
   ⟨call {} (rq 0x0505 []), rq 0x0505 [], ⟨by decide, rfl, rfl⟩⟩,
   ⟨call { lgc := { slots := [(0, { state := .run })] } } (rq 0x0601 [0, 0, 0, 0, 1]), rq 0x0601 [0, 0, 0, 0, 1], 0, 1, 0, 0, _, ⟨by decide, rfl, rfl⟩, by decide, by decide, rfl, by decide, by decide, by decide, by decide, by decide, by decide, by decide, by decide⟩,
   ⟨call {} (rq 0x0601 []), rq 0x0601 [], ⟨by decide, rfl, rfl⟩, by decide⟩,
   ⟨call {} (rq 0x0602 [0, 1]), rq 0x0602 [0, 1], 0, 1, ⟨by decide, rfl, rfl⟩, by decide, by decide, by decide, by decide, by decide, by decide, by decide⟩,
   ⟨call {} (rq 0x0602 [0, 1, 1]), rq 0x0602 [0, 1, 1], 0, 1, ⟨by decide, rfl, rfl⟩, by decide, by decide, by decide, by decide, by decide, by decide, by decide⟩⟩

theorem test_witness_IoAndTimeMailboxCommandsComplete :
    (∃ (s : State) (r : Req), Called 0x0701 r s.blk ∧ fld r.payload 0 1 = 2) ∧
    (∃ (s : State) (r : Req), Called 0x0701 r s.blk ∧ fld r.payload 0 1 = 0 ∧ fldCfgOk r.payload = true) ∧
    (∃ (s : State) (r : Req) (j n : Nat), Called 0x0701 r s.blk ∧ fld r.payload 0 1 = 0 ∧ fldCfgOk r.payload = true ∧ j < 32 ∧
      (bitOf (fldCfgOf r.payload).safe j ≠ bitOf s.blk.bar.cfg.safe j ∨ 24 ≤ j ∧
      bitOf (fldCfgOf r.payload).rbIn (j - 24) ≠ bitOf s.blk.bar.cfg.rbIn (j - 24)) ∧ s.blk.ownerOf j = some n ∧
      (s.blk.slot n).free = false) ∧
    (∃ (s : State) (r : Req), Called 0x0701 r s.blk ∧ fld r.payload 0 1 ≠ 2 ∧ (fld r.payload 0 1 ≠ 0 ∨ fldCfgOk r.payload = false)) ∧
    (∃ (s : State) (t : Nat) (c : FldCfg), s.blk.bar.cfgPend = [(t, c)] ∧ t ≤ s.blk.time.epoch) ∧
    (∃ (s : State) (r : Req), Called 0x0702 r s.blk) ∧
    (∃ (s : State) (r : Req) (n : Nat), Called 0x0703 r s.blk ∧ fld r.payload 0 1 = n) ∧
    (∃ (s : State) (r : Req), Called 0x0801 r s.blk ∧ fld r.payload 0 1 = 0) ∧
    (∃ (s : State) (r : Req) (e : Nat) (t : Stamp), Called 0x0801 r s.blk ∧ fld r.payload 0 1 = 1 ∧ fld r.payload 1 3 = 0 ∧
      fld r.payload 4 8 = e ∧ e ≤ s.blk.time.epoch ∧ s.blk.time.epoch ≤ e + 65536 ∧ s.blk.time.tickStamp e = some t) ∧
    (∃ (s : State) (r : Req) (e : Nat), Called 0x0801 r s.blk ∧ fld r.payload 0 1 = 1 ∧ fld r.payload 4 8 = e ∧
      (fld r.payload 1 3 ≠ 0 ∨ s.blk.time.epoch < e ∨ e + 65536 < s.blk.time.epoch)) ∧
    (∃ (s : State) (r : Req), Called 0x0802 r s.blk) ∧
    (∃ (s : State), (s.blk.time.cfgPend.any fun x => decide (x.1 ≤ s.blk.time.epoch)) = true) ∧
    (∃ (s : State) (r : Req) (v : Int), Called 0x0803 r s.blk ∧ fld r.payload 0 1 ≤ 1 ∧ fld r.payload 1 1 ≤ 1 ∧ fld r.payload 2 2 =
      0 ∧ v = (if fld r.payload 0 1 = 0 then fldInt r.payload 4 8 else (fld r.payload 4 8 : Int))) ∧
    (∃ (s : State) (r : Req), Called 0x0804 r s.blk ∧ allZero r.payload = true) :=
  ⟨⟨call {} (rq 0x0701 [2]), rq 0x0701 [2], ⟨by decide, rfl, rfl⟩, by decide⟩,
   ⟨call {} (rq 0x0701 (({ silence := 2 } : FldCfg).bytes.set 0 0)), rq 0x0701 (({ silence := 2 } : FldCfg).bytes.set 0 0), ⟨by decide, rfl, rfl⟩, by decide, by decide⟩,
   ⟨call {} (rq 0x0701 (({ silence := 2, safe := 1 } : FldCfg).bytes.set 0 0)), rq 0x0701 (({ silence := 2, safe := 1 } : FldCfg).bytes.set 0 0), 0, 0, ⟨by decide +kernel, rfl, rfl⟩, by decide +kernel, by decide +kernel, by decide +kernel, by decide +kernel, by decide +kernel, by decide +kernel⟩,
   ⟨call {} (rq 0x0701 (0 :: (timeCfgBytes { holdDrift := 1 }).drop 1)), rq 0x0701 (0 :: (timeCfgBytes { holdDrift := 1 }).drop 1), ⟨by decide, rfl, rfl⟩, by decide, by decide⟩,
   ⟨st { bar := { cfgPend := [(0, {})] } }, 0, {}, by decide, by decide⟩,
   ⟨call {} (rq 0x0702 []), rq 0x0702 [], ⟨by decide, rfl, rfl⟩⟩,
   ⟨call {} (rq 0x0703 []), rq 0x0703 [], 0, ⟨by decide, rfl, rfl⟩, by decide⟩,
   ⟨call {} (rq 0x0801 []), rq 0x0801 [], ⟨by decide, rfl, rfl⟩, by decide⟩,
   ⟨call {} (rq 0x0801 [1]), rq 0x0801 [1], 0, _, ⟨by decide, rfl, rfl⟩, by decide, by decide, by decide, by decide, by decide, rfl⟩,
   ⟨call {} (rq 0x0801 [1, 1]), rq 0x0801 [1, 1], 0, ⟨by decide, rfl, rfl⟩, by decide, by decide, by decide⟩,
   ⟨call {} (rq 0x0802 []), rq 0x0802 [], ⟨by decide, rfl, rfl⟩⟩,
   ⟨st { time := { cfgPend := [(0, {})] } }, by decide⟩,
   ⟨call {} (rq 0x0803 []), rq 0x0803 [], _, ⟨by decide, rfl, rfl⟩, by decide, by decide, by decide, rfl⟩,
   ⟨call {} (rq 0x0804 []), rq 0x0804 [], ⟨by decide, rfl, rfl⟩, by decide⟩⟩

theorem test_witness_NetAndFabMailboxCommandsComplete :
    (∃ (s : State) (r : Req), Called 0x0901 r s.blk) ∧
    (∃ (s : State) (r : Req) (op : Nat) (b : Block), Called 0x0902 r s.blk ∧ fld r.payload 0 1 = op ∧ op ≤ 1 ∧
      allZero (cut r.payload 1 3) = true ∧ b = s.blk.ok r ((List.range 4).flatMap s.blk.netRec)) ∧
    (∃ (s : State) (r : Req), Called 0x0A01 r s.blk) ∧
    (∃ (s : State) (r : Req), Called 0x0A02 r s.blk ∧ fld r.payload 0 1 = 0) ∧
    (∃ (s : State) (r : Req), Called 0x0A02 r s.blk ∧ fld r.payload 0 1 = 1) ∧
    (∃ (s : State) (r : Req), Called 0x0A02 r s.blk ∧ fld r.payload 0 1 = 2) ∧
    (∃ (s : State) (r : Req) (m : Nat), Called 0x0A03 r s.blk ∧ fld r.payload 0 1 = m) ∧
    (∃ (s : State) (r : Req), Called 0x0A04 r s.blk ∧ fld r.payload 0 2 ≤ 255 ∧ 1 ≤ fld r.payload 2 2 ∧ fld r.payload 2 2 ≤ 255) ∧
    (∃ (s : State) (r : Req) (op : Nat) (b : Block), Called 0x0A05 r s.blk ∧ fld r.payload 0 1 = op ∧ op ≤ 1 ∧
      allZero (cut r.payload 1 3) = true ∧ b = s.blk.ok r ((List.range 5).flatMap s.blk.fabRec)) ∧
    (∃ (s : State) (r : Req), Called 0x0A06 r s.blk ∧ fld r.payload 0 1 = 2 ∧ allZero (cut r.payload 1 3) = true) ∧
    (∃ (s : State) (r : Req), Called 0x0A06 r s.blk ∧ fld r.payload 0 1 = 0 ∧ allZero (cut r.payload 1 3) = true) ∧
    (∃ (s : State) (r : Req), Called 0x0A07 r s.blk ∧ fld r.payload 0 1 = 2 ∧ allZero (cut r.payload 1 3) = true) ∧
    (∃ (s : State) (r : Req), Called 0x0A07 r s.blk ∧ fld r.payload 0 1 = 0 ∧ allZero (cut r.payload 1 3) = true ∧ (∀ i, i < 32 →
      twCfgOk (cut r.payload (4 + 16 * i) 16) = true)) ∧
    (∃ (s : State) (r : Req) (i : Nat), Called 0x0A07 r s.blk ∧ fld r.payload 0 1 = 0 ∧ i < 32 ∧
      twCfgOk (cut r.payload (4 + 16 * i) 16) = false) ∧
    (∃ (s : State) (t : Nat) (x : Tab TwCfg), s.blk.fab.twPend = [(t, x)] ∧ t ≤ s.blk.time.epoch) ∧
    (∃ (s : State) (r : Req) (n : Nat), Called 0x0A08 r s.blk ∧ fld r.payload 0 1 = n ∧ 1 ≤ n ∧ n ≤ 64 ∧
      allZero (cut r.payload 1 3) = true) ∧
    (∃ (s : State) (r : Req) (w n f : Nat), Called 0x0A09 r s.blk ∧ fld r.payload 0 8 = w ∧ fld r.payload 10 1 = f ∧ f ≤ 7 ∧
      (bitOf f 0 = false ∨ bitOf f 1 = false) ∧ (bitOf f 2 = true → bitOf f 0 = true ∨ bitOf f 1 = true) ∧ fld r.payload 11 1 = 0 ∧
      fld r.payload 12 2 = n ∧ 1 ≤ n ∧ n ≤ 1000 ∧ fld r.payload 14 2 = 0 ∧ dist64 s.blk.ns64 w < 0 ∧ (∀ a, s.blk.snap.arm = some a →
      a.at_ = w ∧ a.source ≠ 2)) ∧
    (∃ (s : State) (r : Req) (w f : Nat), Called 0x0A09 r s.blk ∧ fld r.payload 0 8 = w ∧ fld r.payload 10 1 = f ∧ f ≤ 7 ∧
      (bitOf f 0 = false ∨ bitOf f 1 = false) ∧ (bitOf f 2 = true → bitOf f 0 = true ∨ bitOf f 1 = true) ∧ fld r.payload 11 1 = 0 ∧
      1 ≤ fld r.payload 12 2 ∧ fld r.payload 12 2 ≤ 1000 ∧ fld r.payload 14 2 = 0 ∧ 0 ≤ dist64 s.blk.ns64 w) ∧
    (∃ (s : State) (r : Req) (w f : Nat) (a : WArm), Called 0x0A09 r s.blk ∧ fld r.payload 0 8 = w ∧ fld r.payload 10 1 = f ∧
      f ≤ 7 ∧ (bitOf f 0 = false ∨ bitOf f 1 = false) ∧ (bitOf f 2 = true → bitOf f 0 = true ∨ bitOf f 1 = true) ∧
      fld r.payload 11 1 = 0 ∧ 1 ≤ fld r.payload 12 2 ∧ fld r.payload 12 2 ≤ 1000 ∧ fld r.payload 14 2 = 0 ∧
      dist64 s.blk.ns64 w < 0 ∧ s.blk.snap.arm = some a ∧ (a.at_ ≠ w ∨ a.source = 2)) ∧
    (∃ (s : State) (r : Req) (t : Nat) (i : List Byte) (c : Call), Called 0x0A0A r s.blk ∧ fld r.payload 2 2 = t ∧ 10 ≤ t ∧
      t ≤ 10000 ∧ r.payload.drop 4 = i ∧ 16 ≤ i.length ∧ i.length ≤ 4092 ∧ fld i 10 2 + 16 = i.length ∧ fld i 2 2 ≠ 0x0A0A ∧ c =
      { req := r, target := fld r.payload 0 2, level := s.blk.authOf r.client, dueAt := s.blk.now + t * msE, inner := i }) ∧
    (∃ (s : State) (r : Req), Called 0x0A0B r s.blk ∧ fld r.payload 0 1 = 2 ∧ allZero (cut r.payload 1 3) = true ∧ (∀ i, i < 32 →
      allZero (cut r.payload (9 + 8 * i) 3) = true)) ∧
    (∃ (s : State) (r : Req), Called 0x0A0B r s.blk ∧ fld r.payload 0 1 = 0 ∧ allZero (cut r.payload 1 3) = true ∧ (∀ i, i < 32 →
      allZero (cut r.payload (9 + 8 * i) 3) = true) ∧ (∀ a, a ∈ accessOfBytes r.payload → a.auth ≤ 3 ∨ a.auth = 255)) :=
  ⟨⟨call {} (rq 0x0901 []), rq 0x0901 [], ⟨by decide, rfl, rfl⟩⟩,
   ⟨call {} (rq 0x0902 []), rq 0x0902 [], 0, _, ⟨by decide, rfl, rfl⟩, by decide, by decide, by decide, rfl⟩,
   ⟨call {} (rq 0x0A01 []), rq 0x0A01 [], ⟨by decide, rfl, rfl⟩⟩,
   ⟨call {} (rq 0x0A02 []), rq 0x0A02 [], ⟨by decide, rfl, rfl⟩, by decide⟩,
   ⟨call {} (rq 0x0A02 [1]), rq 0x0A02 [1], ⟨by decide, rfl, rfl⟩, by decide⟩,
   ⟨call {} (rq 0x0A02 [2]), rq 0x0A02 [2], ⟨by decide, rfl, rfl⟩, by decide⟩,
   ⟨call {} (rq 0x0A03 []), rq 0x0A03 [], 0, ⟨by decide, rfl, rfl⟩, by decide⟩,
   ⟨call {} (rq 0x0A04 [0, 0, 1]), rq 0x0A04 [0, 0, 1], ⟨by decide, rfl, rfl⟩, by decide, by decide, by decide⟩,
   ⟨call {} (rq 0x0A05 []), rq 0x0A05 [], 0, _, ⟨by decide, rfl, rfl⟩, by decide, by decide, by decide, rfl⟩,
   ⟨call {} (rq 0x0A06 [2]), rq 0x0A06 [2], ⟨by decide, rfl, rfl⟩, by decide, by decide⟩,
   ⟨call {} (rq 0x0A06 []), rq 0x0A06 [], ⟨by decide, rfl, rfl⟩, by decide, by decide⟩,
   ⟨call {} (rq 0x0A07 [2]), rq 0x0A07 [2], ⟨by decide, rfl, rfl⟩, by decide, by decide⟩,
   ⟨call {} (rq 0x0A07 (zeros 516)), rq 0x0A07 (zeros 516), ⟨by decide +kernel, rfl, rfl⟩, by decide +kernel, by decide +kernel, by decide +kernel⟩,
   ⟨call {} (rq 0x0A07 (zeros 8 ++ (List.replicate 36 [1, 0]).flatten ++ zeros 8)), rq 0x0A07 (zeros 8 ++ (List.replicate 36 [1, 0]).flatten ++ zeros 8), 0, ⟨by decide, rfl, rfl⟩, by decide, by decide, by decide⟩,
   ⟨st { fab := { twPend := [(0, ({}))] } }, 0, {}, by decide, by decide⟩,
   ⟨call {} (rq 0x0A08 [1]), rq 0x0A08 [1], 1, ⟨by decide, rfl, rfl⟩, by decide, by decide, by decide, by decide⟩,
   ⟨call {} (rq 0x0A09 (leBytes 8 5 ++ zeros 4 ++ [1])), rq 0x0A09 (leBytes 8 5 ++ zeros 4 ++ [1]), 5, 1, 0, ⟨by decide, rfl, rfl⟩, by decide, by decide, by decide, by decide, by decide, by decide, by decide, by decide, by decide, by decide, by decide, by decide⟩,
   ⟨call {} (rq 0x0A09 (zeros 12 ++ [1, 0])), rq 0x0A09 (zeros 12 ++ [1, 0]), 0, 0, ⟨by decide, rfl, rfl⟩, by decide, by decide, by decide, by decide, by decide, by decide, by decide, by decide, by decide, by decide⟩,
   ⟨call { snap := { arm := some {} } } (rq 0x0A09 [0, 0, 1, 0, 0, 0, 0, 0, 0, 0, 0, 0, 1, 0]), rq 0x0A09 [0, 0, 1, 0, 0, 0, 0, 0, 0, 0, 0, 0, 1, 0], 65536, 0, {}, ⟨by decide, rfl, rfl⟩, by decide, by decide, by decide, by decide, by decide, by decide, by decide, by decide, by decide, by decide, by decide, by decide⟩,
   ⟨call {} (rq 0x0A0A ([0, 0, 10, 0] ++ zeros 16)), rq 0x0A0A ([0, 0, 10, 0] ++ zeros 16), 10, _, _, ⟨by decide, rfl, rfl⟩, by decide, by decide, by decide, rfl, by decide, by decide, by decide, by decide, rfl⟩,
   ⟨call {} (rq 0x0A0B [2]), rq 0x0A0B [2], ⟨by decide, rfl, rfl⟩, by decide, by decide, by decide⟩,
   ⟨call {} (rq 0x0A0B []), rq 0x0A0B [], ⟨by decide, rfl, rfl⟩, by decide, by decide, by decide, by decide⟩⟩

theorem test_witness_RecAndDistCommandsComplete :
    (∃ (s : State) (r : Req) (n : Nat), Called 0x0B01 r s.blk ∧ fld r.payload 0 1 = n) ∧
    (∃ (s : State) (r : Req) (f n : Nat), Called 0x0B02 r s.blk ∧ fld r.payload 0 2 = f ∧ fld r.payload 2 2 = n) ∧
    (∃ (s : State) (r : Req), Called 0x0B03 r s.blk) ∧
    (∃ (s : State) (r : Req) (f n : Nat), Called 0x0B04 r s.blk ∧ fld r.payload 0 1 = 2 ∧ fld r.payload 1 1 = 0 ∧
      fld r.payload 2 2 = f ∧ fld r.payload 4 2 = n ∧ fld r.payload 6 2 = 0 ∧ 1 ≤ n ∧ n ≤ 512 ∧ f + n ≤ 512 ∧ r.payload.length = 8) ∧
    (∃ (s : State) (r : Req) (f n : Nat), Called 0x0B04 r s.blk ∧ fld r.payload 0 1 = 0 ∧ fld r.payload 1 1 = 0 ∧
      fld r.payload 2 2 = f ∧ fld r.payload 4 2 = n ∧ fld r.payload 6 2 = 0 ∧ 1 ≤ n ∧ n ≤ 512 ∧ f + n ≤ 512 ∧ r.payload.length =
      8 + 4 * n ∧ (∀ i, i < n → fld r.payload (8 + 4 * i) 2 ≤ 1000 ∧ 1 ≤ fld r.payload (10 + 4 * i) 1 ∧
      fld r.payload (11 + 4 * i) 1 = 0)) ∧
    (∃ (s : State) (r : Req) (f n : Nat), Called 0x0B04 r s.blk ∧ fld r.payload 2 2 = f ∧ fld r.payload 4 2 = n ∧
      ((fld r.payload 0 1 ≠ 0 ∧ fld r.payload 0 1 ≠ 2) ∨ fld r.payload 1 1 ≠ 0 ∨ fld r.payload 6 2 ≠ 0 ∨ n = 0 ∨ 512 < n ∨
      512 < f + n ∨ (fld r.payload 0 1 = 0 ∧ ∃ i, i < n ∧ (1000 < fld r.payload (8 + 4 * i) 2 ∨ fld r.payload (10 + 4 * i) 1 = 0 ∨
      fld r.payload (11 + 4 * i) 1 ≠ 0)))) ∧
    (∃ (s : State), s.blk.evr.started = true ∧ s.blk.sys.shutdown = none ∧ s.blk.opsec % 3600 = 0 ∧
      s.blk.evr.intStart < s.blk.opsec) ∧
    (∃ (s : State) (r : Req), Called 0x0C01 r s.blk ∧ fld r.payload 0 1 = 2) ∧
    (∃ (s : State) (r : Req), Called 0x0C01 r s.blk ∧ fld r.payload 0 1 ≠ 2) ∧
    (∃ (s : State) (r : Req), Called 0x0C02 r s.blk) ∧
    (∃ (s : State) (r : Req) (f m : Nat) (l : List (Nat × DRec)), Called 0x0C03 r s.blk ∧ fld r.payload 0 1 = f ∧
      fld r.payload 1 1 = m ∧ l = (s.blk.dist.held.filter fun x => decide (f ≤ x.1)).take m) ∧
    (∃ (s : State) (r : Req) (i : Instr) (k : Nat) (d : DRec) (p : Bool), Called 0x0C04 r s.blk ∧ (fld r.payload 1 1 = 0 ∧ i =
      .distKeep r ∧ p = true ∨ fld r.payload 1 1 = 1 ∧ i = .distRelease r ∧ p = false) ∧ s.blk.distNamed r = some (k, d)) ∧
    (∃ (s : State) (r : Req) (i : Instr), Called 0x0C04 r s.blk ∧ (fld r.payload 1 1 = 0 ∧ i = .distKeep r ∨ fld r.payload 1 1 = 1 ∧
      i = .distRelease r ∨ fld r.payload 1 1 = 2 ∧ i = .distDelete r ∨ 2 < fld r.payload 1 1 ∧ i = .distKeep r) ∧
      s.blk.distNamed r = none) ∧
    (∃ (s : State) (r : Req) (k : Nat) (d : DRec), Called 0x0C04 r s.blk ∧ fld r.payload 1 1 = 2 ∧ s.blk.distNamed r = some (k, d)) ∧
    (∃ (s : State) (k : Nat) (d : DRec), s.blk.distOpen = some (k, d) ∧ d.last < d.sets.length) :=
  ⟨⟨call {} (rq 0x0B01 []), rq 0x0B01 [], 0, ⟨by decide, rfl, rfl⟩, by decide⟩,
   ⟨call {} (rq 0x0B02 []), rq 0x0B02 [], 0, 0, ⟨by decide, rfl, rfl⟩, by decide, by decide⟩,
   ⟨call {} (rq 0x0B03 []), rq 0x0B03 [], ⟨by decide, rfl, rfl⟩⟩,
   ⟨call {} (rq 0x0B04 [2, 0, 0, 0, 1, 0, 0, 0]), rq 0x0B04 [2, 0, 0, 0, 1, 0, 0, 0], 0, 1, ⟨by decide, rfl, rfl⟩, by decide, by decide, by decide, by decide, by decide, by decide, by decide, by decide, by decide⟩,
   ⟨call {} (rq 0x0B04 [0,0,0,0,1,0,0,0,0,0,1,0]), rq 0x0B04 [0,0,0,0,1,0,0,0,0,0,1,0], 0, 1, ⟨by decide, rfl, rfl⟩, by decide, by decide, by decide, by decide, by decide, by decide, by decide, by decide, by decide, by decide⟩,
   ⟨call {} (rq 0x0B04 []), rq 0x0B04 [], 0, 0, ⟨by decide, rfl, rfl⟩, by decide, by decide, by decide⟩,
   ⟨st { evr := { started := true, opBase := 3600 } }, by decide, by decide, by decide, by decide⟩,
   ⟨call {} (rq 0x0C01 [2]), rq 0x0C01 [2], ⟨by decide, rfl, rfl⟩, by decide⟩,
   ⟨call {} (rq 0x0C01 (wDist)), rq 0x0C01 (wDist), ⟨by decide +kernel, rfl, rfl⟩, by decide +kernel⟩,
   ⟨call {} (rq 0x0C02 []), rq 0x0C02 [], ⟨by decide, rfl, rfl⟩⟩,
   ⟨call {} (rq 0x0C03 []), rq 0x0C03 [], 0, 0, _, ⟨by decide, rfl, rfl⟩, by decide, by decide, rfl⟩,
   ⟨call { dist := { recs := [(0, some { complete := true })] } } (rq 0x0C04 []), rq 0x0C04 [], .distKeep (rq 0x0C04 []), 0, { complete := true }, true, ⟨by decide, rfl, rfl⟩, Or.inl ⟨by decide, rfl, rfl⟩, rfl⟩,
   ⟨call {} (rq 0x0C04 []), rq 0x0C04 [], .distKeep (rq 0x0C04 []), ⟨by decide, rfl, rfl⟩, Or.inl ⟨by decide, rfl⟩, by decide⟩,
   ⟨call { dist := { recs := [(0, some { complete := true })] } } (rq 0x0C04 [0, 2]), rq 0x0C04 [0, 2], 0, { complete := true }, ⟨by decide, rfl, rfl⟩, by decide, by decide⟩,
   ⟨st { dist := { open_ := some 0, recording := true, recs := [(0, some { sets := [{}] })] } }, 0, { sets := [{}] }, by decide, by decide⟩⟩

theorem test_witness_SnapAndUpdateCommandsComplete :
    (∃ (s : State) (r : Req), Called 0x0D01 r s.blk) ∧
    (∃ (s : State) (r : Req) (o n : Nat), Called 0x0D02 r s.blk ∧ fld r.payload 0 4 = o ∧ fld r.payload 4 4 = n) ∧
    (∃ (s : State) (r : Req), Called 0x0D03 r s.blk) ∧
    (∃ (s : State) (r : Req) (f w : Nat), Called 0x0D04 r s.blk ∧ fld r.payload 0 4 = f ∧ fld r.payload 4 8 = w) ∧
    ((bitOf 6 Config.order.toNat = true) → ∃ (s : State) (r : Req) (f e : Nat) (b : Block), Called 0x0E01 r s.blk ∧
      fld r.payload 0 4 = f ∧ s.blk.begin (f == 1) (r.payload.drop 4) = (e, b)) ∧
    (∃ (s : State) (r : Req), Called 0x0E02 r s.blk) ∧
    (∃ (s : State) (r : Req), Called 0x0E03 r s.blk) ∧
    (∃ (s : State) (r : Req) (o : Nat), Called 0x0E04 r s.blk ∧ fld r.payload 0 1 = o) ∧
    (∃ (s : State) (r : Req) (f : Nat) (g : Staging), Called 0x0E05 r s.blk ∧ fld r.payload 0 4 = f ∧ s.blk.nv.stg = g) ∧
    (∃ (s : State), s.blk.nv.stg.state = .verifying) ∧
    (∃ (s : State) (ok : Bool), s.blk.nv.stg.state = .activating ∧ s.blk.nv.stg.step = 1 ∧ s.blk.sys.recovery = false) ∧
    (∃ (s : State), s.blk.nv.stg.state = .activating ∧ s.blk.nv.stg.step = 2 ∧ s.blk.nv.stg.hdr.blobVer = s.blk.runHdr.blobVer) ∧
    (∃ (s : State), s.blk.nv.stg.state = .activating ∧ s.blk.nv.stg.step = 2 ∧ s.blk.nv.stg.hdr.blobVer ≠ s.blk.runHdr.blobVer) ∧
    (∃ (s : State) (us : Nat), s.blk.nv.stg.state = .activating ∧ s.blk.nv.stg.step = 3 ∧ s.blk.now = s.blk.edgeNow ∧ us ≤ 125) ∧
    (∃ (s : State) (n : Nat), s.blk.nv.stg.state ≠ .verifying ∧ s.blk.nv.stg.state ≠ .activating ∧ (∀ k, k < 8 →
      (s.blk.slot k).takeover = none) ∧ s.blk.oldSlots.head? = some n ∧ (s.blk.slot n).running = true) ∧
    (∃ (s : State) (n : Nat), s.blk.nv.stg.state ≠ .verifying ∧ s.blk.nv.stg.state ≠ .activating ∧ (∀ k, k < 8 →
      (s.blk.slot k).takeover = none) ∧ s.blk.oldSlots.head? = some n ∧ (s.blk.slot n).running = false) ∧
    (∃ (s : State), s.blk.nv.stg.state = .rolling ∧ (∀ k, k < 8 → (s.blk.slot k).takeover = none) ∧ (∀ j, j ∈ s.blk.nv.jobs → ∀ k,
      j.job ≠ .boot false k none) ∧ (s.blk.oldSlots = [] ∨ s.blk.spare = none)) ∧
    (∃ (s : State) (r : Req), Called 0x0E06 r s.blk) ∧
    (∃ (s : State) (r : Req), Called 0x0E07 r s.blk) ∧
    (∃ (s : State) (r : Req), Called 0x0E08 r s.blk) ∧
    ((Config.keySig 0 [0x5A, 0x57, 0x4B, 0x59, 1] = true) → (Config.keyTag 0 [0x5A, 0x57, 0x4B, 0x59, 1] = true) →
      ∃ (s : State) (d n : Nat) (ok : Bool), d < 2 ∧ s.blk.flashBusy = false) ∧
    (∃ (s : State) (p : Bool) (d : Nat) (l : List Nat), d < 2 ∧ s.blk.flashBusy = false ∧ (∀ n, n ∈ l → areaOf n =
      some (if p then 3 else 2))) ∧
    (∃ (s : State) (r : Req), s.blk.nv.stg.confirm = some r ∧ s.blk.nv.fuse < 64) :=
  ⟨⟨call {} (rq 0x0D01 []), rq 0x0D01 [], ⟨by decide, rfl, rfl⟩⟩,
   ⟨call {} (rq 0x0D02 []), rq 0x0D02 [], 0, 0, ⟨by decide, rfl, rfl⟩, by decide, by decide⟩,
   ⟨call {} (rq 0x0D03 []), rq 0x0D03 [], ⟨by decide, rfl, rfl⟩⟩,
   ⟨call {} (rq 0x0D04 (leBytes 4 1 ++ leBytes 8 5)), rq 0x0D04 (leBytes 4 1 ++ leBytes 8 5), 1, 5, ⟨by decide, rfl, rfl⟩, by decide, by decide⟩,
   fun p0 => ⟨call {} (rq 0x0E01 (zeros 4 ++ wHdr)), rq 0x0E01 (zeros 4 ++ wHdr), 0, stOK, _, ⟨by decide +kernel, rfl, rfl⟩, by decide +kernel, wit_begin p0⟩,
   ⟨call {} (rq 0x0E02 []), rq 0x0E02 [], ⟨by decide, rfl, rfl⟩⟩,
   ⟨call {} (rq 0x0E03 []), rq 0x0E03 [], ⟨by decide, rfl, rfl⟩⟩,
   ⟨call {} (rq 0x0E04 []), rq 0x0E04 [], 0, ⟨by decide, rfl, rfl⟩, by decide⟩,
   ⟨call {} (rq 0x0E05 []), rq 0x0E05 [], 0, _, ⟨by decide, rfl, rfl⟩, by decide, rfl⟩,
   ⟨st { nv := { stg := { state := .verifying } } }, by decide⟩,
   ⟨st { nv := { stg := { state := .activating, step := 1 } }, sys := { recovery := false } }, false, by decide, by decide, by decide⟩,
   ⟨st { nv := { stg := { state := .activating, step := 2 } } }, by decide, by decide, by decide⟩,
   ⟨st { nv := { stg := { state := .activating, step := 2, hdr := { blobVer := 7 } } } }, by decide, by decide, by decide⟩,
   ⟨st { nv := { stg := { state := .activating, step := 3 } } }, 0, by decide, by decide, by decide, by decide⟩,
   ⟨st { nv := { stg := { state := .rolling } }, lgc := { slots := [(0, { state := .run, pair := some 0 })], pairs := [(0, { uc := 7, state := .running, slot := some 0 }), (1, { state := .spare })] } }, 0, by decide, by decide, by decide, by decide, by decide⟩,
   ⟨st { lgc := { slots := [(0, { state := .kettle, pair := some 0 })], pairs := [(0, { uc := 7 })] } }, 0, by decide, by decide, by decide, by decide, by decide⟩,
   ⟨st { nv := { stg := { state := .rolling } } }, by decide, by decide, (fun _ h => by cases h), Or.inl (by decide)⟩,
   ⟨call {} (rq 0x0E06 []), rq 0x0E06 [], ⟨by decide, rfl, rfl⟩⟩,
   ⟨call {} (rq 0x0E07 []), rq 0x0E07 [], ⟨by decide, rfl, rfl⟩⟩,
   ⟨call {} (rq 0x0E08 []), rq 0x0E08 [], ⟨by decide, rfl, rfl⟩⟩,
   fun p0 p1 => ⟨st {}, 0, 0, false, by decide, by decide⟩,
   ⟨st {}, false, 0, [], by decide, by decide, by decide⟩,
   ⟨st { nv := { stg := { confirm := some {} } } }, _, rfl, by decide⟩⟩

theorem test_witness_DiagCommandsComplete :
    (∃ (s : State) (r : Req), Called 0x0F01 r s.blk ∧ fld r.payload 0 1 ≠ 1) ∧
    (∃ (s : State) (r : Req) (f n : Nat), Called 0x0F01 r s.blk ∧ fld r.payload 0 1 = 1 ∧ fld r.payload 2 2 = n ∧
      fld r.payload 4 4 = f) ∧
    (∃ (s : State) (r : Req) (n : Nat), Called 0x0F02 r s.blk ∧ fld r.payload 4 2 = n) ∧
    (∃ (s : State) (r : Req) (o l : Nat), Called 0x0F03 r s.blk ∧ fld r.payload 0 1 = o ∧ fld r.payload 1 1 = l) ∧
    (∃ (s : State) (r : Req) (p n : Nat), Called 0x0F04 r s.blk ∧ fld r.payload 0 1 = p ∧ fld r.payload 1 1 = n) ∧
    (∃ (s : State) (r : Req) (p : Nat), Called 0x0F05 r s.blk ∧ fld r.payload 0 1 = p ∧ p ≤ 8 ∧ fld r.payload 1 1 = 0 ∧
      fld r.payload 2 1 ≤ 3 ∧ fld r.payload 3 1 = 0 ∧ s.blk.halting p = true ∧ (s.blk.pair p).hreq = none) ∧
    (∃ (s : State) (r : Req) (p : Nat), Called 0x0F05 r s.blk ∧ fld r.payload 0 1 = p ∧ p ≤ 8 ∧ fld r.payload 1 1 = 1 ∧
      fld r.payload 2 1 ≤ 3 ∧ fld r.payload 3 1 = 0 ∧ s.blk.halting p = true ∧ (s.blk.pair p).hreq = none) ∧
    (∃ (s : State) (r : Req) (p : Nat), Called 0x0F05 r s.blk ∧ fld r.payload 0 1 = p ∧ p ≤ 8 ∧ fld r.payload 1 1 = 2 ∧
      fld r.payload 2 1 ≤ 3 ∧ fld r.payload 3 1 = 0 ∧ s.blk.halting p = true ∧ (s.blk.pair p).hreq = none) ∧
    (∃ (s : State) (r : Req) (p k : Nat), Called 0x0F05 r s.blk ∧ fld r.payload 0 1 = p ∧ p ≤ 8 ∧ fld r.payload 1 1 = 3 ∧
      fld r.payload 2 1 = k ∧ k ≤ 3 ∧ fld r.payload 3 1 = 0 ∧ s.blk.halting p = true) ∧
    (∃ (s : State) (r : Req) (i : Instr) (p : Nat), Called 0x0F05 r s.blk ∧ fld r.payload 0 1 = p ∧ p ≤ 8 ∧ (fld r.payload 1 1 = 0 ∧
      i = .diagHalt r ∨ fld r.payload 1 1 = 1 ∧ i = .diagStep r ∨ fld r.payload 1 1 = 2 ∧ i = .diagResume r ∨ fld r.payload 1 1 =
      3 ∧ i = .diagBreakpoint r) ∧ fld r.payload 2 1 ≤ 3 ∧ fld r.payload 3 1 = 0 ∧ s.blk.halting p = false) ∧
    (∃ (s : State) (r : Req) (n t : Nat), Called 0x0F06 r s.blk ∧ fld r.payload 0 1 = n ∧ fld r.payload 1 1 = t) ∧
    (∃ (s : State) (r : Req) (f n : Nat), Called 0x0F07 r s.blk ∧ fld r.payload 0 1 = 2 ∧ fld r.payload 1 1 = 0 ∧
      fld r.payload 2 2 = f ∧ fld r.payload 4 2 = n ∧ fld r.payload 6 2 = 0 ∧ 1 ≤ n ∧ n ≤ 512 ∧ f + n ≤ 512 ∧ r.payload.length = 8) ∧
    (∃ (s : State) (r : Req) (f n : Nat), Called 0x0F07 r s.blk ∧ fld r.payload 0 1 = 0 ∧ fld r.payload 1 1 = 0 ∧
      fld r.payload 2 2 = f ∧ fld r.payload 4 2 = n ∧ fld r.payload 6 2 = 0 ∧ 1 ≤ n ∧ n ≤ 512 ∧ f + n ≤ 512 ∧ r.payload.length =
      8 + n) ∧
    (∃ (s : State) (r : Req), Called 0x0F07 r s.blk ∧ ((fld r.payload 0 1 ≠ 0 ∧ fld r.payload 0 1 ≠ 2) ∨ fld r.payload 1 1 ≠ 0 ∨
      fld r.payload 6 2 ≠ 0 ∨ fld r.payload 4 2 = 0 ∨ 512 < fld r.payload 4 2 ∨ 512 < fld r.payload 2 2 + fld r.payload 4 2)) ∧
    (∃ (s : State) (r : Req), Called 0x0F08 r s.blk) :=
  ⟨⟨call {} (rq 0x0F01 []), rq 0x0F01 [], ⟨by decide, rfl, rfl⟩, by decide⟩,
   ⟨call {} (rq 0x0F01 [1]), rq 0x0F01 [1], 0, 0, ⟨by decide, rfl, rfl⟩, by decide, by decide, by decide⟩,
   ⟨call {} (rq 0x0F02 []), rq 0x0F02 [], 0, ⟨by decide, rfl, rfl⟩, by decide⟩,
   ⟨call {} (rq 0x0F03 []), rq 0x0F03 [], 0, 0, ⟨by decide, rfl, rfl⟩, by decide, by decide⟩,
   ⟨call {} (rq 0x0F04 []), rq 0x0F04 [], 0, 0, ⟨by decide, rfl, rfl⟩, by decide, by decide⟩,
   ⟨call { lgc := { pairs := [(0, { state := .service })] } } (rq 0x0F05 []), rq 0x0F05 [], 0, ⟨by decide, rfl, rfl⟩, by decide, by decide, by decide, by decide, by decide, by decide, by decide⟩,
   ⟨call { lgc := { pairs := [(0, { state := .service })] } } (rq 0x0F05 [0, 1]), rq 0x0F05 [0, 1], 0, ⟨by decide, rfl, rfl⟩, by decide, by decide, by decide, by decide, by decide, by decide, by decide⟩,
   ⟨call { lgc := { pairs := [(0, { state := .service })] } } (rq 0x0F05 [0, 2]), rq 0x0F05 [0, 2], 0, ⟨by decide, rfl, rfl⟩, by decide, by decide, by decide, by decide, by decide, by decide, by decide⟩,
   ⟨call { lgc := { pairs := [(0, { state := .service })] } } (rq 0x0F05 [0, 3]), rq 0x0F05 [0, 3], 0, 0, ⟨by decide, rfl, rfl⟩, by decide, by decide, by decide, by decide, by decide, by decide, by decide⟩,
   ⟨call {} (rq 0x0F05 []), rq 0x0F05 [], .diagHalt (rq 0x0F05 []), 0, ⟨by decide, rfl, rfl⟩, by decide, by decide, Or.inl ⟨by decide, rfl⟩, by decide, by decide, by decide⟩,
   ⟨call {} (rq 0x0F06 []), rq 0x0F06 [], 0, 0, ⟨by decide, rfl, rfl⟩, by decide, by decide⟩,
   ⟨call {} (rq 0x0F07 [2, 0, 0, 0, 1, 0, 0, 0]), rq 0x0F07 [2, 0, 0, 0, 1, 0, 0, 0], 0, 1, ⟨by decide, rfl, rfl⟩, by decide, by decide, by decide, by decide, by decide, by decide, by decide, by decide, by decide⟩,
   ⟨call {} (rq 0x0F07 [0,0,0,0,1,0,0,0,0]), rq 0x0F07 [0,0,0,0,1,0,0,0,0], 0, 1, ⟨by decide, rfl, rfl⟩, by decide, by decide, by decide, by decide, by decide, by decide, by decide, by decide, by decide⟩,
   ⟨call {} (rq 0x0F07 []), rq 0x0F07 [], ⟨by decide, rfl, rfl⟩, by decide⟩,
   ⟨call {} (rq 0x0F08 []), rq 0x0F08 [], ⟨by decide, rfl, rfl⟩⟩⟩

theorem test_witness_CtlCommandsComplete :
    (∃ (s : State) (r : Req), Called 0x1001 r s.blk) ∧
    (∃ (s : State) (r : Req) (d : CtlDecl) (n i : Nat), Called 0x1002 r s.blk ∧ fld r.payload 0 1 = n ∧ fld r.payload 1 1 = i ∧
      s.blk.ctlDecl n i = some d ∧ s.blk.ctlBad false r.payload = false) ∧
    (∃ (s : State) (r : Req), Called 0x1002 r s.blk ∧ s.blk.ctlBad false r.payload = true) ∧
    (∃ (s : State) (r : Req) (n i : Nat) (o : CtlObj), Called 0x1003 r s.blk ∧ fld r.payload 0 1 = n ∧ fld r.payload 1 1 = i ∧
      s.blk.ctlObj n i = o) ∧
    (∃ (s : State) (r : Req) (n f k : Nat), Called 0x1004 r s.blk ∧ fld r.payload 0 1 = n ∧ fld r.payload 1 1 = f ∧
      fld r.payload 2 1 = k) ∧
    (∃ (s : State) (o : Order) (d : CtlDecl), s.blk.mbx.orders = [o] ∧ o.epoch < s.blk.time.epoch ∧ s.blk.ctlDecl o.slot o.index =
      some d ∧ (s.blk.ctlObj o.slot o.index).state = .idle ∧ (o.select = true ∨ o.client = none ∨ (s.blk.slot o.slot).state = .run)) ∧
    (∃ (s : State) (n i : Nat) (o : CtlObj) (c a k v e : Nat), tget ctlD (s.blk.slot n).objs i = o ∧ o.state = .selected c a k v e ∧
      e ≤ s.blk.time.epoch) ∧
    (∃ (s : State) (n i : Nat) (o : CtlObj) (c a k v q t dl f : Nat) (b : Block), s.blk.ctlObj n i = o ∧ o.state =
      .pending c a k v q t dl f ∧ dl ≤ s.blk.now ∧ b = (s.blk.putCtl n i { o with state := .idle }).raise 435 (n * 256 + i : Nat)) :=
  ⟨⟨call {} (rq 0x1001 []), rq 0x1001 [], ⟨by decide, rfl, rfl⟩⟩,
   ⟨call (wCtl { }) (rq 0x1002 [0,0,0,0]), rq 0x1002 [0,0,0,0], _, 0, 0, ⟨by decide, rfl, rfl⟩, by decide, by decide, rfl, by decide⟩,
   ⟨call {} (rq 0x1002 []), rq 0x1002 [], ⟨by decide, rfl, rfl⟩, by decide⟩,
   ⟨call {} (rq 0x1003 []), rq 0x1003 [], 0, 0, _, ⟨by decide, rfl, rfl⟩, by decide, by decide, rfl⟩,
   ⟨call {} (rq 0x1004 []), rq 0x1004 [], 0, 0, 0, ⟨by decide, rfl, rfl⟩, by decide, by decide, by decide⟩,
   ⟨st { wCtl {} with time := { epoch := 3 }, mbx := { orders := [{ select := true }] } }, { select := true }, _, by decide, by decide, rfl, by decide, Or.inl rfl⟩,
   ⟨st (wCtl { state := .selected 0 0 0 0 0 }), 0, 0, { state := .selected 0 0 0 0 0 }, 0, 0, 0, 0, 0, by decide, by decide, by decide⟩,
   ⟨st { wCtl { state := .pending 0 0 0 0 0 0 0 0 } with time := { elapsed := 2 ^ 80 } }, 0, 0, _, 0, 0, 0, 0, 0, 0, 0, 0, _, rfl, by decide, by decide, rfl⟩⟩

theorem test_witness_FaultCommandsComplete :
    (∃ (s : State) (n w : Nat), n < 160) ∧
    (∃ (s : State) (i : Nat), i < 4096 ∧ i ∉ s.blk.elm.bad ∧ 16 ≤ s.blk.rowsUsed 0 ∧ i ∉ s.blk.flt.testing ∧ i ∉ s.blk.flt.remapped) ∧
    (∃ (s : State) (m n k : Nat) (ok : Bool), rowId m n = k ∧ k ∈ s.blk.flt.testing ∧ s.blk.spUp = true) ∧
    (∃ (s : State) (i : Nat), i ∈ s.blk.elm.bad ∧ s.blk.spUp = true) ∧
    (∃ (s : State) (n w : Nat), (s.blk.wheel.get n).cls ≠ 0) ∧
    (∃ (s : State) (n w k : Nat), (s.blk.wheel.get n).cls = 0 ∧ (s.blk.wheel.get n).owner = k) ∧
    (∃ (s : State) (n w : Nat), n < 8) ∧
    (∃ (s : State), s.blk.sys.step ≠ 0 ∧ s.blk.flt.spRestarting = none ∧ s.blk.flt.spStopped = false ∧
      (s.blk.flt.spRestarts.filter fun t => decide (s.blk.now < t + 60 * secE)).length < 2) ∧
    (∃ (s : State), s.blk.sys.step ≠ 0 ∧ s.blk.flt.spRestarting = none ∧ s.blk.flt.spStopped = false ∧
      (s.blk.flt.spRestarts.filter fun t => decide (s.blk.now < t + 60 * secE)).length = 1 ∧ s.blk.nv.slotOk (1 - s.blk.runSlot) =
      true) ∧
    (∃ (s : State), s.blk.sys.step ≠ 0 ∧ s.blk.flt.spRestarting = none ∧ s.blk.flt.spStopped = false ∧
      2 ≤ (s.blk.flt.spRestarts.filter fun t => decide (s.blk.now < t + 60 * secE)).length) ∧
    (∃ (s : State) (t : Nat), s.blk.flt.spRestarting = some t) ∧
    (∃ (s : State), overTemp * 10 ≤ s.blk.dieNow) :=
  ⟨⟨st {}, 0, 0, by decide⟩,
   ⟨st { flt := { remapped := (List.range 16).map fun k => k + 1 } }, 0, by decide, by decide, by decide, by decide, by decide⟩,
   ⟨st { flt := { testing := [rowId 0 0] } }, 0, 0, rowId 0 0, false, by decide, by decide, by decide⟩,
   ⟨st { elm := { bad := [0] } }, 0, by decide, by decide⟩,
   ⟨st { wheel := { timers := [(4096, { cls := 2 })] } }, 4096, 0, by decide⟩,
   ⟨st { wheel := { timers := [(1, { cls := 0 })] } }, 1, 0, _, by decide, rfl⟩,
   ⟨st {}, 0, 0, by decide⟩,
   ⟨st { sys := { step := 1 } }, by decide, by decide, by decide, by decide⟩,
   ⟨st { sys := { step := 1 }, flt := { spRestarts := [0] }, nv := { imgB := { hdr := some {}, bootable := true } } }, by decide, by decide, by decide, by decide, by decide⟩,
   ⟨st { sys := { step := 1 }, flt := { spRestarts := [0, 0] } }, by decide, by decide, by decide, by decide⟩,
   ⟨st { flt := { spRestarting := some (0) } }, 0, by decide⟩,
   ⟨st { cnv := { convs := [(0, { temp := 1200 })] } }, Int.le_trans (by unfold overTemp; split <;> decide : (overTemp : Int) * 10 ≤ 1200) (by decide)⟩⟩

end Sys2Proof.Machine
end

section
/-! SUPPORT. Proofs about the decoder's tables (R249) and the block move (R268). -/

namespace Sys2Proof.Machine
open Sys2Proof

/-! ### Which opcodes decode (R249)

No instruction has more than seven operand bytes, so with seven bytes behind it whether an opcode decodes rests on the opcode
alone. -/

theorem exists_seven_bytes {l : List Byte} (h : 7 ≤ l.length) :
    ∃ x₀ x₁ x₂ x₃ x₄ x₅ x₆ r, l = x₀ :: x₁ :: x₂ :: x₃ :: x₄ :: x₅ :: x₆ :: r := by
  match l, h with
  | x₀ :: x₁ :: x₂ :: x₃ :: x₄ :: x₅ :: x₆ :: r, _ => exact ⟨x₀, x₁, x₂, x₃, x₄, x₅, x₆, r, rfl⟩

/-- The escape 0xF0 opens the page of the phasors and functions. -/
theorem fjDecode_escapeF0 (slot : Nat) (c : Byte) (l : List Byte) : fjDecode slot (0xF0 :: c :: l) = fjPageF0 slot c.toNat l := rfl

/-- The escape 0xF1 opens the page of the tasks, the field, the control objects and the events. -/
theorem fjDecode_escapeF1 (slot : Nat) (c : Byte) (l : List Byte) : fjDecode slot (0xF1 :: c :: l) = fjPageF1 slot c.toNat l := rfl

/- In the three lemmas below, each entry of the table yields its instruction, and the last case is an opcode without an entry,
which lies outside every listed range. -/

theorem fjPageF0_isSome_iff (slot op : Nat) {l : List Byte} (h : 7 ≤ l.length) :
    (fjPageF0 slot op l).isSome = true ↔ fjListed2 0xF0 op = true := by
  obtain ⟨x₀, x₁, x₂, x₃, x₄, x₅, x₆, r, rfl⟩ := exists_seven_bytes h
  unfold fjPageF0
  split
  case h_18 => grind [fjListed2]
  all_goals exact Iff.rfl

theorem fjPageF1_isSome_iff (slot op : Nat) {l : List Byte} (h : 7 ≤ l.length) :
    (fjPageF1 slot op l).isSome = true ↔ fjListed2 0xF1 op = true := by
  obtain ⟨x₀, x₁, x₂, x₃, x₄, x₅, x₆, r, rfl⟩ := exists_seven_bytes h
  unfold fjPageF1
  split
  case h_14 => grind [fjListed2]
  all_goals exact Iff.rfl

theorem fjPrimary_isSome_iff (slot : Nat) {op : Nat} (h0 : op ≠ 0xF0) (h1 : op ≠ 0xF1) {l : List Byte} (h : 7 ≤ l.length) :
    (fjPrimary slot op l).isSome = true ↔ fjListed op = true := by
  obtain ⟨x₀, x₁, x₂, x₃, x₄, x₅, x₆, r, rfl⟩ := exists_seven_bytes h
  unfold fjPrimary
  split
  case h_82 => exact absurd rfl h0
  case h_83 => exact absurd rfl h1
  case h_84 => grind [fjListed]
  all_goals exact Iff.rfl

/-- Only the two escapes open a page. -/
theorem fjListed2_of_no_escape {a : Nat} (h0 : a ≠ 0xF0) (h1 : a ≠ 0xF1) (c : Nat) : fjListed2 a c = false := by
  simp [fjListed2, h0, h1]

/-- Settles O4: the tables of `fjPrimary`, `fjPageF0` and `fjPageF1` have an entry exactly for the bytes listed, and an escape
goes on with the page it opens. -/
theorem undefinedOpcodesDecodeToNothing : Obligations.UndefinedOpcodesDecodeToNothing := by
  refine ⟨fun slot a c l hlen => ?_, fun slot c l => ⟨fjDecode_escapeF0 slot c l, fjDecode_escapeF1 slot c l⟩⟩
  by_cases h0 : a = 0xF0
  · subst h0
    rw [fjDecode_escapeF0, fjPageF0_isSome_iff slot c.toNat (by omega)]
    exact (or_iff_right (by decide)).symm
  by_cases h1 : a = 0xF1
  · subst h1
    rw [fjDecode_escapeF1, fjPageF1_isSome_iff slot c.toNat (by omega)]
    exact (or_iff_right (by decide)).symm
  have hn0 : a.toNat ≠ 0xF0 := fun e => h0 (BitVec.eq_of_toNat_eq e)
  have hn1 : a.toNat ≠ 0xF1 := fun e => h1 (BitVec.eq_of_toNat_eq e)
  rw [fjListed2_of_no_escape hn0 hn1, or_iff_left Bool.false_ne_true]
  exact fjPrimary_isSome_iff slot hn0 hn1 (by simp only [List.length_cons]; omega)

/-! ### Reading a word after a write (R241, R245) -/

/-- A word that takes a write lies outside the input half. -/
theorem area_of_noWrite_eq_false {f : Fj} {a : Nat} (h : f.noWrite a = false) : a < 0x8000 ∨ 0xC000 ≤ a := by
  rcases Nat.lt_or_ge a 0x8000 with hdata | hpast
  · exact .inl hdata
  rcases Nat.lt_or_ge a 0xC000 with hin | hout
  · rw [Fj.noWrite, if_neg (Nat.not_lt.mpr hpast), if_pos hin] at h
    exact Bool.noConfusion h
  · exact .inr hout

/-- Every word of an area that refuses no write takes one. -/
theorem noWrite_of_noWrites {f : Fj} {a n k : Nat} (h : f.noWrites a n = false) (hk : k < n) : f.noWrite (a + k) = false := by
  simp only [Fj.noWrites, List.any_eq_false, List.mem_range, Bool.not_eq_true] at h
  exact h k hk

/-- A write under the full mask delivers the word written. -/
theorem mask_full (u v : Word) : u &&& ~~~BitVec.ofNat 32 0xFFFFFFFF ||| v &&& BitVec.ofNat 32 0xFFFFFFFF = v := by
  rw [show BitVec.ofNat 32 0xFFFFFFFF = BitVec.allOnes 32 from rfl, BitVec.not_allOnes, BitVec.and_zero, BitVec.and_allOnes,
    BitVec.zero_or]

/-- What is staged last wins: a whole word staged for `x` reads as itself at `x` and hides no other word. -/
theorem outWord_stage_word (f : Fj) (x w : Nat) (v : Word) :
    (f.stage (.out x 0xFFFFFFFF v)).outWord w = if x = w then v else f.outWord w := by
  rw [Fj.outWord, Fj.stage, List.foldl_append, List.foldl_cons, List.foldl_nil, if_pos rfl]
  simp only [mask_full]
  rfl

/-- A word written outside the input half reads as written, and every other word reads as before. -/
theorem rd_wr {f : Fj} {a : Nat} (h : a < 0x8000 ∨ 0xC000 ≤ a) (v : Word) (w : Nat) :
    (f.wr a v).rd w = if w = a then v else f.rd w := by
  rcases h with hdata | hout
  · simp only [Fj.wr, Fj.wrMask, if_pos hdata, mask_full, Fj.rd, tget_tset]
    by_cases e : w = a
    · simp [e, hdata]
    · simp only [e, if_false]; rfl
  · simp only [Fj.wr, Fj.wrMask, if_neg (show ¬ a < 0x8000 by omega), Fj.rd, outWord_stage_word]
    by_cases e : w = a
    · simp [e, show ¬ a < 0x8000 by omega, show ¬ a < 0xC000 by omega]
    · by_cases hw : 0xC000 ≤ w
      · simp only [show a - 0xC000 ≠ w - 0xC000 by omega, e, if_false]; rfl
      · simp only [e, if_false, show w < 0xC000 by omega, if_true]; rfl

/-! ### The block move (R268) -/

/-- The element that a block move of `n` words copies at its step `i`: the order is fixed by the two addresses. -/
def moveOrder (a s n i : Nat) : Nat := if a ≤ s then i else n - 1 - i

/-- What the first `m` steps of a block move leave. -/
def Fj.movedFirst (f : Fj) (a s n m : Nat) : Fj :=
  (List.range m).foldl (fun g i => g.wr (a + moveOrder a s n i) (g.rd (s + moveOrder a s n i))) f

theorem moved_eq_movedFirst (f : Fj) (a s n : Nat) : f.moved a s n = f.movedFirst a s n n := rfl

theorem movedFirst_succ (f : Fj) (a s n m : Nat) : f.movedFirst a s n (m + 1) =
    (f.movedFirst a s n m).wr (a + moveOrder a s n m) ((f.movedFirst a s n m).rd (s + moveOrder a s n m)) := by
  simp only [Fj.movedFirst, List.range_succ, List.foldl_append, List.foldl_cons, List.foldl_nil]

theorem movedFirst_wanted (f : Fj) (a s n m : Nat) : (f.movedFirst a s n m).wanted = f.wanted :=
  fold_keeps _ Fj.wanted (fun _ _ => wr_wanted ..) f m

theorem moveOrder_lt {a s n i : Nat} (h : i < n) : moveOrder a s n i < n := by
  unfold moveOrder; split <;> omega

/-- Ascending or descending, the order visits every element. -/
theorem moveOrder_moveOrder {a s n i : Nat} (h : i < n) : moveOrder a s n (moveOrder a s n i) = i := by
  unfold moveOrder; split <;> omega

theorem moveOrder_ne {a s n i j : Nat} (hj : j < i) (hi : i < n) : moveOrder a s n i ≠ moveOrder a s n j := by
  unfold moveOrder; split <;> omega

/-- The order keeps overlapping areas right: no step reads a word that an earlier step has written. -/
theorem moveOrder_reads_unwritten {a s n i j : Nat} (hj : j < i) (hi : i < n) :
    s + moveOrder a s n i ≠ a + moveOrder a s n j := by
  unfold moveOrder; split <;> omega

section
variable {f : Fj} {a n : Nat} (hwr : ∀ k < n, a + k < 0x8000 ∨ 0xC000 ≤ a + k)
include hwr

/-- The steps of a block move change no word but those that they write. -/
theorem rd_movedFirst_of_ne (s : Nat) {w : Nat} : ∀ m ≤ n, (∀ i < m, w ≠ a + moveOrder a s n i) →
    (f.movedFirst a s n m).rd w = f.rd w
  | 0, _, _ => rfl
  | m + 1, hm, hne => by
    rw [movedFirst_succ, rd_wr (hwr _ (moveOrder_lt hm)), if_neg (hne m m.lt_succ_self)]
    exact rd_movedFirst_of_ne s m (by omega) fun i hi => hne i (by omega)

/-- Every element copied reads as its source word read before the move. -/
theorem rd_movedFirst (s : Nat) {i : Nat} : ∀ m ≤ n, i < m →
    (f.movedFirst a s n m).rd (a + moveOrder a s n i) = f.rd (s + moveOrder a s n i)
  | 0, _, hi => absurd hi i.not_lt_zero
  | m + 1, hm, hi => by
    rw [movedFirst_succ, rd_wr (hwr _ (moveOrder_lt hm))]
    rcases Nat.lt_succ_iff_lt_or_eq.mp hi with hlt | rfl
    · rw [if_neg fun e => moveOrder_ne hlt hm (Nat.add_left_cancel e).symm]
      exact rd_movedFirst s m (by omega) hlt
    · rw [if_pos rfl]
      exact rd_movedFirst_of_ne hwr s i (by omega) fun j hj => moveOrder_reads_unwritten hj hm

end

/-- With its checks met, at element 0 and with nothing waiting at a boundary, BMOV runs all its elements. -/
theorem fjBmov_runs {f : Fj} {ad as_ : BitVec 16} {n : BitVec 8} (hlock : f.x.lockcnt = 0) (hprog : f.x.prog = 0)
    (hfree : f.wanted = false) (hd : inArea ad.toNat 0 (n256 n) = true) (hs : inArea as_.toNat 0 (n256 n) = true)
    (hw : f.noWrites ad.toNat (n256 n) = false) : fjBmov ad as_ n f = { f := f.moved ad.toNat as_.toNat (n256 n) } := by
  have hunlocked : f.locked = false := by simp [Fj.locked, hlock]
  simp only [fjBmov, Fj.checks, hunlocked, hd, hs, hw, Bool.not_true, Bool.or_self, Bool.false_eq_true, if_false, Fj.long,
    hprog, if_true]
  exact fjElems_runs (fun m => (f.movedFirst ad.toNat as_.toNat (n256 n) m, 0)) (n256 n)
    (fun k _ => by rw [movedFirst_succ]; rfl) (fun k _ => by rw [movedFirst_wanted, hfree]) _ 0 (by omega) (Nat.zero_le _)

/-- Settles O9: the order of the elements never reads a word already written, so each step copies a word of the source as it
was, overlap included. -/
theorem blockMoveCopies : Obligations.BlockMoveCopies := by
  refine ⟨fun s slot f ad as_ n hready hlock hprog hfree hd hs hw => ?_, fun f a s n _ _ hw => ?_⟩
  · refine fj_gives hready (body := fjBmov ad as_ n) rfl ?_
    have hself : f.counted = f := counted_self hlock
    rw [Fj.undisturbed, hself] at hfree
    rw [hself, fjBmov_runs hlock hprog hfree hd hs hw]
  · have harea : ∀ k < n, a + k < 0x8000 ∨ 0xC000 ≤ a + k := fun k hk => area_of_noWrite_eq_false (noWrite_of_noWrites hw hk)
    rw [moved_eq_movedFirst]
    refine ⟨fun k hk => ?_, fun w hout => ?_⟩
    · have hcopied := rd_movedFirst (f := f) harea s n (Nat.le_refl n) (moveOrder_lt (a := a) (s := s) hk)
      rwa [moveOrder_moveOrder hk] at hcopied
    · refine rd_movedFirst_of_ne harea s n (Nat.le_refl n) fun i hi e => ?_
      have := moveOrder_lt (a := a) (s := s) hi
      omega

end Sys2Proof.Machine
end

section
/-! SUPPORT. Proofs about the integer division (R281, R282). -/

namespace Sys2Proof.Machine
open Sys2Proof

/-! ### Operands of one type (R248, R251) -/

/-- A wider set of types allows every operand that a narrower one does. -/
theorem is_mono {f : Fj} {l m : List Ty} (hlm : l ⊆ m) {v : Loc} (h : f.is l v = true) : f.is m v = true := by
  simp only [Fj.is, Bool.and_eq_true, List.contains_iff_mem] at h ⊢
  exact ⟨h.1, hlm h.2⟩

theorem same_mono {f : Fj} {l m : List Ty} (hlm : l ⊆ m) {vs : List Loc} (h : f.same l vs = true) : f.same m vs = true := by
  simp only [Fj.same, Bool.and_eq_true, List.all_eq_true] at h ⊢
  exact ⟨fun v hv => is_mono hlm (h.1 v hv), h.2⟩

/-- Operands of one type share the type of the first. -/
theorem same_ty {f : Fj} {l : List Ty} {u v : Loc} {r : List Loc} (h : f.same l (u :: r) = true) (hv : v ∈ r) :
    f.ty v = f.ty u := by
  simp only [Fj.same, Bool.and_eq_true, List.all_eq_true, beq_iff_eq, List.headD_cons] at h
  exact h.2 v (List.mem_cons_of_mem u hv)

/-- Operands of the one type `t`: the first has it. -/
theorem same_head_ty {f : Fj} {t : Ty} {u : Loc} {r : List Loc} (h : f.same [t] (u :: r) = true) : f.ty u = t :=
  List.mem_singleton.mp (is_mem (same_head h))

/-- A local of type UINT32 is read without a sign (R244). -/
theorem int_nonneg_of_uint {f : Fj} {v : Loc} (h : f.ty v = .uint) : 0 ≤ f.int v := by
  simp only [Fj.int, h]
  exact Int.natCast_nonneg _

/-! ### A divisor of 0 (R282) -/

/-- With legal operands an instruction whose only check is of its operands runs its own steps. -/
theorem op_of_legal {f : Fj} {legal : Bool} (h : legal = true) (k : Fj → Fj) : f.op legal k = { f := k f } := by
  subst h; rfl

/-- DIV by 0 delivers 0 for 0, and for any other dividend the limit of the type on its side. -/
theorem fjDiv_of_int_eq_zero {f : Fj} {d a b : Loc} (hsame : f.same tyIU [d, a, b] = true) (hb : f.int b = 0) :
    fjDiv d a b f = { f := (f.setI d (if f.int a = 0 then 0 else if f.int a < 0 then (limits (f.ty d)).1
      else (limits (f.ty d)).2)).flags { dz := true } } := by
  rw [fjDiv, op_of_legal hsame, if_pos hb]

/-- REM by 0 delivers the dividend. -/
theorem fjRem_of_int_eq_zero {f : Fj} {d a b : Loc} (hsame : f.same tyIU [d, a, b] = true) (hb : f.int b = 0) :
    fjRem d a b f = { f := (f.setI d (f.int a)).flags { dz := true } } := by
  rw [fjRem, op_of_legal hsame, if_pos hb]

/-- Raising DZ raises no other flag and lowers none (R285). -/
theorem or_dz (x : FFlags) : x.or { dz := true } = { x with dz := true } := by
  simp only [FFlags.or, Bool.or_false, Bool.or_true]

theorem flags_dz (f : Fj) : (f.flags { dz := true }).x.flags = { f.x.flags with dz := true } := or_dz f.x.flags

/-- The limit on the side of an INT32 dividend other than 0 does not depend on whether its sign is asked from above or below. -/
theorem int_limit_of_side (v : Int) :
    (if v = 0 then 0 else if v < 0 then (limits .int).1 else (limits .int).2) =
      if v = 0 then 0 else if 0 < v then 0x7FFFFFFF else -0x80000000 := by
  rcases Int.lt_trichotomy v 0 with hneg | rfl | hpos
  · rw [if_neg (Int.ne_of_lt hneg), if_pos hneg, if_neg (Int.ne_of_lt hneg), if_neg (Int.not_lt.mpr (Int.le_of_lt hneg))]
    rfl
  · rfl
  · rw [if_neg (Int.ne_of_gt hpos), if_neg (Int.not_lt.mpr (Int.le_of_lt hpos)), if_neg (Int.ne_of_gt hpos), if_pos hpos]
    rfl

section
variable {s : State} {slot : Nat} {f : Fj} {d a b : Loc} (hready : FjReady s.blk slot 4 f)
  (hsame : f.same tyIU [d, a, b] = true) (hb : f.int b = 0)
include hready hsame hb

theorem fjDiv_ends_of_int_eq_zero : FjEnds (.fjDiv slot d a b) s slot 4 f
    { f := (f.counted.setI d (if f.int a = 0 then 0 else if f.int a < 0 then (limits (f.ty d)).1
      else (limits (f.ty d)).2)).flags { dz := true } } :=
  fj_gives hready rfl (fjDiv_of_int_eq_zero (f := f.counted) hsame hb)

theorem fjRem_ends_of_int_eq_zero : FjEnds (.fjRem slot d a b) s slot 4 f
    { f := (f.counted.setI d (f.int a)).flags { dz := true } } :=
  fj_gives hready rfl (fjRem_of_int_eq_zero (f := f.counted) hsame hb)

end

/-- Settles O7: the three rows of R282's table are the two values of the shared DIV and REM by 0 at the types INT32 and UINT32;
an unsigned dividend has no negative side. -/
theorem divisionByZeroSetsDz : Obligations.DivisionByZeroSetsDz := by
  have hint : [Ty.int] ⊆ tyIU := by decide
  have huint : [Ty.uint] ⊆ tyIU := by decide
  refine ⟨fun s slot f d a b hready hsame hb => ?_, fun s slot f d a b hready hsame hb => ?_,
    fun s slot f d a b hready hsame hb => ?_, fun f => ?_⟩
  · have hends := fjDiv_ends_of_int_eq_zero hready (same_mono hint hsame) hb
    rwa [same_head_ty hsame, int_limit_of_side] at hends
  · have hends := fjDiv_ends_of_int_eq_zero hready (same_mono huint hsame) hb
    have hd : f.ty d = .uint := same_head_ty hsame
    have ha : f.ty a = .uint := (same_ty hsame (List.mem_cons_self ..)).trans hd
    rwa [hd, if_neg (Int.not_lt.mpr (int_nonneg_of_uint ha))] at hends
  · exact fjRem_ends_of_int_eq_zero hready (hsame.elim (same_mono hint) (same_mono huint)) hb
  · rw [flags_dz]
    exact ⟨rfl, rfl, rfl, rfl, rfl⟩

end Sys2Proof.Machine
end

section
/-! SUPPORT. Proofs about the event recorder's bins (R450). -/

namespace Sys2Proof.Machine
open Sys2Proof

/-! ### The bin of a quantity (R450) -/

theorem binOf_zero : binOf 0 = 0 := if_pos rfl

theorem binOf_of_ge {q : Nat} (h : 16384 ≤ q) : binOf q = 15 := by
  rw [binOf, if_neg (by omega), if_pos h]

theorem binOf_of_lt {q : Nat} (hpos : q ≠ 0) (hlt : q < 16384) : binOf q = q.log2 + 1 := by
  rw [binOf, if_neg hpos, if_neg (Nat.not_le.mpr hlt)]

/-- The row "k = 1–14" of R450's table: its powers of two say that q has binary logarithm k − 1, and 2 ^ 14 is where bin 15 begins. -/
theorem binOf_of_pow_le {k q : Nat} (h1 : 1 ≤ k) (h14 : k ≤ 14) (hlo : 2 ^ (k - 1) ≤ q) (hhi : q < 2 ^ k) : binOf q = k := by
  have hpos : q ≠ 0 := Nat.ne_of_gt (Nat.lt_of_lt_of_le (Nat.two_pow_pos _) hlo)
  have hlt : q < 16384 := Nat.lt_of_lt_of_le hhi (Nat.pow_le_pow_right (n := 2) (by decide) h14)
  have hlog : q.log2 = k - 1 := (Nat.log2_eq_iff hpos).mpr ⟨hlo, by rwa [Nat.sub_add_cancel h1]⟩
  rw [binOf_of_lt hpos hlt, hlog, Nat.sub_add_cancel h1]

/-! ### One more quantity in a tally (R450) -/

/-- A saturating increment reaches the limit and stays there. -/
theorem satN_succ (hi n : Nat) : satN hi (n + 1) = if n < hi then n + 1 else hi := by
  unfold satN
  split <;> split <;> omega

theorem Tally.quantity_bins (cap q opsec pcycle : Nat) (t : Tally) :
    (t.quantity cap q opsec pcycle).bins = tset natD t.bins (binOf q) (satN cap (tget natD t.bins (binOf q) + 1)) := rfl

theorem tget_quantity_bins (cap q opsec pcycle : Nat) (t : Tally) (k : Nat) :
    tget natD (t.quantity cap q opsec pcycle).bins k =
      if k = binOf q then (if tget natD t.bins k < cap then tget natD t.bins k + 1 else cap) else tget natD t.bins k := by
  rw [Tally.quantity_bins, tget_tset]
  split
  next heq => rw [heq, satN_succ]
  next => rfl

theorem quantity_life (n : Nat) (v : Int) (b : Block) : (b.quantity n v).evr.life =
    tupd tallyD b.evr.life n (Tally.quantity 0xFFFFFFFF (qty v) b.opsec b.evr.pcycle) := rfl

/-- Settles O13: the bin is the one of the binary logarithm, and the lifetime tally of the one code is rewritten by one write at
that bin. -/
theorem quantitiesFallIntoTheirBins : Obligations.QuantitiesFallIntoTheirBins := by
  refine ⟨fun v => rfl, ⟨binOf_zero, fun k q => binOf_of_pow_le, fun q => binOf_of_ge⟩, fun b n k v => ?_, fun b n m v hm => ?_⟩
  · rw [quantity_life, tget_tupd_same, tget_quantity_bins]
  · rw [quantity_life, tget_tupd_ne _ _ _ hm]

end Sys2Proof.Machine
end

section
/-! SUPPORT. Proofs about what every whisk does (R484). -/

namespace Sys2Proof.Machine
open Sys2Proof

/-! ### A whisk is noted before it is latched or missed (R484, R486) -/

/-- `c` has noted a new whisk of `b`: WHISK_COUNT, WHISK_LAST and the end of the WHISK_OUT pulse are taken, and the recorder has
not been triggered. -/
structure WhiskNoted (b c : Block) : Prop where
  count : c.snap.count = (b.snap.count + 1) % 2 ^ 32
  last : c.snap.last = b.time.epoch % 2 ^ 32
  outTo : c.snap.outTo = if b.snap.outEn then some (b.now + usE) else b.snap.outTo
  dist : c.dist = b.dist

/-- Catching the parts of a generation fills the snapshot's sections alone. -/
theorem WhiskNoted.snapCatch {b c : Block} (h : WhiskNoted b c) : WhiskNoted b c.snapCatch := by
  unfold Block.snapCatch
  dsimp only
  split
  · exact h
  · exact ⟨h.count, h.last, h.outTo, h.dist⟩

/-- An event goes to the event recorder, which neither the whisk's registers nor the disturbance recorder see. -/
theorem WhiskNoted.raise {b c : Block} (h : WhiskNoted b c) (n : Nat) (q : Int) : WhiskNoted b (c.raise n q) :=
  ⟨by rw [raise_snap, h.count], by rw [raise_snap, h.last], by rw [raise_snap, h.outTo], by rw [raise_dist, h.dist]⟩

/-- The first whisk at its edge is noted, whether it latches the snapshot or is missed, and then triggers the recorder under
WHISK_TRIG. -/
theorem whisk_of_first_at_edge (b : Block) (src : Nat) (timed : Bool) (h : ∀ x, b.snap.atEdge = some x → x.1 ≠ b.now) :
    ∃ c, WhiskNoted b c ∧ b.whisk src timed = if b.dist.cfg.whisk then c.distTrigger b.stamp else c := by
  unfold Block.whisk
  dsimp only
  split
  next l hmerge =>
    split at hmerge
    next t latched hedge =>
      rw [if_neg (h _ hedge)] at hmerge
      cases hmerge
    next => cases hmerge
  next =>
    refine ⟨_, ?_, rfl⟩
    split
    · apply WhiskNoted.snapCatch
      exact ⟨rfl, rfl, rfl, rfl⟩
    · apply WhiskNoted.raise
      exact ⟨rfl, rfl, rfl, rfl⟩

/-! ### The recorder's trigger leaves the whisk's registers alone (R472) -/

@[simp] theorem distTrigger_snap (st : Stamp) (b : Block) : (b.distTrigger st).snap = b.snap := by
  unfold Block.distTrigger
  dsimp only
  split
  · rfl
  · split
    · exact raise_snap ..
    · rfl
    · rfl

/-! ### The pin WHISK_IN (R483) -/

theorem whiskPin_of_enabled {b : Block} (h : b.snap.pinEn = true) : b.whiskPin = b.whisk 1 false := if_pos h

/-- Settles O14: a whisk that is the first at its edge is noted, and the recorder's trigger that may follow keeps what was noted. -/
theorem whisksCountDriveAndTrigger : Obligations.WhisksCountDriveAndTrigger := by
  refine ⟨fun b src timed hfirst => ?_, fun s hpin => congrArg s.done (whiskPin_of_enabled hpin)⟩
  obtain ⟨c, hc, heq⟩ := whisk_of_first_at_edge b src timed hfirst
  have hsnap : (b.whisk src timed).snap = c.snap := by
    rw [heq]
    split
    · exact distTrigger_snap ..
    · rfl
  rw [hsnap]
  refine ⟨hc.count, hc.last, hc.outTo, fun hoff => ?_, fun hon => ⟨c, ?_, hc.dist⟩⟩
  · rw [heq, hoff]
    exact hc.dist
  · rw [heq, hon]
    rfl

end Sys2Proof.Machine
end

section
-- One declaration after another: the check compiles the whole text under a memory limit.
set_option Elab.async false
/-! SUPPORT. Proofs about the decoder: decoding undoes encoding (R248, R249). -/

namespace Sys2Proof.Machine
open Sys2Proof

/-! ### The bytes of a multi-byte operand (R248)

The value is its bytes put together again, so an operand may be given by its bytes, and what encoding writes is exactly these. -/

theorem le16_bytes (v : BitVec 16) : ∃ x y : Byte, v = y ++ x ∧ le16 v = [x, y] := by
  refine ⟨_, _, BitVec.eq_of_getLsbD_eq fun i hi => ?_, rfl⟩
  simp only [BitVec.getLsbD_append, BitVec.getLsbD_extractLsb']
  grind

theorem le24_bytes (v : BitVec 24) : ∃ x y z : Byte, v = z ++ (y ++ x) ∧ le24 v = [x, y, z] := by
  refine ⟨_, _, _, BitVec.eq_of_getLsbD_eq fun i hi => ?_, rfl⟩
  simp only [BitVec.getLsbD_append, BitVec.getLsbD_extractLsb']
  grind

theorem le32_bytes (v : BitVec 32) : ∃ x y z w : Byte, v = w ++ (z ++ (y ++ x)) ∧ le32 v = [x, y, z, w] := by
  refine ⟨_, _, _, _, BitVec.eq_of_getLsbD_eq fun i hi => ?_, rfl⟩
  simp only [BitVec.getLsbD_append, BitVec.getLsbD_extractLsb']
  grind

/-- Settles O3: an opcode selects its own entry of `fjPrimary` or of a page, which takes off as many bytes as the encoding has
written. Rows whose operands are single bytes need no more; in the others each wider operand is first given by its bytes. -/
theorem fjDecodingUndoesEncoding : Obligations.FjDecodingUndoesEncoding := by
  intro i slot bs r hslot hbs
  cases i
  case fjCall s a =>
    obtain ⟨x, y, z, rfl, ha⟩ := le24_bytes a
    cases hslot; cases hbs; rw [ha]; rfl
  case fjLdk s a b | fjLdkh s a b =>
    obtain ⟨x, y, z, w, rfl, hb⟩ := le32_bytes b
    cases hslot; cases hbs; rw [hb]; rfl
  case fjJmp s a | fjTstartw s a | fjTcancel s a | fjTresume s a =>
    obtain ⟨x, y, rfl, ha⟩ := le16_bytes a
    cases hslot; cases hbs; rw [ha]; rfl
  case fjSt s a b | fjSt2 s a b | fjTstart s a b | fjTstartp s a b | fjTpause s a b =>
    obtain ⟨x, y, rfl, ha⟩ := le16_bytes a
    cases hslot; cases hbs; rw [ha]; rfl
  case fjStx s a b c | fjStb s a b c =>
    obtain ⟨x, y, rfl, ha⟩ := le16_bytes a
    cases hslot; cases hbs; rw [ha]; rfl
  case fjJt s a b | fjJf s a b | fjDjnz s a b | fjLd s a b | fjLd2 s a b =>
    obtain ⟨x, y, rfl, hb⟩ := le16_bytes b
    cases hslot; cases hbs; rw [hb]; rfl
  case fjLdx s a b c | fjLdb s a b c | fjTread s a b c | fjSumv s a b c =>
    obtain ⟨x, y, rfl, hb⟩ := le16_bytes b
    cases hslot; cases hbs; rw [hb]; rfl
  case fjTon s a b c d =>
    obtain ⟨x, y, rfl, hb⟩ := le16_bytes b
    cases hslot; cases hbs; rw [hb]; rfl
  case fjTstq s a b c =>
    obtain ⟨x, y, rfl, hc⟩ := le16_bytes c
    cases hslot; cases hbs; rw [hc]; rfl
  case fjBmov s a b c =>
    obtain ⟨x, y, rfl, ha⟩ := le16_bytes a
    obtain ⟨x', y', rfl, hb⟩ := le16_bytes b
    cases hslot; cases hbs; rw [ha, hb]; rfl
  case fjScat s a b c | fjCurv s a b c d =>
    obtain ⟨x, y, rfl, ha⟩ := le16_bytes a
    obtain ⟨x', y', rfl, hb⟩ := le16_bytes b
    obtain ⟨x'', y'', rfl, hc⟩ := le16_bytes c
    cases hslot; cases hbs; rw [ha, hb, hc]; rfl
  case fjGath s a b c d =>
    obtain ⟨x, y, rfl, hb⟩ := le16_bytes b
    obtain ⟨x', y', rfl, hc⟩ := le16_bytes c
    obtain ⟨x'', y'', rfl, hd⟩ := le16_bytes d
    cases hslot; cases hbs; rw [hb, hc, hd]; rfl
  all_goals cases hslot <;> cases hbs <;> rfl

end Sys2Proof.Machine
end

section
-- One declaration after another: the check compiles the whole text under a memory limit.
set_option Elab.async false
/-! SUPPORT. Proofs about the field side: its rows touch nothing else, and without a good downlink frame no output is on (R42, R334,
R335). -/

namespace Sys2Proof.Machine
open Sys2Proof

/-! ### What the field side alone does not mark as seen: a good downlink frame (R327) -/

@[simp] theorem follow_seen (f : FldSt) : f.follow.seen = f.seen := rfl
@[simp] theorem updChan_seen (j : Nat) (g : Chan → Chan) (f : FldSt) : (f.updChan j g).seen = f.seen := rfl
@[simp] theorem enqueue_seen (e : FEdge) (f : FldSt) : (f.enqueue e).seen = f.seen := by
  unfold FldSt.enqueue; split
  · rfl
  · split <;> rfl
@[simp] theorem diSample_seen (i ft mv : Nat) (f : FldSt) : (f.diSample i ft mv).seen = f.seen := by
  simp only [FldSt.diSample, apply_ite FldSt.seen, enqueue_seen, ite_self]
@[simp] theorem diChange_seen (i : Nat) (mvs : List Nat) (ft : Nat) (f : FldSt) : (f.diChange i mvs ft).seen = f.seen :=
  foldl_keeps FldSt.seen _ (fun f k => diSample_seen i _ (mvs.getD k 0) f) _ f
@[simp] theorem wetEnd_seen (i ft : Nat) (f : FldSt) : (f.wetEnd i ft).seen = f.seen := by
  unfold FldSt.wetEnd; split
  · split <;> rfl
  · rfl
@[simp] theorem fastEdge_seen (i : Nat) (level : Bool) (ft : Nat) (f : FldSt) : (f.fastEdge i level ft).seen = f.seen := by
  unfold FldSt.fastEdge; dsimp only; split
  · rfl
  · split
    · exact enqueue_seen ..
    · rfl
@[simp] theorem overOnset_seen (j ft : Nat) (f : FldSt) : (f.overOnset j ft).seen = f.seen := by
  unfold FldSt.overOnset; dsimp only; split <;> rfl
@[simp] theorem openWire_seen (j : Nat) (above : Bool) (f : FldSt) : (f.openWire j above).seen = f.seen := by
  unfold FldSt.openWire; split <;> rfl
@[simp] theorem backfeed_seen (j : Nat) (f : FldSt) : (f.backfeed j).seen = f.seen := by
  unfold FldSt.backfeed; split <;> rfl
@[simp] theorem silenceEnd_seen (ft : Nat) (f : FldSt) : (f.silenceEnd ft).seen = f.seen := by
  unfold FldSt.silenceEnd; split <;> rfl

/-- A field side that has seen no good frame since it gained supply commands no output ON (R42). -/
theorem cmd_of_unseen {f : FldSt} (h : f.seen = false) : f.cmd = 0 := by simp [FldSt.cmd, h]

/-- With supply and a good frame seen, outside lockout, a silent field side commands the safe states (R335). -/
theorem cmd_of_silent {f : FldSt} (hp : f.powered = true) (hl : f.lockout = false) (hs : f.seen = true) (hq : f.silent = true) :
    f.cmd = f.safe := by simp [FldSt.cmd, hp, hl, hs, hq]

/-! ### The rows of the field side (R36, R42, R314 to R336) -/

/-- An operation of the field side that does not itself make it see a good frame. -/
def StaysUnseen (g : FldSt → FldSt) : Prop := ∀ f, f.seen = false → (g f).seen = false

theorem staysUnseen_of_keeps {g : FldSt → FldSt} (h : ∀ f, (g f).seen = f.seen) : StaysUnseen g := fun f hf => (h f).trans hf

/-- Only with supply does an operation of the field side take place. -/
def FldSt.supplied (g : FldSt → FldSt) (f : FldSt) : FldSt := if f.powered then g f else f

theorem onField_eq (g : FldSt → FldSt) (b : Block) : b.onField g = { b with fside := b.fside.supplied g } := by
  unfold Block.onField FldSt.supplied; split <;> rfl

theorem StaysUnseen.supplied {g : FldSt → FldSt} (h : StaysUnseen g) : StaysUnseen (FldSt.supplied g) := by
  intro f hf; unfold FldSt.supplied; split
  · exact h f hf
  · exact hf

/-- What a row of the field side does: it rewrites the field side, and without a good frame none is seen afterwards. -/
def FieldRow (i : Instr) (s : State) : Prop := ∃ g, StaysUnseen g ∧ Gives i s { s.blk with fside := g s.blk.fside }

theorem fieldRow_of_onField {i : Instr} {s : State} {g : FldSt → FldSt} (he : exec i s = s.done (s.blk.onField g))
    (hg : ∀ f, (g f).seen = f.seen) : FieldRow i s :=
  ⟨FldSt.supplied g, (staysUnseen_of_keeps hg).supplied, he.trans (congrArg s.done (onField_eq g s.blk))⟩

/-- A downlink frame cut off restarts the silence timer, while the link runs (R334). -/
theorem fieldRow_downlinkAbort (ft : Nat) (s : State) : FieldRow (.downlinkAbort ft) s := by
  by_cases hrun : s.blk.bar.run = true
  · exact fieldRow_of_onField (congrArg s.done (if_pos hrun)) fun _ => rfl
  · exact ⟨id, fun _ h => h, congrArg s.done (if_neg hrun)⟩

theorem fieldRow_of_onFieldSide {i : Instr} (h : onFieldSide i = true) (s : State) : FieldRow i s := by
  cases i
  case fieldPowerUp => exact ⟨fun _ => { powered := true }, fun _ _ => rfl, rfl⟩
  case downlinkAbort ft => exact fieldRow_downlinkAbort ft s
  case diChangeAccepted => exact fieldRow_of_onField rfl (diChange_seen _ _ _)
  case wettingEnd => exact fieldRow_of_onField rfl (wetEnd_seen _ _)
  case fastInputEdge => exact fieldRow_of_onField rfl (fastEdge_seen _ _ _)
  case outputOvercurrentOnset => exact fieldRow_of_onField rfl (overOnset_seen _ _)
  case openWireTest => exact fieldRow_of_onField rfl (openWire_seen _ _)
  case backfeedDetect => exact fieldRow_of_onField rfl (backfeed_seen _)
  case silenceExpiry => exact fieldRow_of_onField rfl (silenceEnd_seen _)
  case vfldLockoutEnter | vfldLockoutExit | peakPhaseEnd | foldbackStart | retryPulse | retryPulseEnd | overloadClear |
      overtempEnter | overtempClear | thermalShutdown | thermalRecovery | backfeedClear | fieldEdgeDiscard =>
    exact fieldRow_of_onField rfl fun _ => rfl
  all_goals exact absurd h Bool.false_ne_true

/-- Settles O17: a row of the field side rewrites the field side and nothing else. -/
theorem fieldSideCommandsKeepTheEngine : Obligations.FieldSideCommandsKeepTheEngine := by
  intro i s h
  obtain ⟨g, -, hgives⟩ := fieldRow_of_onFieldSide h s
  exact ⟨_, hgives, rfl⟩

/-! ### The downlink (R327, R328) -/

@[simp] theorem startFrame_fside (ins : Bool) (b : Block) : (b.startFrame ins).fside = b.fside :=
  foldl_keeps (·.fside) _ (fun b (j : Nat) => raise_fside 340 j b) _ _
@[simp] theorem nextFrame_fside (b : Block) : b.nextFrame.fside = b.fside := startFrame_fside ..

theorem takeFrame_good_seen {ft : Nat} {p : List Byte} (h : lineGood 0xB4 p = true) (f : FldSt) : (f.takeFrame ft p).seen = true := by
  simp [FldSt.takeFrame, h, FldSt.down]

theorem downFrame_seen {ft : Nat} {b : Block} (hrun : b.bar.run = true) (hp : b.fside.powered = true)
    (hgood : lineGood 0xB4 b.bar.tx = true) : (b.downFrame ft).fside.seen = true := by
  simp [Block.downFrame, hrun, hp, Block.onField, takeFrame_good_seen hgood]

theorem downBad_seen (b : Block) : b.downBad.fside.seen = b.fside.seen := by
  unfold Block.downBad; split
  · rw [nextFrame_fside, onField_eq, FldSt.supplied]
    split <;> rfl
  · rfl

/-- Settles O16: from the reset values on, only the good downlink frame makes the field side see one, and until then `FldSt.cmd`
is 0 whatever the safe states are. -/
theorem outputsStayOffUntilAFrame : Obligations.OutputsStayOffUntilAFrame := by
  refine ⟨fun s => ⟨_, rfl, rfl, rfl, rfl⟩, fun i s hi hseen => ?_, fun s ft hrun hp hgood => ⟨_, rfl, downFrame_seen hrun hp hgood⟩,
    fun s hseen => ?_, fun f => cmd_of_silent⟩
  · obtain ⟨g, hg, hgives⟩ := fieldRow_of_onFieldSide hi s
    exact ⟨_, hgives, hg _ hseen, cmd_of_unseen (hg _ hseen)⟩
  · have hbad : s.blk.downBad.fside.seen = false := (downBad_seen s.blk).trans hseen
    exact ⟨_, rfl, hbad, cmd_of_unseen hbad⟩

end Sys2Proof.Machine
end

section
-- One declaration after another: the check compiles the whole text under a memory limit.
set_option Elab.async false
/-! SUPPORT. Proofs about a step of the block, the reset state, and that every command completes. -/

namespace Sys2Proof.Machine
open Sys2Proof

theorem step_of_pending {c : Instr} {q : List Instr} {s : State} (h : s.pending = c :: q) :
    step s = exec c { s with pending := q } := by
  unfold step; rw [h]

theorem step_of_idle {s : State} (h : s.pending = []) : step s = .next { s with blk := s.blk.idle } := by
  unfold step; rw [h]

theorem idle_of_run {b : Block} (h : b.time.run = true) : b.idle = { b with time := b.time.advance 1 } := if_pos h
theorem idle_of_stopped {b : Block} (h : b.time.run = false) : b.idle = b := if_neg (by rw [h]; exact Bool.false_ne_true)

/-- Settles O1: with a command waiting or without, a step is the arm of `step` that stands for it. -/
theorem stepTakesTheFrontCommand : Obligations.StepTakesTheFrontCommand :=
  ⟨fun _ _ _ h => step_of_pending h, fun s h hrun => by rw [step_of_idle h, idle_of_run hrun],
    fun s h hrun => by rw [step_of_idle h, idle_of_stopped hrun]⟩

/-- Every arm of `exec` completes with `State.done`. -/
theorem exec_completes (i : Instr) (s : State) : ∃ b, exec i s = .next { s with blk := b } := by
  cases i <;> exact ⟨_, rfl⟩

/-- Settles O2: a step either executes a command, which completes, or lets a clock edge pass. -/
theorem everyStepGoesOn : Obligations.EveryStepGoesOn := by
  refine ⟨exec_completes, fun s => ?_⟩
  match hp : s.pending with
  | [] => exact ⟨_, step_of_idle hp⟩
  | c :: q =>
    obtain ⟨b, hb⟩ := exec_completes c { s with pending := q }
    exact ⟨_, (step_of_pending hp).trans hb⟩

/-- Settles O6: the reset state is given by its fields. -/
theorem resetMeetsTheInvariants : Obligations.ResetMeetsTheInvariants :=
  ⟨⟨Nat.zero_le _, Nat.zero_le _⟩, rfl, rfl, rfl, rfl, rfl, rfl, rfl, rfl, rfl, rfl, rfl, rfl, rfl, rfl, rfl, rfl, rfl, rfl⟩

end Sys2Proof.Machine
end

section
-- One declaration after another: the check compiles the whole text under a memory limit.
set_option Elab.async false
/-! SUPPORT. Proofs about the flow instructions of the Fjoask (R250, R252 to R254). -/

namespace Sys2Proof.Machine
open Sys2Proof

/-! ### The order of the checks (R250)

The first check that fails decides the fault, and a faulting instruction leaves what it works on as it was. -/

section
variable {f : Fj} {ill range access : Bool} {k : FjOut}

theorem checks_ill (h : ill = true) : f.checks ill range access k = { f := f, fault := 1 } := if_pos h
theorem checks_range (hi : ill = false) (h : range = true) : f.checks ill range access k = { f := f, fault := 2 } := by
  subst hi; exact if_pos h
theorem checks_access (hi : ill = false) (hr : range = false) (h : access = true) :
    f.checks ill range access k = { f := f, fault := 3 } := by
  subst hi hr; exact if_pos h
theorem checks_pass (hi : ill = false) (hr : range = false) (ha : access = false) : f.checks ill range access k = k := by
  subst hi hr ha; rfl

end

/-- With illegal operands an instruction whose only check is of its operands is ILL. -/
theorem op_of_illegal {f : Fj} {legal : Bool} (h : legal = false) (k : Fj → Fj) : f.op legal k = { f := f, fault := 1 } := by
  subst h; rfl

theorem not_locked {f : Fj} (h : f.x.lockcnt = 0) : f.locked = false := by simp [Fj.locked, h]
theorem locked_of {f : Fj} (h : f.x.lockcnt ≠ 0) : f.locked = true := by simp [Fj.locked, h]


/-! ### Jumps (R253) -/

theorem jumpTo_inside {f : Fj} {t : Int} {n : Nat} (h : (n : Int) = t) (hn : n < f.img.code) :
    f.jumpTo t = { f := f, jump := some n } := by
  subst h; simp [Fj.jumpTo, hn]

theorem jumpTo_outside {f : Fj} {t : Int} (h : t < 0 ∨ (f.img.code : Int) ≤ t) : f.jumpTo t = { f := f, fault := 2 } :=
  if_neg (by omega)

section
variable {f : Fj} {c u : Loc} {r : BitVec 16} {want : Bool}

theorem fjJcc_taken (hc : f.is [.bool] c = true) (hf : f.flag c = want) : fjJcc want c r f = fjJmp r 4 f := by
  simp [fjJcc, hc, hf]
theorem fjJcc_passed (hc : f.is [.bool] c = true) (hf : f.flag c = !want) : fjJcc want c r f = { f := f } := by
  simp [fjJcc, hc, hf]
theorem fjJcc_ill (hc : f.is [.bool] c = false) : fjJcc want c r f = { f := f, fault := 1 } := by simp [fjJcc, hc]

theorem fjDjnz_ill (hu : f.is [.uint] u = false) : fjDjnz u r f = { f := f, fault := 1 } := by simp [fjDjnz, hu]
/-- At 1 or below the count ends at 0 without a jump. -/
theorem fjDjnz_last (hu : f.is [.uint] u = true) (h1 : f.val u ≤ 1) :
    fjDjnz u r f = { f := if f.val u = 0 then f else f.set u 0 } := by
  rcases Nat.le_one_iff_eq_zero_or_eq_one.mp h1 with h | h <;> simp [fjDjnz, hu, h]
theorem fjDjnz_jumps {n : Nat} (hu : f.is [.uint] u = true) (h2 : 2 ≤ f.val u) (hj : fjJmp r 4 f = { f := f, jump := some n }) :
    fjDjnz u r f = { f := f.set u (f.val u - 1), jump := some n } := by
  simp [fjDjnz, hu, hj, show f.val u ≠ 0 by omega, show f.val u ≠ 1 by omega]
theorem fjDjnz_outside (hu : f.is [.uint] u = true) (h2 : 2 ≤ f.val u) (hj : fjJmp r 4 f = { f := f, fault := 2 }) :
    fjDjnz u r f = { f := f, fault := 2 } := by
  simp [fjDjnz, hu, hj, show f.val u ≠ 0 by omega, show f.val u ≠ 1 by omega]

end

/-- An END or a LOCK inside a LOCK section is ILL (R252, R254). -/
theorem end_and_lock_ill {s : State} {slot : Nat} {f : Fj} {i : Instr} (hr : FjReady s.blk slot 1 f)
    (hi : i ∈ [Instr.fjEnd slot, .fjLock slot]) (hl : f.x.lockcnt ≠ 0) : FjFaults i s slot 1 f 1 := by
  have hlock := (counted_locked f).trans (locked_of hl)
  simp only [List.mem_cons, List.not_mem_nil, or_false] at hi
  rcases hi with rfl | rfl
  · exact fj_gives hr rfl (checks_ill hlock)
  · exact fj_gives hr rfl (checks_ill hlock)

/-- Settles O21: each instruction has the outcome of the check that decides, or of its own step. -/
theorem fjFlowInstructionsComplete : Obligations.FjFlowInstructionsComplete := by
  refine ⟨fun s slot f hr => fj_gives hr rfl rfl,
    fun s slot f hr hl => fj_gives hr rfl (checks_pass ((counted_locked f).trans (not_locked hl)) rfl rfl),
    fun s slot f k hr => fj_gives hr rfl rfl, fun s slot f hr => fj_gives hr rfl rfl, fun s slot f hr => fj_gives hr rfl rfl,
    fun s slot f hr hl => fj_gives hr rfl (checks_pass ((counted_locked f).trans (not_locked hl)) rfl rfl),
    fun s slot f hr hl => fj_gives hr rfl (checks_pass (by rw [counted_locked, locked_of hl]; rfl) rfl rfl),
    fun s slot f a hr ha hs => fj_gives hr rfl ?call,
    fun s slot f p r hr hs => fj_gives hr rfl ?ret,
    fun s slot f r n hr hn hc => fj_gives hr rfl (jumpTo_inside hn hc),
    fun s slot f i hr hi hl => end_and_lock_ill hr hi hl,
    fun s slot f hr hl => fj_gives hr rfl (checks_ill (by rw [counted_locked, not_locked hl]; rfl)),
    fun s slot f a hr ha => fj_gives hr rfl (if_pos ha),
    fun s slot f a hr ha hs => fj_gives hr rfl ((if_neg (Nat.not_le.mpr ha)).trans (if_pos hs)),
    fun s slot f hr hs => fj_gives hr rfl ?retEmpty,
    fun s slot f r hr ho => fj_gives hr rfl (jumpTo_outside ho),
    fun s slot f c r n hr hc hf hn hi => fj_gives hr rfl ((fjJcc_taken (f := f.counted) hc hf).trans (jumpTo_inside hn hi)),
    fun s slot f c r hr hc hf => fj_gives hr rfl (fjJcc_passed hc hf),
    fun s slot f c r hr hc hf ho => fj_gives hr rfl ((fjJcc_taken (f := f.counted) hc hf).trans (jumpTo_outside ho)),
    fun s slot f c r n hr hc hf hn hi => fj_gives hr rfl ((fjJcc_taken (f := f.counted) hc hf).trans (jumpTo_inside hn hi)),
    fun s slot f c r hr hc hf => fj_gives hr rfl (fjJcc_passed hc hf),
    fun s slot f c r hr hc hf ho => fj_gives hr rfl ((fjJcc_taken (f := f.counted) hc hf).trans (jumpTo_outside ho)),
    fun s slot f u r hr hu h1 => fj_gives hr rfl (fjDjnz_last hu h1),
    fun s slot f u r n hr hu h2 hn hi => fj_gives hr rfl (fjDjnz_jumps hu h2 (jumpTo_inside hn hi)),
    fun s slot f u r hr hu h2 ho => fj_gives hr rfl (fjDjnz_outside hu h2 (jumpTo_outside ho)),
    fun s slot f c r hr hc => ⟨fj_gives hr rfl (fjJcc_ill hc), fj_gives hr rfl (fjJcc_ill hc)⟩,
    fun s slot f u r hr hu => fj_gives hr rfl (fjDjnz_ill hu)⟩
  case call => simp [fjCall, Nat.not_le.mpr ha, Nat.not_le.mpr hs]
  case ret => simp [fjRet, hs]
  case retEmpty => simp [fjRet, hs]

end Sys2Proof.Machine
end

section
-- One declaration after another: the check compiles the whole text under a memory limit.
set_option Elab.async false
/-! SUPPORT. Proofs about the load, store and move instructions of the Fjoask (R255, R256). -/

namespace Sys2Proof.Machine
open Sys2Proof

/-- The low 32 bits of a value do not change when it is extended with its sign to 64 bits. -/
theorem ofSigned_mod (k : Int) : ofSigned 32 k % 2 ^ 32 = ofSigned 64 k % 2 ^ 32 := by
  simp only [ofSigned]
  omega

/-- An INT32 local takes the low 32 bits of what it receives. -/
theorem set_int {f : Fj} {d : Loc} (hd : f.ty d = .int) (k : Int) : f.set d (ofSigned 32 k) = f.setI d k := by
  have h := ofSigned_mod k
  simp only [Fj.setI, Fj.set, hd, h]

/-! ### The constant of LDK8 by the type of its local (R256) -/

section
variable {f : Fj} {d : Loc} {k : BitVec 8}

theorem fjLdk8_signed (hd : f.is [.int, .time] d = true) : fjLdk8 d k f = { f := f.setI d k.toInt } := by
  have hall : f.is (.time :: tyW) d = true := is_mono (by decide) hd
  have ht : f.ty d = .int ∨ f.ty d = .time := by simpa using is_mem hd
  rcases ht with ht | ht
  · simp [fjLdk8, Fj.op, Fj.checks, hall, ht, set_int]
  · simp [fjLdk8, Fj.op, Fj.checks, hall, ht]

theorem fjLdk8_unsigned (hd : f.is [.uint, .qual] d = true) : fjLdk8 d k f = { f := f.set d k.toNat } := by
  have hall : f.is (.time :: tyW) d = true := is_mono (by decide) hd
  have ht : f.ty d = .uint ∨ f.ty d = .qual := by simpa using is_mem hd
  rcases ht with ht | ht <;> simp [fjLdk8, Fj.op, Fj.checks, hall, ht]

theorem fjLdk8_bool (hd : f.is [.bool] d = true) (hk : k.toNat < 2) : fjLdk8 d k f = { f := f.set d k.toNat } := by
  have hall : f.is (.time :: tyW) d = true := is_mono (by decide) hd
  have ht : f.ty d = .bool := by simpa using is_mem hd
  simp [fjLdk8, Fj.op, Fj.checks, hall, ht, hk]

theorem fjLdk8_real (hd : f.is [.real] d = true) : fjLdk8 d k f = { f := f.setW d (intToF k.toInt 1).1 } := by
  have hall : f.is (.time :: tyW) d = true := is_mono (by decide) hd
  have ht : f.ty d = .real := by simpa using is_mem hd
  simp [fjLdk8, Fj.op, Fj.checks, hall, ht]

end

theorem ldk8_illegal {f : Fj} {d : Loc} {k : BitVec 8} (h : f.is (.time :: tyW) d = false ∨ (f.ty d = .bool ∧ 2 ≤ k.toNat)) :
    (f.is (.time :: tyW) d && (f.ty d != .bool || decide (k.toNat < 2))) = false := by
  rcases h with h | ⟨ht, hk⟩
  · rw [h, Bool.false_and]
  · rw [ht, decide_eq_false (Nat.not_lt.mpr hk)]
    exact Bool.and_false _

/-- Settles O22: the first check that fails decides (R250); where none does, the value or the word is written. -/
theorem fjLoadsAndStoresComplete : Obligations.FjLoadsAndStoresComplete :=
  ⟨fun _ _ _ _ _ hr hd => fj_gives hr rfl (op_of_legal hd _),
   fun _ _ _ _ _ hr hd ha => fj_gives hr rfl (checks_pass (by simp [hd]) (by simp [ha]) rfl),
   fun _ _ _ _ _ hr hv hw => fj_gives hr rfl (checks_pass (by simp [hv]) rfl (by simp [hw])),
   fun _ _ _ _ _ hr hv ha h1 h2 => fj_gives hr rfl (checks_pass (by simp [hv]) (by simp [ha]) (by simp [h1, h2])),
   fun _ _ _ _ _ _ hr hd hi ha => fj_gives hr rfl (checks_pass (by simp [hd, hi]) (by simp [ha]) rfl),
   fun _ _ _ _ _ _ hr hi hv ha hw => fj_gives hr rfl (checks_pass (by simp [hv, hi]) (by simp [ha]) (by simp [hw])),
   fun _ _ _ _ _ _ hr hd hk => fj_gives hr rfl (op_of_legal (by simp [hd, hk]) _),
   fun _ _ _ _ _ _ hr hv hk hw => fj_gives hr rfl (checks_pass (by simp [hv, hk]) rfl (by simp [hw])),
   fun _ _ _ _ _ hr hs => fj_gives hr rfl (op_of_legal hs _),
   fun _ _ _ _ _ hr hd => fj_gives hr rfl (op_of_legal hd _),
   fun _ _ f _ _ hr hd => fj_gives hr rfl (fjLdk8_signed (f := f.counted) hd),
   fun _ _ f _ _ hr hd => fj_gives hr rfl (fjLdk8_unsigned (f := f.counted) hd),
   fun _ _ f _ _ hr hd hk => fj_gives hr rfl (fjLdk8_bool (f := f.counted) hd hk),
   fun _ _ f _ _ hr hd => fj_gives hr rfl (fjLdk8_real (f := f.counted) hd),
   fun _ _ _ _ _ hr hd => fj_gives hr rfl (op_of_legal hd _),
   fun _ _ _ _ _ hr hd => ⟨fj_gives hr rfl (op_of_illegal hd _), fj_gives hr rfl (checks_ill (by simp [hd]))⟩,
   fun _ _ _ _ _ hr hd => ⟨fj_gives hr rfl (checks_ill (by simp [hd])), fj_gives hr rfl (checks_ill (by simp [hd]))⟩,
   fun _ _ _ _ _ hr hd ha => ⟨fj_gives hr rfl (checks_range (by simp [hd]) (by simp [ha])),
     fj_gives hr rfl (checks_range (by simp [hd]) (by simp [ha]))⟩,
   fun _ _ _ _ _ hr hv hw => fj_gives hr rfl (checks_access (by simp [hv]) rfl (by simp [hw])),
   fun _ _ _ _ _ hr hv ha hw => fj_gives hr rfl (checks_access (by simp [hv]) (by simp [ha]) (by simpa using hw)),
   fun _ _ _ _ _ _ hr hd => ⟨fj_gives hr rfl (checks_ill (by simpa using hd)), fj_gives hr rfl (checks_ill (by simpa using hd.symm))⟩,
   fun _ _ _ _ _ _ hr hd hi ha => ⟨fj_gives hr rfl (checks_range (by simp [hd, hi]) (by simp [ha])),
     fj_gives hr rfl (checks_range (by simp [hd, hi]) (by simp [ha]))⟩,
   fun _ _ _ _ _ _ hr hv hi ha hw => fj_gives hr rfl (checks_access (by simp [hv, hi]) (by simp [ha]) (by simp [hw])),
   fun _ _ _ _ _ _ hr hd => ⟨fj_gives hr rfl (op_of_illegal (by rcases hd with h | h <;> simp [h]) _),
     fj_gives hr rfl (checks_ill (by rcases hd with h | h <;> simp [h]))⟩,
   fun _ _ _ _ _ _ hr hv hk hw => fj_gives hr rfl (checks_access (by simp [hv, hk]) rfl (by simp [hw])),
   fun _ _ _ _ _ hr hs => fj_gives hr rfl (op_of_illegal hs _),
   fun _ _ _ _ _ hr hd => fj_gives hr rfl (op_of_illegal hd _),
   fun _ _ _ _ _ hr hd => fj_gives hr rfl (op_of_illegal (ldk8_illegal hd) _),
   fun _ _ _ _ _ hr hd => fj_gives hr rfl (op_of_illegal hd _)⟩

end Sys2Proof.Machine
end

section
-- One declaration after another: the check compiles the whole text under a memory limit.
set_option Elab.async false
/-! SUPPORT. Proofs about the integer and bit instructions of the Fjoask (R257, R281, R282). -/

namespace Sys2Proof.Machine
open Sys2Proof

section
variable {f : Fj} {d a b : Loc}

theorem fjDiv_of_int_ne_zero (hs : f.same tyIU [d, a, b] = true) (hb : f.int b ≠ 0) :
    fjDiv d a b f = { f := f.sat d (Int.tdiv (f.int a) (f.int b)) } :=
  (op_of_legal hs _).trans (by rw [if_neg hb])

theorem fjRem_of_int_ne_zero (hs : f.same tyIU [d, a, b] = true) (hb : f.int b ≠ 0) :
    fjRem d a b f = { f := f.setI d (Int.tmod (f.int a) (f.int b)) } :=
  (op_of_legal hs _).trans (by rw [if_neg hb])

/-- SHR shifts by the smaller of the count and the width. -/
theorem fjShr_legal (hs : (f.same tyIUQ [d, a] && f.is [.uint] b) = true) :
    fjShr d a b f = { f := f.setI d (f.int a / (2 ^ min (f.val b) (widthOf (f.ty d)) : Nat)) } := by
  refine (op_of_legal hs _).trans ?_
  dsimp only
  split
  · next h => rw [Nat.min_eq_right h]
  · next h => rw [Nat.min_eq_left (by omega)]

end

/-- Settles O23: each instruction is one check of its operand types and one value for local d. -/
theorem fjIntegerInstructionsComplete : Obligations.FjIntegerInstructionsComplete := by
  refine ⟨fun _ _ _ _ _ _ hr hs => fj_gives hr rfl (op_of_legal hs _),
    fun _ _ _ _ _ _ hr hs => fj_gives hr rfl (op_of_legal hs _),
    fun _ _ _ _ _ _ hr hs => fj_gives hr rfl (op_of_legal hs _),
    fun _ _ f _ _ _ hr hs hb => fj_gives hr rfl (fjDiv_of_int_ne_zero (f := f.counted) hs hb),
    fun _ _ _ _ _ _ hr hs hb => fjDiv_ends_of_int_eq_zero hr hs hb,
    fun _ _ f _ _ _ hr hs hb => fj_gives hr rfl (fjRem_of_int_ne_zero (f := f.counted) hs hb),
    fun _ _ _ _ _ _ hr hs hb => fjRem_ends_of_int_eq_zero hr hs hb,
    fun _ _ _ _ _ hr hs => fj_gives hr rfl (op_of_legal hs _),
    fun _ _ _ _ _ hr hs => fj_gives hr rfl (op_of_legal hs _),
    fun _ _ _ _ _ _ hr hs => fj_gives hr rfl (op_of_legal hs _),
    fun _ _ _ _ _ _ hr hs => fj_gives hr rfl (op_of_legal hs _),
    fun _ _ _ _ _ _ hr hs => fj_gives hr rfl (op_of_legal hs _),
    fun _ _ _ _ _ _ hr hs => fj_gives hr rfl (op_of_legal hs _),
    fun _ _ _ _ _ _ hr hs => fj_gives hr rfl (op_of_legal hs _),
    fun _ _ _ _ _ _ hr hs => fj_gives hr rfl (op_of_legal hs _),
    fun _ _ _ _ _ hr hs => fj_gives hr rfl (op_of_legal hs _),
    fun _ _ _ _ _ _ hr hs hb => fj_gives hr rfl (op_of_legal (by simp [hs, hb]) _),
    fun _ _ f _ _ _ hr hs hb => fj_gives hr rfl (fjShr_legal (f := f.counted) (by simp [hs, hb])),
    ?iut, ?iu, ?it, fun _ _ _ _ _ _ hr hs => fj_gives hr rfl (op_of_illegal hs _), ?iuq,
    fun _ _ _ _ _ hr hs => fj_gives hr rfl (op_of_illegal hs _), ?shift⟩
  case iut =>
    intro s slot f d a b i hr hi hs
    simp only [List.mem_cons, List.not_mem_nil, or_false] at hi
    rcases hi with rfl | rfl | rfl | rfl <;> exact fj_gives hr rfl (op_of_illegal hs _)
  case iu =>
    intro s slot f d a b i hr hi hs
    simp only [List.mem_cons, List.not_mem_nil, or_false] at hi
    rcases hi with rfl | rfl | rfl <;> exact fj_gives hr rfl (op_of_illegal hs _)
  case it =>
    intro s slot f d a i hr hi hs
    simp only [List.mem_cons, List.not_mem_nil, or_false] at hi
    rcases hi with rfl | rfl <;> exact fj_gives hr rfl (op_of_illegal hs _)
  case iuq =>
    intro s slot f d a b i hr hi hs
    simp only [List.mem_cons, List.not_mem_nil, or_false] at hi
    rcases hi with rfl | rfl | rfl <;> exact fj_gives hr rfl (op_of_illegal hs _)
  case shift =>
    intro s slot f d a b i hr hi hs
    have hill : (f.same tyIUQ [d, a] && f.is [.uint] b) = false := Bool.and_eq_false_iff.mpr hs
    simp only [List.mem_cons, List.not_mem_nil, or_false] at hi
    rcases hi with rfl | rfl <;> exact fj_gives hr rfl (op_of_illegal hill _)

end Sys2Proof.Machine
end

section
-- One declaration after another: the check compiles the whole text under a memory limit.
set_option Elab.async false
/-! SUPPORT. Proofs about the real instructions and CVT of the Fjoask (R257 to R259, R283, R287). -/

namespace Sys2Proof.Machine
open Sys2Proof

/-- Gaining no flag changes nothing (R285). -/
theorem flags_none (f : Fj) : f.flags {} = f := by simp [Fj.flags, FFlags.or]

/-- A real operation that sets no flag only writes its result. -/
theorem fjReal_quiet {f : Fj} {d a : Loc} (hs : f.same [.real] [d, a] = true) (g : Word → Word) :
    fjReal (fun w => (g w, {})) d a f = { f := f.setW d (g (f.word a)) } :=
  (op_of_legal hs _).trans (congrArg (fun x => ({ f := x } : FjOut)) (flags_none _))

/-! ### CVT by its pair of types (R259) -/

section
variable {f : Fj} {d a : Loc}

/-- Two locals of types of the machine pass the first check of CVT. -/
theorem both_typed {l m : List Ty} (hm : m ⊆ tyAll) (hd : f.is m d = true) (hl : l ⊆ tyAll) (ha : f.is l a = true) :
    (f.is tyAll d && f.is tyAll a) = true := by
  simp [is_mono hm hd, is_mono hl ha]

theorem fjCvt_to_real (ha : f.is [.int, .uint] a = true) (hd : f.is [.real] d = true) :
    fjCvt d a f = { f := (f.setW d (intToF (f.int a) 1).1).flags (intToF (f.int a) 1).2 } := by
  have hall : (f.is tyAll d && f.is tyAll a) = true := both_typed (by decide) hd (by decide) ha
  have htd : f.ty d = .real := by simpa using is_mem hd
  have hta : f.ty a = .int ∨ f.ty a = .uint := by simpa using is_mem ha
  rcases hta with hta | hta <;> simp [fjCvt, hall, htd, hta]

theorem fjCvt_of_real (ha : f.is [.real] a = true) (hd : f.is [.int, .uint] d = true) :
    fjCvt d a f = { f := (f.setI d (fToInt (limits (f.ty d)).1 (limits (f.ty d)).2 1 (f.word a)).1).flags (fToInt (limits (f.ty d)).1 (limits (f.ty d)).2 1 (f.word a)).2 } := by
  have hall : (f.is tyAll d && f.is tyAll a) = true := both_typed (by decide) hd (by decide) ha
  have hta : f.ty a = .real := by simpa using is_mem ha
  have htd : f.ty d = .int ∨ f.ty d = .uint := by simpa using is_mem hd
  rcases htd with htd | htd <;> simp [fjCvt, hall, htd, hta]

theorem fjCvt_int_uint (ha : f.is [.int, .uint] a = true) (hd : f.is [.int, .uint] d = true) (hne : f.ty a ≠ f.ty d) :
    fjCvt d a f = { f := f.sat d (f.int a) } := by
  have hall : (f.is tyAll d && f.is tyAll a) = true := both_typed (by decide) hd (by decide) ha
  have hta : f.ty a = .int ∨ f.ty a = .uint := by simpa using is_mem ha
  have htd : f.ty d = .int ∨ f.ty d = .uint := by simpa using is_mem hd
  rcases hta with hta | hta <;> rcases htd with htd | htd <;> rw [hta, htd] at hne
  · exact absurd rfl hne
  · simp [fjCvt, hall, htd, hta]
  · simp [fjCvt, hall, htd, hta]
  · exact absurd rfl hne

theorem fjCvt_time_real (ha : f.is [.time] a = true) (hd : f.is [.real] d = true) :
    fjCvt d a f = { f := (f.setW d (intToF (f.int a) 1000000000).1).flags (intToF (f.int a) 1000000000).2 } := by
  have hall : (f.is tyAll d && f.is tyAll a) = true := both_typed (by decide) hd (by decide) ha
  have hta : f.ty a = .time := by simpa using is_mem ha
  have htd : f.ty d = .real := by simpa using is_mem hd
  simp [fjCvt, hall, htd, hta]

theorem fjCvt_real_time (ha : f.is [.real] a = true) (hd : f.is [.time] d = true) :
    fjCvt d a f = { f := (f.setI d (fToInt (limits .time).1 (limits .time).2 1000000000 (f.word a)).1).flags (fToInt (limits .time).1 (limits .time).2 1000000000 (f.word a)).2 } := by
  have hall : (f.is tyAll d && f.is tyAll a) = true := both_typed (by decide) hd (by decide) ha
  have hta : f.ty a = .real := by simpa using is_mem ha
  have htd : f.ty d = .time := by simpa using is_mem hd
  simp [fjCvt, hall, htd, hta]

theorem fjCvt_of_bool (ha : f.is [.bool] a = true) (hd : f.is [.int, .uint] d = true) :
    fjCvt d a f = { f := f.set d (f.val a) } := by
  have hall : (f.is tyAll d && f.is tyAll a) = true := both_typed (by decide) hd (by decide) ha
  have hta : f.ty a = .bool := by simpa using is_mem ha
  have htd : f.ty d = .int ∨ f.ty d = .uint := by simpa using is_mem hd
  rcases htd with htd | htd <;> simp [fjCvt, hall, htd, hta]

theorem fjCvt_to_bool (ha : f.is [.int, .uint] a = true) (hd : f.is [.bool] d = true) :
    fjCvt d a f = { f := f.setB d (f.val a != 0) } := by
  have hall : (f.is tyAll d && f.is tyAll a) = true := both_typed (by decide) hd (by decide) ha
  have hta : f.ty a = .int ∨ f.ty a = .uint := by simpa using is_mem ha
  have htd : f.ty d = .bool := by simpa using is_mem hd
  rcases hta with hta | hta <;> simp [fjCvt, hall, htd, hta]

/-- Every other pair of types is ILL (R259). -/
theorem fjCvt_ill (h : f.ty d = f.ty a ∨ f.is [.bool, .int, .uint, .real, .time] d = false ∨
    f.is [.bool, .int, .uint, .real, .time] a = false ∨ (f.ty a = .bool ∧ f.ty d = .real) ∨ (f.ty a = .real ∧ f.ty d = .bool) ∨
    (f.ty a = .time ∧ f.ty d ≠ .real) ∨ (f.ty d = .time ∧ f.ty a ≠ .real)) :
    fjCvt d a f = { f := f, fault := 1 } := by
  by_cases hall : (f.is tyAll d && f.is tyAll a) = true
  · simp only [Fj.is, Bool.and_eq_true, decide_eq_true_eq] at hall h
    obtain ⟨⟨hd, -⟩, ha, -⟩ := hall
    cases hta : f.ty a <;> cases htd : f.ty d <;> simp_all [fjCvt]
  · simp [fjCvt, hall]

end

/-- Settles O24: each instruction is one check of its operand types, one value for local d and the operation's flags. -/
theorem fjRealInstructionsComplete : Obligations.FjRealInstructionsComplete := by
  refine ⟨fun _ _ _ _ _ _ hr hs => fj_gives hr rfl (op_of_legal hs _),
    fun _ _ _ _ _ _ hr hs => fj_gives hr rfl (op_of_legal hs _),
    fun _ _ _ _ _ _ hr hs => fj_gives hr rfl (op_of_legal hs _),
    fun _ _ _ _ _ _ hr hs => fj_gives hr rfl (op_of_legal hs _),
    fun _ _ _ _ _ _ _ hr hs => fj_gives hr rfl (op_of_legal hs _),
    fun _ _ _ _ _ hr hs => fj_gives hr rfl (op_of_legal hs _),
    fun _ _ f _ _ hr hs => fj_gives hr rfl (fjReal_quiet (f := f.counted) hs fNeg),
    fun _ _ f _ _ hr hs => fj_gives hr rfl (fjReal_quiet (f := f.counted) hs fAbs),
    fun _ _ _ _ _ _ hr hs => fj_gives hr rfl (op_of_legal hs _),
    fun _ _ _ _ _ _ hr hs => fj_gives hr rfl (op_of_legal hs _),
    fun _ _ _ _ _ hr hs => fj_gives hr rfl (op_of_legal hs _),
    fun _ _ _ _ _ hr hs => fj_gives hr rfl (op_of_legal hs _),
    fun _ _ _ _ _ hr hs => fj_gives hr rfl (op_of_legal hs _),
    fun _ _ _ _ _ _ hr hs => fj_gives hr rfl (op_of_legal hs _),
    fun _ _ f _ _ hr ha hd => fj_gives hr rfl (fjCvt_to_real (f := f.counted) ha hd),
    fun _ _ f _ _ hr ha hd => fj_gives hr rfl (fjCvt_of_real (f := f.counted) ha hd),
    fun _ _ f _ _ hr ha hd hne => fj_gives hr rfl (fjCvt_int_uint (f := f.counted) ha hd hne),
    fun _ _ f _ _ hr ha hd => fj_gives hr rfl (fjCvt_time_real (f := f.counted) ha hd),
    fun _ _ f _ _ hr ha hd => fj_gives hr rfl (fjCvt_real_time (f := f.counted) ha hd),
    fun _ _ f _ _ hr ha hd => fj_gives hr rfl (fjCvt_of_bool (f := f.counted) ha hd),
    fun _ _ f _ _ hr ha hd => fj_gives hr rfl (fjCvt_to_bool (f := f.counted) ha hd),
    ?two, fun _ _ _ _ _ _ _ hr hs => fj_gives hr rfl (op_of_illegal hs _), ?one, ?page,
    fun _ _ _ _ _ _ hr hs => fj_gives hr rfl (op_of_illegal hs _),
    fun _ _ f _ _ hr h => fj_gives hr rfl (fjCvt_ill (f := f.counted) h)⟩
  case two =>
    intro s slot f d a b i hr hi hs
    simp only [List.mem_cons, List.not_mem_nil, or_false] at hi
    rcases hi with rfl | rfl | rfl | rfl | rfl | rfl <;> exact fj_gives hr rfl (op_of_illegal hs _)
  case one =>
    intro s slot f d a i hr hi hs
    simp only [List.mem_cons, List.not_mem_nil, or_false] at hi
    rcases hi with rfl | rfl | rfl | rfl <;> exact fj_gives hr rfl (op_of_illegal hs _)
  case page =>
    intro s slot f d a i hr hi hs
    simp only [List.mem_cons, List.not_mem_nil, or_false] at hi
    rcases hi with rfl | rfl <;> exact fj_gives hr rfl (op_of_illegal hs _)

end Sys2Proof.Machine
end

section
-- One declaration after another: the check compiles the whole text under a memory limit.
set_option Elab.async false
/-! SUPPORT. Proofs about the compare, select, boolean, edge and latch instructions of the Fjoask (R260, R261). -/

namespace Sys2Proof.Machine
open Sys2Proof

/-! ### CMP by the type of what it compares (R260) -/

section
variable {f : Fj} {d a b : Loc} {cond : BitVec 8}

theorem fjCmp_ordered (hd : f.is [.bool] d = true) (hs : f.same [.int, .uint, .time] [a, b] = true) (hc : cond.toNat ≤ 5) :
    fjCmp d a b cond f = { f := f.setB d (match cond.toNat with | 0 => f.int a == f.int b | 1 => f.int a != f.int b | 2 => decide (f.int a < f.int b) | 3 => decide (f.int a ≤ f.int b) | 4 => decide (f.int b < f.int a) | _ => decide (f.int b ≤ f.int a)) } := by
  have hall : f.same [.int, .uint, .real, .time, .qual, .bool] [a, b] = true := same_mono (by decide) hs
  have hta : f.ty a = .int ∨ f.ty a = .uint ∨ f.ty a = .time := by simpa using is_mem (same_head hs)
  rcases hta with hta | hta | hta <;> simp [fjCmp, Fj.op, Fj.checks, hd, hall, hc, hta] <;> rfl

theorem fjCmp_equality (hd : f.is [.bool] d = true) (hs : f.same [.qual, .bool] [a, b] = true) (hc : cond.toNat ≤ 1) :
    fjCmp d a b cond f = { f := f.setB d (if cond.toNat = 0 then f.int a == f.int b else f.int a != f.int b) } := by
  have hall : f.same [.int, .uint, .real, .time, .qual, .bool] [a, b] = true := same_mono (by decide) hs
  have hta : f.ty a = .qual ∨ f.ty a = .bool := by simpa using is_mem (same_head hs)
  have hcond : cond.toNat = 0 ∨ cond.toNat = 1 := by omega
  rcases hta with hta | hta <;> rcases hcond with hk | hk <;> simp [fjCmp, Fj.op, Fj.checks, hd, hall, hk, hta]

theorem fjCmp_real (hd : f.is [.bool] d = true) (hs : f.same [.real] [a, b] = true) (hc : cond.toNat ≤ 5) :
    fjCmp d a b cond f = { f := (f.setB d (fCompare cond.toNat (f.word a) (f.word b)).1).flags { iv := (fCompare cond.toNat (f.word a) (f.word b)).2 } } := by
  have hall : f.same [.int, .uint, .real, .time, .qual, .bool] [a, b] = true := same_mono (by decide) hs
  have hta : f.ty a = .real := same_head_ty hs
  simp [fjCmp, Fj.op, Fj.checks, hd, hall, hc, hta]

theorem fjCmp_ill (h : f.is [.bool] d = false ∨ f.same [.int, .uint, .real, .time, .qual, .bool] [a, b] = false ∨
    5 < cond.toNat ∨ ((f.ty a = .qual ∨ f.ty a = .bool) ∧ 1 < cond.toNat)) : fjCmp d a b cond f = { f := f, fault := 1 } := by
  unfold fjCmp
  refine op_of_illegal ?_ _
  rcases h with h | h | h | ⟨ht, h⟩
  · simp [h]
  · simp [h]
  · simp [Nat.not_le.mpr h]
  · rcases ht with ht | ht <;> simp [ht, Nat.not_le.mpr h]

end

/-! ### LIM by the type of its operands (R260) -/

section
variable {f : Fj} {d a lo hi : Loc}

theorem fjLim_ordered (hs : f.same [.int, .uint, .time] [d, a, lo, hi] = true) :
    fjLim d a lo hi f = { f := f.setI d (min (max (f.int a) (f.int lo)) (f.int hi)) } := by
  have hd : f.ty d ≠ .real := fun h => by simpa [h] using is_mem (same_head hs)
  exact (op_of_legal (same_mono (by decide) hs) _).trans (by rw [if_neg hd])

theorem fjLim_real (hs : f.same [.real] [d, a, lo, hi] = true) :
    fjLim d a lo hi f = { f := (f.setW d (fMinMax false (fMinMax true (f.word a) (f.word lo)).1 (f.word hi)).1).flags ((fMinMax true (f.word a) (f.word lo)).2.or (fMinMax false (fMinMax true (f.word a) (f.word lo)).1 (f.word hi)).2) } :=
  (op_of_legal (same_mono (by decide) hs) _).trans (by rw [if_pos (same_head_ty hs)])

end

/-- Settles O25: each instruction is one check of its operands and one value for its destination. -/
theorem fjComparisonsAndBooleansComplete : Obligations.FjComparisonsAndBooleansComplete := by
  refine ⟨fun _ _ f _ _ _ _ hr hd hs hc => fj_gives hr rfl (fjCmp_ordered (f := f.counted) hd hs hc),
    fun _ _ f _ _ _ _ hr hd hs hc => fj_gives hr rfl (fjCmp_equality (f := f.counted) hd hs hc),
    fun _ _ f _ _ _ _ hr hd hs hc => fj_gives hr rfl (fjCmp_real (f := f.counted) hd hs hc),
    fun _ _ _ _ _ _ hr hs => fj_gives hr rfl (op_of_legal hs _),
    fun _ _ _ _ _ _ hr hs => fj_gives hr rfl (op_of_legal hs _),
    fun _ _ _ _ _ _ hr hs => fj_gives hr rfl (op_of_legal hs _),
    fun _ _ _ _ _ hr hs => fj_gives hr rfl (op_of_legal hs _),
    fun _ _ _ _ _ _ _ hr hc hs => fj_gives hr rfl (op_of_legal (by simp [hc, hs]) _),
    fun _ _ f _ _ _ _ hr hs => fj_gives hr rfl (fjLim_ordered (f := f.counted) hs),
    fun _ _ f _ _ _ _ hr hs => fj_gives hr rfl (fjLim_real (f := f.counted) hs),
    fun _ _ _ _ _ _ hr hd hq => fj_gives hr rfl (op_of_legal (by simp [hd, hq]) _),
    fun _ _ _ _ _ _ hr hs => fj_gives hr rfl (op_of_legal hs _),
    fun _ _ _ _ _ _ hr hs => fj_gives hr rfl (op_of_legal hs _),
    fun _ _ _ _ _ _ hr hs => fj_gives hr rfl (op_of_legal hs _),
    fun _ _ _ _ _ _ hr hs => fj_gives hr rfl (op_of_legal hs _),
    fun _ _ _ _ _ _ hr hs => fj_gives hr rfl (op_of_legal hs _),
    fun _ _ f _ _ _ _ hr h => fj_gives hr rfl (fjCmp_ill (f := f.counted) h),
    ?bools, fun _ _ _ _ _ hr hs => fj_gives hr rfl (op_of_illegal hs _),
    fun _ _ _ _ _ _ _ hr h => fj_gives hr rfl (op_of_illegal (Bool.and_eq_false_iff.mpr h) _),
    fun _ _ _ _ _ _ _ hr hs => fj_gives hr rfl (op_of_illegal hs _),
    fun _ _ _ _ _ _ hr h => fj_gives hr rfl (op_of_illegal (Bool.and_eq_false_iff.mpr h) _)⟩
  case bools =>
    intro s slot f d a b i hr hi hs
    simp only [List.mem_cons, List.not_mem_nil, or_false] at hi
    rcases hi with rfl | rfl | rfl | rfl | rfl | rfl | rfl | rfl <;> exact fj_gives hr rfl (op_of_illegal hs _)

end Sys2Proof.Machine
end

section
-- One declaration after another: the check compiles the whole text under a memory limit.
set_option Elab.async false
/-! SUPPORT. Proofs about the timer, time and counter instructions of the Fjoask (R262, R263). -/

namespace Sys2Proof.Machine
open Sys2Proof

/-! ### The range of a duration and of a period (R263) -/

section
variable {f : Fj} {a : Loc} {t : BitVec 16} (ha : f.is [.time] a = true)
include ha

theorem fjTstart_range (hm : f.tIll t.toNat 1 = false) (h : f.tOut t.toNat = true ∨ f.int a < 0) :
    fjTstart t a f = { f := f, fault := 2 } :=
  checks_range (by simp [ha, hm]) (by simpa using h)

theorem fjTpause_range (hm : f.tIll t.toNat 1 = false) (h : f.tOut t.toNat = true ∨ f.int a < 0) :
    fjTpause t a f = { f := f, fault := 2 } :=
  checks_range (by simp [ha, hm]) (by simpa using h)

theorem fjTstartp_range (hm : f.tIll t.toNat 2 = false)
    (h : f.tOut t.toNat = true ∨ f.int a ≤ 0 ∨ 2 ^ 32 ≤ usOf (f.int a).toNat) : fjTstartp t a f = { f := f, fault := 2 } :=
  checks_range (by simp [ha, hm]) (by simpa [or_assoc] using h)

theorem fjTstartp_legal (hm : f.tIll t.toNat 2 = false) (ht : f.tOut t.toNat = false) (h0 : 0 < f.int a)
    (hp : usOf (f.int a).toNat < 2 ^ 32) :
    fjTstartp t a f = { f := f.stage (.timer t.toNat (.startP f.te (usOf (f.int a).toNat))) } :=
  checks_pass (by simp [ha, hm]) (by simpa [ht] using ⟨h0, hp⟩) rfl

end

/-! ### TREAD by its selector (R263) -/

section
variable {f : Fj} {d : Loc} {t : BitVec 16} {k : BitVec 8}

theorem fjTread_ill (h : 4 < k.toNat ∨ f.is (if k.toNat = 0 then [.bool] else if k.toNat ≤ 2 then [.time] else [.uint]) d = false) :
    fjTread d t k f = { f := f, fault := 1 } :=
  checks_ill (by rcases h with h | h <;> simp [h])

theorem fjTread_range (hk : k.toNat ≤ 4)
    (hd : f.is (if k.toNat = 0 then [.bool] else if k.toNat ≤ 2 then [.time] else [.uint]) d = true) (ht : f.tOut t.toNat = true) :
    fjTread d t k f = { f := f, fault := 2 } :=
  checks_range (by simp [hd, Nat.not_lt.mpr hk]) ht

end

/-! ### TON by its input and the state of its timer (R263) -/

section
variable {f : Fj} {d i p : Loc} {t : BitVec 16} (hd : f.is [.bool] d = true) (hi : f.is [.bool] i = true)
  (hp : f.is [.time] p = true) (hm : f.tIll t.toNat 1 = false)
include hd hi hp hm

theorem fjTon_range (h : f.tOut t.toNat = true ∨ f.int p < 0) : fjTon d t i p f = { f := f, fault := 2 } :=
  checks_range (by simp [hd, hi, hp, hm]) (by simpa using h)

variable (ht : f.tOut t.toNat = false) (h0 : 0 ≤ f.int p)
include ht h0

theorem fjTon_off (hf : f.flag i = false) : fjTon d t i p f = { f := (f.stage (.timer t.toNat .cancel)).setB d false } := by
  simp [fjTon, Fj.checks, hd, hi, hp, hm, ht, Int.not_lt.mpr h0, hf]

theorem fjTon_running (hf : f.flag i = true) (hr : (f.timer t.toNat).mode ≠ .idle) :
    fjTon d t i p f = { f := f.setB d ((f.timer t.toNat).due f.te) } := by
  simp [fjTon, Fj.checks, hd, hi, hp, hm, ht, Int.not_lt.mpr h0, hf, hr]

theorem fjTon_starts (hf : f.flag i = true) (hr : (f.timer t.toNat).mode = .idle) :
    fjTon d t i p f = { f := (f.stage (.timer t.toNat (.start f.te (usOf (f.int p).toNat)))).setB d (((f.stage (.timer t.toNat (.start f.te (usOf (f.int p).toNat)))).timer t.toNat).due f.te) } := by
  simp [fjTon, Fj.checks, hd, hi, hp, hm, ht, Int.not_lt.mpr h0, hf, hr]

end

/-- CTU and CTD count a rising edge of their input, kept in their state local (R263). -/
theorem fjCount_legal {f : Fj} {c i m : Loc} (up : Bool) (hc : f.is [.uint] c = true) (hi : f.is [.bool] i = true)
    (hm : f.is [.bool] m = true) : fjCount up c i m f =
      { f := if f.flag i && !f.flag m then (f.setB m (f.flag i)).sat c (if up then (f.val c : Int) + 1 else (f.val c : Int) - 1) else f.setB m (f.flag i) } :=
  op_of_legal (by simp [hc, hi, hm]) _

theorem fjCount_ill {f : Fj} {c i m : Loc} (up : Bool) (h : f.is [.uint] c = false ∨ f.is [.bool] i = false ∨ f.is [.bool] m = false) :
    fjCount up c i m f = { f := f, fault := 1 } :=
  op_of_illegal (by rcases h with h | h | h <;> simp [h]) _

/-- Settles O26: the first check that fails decides (R250); where none does, the operation is staged or the local is set. -/
theorem fjTimerInstructionsComplete : Obligations.FjTimerInstructionsComplete := by
  refine ⟨fun _ _ _ _ _ hr ha hm ht h0 => fj_gives hr rfl (checks_pass (by simp [ha, hm]) (by simp [ht, Int.not_lt.mpr h0]) rfl),
    fun _ _ f _ _ hr ha hm ht h0 hp => fj_gives hr rfl (fjTstartp_legal (f := f.counted) ha hm ht h0 hp),
    fun _ _ _ _ hr hm ht => fj_gives hr rfl (checks_pass hm ht rfl),
    fun _ _ _ _ hr ht => fj_gives hr rfl (checks_pass rfl ht rfl),
    fun _ _ _ _ _ hr ha hm ht h0 => fj_gives hr rfl (checks_pass (by simp [ha, hm]) (by simp [ht, Int.not_lt.mpr h0]) rfl),
    fun _ _ _ _ hr hm ht => fj_gives hr rfl (checks_pass hm ht rfl),
    fun _ _ _ _ _ hr hd ht => fj_gives hr rfl (checks_pass (by simp [hd]) ht rfl),
    fun _ _ _ _ _ hr hd ht => fj_gives hr rfl (checks_pass (by simp [hd]) ht rfl),
    fun _ _ _ _ _ hr hd ht => fj_gives hr rfl (checks_pass (by simp [hd]) ht rfl),
    fun _ _ _ _ _ hr hd ht => fj_gives hr rfl (checks_pass (by simp [hd]) ht rfl),
    fun _ _ _ _ _ hr hd ht => fj_gives hr rfl (checks_pass (by simp [hd]) ht rfl),
    fun _ _ f _ _ _ _ hr hd hi hp hm ht h0 hf => fj_gives hr rfl (fjTon_off (f := f.counted) hd hi hp hm ht h0 hf),
    fun _ _ f _ _ _ _ hr hd hi hp hm ht h0 hf hn => fj_gives hr rfl (fjTon_running (f := f.counted) hd hi hp hm ht h0 hf hn),
    fun _ _ _ _ hr hd => fj_gives hr rfl (op_of_legal hd _),
    fun _ _ _ _ hr hd => fj_gives hr rfl (op_of_legal hd _),
    fun _ _ f _ _ _ hr hc hi hm => fj_gives hr rfl (fjCount_legal (f := f.counted) true hc hi hm),
    fun _ _ f _ _ _ hr hc hi hm => fj_gives hr rfl (fjCount_legal (f := f.counted) false hc hi hm),
    fun _ _ f _ _ _ _ hr hd hi hp hm ht h0 hf hn => fj_gives hr rfl (fjTon_starts (f := f.counted) hd hi hp hm ht h0 hf hn),
    fun _ _ _ _ _ hr h => ⟨fj_gives hr rfl (checks_ill (by simpa using h)), fj_gives hr rfl (checks_ill (by simpa using h))⟩,
    fun _ _ f _ _ hr ha hm h => ⟨fj_gives hr rfl (fjTstart_range (f := f.counted) ha hm h),
      fj_gives hr rfl (fjTpause_range (f := f.counted) ha hm h)⟩,
    fun _ _ _ _ _ hr h => fj_gives hr rfl (checks_ill (by simpa using h)),
    fun _ _ f _ _ hr ha hm h => fj_gives hr rfl (fjTstartp_range (f := f.counted) ha hm h),
    fun _ _ _ _ hr hm => fj_gives hr rfl (checks_ill hm),
    fun _ _ _ _ hr hm => fj_gives hr rfl (checks_ill hm),
    ?timers,
    fun _ _ f _ _ _ hr h => fj_gives hr rfl (fjTread_ill (f := f.counted) h),
    fun _ _ f _ _ _ hr hk hd ht => fj_gives hr rfl (fjTread_range (f := f.counted) hk hd ht),
    fun _ _ _ _ _ _ _ hr h => fj_gives hr rfl (checks_ill (by rcases h with h | h | h | h <;> simp [h])),
    fun _ _ f _ _ _ _ hr hd hi hp hm h => fj_gives hr rfl (fjTon_range (f := f.counted) hd hi hp hm h),
    fun _ _ _ _ hr hd => ⟨fj_gives hr rfl (op_of_illegal hd _), fj_gives hr rfl (op_of_illegal hd _)⟩,
    fun _ _ f _ _ _ hr h => ⟨fj_gives hr rfl (fjCount_ill (f := f.counted) true h), fj_gives hr rfl (fjCount_ill (f := f.counted) false h)⟩⟩
  case timers =>
    intro s slot f t i hr hi ht
    have hill : f.tIll t.toNat 3 = false ∧ f.tIll t.toNat 1 = false := by
      have hout : f.img.timers.length ≤ t.toNat := by simpa [Fj.tOut] using ht
      simp [Fj.tIll, Nat.not_lt.mpr hout]
    simp only [List.mem_cons, List.not_mem_nil, or_false] at hi
    rcases hi with rfl | rfl | rfl
    · exact fj_gives hr rfl (checks_range hill.1 ht)
    · exact fj_gives hr rfl (checks_range hill.2 ht)
    · exact fj_gives hr rfl (checks_range rfl ht)

end Sys2Proof.Machine
end

section
-- One declaration after another: the check compiles the whole text under a memory limit.
set_option Elab.async false
/-! SUPPORT. Proofs about the phasor instructions of the Fjoask (R272, R273, R288). -/

namespace Sys2Proof.Machine
open Sys2Proof

section
variable {f : Fj} {d a b c : Loc} {k : BitVec 8}

theorem fjPseq_legal (hs : f.same [.phasor] [d, a, b, c] = true) (h8 : k.toNat < 8) (h3 : k.toNat % 4 ≠ 3) :
    fjPseq d a b c k f = { f := (f.setPh d (pSeq (k.toNat % 4) (bitOf k.toNat 2) (f.ph a) (f.ph b) (f.ph c)).1).flags (pSeq (k.toNat % 4) (bitOf k.toNat 2) (f.ph a) (f.ph b) (f.ph c)).2 } := by
  simp [fjPseq, Fj.op, Fj.checks, hs, h8, h3]

theorem fjPseq_ill (h : f.same [.phasor] [d, a, b, c] = false ∨ 8 ≤ k.toNat ∨ k.toNat % 4 = 3) :
    fjPseq d a b c k f = { f := f, fault := 1 } := by
  unfold fjPseq
  refine op_of_illegal ?_ _
  rcases h with h | h | h
  · rw [h]; rfl
  · rw [decide_eq_false (Nat.not_lt.mpr h), Bool.and_false, Bool.false_and]
  · rw [decide_eq_false (not_not_intro h), Bool.and_false]

end

/-- Settles O27: each instruction is one check of its operand types, one value for local d and the operation's flags. -/
theorem fjPhasorInstructionsComplete : Obligations.FjPhasorInstructionsComplete := by
  refine ⟨fun _ _ _ _ _ _ hr hd hs => fj_gives hr rfl (op_of_legal (by simp [hd, hs]) _),
    fun _ _ _ _ _ _ hr hd hs => fj_gives hr rfl (op_of_legal (by simp [hd, hs]) _),
    fun _ _ _ _ _ hr hd ha => fj_gives hr rfl (op_of_legal (by simp [hd, ha]) _),
    fun _ _ _ _ _ hr hd ha => fj_gives hr rfl (op_of_legal (by simp [hd, ha]) _),
    fun _ _ _ _ _ hr hd ha => fj_gives hr rfl (op_of_legal (by simp [hd, ha]) _),
    fun _ _ _ _ _ hr hd ha => fj_gives hr rfl (op_of_legal (by simp [hd, ha]) _),
    fun _ _ _ _ _ _ hr hs => fj_gives hr rfl (op_of_legal hs _),
    fun _ _ _ _ _ _ hr hs => fj_gives hr rfl (op_of_legal hs _),
    fun _ _ _ _ _ _ hr hs => fj_gives hr rfl (op_of_legal hs _),
    fun _ _ _ _ _ _ hr hs => fj_gives hr rfl (op_of_legal hs _),
    fun _ _ _ _ _ hr hs => fj_gives hr rfl (op_of_legal hs _),
    fun _ _ _ _ _ _ hr hs hx => fj_gives hr rfl (op_of_legal (by simp [hs, hx]) _),
    fun _ _ _ _ _ _ hr hs hx => fj_gives hr rfl (op_of_legal (by simp [hs, hx]) _),
    fun _ _ f _ _ _ _ _ hr hs h8 h3 => fj_gives hr rfl (fjPseq_legal (f := f.counted) hs h8 h3),
    fun _ _ _ _ _ _ hr h => ⟨fj_gives hr rfl (op_of_illegal (Bool.and_eq_false_iff.mpr h) _),
      fj_gives hr rfl (op_of_illegal (Bool.and_eq_false_iff.mpr h) _)⟩,
    ?parts, ?two, fun _ _ _ _ _ hr hs => fj_gives hr rfl (op_of_illegal hs _),
    fun _ _ _ _ _ _ hr h => ⟨fj_gives hr rfl (op_of_illegal (Bool.and_eq_false_iff.mpr h) _),
      fj_gives hr rfl (op_of_illegal (Bool.and_eq_false_iff.mpr h) _)⟩,
    fun _ _ f _ _ _ _ _ hr h => fj_gives hr rfl (fjPseq_ill (f := f.counted) h)⟩
  case parts =>
    intro s slot f d a i hr hi h
    have hill := Bool.and_eq_false_iff.mpr h
    simp only [List.mem_cons, List.not_mem_nil, or_false] at hi
    rcases hi with rfl | rfl | rfl | rfl <;> exact fj_gives hr rfl (op_of_illegal hill _)
  case two =>
    intro s slot f d a b i hr hi hs
    simp only [List.mem_cons, List.not_mem_nil, or_false] at hi
    rcases hi with rfl | rfl | rfl | rfl <;> exact fj_gives hr rfl (op_of_illegal hs _)

end Sys2Proof.Machine
end

section
-- One declaration after another: the check compiles the whole text under a memory limit.
set_option Elab.async false
/-! SUPPORT. Proofs about the task, fast-counter, control-object and event instructions of the Fjoask (R274 to R278). -/

namespace Sys2Proof.Machine
open Sys2Proof

section
variable {f : Fj} {d a : Loc} {k o sel c : BitVec 8}

/-! ### Tasks (R275) -/

theorem fjTask_legal {n : Nat} (on : Bool) (hk : f.kindOf k.toNat = some n) (h1 : n ≠ 1) :
    fjTask on k f = { f := f.stage (if on then .tena k.toNat else .tdis k.toNat) } := by
  simp [fjTask, Fj.checks, hk, h1]

theorem fjTask_absent (on : Bool) (h : f.kindOf k.toNat = none ∨ f.kindOf k.toNat = some 1) :
    fjTask on k f = { f := f, fault := 2 } := by
  rcases h with h | h <;> simp [fjTask, Fj.checks, h]

theorem fjTkick_absent (h : f.kindOf k.toNat ≠ some 2) : fjTkick k f = { f := f, fault := 2 } := by
  simp [fjTkick, Fj.checks, h]

/-- One kick more: the first of a cycle stands for the input half's time, the next ones count. -/
def Fj.kick (f : Fj) (o : Trig) : Trig :=
  if o.count = 0 then { source := 0xFFFFFFFF, count := 1, wall := (tget wzD f.inH 4).toNat + 2 ^ 32 * (tget wzD f.inH 5).toNat, qual := (tget wzD f.inH 6).toNat % 2 ^ 16 }
  else { o with count := o.count + 1 }

theorem fjTkick_ready (hk : f.kindOf k.toNat = some 2) (he : k.toNat ∉ f.c.ended) (hs : k.toNat ∉ f.c.stack)
    (hoff : (tget ctxD f.c.ctxs k.toNat).off = false) :
    fjTkick k f = { f := { f with c := { f.c with ready := insNat k.toNat f.c.ready, due := tupd trigD f.c.due k.toNat f.kick } } } := by
  simp only [fjTkick, Fj.checks, hk, he, hs, hoff]; rfl

theorem fjTkick_kept (hk : f.kindOf k.toNat = some 2)
    (h : k.toNat ∈ f.c.ended ∨ k.toNat ∈ f.c.stack ∨ (tget ctxD f.c.ctxs k.toNat).off = true) :
    fjTkick k f = { f := { f with c := { f.c with kicks := tupd trigD f.c.kicks k.toNat f.kick } } } := by
  simp only [fjTkick, Fj.checks, hk, if_pos h]; rfl

/-! ### Fault records (R275) -/

theorem fjFrec_legal {n : Nat} (hd : f.is [.uint] d = true) (hk : f.kindOf k.toNat = some n) (hj : sel.toNat ≤ 3) (x : Ctx)
    (hx : (if k.toNat = f.t then f.x else tget ctxD f.c.ctxs k.toNat) = x) :
    fjFrec d k sel f = { f := f.set d (match sel.toNat with | 0 => x.fault | 1 => x.fpc | 2 => x.fprog | _ => x.trap) } := by
  subst hx
  simp only [fjFrec, Fj.checks, hd, hk, Nat.not_lt.mpr hj]; rfl

theorem fjFrec_ill (h : f.is [.uint] d = false ∨ 3 < sel.toNat) : fjFrec d k sel f = { f := f, fault := 1 } :=
  checks_ill (by rcases h with h | h <;> simp [h])

theorem fjFrec_absent (hd : f.is [.uint] d = true) (hj : sel.toNat ≤ 3) (hk : f.kindOf k.toNat = none) :
    fjFrec d k sel f = { f := f, fault := 2 } :=
  checks_range (by simp [hd, Nat.not_lt.mpr hj]) (by simp [hk])

/-! ### Fast counters (R276) -/

theorem fjFcrd_count (hk : k.toNat < 8) (hd : f.is [.uint] d = true) :
    fjFcrd d k 0 f = { f := f.setW d (tget wzD f.inH (0x18 + 4 * k.toNat)) } := by
  simp [fjFcrd, Fj.op, Fj.checks, hk, hd]

theorem fjFcrd_stamp (hk : k.toNat < 8) (hd : f.is [.time] d = true) :
    fjFcrd d k 1 f = { f := f.set d ((tget wzD f.inH (0x18 + 4 * k.toNat + 2)).toNat + 2 ^ 32 * (tget wzD f.inH (0x18 + 4 * k.toNat + 3)).toNat) } := by
  simp [fjFcrd, Fj.op, Fj.checks, hk, hd]

theorem fjFcrd_ill (h : 8 ≤ k.toNat ∨ 1 < sel.toNat ∨ (sel = 0 ∧ f.is [.uint] d = false) ∨ (sel = 1 ∧ f.is [.time] d = false)) :
    fjFcrd d k sel f = { f := f, fault := 1 } := by
  unfold fjFcrd
  refine op_of_illegal ?_ _
  rcases h with h | h | ⟨rfl, h⟩ | ⟨rfl, h⟩
  · rw [decide_eq_false (Nat.not_lt.mpr h), Bool.false_and]
  · have h0 : sel ≠ 0 := by rintro rfl; simp at h
    have h1 : sel ≠ 1 := by rintro rfl; simp at h
    simp [show sel ≠ 0#8 from h0, show sel ≠ 1#8 from h1]
  · simp [h]
  · simp [h]

theorem fjFcset_ill (h : 8 ≤ k.toNat ∨ f.is [.uint] a = false) : fjFcset k a f = { f := f, fault := 1 } :=
  checks_ill (by rcases h with h | h <;> simp [h])

/-! ### Control objects (R277) -/

theorem fjCtlrd_ill (h : 5 < sel.toNat ∨ f.is (if sel.toNat = 0 ∨ sel.toNat = 5 then [.bool] else [.uint]) d = false) :
    fjCtlrd d o sel f = { f := f, fault := 1 } :=
  checks_ill (by rcases h with h | h <;> simp [h])

theorem fjCtlrd_absent (hj : sel.toNat ≤ 5) (hd : f.is (if sel.toNat = 0 ∨ sel.toNat = 5 then [.bool] else [.uint]) d = true)
    (ho : f.img.objs.length ≤ o.toNat) : fjCtlrd d o sel f = { f := f, fault := 2 } :=
  checks_range (by simp [hd, Nat.not_lt.mpr hj]) (by simp [ho])

/-- The states of an object as BOOL values. -/
theorem fjCtlrd_state (hd : f.is [.bool] d = true) (ho : o.toNat < f.img.objs.length) :
    fjCtlrd d o 0 f = { f := f.setB d (tget ctlD f.c.objs o.toNat).isPending } ∧
    fjCtlrd d o 5 f = { f := f.setB d (tget ctlD f.c.objs o.toNat).isSelected } :=
  ⟨checks_pass (by simp [hd]) (by simp [ho]) rfl, checks_pass (by simp [hd]) (by simp [ho]) rfl⟩

/-- The fields of an object as UINT32 values, an absent one free. -/
theorem fjCtlrd_field (hd : f.is [.uint] d = true) (ho : o.toNat < f.img.objs.length) (x : CtlObj) (hx : tget ctlD f.c.objs o.toNat = x) :
    fjCtlrd d o 1 f = { f := f.set d (x.value.getD (Config.ctlIdle 1).toNat) } ∧
    fjCtlrd d o 2 f = { f := f.set d (x.client.getD (Config.ctlIdle 2).toNat) } ∧
    fjCtlrd d o 3 f = { f := f.set d (x.auth.getD (Config.ctlIdle 3).toNat) } ∧
    fjCtlrd d o 4 f = { f := f.set d x.result } := by
  subst hx
  exact ⟨checks_pass (by simp [hd]) (by simp [ho]) rfl, checks_pass (by simp [hd]) (by simp [ho]) rfl,
    checks_pass (by simp [hd]) (by simp [ho]) rfl, checks_pass (by simp [hd]) (by simp [ho]) rfl⟩

theorem fjCtlop_legal (ha : f.is [.bool, .uint] a = true) (ho : o.toNat < f.img.objs.length) (hc : c.toNat ≤ 3) :
    fjCtlop o a c f = { f := f.stage (.ctlop o.toNat (f.val a) c.toNat) } :=
  checks_pass (by simp [ha, Nat.not_lt.mpr hc]) (by simp [Nat.not_le.mpr ho]) rfl

theorem fjCtlop_ill (h : f.is [.bool, .uint] a = false ∨ 3 < c.toNat) : fjCtlop o a c f = { f := f, fault := 1 } :=
  checks_ill (by rcases h with h | h <;> simp [h])

theorem fjCtlop_absent (ha : f.is [.bool, .uint] a = true) (hc : c.toNat ≤ 3) (ho : f.img.objs.length ≤ o.toNat) :
    fjCtlop o a c f = { f := f, fault := 2 } :=
  checks_range (by simp [ha, Nat.not_lt.mpr hc]) (by simp [ho])

theorem fjCtlack_legal (ha : f.is [.uint] a = true) (ho : o.toNat < f.img.objs.length) :
    fjCtlack o a f = { f := f.stage (.ack o.toNat (f.val a)) } :=
  checks_pass (by simp [ha]) (by simp [Nat.not_le.mpr ho]) rfl

theorem fjCtlack_absent (ha : f.is [.uint] a = true) (ho : f.img.objs.length ≤ o.toNat) :
    fjCtlack o a f = { f := f, fault := 2 } :=
  checks_range (by simp [ha]) (by simp [ho])

end

/-- An IDLE object has no value, no client and no authority (R277). -/
theorem idle_object {x : CtlObj} (h : x.state = .idle) : x.value = none ∧ x.client = none ∧ x.auth = none := by
  simp [CtlObj.value, CtlObj.client, CtlObj.auth, h]

/-- CTLRD of an object in a state other than IDLE. -/
theorem fjCtlrd_held {f : Fj} {d : Loc} {o : BitVec 8} {v c a : Nat} (hd : f.is [.uint] d = true) (ho : o.toNat < f.img.objs.length)
    (hv : (tget ctlD f.c.objs o.toNat).value = some v) (hc : (tget ctlD f.c.objs o.toNat).client = some c)
    (ha : (tget ctlD f.c.objs o.toNat).auth = some a) :
    fjCtlrd d o 1 f = { f := f.set d v } ∧ fjCtlrd d o 2 f = { f := f.set d c } ∧ fjCtlrd d o 3 f = { f := f.set d a } ∧
    fjCtlrd d o 4 f = { f := f.set d (tget ctlD f.c.objs o.toNat).result } := by
  have h := fjCtlrd_field hd ho _ rfl
  rwa [hv, hc, ha] at h

/-- CTLRD of an IDLE object. -/
theorem fjCtlrd_idle {f : Fj} {d : Loc} {o : BitVec 8} (hd : f.is [.uint] d = true) (ho : o.toNat < f.img.objs.length)
    (hi : (tget ctlD f.c.objs o.toNat).state = .idle) :
    fjCtlrd d o 1 f = { f := f.set d (Config.ctlIdle 1).toNat } ∧ fjCtlrd d o 2 f = { f := f.set d (Config.ctlIdle 2).toNat } ∧
    fjCtlrd d o 3 f = { f := f.set d (Config.ctlIdle 3).toNat } ∧
    fjCtlrd d o 4 f = { f := f.set d (tget ctlD f.c.objs o.toNat).result } := by
  have h := fjCtlrd_field hd ho _ rfl
  obtain ⟨hv, hc, ha⟩ := idle_object hi
  rwa [hv, hc, ha] at h

/-- The four fields of a fault record, of the task itself or of another one. -/
theorem fjFrec_fields {f : Fj} {d : Loc} {k : BitVec 8} {n : Nat} (hd : f.is [.uint] d = true) (hk : f.kindOf k.toNat = some n)
    (x : Ctx) (hx : (if k.toNat = f.t then f.x else tget ctxD f.c.ctxs k.toNat) = x) :
    fjFrec d k 0 f = { f := f.set d x.fault } ∧ fjFrec d k 1 f = { f := f.set d x.fpc } ∧
    fjFrec d k 2 f = { f := f.set d x.fprog } ∧ fjFrec d k 3 f = { f := f.set d x.trap } :=
  ⟨fjFrec_legal hd hk (by decide) x hx, fjFrec_legal hd hk (by decide) x hx, fjFrec_legal hd hk (by decide) x hx,
    fjFrec_legal hd hk (by decide) x hx⟩

/-- Settles O28: the first check that fails decides (R250); where none does, the local is set or the effect is staged. -/
theorem fjTaskAndFieldInstructionsComplete : Obligations.FjTaskAndFieldInstructionsComplete := by
  refine ⟨fun _ _ _ _ hr hd => fj_gives hr rfl (op_of_legal hd _),
    fun _ _ _ _ hr hk => fj_gives hr rfl (op_of_legal (by simpa using hk) _),
    fun _ _ f _ _ hr hk h1 => fj_gives hr rfl (fjTask_legal (f := f.counted) true hk h1),
    fun _ _ f _ _ hr hk h1 => fj_gives hr rfl (fjTask_legal (f := f.counted) false hk h1),
    fun _ _ f _ _ _ hr hd hk ht => ?other,
    fun _ _ f _ _ hr hk hd => fj_gives hr rfl (fjFcrd_count (f := f.counted) hk hd),
    fun _ _ f _ _ hr hk hd => fj_gives hr rfl (fjFcrd_stamp (f := f.counted) hk hd),
    fun _ _ f _ _ hr hk ha hc => fj_gives hr rfl (checks_pass (by simp [hk, ha]) rfl (by simp [hc])),
    fun _ _ f _ hr hk hc => fj_gives hr rfl (checks_pass (by simp [hk]) rfl (by simp [hc])),
    fun _ _ f _ _ hr hd ho => ?state,
    fun _ _ f _ _ _ _ _ hr hd ho hv hc ha => ?held,
    fun _ _ f _ _ hr ha ho => fj_gives hr rfl (fjCtlack_legal (f := f.counted) ha ho),
    fun _ _ f _ _ _ hr ha ho hc => fj_gives hr rfl (fjCtlop_legal (f := f.counted) ha ho hc),
    fun _ _ _ _ _ hr ha => fj_gives hr rfl (op_of_legal ha _),
    fun _ _ f _ hr hk he hs hoff => fj_gives hr rfl (fjTkick_ready (f := f.counted) hk he hs hoff),
    fun _ _ f _ hr hk h => fj_gives hr rfl (fjTkick_kept (f := f.counted) hk h),
    fun _ _ f _ hr h => fj_gives hr rfl (fjTkick_absent (f := f.counted) h),
    fun _ _ f _ hr h => ⟨fj_gives hr rfl (fjTask_absent (f := f.counted) true h), fj_gives hr rfl (fjTask_absent (f := f.counted) false h)⟩,
    fun _ _ _ _ hr hd => fj_gives hr rfl (op_of_illegal hd _),
    fun _ _ _ _ hr hk => fj_gives hr rfl (op_of_illegal (by simpa using hk) _),
    fun _ _ f _ _ _ hr hd hk ht => ?own,
    fun _ _ f _ _ _ hr h => fj_gives hr rfl (fjFrec_ill (f := f.counted) h),
    fun _ _ f _ _ _ hr hd hj hk => fj_gives hr rfl (fjFrec_absent (f := f.counted) hd hj hk),
    fun _ _ f _ _ _ hr h => fj_gives hr rfl (fjFcrd_ill (f := f.counted) h),
    fun _ _ f _ _ hr h => fj_gives hr rfl (fjFcset_ill (f := f.counted) h),
    fun _ _ _ _ _ hr hk ha hc => fj_gives hr rfl (checks_access (by simp [hk, ha]) rfl (by simp [hc])),
    fun _ _ _ _ hr hk => fj_gives hr rfl (checks_ill (by simpa using hk)),
    fun _ _ _ _ hr hk hc => fj_gives hr rfl (checks_access (by simp [hk]) rfl (by simp [hc])),
    fun _ _ f _ _ hr hd ho hi => ?idle,
    fun _ _ f _ _ _ hr h => fj_gives hr rfl (fjCtlrd_ill (f := f.counted) h),
    fun _ _ f _ _ _ hr hj hd ho => fj_gives hr rfl (fjCtlrd_absent (f := f.counted) hj hd ho),
    fun _ _ _ _ _ hr ha => fj_gives hr rfl (checks_ill (by simp [ha])),
    fun _ _ f _ _ hr ha ho => fj_gives hr rfl (fjCtlack_absent (f := f.counted) ha ho),
    fun _ _ f _ _ _ hr h => fj_gives hr rfl (fjCtlop_ill (f := f.counted) h),
    fun _ _ f _ _ _ hr ha hc ho => fj_gives hr rfl (fjCtlop_absent (f := f.counted) ha hc ho),
    fun _ _ _ _ _ hr ha => fj_gives hr rfl (op_of_illegal ha _)⟩
  case other =>
    obtain ⟨h0, h1, h2, h3⟩ := fjFrec_fields (f := f.counted) hd hk _ (if_neg ht)
    exact ⟨fj_gives hr rfl h0, fj_gives hr rfl h1, fj_gives hr rfl h2, fj_gives hr rfl h3⟩
  case own =>
    obtain ⟨h0, h1, h2, h3⟩ := fjFrec_fields (f := f.counted) hd hk _ (if_pos ht)
    exact ⟨fj_gives hr rfl h0, fj_gives hr rfl h1, fj_gives hr rfl h2, fj_gives hr rfl h3⟩
  case state =>
    obtain ⟨h0, h5⟩ := fjCtlrd_state (f := f.counted) hd ho
    exact ⟨fj_gives hr rfl h0, fj_gives hr rfl h5⟩
  case held =>
    obtain ⟨h1, h2, h3, h4⟩ := fjCtlrd_held (f := f.counted) hd ho hv hc ha
    exact ⟨fj_gives hr rfl h1, fj_gives hr rfl h2, fj_gives hr rfl h3, fj_gives hr rfl h4⟩
  case idle =>
    obtain ⟨h1, h2, h3, h4⟩ := fjCtlrd_idle (f := f.counted) hd ho hi
    exact ⟨fj_gives hr rfl h1, fj_gives hr rfl h2, fj_gives hr rfl h3, fj_gives hr rfl h4⟩

end Sys2Proof.Machine
end

section
-- One declaration after another: the check compiles the whole text under a memory limit.
set_option Elab.async false
/-! SUPPORT. Proofs about the long instructions of the Fjoask (R264 to R271). -/

namespace Sys2Proof.Machine
open Sys2Proof

/-! ### Running the elements (R271) -/

section
variable {body : Fj → Nat → Nat → Nat × Fj × Nat} {fin_ : Fj → Nat → Fj}

/-- The elements before `k` have been processed and nothing waits: the run stands at element `k`. -/
theorem fjElems_reaches (G : Nat → Fj × Nat) {n : Nat} : ∀ {k : Nat}, k ≤ n →
    (∀ i < k, body (G i).1 i (G i).2 = (0, (G (i + 1)).1, (G (i + 1)).2)) → (∀ i ≤ k, (G i).1.wanted = false) →
    fjElems body fin_ n 0 n (G 0).1 (G 0).2 = fjElems body fin_ (n - k) k n (G k).1 (G k).2
  | 0, _, _, _ => rfl
  | k + 1, hk, hb, hw => by
    rw [fjElems_reaches G (k := k) (by omega) (fun i hi => hb i (by omega)) (fun i hi => hw i (by omega))]
    obtain ⟨m, hm⟩ : ∃ m, n - k = m + 1 := ⟨n - k - 1, by omega⟩
    rw [hm, show n - (k + 1) = m by omega, fjElems, if_neg (by omega), hb k (by omega)]
    simp [hw (k + 1) (Nat.le_refl _)]

/-- A fault at element `k` leaves the elements before it (R271). -/
theorem fjElems_faults (G : Nat → Fj × Nat) {n k c : Nat} {r : Fj × Nat} (hk : k < n)
    (hb : ∀ i < k, body (G i).1 i (G i).2 = (0, (G (i + 1)).1, (G (i + 1)).2)) (hw : ∀ i ≤ k, (G i).1.wanted = false)
    (hc : c ≠ 0) (hf : body (G k).1 k (G k).2 = (c, r)) :
    fjElems body fin_ n 0 n (G 0).1 (G 0).2 = { f := (G k).1, fault := c, fprog := k } := by
  rw [fjElems_reaches G (Nat.le_of_lt hk) hb hw]
  obtain ⟨m, hm⟩ : ∃ m, n - k = m + 1 := ⟨n - k - 1, by omega⟩
  rw [hm, fjElems, if_neg (by omega), hf, if_pos hc]

/-- Resumed at element `k` with nothing waiting, the elements from `k` on are processed in order (R271). -/
theorem fjElems_folds {step : Fj → Nat → Fj} (hb : ∀ g i q, body g i q = (0, step g i, q)) (hw : ∀ g i, (step g i).wanted = g.wanted)
    {n : Nat} : ∀ {fuel k : Nat} {f : Fj} {q : Nat}, n - k ≤ fuel → f.wanted = false →
    fjElems body fin_ fuel k n f q = { f := fin_ ((List.range' k (n - k)).foldl step f) q }
  | 0, k, f, q, hfuel, _ => by rw [show n - k = 0 by omega]; rfl
  | m + 1, k, f, q, hfuel, hf => by
    rw [fjElems]
    split
    · next h => rw [show n - k = 0 by omega]; rfl
    · next h =>
      have hw' : (step f k).wanted = false := (hw f k).trans hf
      rw [hb, show n - k = n - (k + 1) + 1 by omega, List.range'_succ, List.foldl_cons]
      simp only [ne_eq, not_true_eq_false, if_false, hw', Bool.and_false, Bool.false_eq_true]
      exact fjElems_folds hb hw (by omega) hw'

/-- Where something waits, a run that does not end at element `k` stops after it (R271). -/
theorem fjElems_pauses {n k q : Nat} {f g : Fj} (hk : k + 1 < n) (hb : body f k q = (0, g, q)) (hw : g.wanted = true) :
    fjElems body fin_ n k n f q = { f := g, pause := some (k + 1, BitVec.ofNat 64 q) } := by
  obtain ⟨m, rfl⟩ : ∃ m, n = m + 1 := ⟨n - 1, by omega⟩
  rw [fjElems, if_neg (by omega), hb]
  simp [hw, hk]

/-- Resumed at or past its end an instruction completes at once (R271). -/
theorem fjElems_done {n k q fuel : Nat} {f : Fj} (hk : n ≤ k) : fjElems body fin_ fuel k n f q = { f := fin_ f q } := by
  cases fuel with
  | zero => rfl
  | succ m => rw [fjElems, if_pos hk]

end

/-! ### The elements of the long instructions, as their runs take them (R266 to R270) -/

/-- One element of a gather of `n` elements. -/
def gathElem (a s x n kind bound : Nat) (f : Fj) (i p : Nat) : Nat × Fj × Nat :=
  if bound ≤ f.index x i ∨ !inArea s ((kind + 1) * f.index x i) (kind + 1) then (2, f, p)
  else
    let g := f.wr (a + i) (f.rd (s + (kind + 1) * f.index x i))
    if kind = 0 then (0, g, p)
    else
      let q := f.rd (s + 2 * f.index x i + 1)
      (0, g.wr (a + n + i) q, if qualityFaulted q then Nat.lor p (2 ^ i) else p)

/-- One element of a scatter. -/
def scatElem (a s x bound : Nat) (f : Fj) (i p : Nat) : Nat × Fj × Nat :=
  if bound ≤ f.index x i ∨ !inArea a (f.index x i) 1 then (2, f, p)
  else if f.noWrite (a + f.index x i) then (3, f, p)
  else (0, f.wr (a + f.index x i) (f.rd (s + i)), p)

/-- One word of a block move. -/
def moveStep (a s n : Nat) (f : Fj) (i : Nat) : Fj := f.wr (a + moveOrder a s n i) (f.rd (s + moveOrder a s n i))

/-- One value of CURV, where the table stands. -/
def curvElem (a s : Nat) (f : Fj) (i : Nat) (z : Nat × Word × List (Word × Word)) : Fj :=
  (f.wr (a + i) (curvOf z.1 z.2.1 (f.rd (s + i)) z.2.2).1).flags (curvOf z.1 z.2.1 (f.rd (s + i)) z.2.2).2

section
variable {f : Fj} {m d : Loc} {ad as_ ax at_ : BitVec 16} {n8 : BitVec 8} {n kind bound k : Nat}

/-! ### The checks of the long instructions (R250, R254) -/

theorem fjGath_runs (hm : f.is [.uint] m = true) (hl : f.x.lockcnt = 0) (hh : f.header ax.toNat false = some (n, kind, bound))
    (ha : inArea ad.toNat 0 (if kind = 1 then 2 * n else n) = true) (hw : f.noWrites ad.toNat (if kind = 1 then 2 * n else n) = false) :
    fjGath m ad as_ ax f =
      f.long n (gathElem ad.toNat as_.toNat ax.toNat n kind bound) (fun f p => f.set m (p % 2 ^ 16)) := by
  simp only [fjGath, hh, Option.map_some, Option.getD_some]
  exact checks_pass (by simp [hm, not_locked hl]) (by simp [ha]) hw

theorem fjGath_ill (h : f.is [.uint] m = false ∨ f.x.lockcnt ≠ 0) : fjGath m ad as_ ax f = { f := f, fault := 1 } :=
  checks_ill (by rcases h with h | h <;> simp [h, Fj.locked])

theorem fjGath_header (hm : f.is [.uint] m = true) (hl : f.x.lockcnt = 0) (hh : f.header ax.toNat false = none) :
    fjGath m ad as_ ax f = { f := f, fault := 2 } :=
  checks_range (by simp [hm, not_locked hl]) (by simp [hh])

theorem fjGath_range (hm : f.is [.uint] m = true) (hl : f.x.lockcnt = 0) (hh : f.header ax.toNat false = some (n, k, bound))
    (ha : inArea ad.toNat 0 (if k = 1 then 2 * n else n) = false) : fjGath m ad as_ ax f = { f := f, fault := 2 } :=
  checks_range (by simp [hm, not_locked hl]) (by simp [hh, ha])

theorem fjGath_access (hm : f.is [.uint] m = true) (hl : f.x.lockcnt = 0) (hh : f.header ax.toNat false = some (n, k, bound))
    (ha : inArea ad.toNat 0 (if k = 1 then 2 * n else n) = true) (hw : f.noWrites ad.toNat (if k = 1 then 2 * n else n) = true) :
    fjGath m ad as_ ax f = { f := f, fault := 3 } :=
  checks_access (by simp [hm, not_locked hl]) (by simp [hh, ha]) (by simp [hh, hw])

theorem fjScat_runs (hl : f.x.lockcnt = 0) (hh : f.header ax.toNat true = some (n, kind, bound)) (hs : inArea as_.toNat 0 n = true)
    (ha : ad.toNat < 0x8000 ∨ 0xC000 ≤ ad.toNat) :
    fjScat ad as_ ax f = f.long n (scatElem ad.toNat as_.toNat ax.toNat bound) (fun f _ => f) := by
  simp only [fjScat, hh, Option.map_some, Option.getD_some]
  exact checks_pass (not_locked hl) (by simp [hs]) (by simpa using fun h => ha.resolve_left (Nat.not_lt.mpr h))

theorem fjScat_ill (h : f.x.lockcnt ≠ 0) : fjScat ad as_ ax f = { f := f, fault := 1 } := checks_ill (locked_of h)

theorem fjScat_header (hl : f.x.lockcnt = 0) (hh : f.header ax.toNat true = none) : fjScat ad as_ ax f = { f := f, fault := 2 } :=
  checks_range (not_locked hl) (by simp [hh])

theorem fjScat_range (hl : f.x.lockcnt = 0) (hh : f.header ax.toNat true = some (n, k, bound)) (hs : inArea as_.toNat 0 n = false) :
    fjScat ad as_ ax f = { f := f, fault := 2 } :=
  checks_range (not_locked hl) (by simp [hh, hs])

theorem fjScat_access (hl : f.x.lockcnt = 0) (hh : f.header ax.toNat true = some (n, k, bound)) (hs : inArea as_.toNat 0 n = true)
    (h8 : 0x8000 ≤ ad.toNat) (hc : ad.toNat < 0xC000) : fjScat ad as_ ax f = { f := f, fault := 3 } :=
  checks_access (not_locked hl) (by simp [hh, hs]) (by simp [h8, hc])

theorem fjBmov_long (hl : f.x.lockcnt = 0) (hd : inArea ad.toNat 0 (n256 n8) = true) (hs : inArea as_.toNat 0 (n256 n8) = true)
    (hw : f.noWrites ad.toNat (n256 n8) = false) : fjBmov ad as_ n8 f =
      f.long (n256 n8) (fun f i p => (0, moveStep ad.toNat as_.toNat (n256 n8) f i, p)) (fun f _ => f) :=
  checks_pass (not_locked hl) (by simp [hd, hs]) hw

theorem fjBmov_ill (h : f.x.lockcnt ≠ 0) : fjBmov ad as_ n8 f = { f := f, fault := 1 } := checks_ill (locked_of h)

theorem fjBmov_range (hl : f.x.lockcnt = 0) (h : inArea ad.toNat 0 (n256 n8) = false ∨ inArea as_.toNat 0 (n256 n8) = false) :
    fjBmov ad as_ n8 f = { f := f, fault := 2 } :=
  checks_range (not_locked hl) (by simpa using h)

theorem fjBmov_access (hl : f.x.lockcnt = 0) (hd : inArea ad.toNat 0 (n256 n8) = true) (hs : inArea as_.toNat 0 (n256 n8) = true)
    (hw : f.noWrites ad.toNat (n256 n8) = true) : fjBmov ad as_ n8 f = { f := f, fault := 3 } :=
  checks_access (not_locked hl) (by simp [hd, hs]) hw

theorem fjCurv_ill (h : f.x.lockcnt ≠ 0) : fjCurv ad as_ at_ n8 f = { f := f, fault := 1 } := checks_ill (locked_of h)

theorem fjCurv_range (hl : f.x.lockcnt = 0) (h : n8.toNat = 0 ∨ 64 < n8.toNat ∨ f.curvTable at_.toNat = none ∨
    inArea ad.toNat 0 n8.toNat = false ∨ inArea as_.toNat 0 n8.toNat = false) : fjCurv ad as_ at_ n8 f = { f := f, fault := 2 } :=
  checks_range (not_locked hl) (by rcases h with h | h | h | h | h <;> simp [h])

theorem fjCurv_access (hl : f.x.lockcnt = 0) (h1 : 1 ≤ n8.toNat) (h64 : n8.toNat ≤ 64) (ht : f.curvTable at_.toNat ≠ none)
    (hd : inArea ad.toNat 0 n8.toNat = true) (hs : inArea as_.toNat 0 n8.toNat = true) (hw : f.noWrites ad.toNat n8.toNat = true) :
    fjCurv ad as_ at_ n8 f = { f := f, fault := 3 } :=
  checks_access (not_locked hl) (by simp [Option.isSome_iff_ne_none.mpr ht, hd, hs, Nat.not_lt.mpr h64, Nat.ne_of_gt h1]) hw

theorem fjSumv_ill (h : f.is [.real] d = false ∨ f.x.lockcnt ≠ 0) : fjSumv d as_ n8 f = { f := f, fault := 1 } :=
  checks_ill (by rcases h with h | h <;> simp [h, Fj.locked])

theorem fjSumv_range (hd : f.is [.real] d = true) (hl : f.x.lockcnt = 0) (hs : inArea as_.toNat 0 (n256 n8) = false) :
    fjSumv d as_ n8 f = { f := f, fault := 2 } :=
  checks_range (by simp [hd, not_locked hl]) (by simp [hs])

/-! ### Gathers and scatters element by element (R266, R267) -/

theorem gathered_succ (f : Fj) (a s x i : Nat) : f.gathered a s x (i + 1) =
    (f.gathered a s x i).wr (a + i) ((f.gathered a s x i).rd (s + (f.gathered a s x i).index x i)) := by
  simp only [Fj.gathered, List.range_succ, List.foldl_append, List.foldl_cons, List.foldl_nil]

theorem gathered_wanted (f : Fj) (a s x i : Nat) : (f.gathered a s x i).wanted = f.wanted :=
  fold_keeps _ Fj.wanted (fun _ _ => wr_wanted ..) f i

theorem gathElem_word {g : Fj} {a s x i p : Nat} (hb : g.index x i < bound) (hs : inArea s (g.index x i) 1 = true) :
    gathElem a s x n 0 bound g i p = (0, g.wr (a + i) (g.rd (s + g.index x i)), p) := by
  simp [gathElem, hs, Nat.not_le.mpr hb]

theorem gathElem_out {g : Fj} {a s x i p : Nat} (h : bound ≤ g.index x i ∨ inArea s (g.index x i) 1 = false) :
    gathElem a s x n 0 bound g i p = (2, g, p) := by
  rcases h with h | h <;> simp [gathElem, h]

theorem gatheredPoints_succ (f : Fj) (a s x m i : Nat) : f.gatheredPoints a s x m (i + 1) =
    let g := f.gatheredPoints a s x m i
    let q := g.1.rd (s + 2 * g.1.index x i + 1)
    ((g.1.wr (a + i) (g.1.rd (s + 2 * g.1.index x i))).wr (a + m + i) q, if qualityFaulted q then Nat.lor g.2 (2 ^ i) else g.2) := by
  rw [Fj.gatheredPoints, List.range_succ, List.foldl_append]; rfl

theorem gatheredPoints_wanted (f : Fj) (a s x m i : Nat) : (f.gatheredPoints a s x m i).1.wanted = f.wanted := by
  refine fold_keeps _ (fun g : Fj × Nat => g.1.wanted) (fun g i => ?_) (f, 0) i
  simp only [wr_wanted]

theorem gathElem_point {g : Fj} {a s x i p : Nat} (hb : g.index x i < bound) (hs : inArea s (2 * g.index x i) 2 = true) :
    gathElem a s x n 1 bound g i p = (0, (g.wr (a + i) (g.rd (s + 2 * g.index x i))).wr (a + n + i) (g.rd (s + 2 * g.index x i + 1)),
      if qualityFaulted (g.rd (s + 2 * g.index x i + 1)) then Nat.lor p (2 ^ i) else p) := by
  simp [gathElem, hs, Nat.not_le.mpr hb]

theorem scattered_succ (f : Fj) (a s x i : Nat) : f.scattered a s x (i + 1) =
    (f.scattered a s x i).wr (a + (f.scattered a s x i).index x i) ((f.scattered a s x i).rd (s + i)) := by
  simp only [Fj.scattered, List.range_succ, List.foldl_append, List.foldl_cons, List.foldl_nil]

theorem scattered_wanted (f : Fj) (a s x i : Nat) : (f.scattered a s x i).wanted = f.wanted :=
  fold_keeps _ Fj.wanted (fun _ _ => wr_wanted ..) f i

theorem scatElem_word {g : Fj} {a s x i p : Nat} (hb : g.index x i < bound) (ha : inArea a (g.index x i) 1 = true)
    (hw : g.noWrite (a + g.index x i) = false) :
    scatElem a s x bound g i p = (0, g.wr (a + g.index x i) (g.rd (s + i)), p) := by
  simp [scatElem, ha, hw, Nat.not_le.mpr hb]

theorem scatElem_out {g : Fj} {a s x i p : Nat} (h : bound ≤ g.index x i ∨ inArea a (g.index x i) 1 = false) :
    scatElem a s x bound g i p = (2, g, p) := by
  rcases h with h | h <;> simp [scatElem, h]

end

/-! ### Curves and sums element by element (R269, R270) -/

section
variable {f : Fj} {a s t : Nat} {z : Nat × Word × List (Word × Word)}

/-- The table may be rewritten by an element; where it no longer is one, the table read first stands. -/
theorem curved_succ (ht : f.curvTable t = some z) (i : Nat) :
    f.curved a s t (i + 1) = curvElem a s (f.curved a s t i) i (((f.curved a s t i).curvTable t).getD z) := by
  rw [Fj.curved, List.range_succ, List.foldl_append, List.foldl_cons, List.foldl_nil, ← Fj.curved]
  rw [ht]
  cases (f.curved a s t i).curvTable t <;> rfl

theorem curved_wanted (ht : f.curvTable t = some z) : ∀ i, (f.curved a s t i).wanted = f.wanted
  | 0 => rfl
  | i + 1 => by rw [curved_succ ht, curvElem, flags_wanted, wr_wanted, curved_wanted ht i]

theorem summed_succ (f : Fj) (s k : Nat) : f.summed s (k + 2) =
    ((f.summed s (k + 1)).1.flags (fAdd (f.summed s (k + 1)).2 (f.rd (s + (k + 1)))).2, (fAdd (f.summed s (k + 1)).2 (f.rd (s + (k + 1)))).1) := by
  rw [Fj.summed, show k + 2 - 1 = k + 1 from rfl, List.range_succ, List.foldl_append]; rfl

theorem summed_wanted (f : Fj) (s : Nat) : ∀ k, (f.summed s (k + 1)).1.wanted = f.wanted
  | 0 => rfl
  | k + 1 => by rw [summed_succ, flags_wanted, summed_wanted f s k]

theorem summed_rd (f : Fj) (s w : Nat) : ∀ k, (f.summed s (k + 1)).1.rd w = f.rd w
  | 0 => rfl
  | k + 1 => by rw [summed_succ]; exact summed_rd f s w k

end

/-- What SUMV has after `k` elements: the task with the flags of the additions, and the running sum. -/
def sumAfter (f : Fj) (s : Nat) : Nat → Fj × Nat
  | 0 => (f, 0)
  | k + 1 => ((f.summed s (k + 1)).1, (f.summed s (k + 1)).2.toNat)

/-! ### Whole runs from element 0 -/

/-- A long instruction begins at its first element. -/
theorem long_start {f : Fj} (hp : f.x.prog = 0) (n : Nat) (body : Fj → Nat → Nat → Nat × Fj × Nat) (fin_ : Fj → Nat → Fj) :
    f.long n body fin_ = fjElems body fin_ n 0 n f 0 := by
  simp [Fj.long, hp]

section
variable {f : Fj} {m d : Loc} {ad as_ ax at_ : BitVec 16} {n8 : BitVec 8} {n bound : Nat} (hp : f.x.prog = 0) (hf : f.wanted = false)
include hp hf

theorem gath_words (h : ∀ i < n, (f.gathered ad.toNat as_.toNat ax.toNat i).index ax.toNat i < bound ∧
    inArea as_.toNat ((f.gathered ad.toNat as_.toNat ax.toNat i).index ax.toNat i) 1 = true) :
    f.long n (gathElem ad.toNat as_.toNat ax.toNat n 0 bound) (fun f p => f.set m (p % 2 ^ 16)) =
      { f := (f.gathered ad.toNat as_.toNat ax.toNat n).set m 0 } := by
  rw [long_start hp]
  exact fjElems_runs (fun k => (f.gathered ad.toNat as_.toNat ax.toNat k, 0)) n
    (fun k hk => by rw [gathered_succ, gathElem_word (h k hk).1 (h k hk).2]) (fun k _ => by rw [gathered_wanted, hf]) n 0 (by omega)
    (Nat.zero_le _)

theorem gath_points (h : ∀ i < n, (f.gatheredPoints ad.toNat as_.toNat ax.toNat n i).1.index ax.toNat i < bound ∧
    inArea as_.toNat (2 * (f.gatheredPoints ad.toNat as_.toNat ax.toNat n i).1.index ax.toNat i) 2 = true) :
    f.long n (gathElem ad.toNat as_.toNat ax.toNat n 1 bound) (fun f p => f.set m (p % 2 ^ 16)) =
      { f := (f.gatheredPoints ad.toNat as_.toNat ax.toNat n n).1.set m ((f.gatheredPoints ad.toNat as_.toNat ax.toNat n n).2 % 2 ^ 16) } := by
  rw [long_start hp]
  exact fjElems_runs (fun k => f.gatheredPoints ad.toNat as_.toNat ax.toNat n k) n
    (fun k hk => by rw [gatheredPoints_succ, gathElem_point (h k hk).1 (h k hk).2]) (fun k _ => by rw [gatheredPoints_wanted, hf]) n 0
    (by omega) (Nat.zero_le _)

theorem gath_stops {k : Nat} (hk : k < n) (h : ∀ i < k, (f.gathered ad.toNat as_.toNat ax.toNat i).index ax.toNat i < bound ∧
    inArea as_.toNat ((f.gathered ad.toNat as_.toNat ax.toNat i).index ax.toNat i) 1 = true)
    (hout : bound ≤ (f.gathered ad.toNat as_.toNat ax.toNat k).index ax.toNat k ∨
      inArea as_.toNat ((f.gathered ad.toNat as_.toNat ax.toNat k).index ax.toNat k) 1 = false) :
    f.long n (gathElem ad.toNat as_.toNat ax.toNat n 0 bound) (fun f p => f.set m (p % 2 ^ 16)) =
      { f := f.gathered ad.toNat as_.toNat ax.toNat k, fault := 2, fprog := k } := by
  rw [long_start hp]
  exact fjElems_faults (fun k => (f.gathered ad.toNat as_.toNat ax.toNat k, 0)) hk
    (fun i hi => by rw [gathered_succ, gathElem_word (h i hi).1 (h i hi).2]) (fun i _ => by rw [gathered_wanted, hf]) (by decide)
    (gathElem_out hout)

theorem scat_words (h : ∀ i < n, (f.scattered ad.toNat as_.toNat ax.toNat i).index ax.toNat i < bound ∧
    inArea ad.toNat ((f.scattered ad.toNat as_.toNat ax.toNat i).index ax.toNat i) 1 = true ∧
    (f.scattered ad.toNat as_.toNat ax.toNat i).noWrite (ad.toNat + (f.scattered ad.toNat as_.toNat ax.toNat i).index ax.toNat i) = false) :
    f.long n (scatElem ad.toNat as_.toNat ax.toNat bound) (fun f _ => f) = { f := f.scattered ad.toNat as_.toNat ax.toNat n } := by
  rw [long_start hp]
  refine fjElems_runs (fun k => (f.scattered ad.toNat as_.toNat ax.toNat k, 0)) n (fun k hk => ?_)
    (fun k _ => by rw [scattered_wanted, hf]) n 0 (by omega) (Nat.zero_le _)
  obtain ⟨hb, ha, hw⟩ := h k hk
  rw [scattered_succ, scatElem_word hb ha hw]

theorem scat_stops {k : Nat} (hk : k < n) (h : ∀ i < k, (f.scattered ad.toNat as_.toNat ax.toNat i).index ax.toNat i < bound ∧
    inArea ad.toNat ((f.scattered ad.toNat as_.toNat ax.toNat i).index ax.toNat i) 1 = true ∧
    (f.scattered ad.toNat as_.toNat ax.toNat i).noWrite (ad.toNat + (f.scattered ad.toNat as_.toNat ax.toNat i).index ax.toNat i) = false)
    (hout : bound ≤ (f.scattered ad.toNat as_.toNat ax.toNat k).index ax.toNat k ∨
      inArea ad.toNat ((f.scattered ad.toNat as_.toNat ax.toNat k).index ax.toNat k) 1 = false) :
    f.long n (scatElem ad.toNat as_.toNat ax.toNat bound) (fun f _ => f) =
      { f := f.scattered ad.toNat as_.toNat ax.toNat k, fault := 2, fprog := k } := by
  rw [long_start hp]
  refine fjElems_faults (fun k => (f.scattered ad.toNat as_.toNat ax.toNat k, 0)) hk (fun i hi => ?_)
    (fun i _ => by rw [scattered_wanted, hf]) (by decide) (scatElem_out hout)
  obtain ⟨hb, ha, hw⟩ := h i hi
  rw [scattered_succ, scatElem_word hb ha hw]

theorem fjCurv_runs {z : Nat × Word × List (Word × Word)} (hl : f.x.lockcnt = 0) (ht : f.curvTable at_.toNat = some z)
    (h1 : 1 ≤ n8.toNat) (h64 : n8.toNat ≤ 64) (hd : inArea ad.toNat 0 n8.toNat = true) (hs : inArea as_.toNat 0 n8.toNat = true)
    (hw : f.noWrites ad.toNat n8.toNat = false) :
    fjCurv ad as_ at_ n8 f = { f := f.curved ad.toNat as_.toNat at_.toNat n8.toNat } := by
  refine (checks_pass (not_locked hl) (by simp [ht, hd, hs, Nat.not_lt.mpr h64, Nat.ne_of_gt h1]) hw).trans ?_
  rw [long_start hp]
  refine fjElems_runs (fun k => (f.curved ad.toNat as_.toNat at_.toNat k, 0)) n8.toNat (fun k _ => ?_)
    (fun k _ => by rw [curved_wanted ht, hf]) _ 0 (by omega) (Nat.zero_le _)
  rw [curved_succ ht, ht]
  cases (f.curved ad.toNat as_.toNat at_.toNat k).curvTable at_.toNat <;> simp [curvElem]

theorem fjSumv_runs (hd : f.is [.real] d = true) (hl : f.x.lockcnt = 0) (hs : inArea as_.toNat 0 (n256 n8) = true) :
    fjSumv d as_ n8 f = { f := (f.summed as_.toNat (n256 n8)).1.set d (f.summed as_.toNat (n256 n8)).2.toNat } := by
  refine (checks_pass (by simp [hd, not_locked hl]) (by simp [hs]) rfl).trans ?_
  rw [long_start hp]
  obtain ⟨k, hk⟩ : ∃ k, n256 n8 = k + 1 := Nat.exists_eq_succ_of_ne_zero (by unfold n256; split <;> simp_all [BitVec.toNat_eq])
  rw [hk]
  refine fjElems_runs (sumAfter f as_.toNat) (k + 1) (fun j _ => ?_) (fun j _ => ?_) _ 0 (by omega) (Nat.zero_le _)
  · cases j with
    | zero => rfl
    | succ j => simp [sumAfter, summed_succ, summed_rd]
  · cases j with
    | zero => exact hf
    | succ j => exact (summed_wanted ..).trans hf

end

/-- An instruction outside a LOCK section works on the task as it stands. -/
theorem fj_gives_free {i : Instr} {s : State} {slot len : Nat} {f : Fj} {body : Fj → FjOut} {o : FjOut} (h : FjReady s.blk slot len f)
    (hl : f.x.lockcnt = 0) (hi : exec i s = s.done (s.blk.fj slot len body)) (ho : body f = o) : FjEnds i s slot len f o :=
  fj_gives h hi (by rw [counted_self hl]; exact ho)

/-- Nothing waits, stated of the task outside a LOCK section. -/
theorem undisturbed_free {f : Fj} (hl : f.x.lockcnt = 0) (h : f.undisturbed) : f.wanted = false := by
  rwa [Fj.undisturbed, counted_self hl] at h

/-- The first element of a scatter shows that its destination is not the input half. -/
theorem scat_outside_input {f : Fj} {ad as_ ax : BitVec 16} {n kind bound : Nat} (hh : f.header ax.toNat true = some (n, kind, bound))
    (h : ∀ i < n, inArea ad.toNat ((f.scattered ad.toNat as_.toNat ax.toNat i).index ax.toNat i) 1 = true ∧
      (f.scattered ad.toNat as_.toNat ax.toNat i).noWrite (ad.toNat + (f.scattered ad.toNat as_.toNat ax.toNat i).index ax.toNat i) = false) :
    ad.toNat < 0x8000 ∨ 0xC000 ≤ ad.toNat := by
  have hn : 0 < n := by
    unfold Fj.header at hh
    dsimp only at hh
    split at hh
    · cases hh
    · next hc =>
      simp only [not_or] at hc
      obtain ⟨rfl, -, -⟩ : bits (f.rd ax.toNat).toNat 4 0 = n ∧ _ ∧ _ := by simpa using hh
      exact Nat.pos_of_ne_zero hc.1
  obtain ⟨ha, hw⟩ := h 0 hn
  refine Decidable.byContradiction fun hout => ?_
  have h1 : ¬ ad.toNat < 0x8000 := by omega
  have h2 : ad.toNat < 0xC000 := by omega
  simp only [inArea, areaEnd, h1, h2, if_true, if_false, decide_eq_true_eq] at ha
  simp only [Fj.noWrite] at hw
  rw [if_neg (by omega), if_pos (by omega)] at hw
  cases hw

/-- Settles O29: a run of the elements by the rule of `fjElems`, or the first check that fails. -/
theorem fjLongInstructionsComplete : Obligations.FjLongInstructionsComplete := by
  refine ⟨fun _ _ f _ _ _ _ _ _ hr hm hl hp hu hh ha hw h => fj_gives_free hr hl rfl
      ((fjGath_runs hm hl hh ha hw).trans (gath_words hp (undisturbed_free hl hu) h)),
    fun _ _ f _ _ _ _ _ _ hr hm hl hp hu hh ha hw h => fj_gives_free hr hl rfl
      ((fjGath_runs hm hl hh ha hw).trans (gath_points hp (undisturbed_free hl hu) h)),
    fun _ _ f _ _ _ _ _ hr hl hp hu hh hs h => fj_gives_free hr hl rfl
      ((fjScat_runs hl hh hs (scat_outside_input hh fun i hi => (h i hi).2)).trans (scat_words hp (undisturbed_free hl hu) h)),
    fun _ _ f _ _ _ hr hl hp hu hd hs hw => fj_gives_free hr hl rfl (fjBmov_runs hl hp (undisturbed_free hl hu) hd hs hw),
    fun _ _ f _ _ _ _ _ hr hl hp hu ht h1 h64 hd hs hw => fj_gives_free hr hl rfl
      (fjCurv_runs hp (undisturbed_free hl hu) hl ht h1 h64 hd hs hw),
    fun _ _ f _ _ _ hr hd hl hp hu hs => fj_gives_free hr hl rfl (fjSumv_runs hp (undisturbed_free hl hu) hd hl hs),
    fun _ _ f _ _ _ _ hr h => fj_gives hr rfl (fjGath_ill (f := f.counted) (h.imp_right counted_held)),
    fun _ _ f _ _ _ _ hr hm hl hh => fj_gives hr rfl (fjGath_header (f := f.counted) hm (counted_free hl) hh),
    fun _ _ f _ _ _ _ _ _ _ hr hm hl hh ha => fj_gives hr rfl (fjGath_range (f := f.counted) hm (counted_free hl) hh ha),
    fun _ _ f _ _ _ _ _ _ _ hr hm hl hh ha hw => fj_gives hr rfl (fjGath_access (f := f.counted) hm (counted_free hl) hh ha hw),
    fun _ _ f _ _ _ hr hl => fj_gives hr rfl (fjScat_ill (f := f.counted) (counted_held hl)),
    fun _ _ f _ _ _ hr hl hh => fj_gives hr rfl (fjScat_header (f := f.counted) (counted_free hl) hh),
    fun _ _ f _ _ _ _ _ _ hr hl hh hs => fj_gives hr rfl (fjScat_range (f := f.counted) (counted_free hl) hh hs),
    fun _ _ f _ _ _ _ _ _ hr hl hh hs h8 hc => fj_gives hr rfl (fjScat_access (f := f.counted) (counted_free hl) hh hs h8 hc),
    fun _ _ f _ _ _ hr hl => fj_gives hr rfl (fjBmov_ill (f := f.counted) (counted_held hl)),
    fun _ _ f _ _ _ hr hl h => fj_gives hr rfl (fjBmov_range (f := f.counted) (counted_free hl) h),
    fun _ _ f _ _ _ hr hl hd hs hw => fj_gives hr rfl (fjBmov_access (f := f.counted) (counted_free hl) hd hs hw),
    fun _ _ f _ _ _ _ hr hl => fj_gives hr rfl (fjCurv_ill (f := f.counted) (counted_held hl)),
    fun _ _ f _ _ _ _ hr hl h => fj_gives hr rfl (fjCurv_range (f := f.counted) (counted_free hl) h),
    fun _ _ f _ _ _ _ hr hl h1 h64 ht hd hs hw => fj_gives hr rfl (fjCurv_access (f := f.counted) (counted_free hl) h1 h64 ht hd hs hw),
    fun _ _ f _ _ _ hr h => fj_gives hr rfl (fjSumv_ill (f := f.counted) (h.imp_right counted_held)),
    fun _ _ f _ _ _ hr hd hl hs => fj_gives hr rfl (fjSumv_range (f := f.counted) hd (counted_free hl) hs),
    fun _ _ f _ _ _ _ _ _ _ hr hm hl hp hu hh ha hw hk h hout => fj_gives_free hr hl rfl
      ((fjGath_runs hm hl hh ha hw).trans (gath_stops hp (undisturbed_free hl hu) hk h hout)),
    fun _ _ f _ _ _ _ _ _ hr hl hp hu hh hs ha hk h hout => fj_gives_free hr hl rfl
      ((fjScat_runs hl hh hs ha).trans (scat_stops hp (undisturbed_free hl hu) hk h hout)),
    ?pause, ?resume, ?past⟩
  case pause =>
    rintro s slot f ad as_ n p j hr hl rfl hpn hw hd hs hnw rfl
    rw [counted_self hl] at hw
    refine fj_gives_free hr hl rfl ((fjBmov_long hl hd hs hnw).trans ?_)
    refine (fjElems_pauses hpn rfl ((wr_wanted ..).trans hw)).trans ?_
    split <;> simp [*, moveOrder]
  case resume =>
    rintro s slot f ad as_ n p hr hl rfl hu hd hs hnw
    refine fj_gives_free hr hl rfl ((fjBmov_long hl hd hs hnw).trans ?_)
    exact fjElems_folds (fun _ _ _ => rfl) (fun _ _ => wr_wanted ..) (Nat.sub_le _ _) (undisturbed_free hl hu)
  case past =>
    intro s slot f m ad as_ ax n bound hr hm hl hp hh hn ha hw
    rw [counted_self hl]
    refine fj_gives_free hr hl rfl ((fjGath_runs hm hl hh ha hw).trans ?_)
    rw [Fj.long, fjElems_done hn, if_neg hp]

end Sys2Proof.Machine
end

section
-- One declaration after another: the check compiles the whole text under a memory limit.
set_option Elab.async false
/-! SUPPORT. Proofs about the saturating delivery of the Fjoask (R281). -/

namespace Sys2Proof.Machine
open Sys2Proof

/-! ### What a local reads as after a value has been delivered to it (R244) -/

/-- The signed reading of the low bits of an integer that lies within the range is the integer. -/
theorem toSigned_ofSigned_32 {v : Int} (h1 : -0x80000000 ≤ v) (h2 : v ≤ 0x7FFFFFFF) : toSigned 32 (ofSigned 64 v % 2 ^ 32) = v := by
  simp only [toSigned, ofSigned, Nat.mod_mod, Nat.reducePow, Nat.reduceSub]
  omega

theorem toSigned_ofSigned_64 {v : Int} (h1 : -0x8000000000000000 ≤ v) (h2 : v ≤ 0x7FFFFFFFFFFFFFFF) :
    toSigned 64 (ofSigned 64 v % 2 ^ 64) = v := by
  simp only [toSigned, ofSigned, Nat.mod_mod, Nat.reducePow, Nat.reduceSub]
  omega

theorem ofSigned_of_nonneg {v : Int} (h1 : 0 ≤ v) (h2 : v ≤ 0xFFFFFFFF) : ((ofSigned 64 v % 2 ^ 32 : Nat) : Int) = v := by
  simp only [ofSigned]
  omega

section
variable {f : Fj} {d : Loc}

theorem int_setI_int (hd : f.ty d = .int) {v : Int} (h1 : -0x80000000 ≤ v) (h2 : v ≤ 0x7FFFFFFF) : (f.setI d v).int d = v := by
  have hty : (f.setI d v).ty d = .int := hd
  have hval : (f.setI d v).val d = ofSigned 64 v % 2 ^ 32 := by
    simp only [Fj.setI, Fj.set, hd, Fj.val, tget_tset_same, BitVec.toNat_ofNat]
    exact Nat.mod_eq_of_lt (Nat.lt_of_lt_of_le (Nat.mod_lt _ (by decide)) (by decide))
  simp only [Fj.int, hty, hval]
  exact toSigned_ofSigned_32 h1 h2

theorem int_setI_time (hd : f.ty d = .time) {v : Int} (h1 : -0x8000000000000000 ≤ v) (h2 : v ≤ 0x7FFFFFFFFFFFFFFF) :
    (f.setI d v).int d = v := by
  have hty : (f.setI d v).ty d = .time := hd
  have hval : (f.setI d v).val d = ofSigned 64 v % 2 ^ 64 := by
    simp only [Fj.setI, Fj.set, hd, Fj.val, tget_tset_same, BitVec.toNat_ofNat]
    exact Nat.mod_eq_of_lt (Nat.lt_of_lt_of_le (Nat.mod_lt _ (by decide)) (by decide))
  simp only [Fj.int, hty, hval]
  exact toSigned_ofSigned_64 h1 h2

theorem int_setI_uint (hd : f.ty d = .uint) {v : Int} (h1 : 0 ≤ v) (h2 : v ≤ 0xFFFFFFFF) : (f.setI d v).int d = v := by
  have hty : (f.setI d v).ty d = .uint := hd
  have hval : (f.setI d v).val d = ofSigned 64 v % 2 ^ 32 := by
    simp only [Fj.setI, Fj.set, hd, Fj.val, tget_tset_same, BitVec.toNat_ofNat]
    exact Nat.mod_eq_of_lt (Nat.lt_of_lt_of_le (Nat.mod_lt _ (by decide)) (by decide))
  simp only [Fj.int, hty, hval]
  exact ofSigned_of_nonneg h1 h2

/-- Flags are no part of what a local reads as. -/
theorem int_flags (f : Fj) (l : FFlags) (d : Loc) : (f.flags l).int d = f.int d := rfl

theorem sat_ovf (f : Fj) (d : Loc) (v : Int) :
    (f.sat d v).x.flags.ovf = (f.x.flags.ovf || decide (v < (limits (f.ty d)).1 ∨ (limits (f.ty d)).2 < v)) := by
  simp [Fj.sat, Fj.flags, FFlags.or, Fj.setI, Fj.set]

/-- A saturated value lies within the limits. -/
theorem clampI_bounds {lo hi : Int} (h : lo ≤ hi) (v : Int) : lo ≤ clampI lo hi v ∧ clampI lo hi v ≤ hi := by
  unfold clampI; split
  · omega
  · split <;> omega

end

/-- Another local keeps its value. -/
theorem val_sat_of_ne {f : Fj} {d u : Loc} (h : u.toNat % 64 ≠ d.toNat % 64) (v : Int) : (f.sat d v).val u = f.val u := by
  simp [Fj.sat, Fj.flags, Fj.setI, Fj.set, Fj.val, tget_tset_ne _ _ _ h]

/-- Settles O8: the clamped value lies within the type, so its low bits read back as it; the rest is the frame of a local's write. -/
theorem saturationStaysInTheType : Obligations.SaturationStaysInTheType := by
  refine ⟨fun f d v hd => ?_, fun f d v hd => ?_, fun f d v hd => ?_, fun f d u v => ?_⟩
  · have ht : f.ty d = .int := by simpa using is_mem hd
    have hb := clampI_bounds (lo := -(2 ^ 31)) (hi := 2 ^ 31 - 1) (by decide) v
    refine ⟨?_, by rw [sat_ovf, ht]; rfl⟩
    rw [Fj.sat, int_flags, ht]
    exact int_setI_int ht hb.1 hb.2
  · have ht : f.ty d = .uint := by simpa using is_mem hd
    have hb := clampI_bounds (lo := 0) (hi := 2 ^ 32 - 1) (by decide) v
    refine ⟨?_, by rw [sat_ovf, ht]; rfl⟩
    rw [Fj.sat, int_flags, ht]
    exact int_setI_uint ht hb.1 hb.2
  · have ht : f.ty d = .time := by simpa using is_mem hd
    have hb := clampI_bounds (lo := -(2 ^ 63)) (hi := 2 ^ 63 - 1) (by decide) v
    refine ⟨?_, by rw [sat_ovf, ht]; rfl⟩
    rw [Fj.sat, int_flags, ht]
    exact int_setI_time ht hb.1 hb.2
  · exact ⟨rfl, rfl, rfl, rfl, Bool.or_false _, Bool.or_false _, Bool.or_false _, Bool.or_false _, fun h => val_sat_of_ne h v⟩

end Sys2Proof.Machine
end

section
-- One declaration after another: the check compiles the whole text under a memory limit.
set_option Elab.async false
/-! SUPPORT. Proofs about the fetch and the faults of the Fjoask instructions (R247, R250, R254, R290). -/

namespace Sys2Proof.Machine
open Sys2Proof

/-- Every Fjoask instruction runs as the next instruction of its slot's task, with its bytes as its length. -/
theorem exec_of_fjSlot {i : Instr} {slot : Nat} (hi : fjSlot i = some slot) (s : State) :
    ∃ len body, exec i s = s.done (s.blk.fj slot len body) ∧ ∀ bs, fjEncode i = some bs → bs.length = len := by
  cases i
  all_goals cases hi
  all_goals exact ⟨_, _, rfl, fun bs h => by cases h; rfl⟩

/-! ### The rule of one instruction (R247, R250, R254) -/

section
variable {b : Block} {slot len : Nat} {f : Fj} {body : Fj → FjOut}

/-- Without a running task nothing happens. -/
theorem fj_of_none (h : b.fjNow slot = none) : b.fj slot len body = b := by simp only [Block.fj, h]

theorem fj_of_lockx (h : b.fjNow slot = some f) (hl : f.x.lockcnt = 64) :
    b.fj slot len body = (b.fjPut slot len f.x.lockcnt { f := f, fault := 5 }).debugAfter slot := by
  simp only [Block.fj, h, hl, if_true]

theorem fj_of_past (h : b.fjNow slot = some f) (hl : f.x.lockcnt ≠ 64) (hp : f.img.code < f.x.pc + len) :
    b.fj slot len body = (b.fjPut slot len f.x.lockcnt { f := f, fault := 2 }).debugAfter slot := by
  simp only [Block.fj, h, hl, hp, if_true, if_false]

end

theorem mem_insNat (k j : Nat) (l : List Nat) : j ∈ insNat k l ↔ j = k ∨ j ∈ l := by
  induction l with
  | nil => simp [insNat]
  | cons x r ih =>
    simp only [insNat]
    split
    · simp
    · split
      · next h => simp [h]
      · rw [List.mem_cons, ih, List.mem_cons, or_left_comm]

/-- Settles O10: the three branches before an instruction's own steps, and the fault branch of what is put back. -/
theorem instructionsNeedTheirBytes : Obligations.InstructionsNeedTheirBytes := by
  refine ⟨fun i slot s hi hn => ?_, fun i slot bs s f hi he hf hl => ?_, fun i slot bs s f hi he hf hl hp => ?_,
    fun b slot len lc o hf => ?_⟩
  · obtain ⟨len, body, hx, -⟩ := exec_of_fjSlot hi s
    rw [Gives, hx, fj_of_none hn]; rfl
  · obtain ⟨len, body, hx, hlen⟩ := exec_of_fjSlot hi s
    rw [FjEnds, Gives, hx, fj_of_lockx hf hl, hlen bs he]; rfl
  · obtain ⟨len, body, hx, hlen⟩ := exec_of_fjSlot hi s
    rw [hlen bs he] at hp
    rw [FjEnds, Gives, hx, fj_of_past hf hl hp, hlen bs he]; rfl
  · simp only [Block.fjPut, if_pos hf, slot_putSlot]
    refine ⟨_, rfl, rfl, rfl, ?_, ?_, fun z => ?_, tget_tset_same ..⟩
    · exact (mem_insNat ..).mpr (.inl rfl)
    · exact (mem_insNat ..).mpr (.inl rfl)
    · simp [Cyc.endTask]

end Sys2Proof.Machine
end

section
-- One declaration after another: the check compiles the whole text under a memory limit.
set_option Elab.async false
/-! SUPPORT. Proofs about raises: the lifetime count and the colander (R449 to R455). -/

namespace Sys2Proof.Machine
open Sys2Proof

/-- A raise entered in the lifetime record and in the interval, with its quantity. -/
def Block.tallied (n : Nat) (q : Int) (b : Block) : Block :=
  Block.quantity n q { b with evr := { b.evr with
    life := tupd tallyD b.evr.life n Tally.raise
    intv := tupd tallyD b.evr.intv n Tally.raise } }

/-- While the recorder runs, a raise is tallied and then goes through the colander. -/
theorem raise_of_recording {b : Block} (h : b.recording) (n : Nat) (q : Int) :
    b.raise n q = (b.tallied n q).sieve n b.stamp (some q) 0 := by
  have hc : (b.evr.started && b.flt.spRestarting.isNone && !b.flt.spStopped) = true := by
    have h' := h
    simp only [Block.recording, Block.spUp, Bool.and_eq_true] at h' ⊢
    exact ⟨⟨h'.1, h'.2.1⟩, h'.2.2⟩
  exact if_pos hc

/-- While it does not, the raise is held in the source's hardware counter. -/
theorem raise_of_idle {b : Block} (h : ¬ b.recording) (n : Nat) (q : Int) :
    b.raise n q = { b with evr := { b.evr with hw := tupd natD b.evr.hw n (· + 1) } } := by
  have hc : ¬ (b.evr.started && b.flt.spRestarting.isNone && !b.flt.spStopped) = true := by
    intro hr
    simp only [Bool.and_eq_true] at hr
    obtain ⟨⟨hs, hr⟩, hp⟩ := hr
    exact h ⟨hs, by rw [Block.spUp, hr, hp]; rfl⟩
  exact if_neg hc

/-! ### What the tally and the colander keep -/

section
variable (n : Nat) (q : Int) (b : Block)

theorem tallied_raised (k : Nat) : (b.tallied n q).raised k = if k = n then b.raised n + 1 else b.raised k := by
  by_cases h : k = n
  · subst h
    simp only [Block.raised, Block.tallied, Block.quantity, tget_tupd_same, if_true]
    rfl
  · simp only [Block.raised, Block.tallied, Block.quantity, tget_tupd_ne _ _ _ h, if_neg h]

@[simp] theorem tallied_col : (b.tallied n q).evr.col = b.evr.col := rfl
@[simp] theorem tallied_notes : (b.tallied n q).evr.notes = b.evr.notes := rfl
@[simp] theorem tallied_drops : (b.tallied n q).evr.drops = b.evr.drops := rfl
@[simp] theorem tallied_nv : (b.tallied n q).nv = b.nv := rfl
@[simp] theorem tallied_mbx : (b.tallied n q).mbx = b.mbx := rfl
@[simp] theorem tallied_time : (b.tallied n q).time = b.time := rfl

end

section
variable {n : Nat} {b : Block} {st : Stamp} {q : Option Int} {u : Nat}

@[simp] theorem sieve_raised (k : Nat) : (b.sieve n st q u).raised k = b.raised k := by
  unfold Block.sieve
  dsimp only
  split <;> rfl

/-- A bucket that holds a token gives it up, and the source notifies. -/
theorem sieve_of_token (h : 1000 ≤ (tget colD b.evr.col n).bucket) : b.sieve n st q u =
    Block.notify n st q u { b with evr := { b.evr with
      col := tset colD b.evr.col n { tget colD b.evr.col n with bucket := (tget colD b.evr.col n).bucket - 1000 } } } := if_pos h

/-- A bucket below one token counts the raise as suppressed. -/
theorem sieve_of_no_token (h : (tget colD b.evr.col n).bucket < 1000) :
    b.sieve n st q u = { b with nv := { b.nv with supp := tupd natD b.nv.supp n (· + 1) } } := if_neg (Nat.not_le.mpr h)

end

/-- Settles O12: the tally comes before the colander and is not touched by it. -/
theorem raisesAreCounted : Obligations.RaisesAreCounted := by
  refine ⟨fun b n q h => ?_, fun b n q h => ?_, fun b n q h hb => ?_, fun b n q h hb => ?_⟩
  · rw [raise_of_recording h]
    refine ⟨by simp [tallied_raised], fun k hk => by simp [tallied_raised, hk]⟩
  · rw [raise_of_idle h]
    exact ⟨rfl, rfl⟩
  · rw [raise_of_recording h, sieve_of_token (b := b.tallied n q) hb]
    refine ⟨?_, (mem_insNat ..).mpr (.inl rfl), fun hroom => ?_, fun hfull => ?_⟩
    · simp [Block.notify, Block.vecCause]
    · have hroom' : ¬ decide (1024 ≤ b.evr.notes.length) = true := by simpa using hroom
      exact ⟨_, if_neg hroom', rfl, rfl, rfl⟩
    · exact ⟨if_pos (decide_eq_true hfull), if_pos (decide_eq_true hfull)⟩
  · rw [raise_of_recording h, sieve_of_no_token (b := b.tallied n q) hb]
    exact ⟨tget_tupd_same .., rfl, rfl, rfl, rfl⟩

end Sys2Proof.Machine
end

section
-- One declaration after another: the check compiles the whole text under a memory limit.
set_option Elab.async false
/-! SUPPORT. Proofs about answers: who is taken off the accepted requests, and what stands in the response ring (R431 to R437). -/

namespace Sys2Proof.Machine
open Sys2Proof

/-! ### Sending a frame accepts and answers no request -/

@[simp] theorem foldl_accepted {α : Type} {f : Block → α → Block} (h : ∀ b x, (f b x).mbx.accepted = b.mbx.accepted) (l : List α)
    (b : Block) : (l.foldl f b).mbx.accepted = b.mbx.accepted :=
  foldl_keeps (fun b : Block => b.mbx.accepted) f h l b

section
variable (b : Block)

@[simp] theorem putPort_accepted (p : Nat) (f : PortSt → PortSt) : (b.putPort p f).mbx.accepted = b.mbx.accepted := rfl
@[simp] theorem countNet_accepted (p : Nat) (c : NetCtr) : (b.countNet p c).mbx.accepted = b.mbx.accepted := rfl
@[simp] theorem countFab_accepted (l : Nat) (c : FabCtr) : (b.countFab l c).mbx.accepted = b.mbx.accepted := rfl

@[simp] theorem purge_accepted (p q : Nat) : (b.purge p q).mbx.accepted = b.mbx.accepted := by
  simp [Block.purge]

@[simp] theorem enqueue_accepted (p : Nat) (f : TxFrame) : (b.enqueue p f).mbx.accepted = b.mbx.accepted := by
  unfold Block.enqueue; dsimp only; (repeat' split) <;> simp

@[simp] theorem txStamp_accepted (p : Nat) (f : TxFrame) : (b.txStamp p f).mbx.accepted = b.mbx.accepted := by
  unfold Block.txStamp; split <;> simp

@[simp] theorem start_accepted (p : Nat) (f : TxFrame) : (b.start p f).mbx.accepted = b.mbx.accepted := by
  unfold Block.start; dsimp only; split <;> simp

@[simp] theorem startHead_accepted (p q : Nat) : (b.startHead p q).mbx.accepted = b.mbx.accepted := by
  unfold Block.startHead; split <;> simp

@[simp] theorem kick_accepted (p : Nat) (slip : Bool) : (b.kick p slip).mbx.accepted = b.mbx.accepted := by
  unfold Block.kick
  dsimp only
  (repeat' split) <;> simp

@[simp] theorem sendOn_accepted (ports q : Nat) (l : Option Nat) (x : TxBody) :
    (b.sendOn ports q l x).mbx.accepted = b.mbx.accepted := by
  refine foldl_accepted (fun c p => ?_) _ b
  dsimp only
  (repeat' split) <;> simp

@[simp] theorem fabEmit_accepted (l : Nat) (h : FabHdr) (x : FabBody) (n : Option Nat) :
    (b.fabEmit l h x n).mbx.accepted = b.mbx.accepted := by simp [Block.fabEmit]

@[simp] theorem fabDiscard_accepted (l : Nat) (c : FabCtr) (src : Nat) : (b.fabDiscard l c src).mbx.accepted = b.mbx.accepted := by
  unfold Block.fabDiscard; dsimp only; split <;> simp

@[simp] theorem fabPass_accepted : b.fabPass.mbx.accepted = b.mbx.accepted := by
  refine foldl_accepted (fun c s => ?_) _ b
  dsimp only; split <;> rfl

@[simp] theorem sieveLook_accepted (k dst : Nat) : (b.sieveLook k dst).2.mbx.accepted = b.mbx.accepted := by
  unfold Block.sieveLook; dsimp only; (repeat' split) <;> rfl

@[simp] theorem egress_accepted (k dst : Nat) : (b.egress k dst).2.mbx.accepted = b.mbx.accepted := by
  unfold Block.egress; (repeat' split) <;> simp

@[simp] theorem nextSeq_accepted (svc : Nat) : (b.nextSeq svc).2.mbx.accepted = b.mbx.accepted := rfl
@[simp] theorem bdupPut_accepted (x y z : Nat) : (b.bdupPut x y z).mbx.accepted = b.mbx.accepted := rfl

@[simp] theorem fabSend_accepted (svc dst : Nat) (u v w x : Bool) (y : FabBody) :
    (b.fabSend svc dst u v w x y).mbx.accepted = b.mbx.accepted := by
  unfold Block.fabSend
  dsimp only
  (repeat' split) <;> simp

@[simp] theorem fabMessage_accepted (svc dst : Nat) (force : Bool) (p : List Byte) :
    (b.fabMessage svc dst force p).mbx.accepted = b.mbx.accepted := by
  unfold Block.fabMessage
  dsimp only
  split <;> simp

/-- A response sent takes no request off. -/
@[simp] theorem send_accepted (r : Rsp) : (b.send r).mbx.accepted = b.mbx.accepted := by
  unfold Block.send; (repeat' split) <;> simp

end

/-! ### The message (R432, R437) -/

theorem msgBytes_eq (c f cmd seq st e : Nat) (p : List Byte) : msgBytes c f cmd seq st e p =
    leBytes 1 c ++ (leBytes 1 f ++ (leBytes 2 cmd ++ (leBytes 4 seq ++ (leBytes 2 st ++ (leBytes 2 p.length ++ (leBytes 4 e ++
      (p ++ zeros (msgSize p.length - 16 - p.length)))))))) := by
  simp [msgBytes]

theorem msgBytes_length (c f cmd seq st e : Nat) (p : List Byte) : (msgBytes c f cmd seq st e p).length = msgSize p.length := by
  simp [msgBytes, msgSize]; omega

/-- A field of a message reads as the value put there. -/
theorem fld_after (p q : List Byte) {o w v : Nat} (hp : p.length = o) (hv : v < 2 ^ (8 * w)) : fld (p ++ (leBytes w v ++ q)) o w = v := by
  rw [fld_append _ _ _ _ hp, List.take_left' (leBytes_length w v), leNat_leBytes, Nat.mod_eq_of_lt hv]

/-- The header fields of a message, and its payload. -/
theorem msgBytes_fields {c f cmd seq st e : Nat} {p : List Byte} (hc : c < 256) (hf : f < 256) (hcmd : cmd < 65536) (hseq : seq < 2 ^ 32)
    (hst : st < 65536) (he : e < 2 ^ 32) (hp : p.length < 65536) :
    fld (msgBytes c f cmd seq st e p) 0 1 = c ∧ fld (msgBytes c f cmd seq st e p) 1 1 = f ∧
    fld (msgBytes c f cmd seq st e p) 2 2 = cmd ∧ fld (msgBytes c f cmd seq st e p) 4 4 = seq ∧
    fld (msgBytes c f cmd seq st e p) 8 2 = st ∧ fld (msgBytes c f cmd seq st e p) 10 2 = p.length ∧
    fld (msgBytes c f cmd seq st e p) 12 4 = e ∧ ((msgBytes c f cmd seq st e p).drop 16).take p.length = p := by
  have h0 := fld_after (o := 0) (w := 1) [] (leBytes 1 f ++ (leBytes 2 cmd ++ (leBytes 4 seq ++ (leBytes 2 st ++ (leBytes 2 p.length ++ (leBytes 4 e ++
      (p ++ zeros (msgSize p.length - 16 - p.length)))))))) (by simp) (by simpa using hc)
  have h1 := fld_after (o := 1) (w := 1) (leBytes 1 c) (leBytes 2 cmd ++ (leBytes 4 seq ++ (leBytes 2 st ++ (leBytes 2 p.length ++ (leBytes 4 e ++
      (p ++ zeros (msgSize p.length - 16 - p.length))))))) (by simp) (by simpa using hf)
  have h2 := fld_after (o := 2) (w := 2) (leBytes 1 c ++ leBytes 1 f) (leBytes 4 seq ++ (leBytes 2 st ++ (leBytes 2 p.length ++ (leBytes 4 e ++
      (p ++ zeros (msgSize p.length - 16 - p.length)))))) (by simp) (by simpa using hcmd)
  have h4 := fld_after (o := 4) (w := 4) (leBytes 1 c ++ leBytes 1 f ++ leBytes 2 cmd) (leBytes 2 st ++ (leBytes 2 p.length ++ (leBytes 4 e ++
      (p ++ zeros (msgSize p.length - 16 - p.length))))) (by simp) hseq
  have h8 := fld_after (o := 8) (w := 2) (leBytes 1 c ++ leBytes 1 f ++ leBytes 2 cmd ++ leBytes 4 seq) (leBytes 2 p.length ++ (leBytes 4 e ++
      (p ++ zeros (msgSize p.length - 16 - p.length)))) (by simp) (by simpa using hst)
  have h10 := fld_after (o := 10) (w := 2) (leBytes 1 c ++ leBytes 1 f ++ leBytes 2 cmd ++ leBytes 4 seq ++ leBytes 2 st) (leBytes 4 e ++
      (p ++ zeros (msgSize p.length - 16 - p.length))) (by simp) (by simpa using hp)
  have h12 := fld_after (o := 12) (w := 4) (leBytes 1 c ++ leBytes 1 f ++ leBytes 2 cmd ++ leBytes 4 seq ++ leBytes 2 st ++ leBytes 2 p.length)
      (p ++ zeros (msgSize p.length - 16 - p.length)) (by simp) he
  have h16 : ((msgBytes c f cmd seq st e p).drop 16).take p.length = p := by
    rw [msgBytes, List.append_assoc, List.drop_left' (by simp), List.take_left' rfl]
  simp only [List.append_assoc, List.nil_append] at h0 h1 h2 h4 h8 h10 h12
  exact msgBytes_eq c f cmd seq st e p ▸ ⟨h0, h1, h2, h4, h8, h10, h12, msgBytes_eq c f cmd seq st e p ▸ h16⟩

/-! ### The response ring (R433) -/

/-- A response that fits before the ring's end stands complete at RSP_PROD. -/
theorem write_of_room {x : Client} {r : Rsp} (hc : x.rspCons ≤ x.rspProd) (hp : x.rspProd + msgSize r.payload.length < 8192) :
    x.write r = some { x with
      rspRing := memWrite x.rspRing x.rspProd
        (msgBytes (r.echo.getD r.client) (r.flags.toNat % 2 + 0x80) r.cmd r.seq r.status (r.epoch % 2 ^ 32) r.payload)
      rspProd := x.rspProd + msgSize r.payload.length } := by
  simp [Client.write, hc, hp, Nat.mod_eq_of_lt hp]

/-- Delivered to a client without a response waiting, a response that is written is all that changes of the client. -/
theorem deliver_client {b : Block} {r : Rsp} {x y : Client} (hx : tget clientD b.mbx.clients r.client = x) (hs : x.stall = false)
    (hy : x.write r = some y) : tget clientD (b.deliver r).mbx.clients r.client = y := by
  subst hx
  unfold Block.deliver
  simp only [hs, hy, Bool.false_eq_true, if_false]
  split
  · exact tget_tset_same ..
  · exact tget_tset_same ..

theorem answer_of_has {b : Block} {r : Req} (h : b.has r = true) (st e : Nat) (p : List Byte) : b.answer r st e p =
    ((b.drop r).raiseIf (st == stNOAUTH) 430 r.client).send
      { client := r.client, flags := r.flags &&& 3, cmd := r.cmd, seq := r.seq, status := st, epoch := e, payload := p } := by
  simp [Block.answer, h]

/-- Settles O15: the answer is one removal and one response sent; the message is read field by field. -/
theorem responsesEchoTheirRequest : Obligations.ResponsesEchoTheirRequest := by
  refine ⟨fun b r st e p h => ?_, fun b r st e p h => ?_, fun b r st e p x h hhost hx hs hc hroom => ?_,
    fun c f cmd seq st e p hc hf hcmd hseq hst he hp => ⟨msgBytes_length .., msgBytes_fields hc hf hcmd hseq hst he (by omega)⟩⟩
  · simp [Block.answer, h]
  · rw [answer_of_has h, send_accepted, raiseIf_accepted]
    rfl
  · rw [answer_of_has h, Block.send, if_pos hhost]
    have hrd : (r.flags &&& 3).toNat % 2 = r.flags.toNat % 2 := by
      have h3 : (r.flags &&& 3).toNat = r.flags.toNat % 4 := Nat.and_two_pow_sub_one_eq_mod r.flags.toNat 2
      omega
    refine (deliver_client (x := x) ?_ hs (write_of_room hc hroom)).trans ?_
    · rw [raiseIf_clients]; exact hx
    · dsimp only [Option.getD_none]
      rw [hrd]

end Sys2Proof.Machine
end

section
-- One declaration after another: the check compiles the whole text under a memory limit.
set_option Elab.async false
/-! SUPPORT. Frames of the engine: the parts of the block, and what a function leaves alone outside the parts it may write.
The count of burned fuse steps is told apart from the rest of the flash: it is left alone even where the flash is written. -/

namespace Sys2Proof.Machine
open Sys2Proof

/-- The parts of the block, as its fields. -/
inductive Part where
  | lands | nv | sys | time | evr | mbx | flt | cnv | acc | bs | fside | bar | wheel | elm | lgc | net | fab | dist | snap | fresh

/-- What an event writes: the recorder, the SUPPRESSED counts in the flash part, and the vectors. -/
abbrev Part.event : List Part := [.nv, .evr, .mbx]

/-- What carrying a response may write beside an event: the ports and the fabric of a session's client, and the time part. -/
abbrev Part.reply : List Part := [.nv, .time, .evr, .mbx, .net, .fab]

/-- Every part. -/
abbrev Part.all : List Part :=
  [.lands, .nv, .sys, .time, .evr, .mbx, .flt, .cnv, .acc, .bs, .fside, .bar, .wheel, .elm, .lgc, .net, .fab, .dist, .snap, .fresh]

open Classical in
/-- The block with the parts `P` blanked out, the fuse count kept: what a function that writes `P` alone must leave as it was. -/
noncomputable def Block.outside (P : List Part) (b : Block) : Block where
  lands := if .lands ∈ P then {} else b.lands
  nv := if .nv ∈ P then { fuse := b.nv.fuse } else b.nv
  sys := if .sys ∈ P then {} else b.sys
  time := if .time ∈ P then {} else b.time
  evr := if .evr ∈ P then {} else b.evr
  mbx := if .mbx ∈ P then {} else b.mbx
  flt := if .flt ∈ P then {} else b.flt
  cnv := if .cnv ∈ P then {} else b.cnv
  acc := if .acc ∈ P then {} else b.acc
  bs := if .bs ∈ P then {} else b.bs
  fside := if .fside ∈ P then {} else b.fside
  bar := if .bar ∈ P then {} else b.bar
  wheel := if .wheel ∈ P then {} else b.wheel
  elm := if .elm ∈ P then {} else b.elm
  lgc := if .lgc ∈ P then {} else b.lgc
  net := if .net ∈ P then {} else b.net
  fab := if .fab ∈ P then {} else b.fab
  dist := if .dist ∈ P then {} else b.dist
  snap := if .snap ∈ P then {} else b.snap
  fresh := if .fresh ∈ P then 0 else b.fresh

section
variable {P : List Part} {b b' : Block}

/-- The fuse count is left alone. -/
theorem fuse_of_outside (h : b'.outside P = b.outside P) : b'.nv.fuse = b.nv.fuse := by
  have hnv := congrArg (fun b => b.nv.fuse) h
  simp only [Block.outside] at hnv
  split at hnv <;> exact hnv

open Classical in
theorem kept {α : Type} {p : Part} {x y u v : α} (h : (if p ∈ P then u else x) = if p ∈ P then v else y) : x = if p ∈ P then x else y := by
  by_cases hp : p ∈ P
  · rw [if_pos hp]
  · rw [if_neg hp, if_neg hp] at h
    rw [if_neg hp]
    exact h

open Classical in
/-- Every part outside `P` is left alone. -/
theorem eq_of_outside (h : b'.outside P = b.outside P) : b' =
    { lands := if .lands ∈ P then b'.lands else b.lands, nv := if .nv ∈ P then b'.nv else b.nv
      sys := if .sys ∈ P then b'.sys else b.sys, time := if .time ∈ P then b'.time else b.time
      evr := if .evr ∈ P then b'.evr else b.evr, mbx := if .mbx ∈ P then b'.mbx else b.mbx
      flt := if .flt ∈ P then b'.flt else b.flt, cnv := if .cnv ∈ P then b'.cnv else b.cnv
      acc := if .acc ∈ P then b'.acc else b.acc, bs := if .bs ∈ P then b'.bs else b.bs
      fside := if .fside ∈ P then b'.fside else b.fside, bar := if .bar ∈ P then b'.bar else b.bar
      wheel := if .wheel ∈ P then b'.wheel else b.wheel, elm := if .elm ∈ P then b'.elm else b.elm
      lgc := if .lgc ∈ P then b'.lgc else b.lgc, net := if .net ∈ P then b'.net else b.net
      fab := if .fab ∈ P then b'.fab else b.fab, dist := if .dist ∈ P then b'.dist else b.dist
      snap := if .snap ∈ P then b'.snap else b.snap, fresh := if .fresh ∈ P then b'.fresh else b.fresh } := by
  obtain ⟨⟩ := b'
  simp only [Block.outside, Block.mk.injEq] at h ⊢
  obtain ⟨h1, h2, h3, h4, h5, h6, h7, h8, h9, h10, h11, h12, h13, h14, h15, h16, h17, h18, h19, h20⟩ := h
  exact ⟨kept h1, kept h2, kept h3, kept h4, kept h5, kept h6, kept h7, kept h8, kept h9, kept h10, kept h11, kept h12, kept h13,
    kept h14, kept h15, kept h16, kept h17, kept h18, kept h19, kept h20⟩

end

section
variable {P : List Part} {b : Block}

open Classical in
theorem blank {α : Type} {p : Part} {x y d : α} (h : p ∈ P ∨ x = y) : (if p ∈ P then d else x) = if p ∈ P then d else y := by
  rcases h with h | rfl
  · rw [if_pos h, if_pos h]
  · rfl

open Classical in
theorem blank_nv {x y : NvSt} (h : .nv ∈ P ∧ x.fuse = y.fuse ∨ x = y) :
    (if .nv ∈ P then ({ fuse := x.fuse } : NvSt) else x) = if .nv ∈ P then { fuse := y.fuse } else y := by
  rcases h with ⟨h, hf⟩ | rfl
  · rw [if_pos h, if_pos h, hf]
  · rfl

/-- Building a block from another one: each part is in `P`, or is that of the other block. -/
@[simp] theorem outside_mk {nv sys time evr mbx flt cnv acc bs fside bar wheel elm lgc net fab dist snap fresh}
    (h1 : .nv ∈ P ∧ nv.fuse = b.nv.fuse ∨ nv = b.nv) (h2 : .sys ∈ P ∨ sys = b.sys) (h3 : .time ∈ P ∨ time = b.time)
    (h4 : .evr ∈ P ∨ evr = b.evr) (h5 : .mbx ∈ P ∨ mbx = b.mbx) (h6 : .flt ∈ P ∨ flt = b.flt) (h7 : .cnv ∈ P ∨ cnv = b.cnv)
    (h8 : .acc ∈ P ∨ acc = b.acc) (h9 : .bs ∈ P ∨ bs = b.bs) (h10 : .fside ∈ P ∨ fside = b.fside) (h11 : .bar ∈ P ∨ bar = b.bar)
    (h12 : .wheel ∈ P ∨ wheel = b.wheel) (h13 : .elm ∈ P ∨ elm = b.elm) (h14 : .lgc ∈ P ∨ lgc = b.lgc) (h15 : .net ∈ P ∨ net = b.net)
    (h16 : .fab ∈ P ∨ fab = b.fab) (h17 : .dist ∈ P ∨ dist = b.dist) (h18 : .snap ∈ P ∨ snap = b.snap) (h19 : .fresh ∈ P ∨ fresh = b.fresh) :
    (Block.mk b.lands nv sys time evr mbx flt cnv acc bs fside bar wheel elm lgc net fab dist snap fresh).outside P = b.outside P := by
  simp only [Block.outside, Block.mk.injEq]
  exact ⟨trivial, blank_nv h1, blank h2, blank h3, blank h4, blank h5, blank h6, blank h7, blank h8, blank h9, blank h10, blank h11,
    blank h12, blank h13, blank h14, blank h15, blank h16, blank h17, blank h18, blank h19⟩

end

/-! ### A part that a function does not write -/

section
variable {P : List Part} {b b' : Block}

theorem lands_of_outside (h : b'.outside P = b.outside P) (hp : .lands ∉ P := by simp) : b'.lands = b.lands := by
  rw [eq_of_outside h]
  exact if_neg hp

theorem nv_of_outside (h : b'.outside P = b.outside P) (hp : .nv ∉ P := by simp) : b'.nv = b.nv := by
  rw [eq_of_outside h]
  exact if_neg hp

theorem sys_of_outside (h : b'.outside P = b.outside P) (hp : .sys ∉ P := by simp) : b'.sys = b.sys := by
  rw [eq_of_outside h]
  exact if_neg hp

theorem time_of_outside (h : b'.outside P = b.outside P) (hp : .time ∉ P := by simp) : b'.time = b.time := by
  rw [eq_of_outside h]
  exact if_neg hp

theorem evr_of_outside (h : b'.outside P = b.outside P) (hp : .evr ∉ P := by simp) : b'.evr = b.evr := by
  rw [eq_of_outside h]
  exact if_neg hp

theorem mbx_of_outside (h : b'.outside P = b.outside P) (hp : .mbx ∉ P := by simp) : b'.mbx = b.mbx := by
  rw [eq_of_outside h]
  exact if_neg hp

theorem flt_of_outside (h : b'.outside P = b.outside P) (hp : .flt ∉ P := by simp) : b'.flt = b.flt := by
  rw [eq_of_outside h]
  exact if_neg hp

theorem cnv_of_outside (h : b'.outside P = b.outside P) (hp : .cnv ∉ P := by simp) : b'.cnv = b.cnv := by
  rw [eq_of_outside h]
  exact if_neg hp

theorem acc_of_outside (h : b'.outside P = b.outside P) (hp : .acc ∉ P := by simp) : b'.acc = b.acc := by
  rw [eq_of_outside h]
  exact if_neg hp

theorem bs_of_outside (h : b'.outside P = b.outside P) (hp : .bs ∉ P := by simp) : b'.bs = b.bs := by
  rw [eq_of_outside h]
  exact if_neg hp

theorem fside_of_outside (h : b'.outside P = b.outside P) (hp : .fside ∉ P := by simp) : b'.fside = b.fside := by
  rw [eq_of_outside h]
  exact if_neg hp

theorem bar_of_outside (h : b'.outside P = b.outside P) (hp : .bar ∉ P := by simp) : b'.bar = b.bar := by
  rw [eq_of_outside h]
  exact if_neg hp

theorem wheel_of_outside (h : b'.outside P = b.outside P) (hp : .wheel ∉ P := by simp) : b'.wheel = b.wheel := by
  rw [eq_of_outside h]
  exact if_neg hp

theorem elm_of_outside (h : b'.outside P = b.outside P) (hp : .elm ∉ P := by simp) : b'.elm = b.elm := by
  rw [eq_of_outside h]
  exact if_neg hp

theorem lgc_of_outside (h : b'.outside P = b.outside P) (hp : .lgc ∉ P := by simp) : b'.lgc = b.lgc := by
  rw [eq_of_outside h]
  exact if_neg hp

theorem net_of_outside (h : b'.outside P = b.outside P) (hp : .net ∉ P := by simp) : b'.net = b.net := by
  rw [eq_of_outside h]
  exact if_neg hp

theorem fab_of_outside (h : b'.outside P = b.outside P) (hp : .fab ∉ P := by simp) : b'.fab = b.fab := by
  rw [eq_of_outside h]
  exact if_neg hp

theorem dist_of_outside (h : b'.outside P = b.outside P) (hp : .dist ∉ P := by simp) : b'.dist = b.dist := by
  rw [eq_of_outside h]
  exact if_neg hp

theorem snap_of_outside (h : b'.outside P = b.outside P) (hp : .snap ∉ P := by simp) : b'.snap = b.snap := by
  rw [eq_of_outside h]
  exact if_neg hp

theorem fresh_of_outside (h : b'.outside P = b.outside P) (hp : .fresh ∉ P := by simp) : b'.fresh = b.fresh := by
  rw [eq_of_outside h]
  exact if_neg hp

end

/-! ### Writing one part -/

section
variable {P : List Part} {b : Block}

@[simp] theorem outside_set_lands {x} (h : .lands ∈ P) : ({ b with lands := x } : Block).outside P = b.outside P := by simp [Block.outside, h]
@[simp] theorem outside_set_nv {nv : NvSt} (h : .nv ∈ P) (hf : nv.fuse = b.nv.fuse) : ({ b with nv := nv } : Block).outside P = b.outside P := by
  simp [Block.outside, h, hf]
@[simp] theorem outside_set_sys {x} (h : .sys ∈ P) : ({ b with sys := x } : Block).outside P = b.outside P := by simp [Block.outside, h]
@[simp] theorem outside_set_time {x} (h : .time ∈ P) : ({ b with time := x } : Block).outside P = b.outside P := by simp [Block.outside, h]
@[simp] theorem outside_set_evr {x} (h : .evr ∈ P) : ({ b with evr := x } : Block).outside P = b.outside P := by simp [Block.outside, h]
@[simp] theorem outside_set_mbx {x} (h : .mbx ∈ P) : ({ b with mbx := x } : Block).outside P = b.outside P := by simp [Block.outside, h]
@[simp] theorem outside_set_flt {x} (h : .flt ∈ P) : ({ b with flt := x } : Block).outside P = b.outside P := by simp [Block.outside, h]
@[simp] theorem outside_set_cnv {x} (h : .cnv ∈ P) : ({ b with cnv := x } : Block).outside P = b.outside P := by simp [Block.outside, h]
@[simp] theorem outside_set_acc {x} (h : .acc ∈ P) : ({ b with acc := x } : Block).outside P = b.outside P := by simp [Block.outside, h]
@[simp] theorem outside_set_bs {x} (h : .bs ∈ P) : ({ b with bs := x } : Block).outside P = b.outside P := by simp [Block.outside, h]
@[simp] theorem outside_set_fside {x} (h : .fside ∈ P) : ({ b with fside := x } : Block).outside P = b.outside P := by simp [Block.outside, h]
@[simp] theorem outside_set_bar {x} (h : .bar ∈ P) : ({ b with bar := x } : Block).outside P = b.outside P := by simp [Block.outside, h]
@[simp] theorem outside_set_wheel {x} (h : .wheel ∈ P) : ({ b with wheel := x } : Block).outside P = b.outside P := by simp [Block.outside, h]
@[simp] theorem outside_set_elm {x} (h : .elm ∈ P) : ({ b with elm := x } : Block).outside P = b.outside P := by simp [Block.outside, h]
@[simp] theorem outside_set_lgc {x} (h : .lgc ∈ P) : ({ b with lgc := x } : Block).outside P = b.outside P := by simp [Block.outside, h]
@[simp] theorem outside_set_net {x} (h : .net ∈ P) : ({ b with net := x } : Block).outside P = b.outside P := by simp [Block.outside, h]
@[simp] theorem outside_set_fab {x} (h : .fab ∈ P) : ({ b with fab := x } : Block).outside P = b.outside P := by simp [Block.outside, h]
@[simp] theorem outside_set_dist {x} (h : .dist ∈ P) : ({ b with dist := x } : Block).outside P = b.outside P := by simp [Block.outside, h]
@[simp] theorem outside_set_snap {x} (h : .snap ∈ P) : ({ b with snap := x } : Block).outside P = b.outside P := by simp [Block.outside, h]
@[simp] theorem outside_set_fresh {x} (h : .fresh ∈ P) : ({ b with fresh := x } : Block).outside P = b.outside P := by simp [Block.outside, h]

end

/-! ### The fuse count of the flash's own operations -/

@[simp] theorem putImg_fuse (k : Nat) (x : ImgSlot) (n : NvSt) : (n.putImg k x).fuse = n.fuse := by unfold NvSt.putImg; split <;> rfl
@[simp] theorem bsWritten_fuse (copy : Nat) (g : List Byte) (n : NvSt) : (n.bsWritten copy g).fuse = n.fuse := by
  unfold NvSt.bsWritten; dsimp only; split <;> rfl
@[simp] theorem lifeWrite_fuse (n : NvSt) : n.lifeWrite.fuse = n.fuse := by unfold NvSt.lifeWrite; dsimp only; split <;> rfl
@[simp] theorem logPut_fuse (w : LogWord) (n : NvSt) : (n.logPut w).fuse = n.fuse := rfl
@[simp] theorem logTorn_fuse (n : NvSt) : n.logTorn.fuse = n.fuse := rfl

@[simp] theorem outside_ite {P : List Part} {c : Prop} [Decidable c] {x y : Block} :
    (if c then x else y).outside P = if c then x.outside P else y.outside P :=
  apply_ite (Block.outside P) c x y

/-- Both branches leave alone what is to be left alone. -/
theorem outside_either {P : List Part} {c : Prop} [Decidable c] {x y b : Block} (hx : x.outside P = b.outside P) (hy : y.outside P = b.outside P) :
    (if c then x else y).outside P = b.outside P := by
  split
  · exact hx
  · exact hy

theorem outside_onReq {P : List Part} {cmd : Nat} {r : Req} {f : Block → Block} {b : Block} (h : (f b).outside P = b.outside P) :
    (b.onReq cmd r f).outside P = b.outside P := by
  unfold Block.onReq
  split
  · exact h
  · rfl

theorem outside_onOp {P : List Part} {cmd : Nat} {r : Req} {mine : Bool} {f : Block → Block} {b : Block}
    (h : (f b).outside P = b.outside P) : (b.onOp cmd r mine f).outside P = b.outside P := by
  unfold Block.onOp
  split
  · exact outside_onReq h
  · rfl

/-- A fold leaves alone what each of its steps leaves alone. -/
@[simp] theorem outside_foldl {P : List Part} {α : Type} {f : Block → α → Block} (h : ∀ b x, (f b x).outside P = b.outside P) (l : List α)
    (b : Block) : (l.foldl f b).outside P = b.outside P :=
  foldl_keeps (Block.outside P) f h l b

theorem outside_foldl_fst {P : List Part} {α β : Type} {f : Block × β → α → Block × β} (h : ∀ x a, (f x a).1.outside P = x.1.outside P)
    (l : List α) (x : Block × β) : (l.foldl f x).1.outside P = x.1.outside P :=
  foldl_keeps (fun x : Block × β => x.1.outside P) f h l x

theorem outside_foldl_snd {P : List Part} {α β : Type} {f : β × Block → α → β × Block} (h : ∀ x a, (f x a).2.outside P = x.2.outside P)
    (l : List α) (x : β × Block) : (l.foldl f x).2.outside P = x.2.outside P :=
  foldl_keeps (fun x : β × Block => x.2.outside P) f h l x

/-! ### Frames: Events, network and fabric transmission -/

@[simp] theorem quantity_outside {P : List Part} (src : Nat) (q : Int) (b : Block) (hP : [.evr] ⊆ P) :
    (Block.quantity src q b).outside P = b.outside P := by
  simp only [List.cons_subset, List.nil_subset, and_true] at hP
  simp [Block.quantity, hP]

@[simp] theorem vecCause_outside {P : List Part} (v : Nat) (b : Block) (hP : [.mbx] ⊆ P) :
    (Block.vecCause v b).outside P = b.outside P := by
  simp only [List.cons_subset, List.nil_subset, and_true] at hP
  simp [Block.vecCause, hP]

@[simp] theorem notify_outside {P : List Part} (src : Nat) (st : Stamp) (q : Option Int) (user : Nat) (b : Block) (hP : Part.event ⊆ P) :
    (Block.notify src st q user b).outside P = b.outside P := by
  simp only [List.cons_subset, List.nil_subset, and_true] at hP
  simp [Block.notify, hP]

@[simp] theorem sieve_outside {P : List Part} (src : Nat) (st : Stamp) (q : Option Int) (user : Nat) (b : Block) (hP : Part.event ⊆ P) :
    (Block.sieve src st q user b).outside P = b.outside P := by
  simp only [List.cons_subset, List.nil_subset, and_true] at hP
  simp [Block.sieve, hP]

@[simp] theorem raiseAt_outside {P : List Part} (src : Nat) (st : Stamp) (q : Option Int) (user : Nat) (b : Block) (hP : Part.event ⊆ P) :
    (Block.raiseAt src st q user b).outside P = b.outside P := by
  simp only [List.cons_subset, List.nil_subset, and_true] at hP
  unfold Block.raiseAt
  dsimp only
  (repeat' split) <;> simp [hP]

@[simp] theorem raise_outside {P : List Part} (src : Nat) (q : Int) (b : Block) (hP : Part.event ⊆ P) :
    (Block.raise src q b).outside P = b.outside P := by
  simp only [List.cons_subset, List.nil_subset, and_true] at hP
  simp [Block.raise, hP]

@[simp] theorem raiseOpen_outside {P : List Part} (src : Nat) (b : Block) (hP : Part.event ⊆ P) :
    (Block.raiseOpen src b).outside P = b.outside P := by
  simp only [List.cons_subset, List.nil_subset, and_true] at hP
  simp [Block.raiseOpen, hP]

@[simp] theorem raiseIf_outside {P : List Part} (c : Bool) (src : Nat) (q : Int) (b : Block) (hP : Part.event ⊆ P) :
    (Block.raiseIf c src q b).outside P = b.outside P := by
  simp only [List.cons_subset, List.nil_subset, and_true] at hP
  simp [Block.raiseIf, hP]

@[simp] theorem fault_outside {P : List Part} (c : FClass) (b : Block) (hP : [.sys, .flt] ⊆ P) :
    (Block.fault c b).outside P = b.outside P := by
  simp only [List.cons_subset, List.nil_subset, and_true] at hP
  unfold Block.fault
  split <;> simp [hP]

@[simp] theorem putPort_outside {P : List Part} (p : Nat) (f : PortSt → PortSt) (b : Block) (hP : [.net] ⊆ P) :
    (Block.putPort p f b).outside P = b.outside P := by
  simp only [List.cons_subset, List.nil_subset, and_true] at hP
  simp [Block.putPort, hP]

@[simp] theorem countNet_outside {P : List Part} (p : Nat) (c : NetCtr) (b : Block) (hP : [.net] ⊆ P) :
    (Block.countNet p c b).outside P = b.outside P := by
  simp only [List.cons_subset, List.nil_subset, and_true] at hP
  simp [Block.countNet, hP]

@[simp] theorem purge_outside {P : List Part} (p q : Nat) (b : Block) (hP : (.net :: Part.event) ⊆ P) :
    (Block.purge p b q).outside P = b.outside P := by
  simp only [List.cons_subset, List.nil_subset, and_true] at hP
  simp [Block.purge, hP]

@[simp] theorem enqueue_outside {P : List Part} (p : Nat) (f : TxFrame) (b : Block) (hP : (.net :: Part.event) ⊆ P) :
    (Block.enqueue p f b).outside P = b.outside P := by
  simp only [List.cons_subset, List.nil_subset, and_true] at hP
  simp [Block.enqueue, hP]

@[simp] theorem txStamp_outside {P : List Part} (p : Nat) (f : TxFrame) (b : Block) (hP : (.time :: .net :: Part.event) ⊆ P) :
    (Block.txStamp p f b).outside P = b.outside P := by
  simp only [List.cons_subset, List.nil_subset, and_true] at hP
  unfold Block.txStamp
  split <;> simp [hP]

@[simp] theorem start_outside {P : List Part} (p : Nat) (f : TxFrame) (b : Block) (hP : (.time :: .net :: Part.event) ⊆ P) :
    (Block.start p f b).outside P = b.outside P := by
  simp only [List.cons_subset, List.nil_subset, and_true] at hP
  simp [Block.start, hP]

@[simp] theorem startHead_outside {P : List Part} (p q : Nat) (b : Block) (hP : (.time :: .net :: Part.event) ⊆ P) :
    (Block.startHead p q b).outside P = b.outside P := by
  simp only [List.cons_subset, List.nil_subset, and_true] at hP
  unfold Block.startHead
  split <;> simp [hP]

@[simp] theorem kick_outside {P : List Part} (p : Nat) (slip : Bool) (b : Block) (hP : (.time :: .net :: Part.event) ⊆ P) :
    (Block.kick p slip b).outside P = b.outside P := by
  simp only [List.cons_subset, List.nil_subset, and_true] at hP
  unfold Block.kick
  dsimp only
  (repeat' split) <;> simp [hP]

@[simp] theorem sendOn_outside {P : List Part} (ports q : Nat) (launch : Option Nat) (body : TxBody) (b : Block)
    (hP : (.time :: .net :: Part.event) ⊆ P) :
    (Block.sendOn ports q launch body b).outside P = b.outside P := by
  simp only [List.cons_subset, List.nil_subset, and_true] at hP
  simp [Block.sendOn, hP]

@[simp] theorem countFab_outside {P : List Part} (l : Nat) (c : FabCtr) (b : Block) (hP : [.fab] ⊆ P) :
    (Block.countFab l c b).outside P = b.outside P := by
  simp only [List.cons_subset, List.nil_subset, and_true] at hP
  simp [Block.countFab, hP]

@[simp] theorem fabDiscard_outside {P : List Part} (l : Nat) (c : FabCtr) (src : Nat) (b : Block) (hP : (.fab :: Part.event) ⊆ P) :
    (Block.fabDiscard l c src b).outside P = b.outside P := by
  simp only [List.cons_subset, List.nil_subset, and_true] at hP
  simp [Block.fabDiscard, hP]

@[simp] theorem fabPass_outside {P : List Part} (b : Block) (hP : [.evr, .fab] ⊆ P) : (Block.fabPass b).outside P = b.outside P := by
  simp only [List.cons_subset, List.nil_subset, and_true] at hP
  simp [Block.fabPass, hP]

@[simp] theorem unsieve_outside {P : List Part} (f : SvEntry → Bool) (b : Block) (hP : [.fab] ⊆ P) :
    (Block.unsieve f b).outside P = b.outside P := by
  simp only [List.cons_subset, List.nil_subset, and_true] at hP
  simp [Block.unsieve, hP]

@[simp] theorem putRoute_outside {P : List Part} (node : Bool) (i : Nat) (r : Route) (inval : Bool) (b : Block) (hP : [.fab] ⊆ P) :
    (Block.putRoute node i r inval b).2.outside P = b.outside P := by
  simp only [List.cons_subset, List.nil_subset, and_true] at hP
  unfold Block.putRoute
  dsimp only
  (repeat' split) <;> simp [hP]

@[simp] theorem sieveLook_outside {P : List Part} (k dst : Nat) (b : Block) (hP : [.fab] ⊆ P) :
    (Block.sieveLook k dst b).2.outside P = b.outside P := by
  simp only [List.cons_subset, List.nil_subset, and_true] at hP
  unfold Block.sieveLook
  dsimp only
  (repeat' split) <;> simp [hP]

@[simp] theorem egress_outside {P : List Part} (k dst : Nat) (b : Block) (hP : [.fab] ⊆ P) :
    (Block.egress k dst b).2.outside P = b.outside P := by
  simp only [List.cons_subset, List.nil_subset, and_true] at hP
  unfold Block.egress
  (repeat' split) <;> simp [hP]

@[simp] theorem fabEmit_outside {P : List Part} (l : Nat) (h : FabHdr) (body : FabBody) (next : Option Nat) (b : Block)
    (hP : Part.reply ⊆ P) :
    (Block.fabEmit l h body next b).outside P = b.outside P := by
  simp only [List.cons_subset, List.nil_subset, and_true] at hP
  simp [Block.fabEmit, hP]

@[simp] theorem nextSeq_outside {P : List Part} (svc : Nat) (b : Block) (hP : [.fab] ⊆ P) :
    (Block.nextSeq svc b).2.outside P = b.outside P := by
  simp only [List.cons_subset, List.nil_subset, and_true] at hP
  simp [Block.nextSeq, hP]

@[simp] theorem bdupPut_outside {P : List Part} (src svc seq : Nat) (b : Block) (hP : [.fab] ⊆ P) :
    (Block.bdupPut src svc seq b).outside P = b.outside P := by
  simp only [List.cons_subset, List.nil_subset, and_true] at hP
  simp [Block.bdupPut, hP]

@[simp] theorem fabSend_outside {P : List Part} (svc dst : Nat) (bcast mcast zscope seg : Bool) (body : FabBody) (b : Block)
    (hP : Part.reply ⊆ P) :
    (Block.fabSend svc dst bcast mcast zscope seg body b).outside P = b.outside P := by
  simp only [List.cons_subset, List.nil_subset, and_true] at hP
  unfold Block.fabSend
  dsimp only
  (repeat' split) <;> simp [hP]

@[simp] theorem fabMessage_outside {P : List Part} (svc dst : Nat) (force : Bool) (p : List Byte) (b : Block) (hP : Part.reply ⊆ P) :
    (Block.fabMessage svc dst force p b).outside P = b.outside P := by
  simp only [List.cons_subset, List.nil_subset, and_true] at hP
  simp [Block.fabMessage, hP]

/-! ### Frames: Answers, orders and the journal -/

@[simp] theorem deliver_outside {P : List Part} (r : Rsp) (b : Block) (hP : Part.event ⊆ P) :
    (Block.deliver r b).outside P = b.outside P := by
  simp only [List.cons_subset, List.nil_subset, and_true] at hP
  unfold Block.deliver
  dsimp only
  (repeat' split) <;> simp [hP]

@[simp] theorem send_outside {P : List Part} (r : Rsp) (b : Block) (hP : Part.reply ⊆ P) : (Block.send r b).outside P = b.outside P := by
  simp only [List.cons_subset, List.nil_subset, and_true] at hP
  unfold Block.send
  (repeat' split) <;> simp [hP]

@[simp] theorem drop_outside {P : List Part} (r : Req) (b : Block) (hP : [.mbx] ⊆ P) : (Block.drop r b).outside P = b.outside P := by
  simp only [List.cons_subset, List.nil_subset, and_true] at hP
  simp [Block.drop, hP]

@[simp] theorem answer_outside {P : List Part} (r : Req) (status epoch : Nat) (payload : List Byte) (b : Block) (hP : Part.reply ⊆ P) :
    (Block.answer r status epoch payload b).outside P = b.outside P := by
  simp only [List.cons_subset, List.nil_subset, and_true] at hP
  simp [Block.answer, hP]

@[simp] theorem status_outside {P : List Part} (r : Req) (st : Nat) (b : Block) (hP : Part.reply ⊆ P) :
    (Block.status r st b).outside P = b.outside P := by
  simp only [List.cons_subset, List.nil_subset, and_true] at hP
  simp [Block.status, hP]

@[simp] theorem ok_outside {P : List Part} (r : Req) (payload : List Byte) (b : Block) (hP : Part.reply ⊆ P) :
    (Block.ok r payload b).outside P = b.outside P := by
  simp only [List.cons_subset, List.nil_subset, and_true] at hP
  simp [Block.ok, hP]

@[simp] theorem order_outside {P : List Part} (j : Job) (b : Block) (hP : [.nv] ⊆ P) : (Block.order j b).outside P = b.outside P := by
  simp only [List.cons_subset, List.nil_subset, and_true] at hP
  simp [Block.order, hP]

@[simp] theorem journal_outside {P : List Part} (prot : Bool) (rid : Nat) (r : Req) (b : Block) (hP : Part.reply ⊆ P) :
    (Block.journal prot rid r b).outside P = b.outside P := by
  simp only [List.cons_subset, List.nil_subset, and_true] at hP
  simp [Block.journal, hP]

/-! ### Frames: Time -/

@[simp] theorem runTo_outside {P : List Part} (inst : Nat) (b : Block) (hP : [.time] ⊆ P) :
    (Block.runTo inst b).outside P = b.outside P := by
  simp only [List.cons_subset, List.nil_subset, and_true] at hP
  simp [Block.runTo, hP]

@[simp] theorem requal_outside {P : List Part} (b : Block) (hP : [.time] ⊆ P) : (Block.requal b).outside P = b.outside P := by
  simp only [List.cons_subset, List.nil_subset, and_true] at hP
  simp [Block.requal, hP]

@[simp] theorem reEst_outside {P : List Part} (b : Block) (hP : [.time] ⊆ P) : (Block.reEst b).outside P = b.outside P := by
  simp only [List.cons_subset, List.nil_subset, and_true] at hP
  unfold Block.reEst
  dsimp only
  split <;> simp [hP]

@[simp] theorem setTState_outside {P : List Part} (st : TState) (b : Block) (hP : (.time :: Part.event) ⊆ P) :
    (Block.setTState st b).outside P = b.outside P := by
  simp only [List.cons_subset, List.nil_subset, and_true] at hP
  unfold Block.setTState
  split <;> simp [hP]

@[simp] theorem writeInc_outside {P : List Part} (inc freq : Nat) (b : Block) (hP : (.time :: Part.event) ⊆ P) :
    (Block.writeInc inc freq b).outside P = b.outside P := by
  simp only [List.cons_subset, List.nil_subset, and_true] at hP
  simp [Block.writeInc, hP]

@[simp] theorem incTransfer_outside {P : List Part} (v : Byte) (b : Block) (hP : (.time :: Part.event) ⊆ P) :
    (Block.incTransfer v b).outside P = b.outside P := by
  simp only [List.cons_subset, List.nil_subset, and_true] at hP
  simp [Block.incTransfer, hP]

@[simp] theorem incLapse_outside {P : List Part} (b : Block) (hP : [.time] ⊆ P) : (Block.incLapse b).outside P = b.outside P := by
  simp only [List.cons_subset, List.nil_subset, and_true] at hP
  simp [Block.incLapse, hP]

@[simp] theorem applyStep_outside {P : List Part} (abs : Bool) (v : Int) (b : Block) (hP : (.time :: .cnv :: Part.event) ⊆ P) :
    (Block.applyStep abs v b).outside P = b.outside P := by
  simp only [List.cons_subset, List.nil_subset, and_true] at hP
  unfold Block.applyStep
  rw [raise_outside _ _ _ (by simp [hP]), outside_mk] <;> simp only [hP, true_or, or_true]

@[simp] theorem stepTo_outside {P : List Part} (abs : Bool) (v : Int) (est : Nat) (b : Block) (hP : (.time :: .cnv :: Part.event) ⊆ P) :
    (Block.stepTo abs v est b).outside P = b.outside P := by
  simp only [List.cons_subset, List.nil_subset, and_true] at hP
  simp [Block.stepTo, hP]

@[simp] theorem servoSlew_outside {P : List Part} (theta : Int) (b : Block) (hP : (.time :: Part.event) ⊆ P) :
    (Block.servoSlew theta b).outside P = b.outside P := by
  simp only [List.cons_subset, List.nil_subset, and_true] at hP
  simp [Block.servoSlew, hP]

@[simp] theorem servoJudge_outside {P : List Part} (theta : Int) (b : Block) (hP : (.time :: Part.event) ⊆ P) :
    (Block.servoJudge theta b).outside P = b.outside P := by
  simp only [List.cons_subset, List.nil_subset, and_true] at hP
  simp [Block.servoJudge, hP]

@[simp] theorem servo_outside {P : List Part} (theta : Int) (b : Block) (hP : (.time :: .cnv :: Part.event) ⊆ P) :
    (Block.servo theta b).outside P = b.outside P := by
  simp only [List.cons_subset, List.nil_subset, and_true] at hP
  simp [Block.servo, hP]

@[simp] theorem tcNsRead_outside {P : List Part} (tongs : Bool) (b : Block) (hP : [.time, .mbx] ⊆ P) :
    (Block.tcNsRead tongs b).outside P = b.outside P := by
  simp only [List.cons_subset, List.nil_subset, and_true] at hP
  simp [Block.tcNsRead, hP]

@[simp] theorem timeNsRead_outside {P : List Part} (tongs : Bool) (b : Block) (hP : [.time, .mbx] ⊆ P) :
    (Block.timeNsRead tongs b).outside P = b.outside P := by
  simp only [List.cons_subset, List.nil_subset, and_true] at hP
  unfold Block.timeNsRead
  split <;> simp [hP]

@[simp] theorem epochLoRead_outside {P : List Part} (tongs : Bool) (b : Block) (hP : [.time, .mbx] ⊆ P) :
    (Block.epochLoRead tongs b).outside P = b.outside P := by
  simp only [List.cons_subset, List.nil_subset, and_true] at hP
  unfold Block.epochLoRead
  split <;> simp [hP]

@[simp] theorem timSource_outside {P : List Part} (ref : Bool) (b : Block) (hP : [.time] ⊆ P) :
    (Block.timSource ref b).outside P = b.outside P := by
  simp only [List.cons_subset, List.nil_subset, and_true] at hP
  simp [Block.timSource, hP]

@[simp] theorem tim10mLoss_outside {P : List Part} (b : Block) (hP : (.time :: Part.event) ⊆ P) :
    (Block.tim10mLoss b).outside P = b.outside P := by
  simp only [List.cons_subset, List.nil_subset, and_true] at hP
  simp [Block.tim10mLoss, hP]

@[simp] theorem stampInterrupt_outside {P : List Part} (wait : Nat) (b : Block) (hP : [.time] ⊆ P) :
    (Block.stampInterrupt wait b).outside P = b.outside P := by
  simp only [List.cons_subset, List.nil_subset, and_true] at hP
  unfold Block.stampInterrupt
  dsimp only
  simp [hP]

@[simp] theorem portBeacon_outside {P : List Part} (port ncount : Nat) (b : Block) (hP : [.time] ⊆ P) :
    (Block.portBeacon port ncount b).outside P = b.outside P := by
  simp only [List.cons_subset, List.nil_subset, and_true] at hP
  simp [Block.portBeacon, hP]

@[simp] theorem estRecompute_outside {P : List Part} (b : Block) (hP : [.time] ⊆ P) : (Block.estRecompute b).outside P = b.outside P := by
  simp only [List.cons_subset, List.nil_subset, and_true] at hP
  simp [Block.estRecompute, hP]

@[simp] theorem holdoverExpiry_outside {P : List Part} (b : Block) (hP : (.time :: Part.event) ⊆ P) :
    (Block.holdoverExpiry b).outside P = b.outside P := by
  simp only [List.cons_subset, List.nil_subset, and_true] at hP
  simp [Block.holdoverExpiry, hP]

@[simp] theorem steppedTimeout_outside {P : List Part} (b : Block) (hP : (.time :: Part.event) ⊆ P) :
    (Block.steppedTimeout b).outside P = b.outside P := by
  simp only [List.cons_subset, List.nil_subset, and_true] at hP
  unfold Block.steppedTimeout
  dsimp only
  (repeat' split) <;> simp [hP]

@[simp] theorem ppsPulse_outside {P : List Part} (b : Block) (hP : [.time] ⊆ P) : (Block.ppsPulse b).outside P = b.outside P := by
  simp only [List.cons_subset, List.nil_subset, and_true] at hP
  unfold Block.ppsPulse
  dsimp only
  split <;> simp [hP]

@[simp] theorem ppsPulseEnd_outside {P : List Part} (b : Block) (hP : [.time] ⊆ P) : (Block.ppsPulseEnd b).outside P = b.outside P := by
  simp only [List.cons_subset, List.nil_subset, and_true] at hP
  unfold Block.ppsPulseEnd
  split <;> simp [hP]

@[simp] theorem timeReadNow_outside {P : List Part} (r : Req) (b : Block) (hP : Part.reply ⊆ P) :
    (timeReadNow r b).outside P = b.outside P := by
  simp only [List.cons_subset, List.nil_subset, and_true] at hP
  unfold timeReadNow
  refine outside_onOp ?_
  simp [hP]

@[simp] theorem timeReadTick_outside {P : List Part} (r : Req) (b : Block) (hP : Part.reply ⊆ P) :
    (timeReadTick r b).outside P = b.outside P := by
  simp only [List.cons_subset, List.nil_subset, and_true] at hP
  unfold timeReadTick
  refine outside_onOp ?_
  dsimp only
  (repeat' split) <;> simp [hP]

@[simp] theorem timeCfg_outside {P : List Part} (r : Req) (b : Block) (hP : Part.reply ⊆ P) : (timeCfg r b).outside P = b.outside P := by
  simp only [List.cons_subset, List.nil_subset, and_true] at hP
  unfold timeCfg
  refine outside_onReq ?_
  simp [hP]

@[simp] theorem timeCfgCommit_outside {P : List Part} (r : Req) (b : Block) (hP : Part.reply ⊆ P) :
    (timeCfgCommit r b).outside P = b.outside P := by
  simp only [List.cons_subset, List.nil_subset, and_true] at hP
  simp [timeCfgCommit, hP]

@[simp] theorem timeCfgApply_outside {P : List Part} (c : TimeCfg) (b : Block) (hP : (.time :: Part.event) ⊆ P) :
    (Block.timeCfgApply c b).outside P = b.outside P := by
  simp only [List.cons_subset, List.nil_subset, and_true] at hP
  simp [Block.timeCfgApply, hP]

@[simp] theorem timeCfgEffect_outside {P : List Part} (b : Block) (hP : (.time :: Part.event) ⊆ P) :
    (timeCfgEffect b).outside P = b.outside P := by
  simp only [List.cons_subset, List.nil_subset, and_true] at hP
  simp [timeCfgEffect, hP]

@[simp] theorem timeSet_outside {P : List Part} (r : Req) (b : Block) (hP : Part.reply ⊆ P) : (timeSet r b).outside P = b.outside P := by
  simp only [List.cons_subset, List.nil_subset, and_true] at hP
  unfold timeSet
  refine outside_onReq ?_
  simp [hP]

@[simp] theorem timeSetEffect_outside {P : List Part} (b : Block) (hP : (.time :: .cnv :: Part.event) ⊆ P) :
    (timeSetEffect b).outside P = b.outside P := by
  simp only [List.cons_subset, List.nil_subset, and_true] at hP
  simp [timeSetEffect, hP]

@[simp] theorem timePtp_outside {P : List Part} (r : Req) (b : Block) (hP : Part.reply ⊆ P) : (timePtp r b).outside P = b.outside P := by
  simp only [List.cons_subset, List.nil_subset, and_true] at hP
  unfold timePtp
  refine outside_onReq ?_
  simp [hP]

/-! ### Frames: Conversion and accumulators -/

@[simp] theorem putConv_outside {P : List Part} (j : Nat) (x : Conv) (b : Block) (hP : [.cnv] ⊆ P) :
    (Block.putConv j x b).outside P = b.outside P := by
  simp only [List.cons_subset, List.nil_subset, and_true] at hP
  simp [Block.putConv, hP]

@[simp] theorem putTwin_outside {P : List Part} (k : Nat) (x : Twin) (b : Block) (hP : [.cnv] ⊆ P) :
    (Block.putTwin k x b).outside P = b.outside P := by
  simp only [List.cons_subset, List.nil_subset, and_true] at hP
  simp [Block.putTwin, hP]

@[simp] theorem putAin_outside {P : List Part} (n : Nat) (x : AIn) (b : Block) (hP : [.cnv] ⊆ P) :
    (Block.putAin n x b).outside P = b.outside P := by
  simp only [List.cons_subset, List.nil_subset, and_true] at hP
  simp [Block.putAin, hP]

@[simp] theorem verdictEvents_outside {P : List Part} (k cause : Nat) (bA bB : List Nat) (q : Nat) (b : Block) (hP : Part.event ⊆ P) :
    (Block.verdictEvents k cause bA bB q b).outside P = b.outside P := by
  simp only [List.cons_subset, List.nil_subset, and_true] at hP
  simp [Block.verdictEvents, hP]

@[simp] theorem verdictApply_outside {P : List Part} (k : Nat) (b : Block) (hP : (.sys :: .flt :: .cnv :: Part.event) ⊆ P) :
    (Block.verdictApply k b).outside P = b.outside P := by
  simp only [List.cons_subset, List.nil_subset, and_true] at hP
  unfold Block.verdictApply
  dsimp only
  split <;> simp [hP]

@[simp] theorem resume_outside {P : List Part} (idx el k : Nat) (b : Block) (hP : (.sys :: .flt :: .cnv :: Part.event) ⊆ P) :
    (Block.resume idx el k b).outside P = b.outside P := by
  simp only [List.cons_subset, List.nil_subset, and_true] at hP
  unfold Block.resume
  dsimp only
  split <;> simp [hP]

@[simp] theorem strobe_outside {P : List Part} (idx el : Nat) (b : Block) (hP : (.sys :: .time :: .flt :: .cnv :: Part.event) ⊆ P) :
    (Block.strobe idx el b).outside P = b.outside P := by
  simp only [List.cons_subset, List.nil_subset, and_true] at hP
  unfold Block.strobe
  dsimp only
  (repeat' split) <;> simp [hP]

@[simp] theorem restartInput_outside {P : List Part} (el n : Nat) (b : Block) (hP : [.cnv, .acc] ⊆ P) :
    (Block.restartInput el n b).outside P = b.outside P := by
  simp only [List.cons_subset, List.nil_subset, and_true] at hP
  simp [Block.restartInput, hP]

@[simp] theorem endBreak_outside {P : List Part} (el n : Nat) (b : Block) (hP : [.evr, .cnv] ⊆ P) :
    (Block.endBreak el n b).outside P = b.outside P := by
  simp only [List.cons_subset, List.nil_subset, and_true] at hP
  unfold Block.endBreak
  dsimp only
  split <;> simp [hP]

@[simp] theorem cnvInput_outside {P : List Part} (r : Req) (b : Block) (hP : Part.reply ⊆ P) : (cnvInput r b).outside P = b.outside P := by
  simp only [List.cons_subset, List.nil_subset, and_true] at hP
  unfold cnvInput
  refine outside_onReq ?_
  simp [hP]

@[simp] theorem cnvInputCommit_outside {P : List Part} (r : Req) (b : Block) (hP : (.cnv :: Part.reply) ⊆ P) :
    (cnvInputCommit r b).outside P = b.outside P := by
  simp only [List.cons_subset, List.nil_subset, and_true] at hP
  simp [cnvInputCommit, hP]

@[simp] theorem inApply_outside {P : List Part} (n : Nat) (x : InRec) (b : Block) (hP : [.evr, .cnv, .acc] ⊆ P) :
    (Block.inApply n x b).outside P = b.outside P := by
  simp only [List.cons_subset, List.nil_subset, and_true] at hP
  simp [Block.inApply, hP]

@[simp] theorem inputRecordEffect_outside {P : List Part} (b : Block) (hP : [.evr, .cnv, .acc] ⊆ P) :
    (inputRecordEffect b).outside P = b.outside P := by
  simp only [List.cons_subset, List.nil_subset, and_true] at hP
  simp [inputRecordEffect, hP]

@[simp] theorem cnvSeq_outside {P : List Part} (r : Req) (b : Block) (hP : (.cnv :: Part.reply) ⊆ P) :
    (cnvSeq r b).outside P = b.outside P := by
  simp only [List.cons_subset, List.nil_subset, and_true] at hP
  unfold cnvSeq
  refine outside_onReq ?_
  simp [hP]

@[simp] theorem cnvSeqCommit_outside {P : List Part} (r : Req) (b : Block) (hP : (.cnv :: Part.reply) ⊆ P) :
    (cnvSeqCommit r b).outside P = b.outside P := by
  simp only [List.cons_subset, List.nil_subset, and_true] at hP
  simp [cnvSeqCommit, hP]

@[simp] theorem seqApply_outside {P : List Part} (p : Nat) (ss : List (Nat × List Nat)) (b : Block) (hP : [.cnv, .acc] ⊆ P) :
    (Block.seqApply p ss b).outside P = b.outside P := by
  simp only [List.cons_subset, List.nil_subset, and_true] at hP
  simp [Block.seqApply, hP]

@[simp] theorem sequenceSetEffect_outside {P : List Part} (b : Block) (hP : [.cnv, .acc] ⊆ P) :
    (sequenceSetEffect b).outside P = b.outside P := by
  simp only [List.cons_subset, List.nil_subset, and_true] at hP
  simp [sequenceSetEffect, hP]

@[simp] theorem cnvUrgent_outside {P : List Part} (r : Req) (b : Block) (hP : (.cnv :: Part.reply) ⊆ P) :
    (cnvUrgent r b).outside P = b.outside P := by
  simp only [List.cons_subset, List.nil_subset, and_true] at hP
  unfold cnvUrgent
  refine outside_onReq ?_
  simp [hP]

@[simp] theorem hkRound_outside {P : List Part} (p : Path) (b : Block) (hP : [.cnv] ⊆ P) : (Block.hkRound p b).outside P = b.outside P := by
  simp only [List.cons_subset, List.nil_subset, and_true] at hP
  simp [Block.hkRound, hP]

@[simp] theorem urgentStart_outside {P : List Part} (p : Path) (k idx : Nat) (b : Block) (hP : [.cnv] ⊆ P) :
    (Block.urgentStart p k idx b).outside P = b.outside P := by
  simp only [List.cons_subset, List.nil_subset, and_true] at hP
  unfold Block.urgentStart
  dsimp only
  (repeat' split) <;> simp [hP]

@[simp] theorem hkCause_outside {P : List Part} (p : Path) (k cause : Nat) (bad : Bool) (q : Int) (b : Block)
    (hP : (.cnv :: Part.event) ⊆ P) :
    (Block.hkCause p k cause bad q b).outside P = b.outside P := by
  simp only [List.cons_subset, List.nil_subset, and_true] at hP
  simp [Block.hkCause, hP]

@[simp] theorem hkJudge_outside {P : List Part} (p : Path) (k cause : Nat) (bad : Bool) (q : Int) (trim : Conv → Conv) (b : Block)
    (hP : (.cnv :: Part.event) ⊆ P) :
    (Block.hkJudge p k cause bad q trim b).outside P = b.outside P := by
  simp only [List.cons_subset, List.nil_subset, and_true] at hP
  simp [Block.hkJudge, hP]

@[simp] theorem hkResult_outside {P : List Part} (p : Path) (k input : Nat) (sum : Int) (n : Nat) (b : Block)
    (hP : (.cnv :: Part.event) ⊆ P) :
    (Block.hkResult p k input sum n b).outside P = b.outside P := by
  simp only [List.cons_subset, List.nil_subset, and_true] at hP
  simp [Block.hkResult, hP]

@[simp] theorem hkTake_outside {P : List Part} (p : Path) (k e : Nat) (kept : List (Int × Nat)) (b : Block)
    (hP : (.cnv :: Part.event) ⊆ P) :
    (Block.hkTake p k e kept b).outside P = b.outside P := by
  simp only [List.cons_subset, List.nil_subset, and_true] at hP
  simp [Block.hkTake, hP]

@[simp] theorem urgentDone_outside {P : List Part} (p : Path) (k : Nat) (b : Block) (hP : (.cnv :: Part.reply) ⊆ P) :
    (Block.urgentDone p k b).outside P = b.outside P := by
  simp only [List.cons_subset, List.nil_subset, and_true] at hP
  unfold Block.urgentDone
  dsimp only
  (repeat' split) <;> simp [hP]

@[simp] theorem cnvHouse_outside {P : List Part} (r : Req) (b : Block) (hP : Part.reply ⊆ P) : (cnvHouse r b).outside P = b.outside P := by
  simp only [List.cons_subset, List.nil_subset, and_true] at hP
  unfold cnvHouse
  refine outside_onReq ?_
  simp [hP]

@[simp] theorem cnvHouseCommit_outside {P : List Part} (r : Req) (b : Block) (hP : (.cnv :: Part.reply) ⊆ P) :
    (cnvHouseCommit r b).outside P = b.outside P := by
  simp only [List.cons_subset, List.nil_subset, and_true] at hP
  simp [cnvHouseCommit, hP]

@[simp] theorem houseEffect_outside {P : List Part} (b : Block) (hP : [.cnv] ⊆ P) : (houseEffect b).outside P = b.outside P := by
  simp only [List.cons_subset, List.nil_subset, and_true] at hP
  simp [houseEffect, hP]

@[simp] theorem wbEval_outside {P : List Part} (n : Nat) (b : Block) (hP : (.cnv :: Part.event) ⊆ P) :
    (Block.wbEval n b).outside P = b.outside P := by
  simp only [List.cons_subset, List.nil_subset, and_true] at hP
  unfold Block.wbEval
  dsimp only
  (repeat' split) <;> simp [hP]

/-! ### Frames: Backstop -/

@[simp] theorem driveEnd_outside {P : List Part} (j : Nat) (b : Block) (hP : [.evr, .bs] ⊆ P) :
    (Block.driveEnd j b).outside P = b.outside P := by
  simp only [List.cons_subset, List.nil_subset, and_true] at hP
  simp [Block.driveEnd, hP]

@[simp] theorem groupStep_outside {P : List Part} (g : List Byte) (j : Nat) (b : Block) (hP : (.bs :: Part.event) ⊆ P) :
    (Block.groupStep g j b).outside P = b.outside P := by
  simp only [List.cons_subset, List.nil_subset, and_true] at hP
  simp [Block.groupStep, hP]

@[simp] theorem groups_outside {P : List Part} (b : Block) (hP : (.bs :: Part.event) ⊆ P) : (Block.groups b).outside P = b.outside P := by
  simp only [List.cons_subset, List.nil_subset, and_true] at hP
  unfold Block.groups
  split <;> simp [hP]

@[simp] theorem minOnExpiry_outside {P : List Part} (j : Nat) (b : Block) (hP : [.evr, .bs] ⊆ P) :
    (Block.minOnExpiry j b).outside P = b.outside P := by
  simp only [List.cons_subset, List.nil_subset, and_true] at hP
  simp [Block.minOnExpiry, hP]

@[simp] theorem compare_outside {P : List Part} (p : Path) (n gain : Nat) (code : Int) (b : Block) (hP : (.bs :: Part.event) ⊆ P) :
    (Block.compare p n gain code b).outside P = b.outside P := by
  simp only [List.cons_subset, List.nil_subset, and_true] at hP
  unfold Block.compare
  split <;> simp [hP]

@[simp] theorem bsLoad_outside {P : List Part} (g : List Byte) (b : Block) (hP : [.sys, .evr, .bs] ⊆ P) :
    (Block.bsLoad g b).outside P = b.outside P := by
  simp only [List.cons_subset, List.nil_subset, and_true] at hP
  simp [Block.bsLoad, hP]

@[simp] theorem bsRewrite_outside {P : List Part} (w : List Byte) (b : Block) (hP : Part.event ⊆ P) :
    (Block.bsRewrite w b).outside P = b.outside P := by
  simp only [List.cons_subset, List.nil_subset, and_true] at hP
  simp [Block.bsRewrite, hP]

@[simp] theorem arm_outside {P : List Part} (aOk bOk : Bool) (b : Block) (hP : (.sys :: .bs :: Part.event) ⊆ P) :
    (Block.arm aOk bOk b).outside P = b.outside P := by
  simp only [List.cons_subset, List.nil_subset, and_true] at hP
  unfold Block.arm
  dsimp only
  split <;> simp [hP]

@[simp] theorem bsReload_outside {P : List Part} (aOk bOk : Bool) (b : Block) (hP : (.sys :: .flt :: .bs :: Part.event) ⊆ P) :
    (Block.bsReload aOk bOk b).outside P = b.outside P := by
  simp only [List.cons_subset, List.nil_subset, and_true] at hP
  simp [Block.bsReload, hP]

@[simp] theorem bsCrcFail_outside {P : List Part} (part : Nat) (b : Block) (hP : (.bs :: Part.event) ⊆ P) :
    (Block.bsCrcFail part b).outside P = b.outside P := by
  simp only [List.cons_subset, List.nil_subset, and_true] at hP
  simp [Block.bsCrcFail, hP]

@[simp] theorem bstopRead_outside {P : List Part} (r : Req) (b : Block) (hP : Part.reply ⊆ P) :
    (bstopRead r b).outside P = b.outside P := by
  simp only [List.cons_subset, List.nil_subset, and_true] at hP
  unfold bstopRead
  refine outside_onOp ?_
  split
  · simp [hP]
  · split <;> simp [hP]

@[simp] theorem bstopStage_outside {P : List Part} (r : Req) (b : Block) (hP : (.bs :: Part.reply) ⊆ P) :
    (bstopStage r b).outside P = b.outside P := by
  simp only [List.cons_subset, List.nil_subset, and_true] at hP
  unfold bstopStage
  refine outside_onOp ?_
  dsimp only
  (repeat' split) <;> simp [hP]

@[simp] theorem bstopCommit_outside {P : List Part} (r : Req) (b : Block) (hP : (.bs :: Part.reply) ⊆ P) :
    (bstopCommit r b).outside P = b.outside P := by
  simp only [List.cons_subset, List.nil_subset, and_true] at hP
  unfold bstopCommit
  refine outside_onOp ?_
  simp [hP]

@[simp] theorem bstopCopyDone_outside {P : List Part} (copy st : Nat) (b : Block) (hP : (.sys :: .bs :: Part.reply) ⊆ P) :
    (bstopCopyDone copy st b).outside P = b.outside P := by
  simp only [List.cons_subset, List.nil_subset, and_true] at hP
  unfold bstopCopyDone
  split
  · rfl
  · dsimp only
    (repeat' split) <;> simp [hP]

@[simp] theorem bstopEffect_outside {P : List Part} (b : Block) (hP : (.sys :: .bs :: Part.event) ⊆ P) :
    (bstopEffect b).outside P = b.outside P := by
  simp only [List.cons_subset, List.nil_subset, and_true] at hP
  unfold bstopEffect
  split <;> simp [hP]

@[simp] theorem bstopState_outside {P : List Part} (r : Req) (b : Block) (hP : Part.reply ⊆ P) :
    (bstopState r b).outside P = b.outside P := by
  simp only [List.cons_subset, List.nil_subset, and_true] at hP
  unfold bstopState
  refine outside_onOp ?_
  simp [hP]

@[simp] theorem keptConv_outside {P : List Part} (p : Path) (k idx : Nat) (raw : BitVec 16) (b : Block)
    (hP : (.cnv :: .bs :: Part.event) ⊆ P) :
    (Block.keptConv p k idx raw b).outside P = b.outside P := by
  simp only [List.cons_subset, List.nil_subset, and_true] at hP
  unfold Block.keptConv
  dsimp only
  (repeat' split) <;> simp [hP]

@[simp] theorem detSample_outside {P : List Part} (p : Path) (n : Nat) (b : Block) (hP : (.acc :: .bs :: Part.event) ⊆ P) :
    (Block.detSample p n b).outside P = b.outside P := by
  simp only [List.cons_subset, List.nil_subset, and_true] at hP
  unfold Block.detSample
  dsimp only
  split <;> simp [hP]

@[simp] theorem overrange_outside {P : List Part} (n inst : Nat) (clip : Bool) (b : Block) (hP : (.cnv :: Part.event) ⊆ P) :
    (Block.overrange n inst clip b).outside P = b.outside P := by
  simp only [List.cons_subset, List.nil_subset, and_true] at hP
  unfold Block.overrange
  dsimp only
  split <;> simp [hP]

@[simp] theorem takeSample_outside {P : List Part} (p : Path) (k : Nat) (b : Block) (hP : (.cnv :: .acc :: .bs :: Part.event) ⊆ P) :
    (Block.takeSample p k b).outside P = b.outside P := by
  simp only [List.cons_subset, List.nil_subset, and_true] at hP
  unfold Block.takeSample
  dsimp only
  simp [hP]

@[simp] theorem updDet_outside {P : List Part} (bsd : Bool) (p : Path) (d : Nat) (f : Det → Det) (b : Block)
    (hP : (.acc :: .bs :: Part.event) ⊆ P) :
    (Block.updDet bsd p d f b).outside P = b.outside P := by
  simp only [List.cons_subset, List.nil_subset, and_true] at hP
  simp [Block.updDet, hP]

@[simp] theorem twClosePath_outside {P : List Part} (bsd : Bool) (d : Nat) (p : Path) (b : Block) (hP : (.acc :: .bs :: Part.event) ⊆ P) :
    (Block.twClosePath bsd d p b).outside P = b.outside P := by
  simp only [List.cons_subset, List.nil_subset, and_true] at hP
  unfold Block.twClosePath
  dsimp only
  split <;> simp [hP]

@[simp] theorem twClose_outside {P : List Part} (bsd : Bool) (d : Nat) (b : Block) (hP : (.acc :: .bs :: Part.event) ⊆ P) :
    (Block.twClose bsd d b).outside P = b.outside P := by
  simp only [List.cons_subset, List.nil_subset, and_true] at hP
  simp [Block.twClose, hP]

@[simp] theorem twDeadPath_outside {P : List Part} (bsd : Bool) (d : Nat) (p : Path) (b : Block) (hP : (.acc :: .bs :: Part.event) ⊆ P) :
    (Block.twDeadPath bsd d p b).outside P = b.outside P := by
  simp only [List.cons_subset, List.nil_subset, and_true] at hP
  simp [Block.twDeadPath, hP]

@[simp] theorem twDeadEnd_outside {P : List Part} (bsd : Bool) (d : Nat) (b : Block) (hP : (.acc :: .bs :: Part.event) ⊆ P) :
    (Block.twDeadEnd bsd d b).outside P = b.outside P := by
  simp only [List.cons_subset, List.nil_subset, and_true] at hP
  simp [Block.twDeadEnd, hP]

@[simp] theorem incReleasePath_outside {P : List Part} (bsd : Bool) (d : Nat) (p : Path) (b : Block)
    (hP : (.acc :: .bs :: Part.event) ⊆ P) :
    (Block.incReleasePath bsd d p b).outside P = b.outside P := by
  simp only [List.cons_subset, List.nil_subset, and_true] at hP
  unfold Block.incReleasePath
  dsimp only
  split <;> simp [hP]

@[simp] theorem incRelease_outside {P : List Part} (bsd : Bool) (d : Nat) (b : Block) (hP : (.acc :: .bs :: Part.event) ⊆ P) :
    (Block.incRelease bsd d b).outside P = b.outside P := by
  simp only [List.cons_subset, List.nil_subset, and_true] at hP
  simp [Block.incRelease, hP]

@[simp] theorem returnFail_outside {P : List Part} (k q : Nat) (b : Block) (hP : (.cnv :: Part.event) ⊆ P) :
    (Block.returnFail k q b).outside P = b.outside P := by
  simp only [List.cons_subset, List.nil_subset, and_true] at hP
  unfold Block.returnFail
  dsimp only
  split <;> simp [hP]

@[simp] theorem backStep_outside {P : List Part} (k : Nat) (b : Block) (hP : (.cnv :: Part.event) ⊆ P) :
    (Block.backStep k b).outside P = b.outside P := by
  simp only [List.cons_subset, List.nil_subset, and_true] at hP
  unfold Block.backStep
  dsimp only
  split <;> simp [hP]

@[simp] theorem plausStep_outside {P : List Part} (k : Nat) (b : Block) (hP : (.cnv :: Part.event) ⊆ P) :
    (Block.plausStep k b).outside P = b.outside P := by
  simp only [List.cons_subset, List.nil_subset, and_true] at hP
  unfold Block.plausStep
  dsimp only
  (repeat' split) <;> simp [hP]

@[simp] theorem recentrePath_outside {P : List Part} (n lo hi : Nat) (p : Path) (b : Block) (hP : [.acc] ⊆ P) :
    (Block.recentrePath n lo hi p b).outside P = b.outside P := by
  simp only [List.cons_subset, List.nil_subset, and_true] at hP
  unfold Block.recentrePath
  dsimp only
  simp [hP]

@[simp] theorem feedHolds_outside {P : List Part} (n : Nat) (b : Block) (hP : [.acc] ⊆ P) :
    (Block.feedHolds n b).outside P = b.outside P := by
  simp only [List.cons_subset, List.nil_subset, and_true] at hP
  simp [Block.feedHolds, hP]

@[simp] theorem genInput_outside {P : List Part} (n : Nat) (b : Block) (hP : [.cnv, .acc] ⊆ P) :
    (Block.genInput n b).1.outside P = b.outside P := by
  simp only [List.cons_subset, List.nil_subset, and_true] at hP
  unfold Block.genInput
  dsimp only
  (repeat' split) <;> simp [hP]

@[simp] theorem generate_outside {P : List Part} (b : Block) (hP : (.cnv :: .acc :: Part.event) ⊆ P) :
    (Block.generate b).outside P = b.outside P := by
  simp only [List.cons_subset, List.nil_subset, and_true] at hP
  unfold Block.generate
  extract_lets e b0 r c trk pub
  rw [outside_set_acc hP.2.1]
  have hg : ∀ (x : Block × Tab Gen) n, (x.1.genInput n).1.outside P = x.1.outside P := fun x n => genInput_outside _ _ (by simp [hP])
  have hb : b0.outside P = b.outside P := outside_foldl (fun x n => plausStep_outside _ _ (by simp [hP])) _ _
  clear_value b0
  have hr : r.1.outside P = b0.outside P := outside_foldl_fst hg _ _
  exact hr.trans hb

@[simp] theorem publish_outside {P : List Part} (b : Block) (hP : (.time :: .cnv :: .acc :: Part.event) ⊆ P) :
    (Block.publish b).outside P = b.outside P := by
  simp only [List.cons_subset, List.nil_subset, and_true] at hP
  simp [Block.publish, hP]

@[simp] theorem trackNominal_outside {P : List Part} (t : Nat) (b : Block) (hP : [.acc] ⊆ P) :
    (Block.trackNominal t b).outside P = b.outside P := by
  simp only [List.cons_subset, List.nil_subset, and_true] at hP
  simp [Block.trackNominal, hP]

@[simp] theorem testStart_outside {P : List Part} (k : Nat) (b : Block) (hP : (.cnv :: .bs :: Part.event) ⊆ P) :
    (Block.testStart k b).outside P = b.outside P := by
  simp only [List.cons_subset, List.nil_subset, and_true] at hP
  unfold Block.testStart
  dsimp only
  split <;> simp [hP]

@[simp] theorem testVerdict_outside {P : List Part} (k el : Nat) (b : Block) (hP : (.sys :: .flt :: .cnv :: .bs :: Part.reply) ⊆ P) :
    (Block.testVerdict k el b).outside P = b.outside P := by
  simp only [List.cons_subset, List.nil_subset, and_true] at hP
  unfold Block.testVerdict
  dsimp only
  (repeat' split) <;> simp [hP]

@[simp] theorem disputedClear_outside {P : List Part} (k : Nat) (b : Block) (hP : [.cnv] ⊆ P) :
    (Block.disputedClear k b).outside P = b.outside P := by
  simp only [List.cons_subset, List.nil_subset, and_true] at hP
  simp [Block.disputedClear, hP]

@[simp] theorem returningEnd_outside {P : List Part} (k : Nat) (b : Block) (hP : (.cnv :: .bs :: Part.event) ⊆ P) :
    (Block.returningEnd k b).outside P = b.outside P := by
  simp only [List.cons_subset, List.nil_subset, and_true] at hP
  unfold Block.returningEnd
  dsimp only
  split <;> simp [hP]

@[simp] theorem cnvPlaus_outside {P : List Part} (r : Req) (b : Block) (hP : Part.reply ⊆ P) : (cnvPlaus r b).outside P = b.outside P := by
  simp only [List.cons_subset, List.nil_subset, and_true] at hP
  unfold cnvPlaus
  refine outside_onReq ?_
  simp [hP]

@[simp] theorem cnvPlausCommit_outside {P : List Part} (r : Req) (b : Block) (hP : (.cnv :: Part.reply) ⊆ P) :
    (cnvPlausCommit r b).outside P = b.outside P := by
  simp only [List.cons_subset, List.nil_subset, and_true] at hP
  simp [cnvPlausCommit, hP]

@[simp] theorem plausEffect_outside {P : List Part} (b : Block) (hP : [.cnv] ⊆ P) : (plausEffect b).outside P = b.outside P := by
  simp only [List.cons_subset, List.nil_subset, and_true] at hP
  unfold plausEffect
  dsimp only
  refine (outside_foldl (fun c x => outside_foldl (fun d y => ?_) _ _) _ _).trans ?_
  · simp [hP]
  · simp [hP]

@[simp] theorem cnvTwinRead_outside {P : List Part} (r : Req) (b : Block) (hP : Part.reply ⊆ P) :
    (cnvTwinRead r b).outside P = b.outside P := by
  simp only [List.cons_subset, List.nil_subset, and_true] at hP
  unfold cnvTwinRead
  refine outside_onOp ?_
  simp [hP]

@[simp] theorem cnvTwinTest_outside {P : List Part} (r : Req) (b : Block) (hP : (.cnv :: Part.reply) ⊆ P) :
    (cnvTwinTest r b).outside P = b.outside P := by
  simp only [List.cons_subset, List.nil_subset, and_true] at hP
  unfold cnvTwinTest
  refine outside_onOp ?_
  simp [hP]

@[simp] theorem cnvTwinReturn_outside {P : List Part} (r : Req) (b : Block) (hP : (.cnv :: Part.reply) ⊆ P) :
    (cnvTwinReturn r b).outside P = b.outside P := by
  simp only [List.cons_subset, List.nil_subset, and_true] at hP
  unfold cnvTwinReturn
  refine outside_onOp ?_
  simp [hP]

@[simp] theorem accRead_outside {P : List Part} (r : Req) (b : Block) (hP : Part.reply ⊆ P) : (accRead r b).outside P = b.outside P := by
  simp only [List.cons_subset, List.nil_subset, and_true] at hP
  unfold accRead
  refine outside_onReq ?_
  simp [hP]

@[simp] theorem accMm_outside {P : List Part} (r : Req) (b : Block) (hP : (.acc :: Part.reply) ⊆ P) :
    (accMm r b).outside P = b.outside P := by
  simp only [List.cons_subset, List.nil_subset, and_true] at hP
  unfold accMm
  refine outside_onReq ?_
  dsimp only
  split <;> simp [hP]

@[simp] theorem holdSwap_outside {P : List Part} (s : Nat) (r : Req) (b : Block) (hP : (.acc :: Part.reply) ⊆ P) :
    (Block.holdSwap s r b).outside P = b.outside P := by
  simp only [List.cons_subset, List.nil_subset, and_true] at hP
  simp [Block.holdSwap, hP]

@[simp] theorem holdSwapEffect_outside {P : List Part} (b : Block) (hP : (.acc :: Part.reply) ⊆ P) :
    (holdSwapEffect b).outside P = b.outside P := by
  simp only [List.cons_subset, List.nil_subset, and_true] at hP
  simp [holdSwapEffect, hP]

@[simp] theorem accFreq_outside {P : List Part} (r : Req) (b : Block) (hP : Part.reply ⊆ P) : (accFreq r b).outside P = b.outside P := by
  simp only [List.cons_subset, List.nil_subset, and_true] at hP
  unfold accFreq
  refine outside_onReq ?_
  simp [hP]

@[simp] theorem accTrack_outside {P : List Part} (r : Req) (b : Block) (hP : Part.reply ⊆ P) : (accTrack r b).outside P = b.outside P := by
  simp only [List.cons_subset, List.nil_subset, and_true] at hP
  unfold accTrack
  refine outside_onReq ?_
  simp [hP]

@[simp] theorem accTrackCommit_outside {P : List Part} (r : Req) (b : Block) (hP : (.acc :: Part.reply) ⊆ P) :
    (accTrackCommit r b).outside P = b.outside P := by
  simp only [List.cons_subset, List.nil_subset, and_true] at hP
  simp [accTrackCommit, hP]

@[simp] theorem trackApply_outside {P : List Part} (c : TrackCfg) (b : Block) (hP : [.cnv, .acc] ⊆ P) :
    (Block.trackApply c b).outside P = b.outside P := by
  simp only [List.cons_subset, List.nil_subset, and_true] at hP
  simp [Block.trackApply, hP]

@[simp] theorem trackEffect_outside {P : List Part} (b : Block) (hP : [.cnv, .acc] ⊆ P) : (trackEffect b).outside P = b.outside P := by
  simp only [List.cons_subset, List.nil_subset, and_true] at hP
  simp [trackEffect, hP]

@[simp] theorem accTd_outside {P : List Part} (r : Req) (b : Block) (hP : Part.reply ⊆ P) : (accTd r b).outside P = b.outside P := by
  simp only [List.cons_subset, List.nil_subset, and_true] at hP
  unfold accTd
  refine outside_onReq ?_
  simp [hP]

@[simp] theorem accTdCommit_outside {P : List Part} (r : Req) (b : Block) (hP : (.acc :: Part.reply) ⊆ P) :
    (accTdCommit r b).outside P = b.outside P := by
  simp only [List.cons_subset, List.nil_subset, and_true] at hP
  simp [accTdCommit, hP]

@[simp] theorem tdApply_outside {P : List Part} (c : TdCfg) (b : Block) (hP : [.acc] ⊆ P) :
    (Block.tdApply c b).outside P = b.outside P := by
  simp only [List.cons_subset, List.nil_subset, and_true] at hP
  simp [Block.tdApply, hP]

@[simp] theorem tdEffect_outside {P : List Part} (b : Block) (hP : [.acc] ⊆ P) : (tdEffect b).outside P = b.outside P := by
  simp only [List.cons_subset, List.nil_subset, and_true] at hP
  simp [tdEffect, hP]

@[simp] theorem accTw_outside {P : List Part} (r : Req) (b : Block) (hP : (.acc :: Part.reply) ⊆ P) :
    (accTw r b).outside P = b.outside P := by
  simp only [List.cons_subset, List.nil_subset, and_true] at hP
  unfold accTw
  refine outside_onReq ?_
  simp [hP]

@[simp] theorem putSlot_outside {P : List Part} (s : Nat) (x : Slot) (b : Block) (hP : [.lgc] ⊆ P) :
    (Block.putSlot s x b).outside P = b.outside P := by
  simp only [List.cons_subset, List.nil_subset, and_true] at hP
  unfold Block.putSlot
  dsimp only
  simp [hP]

@[simp] theorem putPair_outside {P : List Part} (p : Nat) (x : Pair) (b : Block) (hP : [.lgc] ⊆ P) :
    (Block.putPair p x b).outside P = b.outside P := by
  simp only [List.cons_subset, List.nil_subset, and_true] at hP
  simp [Block.putPair, hP]

@[simp] theorem trigger_outside {P : List Part} (s kind source wall qual : Nat) (n : optParam Nat 1) (b : Block) (hP : [.lgc] ⊆ P) :
    (Block.trigger s kind source wall qual b n).outside P = b.outside P := by
  simp only [List.cons_subset, List.nil_subset, and_true] at hP
  simp [Block.trigger, hP]

/-! ### Frames: Field side and barrier -/

@[simp] theorem onField_outside {P : List Part} (f : FldSt → FldSt) (b : Block) (hP : [.fside] ⊆ P) :
    (Block.onField f b).outside P = b.outside P := by
  simp only [List.cons_subset, List.nil_subset, and_true] at hP
  simp [Block.onField, hP]

@[simp] theorem fieldPowerUp_outside {P : List Part} (b : Block) (hP : [.fside] ⊆ P) : (Block.fieldPowerUp b).outside P = b.outside P := by
  simp only [List.cons_subset, List.nil_subset, and_true] at hP
  simp [Block.fieldPowerUp, hP]

@[simp] theorem lockEnter_outside {P : List Part} (b : Block) (hP : [.fside] ⊆ P) : (Block.lockEnter b).outside P = b.outside P := by
  simp only [List.cons_subset, List.nil_subset, and_true] at hP
  simp [Block.lockEnter, hP]

@[simp] theorem lockExit_outside {P : List Part} (b : Block) (hP : [.fside] ⊆ P) : (Block.lockExit b).outside P = b.outside P := by
  simp only [List.cons_subset, List.nil_subset, and_true] at hP
  simp [Block.lockExit, hP]

@[simp] theorem startFrame_outside {P : List Part} (ins : Bool) (b : Block) (hP : (.bar :: Part.event) ⊆ P) :
    (Block.startFrame ins b).outside P = b.outside P := by
  simp only [List.cons_subset, List.nil_subset, and_true] at hP
  simp [Block.startFrame, hP]

@[simp] theorem nextFrame_outside {P : List Part} (b : Block) (hP : (.bar :: Part.event) ⊆ P) :
    (Block.nextFrame b).outside P = b.outside P := by
  simp only [List.cons_subset, List.nil_subset, and_true] at hP
  simp [Block.nextFrame, hP]

@[simp] theorem linkStart_outside {P : List Part} (b : Block) (hP : (.bar :: Part.event) ⊆ P) :
    (Block.linkStart b).outside P = b.outside P := by
  simp only [List.cons_subset, List.nil_subset, and_true] at hP
  simp [Block.linkStart, hP]

@[simp] theorem tripInsert_outside {P : List Part} (b : Block) (hP : (.fside :: .bar :: Part.event) ⊆ P) :
    (Block.tripInsert b).outside P = b.outside P := by
  simp only [List.cons_subset, List.nil_subset, and_true] at hP
  simp [Block.tripInsert, hP]

@[simp] theorem downFrame_outside {P : List Part} (ft : Nat) (b : Block) (hP : (.fside :: .bar :: Part.event) ⊆ P) :
    (Block.downFrame ft b).outside P = b.outside P := by
  simp only [List.cons_subset, List.nil_subset, and_true] at hP
  simp [Block.downFrame, hP]

@[simp] theorem downAbort_outside {P : List Part} (ft : Nat) (b : Block) (hP : [.fside] ⊆ P) :
    (Block.downAbort ft b).outside P = b.outside P := by
  simp only [List.cons_subset, List.nil_subset, and_true] at hP
  simp [Block.downAbort, hP]

@[simp] theorem downBad_outside {P : List Part} (b : Block) (hP : (.fside :: .bar :: Part.event) ⊆ P) :
    (Block.downBad b).outside P = b.outside P := by
  simp only [List.cons_subset, List.nil_subset, and_true] at hP
  simp [Block.downBad, hP]

@[simp] theorem upGood_outside {P : List Part} (p : List Byte) (b : Block) (hP : (.bar :: Part.event) ⊆ P) :
    (Block.upGood p b).outside P = b.outside P := by
  simp only [List.cons_subset, List.nil_subset, and_true] at hP
  simp [Block.upGood, hP]

@[simp] theorem onUp_outside {P : List Part} (kind payload : Nat) (sent : FldSt → FldSt) (g : Block → Block) (b : Block)
    (hP : (.fside :: .bar :: Part.event) ⊆ P) (hg : ∀ c, (g c).outside P = c.outside P) :
    (Block.onUp kind payload sent g b).outside P = b.outside P := by
  simp only [List.cons_subset, List.nil_subset, and_true] at hP
  unfold Block.onUp
  dsimp only
  split <;> simp [hP, hg]

@[simp] theorem onAux_outside {P : List Part} (due : AuxDue) (type rec_ : Nat) (g : Block → Block) (b : Block)
    (hP : (.fside :: .bar :: Part.event) ⊆ P) (hg : ∀ c, (g c).outside P = c.outside P) :
    (Block.onAux due type rec_ g b).outside P = b.outside P := by
  unfold Block.onAux
  split
  · exact onUp_outside _ _ _ _ _ hP hg
  · rfl

@[simp] theorem upDi_outside {P : List Part} (b : Block) (hP : (.fside :: .bar :: Part.event) ⊆ P) :
    (Block.upDi b).outside P = b.outside P := by
  simp only [List.cons_subset, List.nil_subset, and_true] at hP
  simp [Block.upDi, hP]

@[simp] theorem upRb_outside {P : List Part} (rb : BitVec 32) (b : Block) (hP : (.fside :: .bar :: Part.event) ⊆ P) :
    (Block.upRb rb b).outside P = b.outside P := by
  simp only [List.cons_subset, List.nil_subset, and_true] at hP
  simp [Block.upRb, hP]

@[simp] theorem fifoPut_outside {P : List Part} (e : Edge) (b : Block) (hP : (.bar :: Part.event) ⊆ P) :
    (Block.fifoPut e b).outside P = b.outside P := by
  have hevent : Part.event ⊆ P := fun x hx => hP (List.mem_cons_of_mem _ hx)
  simp only [List.cons_subset, List.nil_subset, and_true] at hP
  have hq : ∀ c : Block, (if 0 < b.bar.burst then c.quantity 336 b.bar.burst else c).outside P = c.outside P := fun c => by
    split
    · exact quantity_outside _ _ _ (by simp [hP])
    · rfl
  unfold Block.fifoPut
  dsimp only
  split
  · split
    · split
      · rw [raiseOpen_outside _ _ hevent, outside_set_bar hP.1]
      · exact outside_set_bar hP.1
    · split
      · rw [raise_outside _ _ _ hevent, outside_set_bar hP.1, hq]
      · rw [outside_set_bar hP.1, hq]
  · split
    · split
      · exact outside_set_bar hP.1
      · split
        · rw [raise_outside _ _ _ hevent, outside_set_bar hP.1]
        · exact outside_set_bar hP.1
    · rfl

@[simp] theorem countEdge_outside {P : List Part} (i ns : Nat) (b : Block) (hP : (.bar :: .lgc :: Part.event) ⊆ P) :
    (Block.countEdge i ns b).outside P = b.outside P := by
  simp only [List.cons_subset, List.nil_subset, and_true] at hP
  unfold Block.countEdge
  dsimp only
  (repeat' split) <;> simp [hP]

@[simp] theorem edgeIn_outside {P : List Part} (e : FEdge) (b : Block) (hP : (.bar :: .lgc :: Part.event) ⊆ P) :
    (Block.edgeIn e b).outside P = b.outside P := by
  simp only [List.cons_subset, List.nil_subset, and_true] at hP
  simp [Block.edgeIn, hP]

@[simp] theorem auxIdle_outside {P : List Part} (b : Block) (hP : (.fside :: .bar :: Part.event) ⊆ P) :
    (Block.auxIdle b).outside P = b.outside P := by
  simp only [List.cons_subset, List.nil_subset, and_true] at hP
  simp [Block.auxIdle, hP]

@[simp] theorem auxEdges_outside {P : List Part} (b : Block) (hP : (.fside :: .bar :: .lgc :: Part.event) ⊆ P) :
    (Block.auxEdges b).outside P = b.outside P := by
  simp only [List.cons_subset, List.nil_subset, and_true] at hP
  unfold Block.auxEdges
  exact onAux_outside _ _ _ _ _ (by simp [hP]) fun c => by simp [hP]

@[simp] theorem auxDiag_outside {P : List Part} (j : Nat) (cur : BitVec 12) (b : Block) (hP : (.fside :: .bar :: Part.event) ⊆ P) :
    (Block.auxDiag j cur b).outside P = b.outside P := by
  simp only [List.cons_subset, List.nil_subset, and_true] at hP
  unfold Block.auxDiag
  refine onAux_outside _ _ _ _ _ (by simp [hP]) fun c => ?_
  dsimp only
  split <;> simp [hP]

@[simp] theorem auxTime_outside {P : List Part} (ft : Nat) (b : Block) (hP : (.fside :: .bar :: Part.event) ⊆ P) :
    (Block.auxTime ft b).outside P = b.outside P := by
  simp only [List.cons_subset, List.nil_subset, and_true] at hP
  simp [Block.auxTime, hP]

@[simp] theorem auxStatus_outside {P : List Part} (vfld : BitVec 12) (temp : Byte) (b : Block) (hP : (.fside :: .bar :: Part.event) ⊆ P) :
    (Block.auxStatus vfld temp b).outside P = b.outside P := by
  simp only [List.cons_subset, List.nil_subset, and_true] at hP
  simp [Block.auxStatus, hP]

@[simp] theorem auxEcho_outside {P : List Part} (a : Nat) (b : Block) (hP : (.fside :: .bar :: Part.event) ⊆ P) :
    (Block.auxEcho a b).outside P = b.outside P := by
  simp only [List.cons_subset, List.nil_subset, and_true] at hP
  simp [Block.auxEcho, hP]

@[simp] theorem echoBad_outside {P : List Part} (a : Nat) (b : Block) (hP : (.bar :: Part.event) ⊆ P) :
    (Block.echoBad a b).outside P = b.outside P := by
  simp only [List.cons_subset, List.nil_subset, and_true] at hP
  simp [Block.echoBad, hP]

@[simp] theorem upBad_outside {P : List Part} (aux : Bool) (b : Block) (hP : (.fside :: .bar :: Part.event) ⊆ P) :
    (Block.upBad aux b).outside P = b.outside P := by
  simp only [List.cons_subset, List.nil_subset, and_true] at hP
  simp [Block.upBad, hP]

@[simp] theorem upLoss_outside {P : List Part} (b : Block) (hP : (.bar :: Part.event) ⊆ P) : (Block.upLoss b).outside P = b.outside P := by
  simp only [List.cons_subset, List.nil_subset, and_true] at hP
  simp [Block.upLoss, hP]

@[simp] theorem linkDelay_outside {P : List Part} (ns : Nat) (b : Block) (hP : [.bar] ⊆ P) :
    (Block.linkDelay ns b).outside P = b.outside P := by
  simp only [List.cons_subset, List.nil_subset, and_true] at hP
  simp [Block.linkDelay, hP]

@[simp] theorem edgePop_outside {P : List Part} (tongs : Bool) (b : Block) (hP : [.mbx, .bar] ⊆ P) :
    (Block.edgePop tongs b).outside P = b.outside P := by
  simp only [List.cons_subset, List.nil_subset, and_true] at hP
  simp [Block.edgePop, hP]

@[simp] theorem dropRead_outside {P : List Part} (tongs : Bool) (b : Block) (hP : [.mbx, .bar] ⊆ P) :
    (Block.dropRead tongs b).outside P = b.outside P := by
  simp only [List.cons_subset, List.nil_subset, and_true] at hP
  simp [Block.dropRead, hP]

@[simp] theorem latchField_outside {P : List Part} (b : Block) (hP : [.bar] ⊆ P) : (Block.latchField b).outside P = b.outside P := by
  simp only [List.cons_subset, List.nil_subset, and_true] at hP
  simp [Block.latchField, hP]

@[simp] theorem ioCfg_outside {P : List Part} (r : Req) (b : Block) (hP : Part.reply ⊆ P) : (ioCfg r b).outside P = b.outside P := by
  simp only [List.cons_subset, List.nil_subset, and_true] at hP
  unfold ioCfg
  refine outside_onReq ?_
  simp [hP]

@[simp] theorem ioCfgCommit_outside {P : List Part} (r : Req) (b : Block) (hP : (.bar :: Part.reply) ⊆ P) :
    (ioCfgCommit r b).outside P = b.outside P := by
  simp only [List.cons_subset, List.nil_subset, and_true] at hP
  simp [ioCfgCommit, hP]

@[simp] theorem ioCfgEffect_outside {P : List Part} (b : Block) (hP : [.bar] ⊆ P) : (ioCfgEffect b).outside P = b.outside P := by
  simp only [List.cons_subset, List.nil_subset, and_true] at hP
  simp [ioCfgEffect, hP]

@[simp] theorem ioRead_outside {P : List Part} (r : Req) (b : Block) (hP : Part.reply ⊆ P) : (ioRead r b).outside P = b.outside P := by
  simp only [List.cons_subset, List.nil_subset, and_true] at hP
  unfold ioRead
  refine outside_onReq ?_
  simp [hP]

@[simp] theorem ioEdges_outside {P : List Part} (r : Req) (b : Block) (hP : (.bar :: Part.reply) ⊆ P) :
    (ioEdges r b).outside P = b.outside P := by
  simp only [List.cons_subset, List.nil_subset, and_true] at hP
  unfold ioEdges
  refine outside_onReq ?_
  simp [hP]

/-! ### Frames: Timer wheel -/

@[simp] theorem timerExpiry_outside {P : List Part} (n : Nat) (b : Block) (hP : [.wheel, .lgc] ⊆ P) :
    (Block.timerExpiry n b).outside P = b.outside P := by
  simp only [List.cons_subset, List.nil_subset, and_true] at hP
  simp [Block.timerExpiry, hP]

@[simp] theorem timerHold_outside {P : List Part} (n : Nat) (b : Block) (hP : [.wheel] ⊆ P) :
    (Block.timerHold n b).outside P = b.outside P := by
  simp only [List.cons_subset, List.nil_subset, and_true] at hP
  simp [Block.timerHold, hP]

@[simp] theorem diagWheelSummary_outside {P : List Part} (r : Req) (b : Block) (hP : Part.reply ⊆ P) :
    (diagWheelSummary r b).outside P = b.outside P := by
  simp only [List.cons_subset, List.nil_subset, and_true] at hP
  unfold diagWheelSummary
  refine outside_onOp ?_
  simp [hP]

@[simp] theorem diagWheelRead_outside {P : List Part} (r : Req) (b : Block) (hP : Part.reply ⊆ P) :
    (diagWheelRead r b).outside P = b.outside P := by
  simp only [List.cons_subset, List.nil_subset, and_true] at hP
  unfold diagWheelRead
  refine outside_onOp ?_
  simp [hP]

/-! ### Frames: Elements -/

@[simp] theorem evalAll_outside {P : List Part} (is_ : List Nat) (b : Block) (hP : (.wheel :: .elm :: Part.event) ⊆ P) :
    (Block.evalAll is_ b).outside P = b.outside P := by
  simp only [List.cons_subset, List.nil_subset, and_true] at hP
  simp [Block.evalAll, hP]

@[simp] theorem passHistory_outside {P : List Part} (b : Block) (hP : [.elm] ⊆ P) : (Block.passHistory b).outside P = b.outside P := by
  simp only [List.cons_subset, List.nil_subset, and_true] at hP
  simp [Block.passHistory, hP]

@[simp] theorem passChk_outside {P : List Part} (b : Block) (hP : (.elm :: Part.event) ⊆ P) :
    (Block.passChk b).outside P = b.outside P := by
  simp only [List.cons_subset, List.nil_subset, and_true] at hP
  simp [Block.passChk, hP]

@[simp] theorem pass_outside {P : List Part} (b : Block) (hP : (.sys :: .wheel :: .elm :: Part.event) ⊆ P) :
    (Block.pass b).outside P = b.outside P := by
  simp only [List.cons_subset, List.nil_subset, and_true] at hP
  simp [Block.pass, hP]

@[simp] theorem swapIndex_outside {P : List Part} (o n : TableBuf) (keep : Bool) (nt : Tab (List Nat)) (i : Nat) (b : Block)
    (hP : [.wheel, .elm] ⊆ P) :
    (Block.swapIndex o n keep nt b i).outside P = b.outside P := by
  simp only [List.cons_subset, List.nil_subset, and_true] at hP
  unfold Block.swapIndex
  dsimp only
  (repeat' split) <;> simp [hP]

@[simp] theorem elementSwapEffect_outside {P : List Part} (b : Block) (hP : (.wheel :: .elm :: Part.event) ⊆ P) :
    (elementSwapEffect b).outside P = b.outside P := by
  simp only [List.cons_subset, List.nil_subset, and_true] at hP
  unfold elementSwapEffect
  split <;> simp [hP]

@[simp] theorem elementTableLoad_outside {P : List Part} (b : Block) (hP : [.sys, .wheel, .elm] ⊆ P) :
    (elementTableLoad b).outside P = b.outside P := by
  simp only [List.cons_subset, List.nil_subset, and_true] at hP
  unfold elementTableLoad
  dsimp only
  simp [hP]

@[simp] theorem latchClearEffect_outside {P : List Part} (b : Block) (hP : (.elm :: Part.event) ⊆ P) :
    (latchClearEffect b).outside P = b.outside P := by
  simp only [List.cons_subset, List.nil_subset, and_true] at hP
  simp [latchClearEffect, hP]

@[simp] theorem elemTableWrite_outside {P : List Part} (r : Req) (b : Block) (hP : (.elm :: Part.reply) ⊆ P) :
    (elemTableWrite r b).outside P = b.outside P := by
  simp only [List.cons_subset, List.nil_subset, and_true] at hP
  unfold elemTableWrite
  refine outside_onOp ?_
  simp [hP]

@[simp] theorem elemTableCopy_outside {P : List Part} (r : Req) (b : Block) (hP : (.elm :: Part.reply) ⊆ P) :
    (elemTableCopy r b).outside P = b.outside P := by
  simp only [List.cons_subset, List.nil_subset, and_true] at hP
  unfold elemTableCopy
  refine outside_onOp ?_
  simp [hP]

@[simp] theorem elemTableRead_outside {P : List Part} (r : Req) (b : Block) (hP : Part.reply ⊆ P) :
    (elemTableRead r b).outside P = b.outside P := by
  simp only [List.cons_subset, List.nil_subset, and_true] at hP
  unfold elemTableRead
  refine outside_onOp ?_
  simp [hP]

@[simp] theorem elemCurve_outside {P : List Part} (r : Req) (b : Block) (hP : (.elm :: Part.reply) ⊆ P) :
    (elemCurve r b).outside P = b.outside P := by
  simp only [List.cons_subset, List.nil_subset, and_true] at hP
  unfold elemCurve
  refine outside_onReq ?_
  simp [hP]

@[simp] theorem elemSwap_outside {P : List Part} (r : Req) (b : Block) (hP : Part.reply ⊆ P) : (elemSwap r b).outside P = b.outside P := by
  simp only [List.cons_subset, List.nil_subset, and_true] at hP
  unfold elemSwap
  refine outside_onReq ?_
  split
  · simp [hP]
  · split
    · simp [hP]
    · split <;> simp [hP]

@[simp] theorem elemSwapCommit_outside {P : List Part} (r : Req) (b : Block) (hP : (.wheel :: .elm :: Part.reply) ⊆ P) :
    (elemSwapCommit r b).outside P = b.outside P := by
  simp only [List.cons_subset, List.nil_subset, and_true] at hP
  simp [elemSwapCommit, hP]

@[simp] theorem elemRead_outside {P : List Part} (r : Req) (b : Block) (hP : Part.reply ⊆ P) : (elemRead r b).outside P = b.outside P := by
  simp only [List.cons_subset, List.nil_subset, and_true] at hP
  unfold elemRead
  refine outside_onReq ?_
  simp [hP]

@[simp] theorem elemReset_outside {P : List Part} (r : Req) (b : Block) (hP : (.elm :: Part.reply) ⊆ P) :
    (elemReset r b).outside P = b.outside P := by
  simp only [List.cons_subset, List.nil_subset, and_true] at hP
  unfold elemReset
  refine outside_onReq ?_
  simp [hP]

/-! ### Frames: Tasks of the cyclic part -/

@[simp] theorem fjPut_outside {P : List Part} (s len lc : Nat) (o : FjOut) (b : Block) (hP : [.lgc] ⊆ P) :
    (Block.fjPut b s len lc o).outside P = b.outside P := by
  simp only [List.cons_subset, List.nil_subset, and_true] at hP
  unfold Block.fjPut
  dsimp only
  (repeat' split) <;> simp [hP]

@[simp] theorem haltNow_outside {P : List Part} (p : Nat) (b : Block) (hP : (.lgc :: Part.reply) ⊆ P) :
    (Block.haltNow p b).outside P = b.outside P := by
  simp only [List.cons_subset, List.nil_subset, and_true] at hP
  unfold Block.haltNow
  dsimp only
  split <;> simp [hP]

@[simp] theorem debugAfter_outside {P : List Part} (s : Nat) (b : Block) (hP : (.lgc :: Part.reply) ⊆ P) :
    (Block.debugAfter s b).outside P = b.outside P := by
  simp only [List.cons_subset, List.nil_subset, and_true] at hP
  unfold Block.debugAfter
  dsimp only
  (repeat' split) <;> simp [hP]

@[simp] theorem fj_outside {P : List Part} (s len : Nat) (body : Fj → FjOut) (b : Block) (hP : (.lgc :: Part.reply) ⊆ P) :
    (Block.fj s len body b).outside P = b.outside P := by
  simp only [List.cons_subset, List.nil_subset, and_true] at hP
  unfold Block.fj
  split <;> simp [hP]

/-! ### Frames: Startup, cycles and pairs -/

@[simp] theorem reach_outside {P : List Part} (k : Nat) (b : Block) (hP : [.sys] ⊆ P) : (Block.reach k b).outside P = b.outside P := by
  simp only [List.cons_subset, List.nil_subset, and_true] at hP
  simp [Block.reach, hP]

@[simp] theorem logicSteps_outside {P : List Part} (b : Block) (hP : (.sys :: Part.event) ⊆ P) :
    (Block.logicSteps b).outside P = b.outside P := by
  simp only [List.cons_subset, List.nil_subset, and_true] at hP
  simp [Block.logicSteps, hP]

@[simp] theorem dropOrders_outside {P : List Part} (s : Nat) (b : Block) (hP : (.lgc :: Part.reply) ⊆ P) :
    (Block.dropOrders s b).outside P = b.outside P := by
  simp only [List.cons_subset, List.nil_subset, and_true] at hP
  unfold Block.dropOrders
  dsimp only
  rw [putSlot_outside _ _ _ (by simp [hP])]
  refine outside_foldl (fun c x => ?_) _ _
  (repeat' split) <;> simp [hP]

@[simp] theorem takeImage_outside {P : List Part} (s : Nat) (i : FjImg) (cold : Bool) (b : Block) (hP : [.wheel, .lgc] ⊆ P) :
    (Block.takeImage s i cold b).outside P = b.outside P := by
  simp only [List.cons_subset, List.nil_subset, and_true] at hP
  simp [Block.takeImage, hP]

@[simp] theorem startSlot_outside {P : List Part} (s p e cause : Nat) (cold keep : Bool) (b : Block) (hP : [.wheel, .lgc] ⊆ P) :
    (Block.startSlot s p e cause cold keep b).outside P = b.outside P := by
  simp only [List.cons_subset, List.nil_subset, and_true] at hP
  unfold Block.startSlot
  dsimp only
  (repeat' split) <;> simp [hP]

@[simp] theorem startSlots_outside {P : List Part} (b : Block) (hP : (.wheel :: .lgc :: Part.event) ⊆ P) :
    (Block.startSlots b).outside P = b.outside P := by
  simp only [List.cons_subset, List.nil_subset, and_true] at hP
  unfold Block.startSlots
  refine outside_foldl (fun c x => ?_) _ _
  dsimp only
  (repeat' split) <;> simp [hP]

@[simp] theorem restart_outside {P : List Part} (s p : Nat) (cold keep : Bool) (b : Block) (hP : [.sys, .wheel, .lgc] ⊆ P) :
    (Block.restart s p cold keep b).outside P = b.outside P := by
  simp only [List.cons_subset, List.nil_subset, and_true] at hP
  unfold Block.restart
  dsimp only
  split <;> simp [hP]

@[simp] theorem cancelTakeover_outside {P : List Part} (s : Nat) (b : Block) (hP : (.lgc :: Part.reply) ⊆ P) :
    (Block.cancelTakeover s b).outside P = b.outside P := by
  simp only [List.cons_subset, List.nil_subset, and_true] at hP
  unfold Block.cancelTakeover
  dsimp only
  (repeat' split) <;> simp [hP]

@[simp] theorem dropTakeover_outside {P : List Part} (s : Nat) (b : Block) (hP : (.lgc :: Part.reply) ⊆ P) :
    (Block.dropTakeover s b).outside P = b.outside P := by
  simp only [List.cons_subset, List.nil_subset, and_true] at hP
  unfold Block.dropTakeover
  dsimp only
  (repeat' split) <;> simp [hP]

@[simp] theorem spareWork_outside {P : List Part} (b : Block) (hP : [.sys, .wheel, .lgc] ⊆ P) :
    (Block.spareWork b).outside P = b.outside P := by
  simp only [List.cons_subset, List.nil_subset, and_true] at hP
  unfold Block.spareWork
  split <;> simp [hP]

@[simp] theorem stopSlot_outside {P : List Part} (s : Nat) (st : SlotSt) (b : Block) (hP : (.sys :: .wheel :: .lgc :: Part.reply) ⊆ P) :
    (Block.stopSlot s st b).outside P = b.outside P := by
  simp only [List.cons_subset, List.nil_subset, and_true] at hP
  simp [Block.stopSlot, hP]

@[simp] theorem detEnd_outside {P : List Part} (s : Nat) (b : Block) (hP : [.evr, .lgc] ⊆ P) :
    (Block.detEnd s b).outside P = b.outside P := by
  simp only [List.cons_subset, List.nil_subset, and_true] at hP
  simp [Block.detEnd, hP]

@[simp] theorem releaseLid_outside {P : List Part} (s : Nat) (b : Block) (hP : [.lgc] ⊆ P) :
    (Block.releaseLid s b).outside P = b.outside P := by
  simp only [List.cons_subset, List.nil_subset, and_true] at hP
  simp [Block.releaseLid, hP]

@[simp] theorem takeNotes_outside {P : List Part} (s : Nat) (i : FjImg) (t : Tab Trig) (b : Block) (hP : [.wheel] ⊆ P) :
    (Block.takeNotes s i t b).outside P = b.outside P := by
  simp only [List.cons_subset, List.nil_subset, and_true] at hP
  simp [Block.takeNotes, hP]

@[simp] theorem beginCycle_outside {P : List Part} (s : Nat) (b : Block) (hP : (.sys :: .wheel :: .lgc :: Part.event) ⊆ P) :
    (Block.beginCycle s b).outside P = b.outside P := by
  simp only [List.cons_subset, List.nil_subset, and_true] at hP
  unfold Block.beginCycle
  dsimp only
  (repeat' split) <;> simp [hP]

@[simp] theorem repeatCycle_outside {P : List Part} (s : Nat) (b : Block) (hP : [.evr, .wheel, .lgc] ⊆ P) :
    (Block.repeatCycle s b).outside P = b.outside P := by
  simp only [List.cons_subset, List.nil_subset, and_true] at hP
  unfold Block.repeatCycle
  dsimp only
  split <;> simp [hP]

@[simp] theorem shadowCycle_outside {P : List Part} (s : Nat) (b : Block) (hP : [.lgc] ⊆ P) :
    (Block.shadowCycle s b).outside P = b.outside P := by
  simp only [List.cons_subset, List.nil_subset, and_true] at hP
  unfold Block.shadowCycle
  dsimp only
  split <;> simp [hP]

@[simp] theorem readIn_outside {P : List Part} (s : Nat) (b : Block) (hP : (.sys :: .wheel :: .lgc :: Part.reply) ⊆ P) :
    (Block.readIn s b).outside P = b.outside P := by
  simp only [List.cons_subset, List.nil_subset, and_true] at hP
  unfold Block.readIn
  dsimp only
  (repeat' split) <;> simp [hP]

@[simp] theorem imageTakeover_outside {P : List Part} (s : Nat) (b : Block) (hP : [.wheel, .lgc] ⊆ P) :
    (Block.imageTakeover s b).outside P = b.outside P := by
  simp only [List.cons_subset, List.nil_subset, and_true] at hP
  unfold Block.imageTakeover
  dsimp only
  split <;> simp [hP]

@[simp] theorem taskSwitch_outside {P : List Part} (s : Nat) (b : Block) (hP : (.lgc :: Part.reply) ⊆ P) :
    (Block.taskSwitch s b).outside P = b.outside P := by
  simp only [List.cons_subset, List.nil_subset, and_true] at hP
  unfold Block.taskSwitch
  dsimp only
  (repeat' split) <;> simp [hP]

@[simp] theorem ctlAck_outside {P : List Part} (s o v e : Nat) (b : Block) (hP : (.lgc :: Part.reply) ⊆ P) :
    (Block.ctlAck s o v e b).outside P = b.outside P := by
  simp only [List.cons_subset, List.nil_subset, and_true] at hP
  unfold Block.ctlAck
  dsimp only
  (repeat' split) <;> simp [hP]

@[simp] theorem effect_outside {P : List Part} (s p n e : Nat) (x : Staged) (b : Block) (hP : (.lgc :: Part.reply) ⊆ P) :
    (Block.effect s p n e x b).outside P = b.outside P := by
  simp only [List.cons_subset, List.nil_subset, and_true] at hP
  unfold Block.effect
  split <;> simp [hP]

@[simp] theorem commitCycle_outside {P : List Part} (s : Nat) (y : Slot) (i : FjImg) (c : Cyc) (p : Nat) (b : Block)
    (hP : (.wheel :: .lgc :: Part.reply) ⊆ P) :
    (Block.commitCycle s y i c p b).outside P = b.outside P := by
  simp only [List.cons_subset, List.nil_subset, and_true] at hP
  unfold Block.commitCycle
  refine (outside_foldl (fun c x => effect_outside _ _ _ _ _ c (by simp [hP])) _ _).trans ?_
  refine (outside_foldl (fun c t => raiseAt_outside _ _ _ _ c (by simp [hP])) _ _).trans ?_
  refine (outside_foldl (fun c t => raiseAt_outside _ _ _ _ c (by simp [hP])) _ _).trans ?_
  rw [raiseIf_outside _ _ _ _ (by simp [hP]), putSlot_outside _ _ _ (by simp [hP])]
  exact outside_set_wheel hP.1

@[simp] theorem commitShadow_outside {P : List Part} (s : Nat) (y : Slot) (i : FjImg) (c : Cyc) (b : Block) (hP : [.lgc] ⊆ P) :
    (Block.commitShadow s y i c b).outside P = b.outside P := by
  simp only [List.cons_subset, List.nil_subset, and_true] at hP
  simp [Block.commitShadow, hP]

@[simp] theorem kettleFire_outside {P : List Part} (s : Nat) (b : Block) (hP : (.sys :: .wheel :: .lgc :: Part.reply) ⊆ P) :
    (Block.kettleFire s b).outside P = b.outside P := by
  simp only [List.cons_subset, List.nil_subset, and_true] at hP
  unfold Block.kettleFire
  dsimp only
  split
  · split
    · rfl
    · rw [stopSlot_outside _ _ _ (by simp [hP]), putPair_outside _ _ _ (by simp [hP]), raise_outside _ _ _ (by simp [hP])]
  · rfl

@[simp] theorem armDelay_outside {P : List Part} (s : Nat) (b : Block) (hP : [.lgc] ⊆ P) :
    (Block.armDelay s b).outside P = b.outside P := by
  simp only [List.cons_subset, List.nil_subset, and_true] at hP
  unfold Block.armDelay
  dsimp only
  split <;> simp [hP]

@[simp] theorem faultSlot_outside {P : List Part} (s p : Nat) (b : Block) (hP : (.sys :: .flt :: .wheel :: .lgc :: Part.reply) ⊆ P) :
    (Block.faultSlot s p b).outside P = b.outside P := by
  simp only [List.cons_subset, List.nil_subset, and_true] at hP
  simp [Block.faultSlot, hP]

@[simp] theorem enterSpare_outside {P : List Part} (p : Nat) (b : Block) (hP : [.sys, .wheel, .lgc] ⊆ P) :
    (Block.enterSpare p b).outside P = b.outside P := by
  simp only [List.cons_subset, List.nil_subset, and_true] at hP
  simp [Block.enterSpare, hP]

@[simp] theorem migrate_outside {P : List Part} (s p : Nat) (b : Block) (hP : (.sys :: .flt :: .wheel :: .lgc :: Part.reply) ⊆ P) :
    (Block.migrate s p b).outside P = b.outside P := by
  simp only [List.cons_subset, List.nil_subset, and_true] at hP
  unfold Block.migrate
  dsimp only
  (repeat' split) <;> simp [hP]

@[simp] theorem exitAnswer_outside {P : List Part} (p : Nat) (failed : Bool) (b : Block) (hP : (.lgc :: Part.reply) ⊆ P) :
    (Block.exitAnswer p failed b).outside P = b.outside P := by
  simp only [List.cons_subset, List.nil_subset, and_true] at hP
  unfold Block.exitAnswer
  dsimp only
  split <;> simp [hP]

@[simp] theorem failPair_outside {P : List Part} (p : Nat) (b : Block) (hP : [.lgc] ⊆ P) :
    (Block.failPair p b).outside P = b.outside P := by
  simp only [List.cons_subset, List.nil_subset, and_true] at hP
  simp [Block.failPair, hP]

@[simp] theorem detect_outside {P : List Part} (p : Nat) (d : Detect) (b : Block) (hP : (.lgc :: Part.reply) ⊆ P) :
    (Block.detect p d b).outside P = b.outside P := by
  simp only [List.cons_subset, List.nil_subset, and_true] at hP
  unfold Block.detect
  dsimp only
  (repeat' split) <;> simp [hP]

@[simp] theorem verdict_outside {P : List Part} (p : Nat) (failed : Bool) (b : Block)
    (hP : (.sys :: .flt :: .wheel :: .lgc :: Part.reply) ⊆ P) :
    (Block.verdict p failed b).outside P = b.outside P := by
  simp only [List.cons_subset, List.nil_subset, and_true] at hP
  unfold Block.verdict
  dsimp only
  (repeat' split) <;> simp [hP]

@[simp] theorem spareLoaded_outside {P : List Part} (p : Nat) (b : Block) (hP : [.evr, .wheel, .lgc] ⊆ P) :
    (Block.spareLoaded p b).outside P = b.outside P := by
  simp only [List.cons_subset, List.nil_subset, and_true] at hP
  unfold Block.spareLoaded
  dsimp only
  split <;> simp [hP]

@[simp] theorem spareTest_outside {P : List Part} (p : Nat) (pulse ok : Bool) (b : Block) (hP : (.sys :: .flt :: .lgc :: Part.event) ⊆ P) :
    (Block.spareTest p pulse ok b).outside P = b.outside P := by
  simp only [List.cons_subset, List.nil_subset, and_true] at hP
  unfold Block.spareTest
  dsimp only
  (repeat' split) <;> simp [hP]

@[simp] theorem eccCorrected_outside {P : List Part} (p : Nat) (b : Block) (hP : (.sys :: .flt :: Part.event) ⊆ P) :
    (Block.eccCorrected p b).outside P = b.outside P := by
  simp only [List.cons_subset, List.nil_subset, and_true] at hP
  simp [Block.eccCorrected, hP]

@[simp] theorem takeoverStart_outside {P : List Part} (s q purpose : Nat) (r : Option Req) (b : Block) (hP : [.lgc] ⊆ P) :
    (Block.takeoverStart s q purpose r b).outside P = b.outside P := by
  simp only [List.cons_subset, List.nil_subset, and_true] at hP
  simp [Block.takeoverStart, hP]

@[simp] theorem takeoverLoaded_outside {P : List Part} (s : Nat) (b : Block) (hP : [.lgc] ⊆ P) :
    (Block.takeoverLoaded s b).outside P = b.outside P := by
  simp only [List.cons_subset, List.nil_subset, and_true] at hP
  unfold Block.takeoverLoaded
  dsimp only
  split <;> simp [hP]

@[simp] theorem takeoverCopied_outside {P : List Part} (s : Nat) (b : Block) (hP : (.sys :: .wheel :: .lgc :: Part.reply) ⊆ P) :
    (Block.takeoverCopied s b).outside P = b.outside P := by
  simp only [List.cons_subset, List.nil_subset, and_true] at hP
  unfold Block.takeoverCopied
  dsimp only
  (repeat' split) <;> simp [hP]

@[simp] theorem takeoverCommit_outside {P : List Part} (s p : Nat) (b : Block) (hP : [.lgc] ⊆ P) :
    (Block.takeoverCommit s p b).outside P = b.outside P := by
  simp only [List.cons_subset, List.nil_subset, and_true] at hP
  unfold Block.takeoverCommit
  dsimp only
  split <;> simp [hP]

@[simp] theorem writeOut_outside {P : List Part} (s : Nat) (pulseOk : Bool) (b : Block)
    (hP : (.sys :: .flt :: .wheel :: .lgc :: Part.reply) ⊆ P) :
    (Block.writeOut s pulseOk b).outside P = b.outside P := by
  simp only [List.cons_subset, List.nil_subset, and_true] at hP
  unfold Block.writeOut
  dsimp only
  (repeat' split) <;> simp [hP]

/-! ### Frames: The cyc., img. and ctl. commands -/

@[simp] theorem cycLoadCheck_outside {P : List Part} (r : Req) (b : Block) (hP : (.lgc :: Part.reply) ⊆ P) :
    (cycLoadCheck r b).outside P = b.outside P := by
  simp only [List.cons_subset, List.nil_subset, and_true] at hP
  unfold cycLoadCheck
  refine outside_onOp ?_
  dsimp only
  (repeat' split) <;> simp [hP]

@[simp] theorem cycLoadRead_outside {P : List Part} (r : Req) (b : Block) (hP : Part.reply ⊆ P) :
    (cycLoadRead r b).outside P = b.outside P := by
  simp only [List.cons_subset, List.nil_subset, and_true] at hP
  unfold cycLoadRead
  refine outside_onOp ?_
  dsimp only
  (repeat' split) <;> simp [hP]

@[simp] theorem cycActivate_outside {P : List Part} (r : Req) (b : Block) (hP : (.wheel :: .lgc :: Part.reply) ⊆ P) :
    (cycActivate r b).outside P = b.outside P := by
  simp only [List.cons_subset, List.nil_subset, and_true] at hP
  unfold cycActivate
  refine outside_onReq ?_
  simp [hP]

@[simp] theorem cycActivateCommit_outside {P : List Part} (r : Req) (b : Block) (hP : (.lgc :: Part.reply) ⊆ P) :
    (cycActivateCommit r b).outside P = b.outside P := by
  simp only [List.cons_subset, List.nil_subset, and_true] at hP
  unfold cycActivateCommit
  dsimp only
  rw [answer_outside _ _ _ _ _ (by simp [hP])]
  refine outside_foldl (fun c x => ?_) _ _
  split <;> simp [hP]

@[simp] theorem cycRestart_outside {P : List Part} (r : Req) (b : Block) (hP : (.sys :: .wheel :: .lgc :: Part.reply) ⊆ P) :
    (cycRestart r b).outside P = b.outside P := by
  simp only [List.cons_subset, List.nil_subset, and_true] at hP
  unfold cycRestart
  refine outside_onReq ?_
  dsimp only
  (repeat' split) <;> simp [hP]

@[simp] theorem cycServiceEnter_outside {P : List Part} (r : Req) (b : Block) (hP : (.lgc :: Part.reply) ⊆ P) :
    (cycServiceEnter r b).outside P = b.outside P := by
  simp only [List.cons_subset, List.nil_subset, and_true] at hP
  unfold cycServiceEnter
  refine outside_onOp ?_
  dsimp only
  (repeat' split) <;> simp [hP]

@[simp] theorem cycServiceExit_outside {P : List Part} (r : Req) (b : Block) (hP : (.lgc :: Part.reply) ⊆ P) :
    (cycServiceExit r b).outside P = b.outside P := by
  simp only [List.cons_subset, List.nil_subset, and_true] at hP
  unfold cycServiceExit
  refine outside_onOp ?_
  simp [hP]

@[simp] theorem cycState_outside {P : List Part} (r : Req) (b : Block) (hP : Part.reply ⊆ P) : (cycState r b).outside P = b.outside P := by
  simp only [List.cons_subset, List.nil_subset, and_true] at hP
  unfold cycState
  refine outside_onReq ?_
  simp [hP]

@[simp] theorem imgRead_outside {P : List Part} (r : Req) (b : Block) (hP : Part.reply ⊆ P) : (imgRead r b).outside P = b.outside P := by
  simp only [List.cons_subset, List.nil_subset, and_true] at hP
  unfold imgRead
  refine outside_onReq ?_
  simp [hP]

@[simp] theorem putCtl_outside {P : List Part} (s i : Nat) (o : CtlObj) (b : Block) (hP : [.lgc] ⊆ P) :
    (Block.putCtl s i o b).outside P = b.outside P := by
  simp only [List.cons_subset, List.nil_subset, and_true] at hP
  unfold Block.putCtl
  dsimp only
  simp [hP]

@[simp] theorem ctlOrder_outside {P : List Part} (r : Req) (select : Bool) (b : Block) (hP : [.mbx] ⊆ P) :
    (Block.ctlOrder r select b).outside P = b.outside P := by
  simp only [List.cons_subset, List.nil_subset, and_true] at hP
  simp [Block.ctlOrder, hP]

@[simp] theorem ctlSelect_outside {P : List Part} (r : Req) (b : Block) (hP : Part.reply ⊆ P) :
    (ctlSelect r b).outside P = b.outside P := by
  simp only [List.cons_subset, List.nil_subset, and_true] at hP
  unfold ctlSelect
  refine outside_onReq ?_
  simp [hP]

@[simp] theorem ctlOperate_outside {P : List Part} (r : Req) (b : Block) (hP : Part.reply ⊆ P) :
    (ctlOperate r b).outside P = b.outside P := by
  simp only [List.cons_subset, List.nil_subset, and_true] at hP
  unfold ctlOperate
  refine outside_onReq ?_
  simp [hP]

@[simp] theorem ctlCancel_outside {P : List Part} (r : Req) (b : Block) (hP : (.lgc :: Part.reply) ⊆ P) :
    (ctlCancel r b).outside P = b.outside P := by
  simp only [List.cons_subset, List.nil_subset, and_true] at hP
  unfold ctlCancel
  refine outside_onReq ?_
  dsimp only
  (repeat' split) <;> simp [hP]

@[simp] theorem ctlRead_outside {P : List Part} (r : Req) (b : Block) (hP : Part.reply ⊆ P) : (ctlRead r b).outside P = b.outside P := by
  simp only [List.cons_subset, List.nil_subset, and_true] at hP
  unfold ctlRead
  refine outside_onReq ?_
  simp [hP]

@[simp] theorem orderAnswer_outside {P : List Part} (o : Order) (st : Nat) (p : List Byte) (b : Block) (hP : (.lgc :: Part.reply) ⊆ P) :
    (Block.orderAnswer o st p b).outside P = b.outside P := by
  simp only [List.cons_subset, List.nil_subset, and_true] at hP
  unfold Block.orderAnswer
  dsimp only
  (repeat' split) <;> simp [hP]

@[simp] theorem orderConflict_outside {P : List Part} (o : Order) (b : Block) (hP : (.lgc :: Part.reply) ⊆ P) :
    (Block.orderConflict o b).outside P = b.outside P := by
  simp only [List.cons_subset, List.nil_subset, and_true] at hP
  simp [Block.orderConflict, hP]

@[simp] theorem orderIdle_outside {P : List Part} (o : Order) (d : CtlDecl) (b : Block) (hP : (.lgc :: Part.reply) ⊆ P) :
    (Block.orderIdle o d b).outside P = b.outside P := by
  simp only [List.cons_subset, List.nil_subset, and_true] at hP
  unfold Block.orderIdle
  split <;> simp [hP]

@[simp] theorem orderMeet_outside {P : List Part} (o : Order) (d : CtlDecl) (b : Block) (hP : (.lgc :: Part.reply) ⊆ P) :
    (Block.orderMeet o d b).outside P = b.outside P := by
  simp only [List.cons_subset, List.nil_subset, and_true] at hP
  unfold Block.orderMeet
  dsimp only
  (repeat' split) <;> simp [hP]

@[simp] theorem arbitrate_outside {P : List Part} (e s i : Nat) (b : Block) (hP : (.lgc :: Part.reply) ⊆ P) :
    (Block.arbitrate e s i b).outside P = b.outside P := by
  simp only [List.cons_subset, List.nil_subset, and_true] at hP
  unfold Block.arbitrate
  dsimp only
  split <;> simp [hP]

@[simp] theorem arbitrateAll_outside {P : List Part} (b : Block) (hP : (.lgc :: Part.reply) ⊆ P) :
    (Block.arbitrateAll b).outside P = b.outside P := by
  simp only [List.cons_subset, List.nil_subset, and_true] at hP
  simp [Block.arbitrateAll, hP]

@[simp] theorem selLapse_outside {P : List Part} (s i : Nat) (b : Block) (hP : [.lgc] ⊆ P) :
    (Block.selLapse s i b).outside P = b.outside P := by
  simp only [List.cons_subset, List.nil_subset, and_true] at hP
  simp [Block.selLapse, hP]

@[simp] theorem ansTimeout_outside {P : List Part} (s i : Nat) (b : Block) (hP : (.lgc :: Part.reply) ⊆ P) :
    (Block.ansTimeout s i b).outside P = b.outside P := by
  simp only [List.cons_subset, List.nil_subset, and_true] at hP
  unfold Block.ansTimeout
  dsimp only
  (repeat' split) <;> simp [hP]

/-! ### Frames: Ports and fabric frames -/

@[simp] theorem goodRx_outside {P : List Part} (p : Nat) (b : Block) (hP : [.evr, .net] ⊆ P) :
    (Block.goodRx p b).outside P = b.outside P := by
  simp only [List.cons_subset, List.nil_subset, and_true] at hP
  simp [Block.goodRx, hP]

@[simp] theorem heard_outside {P : List Part} (p : Nat) (b : Block) (hP : [.evr, .net] ⊆ P) :
    (Block.heard p b).outside P = b.outside P := by
  simp only [List.cons_subset, List.nil_subset, and_true] at hP
  unfold Block.heard
  split <;> simp [hP]

@[simp] theorem putDups_outside {P : List Part} (k : Nat) (l : List Dup) (b : Block) (hP : [.net] ⊆ P) :
    (Block.putDups k l b).outside P = b.outside P := by
  simp only [List.cons_subset, List.nil_subset, and_true] at hP
  simp [Block.putDups, hP]

@[simp] theorem dupPut_outside {P : List Part} (k src seq : Nat) (f : Dup → Dup) (b : Block) (hP : [.net] ⊆ P) :
    (Block.dupPut k src seq f b).outside P = b.outside P := by
  simp only [List.cons_subset, List.nil_subset, and_true] at hP
  unfold Block.dupPut
  split <;> simp [hP]

@[simp] theorem rxIn_outside {P : List Part} (h : RxHdr) (b : Block) (hP : [.evr, .net] ⊆ P) :
    (Block.rxIn h b).2.outside P = b.outside P := by
  simp only [List.cons_subset, List.nil_subset, and_true] at hP
  unfold Block.rxIn
  dsimp only
  (repeat' split) <;> simp [hP]

@[simp] theorem rxDrop_outside {P : List Part} (p : Nat) (c : NetCtr) (b : Block) (hP : (.net :: Part.event) ⊆ P) :
    (Block.rxDrop p c b).outside P = b.outside P := by
  simp only [List.cons_subset, List.nil_subset, and_true] at hP
  simp [Block.rxDrop, hP]

@[simp] theorem rxPass_outside {P : List Part} (p : Nat) (b : Block) (hP : [.evr, .net] ⊆ P) :
    (Block.rxPass p b).outside P = b.outside P := by
  simp only [List.cons_subset, List.nil_subset, and_true] at hP
  simp [Block.rxPass, hP]

@[simp] theorem police_outside {P : List Part} (p : Nat) (hello : Bool) (b : Block) (hP : (.sys :: .net :: Part.event) ⊆ P) :
    (Block.police p hello b).2.outside P = b.outside P := by
  simp only [List.cons_subset, List.nil_subset, and_true] at hP
  unfold Block.police
  dsimp only
  (repeat' split) <;> simp [hP]

@[simp] theorem derived_outside {P : List Part} (h : RxHdr) (b : Block) (hP : [.fresh] ⊆ P) :
    (Block.derived h b).2.outside P = b.outside P := by
  simp only [List.cons_subset, List.nil_subset, and_true] at hP
  unfold Block.derived
  dsimp only
  (repeat' split) <;> simp [hP]

@[simp] theorem timedLaunch_outside {P : List Part} (p : Nat) (b : Block) (hP : (.time :: .net :: Part.event) ⊆ P) :
    (Block.timedLaunch p b).outside P = b.outside P := by
  simp only [List.cons_subset, List.nil_subset, and_true] at hP
  simp [Block.timedLaunch, hP]

@[simp] theorem txEnd_outside {P : List Part} (p : Nat) (b : Block) (hP : (.time :: .net :: Part.event) ⊆ P) :
    (Block.txEnd p b).outside P = b.outside P := by
  simp only [List.cons_subset, List.nil_subset, and_true] at hP
  unfold Block.txEnd
  split <;> simp [hP]

@[simp] theorem linkUp_outside {P : List Part} (p : Nat) (b : Block) (hP : (.sys :: .time :: .net :: Part.event) ⊆ P) :
    (Block.linkUp p b).outside P = b.outside P := by
  simp only [List.cons_subset, List.nil_subset, and_true] at hP
  unfold Block.linkUp
  dsimp only
  (repeat' split) <;> simp [hP]

@[simp] theorem goDown_outside {P : List Part} (p : Nat) (b : Block) (hP : (.net :: Part.event) ⊆ P) :
    (Block.goDown p b).outside P = b.outside P := by
  simp only [List.cons_subset, List.nil_subset, and_true] at hP
  simp [Block.goDown, hP]

@[simp] theorem rxBad_outside {P : List Part} (p : Nat) (long : Bool) (b : Block) (hP : (.net :: Part.event) ⊆ P) :
    (Block.rxBad p long b).outside P = b.outside P := by
  simp only [List.cons_subset, List.nil_subset, and_true] at hP
  simp [Block.rxBad, hP]

@[simp] theorem rxUnsup_outside {P : List Part} (h : RxHdr) (b : Block) (hP : [.evr, .net] ⊆ P) :
    (Block.rxUnsup h b).outside P = b.outside P := by
  simp only [List.cons_subset, List.nil_subset, and_true] at hP
  simp [Block.rxUnsup, hP]

@[simp] theorem pauseRx_outside {P : List Part} (p : Nat) (b : Block) (hP : [.evr, .net] ⊆ P) :
    (Block.pauseRx p b).outside P = b.outside P := by
  simp only [List.cons_subset, List.nil_subset, and_true] at hP
  simp [Block.pauseRx, hP]

@[simp] theorem prpRx_outside {P : List Part} (h : RxHdr) (b : Block) (hP : (.sys :: .net :: Part.event) ⊆ P) :
    (Block.prpRx h b).outside P = b.outside P := by
  simp only [List.cons_subset, List.nil_subset, and_true] at hP
  simp [Block.prpRx, hP]

@[simp] theorem supervise_outside {P : List Part} (kind k : Nat) (b : Block) (hP : (.time :: .net :: Part.event) ⊆ P) :
    (Block.supervise kind k b).outside P = b.outside P := by
  simp only [List.cons_subset, List.nil_subset, and_true] at hP
  simp [Block.supervise, hP]

@[simp] theorem prpLost_outside {P : List Part} (p : Nat) (b : Block) (hP : (.net :: Part.event) ⊆ P) :
    (Block.prpLost p b).outside P = b.outside P := by
  simp only [List.cons_subset, List.nil_subset, and_true] at hP
  simp [Block.prpLost, hP]

@[simp] theorem ringOpen_outside {P : List Part} (p : Nat) (b : Block) (hP : (.net :: Part.event) ⊆ P) :
    (Block.ringOpen p b).outside P = b.outside P := by
  simp only [List.cons_subset, List.nil_subset, and_true] at hP
  simp [Block.ringOpen, hP]

@[simp] theorem dupExpire_outside {P : List Part} (k : Nat) (b : Block) (hP : [.net] ⊆ P) :
    (Block.dupExpire k b).outside P = b.outside P := by
  simp only [List.cons_subset, List.nil_subset, and_true] at hP
  simp [Block.dupExpire, hP]

@[simp] theorem hsrForward_outside {P : List Part} (h : RxHdr) (own sup mine : Bool) (b : Block) (hP : (.time :: .net :: Part.event) ⊆ P) :
    (Block.hsrForward h own sup mine b).outside P = b.outside P := by
  simp only [List.cons_subset, List.nil_subset, and_true] at hP
  unfold Block.hsrForward
  dsimp only
  (repeat' split) <;> simp [hP]

@[simp] theorem netCfg_outside {P : List Part} (r : Req) (b : Block) (hP : Part.reply ⊆ P) : (netCfg r b).outside P = b.outside P := by
  simp only [List.cons_subset, List.nil_subset, and_true] at hP
  unfold netCfg
  refine outside_onReq ?_
  simp [hP]

@[simp] theorem netCfgCommit_outside {P : List Part} (r : Req) (b : Block) (hP : Part.reply ⊆ P) :
    (netCfgCommit r b).outside P = b.outside P := by
  simp only [List.cons_subset, List.nil_subset, and_true] at hP
  simp [netCfgCommit, hP]

@[simp] theorem flush_outside {P : List Part} (p : Nat) (b : Block) (hP : (.net :: Part.event) ⊆ P) :
    (Block.flush p b).outside P = b.outside P := by
  simp only [List.cons_subset, List.nil_subset, and_true] at hP
  unfold Block.flush
  dsimp only
  rw [putPort_outside _ _ _ (by simp [hP])]
  refine outside_foldl (fun c q => outside_foldl (fun d x => ?_) _ _) _ _
  simp [hP]

@[simp] theorem netApply_outside {P : List Part} (c : NetCfg) (b : Block) (hP : (.net :: Part.event) ⊆ P) :
    (Block.netApply c b).outside P = b.outside P := by
  simp only [List.cons_subset, List.nil_subset, and_true] at hP
  simp [Block.netApply, hP]

@[simp] theorem netCfgEffect_outside {P : List Part} (b : Block) (hP : (.net :: Part.event) ⊆ P) :
    (Block.netCfgEffect b).outside P = b.outside P := by
  simp only [List.cons_subset, List.nil_subset, and_true] at hP
  simp [Block.netCfgEffect, hP]

@[simp] theorem netStat_outside {P : List Part} (r : Req) (b : Block) (hP : Part.reply ⊆ P) : (netStat r b).outside P = b.outside P := by
  simp only [List.cons_subset, List.nil_subset, and_true] at hP
  unfold netStat
  refine outside_onReq ?_
  simp [hP]

@[simp] theorem reroute_outside {P : List Part} (b : Block) (hP : (.fab :: Part.event) ⊆ P) :
    (Block.reroute b).outside P = b.outside P := by
  simp only [List.cons_subset, List.nil_subset, and_true] at hP
  unfold Block.reroute
  split
  · rfl
  · dsimp only
    rw [raiseIf_outside _ _ _ _ (by simp [hP])]
    refine (outside_foldl_snd (fun x i => ?_) _ _).trans
      (outside_foldl_snd (fun x i => ?_) _ _)
    · simp [apply_ite Prod.snd, hP]
    · simp [apply_ite Prod.snd, hP]

@[simp] theorem helloSend_outside {P : List Part} (b : Block) (hP : Part.reply ⊆ P) : (Block.helloSend b).outside P = b.outside P := by
  simp only [List.cons_subset, List.nil_subset, and_true] at hP
  simp [Block.helloSend, hP]

@[simp] theorem mapNbr_outside {P : List Part} (addr l : Nat) (f : Nbr → Nbr) (b : Block) (hP : [.fab] ⊆ P) :
    (Block.mapNbr addr l f b).outside P = b.outside P := by
  simp only [List.cons_subset, List.nil_subset, and_true] at hP
  simp [Block.mapNbr, hP]

@[simp] theorem nbrDown_outside {P : List Part} (addr l : Nat) (b : Block) (hP : (.fab :: Part.event) ⊆ P) :
    (Block.nbrDown addr l b).outside P = b.outside P := by
  simp only [List.cons_subset, List.nil_subset, and_true] at hP
  unfold Block.nbrDown
  split <;> simp [hP]

@[simp] theorem admitOne_outside {P : List Part} (p : Pend) (b : Block) (hP : (.fab :: Part.event) ⊆ P) :
    (Block.admitOne p b).outside P = b.outside P := by
  simp only [List.cons_subset, List.nil_subset, and_true] at hP
  simp [Block.admitOne, hP]

@[simp] theorem helloNew_outside {P : List Part} (n : Pend) (b : Block) (hP : (.fab :: Part.event) ⊆ P) :
    (Block.helloNew n b).outside P = b.outside P := by
  simp only [List.cons_subset, List.nil_subset, and_true] at hP
  simp [Block.helloNew, hP]

@[simp] theorem hello_outside {P : List Part} (l : Nat) (x : Hello) (b : Block) (hP : (.fab :: Part.event) ⊆ P) :
    (Block.hello l x b).outside P = b.outside P := by
  simp only [List.cons_subset, List.nil_subset, and_true] at hP
  unfold Block.hello
  dsimp only
  (repeat' split) <;> simp [hP]

@[simp] theorem helloRx_outside {P : List Part} (h : RxHdr) (x : Hello) (b : Block) (hP : (.sys :: .net :: .fab :: Part.event) ⊆ P) :
    (Block.helloRx h x b).outside P = b.outside P := by
  simp only [List.cons_subset, List.nil_subset, and_true] at hP
  simp [Block.helloRx, hP]

@[simp] theorem pendAdmit_outside {P : List Part} (b : Block) (hP : (.fab :: Part.event) ⊆ P) :
    (Block.pendAdmit b).outside P = b.outside P := by
  simp only [List.cons_subset, List.nil_subset, and_true] at hP
  simp [Block.pendAdmit, hP]

@[simp] theorem nbrUp_outside {P : List Part} (addr l : Nat) (b : Block) (hP : (.fab :: Part.event) ⊆ P) :
    (Block.nbrUp addr l b).outside P = b.outside P := by
  simp only [List.cons_subset, List.nil_subset, and_true] at hP
  unfold Block.nbrUp
  split <;> simp [hP]

@[simp] theorem nbrSilent_outside {P : List Part} (addr l : Nat) (b : Block) (hP : (.fab :: Part.event) ⊆ P) :
    (Block.nbrSilent addr l b).outside P = b.outside P := by
  simp only [List.cons_subset, List.nil_subset, and_true] at hP
  unfold Block.nbrSilent
  split <;> simp [hP]

@[simp] theorem nbrFree_outside {P : List Part} (addr l : Nat) (b : Block) (hP : [.fab] ⊆ P) :
    (Block.nbrFree addr l b).outside P = b.outside P := by
  simp only [List.cons_subset, List.nil_subset, and_true] at hP
  simp [Block.nbrFree, hP]

@[simp] theorem ownProbEnd_outside {P : List Part} (b : Block) (hP : (.fab :: Part.event) ⊆ P) :
    (Block.ownProbEnd b).outside P = b.outside P := by
  simp only [List.cons_subset, List.nil_subset, and_true] at hP
  unfold Block.ownProbEnd
  split <;> simp [hP]

@[simp] theorem unblock_outside {P : List Part} (b : Block) (hP : [.fab] ⊆ P) : (Block.unblock b).outside P = b.outside P := by
  simp only [List.cons_subset, List.nil_subset, and_true] at hP
  simp [Block.unblock, hP]

@[simp] theorem lportDown_outside {P : List Part} (l : Nat) (b : Block) (hP : (.fab :: Part.event) ⊆ P) :
    (Block.lportDown l b).outside P = b.outside P := by
  simp only [List.cons_subset, List.nil_subset, and_true] at hP
  simp [Block.lportDown, hP]

@[simp] theorem linkDown_outside {P : List Part} (p : Nat) (b : Block) (hP : (.net :: .fab :: Part.event) ⊆ P) :
    (Block.linkDown p b).outside P = b.outside P := by
  simp only [List.cons_subset, List.nil_subset, and_true] at hP
  simp [Block.linkDown, hP]

@[simp] theorem reasmTimeout_outside {P : List Part} (b : Block) (hP : [.fab] ⊆ P) : (Block.reasmTimeout b).outside P = b.outside P := by
  simp only [List.cons_subset, List.nil_subset, and_true] at hP
  simp [Block.reasmTimeout, hP]

@[simp] theorem inboxPut_outside {P : List Part} (l : Nat) (m : FabMsg) (b : Block) (hP : (.fab :: Part.event) ⊆ P) :
    (Block.inboxPut l m b).outside P = b.outside P := by
  simp only [List.cons_subset, List.nil_subset, and_true] at hP
  simp [Block.inboxPut, hP]

@[simp] theorem segment_outside {P : List Part} (l : Nat) (h : RxHdr) (f : FabHdr) (p : List Byte) (b : Block)
    (hP : (.fab :: Part.event) ⊆ P) :
    (Block.segment l h f p b).outside P = b.outside P := by
  simp only [List.cons_subset, List.nil_subset, and_true] at hP
  simp [Block.segment, hP]

@[simp] theorem consume_outside {P : List Part} (h : RxHdr) (f : FabHdr) (body : FabBody) (b : Block)
    (hP : (.sys :: .net :: .fab :: Part.event) ⊆ P) :
    (Block.consume h f body b).outside P = b.outside P := by
  simp only [List.cons_subset, List.nil_subset, and_true] at hP
  unfold Block.consume
  dsimp only
  (repeat' split) <;> simp [hP]

@[simp] theorem fabIn_outside {P : List Part} (h : RxHdr) (f : FabHdr) (body : FabBody) (b : Block)
    (hP : (.sys :: .net :: .fab :: Part.event) ⊆ P) :
    (Block.fabIn h f body b).2.outside P = b.outside P := by
  simp only [List.cons_subset, List.nil_subset, and_true] at hP
  unfold Block.fabIn
  dsimp only
  (repeat' split) <;> simp [hP]

@[simp] theorem fabUnicast_outside {P : List Part} (h : RxHdr) (f : FabHdr) (body : FabBody) (b : Block) (hP : (.sys :: Part.reply) ⊆ P) :
    (Block.fabUnicast h f body b).outside P = b.outside P := by
  simp only [List.cons_subset, List.nil_subset, and_true] at hP
  unfold Block.fabUnicast
  dsimp only
  (repeat' split) <;> simp [hP]

@[simp] theorem fabBroadcast_outside {P : List Part} (h : RxHdr) (f : FabHdr) (body : FabBody) (b : Block) (hP : (.sys :: Part.reply) ⊆ P) :
    (Block.fabBroadcast h f body b).outside P = b.outside P := by
  simp only [List.cons_subset, List.nil_subset, and_true] at hP
  simp [Block.fabBroadcast, hP]

@[simp] theorem take_outside {P : List Part} (svc : Nat) (ok : FabMsg → Bool) (b : Block) (hP : [.fab] ⊆ P) :
    ∀ x, Block.take svc ok b = some x → x.2.outside P = b.outside P := by
  simp only [List.cons_subset, List.nil_subset, and_true] at hP
  unfold Block.take
  split <;> simp [hP]

@[simp] theorem netEffect_outside {P : List Part} (b : Block) (hP : (.net :: .fab :: Part.event) ⊆ P) :
    (Block.netEffect b).outside P = b.outside P := by
  simp only [List.cons_subset, List.nil_subset, and_true] at hP
  simp [Block.netEffect, hP]

/-! ### Frames: Stations and sampled values -/

@[simp] theorem putStn_outside {P : List Part} (k : Nat) (f : Stn → Stn) (b : Block) (hP : [.lgc] ⊆ P) :
    (Block.putStn k f b).outside P = b.outside P := by
  simp only [List.cons_subset, List.nil_subset, and_true] at hP
  simp [Block.putStn, hP]

@[simp] theorem stnEvent_outside {P : List Part} (e : SubDecl) (b : Block) (hP : Part.event ⊆ P) :
    (Block.stnEvent e b).outside P = b.outside P := by
  simp only [List.cons_subset, List.nil_subset, and_true] at hP
  simp [Block.stnEvent, hP]

@[simp] theorem stnState_outside {P : List Part} (k : Nat) (st : StnSt) (b : Block) (hP : [.lgc] ⊆ P) :
    (Block.stnState k st b).outside P = b.outside P := by
  simp only [List.cons_subset, List.nil_subset, and_true] at hP
  simp [Block.stnState, hP]

@[simp] theorem badFrame_outside {P : List Part} (k : Nat) (e : SubDecl) (p : Nat) (b : Block) (hP : (.lgc :: Part.event) ⊆ P) :
    (Block.badFrame k e p b).outside P = b.outside P := by
  simp only [List.cons_subset, List.nil_subset, and_true] at hP
  unfold Block.badFrame
  dsimp only
  split <;> simp [hP]

@[simp] theorem goodFrame_outside {P : List Part} (k : Nat) (e : SubDecl) (seq : Nat × Nat) (ttl : Nat) (test : Bool) (vals : List (Word × Nat)) (ns : Nat) (b : Block)
    (hP : (.lgc :: Part.event) ⊆ P) :
    (Block.goodFrame k e seq ttl test vals ns b).outside P = b.outside P := by
  simp only [List.cons_subset, List.nil_subset, and_true] at hP
  unfold Block.goodFrame
  dsimp only
  (repeat' split) <;> simp [hP]

@[simp] theorem trigGoose_outside {P : List Part} (i : Nat) (e : SubDecl) (n ns : Nat) (b : Block) (hP : [.lgc] ⊆ P) :
    (Block.trigGoose i e n ns b).outside P = b.outside P := by
  simp only [List.cons_subset, List.nil_subset, and_true] at hP
  simp [Block.trigGoose, hP]

@[simp] theorem gooseFilter_outside {P : List Part} (h : RxHdr) (f : GooseRx) (b : Block)
    (hP : (.lgc :: .net :: .fresh :: Part.event) ⊆ P) :
    (Block.gooseFilter h f b).outside P = b.outside P := by
  simp only [List.cons_subset, List.nil_subset, and_true] at hP
  unfold Block.gooseFilter
  dsimp only
  (repeat' split) <;> simp [hP]

@[simp] theorem gooseRx_outside {P : List Part} (h : RxHdr) (f : GooseRx) (b : Block) (hP : (.lgc :: .net :: .fresh :: Part.event) ⊆ P) :
    (Block.gooseRx h f b).outside P = b.outside P := by
  simp only [List.cons_subset, List.nil_subset, and_true] at hP
  simp [Block.gooseRx, hP]

@[simp] theorem svRx_outside {P : List Part} (h : RxHdr) (f : SvRx) (b : Block) (hP : (.lgc :: .net :: .fresh :: Part.event) ⊆ P) :
    (Block.svRx h f b).outside P = b.outside P := by
  simp only [List.cons_subset, List.nil_subset, and_true] at hP
  unfold Block.svRx
  dsimp only
  (repeat' split) <;> simp [hP]

@[simp] theorem stnMiss_outside {P : List Part} (k : Nat) (b : Block) (hP : (.lgc :: Part.event) ⊆ P) :
    (Block.stnMiss k b).outside P = b.outside P := by
  simp only [List.cons_subset, List.nil_subset, and_true] at hP
  unfold Block.stnMiss
  dsimp only
  (repeat' split) <;> simp [hP]

@[simp] theorem imgStation_outside {P : List Part} (r : Req) (b : Block) (hP : (.lgc :: Part.reply) ⊆ P) :
    (imgStation r b).outside P = b.outside P := by
  simp only [List.cons_subset, List.nil_subset, and_true] at hP
  unfold imgStation
  refine outside_onReq ?_
  simp [hP]

@[simp] theorem gooseSend_outside {P : List Part} (k : Nat) (d : PubDecl) (c : CbSt) (b : Block) (hP : Part.reply ⊆ P) :
    (Block.gooseSend k d c b).outside P = b.outside P := by
  simp only [List.cons_subset, List.nil_subset, and_true] at hP
  unfold Block.gooseSend
  dsimp only
  (repeat' split) <;> simp [hP]

@[simp] theorem goosePublish_outside {P : List Part} (touched : List Nat) (b : Block) (hP : Part.reply ⊆ P) :
    (Block.goosePublish touched b).outside P = b.outside P := by
  simp only [List.cons_subset, List.nil_subset, and_true] at hP
  unfold Block.goosePublish
  refine outside_foldl (fun c x => ?_) _ _
  split
  · rfl
  · dsimp only
    (repeat' split) <;> simp [hP]

@[simp] theorem gooseRepeat_outside {P : List Part} (k : Nat) (b : Block) (hP : Part.reply ⊆ P) :
    (Block.gooseRepeat k b).outside P = b.outside P := by
  simp only [List.cons_subset, List.nil_subset, and_true] at hP
  unfold Block.gooseRepeat
  split <;> simp [hP]

@[simp] theorem svEnd_outside {P : List Part} (rate : Nat) (b : Block) (hP : (.time :: .net :: Part.event) ⊆ P) :
    (Block.svEnd rate b).outside P = b.outside P := by
  simp only [List.cons_subset, List.nil_subset, and_true] at hP
  fun_cases Block.svEnd rate b
  · rfl
  · rfl
  · rfl
  · refine (outside_foldl ?_ _ _).trans (outside_set_net hP.2.1)
    intro c i
    split
    · rfl
    · split
      · rfl
      · extract_lets ch old buf last
        split
        · exact (sendOn_outside _ _ _ _ _ (by simp [hP])).trans (outside_set_net hP.2.1)
        · exact outside_set_net hP.2.1

/-! ### Frames: Disturbance recorder -/

@[simp] theorem distFree_outside {P : List Part} (k : Nat) (b : Block) (hP : [.dist] ⊆ P) :
    (Block.distFree k b).outside P = b.outside P := by
  simp only [List.cons_subset, List.nil_subset, and_true] at hP
  unfold Block.distFree
  split <;> simp [hP]

@[simp] theorem distReserve_outside {P : List Part} (fuel : Nat) (b : Block) (hP : (.dist :: Part.event) ⊆ P) :
    (Block.distReserve fuel b).outside P = b.outside P := by
  induction fuel generalizing b with
  | zero =>
    simp only [List.cons_subset, List.nil_subset, and_true] at hP
    unfold Block.distReserve
    dsimp only
    split
    · rfl
    · split
      · simp [hP]
      · rfl
  | succ n ih =>
    unfold Block.distReserve
    dsimp only
    split
    · rfl
    · split
      · simp only [List.cons_subset, List.nil_subset, and_true] at hP
        simp [hP]
      · split
        · next f k hf hk =>
          obtain rfl := Nat.succ.inj hf
          split
          · rw [ih]
            simp only [List.cons_subset, List.nil_subset, and_true] at hP
            simp [hP]
          · rfl
        · rfl

@[simp] theorem distEnd_outside {P : List Part} (trunc segFull : Bool) (cause endAt : Nat) (b : Block) (hP : (.dist :: Part.event) ⊆ P) :
    (Block.distEnd trunc segFull cause endAt b).outside P = b.outside P := by
  simp only [List.cons_subset, List.nil_subset, and_true] at hP
  unfold Block.distEnd
  split <;> simp [hP]

@[simp] theorem distClose_outside {P : List Part} (trunc segFull : Bool) (cause endAt : Nat) (b : Block) (hP : (.dist :: Part.event) ⊆ P) :
    (Block.distClose trunc segFull cause endAt b).outside P = b.outside P := by
  simp only [List.cons_subset, List.nil_subset, and_true] at hP
  simp [Block.distClose, hP]

@[simp] theorem distTrigger_outside {P : List Part} (st : Stamp) (b : Block) (hP : (.dist :: Part.event) ⊆ P) :
    (Block.distTrigger st b).outside P = b.outside P := by
  simp only [List.cons_subset, List.nil_subset, and_true] at hP
  unfold Block.distTrigger
  dsimp only
  (repeat' split) <;> simp [hP]

@[simp] theorem distObserve_outside {P : List Part} (b : Block) (hP : (.dist :: Part.event) ⊆ P) :
    (Block.distObserve b).outside P = b.outside P := by
  simp only [List.cons_subset, List.nil_subset, and_true] at hP
  simp [Block.distObserve, hP]

@[simp] theorem distEdge_outside {P : List Part} (e : Edge) (b : Block) (hP : (.dist :: Part.event) ⊆ P) :
    (Block.distEdge e b).outside P = b.outside P := by
  simp only [List.cons_subset, List.nil_subset, and_true] at hP
  simp [Block.distEdge, hP]

@[simp] theorem edgeDrain_outside {P : List Part} (b : Block) (hP : (.bar :: .dist :: Part.event) ⊆ P) :
    (Block.edgeDrain b).outside P = b.outside P := by
  simp only [List.cons_subset, List.nil_subset, and_true] at hP
  simp [Block.edgeDrain, hP]

@[simp] theorem distBreak_outside {P : List Part} (n tb : Nat) (b : Block) (hP : [.dist] ⊆ P) :
    (Block.distBreak n tb b).outside P = b.outside P := by
  simp only [List.cons_subset, List.nil_subset, and_true] at hP
  simp [Block.distBreak, hP]

@[simp] theorem distInterval_outside {P : List Part} (b : Block) (hP : (.dist :: Part.event) ⊆ P) :
    (Block.distInterval b).outside P = b.outside P := by
  simp only [List.cons_subset, List.nil_subset, and_true] at hP
  unfold Block.distInterval
  dsimp only
  (repeat' split) <;> simp [hP]

@[simp] theorem recordClose_outside {P : List Part} (b : Block) (hP : (.dist :: Part.event) ⊆ P) :
    (Block.recordClose b).outside P = b.outside P := by
  simp only [List.cons_subset, List.nil_subset, and_true] at hP
  unfold Block.recordClose
  split <;> simp [hP]

@[simp] theorem recordComplete_outside {P : List Part} (b : Block) (hP : (.dist :: Part.event) ⊆ P) :
    (Block.recordComplete b).outside P = b.outside P := by
  simp only [List.cons_subset, List.nil_subset, and_true] at hP
  simp [Block.recordComplete, hP]

@[simp] theorem distStart_outside {P : List Part} (b : Block) (hP : (.bar :: .dist :: Part.event) ⊆ P) :
    (Block.distStart b).outside P = b.outside P := by
  simp only [List.cons_subset, List.nil_subset, and_true] at hP
  simp [Block.distStart, hP]

@[simp] theorem distRestart_outside {P : List Part} (b : Block) (hP : (.dist :: Part.event) ⊆ P) :
    (Block.distRestart b).outside P = b.outside P := by
  simp only [List.cons_subset, List.nil_subset, and_true] at hP
  simp [Block.distRestart, hP]

@[simp] theorem distCfg_outside {P : List Part} (r : Req) (b : Block) (hP : (.dist :: Part.reply) ⊆ P) :
    (distCfg r b).outside P = b.outside P := by
  simp only [List.cons_subset, List.nil_subset, and_true] at hP
  unfold distCfg
  refine outside_onReq ?_
  simp [hP]

@[simp] theorem distCfgCommit_outside {P : List Part} (r : Req) (b : Block) (hP : (.dist :: Part.reply) ⊆ P) :
    (distCfgCommit r b).outside P = b.outside P := by
  simp only [List.cons_subset, List.nil_subset, and_true] at hP
  simp [distCfgCommit, hP]

@[simp] theorem distCfgEffect_outside {P : List Part} (b : Block) (hP : (.bar :: .dist :: Part.event) ⊆ P) :
    (distCfgEffect b).outside P = b.outside P := by
  simp only [List.cons_subset, List.nil_subset, and_true] at hP
  simp [distCfgEffect, hP]

@[simp] theorem distP_outside {P : List Part} (b : Block) (hP : (.dist :: Part.event) ⊆ P) : (Block.distP b).outside P = b.outside P := by
  simp only [List.cons_subset, List.nil_subset, and_true] at hP
  simp [Block.distP, hP]

@[simp] theorem distTriggerCmd_outside {P : List Part} (r : Req) (b : Block) (hP : (.dist :: Part.reply) ⊆ P) :
    (distTriggerCmd r b).outside P = b.outside P := by
  simp only [List.cons_subset, List.nil_subset, and_true] at hP
  unfold distTriggerCmd
  refine outside_onReq ?_
  dsimp only
  (repeat' split) <;> simp [hP]

@[simp] theorem distTick_outside {P : List Part} (b : Block) (hP : (.dist :: Part.event) ⊆ P) :
    (Block.distTick b).outside P = b.outside P := by
  simp only [List.cons_subset, List.nil_subset, and_true] at hP
  simp [Block.distTick, hP]

@[simp] theorem distList_outside {P : List Part} (r : Req) (b : Block) (hP : Part.reply ⊆ P) : (distList r b).outside P = b.outside P := by
  simp only [List.cons_subset, List.nil_subset, and_true] at hP
  unfold distList
  refine outside_onReq ?_
  simp [hP]

@[simp] theorem distMark_outside {P : List Part} (keep : Bool) (r : Req) (b : Block) (hP : (.dist :: Part.reply) ⊆ P) :
    (distMark keep r b).outside P = b.outside P := by
  simp only [List.cons_subset, List.nil_subset, and_true] at hP
  unfold distMark
  split <;> simp [hP]

@[simp] theorem distKeep_outside {P : List Part} (r : Req) (b : Block) (hP : (.dist :: Part.reply) ⊆ P) :
    (distKeep r b).outside P = b.outside P := by
  simp only [List.cons_subset, List.nil_subset, and_true] at hP
  unfold distKeep
  refine outside_onOp ?_
  simp [hP]

@[simp] theorem distRelease_outside {P : List Part} (r : Req) (b : Block) (hP : (.dist :: Part.reply) ⊆ P) :
    (distRelease r b).outside P = b.outside P := by
  simp only [List.cons_subset, List.nil_subset, and_true] at hP
  unfold distRelease
  refine outside_onOp ?_
  simp [hP]

@[simp] theorem distDelete_outside {P : List Part} (r : Req) (b : Block) (hP : (.dist :: Part.reply) ⊆ P) :
    (distDelete r b).outside P = b.outside P := by
  simp only [List.cons_subset, List.nil_subset, and_true] at hP
  unfold distDelete
  refine outside_onOp ?_
  split <;> simp [hP]

/-! ### Frames: Fabric services -/

@[simp] theorem signalRx_outside {P : List Part} (b : Block) (hP : (.lgc :: .net :: .fab :: .fresh :: Part.event) ⊆ P) :
    (Block.signalRx b).outside P = b.outside P := by
  simp only [List.cons_subset, List.nil_subset, and_true] at hP
  unfold Block.signalRx
  split
  · next m c hm =>
      rw [← take_outside _ _ _ (by simp [hP]) _ hm]
      split <;> simp [hP]
  · rfl

@[simp] theorem locate_outside {P : List Part} (x : TwLoc) (b : Block) (hP : (.fab :: Part.event) ⊆ P) :
    (Block.locate x b).outside P = b.outside P := by
  simp only [List.cons_subset, List.nil_subset, and_true] at hP
  simp [Block.locate, hP]

@[simp] theorem twExpire_outside {P : List Part} (b : Block) (hP : (.fab :: Part.event) ⊆ P) :
    (Block.twExpire b).outside P = b.outside P := by
  simp only [List.cons_subset, List.nil_subset, and_true] at hP
  simp [Block.twExpire, hP]

@[simp] theorem twPair_outside {P : List Part} (w : TwWait) (b : Block) (hP : (.fab :: Part.event) ⊆ P) :
    (Block.twPair w b).outside P = b.outside P := by
  simp only [List.cons_subset, List.nil_subset, and_true] at hP
  unfold Block.twPair
  dsimp only
  split <;> simp [hP]

@[simp] theorem twSend_outside {P : List Part} (b : Block) (hP : (.acc :: Part.reply) ⊆ P) : (Block.twSend b).outside P = b.outside P := by
  simp only [List.cons_subset, List.nil_subset, and_true] at hP
  unfold Block.twSend
  split <;> simp [hP]

@[simp] theorem twRx_outside {P : List Part} (b : Block) (hP : (.fab :: Part.event) ⊆ P) : (Block.twRx b).outside P = b.outside P := by
  simp only [List.cons_subset, List.nil_subset, and_true] at hP
  unfold Block.twRx
  split
  · rfl
  · next m c hm =>
      rw [← take_outside _ _ _ (by simp [hP]) _ hm]
      dsimp only
      split <;> simp [hP]

@[simp] theorem fabTw_outside {P : List Part} (r : Req) (b : Block) (hP : Part.reply ⊆ P) : (fabTw r b).outside P = b.outside P := by
  simp only [List.cons_subset, List.nil_subset, and_true] at hP
  unfold fabTw
  refine outside_onReq ?_
  simp [hP]

@[simp] theorem fabTwCommit_outside {P : List Part} (r : Req) (b : Block) (hP : Part.reply ⊆ P) :
    (fabTwCommit r b).outside P = b.outside P := by
  simp only [List.cons_subset, List.nil_subset, and_true] at hP
  simp [fabTwCommit, hP]

@[simp] theorem fabTwEffect_outside {P : List Part} (b : Block) (hP : [.fab] ⊆ P) : (Block.fabTwEffect b).outside P = b.outside P := by
  simp only [List.cons_subset, List.nil_subset, and_true] at hP
  simp [Block.fabTwEffect, hP]

@[simp] theorem fabTwloc_outside {P : List Part} (r : Req) (b : Block) (hP : Part.reply ⊆ P) : (fabTwloc r b).outside P = b.outside P := by
  simp only [List.cons_subset, List.nil_subset, and_true] at hP
  unfold fabTwloc
  refine outside_onReq ?_
  simp [hP]

@[simp] theorem fabWhisk_outside {P : List Part} (r : Req) (b : Block) (hP : (.snap :: Part.reply) ⊆ P) :
    (fabWhisk r b).outside P = b.outside P := by
  simp only [List.cons_subset, List.nil_subset, and_true] at hP
  unfold fabWhisk
  refine outside_onReq ?_
  simp [hP]

@[simp] theorem whiskRx_outside {P : List Part} (b : Block) (hP : (.snap :: Part.reply) ⊆ P) :
    (Block.whiskRx b).outside P = b.outside P := by
  simp only [List.cons_subset, List.nil_subset, and_true] at hP
  unfold Block.whiskRx
  split
  · rfl
  · next m c hm =>
      rw [← take_outside _ _ _ (by simp [hP]) _ hm]
      dsimp only
      have hreply : ∀ l (x : Block), (x.fabSend 3 m.src false false false false (.bytes l)).outside P = x.outside P :=
        fun l x => fabSend_outside _ _ _ _ _ _ _ x (by simp [hP])
      have hraise : ∀ q (u : Int) (x : Block), (x.raise q u).outside P = x.outside P := fun q u x => raise_outside _ _ x (by simp [hP])
      split
      · rw [hreply, hraise]
      · split
        · split <;> rw [hreply, hraise]
        · rw [hreply, hraise, outside_set_snap hP.1]

@[simp] theorem whiskAnswer_outside {P : List Part} (b : Block) (hP : [.fab] ⊆ P) : (Block.whiskAnswer b).outside P = b.outside P := by
  simp only [List.cons_subset, List.nil_subset, and_true] at hP
  unfold Block.whiskAnswer
  split
  · rfl
  · next m c hm =>
      rw [← take_outside _ _ _ (by simp [hP]) _ hm]
      dsimp only
      split <;> simp [hP]

@[simp] theorem whiskEnd_outside {P : List Part} (b : Block) (hP : Part.reply ⊆ P) : (Block.whiskEnd b).outside P = b.outside P := by
  simp only [List.cons_subset, List.nil_subset, and_true] at hP
  unfold Block.whiskEnd
  dsimp only
  simp [hP]

@[simp] theorem sessSend_outside {P : List Part} (peer op level client : Nat) (rest : List Byte) (b : Block) (hP : Part.reply ⊆ P) :
    (Block.sessSend peer op level client rest b).outside P = b.outside P := by
  simp only [List.cons_subset, List.nil_subset, and_true] at hP
  simp [Block.sessSend, hP]

@[simp] theorem takeOp_outside {P : List Part} (op : Nat) (b : Block) (hP : [.fab] ⊆ P) :
    ∀ x, Block.takeOp op b = some x → x.2.outside P = b.outside P := by
  exact take_outside 5 _ b hP

@[simp] theorem sessOpen_outside {P : List Part} (b : Block) (hP : Part.reply ⊆ P) : (Block.sessOpen b).outside P = b.outside P := by
  simp only [List.cons_subset, List.nil_subset, and_true] at hP
  unfold Block.sessOpen
  split
  · rfl
  · next m c hm =>
      rw [← takeOp_outside _ _ (by simp [hP]) _ hm]
      dsimp only
      (repeat' split) <;> simp [hP]

@[simp] theorem callSend_outside {P : List Part} (c : Call) (client : Nat) (b : Block) (hP : Part.reply ⊆ P) :
    (Block.callSend c client b).outside P = b.outside P := by
  simp only [List.cons_subset, List.nil_subset, and_true] at hP
  simp [Block.callSend, hP]

@[simp] theorem sessReply_outside {P : List Part} (b : Block) (hP : Part.reply ⊆ P) : (Block.sessReply b).outside P = b.outside P := by
  simp only [List.cons_subset, List.nil_subset, and_true] at hP
  unfold Block.sessReply
  split
  · rfl
  · next m c hm =>
      rw [← takeOp_outside _ _ (by simp [hP]) _ hm]
      dsimp only
      (repeat' split) <;> simp [hP]

@[simp] theorem sessRequest_outside {P : List Part} (b : Block) (hP : Part.reply ⊆ P) : (Block.sessRequest b).outside P = b.outside P := by
  simp only [List.cons_subset, List.nil_subset, and_true] at hP
  unfold Block.sessRequest
  split
  · rfl
  · next m c hm =>
      rw [← takeOp_outside _ _ (by simp [hP]) _ hm]
      dsimp only
      (repeat' split) <;> simp [hP]

@[simp] theorem sessResponse_outside {P : List Part} (b : Block) (hP : Part.reply ⊆ P) :
    (Block.sessResponse b).outside P = b.outside P := by
  simp only [List.cons_subset, List.nil_subset, and_true] at hP
  unfold Block.sessResponse
  split
  · rfl
  · next m c hm =>
      rw [← takeOp_outside _ _ (by simp [hP]) _ hm]
      dsimp only
      (repeat' split) <;> simp [hP]

@[simp] theorem sessClose_outside {P : List Part} (c : Nat) (b : Block) (hP : (.fab :: Part.event) ⊆ P) :
    (Block.sessClose c b).outside P = b.outside P := by
  simp only [List.cons_subset, List.nil_subset, and_true] at hP
  simp [Block.sessClose, hP]

@[simp] theorem sessCloseRx_outside {P : List Part} (b : Block) (hP : (.fab :: Part.event) ⊆ P) :
    (Block.sessCloseRx b).outside P = b.outside P := by
  simp only [List.cons_subset, List.nil_subset, and_true] at hP
  unfold Block.sessCloseRx
  split
  · rfl
  · next m c hm =>
      rw [← takeOp_outside _ _ (by simp [hP]) _ hm]
      dsimp only
      (repeat' split) <;> simp [hP]

@[simp] theorem sessIdle_outside {P : List Part} (c : Nat) (b : Block) (hP : Part.reply ⊆ P) :
    (Block.sessIdle c b).outside P = b.outside P := by
  simp only [List.cons_subset, List.nil_subset, and_true] at hP
  unfold Block.sessIdle
  split <;> simp [hP]

@[simp] theorem fabCall_outside {P : List Part} (r : Req) (b : Block) (hP : Part.reply ⊆ P) : (fabCall r b).outside P = b.outside P := by
  simp only [List.cons_subset, List.nil_subset, and_true] at hP
  unfold fabCall
  refine outside_onReq ?_
  dsimp only
  (repeat' split) <;> simp [hP]

@[simp] theorem callTimeout_outside {P : List Part} (b : Block) (hP : Part.reply ⊆ P) : (Block.callTimeout b).outside P = b.outside P := by
  simp only [List.cons_subset, List.nil_subset, and_true] at hP
  simp [Block.callTimeout, hP]

@[simp] theorem fabAccess_outside {P : List Part} (r : Req) (b : Block) (hP : Part.reply ⊆ P) :
    (fabAccess r b).outside P = b.outside P := by
  simp only [List.cons_subset, List.nil_subset, and_true] at hP
  unfold fabAccess
  refine outside_onReq ?_
  simp [hP]

@[simp] theorem fabAccessCommit_outside {P : List Part} (r : Req) (b : Block) (hP : Part.reply ⊆ P) :
    (fabAccessCommit r b).outside P = b.outside P := by
  simp only [List.cons_subset, List.nil_subset, and_true] at hP
  simp [fabAccessCommit, hP]

@[simp] theorem fabCfg_outside {P : List Part} (r : Req) (b : Block) (hP : Part.reply ⊆ P) : (fabCfg r b).outside P = b.outside P := by
  simp only [List.cons_subset, List.nil_subset, and_true] at hP
  unfold fabCfg
  refine outside_onReq ?_
  simp [hP]

@[simp] theorem fabCfgCommit_outside {P : List Part} (r : Req) (b : Block) (hP : Part.reply ⊆ P) :
    (fabCfgCommit r b).outside P = b.outside P := by
  simp only [List.cons_subset, List.nil_subset, and_true] at hP
  simp [fabCfgCommit, hP]

@[simp] theorem fabApply_outside {P : List Part} (c : FabCfg) (b : Block) (hP : (.fab :: Part.event) ⊆ P) :
    (Block.fabApply c b).outside P = b.outside P := by
  simp only [List.cons_subset, List.nil_subset, and_true] at hP
  simp [Block.fabApply, hP]

@[simp] theorem fabCfgEffect_outside {P : List Part} (b : Block) (hP : (.fab :: Part.event) ⊆ P) :
    (Block.fabCfgEffect b).outside P = b.outside P := by
  simp only [List.cons_subset, List.nil_subset, and_true] at hP
  simp [Block.fabCfgEffect, hP]

@[simp] theorem fabRouteWrite_outside {P : List Part} (r : Req) (b : Block) (hP : Part.reply ⊆ P) :
    (fabRouteWrite r b).outside P = b.outside P := by
  simp only [List.cons_subset, List.nil_subset, and_true] at hP
  unfold fabRouteWrite
  refine outside_onOp ?_
  simp [hP]

@[simp] theorem fabRouteUnpin_outside {P : List Part} (r : Req) (b : Block) (hP : Part.reply ⊆ P) :
    (fabRouteUnpin r b).outside P = b.outside P := by
  simp only [List.cons_subset, List.nil_subset, and_true] at hP
  unfold fabRouteUnpin
  refine outside_onOp ?_
  simp [hP]

@[simp] theorem fabRouteCommit_outside {P : List Part} (r : Req) (b : Block) (hP : Part.reply ⊆ P) :
    (fabRouteCommit r b).outside P = b.outside P := by
  simp only [List.cons_subset, List.nil_subset, and_true] at hP
  simp [fabRouteCommit, hP]

@[simp] theorem fabRouteRead_outside {P : List Part} (r : Req) (b : Block) (hP : Part.reply ⊆ P) :
    (fabRouteRead r b).outside P = b.outside P := by
  simp only [List.cons_subset, List.nil_subset, and_true] at hP
  unfold fabRouteRead
  refine outside_onOp ?_
  simp [hP]

@[simp] theorem fabInvalidate_outside {P : List Part} (r : Req) (b : Block) (hP : Part.reply ⊆ P) :
    (fabInvalidate r b).outside P = b.outside P := by
  simp only [List.cons_subset, List.nil_subset, and_true] at hP
  unfold fabInvalidate
  refine outside_onReq ?_
  simp [hP]

@[simp] theorem fabNbr_outside {P : List Part} (r : Req) (b : Block) (hP : Part.reply ⊆ P) : (fabNbr r b).outside P = b.outside P := by
  simp only [List.cons_subset, List.nil_subset, and_true] at hP
  unfold fabNbr
  refine outside_onReq ?_
  simp [hP]

@[simp] theorem fabStat_outside {P : List Part} (r : Req) (b : Block) (hP : Part.reply ⊆ P) : (fabStat r b).outside P = b.outside P := by
  simp only [List.cons_subset, List.nil_subset, and_true] at hP
  unfold fabStat
  refine outside_onReq ?_
  simp [hP]

@[simp] theorem fabSig_outside {P : List Part} (r : Req) (b : Block) (hP : Part.reply ⊆ P) : (fabSig r b).outside P = b.outside P := by
  simp only [List.cons_subset, List.nil_subset, and_true] at hP
  unfold fabSig
  refine outside_onReq ?_
  simp [hP]

@[simp] theorem fabSigCommit_outside {P : List Part} (r : Req) (b : Block) (hP : Part.reply ⊆ P) :
    (fabSigCommit r b).outside P = b.outside P := by
  simp only [List.cons_subset, List.nil_subset, and_true] at hP
  simp [fabSigCommit, hP]

/-! ### Frames: Whisk and snapshots -/

@[simp] theorem snapCatch_outside {P : List Part} (b : Block) (hP : [.snap] ⊆ P) : (Block.snapCatch b).outside P = b.outside P := by
  simp only [List.cons_subset, List.nil_subset, and_true] at hP
  simp [Block.snapCatch, hP]

@[simp] theorem whisk_outside {P : List Part} (source : Nat) (timed : Bool) (b : Block) (hP : (.dist :: .snap :: Part.event) ⊆ P) :
    (Block.whisk source timed b).outside P = b.outside P := by
  simp only [List.cons_subset, List.nil_subset, and_true] at hP
  unfold Block.whisk
  dsimp only
  split <;> simp [hP]

@[simp] theorem fireAnswer_outside {P : List Part} (r : Req) (b : Block) (hP : Part.reply ⊆ P) :
    (Block.fireAnswer r b).outside P = b.outside P := by
  simp only [List.cons_subset, List.nil_subset, and_true] at hP
  simp [Block.fireAnswer, hP]

@[simp] theorem disarm_outside {P : List Part} (b : Block) (hP : (.snap :: Part.reply) ⊆ P) : (Block.disarm b).outside P = b.outside P := by
  simp only [List.cons_subset, List.nil_subset, and_true] at hP
  unfold Block.disarm
  dsimp only
  (repeat' split) <;> simp [hP]

@[simp] theorem whiskCtrl_outside {P : List Part} (v : Word) (b : Block) (hP : (.dist :: .snap :: Part.reply) ⊆ P) :
    (Block.whiskCtrl v b).outside P = b.outside P := by
  simp only [List.cons_subset, List.nil_subset, and_true] at hP
  unfold Block.whiskCtrl
  dsimp only
  (repeat' split) <;> simp [hP]

@[simp] theorem whiskAt_outside {P : List Part} (hi : Bool) (v : Word) (b : Block) (hP : [.snap] ⊆ P) :
    (Block.whiskAt hi v b).outside P = b.outside P := by
  simp only [List.cons_subset, List.nil_subset, and_true] at hP
  simp [Block.whiskAt, hP]

@[simp] theorem whiskPin_outside {P : List Part} (b : Block) (hP : (.dist :: .snap :: Part.event) ⊆ P) :
    (Block.whiskPin b).outside P = b.outside P := by
  simp only [List.cons_subset, List.nil_subset, and_true] at hP
  simp [Block.whiskPin, hP]

@[simp] theorem whiskFire_outside {P : List Part} (b : Block) (hP : (.dist :: .snap :: Part.reply) ⊆ P) :
    (Block.whiskFire b).outside P = b.outside P := by
  simp only [List.cons_subset, List.nil_subset, and_true] at hP
  unfold Block.whiskFire
  dsimp only
  (repeat' split) <;> simp [hP]

@[simp] theorem whiskOutEnd_outside {P : List Part} (b : Block) (hP : [.snap] ⊆ P) : (Block.whiskOutEnd b).outside P = b.outside P := by
  simp only [List.cons_subset, List.nil_subset, and_true] at hP
  unfold Block.whiskOutEnd
  split <;> simp [hP]

@[simp] theorem snapData_outside {P : List Part} (r : Req) (b : Block) (hP : (.snap :: Part.reply) ⊆ P) :
    (Block.snapData r b).outside P = b.outside P := by
  simp only [List.cons_subset, List.nil_subset, and_true] at hP
  simp [Block.snapData, hP]

@[simp] theorem snapServe_outside {P : List Part} (l : List Req) (b : Block) (hP : (.snap :: Part.reply) ⊆ P) :
    (Block.snapServe l b).outside P = b.outside P := by
  induction l generalizing b with
  | nil => rfl
  | cons r t ih =>
    rw [Block.snapServe, ih _]
    simp only [List.cons_subset, List.nil_subset, and_true] at hP
    split <;> simp [hP]

@[simp] theorem snapComplete_outside {P : List Part} (b : Block) (hP : (.snap :: Part.reply) ⊆ P) :
    (Block.snapComplete b).outside P = b.outside P := by
  simp only [List.cons_subset, List.nil_subset, and_true] at hP
  simp [Block.snapComplete, hP]

@[simp] theorem snapInfo_outside {P : List Part} (r : Req) (b : Block) (hP : Part.reply ⊆ P) : (snapInfo r b).outside P = b.outside P := by
  simp only [List.cons_subset, List.nil_subset, and_true] at hP
  unfold snapInfo
  refine outside_onReq ?_
  simp [hP]

@[simp] theorem snapRead_outside {P : List Part} (r : Req) (b : Block) (hP : (.snap :: Part.reply) ⊆ P) :
    (snapRead r b).outside P = b.outside P := by
  simp only [List.cons_subset, List.nil_subset, and_true] at hP
  unfold snapRead
  refine outside_onReq ?_
  split <;> simp [hP]

@[simp] theorem snapRelease_outside {P : List Part} (r : Req) (b : Block) (hP : (.snap :: Part.reply) ⊆ P) :
    (snapRelease r b).outside P = b.outside P := by
  simp only [List.cons_subset, List.nil_subset, and_true] at hP
  unfold snapRelease
  refine outside_onReq ?_
  split <;> simp [hP]

@[simp] theorem snapFire_outside {P : List Part} (r : Req) (b : Block) (hP : (.dist :: .snap :: Part.reply) ⊆ P) :
    (snapFire r b).outside P = b.outside P := by
  simp only [List.cons_subset, List.nil_subset, and_true] at hP
  unfold snapFire
  refine outside_onReq ?_
  simp [hP]

/-! ### Frames: Registers and requests -/

@[simp] theorem updClient_outside {P : List Part} (c : Nat) (f : Client → Client) (b : Block) (hP : [.mbx] ⊆ P) :
    (Block.updClient c f b).outside P = b.outside P := by
  simp only [List.cons_subset, List.nil_subset, and_true] at hP
  unfold Block.updClient
  dsimp only
  simp [hP]

@[simp] theorem cancelClient_outside {P : List Part} (c : Nat) (b : Block) (hP : [.mbx, .acc, .lgc, .fab, .snap] ⊆ P) :
    (Block.cancelClient c b).outside P = b.outside P := by
  simp only [List.cons_subset, List.nil_subset, and_true] at hP
  unfold Block.cancelClient
  dsimp only
  simp [hP]

@[simp] theorem ringReset_outside {P : List Part} (c : Nat) (b : Block) (hP : [.mbx, .acc, .lgc, .fab, .snap] ⊆ P) :
    (Block.ringReset c b).outside P = b.outside P := by
  simp only [List.cons_subset, List.nil_subset, and_true] at hP
  simp [Block.ringReset, hP]

@[simp] theorem ringRst_outside {P : List Part} (c : Nat) (b : Block) (hP : (.acc :: .lgc :: .fab :: .snap :: Part.event) ⊆ P) :
    (Block.ringRst c b).outside P = b.outside P := by
  simp only [List.cons_subset, List.nil_subset, and_true] at hP
  simp [Block.ringRst, hP]

@[simp] theorem ringDone_outside {P : List Part} (c : Nat) (b : Block) (hP : [.mbx] ⊆ P) :
    (Block.ringDone c b).outside P = b.outside P := by
  simp only [List.cons_subset, List.nil_subset, and_true] at hP
  simp [Block.ringDone, hP]

@[simp] theorem doorbell_outside {P : List Part} (c : Nat) (v : Word) (b : Block) (hP : (.acc :: .lgc :: .fab :: .snap :: Part.event) ⊆ P) :
    (Block.doorbell c v b).outside P = b.outside P := by
  simp only [List.cons_subset, List.nil_subset, and_true] at hP
  simp [Block.doorbell, hP]

@[simp] theorem ringRoom_outside {P : List Part} (c : Nat) (b : Block) (hP : [.mbx] ⊆ P) :
    (Block.ringRoom c b).outside P = b.outside P := by
  simp only [List.cons_subset, List.nil_subset, and_true] at hP
  simp [Block.ringRoom, hP]

@[simp] theorem vecWrite_outside {P : List Part} (v : Nat) (w : Word) (b : Block) (hP : [.mbx] ⊆ P) :
    (Block.vecWrite v w b).outside P = b.outside P := by
  simp only [List.cons_subset, List.nil_subset, and_true] at hP
  simp [Block.vecWrite, hP]

@[simp] theorem vecSignal_outside {P : List Part} (v : Nat) (b : Block) (hP : [.mbx] ⊆ P) :
    (Block.vecSignal v b).outside P = b.outside P := by
  simp only [List.cons_subset, List.nil_subset, and_true] at hP
  simp [Block.vecSignal, hP]

@[simp] theorem bar0Read_outside {P : List Part} (tongs : Bool) (o : Nat) (b : Block) (hP : [.time, .mbx] ⊆ P) :
    (Block.bar0Read tongs o b).1.outside P = b.outside P := by
  simp only [List.cons_subset, List.nil_subset, and_true] at hP
  unfold Block.bar0Read
  dsimp only
  (repeat' split) <;> simp [hP]

@[simp] theorem bar2Write_outside {P : List Part} (a : Nat) (p : List Byte) (b : Block) (hP : [.mbx] ⊆ P) :
    (Block.bar2Write a p b).outside P = b.outside P := by
  induction p generalizing a b with
  | nil => rfl
  | cons v t ih =>
    rw [Block.bar2Write, ih]
    simp only [List.cons_subset, List.nil_subset, and_true] at hP
    split <;> simp [hP]

@[simp] theorem bar0Write_outside {P : List Part} (o : Nat) (v : Word) (b : Block)
    (hP : (.acc :: .lgc :: .dist :: .snap :: Part.reply) ⊆ P) :
    (Block.bar0Write o v b).outside P = b.outside P := by
  simp only [List.cons_subset, List.nil_subset, and_true] at hP
  simp [Block.bar0Write, hP]

@[simp] theorem timWrite_outside {P : List Part} (o : Nat) (v : Word) (b : Block) (hP : (.time :: .cnv :: Part.event) ⊆ P) :
    (Block.timWrite o v b).outside P = b.outside P := by
  simp only [List.cons_subset, List.nil_subset, and_true] at hP
  unfold Block.timWrite
  split <;> simp [hP]

@[simp] theorem fldWrite_outside {P : List Part} (o : Nat) (v : Word) (b : Block) (hP : [.bar] ⊆ P) :
    (Block.fldWrite o v b).outside P = b.outside P := by
  simp only [List.cons_subset, List.nil_subset, and_true] at hP
  unfold Block.fldWrite
  split <;> simp [hP]

@[simp] theorem regWrite_outside {P : List Part} (sp : RegSpace) (o : Nat) (v : Word) (b : Block)
    (hP : (.cnv :: .acc :: .bar :: .lgc :: .dist :: .snap :: Part.reply) ⊆ P) :
    (Block.regWrite sp o v b).outside P = b.outside P := by
  simp only [List.cons_subset, List.nil_subset, and_true] at hP
  unfold Block.regWrite
  dsimp only
  (repeat' split) <;> simp [hP]

@[simp] theorem accessError_outside {P : List Part} (b : Block) (hP : Part.event ⊆ P) : (Block.accessError b).outside P = b.outside P := by
  simp only [List.cons_subset, List.nil_subset, and_true] at hP
  simp [Block.accessError, hP]

@[simp] theorem readWords_outside {P : List Part} (bar2 : Bool) (o n : Nat) (b : Block) (hP : [.time, .mbx] ⊆ P) :
    (Block.readWords bar2 o n b).1.outside P = b.outside P := by
  induction n generalizing o b with
  | zero => rfl
  | succ k ih =>
    rw [Block.readWords]
    dsimp only
    rw [ih]
    simp only [List.cons_subset, List.nil_subset, and_true] at hP
    split <;> simp [hP]

@[simp] theorem writeWords_outside {P : List Part} (bar2 : Bool) (o : Nat) (l : List Word) (b : Block)
    (hP : (.acc :: .lgc :: .dist :: .snap :: Part.reply) ⊆ P) :
    (Block.writeWords bar2 o l b).outside P = b.outside P := by
  induction l generalizing o b with
  | nil => rfl
  | cons v t ih =>
    rw [Block.writeWords, ih]
    simp only [List.cons_subset, List.nil_subset, and_true] at hP
    split <;> simp [hP]

@[simp] theorem qspiRead_outside {P : List Part} (a n : Nat) (cut : Bool) (b : Block) (hP : (.time :: Part.event) ⊆ P) :
    (Block.qspiRead a n cut b).outside P = b.outside P := by
  simp only [List.cons_subset, List.nil_subset, and_true] at hP
  simp [Block.qspiRead, hP]

@[simp] theorem qspiWrite_outside {P : List Part} (a : Nat) (l : List Word) (cut : Bool) (b : Block)
    (hP : (.acc :: .lgc :: .dist :: .snap :: Part.reply) ⊆ P) :
    (Block.qspiWrite a l cut b).outside P = b.outside P := by
  simp only [List.cons_subset, List.nil_subset, and_true] at hP
  simp [Block.qspiWrite, hP]

@[simp] theorem qspiStatus_outside {P : List Part} (b : Block) (hP : [.mbx] ⊆ P) : (Block.qspiStatus b).outside P = b.outside P := by
  simp only [List.cons_subset, List.nil_subset, and_true] at hP
  simp [Block.qspiStatus, hP]

@[simp] theorem perst_outside {P : List Part} (b : Block) (hP : (.acc :: .lgc :: .fab :: .snap :: Part.event) ⊆ P) :
    (Block.perst b).outside P = b.outside P := by
  simp only [List.cons_subset, List.nil_subset, and_true] at hP
  simp [Block.perst, hP]

@[simp] theorem linkState_outside {P : List Part} (up : Bool) (speed width : Nat) (b : Block) (hP : Part.event ⊆ P) :
    (Block.linkState up speed width b).outside P = b.outside P := by
  simp only [List.cons_subset, List.nil_subset, and_true] at hP
  simp [Block.linkState, hP]

@[simp] theorem acceptMsg_outside {P : List Part} (c : Nat) (m : List Byte) (b : Block) (hP : Part.reply ⊆ P) :
    (Block.acceptMsg c m b).outside P = b.outside P := by
  simp only [List.cons_subset, List.nil_subset, and_true] at hP
  unfold Block.acceptMsg
  split <;> simp [hP]

@[simp] theorem takeReq_outside {P : List Part} (fuel c : Nat) (b : Block) (hP : Part.reply ⊆ P) :
    (Block.takeReq fuel c b).outside P = b.outside P := by
  induction fuel generalizing b with
  | zero =>
    simp only [List.cons_subset, List.nil_subset, and_true] at hP
    unfold Block.takeReq
    dsimp only
    split
    · split
      · rfl
      · simp [hP]
      · simp
      · next _ _ hf => exact absurd hf (by simp)
      · simp [hP]
    · (repeat' split) <;> simp [hP]
  | succ n ih =>
    have hQ := hP
    simp only [List.cons_subset, List.nil_subset, and_true] at hQ
    unfold Block.takeReq
    dsimp only
    split
    · split
      · rfl
      · simp [hQ]
      · simp
      · next f _ hf =>
        obtain rfl := Nat.succ.inj hf
        rw [ih]
        simp [hQ]
      · simp [hQ]
    · (repeat' split) <;> simp [hQ]

@[simp] theorem requestAccept_outside {P : List Part} (b : Block) (hP : Part.reply ⊆ P) :
    (Block.requestAccept b).outside P = b.outside P := by
  simp only [List.cons_subset, List.nil_subset, and_true] at hP
  unfold Block.requestAccept
  dsimp only
  (repeat' split) <;> simp [hP]

/-! ### Frames: Debug access -/

@[simp] theorem halt_outside {P : List Part} (p : Nat) (r : Option Req) (b : Block) (hP : (.lgc :: Part.reply) ⊆ P) :
    (Block.halt p r b).outside P = b.outside P := by
  simp only [List.cons_subset, List.nil_subset, and_true] at hP
  simp [Block.halt, hP]

@[simp] theorem stepPair_outside {P : List Part} (p : Nat) (r : Option Req) (b : Block) (hP : (.lgc :: Part.reply) ⊆ P) :
    (Block.stepPair p r b).outside P = b.outside P := by
  simp only [List.cons_subset, List.nil_subset, and_true] at hP
  simp [Block.stepPair, hP]

@[simp] theorem resumePair_outside {P : List Part} (p : Nat) (b : Block) (hP : [.lgc] ⊆ P) :
    (Block.resumePair p b).outside P = b.outside P := by
  simp only [List.cons_subset, List.nil_subset, and_true] at hP
  simp [Block.resumePair, hP]

@[simp] theorem breakpoint_outside {P : List Part} (p i off : Nat) (b : Block) (hP : [.lgc] ⊆ P) :
    (Block.breakpoint p i off b).outside P = b.outside P := by
  simp only [List.cons_subset, List.nil_subset, and_true] at hP
  simp [Block.breakpoint, hP]

@[simp] theorem haltRefused_outside {P : List Part} (p : Nat) (b : Block) (hP : Part.event ⊆ P) :
    (Block.haltRefused p b).outside P = b.outside P := by
  simp only [List.cons_subset, List.nil_subset, and_true] at hP
  simp [Block.haltRefused, hP]

@[simp] theorem diagHalt_outside {P : List Part} (mine : Nat → Bool) (r : Req) (go : Nat → Block → Block) (b : Block)
    (hP : Part.reply ⊆ P) (hg : ∀ p c, (go p c).outside P = c.outside P) :
    (diagHalt mine r go b).outside P = b.outside P := by
  simp only [List.cons_subset, List.nil_subset, and_true] at hP
  unfold diagHalt
  refine outside_onOp ?_
  dsimp only
  (repeat' split) <;> simp [hP, hg]

@[simp] theorem diagHaltOp_outside {P : List Part} (r : Req) (b : Block) (hP : (.lgc :: Part.reply) ⊆ P) :
    (diagHaltOp r b).outside P = b.outside P := by
  simp only [List.cons_subset, List.nil_subset, and_true] at hP
  simp [diagHaltOp, hP]

@[simp] theorem diagStep_outside {P : List Part} (r : Req) (b : Block) (hP : (.lgc :: Part.reply) ⊆ P) :
    (diagStep r b).outside P = b.outside P := by
  simp only [List.cons_subset, List.nil_subset, and_true] at hP
  simp [diagStep, hP]

@[simp] theorem diagResume_outside {P : List Part} (r : Req) (b : Block) (hP : (.lgc :: Part.reply) ⊆ P) :
    (diagResume r b).outside P = b.outside P := by
  simp only [List.cons_subset, List.nil_subset, and_true] at hP
  simp [diagResume, hP]

@[simp] theorem diagBreakpoint_outside {P : List Part} (r : Req) (b : Block) (hP : (.lgc :: Part.reply) ⊆ P) :
    (diagBreakpoint r b).outside P = b.outside P := by
  simp only [List.cons_subset, List.nil_subset, and_true] at hP
  simp [diagBreakpoint, hP]

@[simp] theorem diagShadow_outside {P : List Part} (r : Req) (b : Block) (hP : (.lgc :: Part.reply) ⊆ P) :
    (diagShadow r b).outside P = b.outside P := by
  simp only [List.cons_subset, List.nil_subset, and_true] at hP
  unfold diagShadow
  refine outside_onReq ?_
  dsimp only
  (repeat' split) <;> simp [hP]

@[simp] theorem tongs_outside {P : List Part} (a : Nat) (b : Block) (hP : [.time, .mbx, .bar] ⊆ P) :
    ∀ x, Block.tongs a b = some x → x.1.outside P = b.outside P := by
  simp only [List.cons_subset, List.nil_subset, and_true] at hP
  unfold Block.tongs
  dsimp only
  (repeat' split) <;> simp [hP]

@[simp] theorem tongsRun_outside {P : List Part} (a n : Nat) (b : Block) (hP : [.time, .mbx, .bar] ⊆ P) :
    ∀ x, Block.tongsRun a n b = some x → x.1.outside P = b.outside P := by
  induction n generalizing a b with
  | zero => rintro x ⟨⟩; rfl
  | succ k ih =>
    intro x h
    rw [Block.tongsRun] at h
    split at h
    · exact absurd h (by simp)
    · next c v hv =>
      obtain ⟨y, hy, rfl⟩ := Option.map_eq_some_iff.mp h
      exact (ih _ _ _ hy).trans (tongs_outside _ _ hP _ hv)

@[simp] theorem diagTongs_outside {P : List Part} (r : Req) (b : Block) (hP : (.bar :: Part.reply) ⊆ P) :
    (diagTongs r b).outside P = b.outside P := by
  simp only [List.cons_subset, List.nil_subset, and_true] at hP
  unfold diagTongs
  refine outside_onReq ?_
  dsimp only
  split
  · simp [hP]
  · split
    · next x hx =>
      rw [ok_outside _ _ _ (by simp [hP]), tongsRun_outside _ _ _ (by simp [hP]) _ hx]
    · simp [hP]

@[simp] theorem diagDebug_outside {P : List Part} (r : Req) (b : Block) (hP : (.snap :: Part.reply) ⊆ P) :
    (diagDebug r b).outside P = b.outside P := by
  simp only [List.cons_subset, List.nil_subset, and_true] at hP
  unfold diagDebug
  refine outside_onReq ?_
  simp [hP]

@[simp] theorem dbgErr_outside {P : List Part} (b : Block) (hP : [.snap] ⊆ P) : (Block.dbgErr b).outside P = b.outside P := by
  simp only [List.cons_subset, List.nil_subset, and_true] at hP
  simp [Block.dbgErr, hP]

@[simp] theorem dbgWrite_outside {P : List Part} (a : Nat) (w : Word) (b : Block) (hP : (.lgc :: .snap :: Part.reply) ⊆ P) :
    (Block.dbgWrite a w b).outside P = b.outside P := by
  simp only [List.cons_subset, List.nil_subset, and_true] at hP
  unfold Block.dbgWrite
  dsimp only
  (repeat' split) <;> simp [hP]

@[simp] theorem dbgAccess_outside {P : List Part} (a : Nat) (write : Bool) (w : Word) (b : Block)
    (hP : (.bar :: .lgc :: .snap :: Part.reply) ⊆ P) :
    (Block.dbgAccess a write w b).outside P = b.outside P := by
  simp only [List.cons_subset, List.nil_subset, and_true] at hP
  unfold Block.dbgAccess
  split
  · simp [hP]
  · split
    · simp [hP]
    · split
      · next c v hv =>
        rw [← tongs_outside _ _ (by simp [hP]) _ hv]
        simp [hP]
      · simp [hP]

@[simp] theorem diagCtx_outside {P : List Part} (r : Req) (b : Block) (hP : Part.reply ⊆ P) : (diagCtx r b).outside P = b.outside P := by
  simp only [List.cons_subset, List.nil_subset, and_true] at hP
  unfold diagCtx
  refine outside_onReq ?_
  simp [hP]

@[simp] theorem diagRoute_outside {P : List Part} (r : Req) (b : Block) (hP : Part.reply ⊆ P) :
    (diagRoute r b).outside P = b.outside P := by
  simp only [List.cons_subset, List.nil_subset, and_true] at hP
  unfold diagRoute
  refine outside_onReq ?_
  simp [hP]

@[simp] theorem routeCommit_outside {P : List Part} (r : Req) (b : Block) (hP : Part.reply ⊆ P) :
    (routeCommit r b).outside P = b.outside P := by
  simp only [List.cons_subset, List.nil_subset, and_true] at hP
  simp [routeCommit, hP]

@[simp] theorem routeEffect_outside {P : List Part} (b : Block) (hP : [.mbx] ⊆ P) : (routeEffect b).outside P = b.outside P := by
  simp only [List.cons_subset, List.nil_subset, and_true] at hP
  simp [routeEffect, hP]

@[simp] theorem diagFaults_outside {P : List Part} (r : Req) (b : Block) (hP : Part.reply ⊆ P) :
    (diagFaults r b).outside P = b.outside P := by
  simp only [List.cons_subset, List.nil_subset, and_true] at hP
  unfold diagFaults
  refine outside_onReq ?_
  simp [hP]

/-! ### Frames: Event recorder -/

@[simp] theorem refill_outside {P : List Part} (b : Block) (hP : [.evr] ⊆ P) : (Block.refill b).outside P = b.outside P := by
  simp only [List.cons_subset, List.nil_subset, and_true] at hP
  simp [Block.refill, hP]

@[simp] theorem recStart_outside {P : List Part} (b : Block) (hP : [.nv, .evr] ⊆ P) : (Block.recStart b).outside P = b.outside P := by
  simp only [List.cons_subset, List.nil_subset, and_true] at hP
  simp [Block.recStart, hP]

@[simp] theorem newInterval_outside {P : List Part} (b : Block) (hP : [.evr] ⊆ P) : (Block.newInterval b).outside P = b.outside P := by
  simp only [List.cons_subset, List.nil_subset, and_true] at hP
  unfold Block.newInterval
  dsimp only
  simp [hP]

@[simp] theorem hourly_outside {P : List Part} (b : Block) (hP : [.nv, .evr] ⊆ P) : (Block.hourly b).outside P = b.outside P := by
  simp only [List.cons_subset, List.nil_subset, and_true] at hP
  simp [Block.hourly, hP]

@[simp] theorem summaryDone_outside {P : List Part} (r : SumRec) (b : Block) (hP : [.nv] ⊆ P) :
    (Block.summaryDone r b).outside P = b.outside P := by
  simp only [List.cons_subset, List.nil_subset, and_true] at hP
  simp [Block.summaryDone, hP]

@[simp] theorem summaryLost_outside {P : List Part} (r : SumRec) (b : Block) (hP : [.nv, .evr] ⊆ P) :
    (Block.summaryLost r b).outside P = b.outside P := by
  simp only [List.cons_subset, List.nil_subset, and_true] at hP
  simp [Block.summaryLost, hP]

@[simp] theorem recNotes_outside {P : List Part} (r : Req) (b : Block) (hP : Part.reply ⊆ P) : (recNotes r b).outside P = b.outside P := by
  simp only [List.cons_subset, List.nil_subset, and_true] at hP
  unfold recNotes
  refine outside_onReq ?_
  simp [hP]

@[simp] theorem recCode_outside {P : List Part} (r : Req) (b : Block) (hP : Part.reply ⊆ P) : (recCode r b).outside P = b.outside P := by
  simp only [List.cons_subset, List.nil_subset, and_true] at hP
  unfold recCode
  refine outside_onReq ?_
  simp [hP]

@[simp] theorem recIndex_outside {P : List Part} (r : Req) (b : Block) (hP : Part.reply ⊆ P) : (recIndex r b).outside P = b.outside P := by
  simp only [List.cons_subset, List.nil_subset, and_true] at hP
  unfold recIndex
  refine outside_onReq ?_
  simp [hP]

@[simp] theorem recCfg_outside {P : List Part} (r : Req) (b : Block) (hP : Part.reply ⊆ P) : (recCfg r b).outside P = b.outside P := by
  simp only [List.cons_subset, List.nil_subset, and_true] at hP
  unfold recCfg
  refine outside_onReq ?_
  simp [hP]

@[simp] theorem recCfgCommit_outside {P : List Part} (r : Req) (b : Block) (hP : Part.reply ⊆ P) :
    (recCfgCommit r b).outside P = b.outside P := by
  simp only [List.cons_subset, List.nil_subset, and_true] at hP
  simp [recCfgCommit, hP]

@[simp] theorem recCfgEffect_outside {P : List Part} (b : Block) (hP : [.evr] ⊆ P) : (recCfgEffect b).outside P = b.outside P := by
  simp only [List.cons_subset, List.nil_subset, and_true] at hP
  simp [recCfgEffect, hP]

/-! ### Frames: Flash, staging and update -/

@[simp] theorem retire_outside {P : List Part} (dev area sector : Nat) (b : Block) (hP : Part.event ⊆ P) :
    (Block.retire dev area sector b).outside P = b.outside P := by
  simp only [List.cons_subset, List.nil_subset, and_true] at hP
  unfold Block.retire
  dsimp only
  (repeat' split) <;> simp [hP]

@[simp] theorem erased_outside {P : List Part} (dev sector : Nat) (ok : Bool) (b : Block) (hP : (.sys :: .flt :: Part.event) ⊆ P) :
    (Block.erased dev sector ok b).outside P = b.outside P := by
  simp only [List.cons_subset, List.nil_subset, and_true] at hP
  unfold Block.erased
  split <;> simp [hP]

@[simp] theorem chainSend_outside {P : List Part} (i : Nat) (b : Block) (hP : Part.reply ⊆ P) :
    (Block.chainSend i b).outside P = b.outside P := by
  simp only [List.cons_subset, List.nil_subset, and_true] at hP
  simp [Block.chainSend, hP]

@[simp] theorem chainBreak_outside {P : List Part} (b : Block) (hP : Part.event ⊆ P) : (Block.chainBreak b).outside P = b.outside P := by
  simp only [List.cons_subset, List.nil_subset, and_true] at hP
  simp [Block.chainBreak, hP]

@[simp] theorem chainPump_outside {P : List Part} (fuel : Nat) (b : Block) (hP : Part.reply ⊆ P) :
    (Block.chainPump fuel b).outside P = b.outside P := by
  induction fuel generalizing b with
  | zero => rfl
  | succ n ih =>
    have hQ := hP
    simp only [List.cons_subset, List.nil_subset, and_true] at hQ
    unfold Block.chainPump
    dsimp only
    split
    · rfl
    · split
      · split <;> simp [hQ]
      · split
        · split
          · simp [hQ]
          · rw [ih]
            simp [hQ]
        · rfl

@[simp] theorem chainGo_outside {P : List Part} (b : Block) (hP : Part.reply ⊆ P) : (Block.chainGo b).outside P = b.outside P := by
  simp only [List.cons_subset, List.nil_subset, and_true] at hP
  simp [Block.chainGo, hP]

@[simp] theorem chainAnew_outside {P : List Part} (b : Block) (hP : Part.reply ⊆ P) : (Block.chainAnew b).outside P = b.outside P := by
  simp only [List.cons_subset, List.nil_subset, and_true] at hP
  simp [Block.chainAnew, hP]

@[simp] theorem chainAck_outside {P : List Part} (peer st : Nat) (b : Block) (hP : Part.reply ⊆ P) :
    (Block.chainAck peer st b).outside P = b.outside P := by
  simp only [List.cons_subset, List.nil_subset, and_true] at hP
  simp [Block.chainAck, hP]

@[simp] theorem begin_outside {P : List Part} (resume : Bool) (p : List Byte) (b : Block) (hP : (.sys :: .flt :: Part.reply) ⊆ P) :
    (Block.begin resume p b).2.outside P = b.outside P := by
  simp only [List.cons_subset, List.nil_subset, and_true] at hP
  unfold Block.begin
  dsimp only
  (repeat' split) <;> simp [hP]

@[simp] theorem stageEnd_outside {P : List Part} (b : Block) (hP : [.nv] ⊆ P) : (Block.stageEnd b).outside P = b.outside P := by
  simp only [List.cons_subset, List.nil_subset, and_true] at hP
  simp [Block.stageEnd, hP]

@[simp] theorem takeRecord_outside {P : List Part} (i : Nat) (d : List Byte) (ack : Option Nat) (b : Block) (hP : Part.event ⊆ P) :
    (Block.takeRecord i d ack b).2.outside P = b.outside P := by
  simp only [List.cons_subset, List.nil_subset, and_true] at hP
  unfold Block.takeRecord
  dsimp only
  split <;> simp [hP]

@[simp] theorem recordDone_outside {P : List Part} (i : Nat) (d : List Byte) (ack : Option Nat) (st : Nat) (b : Block)
    (hP : Part.reply ⊆ P) :
    (Block.recordDone i d ack st b).outside P = b.outside P := by
  simp only [List.cons_subset, List.nil_subset, and_true] at hP
  unfold Block.recordDone
  dsimp only
  (repeat' split) <;> simp [hP]

@[simp] theorem chainStart_outside {P : List Part} (b : Block) (hP : (.sys :: .flt :: Part.reply) ⊆ P) :
    (Block.chainStart b).outside P = b.outside P := by
  simp only [List.cons_subset, List.nil_subset, and_true] at hP
  unfold Block.chainStart
  split
  · rfl
  · next m c hm =>
      rw [← take_outside _ _ _ (by simp [hP]) _ hm]
      simp [hP]

@[simp] theorem chainData_outside {P : List Part} (b : Block) (hP : Part.reply ⊆ P) : (Block.chainData b).outside P = b.outside P := by
  simp only [List.cons_subset, List.nil_subset, and_true] at hP
  unfold Block.chainData
  split
  · rfl
  · next m c hm =>
      rw [← take_outside _ _ _ (by simp [hP]) _ hm]
      dsimp only
      (repeat' split) <;> simp [hP]

@[simp] theorem chainAcked_outside {P : List Part} (b : Block) (hP : Part.reply ⊆ P) : (Block.chainAcked b).outside P = b.outside P := by
  simp only [List.cons_subset, List.nil_subset, and_true] at hP
  unfold Block.chainAcked
  split
  · rfl
  · next m c hm =>
      rw [← take_outside _ _ _ (by simp [hP]) _ hm]
      dsimp only
      (repeat' split) <;> simp [hP]

@[simp] theorem chainResend_outside {P : List Part} (b : Block) (hP : Part.reply ⊆ P) : (Block.chainResend b).outside P = b.outside P := by
  simp only [List.cons_subset, List.nil_subset, and_true] at hP
  simp [Block.chainResend, hP]

@[simp] theorem eraseDone_outside {P : List Part} (dev sector : Nat) (ok : Bool) (b : Block) (hP : (.sys :: .flt :: Part.event) ⊆ P) :
    (Block.eraseDone dev sector ok b).outside P = b.outside P := by
  simp only [List.cons_subset, List.nil_subset, and_true] at hP
  simp [Block.eraseDone, hP]

@[simp] theorem compact_outside {P : List Part} (prot : Bool) (copy : Nat) (sectors : List Nat) (b : Block)
    (hP : (.sys :: .flt :: Part.event) ⊆ P) :
    (Block.compact prot copy sectors b).outside P = b.outside P := by
  simp only [List.cons_subset, List.nil_subset, and_true] at hP
  simp [Block.compact, hP]

@[simp] theorem clientCommit_outside {P : List Part} (r : Req) (b : Block) (hP : Part.reply ⊆ P) :
    (clientCommit r b).outside P = b.outside P := by
  simp only [List.cons_subset, List.nil_subset, and_true] at hP
  simp [clientCommit, hP]

@[simp] theorem chainCommit_outside {P : List Part} (r : Req) (b : Block) (hP : Part.reply ⊆ P) :
    (chainCommit r b).outside P = b.outside P := by
  simp only [List.cons_subset, List.nil_subset, and_true] at hP
  simp [chainCommit, hP]

@[simp] theorem append_outside {P : List Part} (copy : Nat) (prot : Bool) (rid : Nat) (r : Req) (b : Block) (hP : [.nv] ⊆ P) :
    (Block.append copy prot rid r b).outside P = b.outside P := by
  simp only [List.cons_subset, List.nil_subset, and_true] at hP
  unfold Block.append
  dsimp only
  split <;> simp [hP]

@[simp] theorem journalled_outside {P : List Part} (prot : Bool) (rid : Nat) (r : Req) (b : Block)
    (hP : (.cnv :: .acc :: .bar :: .wheel :: .elm :: .lgc :: .dist :: Part.reply) ⊆ P) :
    (Block.journalled prot rid r b).outside P = b.outside P := by
  simp only [List.cons_subset, List.nil_subset, and_true] at hP
  unfold Block.journalled
  dsimp only
  split <;> simp [hP]

@[simp] theorem journalLost_outside {P : List Part} (rid st : Nat) (r : Req) (b : Block) (hP : (.lgc :: Part.reply) ⊆ P) :
    (Block.journalLost rid st r b).outside P = b.outside P := by
  simp only [List.cons_subset, List.nil_subset, and_true] at hP
  simp [Block.journalLost, hP]

@[simp] theorem flashRes_outside {P : List Part} (area : Nat) (res : FlashRes) (b : Block) (hP : (.sys :: .flt :: Part.event) ⊆ P) :
    (Block.flashRes area res b).outside P = b.outside P := by
  simp only [List.cons_subset, List.nil_subset, and_true] at hP
  unfold Block.flashRes
  split <;> simp [hP]

@[simp] theorem putJob_outside {P : List Part} (j : FJob) (n : Option FJob) (b : Block) (hP : [.nv] ⊆ P) :
    (Block.putJob j n b).outside P = b.outside P := by
  simp only [List.cons_subset, List.nil_subset, and_true] at hP
  simp [Block.putJob, hP]

@[simp] theorem jobDone_outside {P : List Part} (j : FJob) (st : Nat) (b : Block)
    (hP : (.sys :: .flt :: .cnv :: .acc :: .bs :: .bar :: .wheel :: .elm :: .lgc :: .dist :: Part.reply) ⊆ P) :
    (Block.jobDone j st b).outside P = b.outside P := by
  simp only [List.cons_subset, List.nil_subset, and_true] at hP
  unfold Block.jobDone
  dsimp only
  split <;> (repeat' split) <;> simp [hP]

@[simp] theorem flashDone_outside {P : List Part} (res : FlashRes) (b : Block)
    (hP : (.sys :: .flt :: .cnv :: .acc :: .bs :: .bar :: .wheel :: .elm :: .lgc :: .dist :: Part.reply) ⊆ P) :
    (Block.flashDone res b).outside P = b.outside P := by
  simp only [List.cons_subset, List.nil_subset, and_true] at hP
  unfold Block.flashDone
  split <;> simp [hP]

@[simp] theorem updBegin_outside {P : List Part} (r : Req) (b : Block) (hP : (.sys :: .flt :: Part.reply) ⊆ P) :
    (updBegin r b).outside P = b.outside P := by
  simp only [List.cons_subset, List.nil_subset, and_true] at hP
  unfold updBegin
  refine outside_onReq ?_
  simp [hP]

@[simp] theorem updAbort_outside {P : List Part} (r : Req) (b : Block) (hP : Part.reply ⊆ P) : (updAbort r b).outside P = b.outside P := by
  simp only [List.cons_subset, List.nil_subset, and_true] at hP
  unfold updAbort
  refine outside_onReq ?_
  simp [hP]

@[simp] theorem updFlash_outside {P : List Part} (r : Req) (b : Block) (hP : Part.reply ⊆ P) : (updFlash r b).outside P = b.outside P := by
  simp only [List.cons_subset, List.nil_subset, and_true] at hP
  unfold updFlash
  refine outside_onReq ?_
  simp [hP]

@[simp] theorem updChain_outside {P : List Part} (r : Req) (b : Block) (hP : Part.reply ⊆ P) : (updChain r b).outside P = b.outside P := by
  simp only [List.cons_subset, List.nil_subset, and_true] at hP
  unfold updChain
  refine outside_onReq ?_
  simp [hP]

@[simp] theorem updActivate_outside {P : List Part} (r : Req) (b : Block) (hP : Part.reply ⊆ P) :
    (updActivate r b).outside P = b.outside P := by
  simp only [List.cons_subset, List.nil_subset, and_true] at hP
  unfold updActivate
  refine outside_onReq ?_
  simp [hP]

@[simp] theorem actAnswer_outside {P : List Part} (st epoch : Nat) (p : List Byte) (b : Block) (hP : Part.reply ⊆ P) :
    (Block.actAnswer st epoch p b).outside P = b.outside P := by
  simp only [List.cons_subset, List.nil_subset, and_true] at hP
  unfold Block.actAnswer
  dsimp only
  split <;> simp [hP]

@[simp] theorem verified_outside {P : List Part} (ok : Bool) (b : Block) (hP : Part.reply ⊆ P) :
    (Block.verified ok b).outside P = b.outside P := by
  simp only [List.cons_subset, List.nil_subset, and_true] at hP
  unfold Block.verified
  dsimp only
  (repeat' split) <;> simp [hP]

@[simp] theorem decrypted_outside {P : List Part} (ok : Bool) (b : Block) (hP : Part.reply ⊆ P) :
    (Block.decrypted ok b).outside P = b.outside P := by
  simp only [List.cons_subset, List.nil_subset, and_true] at hP
  simp [Block.decrypted, hP]

@[simp] theorem blobChecked_outside {P : List Part} (b : Block) (hP : Part.reply ⊆ P) : (Block.blobChecked b).outside P = b.outside P := by
  simp only [List.cons_subset, List.nil_subset, and_true] at hP
  simp [Block.blobChecked, hP]

@[simp] theorem cfgDefaults_outside {P : List Part} (b : Block) (hP : (.sys :: .cnv :: .bar :: .lgc :: .dist :: Part.reply) ⊆ P) :
    (Block.cfgDefaults b).outside P = b.outside P := by
  simp only [List.cons_subset, List.nil_subset, and_true] at hP
  simp [Block.cfgDefaults, hP]

@[simp] theorem handover_outside {P : List Part} (us : Nat) (b : Block) (hP : (.sys :: .cnv :: .bar :: .lgc :: .dist :: Part.reply) ⊆ P) :
    (Block.handover us b).outside P = b.outside P := by
  simp only [List.cons_subset, List.nil_subset, and_true] at hP
  unfold Block.handover
  dsimp only
  split
  · rfl
  · split <;> simp [hP]

@[simp] theorem rollMove_outside {P : List Part} (s : Nat) (b : Block) (hP : [.nv, .lgc] ⊆ P) :
    (Block.rollMove s b).outside P = b.outside P := by
  simp only [List.cons_subset, List.nil_subset, and_true] at hP
  unfold Block.rollMove
  dsimp only
  (repeat' split) <;> simp [hP]

@[simp] theorem rollEnd_outside {P : List Part} (b : Block) (hP : Part.reply ⊆ P) : (Block.rollEnd b).outside P = b.outside P := by
  simp only [List.cons_subset, List.nil_subset, and_true] at hP
  simp [Block.rollEnd, hP]

@[simp] theorem updConfirm_outside {P : List Part} (r : Req) (b : Block) (hP : Part.reply ⊆ P) :
    (updConfirm r b).outside P = b.outside P := by
  simp only [List.cons_subset, List.nil_subset, and_true] at hP
  unfold updConfirm
  refine outside_onReq ?_
  simp [hP]

@[simp] theorem updState_outside {P : List Part} (r : Req) (b : Block) (hP : Part.reply ⊆ P) : (updState r b).outside P = b.outside P := by
  simp only [List.cons_subset, List.nil_subset, and_true] at hP
  unfold updState
  refine outside_onReq ?_
  simp [hP]

@[simp] theorem updKey_outside {P : List Part} (r : Req) (b : Block) (hP : Part.reply ⊆ P) : (updKey r b).outside P = b.outside P := by
  simp only [List.cons_subset, List.nil_subset, and_true] at hP
  unfold updKey
  refine outside_onReq ?_
  split
  · simp [hP]
  · split <;> simp [hP]

/-! ### Frames: Ladle, supplies and startup -/

@[simp] theorem putPiece_outside {P : List Part} (x : Nat × Nat × List Byte) (b : Block) (hP : Part.event ⊆ P) :
    (Block.putPiece x b).2.outside P = b.outside P := by
  simp only [List.cons_subset, List.nil_subset, and_true] at hP
  unfold Block.putPiece
  dsimp only
  (repeat' split) <;> simp [hP]

@[simp] theorem putPieces_outside {P : List Part} (l : List (Nat × Nat × List Byte)) (b : Block) (hP : Part.event ⊆ P) :
    (Block.putPieces l b).2.2.outside P = b.outside P := by
  induction l generalizing b with
  | nil => rfl
  | cons x r ih =>
    have hrest := fun c => ih c
    simp only [List.cons_subset, List.nil_subset, and_true] at hP
    unfold Block.putPieces
    dsimp only
    split <;> simp [hP, hrest]

@[simp] theorem stageWrite_outside {P : List Part} (o : Nat) (d : List Byte) (b : Block) (hP : Part.event ⊆ P) :
    (Block.stageWrite o d b).2.2.outside P = b.outside P := by
  have h := putPieces_outside (recPieces o d) b hP
  rw [Block.stageWrite]
  generalize Block.putPieces (recPieces o d) b = r at h ⊢
  obtain ⟨st, ix, c⟩ := r
  dsimp only at h ⊢
  split
  · rfl
  · split
    · rfl
    · split <;> exact h

@[simp] theorem objWrite_outside {P : List Part} (obj o : Nat) (d : List Byte) (b : Block) (hP : (.bs :: .elm :: .lgc :: Part.event) ⊆ P) :
    (Block.objWrite obj o d b).2.2.outside P = b.outside P := by
  simp only [List.cons_subset, List.nil_subset, and_true] at hP
  unfold Block.objWrite
  dsimp only
  (repeat' split) <;> simp [hP]

@[simp] theorem ladleTake_outside {P : List Part} (write : Bool) (r : Req) (b : Block) (hP : Part.reply ⊆ P) :
    (ladleTake write r b).outside P = b.outside P := by
  simp only [List.cons_subset, List.nil_subset, and_true] at hP
  unfold ladleTake
  split <;> simp [hP]

@[simp] theorem sysLadleRead_outside {P : List Part} (r : Req) (b : Block) (hP : Part.reply ⊆ P) :
    (sysLadleRead r b).outside P = b.outside P := by
  simp only [List.cons_subset, List.nil_subset, and_true] at hP
  unfold sysLadleRead
  refine outside_onOp ?_
  simp [hP]

@[simp] theorem sysLadleWrite_outside {P : List Part} (r : Req) (b : Block) (hP : Part.reply ⊆ P) :
    (sysLadleWrite r b).outside P = b.outside P := by
  simp only [List.cons_subset, List.nil_subset, and_true] at hP
  unfold sysLadleWrite
  refine outside_onOp ?_
  simp [hP]

@[simp] theorem ladleEnd_outside {P : List Part} (l : Ladle) (st : Nat) (d : List Byte) (b : Block)
    (hP : (.bs :: .elm :: .lgc :: .dist :: Part.reply) ⊆ P) :
    (Block.ladleEnd l st d b).outside P = b.outside P := by
  simp only [List.cons_subset, List.nil_subset, and_true] at hP
  simp [Block.ladleEnd, hP]

@[simp] theorem ladleDone_outside {P : List Part} (c seq : Nat) (d : List Byte) (b : Block)
    (hP : (.bs :: .elm :: .lgc :: .dist :: Part.reply) ⊆ P) :
    (Block.ladleDone c seq d b).outside P = b.outside P := by
  simp only [List.cons_subset, List.nil_subset, and_true] at hP
  unfold Block.ladleDone
  split <;> simp [hP]

@[simp] theorem ladleBus_outside {P : List Part} (c seq : Nat) (m : List Byte) (b : Block)
    (hP : (.bs :: .elm :: .lgc :: .dist :: Part.reply) ⊆ P) :
    (Block.ladleBus c seq m b).outside P = b.outside P := by
  simp only [List.cons_subset, List.nil_subset, and_true] at hP
  unfold Block.ladleBus
  split <;> simp [hP]

@[simp] theorem sysLadleAbort_outside {P : List Part} (r : Req) (m : List Byte) (b : Block)
    (hP : (.bs :: .elm :: .lgc :: .dist :: Part.reply) ⊆ P) :
    (sysLadleAbort r m b).outside P = b.outside P := by
  simp only [List.cons_subset, List.nil_subset, and_true] at hP
  unfold sysLadleAbort
  refine outside_onOp ?_
  split <;> simp [hP]

@[simp] theorem resetLogic_outside {P : List Part} (cause : Nat) (b : Block)
    (hP : (.lands :: .sys :: .flt :: .cnv :: .acc :: .bs :: .bar :: .wheel :: .elm :: .lgc :: .dist :: .snap :: Part.reply) ⊆ P) :
    (Block.resetLogic cause b).outside P = b.outside P := by
  simp only [List.cons_subset, List.nil_subset, and_true] at hP
  simp [Block.resetLogic, Block.outside, hP]

@[simp] theorem release_outside {P : List Part} (hostSel clkSel : Bool) (b : Block) (hP : [.lands, .sys] ⊆ P) :
    (Block.release hostSel clkSel b).outside P = b.outside P := by
  simp only [List.cons_subset, List.nil_subset, and_true] at hP
  unfold Block.release
  split
  · simp [Block.outside, hP]
  · rfl

@[simp] theorem booted_outside {P : List Part} (aOk bOk : Bool) (b : Block) (hP : (.sys :: .time :: Part.event) ⊆ P) :
    (Block.booted aOk bOk b).outside P = b.outside P := by
  simp only [List.cons_subset, List.nil_subset, and_true] at hP
  simp [Block.booted, hP]

@[simp] theorem loadRecords_outside {P : List Part} (b : Block) (hP : (.sys :: .cnv :: .acc :: .bar :: .lgc :: .dist :: Part.reply) ⊆ P) :
    (Block.loadRecords b).outside P = b.outside P := by
  simp only [List.cons_subset, List.nil_subset, and_true] at hP
  unfold Block.loadRecords
  refine (outside_foldl (fun c x => ?_) _ _).trans ?_
  · split <;> simp [hP]
  · rw [trackApply_outside _ _ (by simp [hP]), timeCfgApply_outside _ _ (by simp [hP]), outside_mk] <;> simp only [hP, true_or, or_true, and_self]

@[simp] theorem loadImages_outside {P : List Part} (b : Block) (hP : [.lgc] ⊆ P) : (Block.loadImages b).outside P = b.outside P := by
  simp only [List.cons_subset, List.nil_subset, and_true] at hP
  unfold Block.loadImages
  refine outside_foldl (fun c x => ?_) _ _
  split
  · split <;> simp [hP]
  · rfl

@[simp] theorem rebuild_outside {P : List Part} (lost : List Nat) (b : Block) (hP : (.sys :: .flt :: Part.event) ⊆ P) :
    (Block.rebuild lost b).outside P = b.outside P := by
  simp only [List.cons_subset, List.nil_subset, and_true] at hP
  unfold Block.rebuild
  dsimp only
  split <;> simp [hP]

@[simp] theorem startPairs_outside {P : List Part} (bad : List Nat) (b : Block) (hP : [.sys, .flt, .lgc] ⊆ P) :
    (Block.startPairs bad b).outside P = b.outside P := by
  simp only [List.cons_subset, List.nil_subset, and_true] at hP
  unfold Block.startPairs
  dsimp only
  refine (outside_foldl (fun c x => ?_) _ _).trans (outside_foldl (fun c x => ?_) _ _)
  · (repeat' split) <;> simp [hP]
  · simp [hP]

@[simp] theorem memoryTested_outside {P : List Part} (bad lost : List Nat) (b : Block)
    (hP : (.sys :: .flt :: .cnv :: .acc :: .bar :: .lgc :: .dist :: Part.reply) ⊆ P) :
    (Block.memoryTested bad lost b).outside P = b.outside P := by
  simp only [List.cons_subset, List.nil_subset, and_true] at hP
  simp [Block.memoryTested, hP]

@[simp] theorem calibIndex_outside {P : List Part} (k : Nat) (res : TestRes) (b : Block) (hP : (.sys :: .flt :: .cnv :: Part.event) ⊆ P) :
    (Block.calibIndex k res b).outside P = b.outside P := by
  simp only [List.cons_subset, List.nil_subset, and_true] at hP
  simp [Block.calibIndex, hP]

@[simp] theorem calibrated_outside {P : List Part} (trims : List (Nat × Int × Int)) (results : List (Nat × TestRes)) (b : Block)
    (hP : (.sys :: .flt :: .cnv :: .acc :: Part.event) ⊆ P) :
    (Block.calibrated trims results b).outside P = b.outside P := by
  simp only [List.cons_subset, List.nil_subset, and_true] at hP
  simp [Block.calibrated, hP]

@[simp] theorem armStep_outside {P : List Part} (aOk bOk : Bool) (b : Block) (hP : (.sys :: .bs :: Part.event) ⊆ P) :
    (Block.armStep aOk bOk b).outside P = b.outside P := by
  simp only [List.cons_subset, List.nil_subset, and_true] at hP
  simp [Block.armStep, hP]

@[simp] theorem rootOpen_outside {P : List Part} (b : Block) (hP : [.sys] ⊆ P) : (Block.rootOpen b).outside P = b.outside P := by
  simp only [List.cons_subset, List.nil_subset, and_true] at hP
  simp [Block.rootOpen, hP]

@[simp] theorem tableLoad_outside {P : List Part} (b : Block) (hP : [.sys, .wheel, .elm] ⊆ P) :
    (Block.tableLoad b).outside P = b.outside P := by
  simp only [List.cons_subset, List.nil_subset, and_true] at hP
  simp [Block.tableLoad, hP]

@[simp] theorem admitEnd_outside {P : List Part} (b : Block) (hP : [.sys] ⊆ P) : (Block.admitEnd b).outside P = b.outside P := by
  simp only [List.cons_subset, List.nil_subset, and_true] at hP
  simp [Block.admitEnd, hP]

@[simp] theorem fabricServed_outside {P : List Part} (b : Block) (hP : [.sys] ⊆ P) : (Block.fabricServed b).outside P = b.outside P := by
  simp only [List.cons_subset, List.nil_subset, and_true] at hP
  simp [Block.fabricServed, hP]

@[simp] theorem admissionEnd_outside {P : List Part} (p : Nat) (b : Block) (hP : [.sys] ⊆ P) :
    (Block.admissionEnd p b).outside P = b.outside P := by
  simp only [List.cons_subset, List.nil_subset, and_true] at hP
  simp [Block.admissionEnd, hP]

@[simp] theorem sysInfo_outside {P : List Part} (r : Req) (b : Block) (hP : Part.reply ⊆ P) : (sysInfo r b).outside P = b.outside P := by
  simp only [List.cons_subset, List.nil_subset, and_true] at hP
  unfold sysInfo
  refine outside_onReq ?_
  simp [hP]

@[simp] theorem sysClient_outside {P : List Part} (r : Req) (b : Block) (hP : Part.reply ⊆ P) :
    (sysClient r b).outside P = b.outside P := by
  simp only [List.cons_subset, List.nil_subset, and_true] at hP
  unfold sysClient
  refine outside_onReq ?_
  simp [hP]

@[simp] theorem sysArm_outside {P : List Part} (r : Req) (b : Block) (hP : (.lgc :: Part.reply) ⊆ P) :
    (sysArm r b).outside P = b.outside P := by
  simp only [List.cons_subset, List.nil_subset, and_true] at hP
  unfold sysArm
  refine outside_onReq ?_
  simp [hP]

@[simp] theorem shutStart_outside {P : List Part} (by_ : ShutBy) (q : Nat) (b : Block) (hP : (.sys :: Part.event) ⊆ P) :
    (Block.shutStart by_ q b).outside P = b.outside P := by
  simp only [List.cons_subset, List.nil_subset, and_true] at hP
  simp [Block.shutStart, hP]

@[simp] theorem sysShutdown_outside {P : List Part} (r : Req) (b : Block) (hP : (.sys :: Part.reply) ⊆ P) :
    (sysShutdown r b).outside P = b.outside P := by
  simp only [List.cons_subset, List.nil_subset, and_true] at hP
  unfold sysShutdown
  refine outside_onReq ?_
  simp [hP]

@[simp] theorem sysNop_outside {P : List Part} (r : Req) (b : Block) (hP : Part.reply ⊆ P) : (sysNop r b).outside P = b.outside P := by
  simp only [List.cons_subset, List.nil_subset, and_true] at hP
  unfold sysNop
  refine outside_onReq ?_
  simp [hP]

@[simp] theorem railOut_outside {P : List Part} (r : Nat) (b : Block) (hP : (.sys :: Part.event) ⊆ P) :
    (Block.railOut r b).outside P = b.outside P := by
  simp only [List.cons_subset, List.nil_subset, and_true] at hP
  simp [Block.railOut, hP]

@[simp] theorem railBack_outside {P : List Part} (r mV : Nat) (b : Block) (hP : [.sys, .evr] ⊆ P) :
    (Block.railBack r mV b).outside P = b.outside P := by
  simp only [List.cons_subset, List.nil_subset, and_true] at hP
  simp [Block.railBack, hP]

@[simp] theorem flushRecords_outside {P : List Part} (fuel : Nat) (b : Block)
    (hP : (.sys :: .flt :: .cnv :: .acc :: .bs :: .bar :: .wheel :: .elm :: .lgc :: .dist :: Part.reply) ⊆ P) :
    (Block.flushRecords fuel b).outside P = b.outside P := by
  induction fuel generalizing b with
  | zero => rfl
  | succ n ih =>
    unfold Block.flushRecords
    split
    · rw [ih, jobDone_outside _ _ _ hP]
    · rfl

@[simp] theorem shutCancel_outside {P : List Part} (b : Block) (hP : [.nv, .sys, .evr] ⊆ P) :
    (Block.shutCancel b).outside P = b.outside P := by
  simp only [List.cons_subset, List.nil_subset, and_true] at hP
  unfold Block.shutCancel
  dsimp only
  split <;> simp [hP]

@[simp] theorem flushed_outside {P : List Part} (res : FlashRes) (b : Block)
    (hP : (.sys :: .flt :: .cnv :: .acc :: .bs :: .bar :: .wheel :: .elm :: .lgc :: .dist :: Part.reply) ⊆ P) :
    (Block.flushed res b).outside P = b.outside P := by
  simp only [List.cons_subset, List.nil_subset, and_true] at hP
  unfold Block.flushed
  split <;> simp [hP]

@[simp] theorem pwrFall_outside {P : List Part} (b : Block) (hP : (.lands :: .sys :: Part.event) ⊆ P) :
    (Block.pwrFall b).outside P = b.outside P := by
  simp only [List.cons_subset, List.nil_subset, and_true] at hP
  unfold Block.pwrFall
  split
  · rfl
  · dsimp only
    split
    · simp [Block.outside, hP]
    · rw [shutStart_outside _ _ _ (by simp [hP])]
      simp [Block.outside, hP]

@[simp] theorem pwrRise_outside {P : List Part} (b : Block) (hP : [.lands, .nv, .sys, .evr] ⊆ P) :
    (Block.pwrRise b).outside P = b.outside P := by
  simp only [List.cons_subset, List.nil_subset, and_true] at hP
  unfold Block.pwrRise
  dsimp only
  split
  · split
    · rw [shutCancel_outside _ (by simp [hP])]
      simp [Block.outside, hP]
    · simp [Block.outside, hP]
  · simp [Block.outside, hP]

@[simp] theorem dieRead_outside {P : List Part} (b : Block) (hP : [.flt] ⊆ P) : (Block.dieRead b).outside P = b.outside P := by
  simp only [List.cons_subset, List.nil_subset, and_true] at hP
  simp [Block.dieRead, hP]

@[simp] theorem dieHot_outside {P : List Part} (b : Block) (hP : (.flt :: Part.event) ⊆ P) : (Block.dieHot b).outside P = b.outside P := by
  simp only [List.cons_subset, List.nil_subset, and_true] at hP
  simp [Block.dieHot, hP]

@[simp] theorem rowFail_outside {P : List Part} (mem row : Nat) (b : Block) (hP : (.flt :: Part.event) ⊆ P) :
    (Block.rowFail mem row b).outside P = b.outside P := by
  simp only [List.cons_subset, List.nil_subset, and_true] at hP
  simp [Block.rowFail, hP]

@[simp] theorem marchDone_outside {P : List Part} (mem row : Nat) (ok : Bool) (b : Block) (hP : (.flt :: Part.event) ⊆ P) :
    (Block.marchDone mem row ok b).outside P = b.outside P := by
  simp only [List.cons_subset, List.nil_subset, and_true] at hP
  simp [Block.marchDone, hP]

@[simp] theorem tableLost_outside {P : List Part} (row : Nat) (b : Block) (hP : (.sys :: .flt :: .elm :: .fresh :: Part.event) ⊆ P) :
    (Block.tableLost row b).outside P = b.outside P := by
  simp only [List.cons_subset, List.nil_subset, and_true] at hP
  simp [Block.tableLost, hP]

@[simp] theorem repair_outside {P : List Part} (i : Nat) (b : Block) (hP : [.elm] ⊆ P) : (Block.repair i b).outside P = b.outside P := by
  simp only [List.cons_subset, List.nil_subset, and_true] at hP
  simp [Block.repair, hP]

@[simp] theorem timerLost_outside {P : List Part} (n row : Nat) (b : Block) (hP : (.sys :: .flt :: .wheel :: .elm :: Part.event) ⊆ P) :
    (Block.timerLost n row b).outside P = b.outside P := by
  simp only [List.cons_subset, List.nil_subset, and_true] at hP
  simp [Block.timerLost, hP]

@[simp] theorem storeLost_outside {P : List Part} (s row : Nat) (image : Bool) (b : Block) (hP : (.sys :: .flt :: .lgc :: Part.event) ⊆ P) :
    (Block.storeLost s row image b).outside P = b.outside P := by
  simp only [List.cons_subset, List.nil_subset, and_true] at hP
  simp [Block.storeLost, hP]

@[simp] theorem accumLost_outside {P : List Part} (n row : Nat) (b : Block) (hP : (.sys :: .flt :: .cnv :: .acc :: Part.event) ⊆ P) :
    (Block.accumLost n row b).outside P = b.outside P := by
  simp only [List.cons_subset, List.nil_subset, and_true] at hP
  simp [Block.accumLost, hP]

@[simp] theorem spFail_outside {P : List Part} (b : Block) (hP : (.sys :: .time :: .flt :: .dist :: Part.event) ⊆ P) :
    (Block.spFail b).outside P = b.outside P := by
  simp only [List.cons_subset, List.nil_subset, and_true] at hP
  simp [Block.spFail, hP]

@[simp] theorem takeHw_outside {P : List Part} (b : Block) (hP : [.evr] ⊆ P) : (Block.takeHw b).outside P = b.outside P := by
  simp only [List.cons_subset, List.nil_subset, and_true] at hP
  simp [Block.takeHw, hP]

@[simp] theorem spBack_outside {P : List Part} (b : Block)
    (hP : (.sys :: .flt :: .acc :: .bar :: .wheel :: .lgc :: .fab :: .dist :: .snap :: .fresh :: Part.event) ⊆ P) :
    (Block.spBack b).outside P = b.outside P := by
  simp only [List.cons_subset, List.nil_subset, and_true] at hP
  unfold Block.spBack
  dsimp only
  (repeat' split) <;> simp [hP]

@[simp] theorem lpddrLost_outside {P : List Part} (u : LpddrUse) (b : Block)
    (hP : (.sys :: .flt :: .bs :: .elm :: .lgc :: .dist :: Part.reply) ⊆ P) :
    (Block.lpddrLost u b).outside P = b.outside P := by
  simp only [List.cons_subset, List.nil_subset, and_true] at hP
  unfold Block.lpddrLost
  dsimp only
  (repeat' split) <;> simp [hP]

@[simp] theorem ucFail_outside {P : List Part} (b : Block) (hP : (.sys :: .flt :: Part.event) ⊆ P) :
    (Block.ucFail b).outside P = b.outside P := by
  simp only [List.cons_subset, List.nil_subset, and_true] at hP
  simp [Block.ucFail, hP]

@[simp] theorem ucBack_outside {P : List Part} (b : Block) (hP : [.flt] ⊆ P) : (Block.ucBack b).outside P = b.outside P := by
  simp only [List.cons_subset, List.nil_subset, and_true] at hP
  simp [Block.ucBack, hP]

@[simp] theorem scrubbed_outside {P : List Part} (h : MemHit) (b : Block) (hP : (.sys :: .flt :: Part.event) ⊆ P) :
    (Block.scrubbed h b).outside P = b.outside P := by
  simp only [List.cons_subset, List.nil_subset, and_true] at hP
  unfold Block.scrubbed
  split <;> simp [hP]

@[simp] theorem memoryLost_outside {P : List Part} (h : MemHit) (b : Block)
    (hP : (.sys :: .flt :: .cnv :: .acc :: .bs :: .wheel :: .elm :: .lgc :: .dist :: .fresh :: Part.reply) ⊆ P) :
    (Block.memoryLost h b).outside P = b.outside P := by
  simp only [List.cons_subset, List.nil_subset, and_true] at hP
  unfold Block.memoryLost
  split <;> simp [hP]

/-! ### Frames: Network time and the remaining steps -/

@[simp] theorem putPtp_outside {P : List Part} (p : Nat) (f : PtpPort → PtpPort) (b : Block) (hP : [.time] ⊆ P) :
    (Block.putPtp p f b).outside P = b.outside P := by
  simp only [List.cons_subset, List.nil_subset, and_true] at hP
  unfold Block.putPtp
  dsimp only
  simp [hP]

@[simp] theorem ptpIn_outside {P : List Part} (p domain : Nat) (b : Block) (hP : [.time, .evr, .net] ⊆ P) :
    (Block.ptpIn p domain b).2.outside P = b.outside P := by
  simp only [List.cons_subset, List.nil_subset, and_true] at hP
  unfold Block.ptpIn
  dsimp only
  (repeat' split) <;> simp [hP]

@[simp] theorem bmca_outside {P : List Part} (b : Block) (hP : (.time :: Part.event) ⊆ P) : (Block.bmca b).outside P = b.outside P := by
  simp only [List.cons_subset, List.nil_subset, and_true] at hP
  unfold Block.bmca
  split <;> simp [hP]

@[simp] theorem ptpAnnounce_outside {P : List Part} (p domain : Nat) (a : Announce) (b : Block) (hP : (.time :: .net :: Part.event) ⊆ P) :
    (Block.ptpAnnounce p domain a b).outside P = b.outside P := by
  simp only [List.cons_subset, List.nil_subset, and_true] at hP
  simp [Block.ptpAnnounce, hP]

@[simp] theorem annTimeout_outside {P : List Part} (p : Nat) (b : Block) (hP : (.time :: Part.event) ⊆ P) :
    (Block.annTimeout p b).outside P = b.outside P := by
  simp only [List.cons_subset, List.nil_subset, and_true] at hP
  unfold Block.annTimeout
  dsimp only
  split <;> simp [hP]

@[simp] theorem ptpSync_outside {P : List Part} (p domain seq : Nat) (twoStep : Bool) (origin : Nat) (corr : Int) (b : Block)
    (hP : (.time :: .cnv :: .net :: Part.event) ⊆ P) :
    (Block.ptpSync p domain seq twoStep origin corr b).outside P = b.outside P := by
  simp only [List.cons_subset, List.nil_subset, and_true] at hP
  simp [Block.ptpSync, hP]

@[simp] theorem ptpFollowUp_outside {P : List Part} (p domain seq origin : Nat) (corr : Int) (b : Block)
    (hP : (.time :: .cnv :: .net :: Part.event) ⊆ P) :
    (Block.ptpFollowUp p domain seq origin corr b).outside P = b.outside P := by
  simp only [List.cons_subset, List.nil_subset, and_true] at hP
  unfold Block.ptpFollowUp
  dsimp only
  (repeat' split) <;> simp [hP]

@[simp] theorem ptpPdelayReq_outside {P : List Part} (p domain seq requester : Nat) (b : Block) (hP : (.time :: .net :: Part.event) ⊆ P) :
    (Block.ptpPdelayReq p domain seq requester b).outside P = b.outside P := by
  simp only [List.cons_subset, List.nil_subset, and_true] at hP
  simp [Block.ptpPdelayReq, hP]

@[simp] theorem ptpPdelayResp_outside {P : List Part} (p domain seq reqRx respTx : Nat) (corr : Int) (b : Block)
    (hP : [.time, .evr, .net] ⊆ P) :
    (Block.ptpPdelayResp p domain seq reqRx respTx corr b).outside P = b.outside P := by
  simp only [List.cons_subset, List.nil_subset, and_true] at hP
  unfold Block.ptpPdelayResp
  dsimp only
  (repeat' split) <;> simp [hP]

@[simp] theorem ptpUnsupported_outside {P : List Part} (p : Nat) (b : Block) (hP : [.time, .evr, .net] ⊆ P) :
    (Block.ptpUnsupported p b).outside P = b.outside P := by
  simp only [List.cons_subset, List.nil_subset, and_true] at hP
  simp [Block.ptpUnsupported, hP]

@[simp] theorem ptpInterval_outside {P : List Part} (p : Nat) (k : PtpKind) (b : Block) (hP : (.time :: .net :: Part.event) ⊆ P) :
    (Block.ptpInterval p k b).outside P = b.outside P := by
  simp only [List.cons_subset, List.nil_subset, and_true] at hP
  unfold Block.ptpInterval
  dsimp only
  (repeat' split) <;> simp [hP]

@[simp] theorem tcForward_outside {P : List Part} (p seq : Nat) (twoStep : Bool) (corr : Int) (rx tx : Nat) (b : Block)
    (hP : (.time :: .net :: Part.event) ⊆ P) :
    (Block.tcForward p seq twoStep corr rx tx b).outside P = b.outside P := by
  simp only [List.cons_subset, List.nil_subset, and_true] at hP
  simp [Block.tcForward, hP]

@[simp] theorem timeCfgDue_outside {P : List Part} (b : Block) (hP : (.time :: Part.event) ⊆ P) :
    (Block.timeCfgDue b).outside P = b.outside P := by
  simp only [List.cons_subset, List.nil_subset, and_true] at hP
  simp [Block.timeCfgDue, hP]

@[simp] theorem latchDets_outside {P : List Part} (e : Nat) (b : Block) (hP : [.acc, .elm] ⊆ P) :
    (Block.latchDets e b).outside P = b.outside P := by
  simp only [List.cons_subset, List.nil_subset, and_true] at hP
  simp [Block.latchDets, hP]

@[simp] theorem elementTick_outside {P : List Part} (cnv acc elm : Bool) (b : Block)
    (hP : (.sys :: .time :: .acc :: .bs :: .bar :: .elm :: .lgc :: .dist :: Part.event) ⊆ P) :
    (Block.elementTick cnv acc elm b).outside P = b.outside P := by
  simp only [List.cons_subset, List.nil_subset, and_true] at hP
  simp [Block.elementTick, hP]

@[simp] theorem halfInForce_outside {P : List Part} (s : Nat) (b : Block) (hP : [.bar, .lgc] ⊆ P) :
    (Block.halfInForce s b).outside P = b.outside P := by
  simp only [List.cons_subset, List.nil_subset, and_true] at hP
  unfold Block.halfInForce
  dsimp only
  (repeat' split) <;> simp [hP]

@[simp] theorem publishStates_outside {P : List Part} (b : Block)
    (hP : (.bar :: .wheel :: .elm :: .lgc :: .dist :: .snap :: Part.reply) ⊆ P) :
    (Block.publishStates b).outside P = b.outside P := by
  simp only [List.cons_subset, List.nil_subset, and_true] at hP
  simp [Block.publishStates, hP]

@[simp] theorem afterLogic_outside {P : List Part} (b : Block) (hP : (.sys :: .bar :: .dist :: Part.event) ⊆ P) :
    (Block.afterLogic b).outside P = b.outside P := by
  simp only [List.cons_subset, List.nil_subset, and_true] at hP
  simp [Block.afterLogic, hP]

@[simp] theorem elementPass_outside {P : List Part} (b : Block)
    (hP : (.sys :: .time :: .bar :: .wheel :: .elm :: .lgc :: .dist :: Part.event) ⊆ P) :
    (Block.elementPass b).outside P = b.outside P := by
  simp only [List.cons_subset, List.nil_subset, and_true] at hP
  simp [Block.elementPass, hP]

@[simp] theorem wbObserve_outside {P : List Part} (n : Nat) (b : Block) (hP : (.cnv :: .bs :: .dist :: Part.event) ⊆ P) :
    (Block.wbObserve n b).outside P = b.outside P := by
  simp only [List.cons_subset, List.nil_subset, and_true] at hP
  unfold Block.wbObserve
  dsimp only
  (repeat' split) <;> simp [hP]

@[simp] theorem seqObserve_outside {P : List Part} (b : Block) (hP : (.cnv :: .acc :: .dist :: Part.event) ⊆ P) :
    (Block.seqObserve b).outside P = b.outside P := by
  simp only [List.cons_subset, List.nil_subset, and_true] at hP
  simp [Block.seqObserve, hP]

end Sys2Proof.Machine
end

section
-- One declaration after another: the check compiles the whole text under a memory limit.
set_option Elab.async false
/-! SUPPORT. Every command but a burned fuse step leaves the fuse count alone, and that step does not lower it. -/

namespace Sys2Proof.Machine
open Sys2Proof

/-- A command other than FUSE_STEP_BURNED changes nothing outside the parts, and so not the fuse count. -/
theorem exec_outside {P : List Part} (hP : ∀ L : List Part, L ⊆ P) (i : Instr) (hi : i ≠ .fuseStepBurned) (s : State) :
    ∃ b, exec i s = .next { s with blk := b } ∧ b.outside P = s.blk.outside P := by
  cases i
  case fuseStepBurned => exact absurd rfl hi
  all_goals exact ⟨_, rfl, by simp [hP]⟩

theorem subset_all (L : List Part) : L ⊆ Part.all := fun p _ => by cases p <;> simp

/-- Burning a step counts it, up to 64; with no confirmation in progress nothing is burned. -/
theorem fuseStep_fuse (b : Block) : b.fuseStep.nv.fuse = if b.nv.stg.confirm.isSome then satN 64 (b.nv.fuse + 1) else b.nv.fuse := by
  unfold Block.fuseStep
  split
  · next h => simp [h]
  · next r h =>
    dsimp only
    split <;> simp [h]

theorem exec_fuse (i : Instr) (s : State) : ∃ b, exec i s = .next { s with blk := b } ∧
    (b.nv.fuse = s.blk.nv.fuse ∨ b.nv.fuse = satN 64 (s.blk.nv.fuse + 1)) := by
  by_cases hi : i = .fuseStepBurned
  · subst hi
    refine ⟨s.blk.fuseStep, rfl, ?_⟩
    rw [fuseStep_fuse]
    split
    · exact .inr rfl
    · exact .inl rfl
  · obtain ⟨b, hb, ho⟩ := exec_outside subset_all i hi s
    exact ⟨b, hb, .inl (fuse_of_outside ho)⟩

theorem idle_fuse (b : Block) : b.idle.nv.fuse = b.nv.fuse := by
  unfold Block.idle
  split <;> rfl

/-- Settles O5: each command keeps the fuse count or counts one step, up to 64, and an idle cycle keeps it. -/
theorem fuseStepsAreNeverUndone : Obligations.FuseStepsAreNeverUndone := by
  rintro n s t ⟨hlow, hhigh⟩ hstep
  cases hq : s.pending with
  | nil =>
    rw [step_of_idle hq] at hstep
    obtain rfl := Host.Outcome.next.inj hstep
    exact ⟨(idle_fuse s.blk).symm ▸ hlow, (idle_fuse s.blk).symm ▸ hhigh⟩
  | cons c q =>
    obtain ⟨b, hb, hf⟩ := exec_fuse c { s with pending := q }
    rw [step_of_pending hq, hb] at hstep
    obtain rfl := Host.Outcome.next.inj hstep
    simp only [State.fuseFrom, satN] at hf hlow hhigh ⊢
    rcases hf with hf | hf
    · omega
    · split at hf <;> omega

end Sys2Proof.Machine
end

section
-- One declaration after another: the check compiles the whole text under a memory limit.
set_option Elab.async false
/-! SUPPORT. What an Fjoask instruction writes of the cyclic part: its slot, and for a shadow run its pair. -/

namespace Sys2Proof.Machine
open Sys2Proof

/-- Putting an instruction's outcome back writes the slot alone. -/
theorem fjPut_writes_slot (b : Block) (s len lc : Nat) (o : FjOut) : ∃ y, b.fjPut s len lc o = b.putSlot s y := by
  unfold Block.fjPut
  dsimp only
  split
  · exact ⟨_, rfl⟩
  · split <;> exact ⟨_, rfl⟩

/-- `f` writes, of the cyclic part, one pair at most. -/
def PairOnly (p : Nat) (b' b : Block) : Prop :=
  ∃ pairs, b'.lgc = { b.lgc with pairs := pairs } ∧ ∀ q, q ≠ p → tget pairD pairs q = b.pair q

theorem pairOnly_refl (p : Nat) (b : Block) : PairOnly p b b := ⟨b.lgc.pairs, rfl, fun _ _ => rfl⟩

theorem pairOnly_putPair (p : Nat) (x : Pair) (b : Block) : PairOnly p (b.putPair p x) b :=
  ⟨_, rfl, fun _ hq => tget_tset_ne _ _ _ hq⟩

theorem pairOnly_trans {p : Nat} {b'' b' b : Block} (h' : PairOnly p b'' b') (h : PairOnly p b' b) : PairOnly p b'' b := by
  obtain ⟨pairs', hl', hq'⟩ := h'
  obtain ⟨pairs, hl, hq⟩ := h
  refine ⟨pairs', by rw [hl', hl], fun q hne => ?_⟩
  rw [hq' q hne, Block.pair, hl]
  exact hq q hne

theorem pairOnly_haltNow (p : Nat) (b : Block) : PairOnly p (b.haltNow p) b := by
  unfold Block.haltNow
  dsimp only
  split
  · next r _ =>
    obtain ⟨pairs, hl, hq⟩ := pairOnly_putPair p { b.pair p with state := .halted, hreq := none, hcnt := 0 } b
    exact ⟨pairs, (lgc_of_outside (ok_outside (P := Part.reply) r _ _ (List.Subset.refl _))).trans hl, hq⟩
  · exact pairOnly_putPair p _ b

/-- After an instruction of a shadow run the debugger may count, mark or halt its pair. -/
theorem pairOnly_debugAfter (s : Nat) (b : Block) : PairOnly (s - 8) (b.debugAfter s) b := by
  unfold Block.debugAfter
  split
  · exact pairOnly_refl _ b
  · extract_lets p x locked atBp
    clear_value locked atBp
    split
    · split
      · exact pairOnly_putPair _ _ b
      · split
        · exact pairOnly_putPair _ _ b
        · exact pairOnly_refl _ b
    · split
      · exact pairOnly_trans (pairOnly_haltNow _ _) (pairOnly_putPair _ _ b)
      · exact pairOnly_haltNow _ b
      · split
        · exact pairOnly_haltNow _ b
        · exact pairOnly_refl _ b

/-- What an instruction of the slot `s` may write of the cyclic part: that slot, and pair `s - 8`. -/
theorem fj_writes (s len : Nat) (body : Fj → FjOut) (b : Block) : ∃ slots pairs, (b.fj s len body).lgc = { b.lgc with slots := slots, pairs := pairs } ∧
    (∀ k, k ≠ s → tget slotD slots k = b.slot k) ∧ ∀ p, p ≠ s - 8 → tget pairD pairs p = b.pair p := by
  unfold Block.fj
  split
  · exact ⟨_, _, rfl, fun _ _ => rfl, fun _ _ => rfl⟩
  · next f _ =>
    dsimp only
    generalize (if f.x.lockcnt = 64 then ({ f := f, fault := 5 } : FjOut) else _) = o
    obtain ⟨y, hy⟩ := fjPut_writes_slot b s len f.x.lockcnt o
    obtain ⟨pairs, hl, hp⟩ := pairOnly_debugAfter s (b.fjPut s len f.x.lockcnt o)
    rw [hy] at hl hp
    exact ⟨_, pairs, by rw [hy]; exact hl, fun k hk => tget_tset_ne _ _ _ hk, hp⟩

/-- An instruction of a slot that is no shadow run writes nothing but that slot. -/
theorem fj_of_slot {s : Nat} (hs : s < 8) (len : Nat) (body : Fj → FjOut) (b : Block) :
    b.fj s len body = b ∨ ∃ y, b.fj s len body = b.putSlot s y := by
  unfold Block.fj
  split
  · exact .inl rfl
  · next f _ =>
    dsimp only
    generalize (if f.x.lockcnt = 64 then ({ f := f, fault := 5 } : FjOut) else _) = o
    obtain ⟨y, hy⟩ := fjPut_writes_slot b s len f.x.lockcnt o
    exact .inr ⟨y, by rw [Block.debugAfter, if_pos hs, hy]⟩

/-- Settles O11: what `fj` writes, for a slot and for a shadow run. -/
theorem fjKeepsToItsSlot : Obligations.FjKeepsToItsSlot := by
  refine ⟨fun i slot s hi hslot => ?_, fun i slot s hi hslot => ?_⟩
  · obtain ⟨len, body, hexec, -⟩ := exec_of_fjSlot hi s
    refine ⟨_, hexec, ?_⟩
    rcases fj_of_slot hslot len body s.blk with hb | ⟨y, hb⟩
    · rw [hb]
      exact ⟨rfl, fun _ _ => rfl⟩
    · rw [hb]
      exact ⟨rfl, fun k hk => slot_putSlot_ne hk _ _⟩
  · obtain ⟨len, body, hexec, -⟩ := exec_of_fjSlot hi s
    refine ⟨_, hexec, ?_⟩
    obtain ⟨slots, pairs, hl, hslots, hpairs⟩ := fj_writes slot len body s.blk
    have houtside := eq_of_outside (fj_outside (P := .lgc :: Part.reply) slot len body s.blk (List.Subset.refl _))
    refine ⟨?_, fun k hk => ?_, fun p hp => ?_⟩
    · rw [houtside]
      simp [hl]
    · rw [Block.slot, hl]
      exact hslots k hk
    · rw [Block.pair, hl]
      exact hpairs p hp

end Sys2Proof.Machine
end

section
-- One declaration after another: the check compiles the whole text under a memory limit.
set_option Elab.async false
/-! SUPPORT. The mailbox requests that only read or queue: they write what carries a response, the flash, the time part and the recorder. -/

namespace Sys2Proof.Machine
open Sys2Proof

theorem keepsProcess_of_outside {s : State} {b : Block} (h : b.outside Part.reply = s.blk.outside Part.reply) : KeepsProcess s b :=
  (eq_of_outside h).trans (by simp)

/-- An erase that succeeds is no fault of the flash: it writes the flash, the recorder and the vectors. -/
theorem erased_ok_outside {P : List Part} (dev sector : Nat) (b : Block) (hP : Part.event ⊆ P) :
    (b.erased dev sector true).outside P = b.outside P := by
  simp only [List.cons_subset, List.nil_subset, and_true] at hP
  unfold Block.erased
  split <;> simp [hP]

/-- A staging that begins erases its header's sector, which succeeds. -/
theorem begin_reply_outside {P : List Part} (resume : Bool) (p : List Byte) (b : Block) (hP : Part.reply ⊆ P) :
    (b.begin resume p).2.outside P = b.outside P := by
  simp only [List.cons_subset, List.nil_subset, and_true] at hP
  unfold Block.begin
  dsimp only
  (repeat' split) <;> simp [hP, erased_ok_outside]

theorem updBegin_reply_outside {P : List Part} (r : Req) (b : Block) (hP : Part.reply ⊆ P) : (updBegin r b).outside P = b.outside P := by
  simp only [List.cons_subset, List.nil_subset, and_true] at hP
  unfold updBegin
  refine outside_onReq ?_
  simp [hP, begin_reply_outside]

/-- Settles O18: each of these requests writes the parts that carry a response alone. -/
theorem requestsKeepTheProcess : Obligations.RequestsKeepTheProcess := by
  refine ⟨fun s r => ⟨_, rfl, keepsProcess_of_outside (sysInfo_outside r s.blk (by simp))⟩,
    fun s r => ⟨_, rfl, keepsProcess_of_outside (sysClient_outside r s.blk (by simp))⟩,
    fun s r => ⟨_, rfl, keepsProcess_of_outside (bstopRead_outside r s.blk (by simp))⟩,
    fun s r => ⟨_, rfl, keepsProcess_of_outside (bstopState_outside r s.blk (by simp))⟩,
    fun s r => ⟨_, rfl, keepsProcess_of_outside (sysLadleRead_outside r s.blk (by simp))⟩,
    fun s r => ⟨_, rfl, keepsProcess_of_outside (sysLadleWrite_outside r s.blk (by simp))⟩,
    fun s r => ⟨_, rfl, keepsProcess_of_outside (sysNop_outside r s.blk (by simp))⟩,
    fun s r => ⟨_, rfl, keepsProcess_of_outside (cnvInput_outside r s.blk (by simp))⟩,
    fun s r => ⟨_, rfl, keepsProcess_of_outside (cnvHouse_outside r s.blk (by simp))⟩,
    fun s r => ⟨_, rfl, keepsProcess_of_outside (cnvPlaus_outside r s.blk (by simp))⟩,
    fun s r => ⟨_, rfl, keepsProcess_of_outside (cnvTwinRead_outside r s.blk (by simp))⟩,
    fun s r => ⟨_, rfl, keepsProcess_of_outside (accRead_outside r s.blk (by simp))⟩,
    fun s r => ⟨_, rfl, keepsProcess_of_outside (accFreq_outside r s.blk (by simp))⟩,
    fun s r => ⟨_, rfl, keepsProcess_of_outside (accTrack_outside r s.blk (by simp))⟩,
    fun s r => ⟨_, rfl, keepsProcess_of_outside (accTd_outside r s.blk (by simp))⟩,
    fun s r => ⟨_, rfl, keepsProcess_of_outside (elemTableRead_outside r s.blk (by simp))⟩,
    fun s r => ⟨_, rfl, keepsProcess_of_outside (elemSwap_outside r s.blk (by simp))⟩,
    fun s r => ⟨_, rfl, keepsProcess_of_outside (elemRead_outside r s.blk (by simp))⟩,
    fun s r => ⟨_, rfl, keepsProcess_of_outside (cycLoadRead_outside r s.blk (by simp))⟩,
    fun s r => ⟨_, rfl, keepsProcess_of_outside (cycState_outside r s.blk (by simp))⟩,
    fun s r => ⟨_, rfl, keepsProcess_of_outside (imgRead_outside r s.blk (by simp))⟩,
    fun s r => ⟨_, rfl, keepsProcess_of_outside (ioCfg_outside r s.blk (by simp))⟩,
    fun s r => ⟨_, rfl, keepsProcess_of_outside (ioRead_outside r s.blk (by simp))⟩,
    fun s r => ⟨_, rfl, keepsProcess_of_outside (timeReadNow_outside r s.blk (by simp))⟩,
    fun s r => ⟨_, rfl, keepsProcess_of_outside (timeReadTick_outside r s.blk (by simp))⟩,
    fun s r => ⟨_, rfl, keepsProcess_of_outside (timeCfg_outside r s.blk (by simp))⟩,
    fun s r => ⟨_, rfl, keepsProcess_of_outside (timeSet_outside r s.blk (by simp))⟩,
    fun s r => ⟨_, rfl, keepsProcess_of_outside (netCfg_outside r s.blk (by simp))⟩,
    fun s r => ⟨_, rfl, keepsProcess_of_outside (netStat_outside r s.blk (by simp))⟩,
    fun s r => ⟨_, rfl, keepsProcess_of_outside (fabCfg_outside r s.blk (by simp))⟩,
    fun s r => ⟨_, rfl, keepsProcess_of_outside (fabRouteWrite_outside r s.blk (by simp))⟩,
    fun s r => ⟨_, rfl, keepsProcess_of_outside (fabRouteUnpin_outside r s.blk (by simp))⟩,
    fun s r => ⟨_, rfl, keepsProcess_of_outside (fabRouteRead_outside r s.blk (by simp))⟩,
    fun s r => ⟨_, rfl, keepsProcess_of_outside (fabInvalidate_outside r s.blk (by simp))⟩,
    fun s r => ⟨_, rfl, keepsProcess_of_outside (fabNbr_outside r s.blk (by simp))⟩,
    fun s r => ⟨_, rfl, keepsProcess_of_outside (fabStat_outside r s.blk (by simp))⟩,
    fun s r => ⟨_, rfl, keepsProcess_of_outside (fabSig_outside r s.blk (by simp))⟩,
    fun s r => ⟨_, rfl, keepsProcess_of_outside (fabTw_outside r s.blk (by simp))⟩,
    fun s r => ⟨_, rfl, keepsProcess_of_outside (fabTwloc_outside r s.blk (by simp))⟩,
    fun s r => ⟨_, rfl, keepsProcess_of_outside (fabCall_outside r s.blk (by simp))⟩,
    fun s r => ⟨_, rfl, keepsProcess_of_outside (fabAccess_outside r s.blk (by simp))⟩,
    fun s r => ⟨_, rfl, keepsProcess_of_outside (recNotes_outside r s.blk (by simp))⟩,
    fun s r => ⟨_, rfl, keepsProcess_of_outside (recCode_outside r s.blk (by simp))⟩,
    fun s r => ⟨_, rfl, keepsProcess_of_outside (recIndex_outside r s.blk (by simp))⟩,
    fun s r => ⟨_, rfl, keepsProcess_of_outside (recCfg_outside r s.blk (by simp))⟩,
    fun s r => ⟨_, rfl, keepsProcess_of_outside (distList_outside r s.blk (by simp))⟩,
    fun s r => ⟨_, rfl, keepsProcess_of_outside (snapInfo_outside r s.blk (by simp))⟩,
    fun s r => ⟨_, rfl, keepsProcess_of_outside (updBegin_reply_outside r s.blk (by simp))⟩,
    fun s r => ⟨_, rfl, keepsProcess_of_outside (updAbort_outside r s.blk (by simp))⟩,
    fun s r => ⟨_, rfl, keepsProcess_of_outside (updFlash_outside r s.blk (by simp))⟩,
    fun s r => ⟨_, rfl, keepsProcess_of_outside (updChain_outside r s.blk (by simp))⟩,
    fun s r => ⟨_, rfl, keepsProcess_of_outside (updActivate_outside r s.blk (by simp))⟩,
    fun s r => ⟨_, rfl, keepsProcess_of_outside (updConfirm_outside r s.blk (by simp))⟩,
    fun s r => ⟨_, rfl, keepsProcess_of_outside (updState_outside r s.blk (by simp))⟩,
    fun s r => ⟨_, rfl, keepsProcess_of_outside (updKey_outside r s.blk (by simp))⟩,
    fun s r => ⟨_, rfl, keepsProcess_of_outside (diagWheelSummary_outside r s.blk (by simp))⟩,
    fun s r => ⟨_, rfl, keepsProcess_of_outside (diagWheelRead_outside r s.blk (by simp))⟩,
    fun s r => ⟨_, rfl, keepsProcess_of_outside (diagCtx_outside r s.blk (by simp))⟩,
    fun s r => ⟨_, rfl, keepsProcess_of_outside (diagRoute_outside r s.blk (by simp))⟩,
    fun s r => ⟨_, rfl, keepsProcess_of_outside (diagFaults_outside r s.blk (by simp))⟩,
    fun s r => ⟨_, rfl, keepsProcess_of_outside (ctlSelect_outside r s.blk (by simp))⟩,
    fun s r => ⟨_, rfl, keepsProcess_of_outside (ctlOperate_outside r s.blk (by simp))⟩,
    fun s r => ⟨_, rfl, keepsProcess_of_outside (ctlRead_outside r s.blk (by simp))⟩⟩

end Sys2Proof.Machine
end

section
-- One declaration after another: the check compiles the whole text under a memory limit.
set_option Elab.async false
/-! SUPPORT. A command that writes one part of the block. -/

namespace Sys2Proof.Machine
open Sys2Proof

section
variable {b b' : Block}

theorem only_acc (h : b'.outside [.acc] = b.outside [.acc]) :
    b' = { b with acc := b'.acc } :=
  (eq_of_outside h).trans (by simp)

theorem only_wheel (h : b'.outside [.wheel] = b.outside [.wheel]) :
    b' = { b with wheel := b'.wheel } :=
  (eq_of_outside h).trans (by simp)

theorem only_cnv (h : b'.outside [.cnv] = b.outside [.cnv]) :
    b' = { b with cnv := b'.cnv } :=
  (eq_of_outside h).trans (by simp)

theorem only_lgc (h : b'.outside [.lgc] = b.outside [.lgc]) :
    b' = { b with lgc := b'.lgc } :=
  (eq_of_outside h).trans (by simp)

theorem only_bar (h : b'.outside [.bar] = b.outside [.bar]) :
    b' = { b with bar := b'.bar } :=
  (eq_of_outside h).trans (by simp)

theorem only_time (h : b'.outside [.time] = b.outside [.time]) :
    b' = { b with time := b'.time } :=
  (eq_of_outside h).trans (by simp)

theorem only_net (h : b'.outside [.net] = b.outside [.net]) :
    b' = { b with net := b'.net } :=
  (eq_of_outside h).trans (by simp)

theorem only_fab (h : b'.outside [.fab] = b.outside [.fab]) :
    b' = { b with fab := b'.fab } :=
  (eq_of_outside h).trans (by simp)

theorem only_mbx (h : b'.outside [.mbx] = b.outside [.mbx]) :
    b' = { b with mbx := b'.mbx } :=
  (eq_of_outside h).trans (by simp)

theorem only_snap (h : b'.outside [.snap] = b.outside [.snap]) :
    b' = { b with snap := b'.snap } :=
  (eq_of_outside h).trans (by simp)

theorem only_evr (h : b'.outside [.evr] = b.outside [.evr]) :
    b' = { b with evr := b'.evr } :=
  (eq_of_outside h).trans (by simp)

theorem only_elm (h : b'.outside [.elm] = b.outside [.elm]) :
    b' = { b with elm := b'.elm } :=
  (eq_of_outside h).trans (by simp)

theorem only_flt (h : b'.outside [.flt] = b.outside [.flt]) :
    b' = { b with flt := b'.flt } :=
  (eq_of_outside h).trans (by simp)

theorem only_nv (h : b'.outside [.nv] = b.outside [.nv]) :
    b' = { b with nv := b'.nv } :=
  (eq_of_outside h).trans (by simp)

end

/-- Burning a fuse step writes the flash part: the count, and with the last step the boot word's order. -/
theorem fuseStep_only_nv (b : Block) : b.fuseStep = { b with nv := b.fuseStep.nv } := by
  unfold Block.fuseStep
  split
  · rfl
  · dsimp only
    split <;> rfl

/-- Settles O19: each of these commands writes its own part alone. -/
theorem commandsKeepToTheirPart : Obligations.CommandsKeepToTheirPart := by
  refine ⟨fun s t => ⟨_, rfl, only_acc (trackNominal_outside t s.blk (by simp))⟩,
    fun s => ⟨_, rfl, only_acc (tdEffect_outside s.blk (by simp))⟩,
    fun s n => ⟨_, rfl, only_wheel (timerHold_outside n s.blk (by simp))⟩,
    fun s p k idx => ⟨_, rfl, only_cnv (urgentStart_outside p k idx s.blk (by simp))⟩,
    fun s p => ⟨_, rfl, only_cnv (hkRound_outside p s.blk (by simp))⟩,
    fun s k => ⟨_, rfl, only_cnv (disputedClear_outside k s.blk (by simp))⟩,
    fun s => ⟨_, rfl, only_cnv (houseEffect_outside s.blk (by simp))⟩,
    fun s => ⟨_, rfl, only_cnv (plausEffect_outside s.blk (by simp))⟩,
    fun s slot => ⟨_, rfl, only_lgc (armDelay_outside slot s.blk (by simp))⟩,
    fun s slot => ⟨_, rfl, only_lgc (takeoverLoaded_outside slot s.blk (by simp))⟩,
    fun s slot i => ⟨_, rfl, only_lgc (selLapse_outside slot i s.blk (by simp))⟩,
    fun s ns => ⟨_, rfl, only_bar (linkDelay_outside ns s.blk (by simp))⟩,
    fun s => ⟨_, rfl, only_bar (ioCfgEffect_outside s.blk (by simp))⟩,
    fun s ref => ⟨_, rfl, only_time (timSource_outside ref s.blk (by simp))⟩,
    fun s => ⟨_, rfl, only_time (incLapse_outside s.blk (by simp))⟩,
    fun s wait => ⟨_, rfl, only_time (stampInterrupt_outside wait s.blk (by simp))⟩,
    fun s => ⟨_, rfl, only_time (ppsPulse_outside s.blk (by simp))⟩,
    fun s => ⟨_, rfl, only_time (ppsPulseEnd_outside s.blk (by simp))⟩,
    fun s pair => ⟨_, rfl, only_net (dupExpire_outside pair s.blk (by simp))⟩,
    fun s => ⟨_, rfl, only_fab (unblock_outside s.blk (by simp))⟩,
    fun s addr l => ⟨_, rfl, only_fab (nbrFree_outside addr l s.blk (by simp))⟩,
    fun s => ⟨_, rfl, only_fab (reasmTimeout_outside s.blk (by simp))⟩,
    fun s => ⟨_, rfl, only_fab (whiskAnswer_outside s.blk (by simp))⟩,
    fun s => ⟨_, rfl, only_fab (fabTwEffect_outside s.blk (by simp))⟩,
    fun s c => ⟨_, rfl, only_mbx (ringRoom_outside c s.blk (by simp))⟩,
    fun s v => ⟨_, rfl, only_mbx (vecSignal_outside v s.blk (by simp))⟩,
    fun s => ⟨_, rfl, only_mbx (qspiStatus_outside s.blk (by simp))⟩,
    fun s => ⟨_, rfl, only_mbx (routeEffect_outside s.blk (by simp))⟩,
    fun s c => ⟨_, rfl, only_mbx (ringDone_outside c s.blk (by simp))⟩,
    fun s => ⟨_, rfl, only_snap (whiskOutEnd_outside s.blk (by simp))⟩,
    fun s => ⟨_, rfl, only_evr (recCfgEffect_outside s.blk (by simp))⟩,
    fun s => ⟨_, rfl, only_evr (refill_outside s.blk (by simp))⟩,
    fun s i => ⟨_, rfl, only_elm (repair_outside i s.blk (by simp))⟩,
    fun s => ⟨_, rfl, only_flt (ucBack_outside s.blk (by simp))⟩,
    fun s => ⟨_, rfl, fuseStep_only_nv s.blk⟩⟩

end Sys2Proof.Machine
end

section
-- One declaration after another: the check compiles the whole text under a memory limit.
set_option Elab.async false
/-! SUPPORT. A command that writes its parts and what an event writes. -/

namespace Sys2Proof.Machine
open Sys2Proof

section
variable {b b' : Block}

theorem only_nv_evr_mbx_net (h : b'.outside [.nv, .evr, .mbx, .net] = b.outside [.nv, .evr, .mbx, .net]) :
    b' = { b with nv := b'.nv, evr := b'.evr, mbx := b'.mbx, net := b'.net } :=
  (eq_of_outside h).trans (by simp)

theorem only_nv_evr_mbx_fside_bar (h : b'.outside [.nv, .evr, .mbx, .fside, .bar] = b.outside [.nv, .evr, .mbx, .fside, .bar]) :
    b' = { b with nv := b'.nv, evr := b'.evr, mbx := b'.mbx, fside := b'.fside, bar := b'.bar } :=
  (eq_of_outside h).trans (by simp)

theorem only_nv_evr_mbx_bar (h : b'.outside [.nv, .evr, .mbx, .bar] = b.outside [.nv, .evr, .mbx, .bar]) :
    b' = { b with nv := b'.nv, evr := b'.evr, mbx := b'.mbx, bar := b'.bar } :=
  (eq_of_outside h).trans (by simp)

theorem only_nv_evr_mbx_fab (h : b'.outside [.nv, .evr, .mbx, .fab] = b.outside [.nv, .evr, .mbx, .fab]) :
    b' = { b with nv := b'.nv, evr := b'.evr, mbx := b'.mbx, fab := b'.fab } :=
  (eq_of_outside h).trans (by simp)

theorem only_nv_evr_mbx_acc_bs_dist (h : b'.outside [.nv, .evr, .mbx, .acc, .bs, .dist] = b.outside [.nv, .evr, .mbx, .acc, .bs, .dist]) :
    b' = { b with nv := b'.nv, evr := b'.evr, mbx := b'.mbx, acc := b'.acc, bs := b'.bs, dist := b'.dist } :=
  (eq_of_outside h).trans (by simp)

theorem only_nv_time_evr_mbx_cnv_acc_snap (h : b'.outside [.nv, .time, .evr, .mbx, .cnv, .acc, .snap] = b.outside [.nv, .time, .evr, .mbx, .cnv, .acc, .snap]) :
    b' = { b with nv := b'.nv, time := b'.time, evr := b'.evr, mbx := b'.mbx, cnv := b'.cnv, acc := b'.acc, snap := b'.snap } :=
  (eq_of_outside h).trans (by simp)

theorem only_nv_evr_mbx_dist (h : b'.outside [.nv, .evr, .mbx, .dist] = b.outside [.nv, .evr, .mbx, .dist]) :
    b' = { b with nv := b'.nv, evr := b'.evr, mbx := b'.mbx, dist := b'.dist } :=
  (eq_of_outside h).trans (by simp)

theorem only_nv_evr_mbx_flt (h : b'.outside [.nv, .evr, .mbx, .flt] = b.outside [.nv, .evr, .mbx, .flt]) :
    b' = { b with nv := b'.nv, evr := b'.evr, mbx := b'.mbx, flt := b'.flt } :=
  (eq_of_outside h).trans (by simp)

theorem only_nv_evr_mbx (h : b'.outside [.nv, .evr, .mbx] = b.outside [.nv, .evr, .mbx]) :
    b' = { b with nv := b'.nv, evr := b'.evr, mbx := b'.mbx } :=
  (eq_of_outside h).trans (by simp)

theorem only_nv_time_evr_mbx_net (h : b'.outside [.nv, .time, .evr, .mbx, .net] = b.outside [.nv, .time, .evr, .mbx, .net]) :
    b' = { b with nv := b'.nv, time := b'.time, evr := b'.evr, mbx := b'.mbx, net := b'.net } :=
  (eq_of_outside h).trans (by simp)

theorem only_nv_time_evr_mbx_cnv_fab (h : b'.outside [.nv, .time, .evr, .mbx, .cnv, .fab] = b.outside [.nv, .time, .evr, .mbx, .cnv, .fab]) :
    b' = { b with nv := b'.nv, time := b'.time, evr := b'.evr, mbx := b'.mbx, cnv := b'.cnv, fab := b'.fab } :=
  (eq_of_outside h).trans (by simp)

theorem only_nv_time_evr_mbx (h : b'.outside [.nv, .time, .evr, .mbx] = b.outside [.nv, .time, .evr, .mbx]) :
    b' = { b with nv := b'.nv, time := b'.time, evr := b'.evr, mbx := b'.mbx } :=
  (eq_of_outside h).trans (by simp)

theorem only_nv_evr_mbx_wheel_lgc (h : b'.outside [.nv, .evr, .mbx, .wheel, .lgc] = b.outside [.nv, .evr, .mbx, .wheel, .lgc]) :
    b' = { b with nv := b'.nv, evr := b'.evr, mbx := b'.mbx, wheel := b'.wheel, lgc := b'.lgc } :=
  (eq_of_outside h).trans (by simp)

theorem only_nv_evr_mbx_elm (h : b'.outside [.nv, .evr, .mbx, .elm] = b.outside [.nv, .evr, .mbx, .elm]) :
    b' = { b with nv := b'.nv, evr := b'.evr, mbx := b'.mbx, elm := b'.elm } :=
  (eq_of_outside h).trans (by simp)

theorem only_nv_evr_mbx_bs_dist (h : b'.outside [.nv, .evr, .mbx, .bs, .dist] = b.outside [.nv, .evr, .mbx, .bs, .dist]) :
    b' = { b with nv := b'.nv, evr := b'.evr, mbx := b'.mbx, bs := b'.bs, dist := b'.dist } :=
  (eq_of_outside h).trans (by simp)

theorem only_nv_evr_mbx_cnv_bs (h : b'.outside [.nv, .evr, .mbx, .cnv, .bs] = b.outside [.nv, .evr, .mbx, .cnv, .bs]) :
    b' = { b with nv := b'.nv, evr := b'.evr, mbx := b'.mbx, cnv := b'.cnv, bs := b'.bs } :=
  (eq_of_outside h).trans (by simp)

end

/-- Settles O20: each of these commands writes its own parts and what an event writes. -/
theorem raisingCommandsKeepToTheirParts : Obligations.RaisingCommandsKeepToTheirParts := by
  refine ⟨fun s p long => ⟨_, rfl, only_nv_evr_mbx_net (rxBad_outside p long s.blk (by simp))⟩,
    fun s p => ⟨_, rfl, only_nv_evr_mbx_net (prpLost_outside p s.blk (by simp))⟩,
    fun s p => ⟨_, rfl, only_nv_evr_mbx_net (ringOpen_outside p s.blk (by simp))⟩,
    fun s => ⟨_, rfl, only_nv_evr_mbx_fside_bar (upDi_outside s.blk (by simp))⟩,
    fun s => ⟨_, rfl, only_nv_evr_mbx_fside_bar (auxIdle_outside s.blk (by simp))⟩,
    fun s j cur => ⟨_, rfl, only_nv_evr_mbx_fside_bar (auxDiag_outside j cur s.blk (by simp))⟩,
    fun s ft => ⟨_, rfl, only_nv_evr_mbx_fside_bar (auxTime_outside ft s.blk (by simp))⟩,
    fun s vfld temp => ⟨_, rfl, only_nv_evr_mbx_fside_bar (auxStatus_outside vfld temp s.blk (by simp))⟩,
    fun s a => ⟨_, rfl, only_nv_evr_mbx_fside_bar (auxEcho_outside a s.blk (by simp))⟩,
    fun s aux => ⟨_, rfl, only_nv_evr_mbx_fside_bar (upBad_outside aux s.blk (by simp))⟩,
    fun s => ⟨_, rfl, only_nv_evr_mbx_bar (upLoss_outside s.blk (by simp))⟩,
    fun s a => ⟨_, rfl, only_nv_evr_mbx_bar (echoBad_outside a s.blk (by simp))⟩,
    fun s => ⟨_, rfl, only_nv_evr_mbx_fab (pendAdmit_outside s.blk (by simp))⟩,
    fun s => ⟨_, rfl, only_nv_evr_mbx_fab (ownProbEnd_outside s.blk (by simp))⟩,
    fun s => ⟨_, rfl, only_nv_evr_mbx_fab (twRx_outside s.blk (by simp))⟩,
    fun s => ⟨_, rfl, only_nv_evr_mbx_fab (twExpire_outside s.blk (by simp))⟩,
    fun s => ⟨_, rfl, only_nv_evr_mbx_fab (sessCloseRx_outside s.blk (by simp))⟩,
    fun s bsd d => ⟨_, rfl, only_nv_evr_mbx_acc_bs_dist ((distObserve_outside _ (by simp)).trans (twClose_outside bsd d s.blk (by simp)))⟩,
    fun s bsd d => ⟨_, rfl, only_nv_evr_mbx_acc_bs_dist ((distObserve_outside _ (by simp)).trans (twDeadEnd_outside bsd d s.blk (by simp)))⟩,
    fun s bsd d => ⟨_, rfl, only_nv_evr_mbx_acc_bs_dist ((distObserve_outside _ (by simp)).trans (incRelease_outside bsd d s.blk (by simp)))⟩,
    fun s => ⟨_, rfl, only_nv_time_evr_mbx_cnv_acc_snap ((snapCatch_outside _ (by simp)).trans (publish_outside s.blk (by simp)))⟩,
    fun s => ⟨_, rfl, only_nv_evr_mbx_dist (recordClose_outside s.blk (by simp))⟩,
    fun s => ⟨_, rfl, only_nv_evr_mbx_dist (recordComplete_outside s.blk (by simp))⟩,
    fun s mem row ok => ⟨_, rfl, only_nv_evr_mbx_flt (marchDone_outside mem row ok s.blk (by simp))⟩,
    fun s => ⟨_, rfl, only_nv_evr_mbx_flt (dieHot_outside s.blk (by simp))⟩,
    fun s up speed width => ⟨_, rfl, only_nv_evr_mbx (linkState_outside up speed width s.blk (by simp))⟩,
    fun s => ⟨_, rfl, only_nv_evr_mbx (accessError_outside s.blk (by simp))⟩,
    fun s p => ⟨_, rfl, only_nv_time_evr_mbx_net (timedLaunch_outside p s.blk (by simp))⟩,
    fun s p domain seq requester => ⟨_, rfl, only_nv_time_evr_mbx_net (ptpPdelayReq_outside p domain seq requester s.blk (by simp))⟩,
    fun s p k => ⟨_, rfl, only_nv_time_evr_mbx_net (ptpInterval_outside p k s.blk (by simp))⟩,
    fun s pair => ⟨_, rfl, only_nv_time_evr_mbx_net (supervise_outside 1 pair s.blk (by simp))⟩,
    fun s h own sup mine => ⟨_, rfl, only_nv_time_evr_mbx_net (hsrForward_outside h own sup mine s.blk (by simp))⟩,
    fun s pair => ⟨_, rfl, only_nv_time_evr_mbx_net (supervise_outside 2 pair s.blk (by simp))⟩,
    fun s => ⟨_, rfl, only_nv_time_evr_mbx_cnv_fab (tim10mLoss_outside s.blk (by simp))⟩,
    fun s v => ⟨_, rfl, only_nv_time_evr_mbx (incTransfer_outside v s.blk (by simp))⟩,
    fun s abs => ⟨_, rfl, only_nv_time_evr_mbx_cnv_fab (applyStep_outside _ _ s.blk (by simp))⟩,
    fun s p => ⟨_, rfl, only_nv_time_evr_mbx_cnv_fab (annTimeout_outside p s.blk (by simp))⟩,
    fun s => ⟨_, rfl, only_nv_time_evr_mbx_cnv_fab (holdoverExpiry_outside s.blk (by simp))⟩,
    fun s => ⟨_, rfl, only_nv_time_evr_mbx_cnv_fab (steppedTimeout_outside s.blk (by simp))⟩,
    fun s => ⟨_, rfl, only_nv_time_evr_mbx_cnv_fab (estRecompute_outside s.blk (by simp))⟩,
    fun s => ⟨_, rfl, only_nv_time_evr_mbx_cnv_fab (timeCfgDue_outside s.blk (by simp))⟩,
    fun s => ⟨_, rfl, only_nv_time_evr_mbx_cnv_fab (timeSetEffect_outside s.blk (by simp))⟩,
    fun s n => ⟨_, rfl, only_nv_evr_mbx_wheel_lgc (timerExpiry_outside n s.blk (by simp))⟩,
    fun s => ⟨_, rfl, only_nv_evr_mbx_elm (latchClearEffect_outside s.blk (by simp))⟩,
    fun s j => ⟨_, rfl, only_nv_evr_mbx_bs_dist ((distObserve_outside _ (by simp)).trans (minOnExpiry_outside j s.blk (by simp)))⟩,
    fun s k => ⟨_, rfl, only_nv_evr_mbx_cnv_bs (testStart_outside k s.blk (by simp))⟩,
    fun s => ⟨_, rfl, only_nv_evr_mbx_fside_bar (downBad_outside s.blk (by simp))⟩,
    fun s k => ⟨_, rfl, only_nv_evr_mbx_cnv_bs (returningEnd_outside k s.blk (by simp))⟩⟩

end Sys2Proof.Machine
end

section
-- One declaration after another: the check compiles the whole text under a memory limit.
set_option Elab.async false
/-! SUPPORT. Reset, release and the steps of the startup sequence. -/

namespace Sys2Proof.Machine
open Sys2Proof

@[simp] theorem resetLogic_fuse (cause : Nat) (b : Block) : (b.resetLogic cause).nv.fuse = b.nv.fuse := by simp [Block.resetLogic]

/-- The step before being complete, a step of the sequence is complete and STAGE follows. -/
theorem reach_eq {k : Nat} {b : Block} (h : b.sys.step + 1 = k) :
    b.reach k = { b with sys := { b.sys with step := k, stage := if b.sys.recovery then 0xF else stageOf k } } := if_pos h

@[simp] theorem fault_step (c : FClass) (b : Block) : (b.fault c).sys.step = b.sys.step := by cases c <;> rfl

theorem fault_degraded (c : FClass) (b : Block) (h : b.sys.degraded = true) : (b.fault c).sys.degraded = true := by
  cases c
  · exact h
  · exact h
  · rfl
  · rfl

/-! ### The boot ROM -/

theorem booted_own {b : Block} {a o : Bool} (hp : b.lands.porst = false) (hrun : b.time.run = false)
    (hok : b.nv.slotOk b.nv.bootWord.2 = true) (hver : (if b.nv.bootWord.2 = 0 then a else o) = true) :
    b.booted a o = Block.reach 1 { b with time := { b.time with run := true }, sys := { b.sys with slotB := b.nv.bootWord.2 == 1 } } := by
  simp only [Block.booted, hp, hrun, hok, hver, Bool.or_self, Bool.false_eq_true, if_false, Bool.and_self, if_true]

theorem booted_other {b : Block} {a o : Bool} (hp : b.lands.porst = false) (hrun : b.time.run = false)
    (hle : b.nv.bootWord.2 ≤ 1) (hbad : b.nv.slotOk b.nv.bootWord.2 = false ∨ (if b.nv.bootWord.2 = 0 then a else o) = false)
    (hok : b.nv.slotOk (1 - b.nv.bootWord.2) = true) (hver : (if b.nv.bootWord.2 = 0 then o else a) = true) :
    b.booted a o = (Block.reach 1 { b with time := { b.time with run := true }, sys := { b.sys with slotB := b.nv.bootWord.2 == 0, degraded := true } }).raise
      458 ((1 - b.nv.bootWord.2 : Nat) : Int) := by
  have hown : (b.nv.slotOk b.nv.bootWord.2 && (if b.nv.bootWord.2 = 0 then a else o)) = false := by
    rcases hbad with h | h <;> simp [h]
  have hother : (if 1 - b.nv.bootWord.2 = 0 then a else o) = true := by
    rcases Nat.le_one_iff_eq_zero_or_eq_one.mp hle with h | h <;> simpa [h] using hver
  simp only [Block.booted, hp, hrun, hown, hok, hother, Bool.or_self, Bool.false_eq_true, if_false, Bool.and_self, if_true]

theorem booted_recovery {b : Block} {a o : Bool} (hp : b.lands.porst = false) (hrun : b.time.run = false)
    (hle : b.nv.bootWord.2 ≤ 1) (hA : b.nv.slotOk 0 = false ∨ a = false) (hB : b.nv.slotOk 1 = false ∨ o = false) :
    b.booted a o = Block.reach 1 { b with time := { b.time with run := true }, sys := { b.sys with recovery := true } } := by
  have hA' : (b.nv.slotOk 0 && a) = false := by rcases hA with h | h <;> simp [h]
  have hB' : (b.nv.slotOk 1 && o) = false := by rcases hB with h | h <;> simp [h]
  rcases Nat.le_one_iff_eq_zero_or_eq_one.mp hle with h | h <;>
    simp [Block.booted, hp, hrun, h, hA', hB']

/-! ### The memory self-test -/

theorem recStart_sys (b : Block) : b.recStart.sys = b.sys := sys_of_outside (recStart_outside (P := [.nv, .evr]) b (List.Subset.refl _))
theorem loadImages_sys (b : Block) : b.loadImages.sys = b.sys := sys_of_outside (loadImages_outside (P := [.lgc]) b (List.Subset.refl _))
theorem linkStart_sys (b : Block) : b.linkStart.sys = b.sys := sys_of_outside (linkStart_outside (P := .bar :: Part.event) b (List.Subset.refl _))

/-- The startup's records put their settings in force and complete no step. -/
theorem loadRecords_step (b : Block) : b.loadRecords.sys.step = b.sys.step := by
  unfold Block.loadRecords
  refine (foldl_keeps (fun b : Block => b.sys) _ (fun c x => ?_) _ _ |> congrArg SysSt.step).trans ?_
  · split
    · exact sys_of_outside (putRoute_outside (P := [.fab]) _ _ _ _ _ (List.Subset.refl _))
    · rfl
  · rw [sys_of_outside (trackApply_outside (P := [.cnv, .acc]) _ _ (List.Subset.refl _)),
      sys_of_outside (timeCfgApply_outside (P := .time :: Part.event) _ _ (List.Subset.refl _))]

theorem rebuild_sys (lost : List Nat) (b : Block) : (b.rebuild lost).sys = b.sys := by
  unfold Block.rebuild
  dsimp only
  split
  · rfl
  · split
    · rfl
    · exact foldl_keeps Block.sys _ (fun c x => sys_of_outside (erased_ok_outside (P := Part.event) _ _ _ (List.Subset.refl _))) _ _

theorem startPairs_step (bad : List Nat) (b : Block) : (b.startPairs bad).sys.step = b.sys.step := by
  unfold Block.startPairs
  refine (foldl_keeps (fun b : Block => b.sys.step) _ (fun c x => ?_) _ _).trans (foldl_keeps (fun b : Block => b.sys.step) _ (fun c x => ?_) _ _)
  · split
    · simp
    · split <;> simp
  · rfl

/-- What a memory that failed its test leaves: DEGRADED, its event, and outside the pairs a fault. -/
def memoryFailed (b : Block) (m : Nat) : Block :=
  let c := Block.raise 457 m { b with sys := { b.sys with degraded := true } }
  if decide (4 ≤ m ∧ m ≤ 12) then c else c.fault .lasting

theorem memoryFailed_step (b : Block) (m : Nat) : (memoryFailed b m).sys.step = b.sys.step := by
  unfold memoryFailed
  dsimp only
  split <;> simp

theorem memoryFailed_degraded (b : Block) (m : Nat) : (memoryFailed b m).sys.degraded = true := by
  unfold memoryFailed
  dsimp only
  split
  · simp
  · exact fault_degraded _ _ (by simp)

theorem memoryFailed_fold_degraded (l : List Nat) (b : Block) (h : b.sys.degraded = true ∨ l ≠ []) : (l.foldl memoryFailed b).sys.degraded = true := by
  induction l generalizing b with
  | nil => exact h.resolve_right (by simp)
  | cons m l ih => exact ih _ (.inl (memoryFailed_degraded b m))

theorem startFrame_run (ins : Bool) (b : Block) : (b.startFrame ins).bar.run = b.bar.run :=
  foldl_keeps (fun b : Block => b.bar.run) _ (fun c j => by simp) _ _

theorem linkStart_run (b : Block) : b.linkStart.bar.run = true := startFrame_run false _

theorem memoryTested_eq {bad lost : List Nat} {b : Block} (h : b.sys.step = 1) : b.memoryTested bad lost = Block.reach 2
    ((bad.foldl memoryFailed (Block.startPairs ((bad.filter fun m => decide (4 ≤ m ∧ m ≤ 12)).map (· - 4))
      (Block.rebuild lost (if b.recStart.loadRecords.sys.recovery then b.recStart.loadRecords else b.recStart.loadRecords.loadImages)))).linkStart) := by
  rw [Block.memoryTested, if_neg (not_not_intro h)]
  rfl

theorem memoryTested_inner_step (bad lost : List Nat) (b : Block) : (bad.foldl memoryFailed (Block.startPairs ((bad.filter fun m => decide (4 ≤ m ∧ m ≤ 12)).map (· - 4))
    (Block.rebuild lost (if b.recStart.loadRecords.sys.recovery then b.recStart.loadRecords else b.recStart.loadRecords.loadImages)))).linkStart.sys.step =
    b.sys.step := by
  have hload : (if b.recStart.loadRecords.sys.recovery then b.recStart.loadRecords else b.recStart.loadRecords.loadImages).sys.step = b.sys.step := by
    rw [apply_ite (fun b : Block => b.sys.step), loadImages_sys, ite_self, loadRecords_step, recStart_sys]
  rw [linkStart_sys, foldl_keeps (fun b : Block => b.sys.step) _ (fun c m => memoryFailed_step c m), startPairs_step, rebuild_sys, hload]

/-! ### The backstop's arming -/

theorem bsRewrite_sys (w : List Byte) (b : Block) : (b.bsRewrite w).sys = b.sys := by simp [Block.bsRewrite]

theorem bsLoad_sys (g : List Byte) (b : Block) : (b.bsLoad g).sys = { b.sys with backstop := true } := by
  have hdrive : ((List.range 64).foldl (fun (b : Block) j => b.driveEnd j) b).sys = b.sys := by
    refine foldl_keeps Block.sys _ (fun c j => ?_) _ _
    exact sys_of_outside (driveEnd_outside (P := [.evr, .bs]) _ _ (List.Subset.refl _))
  simp only [Block.bsLoad, hdrive]

/-- Arming with a copy that verifies sets BACKSTOP and completes no step. -/
theorem arm_of_good {a o : Bool} {b : Block} (h : a = true ∧ b.nv.bsTorn ≠ some 0 ∨ o = true ∧ b.nv.bsTorn ≠ some 1) :
    (b.arm a o).sys.step = b.sys.step ∧ (b.arm a o).sys.backstop = true := by
  have hgood : (a && b.nv.bsTorn != some 0) = true ∨ (o && b.nv.bsTorn != some 1) = true := by simpa using h
  unfold Block.arm
  extract_lets g h' src worse again w
  have hagain : ∀ w x, (again w x).sys = x.sys := fun w x => by
    dsimp only [again]
    split
    · exact bsRewrite_sys _ _
    · rfl
  split
  · next hA hB => simp [hA, hB] at hgood
  · simp [hagain, bsLoad_sys, worse, src]
  · simp [hagain, bsLoad_sys, worse, src]
  · split
    · simp [hagain, bsLoad_sys]
    · simp [bsRewrite_sys, bsLoad_sys]

/-! ### The calibration -/

/-- The calibration's mark and the housekeeping origin. -/
def calibMarks (b : Block) : Bool × Nat := (b.cnv.calib, b.cnv.hkOrg)

theorem calibIndex_marks (k : Nat) (res : TestRes) (b : Block) : calibMarks (b.calibIndex k res) = calibMarks b := by
  unfold Block.calibIndex
  dsimp only
  split
  · rfl
  · simp only [calibMarks, fault_cnv]
    rw [cnv_of_outside (verdictEvents_outside (P := Part.event) _ _ _ _ _ _ (List.Subset.refl _))]
    rfl

theorem calibIndex_step (k : Nat) (res : TestRes) (b : Block) : (b.calibIndex k res).sys.step = b.sys.step := by
  unfold Block.calibIndex
  dsimp only
  split
  · rfl
  · rw [fault_step, sys_of_outside (verdictEvents_outside (P := Part.event) _ _ _ _ _ _ (List.Subset.refl _))]
    rfl

theorem calibrated_marks {trims : List (Nat × Int × Int)} {res : List (Nat × TestRes)} {b : Block} (h : b.sys.step = 2) :
    calibMarks (b.calibrated trims res) = (true, b.now) ∧ (b.calibrated trims res).sys.step = 3 := by
  rw [Block.calibrated, if_neg (not_not_intro h)]
  extract_lets convs src b0 b1 ins
  have hmarks : calibMarks b1 = (true, b.now) := foldl_keeps calibMarks _ (fun c x => by
    split
    · exact calibIndex_marks _ _ c
    · rfl) res b0
  have hstep : b1.sys.step = 2 := (foldl_keeps (fun b : Block => b.sys.step) _ (fun c x => by
    split
    · exact calibIndex_step _ _ c
    · rfl) res b0).trans h
  have hrestart : ∀ (c : Block) n, calibMarks (c.restartInput c.now n) = calibMarks c := fun _ _ => rfl
  have hrestep : ∀ (c : Block) n, (c.restartInput c.now n).sys.step = c.sys.step := fun _ _ => rfl
  constructor
  · rw [calibMarks, reach_cnv]
    exact (foldl_keeps calibMarks _ hrestart ins b1).trans hmarks
  · exact reach_next (congrArg (· + 1) ((foldl_keeps (fun b : Block => b.sys.step) _ hrestep ins b1).trans hstep))

/-- Settles O30: each command's arm under the step before it. -/
theorem startupStepsComplete : Obligations.StartupStepsComplete := by
  refine ⟨fun s => ⟨_, rfl, rfl, rfl, resetLogic_fuse 0 _, rfl, rfl, rfl, rfl, rfl, rfl⟩,
    fun s h c hp => ⟨_, rfl, by simp [Block.release, hp]⟩,
    fun s a o hp hrun hstep hok hver => ⟨_, rfl, ?_⟩, fun s a o hp hrun hstep hle hbad hok hver => ⟨_, rfl, ?_⟩,
    fun s a o hp hrun hstep hle hA hB => ⟨_, rfl, ?_⟩, fun s bad lost hstep => ⟨_, rfl, ?_⟩, fun s trims res hstep => ⟨_, rfl, ?_⟩,
    fun s a o hstep hgood => ⟨_, rfl, ?_⟩, fun s a o hstep hA hB => ⟨_, rfl, ?_⟩, fun s hstep => ⟨_, rfl, ?_⟩,
    fun s hstep hrec htab => ⟨_, rfl, ?_⟩, fun s hstep => ⟨_, rfl, ?_⟩, fun s p hrun hp hnow hlink => ⟨_, rfl, ?_⟩,
    fun s => ⟨_, rfl, rfl⟩, fun s hdue => ⟨_, rfl, ?_⟩⟩
  · rw [booted_own hp hrun hok hver, reach_eq (by simp [hstep])]
    simp [stageOf]
  · rw [booted_other hp hrun hle hbad hok hver, reach_eq (by simp [hstep])]
    simp
  · rw [booted_recovery hp hrun hle hA hB, reach_eq (by simp [hstep])]
    simp
  · rw [memoryTested_eq hstep, reach_eq (by rw [memoryTested_inner_step, hstep])]
    exact ⟨linkStart_run _, rfl, fun hbad => by
      dsimp only
      rw [linkStart_sys]
      exact memoryFailed_fold_degraded _ _ (.inr hbad)⟩
  · obtain ⟨hmarks, hnext⟩ := calibrated_marks (trims := trims) (res := res) hstep
    exact ⟨congrArg Prod.fst hmarks, congrArg Prod.snd hmarks, hnext⟩
  · rw [Block.armStep, if_pos hstep, reach_eq (by rw [hstep])]
    exact arm_of_good hgood
  · rw [Block.armStep, if_pos hstep, reach_eq (by rw [hstep])]
    have hA' : (a && s.blk.nv.bsTorn != some 0) = false := by rcases hA with h | h <;> simp [h]
    have hB' : (o && s.blk.nv.bsTorn != some 1) = false := by rcases hB with h | h <;> simp [h]
    simp [Block.arm, hA', hB']
  · simp [Block.rootOpen, hstep, Block.reach]
  · simp [Block.tableLoad, hstep, hrec, htab, elementTableLoad]
  · rw [Block.fabricServed, if_pos hstep]
    exact ⟨by simp, Nat.le_trans (Nat.le_of_eq (reach_next (by simp [hstep])).symm) (admitEnd_mono _)⟩
  · have hat : (if s.blk.sys.linkUpAt.getD p 0 = 0 then 1000 * msE else max (1000 * msE) (s.blk.sys.linkUpAt.getD p 0 + 250 * msE)) ≤ s.blk.now := by
      split <;> omega
    simp only [Block.admissionEnd, hrun, hp, hat, decide_true, Bool.and_self, if_true, admitEnd_sys_admDone]
  · simp [hdue, Block.resetLogic]
end Sys2Proof.Machine
end

section
-- One declaration after another: the check compiles the whole text under a memory limit.
set_option Elab.async false
/-! SUPPORT. Rails, resets by the supplies, the loss of TIM10M, the orderly shutdown and the field lockout. -/

namespace Sys2Proof.Machine
open Sys2Proof

/-! ### The servo's state -/

theorem reEst_time (b : Block) : b.reEst.time.servo.state = b.time.servo.state ∧ b.reEst.time.lost = b.time.lost := ⟨rfl, rfl⟩

theorem setTState_state (st : TState) (b : Block) : (b.setTState st).time.servo.state = st ∧ (b.setTState st).time.lost = b.time.lost := by
  unfold Block.setTState
  dsimp only
  split
  · next h => exact ⟨h, rfl⟩
  · simp [reEst_time]

/-! ### The orderly shutdown -/

theorem shutCancel_sys (b : Block) : b.shutCancel.sys = { b.sys with shutdown := none, flushed := false, cancel := false } := by
  unfold Block.shutCancel
  dsimp only
  split <;> rfl

theorem shutCancel_lands (b : Block) : b.shutCancel.lands = b.lands :=
  lands_of_outside (shutCancel_outside (P := [.nv, .sys, .evr]) b (by simp))

/-- A record's write, done, leaves the system's state. -/
theorem jobDone_record_sys {j : FJob} (h : j.isRecord = true) (st : Nat) (b : Block) : (b.jobDone j st).sys = b.sys := by
  unfold FJob.isRecord at h
  unfold Block.jobDone
  split at h
  · next prot rid r hj =>
    simp only [hj]
    refine sys_of_outside (P := .cnv :: .acc :: .bar :: .wheel :: .elm :: .lgc :: .dist :: Part.reply) ?_
    (repeat' split) <;> simp
  · next hj =>
    simp only [hj]
    rfl
  · exact absurd h (by simp)

theorem flushRecords_sys (fuel : Nat) (b : Block) : (b.flushRecords fuel).sys = b.sys := by
  induction fuel generalizing b with
  | zero => rfl
  | succ n ih =>
    unfold Block.flushRecords
    split
    · next j hj => rw [ih, jobDone_record_sys (List.find?_some hj)]
    · rfl

/-- The shutdown's own bits: who asked for it, whether it is flushed, whether its cancellation was asked. -/
def shutBits (b : Block) : Option ShutBy × Bool × Bool := (b.sys.shutdown, b.sys.flushed, b.sys.cancel)

theorem shutBits_of_outside {P : List Part} {b b' : Block} (h : b'.outside P = b.outside P) (hp : .sys ∉ P := by simp) : shutBits b' = shutBits b := by
  rw [shutBits, shutBits, sys_of_outside h hp]

theorem fault_shutBits (c : FClass) (b : Block) : shutBits (b.fault c) = shutBits b := by cases c <;> rfl

theorem flashRes_shutBits (area : Nat) (res : FlashRes) (b : Block) : shutBits (b.flashRes area res) = shutBits b := by
  cases res
  · rfl
  · rw [Block.flashRes, fault_shutBits]
    simp [shutBits]
  · rw [Block.flashRes, fault_shutBits]
    simp [shutBits]

/-- What the flush writes before it is complete. -/
def flushWritten (res : FlashRes) (b : Block) : Block :=
  let c := b.flushRecords (2 * b.nv.jobs.length)
  if c.evr.started then
    let d := (c.flashRes 1 res).newInterval
    if res.status = stOK then d.summaryDone (c.summary 1) else d.summaryLost (c.summary 1)
  else c

theorem flushWritten_shutBits (res : FlashRes) (b : Block) : shutBits (flushWritten res b) = shutBits b := by
  have hrecords : shutBits (b.flushRecords (2 * b.nv.jobs.length)) = shutBits b := by rw [shutBits, flushRecords_sys, shutBits]
  have hsummary : ∀ c : Block, shutBits (c.flashRes 1 res).newInterval = shutBits c := fun c => flashRes_shutBits 1 res c
  unfold flushWritten
  dsimp only
  split
  · refine Eq.trans ?_ ((hsummary _).trans hrecords)
    split
    · exact shutBits_of_outside (summaryDone_outside (P := [.nv]) _ _ (List.Subset.refl _))
    · exact shutBits_of_outside (summaryLost_outside (P := [.nv, .evr]) _ _ (List.Subset.refl _))
  · exact hrecords

/-- A flush in a shutdown that is not flushed sets FLUSHED, or ends the shutdown whose cancellation was asked. -/
theorem flushed_eq {res : FlashRes} {b : Block} (hs : b.sys.shutdown.isSome = true) (hf : b.sys.flushed = false) :
    b.flushed res = if (flushWritten res b).sys.cancel then
      Block.shutCancel { flushWritten res b with sys := { (flushWritten res b).sys with flushed := true } }
    else { flushWritten res b with sys := { (flushWritten res b).sys with flushed := true } } := by
  have hgo : (b.sys.shutdown.isNone || b.sys.flushed) = false := by simp [hf, Option.isNone_eq_false_iff, hs]
  rw [Block.flushed, hgo]
  rfl

/-- Settles O31: the arm of each command under its condition. -/
theorem supplyAndShutdownCommandsComplete : Obligations.SupplyAndShutdownCommandsComplete := by
  refine ⟨fun s r hr hp hrail => ⟨_, rfl, ?_⟩, fun s r mV hrail => ⟨_, rfl, ?_⟩,
    fun s => ⟨_, rfl, rfl, rfl, rfl, rfl, resetLogic_fuse 1 _⟩, fun s => ⟨_, rfl, rfl, rfl, rfl, rfl, resetLogic_fuse 2 _⟩,
    fun s href hlost => ⟨_, rfl, ?_⟩, fun s hland => ⟨_, rfl, ?_⟩, fun s => ⟨_, rfl, ?_⟩, fun s res hs hf => ⟨_, rfl, ?_⟩,
    fun s hpow => ⟨_, rfl, ?_⟩, fun s hpow => ⟨_, rfl, ?_⟩⟩
  · have hr' : ¬ 4 ≤ r := by omega
    have hgo : (decide (4 ≤ r) || s.blk.lands.porst || s.blk.sys.rails.getD r false) = false := by rw [hp, hrail]; simpa using hr
    rw [Block.railOut, hgo]
    simp
  · rw [Block.railBack, if_pos hrail]
    simp
  · have hgo : (s.blk.time.ref10m && !s.blk.time.lost) = true := by simp [href, hlost]
    rw [Block.tim10mLoss, if_pos hgo]
    simp only [raise_time]
    split <;> simp [setTState_state, Block.requal]
  · simp only [Block.pwrFall, hland, Bool.not_true, Bool.false_eq_true, if_false]
    split
    · next hp => exact ⟨rfl, fun hq => absurd hp (by simp [hq])⟩
    · rw [Block.shutStart]
      split
      · next hs => exact ⟨rfl, fun _ hn => absurd hs (by simp [hn])⟩
      · simp
  · rw [Block.pwrRise]
    dsimp only
    split
    · next hs =>
      split
      · next hf => simp [hs, hf, shutCancel_sys, shutCancel_lands]
      · next hf => simp [hs, hf]
    · next hs => simp [hs]
  · have hbits := flushWritten_shutBits res s.blk
    simp only [shutBits, Prod.mk.injEq] at hbits
    obtain ⟨hby, -, hcancel⟩ := hbits
    rw [flushed_eq hs hf, hcancel]
    split
    · next hc => simp [shutCancel_sys]
    · next hc => simp [hby]
  · rw [Block.lockEnter, Block.onField, if_pos hpow]
    rfl
  · rw [Block.lockExit, Block.onField, if_pos hpow]

end Sys2Proof.Machine
end

section
-- One declaration after another: the check compiles the whole text under a memory limit.
set_option Elab.async false
/-! SUPPORT. The tick, the generation, the element pass and its publication, and the timer wheel. -/

namespace Sys2Proof.Machine
open Sys2Proof

/-! ### The clock -/

@[simp] theorem runTo_epoch (inst : Nat) (b : Block) : (b.runTo inst).time.epoch = b.time.epoch := by
  unfold Block.runTo
  split <;> rfl

/-- The clock moves no other part. -/
theorem runTo_outside_time (inst : Nat) (b : Block) : (b.runTo inst).outside [.time] = b.outside [.time] := runTo_outside inst b (by simp)

/-- What the tick latches: the detectors, the field side's inputs, the stations and VANA's QUESTIONABLE. -/
def tickLatched (b : Block) : Block :=
  let t : Block := ({ b with time := b.time.tick } : Block).latchDets b.time.epoch
  { t.latchField with lgc := { t.lgc with stnSet := t.lgc.stns }, sys := { t.sys with vanaQ := t.sys.rails.getD 3 false } }

/-- The detectors' latch moves with the clock, and leaves the other parts. -/
theorem latchDets_tick_outside (b : Block) : (({ b with time := b.time.tick } : Block).latchDets b.time.epoch).outside [.time, .acc, .elm] =
    b.outside [.time, .acc, .elm] :=
  (latchDets_outside _ _ (by simp)).trans (outside_set_time (by simp))

theorem tickLatched_time (b : Block) : (tickLatched b).time = b.time.tick := by
  rw [tickLatched]
  exact (time_of_outside (latchField_outside (P := [.bar]) _ (by simp))).trans
    (time_of_outside (latchDets_outside (P := [.acc, .elm]) b.time.epoch { b with time := b.time.tick } (by simp)))

theorem tickLatched_stnSet (b : Block) : (tickLatched b).lgc.stnSet = b.lgc.stns :=
  congrArg LgcSt.stns (lgc_of_outside (latchDets_tick_outside b))

theorem tickLatched_vanaQ (b : Block) : (tickLatched b).sys.vanaQ = b.sys.rails.getD 3 false :=
  congrArg (fun x : SysSt => x.rails.getD 3 false) (sys_of_outside (latchDets_tick_outside b))

theorem tick_epoch (t : TimeSt) : t.tick.epoch = t.epoch + 1 := rfl

/-- After its latches, the tick writes the backstop, the disturbance recorder and what an event writes. -/
theorem elementTick_outside_latched {c a e : Bool} {b : Block} (h : b.time.run = true) :
    (b.elementTick c a e).outside (.bs :: .dist :: Part.event) = (tickLatched b).outside (.bs :: .dist :: Part.event) := by
  have hcrc : ∀ (x : Bool) k (d : Block), (if x then d.bsCrcFail k else d).outside (.bs :: .dist :: Part.event) = d.outside (.bs :: .dist :: Part.event) :=
    fun x k d => outside_either (bsCrcFail_outside _ _ (by simp)) rfl
  rw [Block.elementTick]
  simp only [h, Bool.not_true, Bool.false_eq_true, if_false]
  rw [distObserve_outside _ (by simp), distTick_outside _ (by simp), hcrc, hcrc, hcrc, tickLatched]

theorem genInput_cur (n : Nat) (b : Block) : (b.genInput n).1.acc.cur = b.acc.cur := by
  unfold Block.genInput
  dsimp only
  (repeat' split) <;> rfl

/-- A fold of pairs leaves, of the block, what each of its steps leaves. -/
theorem foldl_keeps_fst {α β γ : Type} (p : Block → γ) {f : Block × β → α → Block × β} (h : ∀ x a, p (f x a).1 = p x.1) (l : List α)
    (x : Block × β) : p (l.foldl f x).1 = p x.1 :=
  foldl_keeps (fun x : Block × β => p x.1) f h l x

/-- The generation published. -/
def curGen (b : Block) : GenSet := b.acc.cur

theorem generate_cur (b : Block) : b.generate.acc.cur.epoch = b.time.epoch ∧ b.generate.acc.prev = b.acc.cur := by
  unfold Block.generate
  extract_lets e b0 r c trk pub
  refine ⟨rfl, ?_⟩
  have hb : b0.acc = b.acc := acc_of_outside (P := .cnv :: Part.event) (outside_foldl (fun x n => plausStep_outside _ _ (by simp)) _ _)
  clear_value b0
  have hg : ∀ (x : Block × Tab Gen) n, curGen (x.1.genInput n).1 = curGen x.1 := fun x n => genInput_cur n x.1
  have hr : curGen r.1 = curGen b0 := foldl_keeps_fst curGen hg _ _
  clear_value r
  exact hr.trans (congrArg AccSt.cur hb)

theorem publish_cur {b : Block} (hrun : b.time.run = true) (h : b.acc.cur.epoch < b.time.epoch) :
    b.publish.snapCatch.acc.cur.epoch = b.time.epoch ∧ b.publish.snapCatch.acc.prev = b.acc.cur := by
  have hgo : (b.time.run && decide (b.acc.cur.epoch < b.time.epoch)) = true := by simp [hrun, h]
  have hacc := acc_of_outside (runTo_outside_time (b.edgeNow + 7500 * nsE) b)
  obtain ⟨hcur, hprev⟩ := generate_cur (b.runTo (b.edgeNow + 7500 * nsE))
  rw [acc_of_outside (snapCatch_outside (P := [.snap]) _ (by simp)), Block.publish, if_pos hgo]
  exact ⟨hcur.trans (runTo_epoch _ _), hprev.trans (congrArg AccSt.cur hacc)⟩

/-! ### The element pass -/

/-- Evaluating the elements, on a loaded table, leaves this; `pass` then takes the matrix and marks the pass run. -/
def passEvaluated (b : Block) : Block :=
  let c := b.passHistory.passChk
  (c.evalAll ((c.elm.active.descs.map (·.1)).filter fun i => (c.elm.active.desc i).stage1)).evalAll
    ((c.elm.active.descs.map (·.1)).filter fun i => !(c.elm.active.desc i).stage1)

theorem passEvaluated_outside (b : Block) : (passEvaluated b).outside (.wheel :: .elm :: Part.event) = b.outside (.wheel :: .elm :: Part.event) :=
  (evalAll_outside _ _ (by simp)).trans <| (evalAll_outside _ _ (by simp)).trans <| (passChk_outside _ (by simp)).trans (passHistory_outside _ (by simp))

theorem pass_eq {b : Block} (h : b.sys.tableLoaded = true) : b.pass = { passEvaluated b with
    elm := { (passEvaluated b).elm with nextDrive := (passEvaluated b).matrixOf, passEpoch := some (passEvaluated b).time.epoch, fresh := false }
    sys := { (passEvaluated b).sys with elemRun := true } } := by
  rw [Block.pass, h]
  rfl

theorem pass_of_loaded {b : Block} (h : b.sys.tableLoaded = true) :
    b.pass.sys = { b.sys with elemRun := true } ∧ b.pass.elm.passEpoch = some b.time.epoch ∧ b.pass.elm.fresh = false := by
  rw [pass_eq h]
  exact ⟨congrArg (fun x : SysSt => { x with elemRun := true }) (sys_of_outside (passEvaluated_outside b)),
    congrArg (fun t : TimeSt => some t.epoch) (time_of_outside (passEvaluated_outside b)), rfl⟩

theorem logicSteps_step (b : Block) : b.sys.step ≤ b.logicSteps.sys.step := by
  unfold Block.logicSteps
  extract_lets all b1 src b2 b3
  have h1 : b.sys.step ≤ b1.sys.step := by
    dsimp only [b1]
    split
    · exact reach_mono _ _
    · exact Nat.le_refl _
  have h2 : b.sys.step ≤ b2.sys.step := h1
  split
  · simp only [raise_sys]
    exact Nat.le_trans h2 (reach_mono 8 b2)
  · exact h2

theorem logicSteps_elemRun (b : Block) : b.logicSteps.sys.elemRun = b.sys.elemRun := by
  unfold Block.logicSteps
  extract_lets all b1 src b2 b3
  have h1 : b1.sys.elemRun = b.sys.elemRun := by
    dsimp only [b1]
    split
    · simp
    · rfl
  have h2 : b2.sys.elemRun = b.sys.elemRun := h1
  split
  · simp only [raise_sys]
    exact (reach_sys_elemRun 8 b2).trans h2
  · exact h2

theorem afterLogic_sys (b : Block) : b.afterLogic.sys = b.logicSteps.sys := by
  unfold Block.afterLogic
  dsimp only
  split
  · exact sys_of_outside (distStart_outside (P := .bar :: .dist :: Part.event) _ (by simp))
  · rfl

/-- The clock moved to the pass's end. -/
def passClock (b : Block) : Block := b.runTo (b.edgeNow + 7812 * nsE + nsE / 2)

theorem passClock_sys (b : Block) : (passClock b).sys = b.sys := sys_of_outside (runTo_outside_time _ b)

theorem elementPass_again {b : Block} (ht : b.sys.tableLoaded = true) (hr : b.sys.elemRun = true) (he : b.acc.cur.epoch = b.time.epoch)
    (hp : b.elm.passEpoch ≠ some b.time.epoch) (hq : b.elm.pubEpoch ≠ b.time.epoch) : b.elementPass = (passClock b).pass.afterLogic := by
  have hrun : (passClock b).pass.sys.elemRun = true := by rw [(pass_of_loaded (by rw [passClock_sys, ht])).1]
  have hgo : ¬ (decide (b.acc.cur.epoch ≠ b.time.epoch) || decide (b.elm.passEpoch = some b.time.epoch) ||
      (b.sys.elemRun && decide (b.elm.pubEpoch = b.time.epoch))) = true := by simp [he, hp, hq]
  rw [passClock] at hrun
  rw [Block.elementPass, if_neg hgo, passClock]
  simp only [hr, hrun, Bool.not_true, Bool.false_eq_true, if_false]

theorem elementPass_first {b : Block} (ht : b.sys.tableLoaded = true) (hr : b.sys.elemRun = false) (he : b.acc.cur.epoch = b.time.epoch)
    (hp : b.elm.passEpoch ≠ some b.time.epoch) : b.elementPass = ((passClock b).pass.reach 6).startSlots.afterLogic := by
  have hrun : (passClock b).pass.sys.elemRun = true := by rw [(pass_of_loaded (by rw [passClock_sys, ht])).1]
  have hgo : ¬ (decide (b.acc.cur.epoch ≠ b.time.epoch) || decide (b.elm.passEpoch = some b.time.epoch) ||
      (b.sys.elemRun && decide (b.elm.pubEpoch = b.time.epoch))) = true := by simp [he, hp, hr]
  rw [passClock] at hrun
  rw [Block.elementPass, if_neg hgo, passClock]
  simp only [hr, hrun, Bool.not_true, Bool.not_false, Bool.false_eq_true, if_false, if_true]

theorem afterLogic_elm (b : Block) : b.afterLogic.elm = b.elm :=
  elm_of_outside (afterLogic_outside (P := .sys :: .bar :: .dist :: Part.event) b (by simp))

theorem startSlots_sys (b : Block) : b.startSlots.sys = b.sys := sys_of_outside (startSlots_outside (P := .wheel :: .lgc :: Part.event) b (by simp))

/-! ### The publication of the states -/

/-- The states published, before the halves come into force. -/
def statesPublished (b : Block) : Block :=
  let c := b.runTo (b.edgeNow + 23437 * nsE + nsE / 2)
  { c with
    elm := { c.elm with
      prev := c.elm.pub, prevEpoch := c.elm.pubEpoch, pub := c.elm.states, pubEpoch := c.time.epoch, drive := c.elm.nextDrive
      passEpoch := none }
    wheel := { c.wheel with pub := c.wheel.timers, pubInc := c.time.freqTick }
    lgc := { c.lgc with slots := tupdAll slotD c.lgc.slots (List.range 8) fun _ y => { y with pubLast := y.last, pubTag := y.lastTag } } }

theorem publishStates_elm {b : Block} (h : b.elm.passEpoch = some b.time.epoch) : b.publishStates.elm = (statesPublished b).elm := by
  rw [Block.publishStates, if_neg (not_not_intro h)]
  refine elm_of_outside (P := .bar :: .lgc :: .dist :: .snap :: Part.reply) (b := statesPublished b) ?_
  refine (distObserve_outside _ (by simp)).trans <| (snapCatch_outside _ (by simp)).trans <| (goosePublish_outside _ _ (by simp)).trans ?_
  exact outside_foldl (fun c s => halfInForce_outside _ _ (by simp)) _ _

/-! ### The timer wheel -/

/-- The expiries of a timer up to now. -/
def Timer.expiries (now : Nat) (t : Timer) : Nat :=
  match t.mode with
  | .oneshot => b2n (t.due now)
  | .periodic => t.count now
  | _ => 0

/-- A notifying timer of the logic or the firmware class counts its expiries not notified; a task's trigger writes its slot. -/
theorem timerExpiry_wheel {n m : Nat} {b : Block} (hnot : (b.wheel.get n).notify = true) (hdone : (b.wheel.get n).done < m)
    (hcls : (b.wheel.get n).cls = 1 ∨ (b.wheel.get n).cls = 2) (hm : (b.wheel.get n).expiries (b.nowNs / 1000 * 1000) = m) :
    (b.timerExpiry n).wheel = b.wheel.upd n fun t => { t with pend := t.pend + (m - t.done), done := m } := by
  have hgo : ((b.wheel.get n).notify && decide ((b.wheel.get n).done < m) && (b.wheel.get n).cls != 0 && (b.wheel.get n).cls != 3) = true := by
    rcases hcls with h | h <;> simp [h, hnot, hdone]
  have heq : b.timerExpiry n = if (b.wheel.get n).notify && decide ((b.wheel.get n).done < (b.wheel.get n).expiries (b.nowNs / 1000 * 1000)) &&
      (b.wheel.get n).cls != 0 && (b.wheel.get n).cls != 3 then
    if (b.wheel.get n).cls = 1 then
      Block.trigger (b.wheel.get n).slot 0 (b.wheel.get n).owner b.ns64 b.time.tcQual
        { b with wheel := b.wheel.upd n fun t => { t with pend := t.pend + ((b.wheel.get n).expiries (b.nowNs / 1000 * 1000) - t.done),
                                                          done := (b.wheel.get n).expiries (b.nowNs / 1000 * 1000) } }
        ((b.wheel.get n).expiries (b.nowNs / 1000 * 1000) - (b.wheel.get n).done)
    else { b with wheel := b.wheel.upd n fun t => { t with pend := t.pend + ((b.wheel.get n).expiries (b.nowNs / 1000 * 1000) - t.done),
                                                           done := (b.wheel.get n).expiries (b.nowNs / 1000 * 1000) } }
    else b := rfl
  rw [heq, hm, if_pos hgo]
  split
  · exact wheel_of_outside (trigger_outside (P := [.lgc]) _ _ _ _ _ _ _ (by simp))
  · rfl

/-- Settles O32: the arm of each command under its condition. -/
theorem tickAndGenerationCommandsComplete : Obligations.TickAndGenerationCommandsComplete := by
  refine ⟨fun s x y z hrun => ⟨_, rfl, ?_⟩, fun s hrun hlt => ⟨_, rfl, publish_cur hrun hlt⟩, fun s ht hr he hp hq => ⟨_, rfl, ?_⟩,
    fun s ht hr he hp => ⟨_, rfl, ?_⟩, fun s he => ⟨_, rfl, ?_⟩, fun s t ht hheld hnom hat => ⟨_, rfl, ?_⟩,
    fun s n hmode hdue hnot hdone hcls => ⟨_, rfl, ?_⟩, fun s n m hmode hcnt hnot hdone hcls => ⟨_, rfl, ?_⟩, fun s n => ⟨_, rfl, rfl⟩⟩
  · have hout := elementTick_outside_latched (c := x) (a := y) (e := z) hrun
    have htime : (s.blk.elementTick x y z).time = s.blk.time.tick := (time_of_outside hout).trans (tickLatched_time _)
    refine ⟨htime, by rw [htime, tick_epoch], ?_, ?_⟩
    · rw [lgc_of_outside hout, tickLatched_stnSet]
    · rw [sys_of_outside hout, tickLatched_vanaQ]
  · dsimp only
    rw [elementPass_again ht hr he hp hq, afterLogic_elm]
    obtain ⟨-, hpass, hfresh⟩ := pass_of_loaded (b := passClock s.blk) (by rw [passClock_sys, ht])
    exact ⟨rfl, hpass.trans (by rw [passClock, runTo_epoch]), hfresh⟩
  · obtain ⟨hsys, hpass, -⟩ := pass_of_loaded (b := passClock s.blk) (by rw [passClock_sys, ht])
    rw [elementPass_first ht hr he hp]
    refine ⟨?_, ?_, fun hstep => ?_⟩
    · rw [afterLogic_elm, elm_of_outside (startSlots_outside (P := .wheel :: .lgc :: Part.event) _ (by simp)), reach_elm]
      exact hpass.trans (by rw [passClock, runTo_epoch])
    · rw [afterLogic_sys, logicSteps_elemRun, startSlots_sys, reach_sys_elemRun, hsys]
    · rw [afterLogic_sys]
      refine Nat.le_trans ?_ (logicSteps_step _)
      rw [startSlots_sys]
      exact Nat.le_of_eq (reach_next (by rw [hsys, passClock_sys]; exact congrArg (· + 1) hstep)).symm
  · have helm : (s.blk.runTo (s.blk.edgeNow + 23437 * nsE + nsE / 2)).elm = s.blk.elm := elm_of_outside (runTo_outside_time _ _)
    dsimp only
    rw [publishStates_elm he]
    simp only [statesPublished, helm, runTo_epoch, and_self]
  · have hlapse : (tget trackerD s.blk.acc.trk t).lapse s.blk.now s.blk.acc.track.fnom =
        { tget trackerD s.blk.acc.trk t with nominal := true, freq := (s.blk.acc.track.fnom, 1) } := by
      rw [Tracker.lapse, if_pos (by simp [hheld, hnom, hat])]
    simp only [Block.trackNominal, tupdAll]
    rw [tget_tupd_ne _ _ _ (by omega), tget_tupd_same, hlapse]
  · have hexp : (s.blk.wheel.get n).expiries (s.blk.nowNs / 1000 * 1000) = 1 := by simp [Timer.expiries, hmode, hdue, b2n]
    dsimp only
    rw [timerExpiry_wheel hnot (by omega) hcls hexp]
    simp only [WheelSt.upd, tupd]
    rw [show tget timerR s.blk.wheel.timers n = s.blk.wheel.get n from rfl, hdone]
  · exact timerExpiry_wheel hnot hdone hcls (by simpa [Timer.expiries, hmode] using hcnt)

end Sys2Proof.Machine
end

section
-- One declaration after another: the check compiles the whole text under a memory limit.
set_option Elab.async false
/-! SUPPORT. The strobe, the conversions and the takes, urgent requests, housekeeping, and the converters' self-tests. -/

namespace Sys2Proof.Machine
open Sys2Proof

theorem distObserve_cnv (b : Block) : b.distObserve.cnv = b.cnv := cnv_of_outside (distObserve_outside (P := .dist :: Part.event) b (by simp))
theorem distObserve_acc (b : Block) : b.distObserve.acc = b.acc := acc_of_outside (distObserve_outside (P := .dist :: Part.event) b (by simp))
theorem dieRead_cnv (b : Block) : b.dieRead.cnv = b.cnv := cnv_of_outside (dieRead_outside (P := [.flt]) b (by simp))
theorem dieRead_acc (b : Block) : b.dieRead.acc = b.acc := acc_of_outside (dieRead_outside (P := [.flt]) b (by simp))
theorem answer_cnv (r : Req) (st e : Nat) (p : List Byte) (b : Block) : (b.answer r st e p).cnv = b.cnv :=
  cnv_of_outside (answer_outside (P := Part.reply) r st e p b (by simp))
theorem runTo_cnv (inst : Nat) (b : Block) : (b.runTo inst).cnv = b.cnv := cnv_of_outside (runTo_outside_time inst b)
theorem verdictEvents_cnv (k cause : Nat) (bA bB : List Nat) (q : Nat) (b : Block) : (b.verdictEvents k cause bA bB q).cnv = b.cnv :=
  cnv_of_outside (verdictEvents_outside (P := Part.event) k cause bA bB q b (by simp))

/-! ### The strobe -/

/-- The grid's place: index, instant and number of the period. -/
def gridPlace (b : Block) : Nat × Nat × Nat := (b.cnv.idx, b.cnv.strobeEl, b.cnv.grid)

theorem verdictApply_gridPlace (k : Nat) (b : Block) : gridPlace (b.verdictApply k) = gridPlace b := by
  unfold Block.verdictApply
  dsimp only
  split
  · simp only [gridPlace, fault_cnv, verdictEvents_cnv]
    rfl
  · rfl

theorem resume_gridPlace (idx el k : Nat) (b : Block) : gridPlace (b.resume idx el k) = gridPlace b := by
  unfold Block.resume
  dsimp only
  split
  · split
    · exact verdictApply_gridPlace k _
    · rfl
  · rfl

theorem gridPlace_convs (x : Tab Conv) (b : Block) : gridPlace { b with cnv := { b.cnv with convs := x } } = gridPlace b := rfl

theorem gridPlace_ains (x : Tab AIn) (b : Block) : gridPlace { b with cnv := { b.cnv with ains := x } } = gridPlace b := rfl

theorem strobe_gridPlace {idx el : Nat} {b : Block} (h : b.onGrid el = true) : gridPlace (b.strobe idx el) = (idx, el, b.cnv.grid + 1) := by
  have hcnv : (b.runTo el).cnv = b.cnv := runTo_cnv el b
  rw [Block.strobe, if_neg (by simp [h])]
  extract_lets b0 c g ns sec b1 b2 step src b3 began
  have hresume : gridPlace b2 = gridPlace b1 := foldl_keeps gridPlace _ (fun d k => resume_gridPlace idx el k d) _ _
  have hb1 : gridPlace b1 = (idx, el, b.cnv.grid + 1) := by
    simp only [gridPlace, b1, g, c, b0, hcnv]
  exact (gridPlace_ains _ b3).trans ((gridPlace_convs _ b2).trans (hresume.trans hb1))

/-! ### The conversions -/

@[simp] theorem twin_putTwin (k : Nat) (t : Twin) (b : Block) : (b.putTwin k t).twin k = t := tget_tset_same ..

/-- The digital comparison of a conversion writes nothing of the conversion part. -/
theorem compareIf_cnv {c : Prop} [Decidable c] (p : Path) (n g : Nat) (v : Int) (b : Block) :
    (if c then b.compare p n g v else b).cnv = b.cnv := by
  split
  · exact compare_cnv ..
  · rfl

theorem overrange_convs (n inst : Nat) (clip : Bool) (b : Block) : (b.overrange n inst clip).cnv.convs = b.cnv.convs := by
  unfold Block.overrange
  dsimp only
  split
  · simp only [raiseOpen_cnv, Block.putAin]
  · simp only [quantity_cnv, Block.putAin]
  · rfl

theorem detSample_cnv (p : Path) (n : Nat) (b : Block) : (b.detSample p n).cnv = b.cnv :=
  cnv_of_outside (detSample_outside (P := .acc :: .bs :: Part.event) p n b (by simp))

theorem overrange_acc (n inst : Nat) (clip : Bool) (b : Block) : (b.overrange n inst clip).acc = b.acc :=
  acc_of_outside (overrange_outside (P := .cnv :: Part.event) n inst clip b (by simp))

theorem detSample_hist (p : Path) (n : Nat) (b : Block) : (b.detSample p n).acc.hist = b.acc.hist := by
  unfold Block.detSample
  dsimp only
  split
  · rfl
  · rw [groups_acc]

/-- What follows a sample, on the path that protects or on the other one, writes no converter and no history. -/
theorem protected_sample {c : Prop} [Decidable c] (p : Path) (n inst : Nat) (clip : Bool) {b d : Block} (hc : d.cnv.convs = b.cnv.convs)
    (ha : d.acc = b.acc) :
    (if c then (d.overrange n inst clip).detSample p n else b.detSample p n).cnv.convs = b.cnv.convs ∧
    (if c then (d.overrange n inst clip).detSample p n else b.detSample p n).acc.hist = b.acc.hist := by
  split
  · rw [detSample_cnv, overrange_convs, detSample_hist, overrange_acc, hc, ha]
    exact ⟨rfl, rfl⟩
  · rw [detSample_cnv, detSample_hist]
    exact ⟨rfl, rfl⟩

/-- What an urgent take is and has, of a converter. -/
def Conv.taking (c : Conv) : Option (Urg × Nat) × List (Int × Nat) × Nat := (c.urgent, c.kept, c.base)

theorem hkCause_taking (p : Path) (k j : Nat) (bad : Bool) (q : Int) (b : Block) :
    (tget convD (b.hkCause p k j bad q).cnv.convs (cix p k)).taking = (tget convD b.cnv.convs (cix p k)).taking := by
  have hput : ∀ x : Conv, tget convD (b.putConv (cix p k) x).cnv.convs (cix p k) = x := fun x => tget_tset_same ..
  unfold Block.hkCause
  dsimp only
  (repeat' split) <;> simp only [Block.putTwin, raiseAt_cnv, hput] <;> rfl

theorem hkJudge_taking {p : Path} {k j : Nat} {bad : Bool} {q : Int} {f : Conv → Conv} {b : Block} (hf : ∀ c, (f c).taking = c.taking) :
    (tget convD (b.hkJudge p k j bad q f).cnv.convs (cix p k)).taking = (tget convD b.cnv.convs (cix p k)).taking := by
  unfold Block.hkJudge
  split
  · rfl
  · dsimp only
    split
    · exact (congrArg Conv.taking (tget_tset_same ..)).trans ((hf _).trans (hkCause_taking p k j bad q b))
    · exact hkCause_taking p k j bad q b

theorem hkResult_taking (p : Path) (k i : Nat) (sum : Int) (n : Nat) (b : Block) :
    (tget convD (b.hkResult p k i sum n).cnv.convs (cix p k)).taking = (tget convD b.cnv.convs (cix p k)).taking := by
  have hput : ∀ x : Conv, tget convD (b.putConv (cix p k) x).cnv.convs (cix p k) = x := fun x => tget_tset_same ..
  have hid : ∀ {j : Nat} {bad : Bool} {q : Int} {x : Conv}, x.taking = (tget convD b.cnv.convs (cix p k)).taking →
      (tget convD ((b.putConv (cix p k) x).hkJudge p k j bad q id).cnv.convs (cix p k)).taking =
        (tget convD b.cnv.convs (cix p k)).taking := fun {j bad q x} hx => by
    rw [hkJudge_taking (f := id) fun _ => rfl, hput, hx]
  unfold Block.hkResult
  dsimp only
  split
  · exact hkJudge_taking fun _ => rfl
  split
  · exact hkJudge_taking fun _ => rfl
  split
  · exact hid rfl
  · exact hid rfl

theorem hkTake_taking (p : Path) (k e : Nat) (l : List (Int × Nat)) (b : Block) :
    (tget convD (b.hkTake p k e l).cnv.convs (cix p k)).taking = (tget convD b.cnv.convs (cix p k)).taking := by
  unfold Block.hkTake
  dsimp only
  split
  · rfl
  · exact hkResult_taking ..

theorem fault_twin (c : FClass) (j : Nat) (b : Block) : (b.fault c).twin j = b.twin j := by simp only [Block.twin, fault_cnv]

theorem verdictEvents_twin (k cause : Nat) (bA bB : List Nat) (q j : Nat) (b : Block) :
    (b.verdictEvents k cause bA bB q).twin j = b.twin j := by simp only [Block.twin, verdictEvents_cnv]

theorem choose_testing (t : Twin) : t.choose.testing = t.testing := by unfold Twin.choose; (repeat' split) <;> rfl

theorem choose_cause (t : Twin) : t.choose.cause = t.cause := by unfold Twin.choose; (repeat' split) <;> rfl

theorem verdictApply_twin {k cause : Nat} {bA bB : List Nat} {w : TestBy × Nat} {b : Block} (ht : (b.twin k).testing = some w)
    (hv : (b.twin k).verdict = some (cause, bA, bB)) :
    ((b.verdictApply k).twin k).testing = none ∧ ((b.verdictApply k).twin k).cause = cause := by
  obtain ⟨by_, st⟩ := w
  simp only [Block.verdictApply, ht, hv, fault_twin, verdictEvents_twin, twin_putTwin]
  rw [choose_testing, choose_cause]
  cases by_
  case ret r p => cases p <;> dsimp only <;> split <;> exact ⟨rfl, rfl⟩
  all_goals exact ⟨rfl, rfl⟩

/-- Its time runs, and its twins are as they were. -/
theorem runTo_twin (inst k : Nat) (b : Block) : (b.runTo inst).twin k = b.twin k := by simp only [Block.twin, runTo_cnv]

theorem answer_twin (r : Req) (st e : Nat) (p : List Byte) (k : Nat) (b : Block) : (b.answer r st e p).twin k = b.twin k := by
  simp only [Block.twin, answer_cnv]

theorem groups_twin (k : Nat) (b : Block) : b.groups.twin k = b.twin k := by simp only [Block.twin, groups_cnv]

/-- The verdict that stands in the takes of both converters. -/
def verdictNow (b : Block) (k : Nat) : Nat × List Nat × List Nat :=
  verdictOf (b.topGain k) (tget convD b.cnv.convs k).zeroOfs (tget convD b.cnv.convs (20 + k)).zeroOfs
    (takesRes (tget convD b.cnv.convs k).test (tget convD b.cnv.convs (20 + k)).test)

/-- The twin after a verdict: as the verdict left it, applied where the resumed period is over. -/
theorem testVerdict_twin {k el : Nat} {w : TestBy × Nat} {b : Block} (ht : (b.twin k).testing = some w) (hv : (b.twin k).verdict = none)
    (hA : takesDone (tget convD b.cnv.convs k).test = true) (hB : takesDone (tget convD b.cnv.convs (20 + k)).test = true) :
    ∃ x : Block, (x.twin k).testing = some w ∧ (x.twin k).verdict = some (verdictNow b k) ∧
      (b.testVerdict k el).twin k = (if (b.twin k).resumed then x.verdictApply k else x).twin k := by
  obtain ⟨by_, st⟩ := w
  have htop : (b.runTo el).topGain k = b.topGain k := by simp only [Block.topGain, runTo_cnv]
  have hgroups : ∀ x : Block, (if (b.twin k).resumed then (x.verdictApply k).groups else x).twin k =
      (if (b.twin k).resumed then x.verdictApply k else x).twin k := fun x => by
    split
    · exact groups_twin ..
    · rfl
  refine ⟨(b.runTo el).putTwin k { b.twin k with verdict := some (verdictNow b k) }, ?_, ?_, ?_⟩
  · rw [twin_putTwin]
    exact ht
  · rw [twin_putTwin]
  · rw [← hgroups]
    simp only [Block.testVerdict, verdictNow, runTo_twin, runTo_cnv, htop, ht, hv, hA, hB, Bool.and_self, Bool.not_true,
      Bool.false_eq_true, if_false]
    cases by_ <;> simp only [answer_twin]

/-- Settles O33: the arm of each command under its condition. -/
theorem conversionCommandsComplete : Obligations.ConversionCommandsComplete := by
  refine ⟨fun s idx el h => ⟨_, rfl, ?_⟩, fun s p k idx raw u st hsch hurg hlo hhi => ⟨_, rfl, ?_⟩,
    fun s p k idx ei base left raw c hc hsch hurg hpos hlo => ⟨_, rfl, ?_⟩,
    fun s p k n e c hc hsch hurg hkept hent hfull hin hn hsens hcal => ⟨_, rfl, ?_⟩,
    fun s p k idx u q hnext hurg htest houter hogrid => ⟨_, rfl, ?_⟩, fun s p k idx u hurg hfull => ⟨_, rfl, ?_⟩,
    fun s hcal hint hat => ⟨_, rfl, ?_⟩, fun s hcal hint hat => ⟨_, rfl, ?_⟩, fun s k w hwant htest => ⟨_, rfl, ?_⟩,
    fun s k el w htest hver hA hB => ⟨_, rfl, ?_⟩, fun s k hdis hat => ⟨_, rfl, ?_⟩, fun s k m c l hret hm => ⟨_, rfl, ?_⟩,
    fun s k m c l hret hm => ⟨_, rfl, ?_⟩⟩
  · have hplace := strobe_gridPlace (idx := idx) h
    simp only [gridPlace, Prod.mk.injEq] at hplace
    simpa using hplace
  · simp only [Block.keptConv, hsch, hurg, decide_eq_true hlo, decide_eq_true hhi, Bool.and_self, if_true]
    rw [distObserve_cnv, compareIf_cnv]
    simp only [Block.putConv]
  · subst hc
    simp only [Block.keptConv, hsch, hurg, hpos, if_pos hlo]
    rw [distObserve_cnv, compareIf_cnv]
    simp only [Block.putConv, tget_tset_same, and_self]
  · subst hc hn hent
    have hfull' : (decide (entTake (entAt (s.blk.cnv.seq k) (tget convD s.blk.cnv.convs (cix p k)).takeEnt) ≤
        (tget convD s.blk.cnv.convs (cix p k)).kept.length) || ((tget convD s.blk.cnv.convs (cix p k)).cutTake &&
          entLast (entAt (s.blk.cnv.seq k) (tget convD s.blk.cnv.convs (cix p k)).takeEnt))) = true := by simpa using hfull
    rw [distObserve_cnv, distObserve_acc]
    rw [Block.takeSample, if_neg (by simp [hurg, hkept, hfull', hsch])]
    extract_lets kept b0 i n r v a hist inst biased x w es ord gap y src b1 b2
    have hcal0 : b0.cnv.calib = true := hcal
    have hb2 : b2.cnv.convs = b1.cnv.convs ∧ b2.acc = b1.acc := by
      simp only [b2]
      split <;> exact ⟨rfl, rfl⟩
    have hafter := protected_sample (c := p = b1.protPath n) p n inst v.2 hb2.1 hb2.2
    rw [if_neg (Nat.not_le.mpr hin), if_neg (by simp only [hcal0, Bool.not_true, Bool.or_false, decide_eq_true_eq]; exact hsens), dieRead_cnv, dieRead_acc, hafter.1, hafter.2]
    refine ⟨rfl, y, congrArg List.head? (tget_tset_same ..), rfl, rfl, rfl, rfl, rfl, fun hw => ?_, fun hi => ?_⟩
    · have hbiased : biased = false := by
        rcases hw with hw | hw
        · exact Bool.and_eq_false_imp.mpr fun h => by cases hw.symm.trans h
        · exact (congrArg (r.wbEn && !·) hw).trans (Bool.and_false _)
      exact (congrArg (4 * v.1 - ·) (if_neg (by simp [hbiased]))).trans (Int.sub_zero _)
    · exact if_neg (by rw [show r.integ = false from hi]; exact Bool.false_ne_true)
  · cases p
    all_goals
      dsimp only at houter hogrid
      simp only [Block.urgentStart, hnext, hurg, htest, houter, Option.isSome_none, beq_eq_false_iff_ne.mpr hogrid, Bool.or_self,
        Bool.false_eq_true, if_false]
      split
      · exact ⟨_, _, _, rfl⟩
      · exact ⟨_, _, _, rfl⟩
  · have hput : ∀ x : Conv, tget convD (s.blk.putConv (cix p k) x).cnv.convs (cix p k) = x := fun x => tget_tset_same ..
    have htk := hkTake_taking p k u.entry (tget convD s.blk.cnv.convs (cix p k)).kept
      (s.blk.putConv (cix p k) { tget convD s.blk.cnv.convs (cix p k) with
        urgent := none, resume := false, kept := []
        base := if (tget convD s.blk.cnv.convs (cix p k)).resume then idx + entLen u.entry else (tget convD s.blk.cnv.convs (cix p k)).base })
    rw [hput] at htk
    simp only [Conv.taking, Prod.mk.injEq] at htk
    simp only [Block.urgentDone, hurg, if_neg (Nat.not_lt.mpr hfull)]
    rw [dieRead_cnv]
    split
    · exact htk
    · rw [answer_cnv]
      exact htk
  · rw [Block.hkRound, if_pos (by simp [hcal, hint, hat])]
    simp
  · rw [Block.hkRound, if_pos (by simp [hcal, hint, hat])]
    simp
  · simp [Block.testStart, hwant, htest]
  · obtain ⟨x, hx, hxv, heq⟩ := testVerdict_twin (el := el) htest hver hA hB
    rw [heq]
    split
    · exact verdictApply_twin hx hxv
    · exact ⟨hx, hxv⟩
  · rw [Block.disputedClear, if_pos (by simp [hdis, hat])]
    rfl
  · have hm' : ¬ m < 32000 := by omega
    simp [Block.returningEnd, hret, hm', Block.putTwin]
  · have hm' : ¬ m < 32000 := by omega
    simp [Block.returningEnd, hret, hm', Block.putTwin]
end Sys2Proof.Machine
end

section
-- One declaration after another: the check compiles the whole text under a memory limit.
set_option Elab.async false
/-! SUPPORT. The detector's groups, the backstop's drives, the trip insertion and the wire-break evaluation. -/

namespace Sys2Proof.Machine
open Sys2Proof

theorem distObserve_bs (b : Block) : b.distObserve.bs = b.bs := bs_of_outside (distObserve_outside (P := .dist :: Part.event) b (by simp))
theorem distObserve_flt (b : Block) : b.distObserve.flt = b.flt := flt_of_outside (distObserve_outside (P := .dist :: Part.event) b (by simp))
theorem distObserve_sys (b : Block) : b.distObserve.sys = b.sys := sys_of_outside (distObserve_outside (P := .dist :: Part.event) b (by simp))
theorem distObserve_bar (b : Block) : b.distObserve.bar = b.bar := bar_of_outside (distObserve_outside (P := .dist :: Part.event) b (by simp))
theorem distObserve_fside (b : Block) : b.distObserve.fside = b.fside :=
  fside_of_outside (distObserve_outside (P := .dist :: Part.event) b (by simp))

/-! ### What the groups leave alone of the backstop -/

/-- The backstop's detectors, its failing parts and its image. -/
def bsKept (b : Block) : Tab Det × List Nat × Option (List Byte) := (b.bs.det, b.bs.bad, b.bs.img)

theorem driveEnd_bsKept (j : Nat) (b : Block) : bsKept (b.driveEnd j) = bsKept b := by
  unfold Block.driveEnd
  dsimp only
  split <;> rfl

theorem groupStep_bsKept (g : List Byte) (j : Nat) (b : Block) : bsKept (b.groupStep g j) = bsKept b := by
  unfold Block.groupStep
  dsimp only
  split
  · simp only [bsKept, raiseOpen_bs]
  · split
    · split
      · exact driveEnd_bsKept j _
      · rfl
    · rfl

theorem groups_bsKept (b : Block) : bsKept b.groups = bsKept b := by
  unfold Block.groups
  split
  · rfl
  · exact foldl_keeps bsKept _ (fun b j => groupStep_bsKept _ j b) _ _

theorem groups_bs_det (b : Block) : b.groups.bs.det = b.bs.det := congrArg (·.1) (groups_bsKept b)
theorem groups_bs_bad (b : Block) : b.groups.bs.bad = b.bs.bad := congrArg (·.2.1) (groups_bsKept b)
theorem groups_bs_img (b : Block) : b.groups.bs.img = b.bs.img := congrArg (·.2.2) (groups_bsKept b)

/-! ### One detector group -/

section
variable {k : Bool} {p q : Path} {d : Nat} {f : Det → Det} {b : Block}

theorem updDet_same : (b.updDet k p d f).detOf k p d = f (b.detOf k p d) := by
  cases k
  · exact tget_tupd_same ..
  · simp only [Block.updDet, Block.detOf, if_true, groups_bs_det]
    exact tget_tupd_same ..

theorem dix_ne (h : p ≠ q) : dix p d ≠ dix q d := by
  cases p <;> cases q
  case a.b | b.a => simp [dix]
  all_goals exact absurd rfl h

theorem updDet_other (h : p ≠ q) : (b.updDet k q d f).detOf k p d = b.detOf k p d := by
  cases k
  · exact tget_tupd_ne _ _ _ (dix_ne h)
  · simp only [Block.updDet, Block.detOf, if_true, groups_bs_det]
    exact tget_tupd_ne _ _ _ (dix_ne h)

/-- What the commands of a group look at beside its detector. -/
def around (b : Block) : CnvSt × TimeSt × GenSet × TrackCfg := (b.cnv, b.time, b.acc.cur, b.acc.track)

theorem updDet_around : around (b.updDet k p d f) = around b := by
  cases k
  · rfl
  · simp only [Block.updDet, if_true, around, groups_cnv, groups_time, groups_acc]

end

theorem anNow_congr {b b' : Block} (h : around b' = around b) : b'.anNow = b.anNow := by
  obtain ⟨hc, ht, -, -⟩ : b'.cnv = b.cnv ∧ b'.time = b.time ∧ b'.acc.cur = b.acc.cur ∧ b'.acc.track = b.acc.track := by simpa [around] using h
  rw [Block.anNow, Block.anNow, Block.now, Block.now, hc, ht]

theorem grpPath_congr {b b' : Block} (h : around b' = around b) (d : Nat) : b'.grpPath d = b.grpPath d := by
  have hc : b'.cnv = b.cnv := congrArg (·.1) h
  rw [Block.grpPath, Block.grpPath, Block.twin, Block.twin, hc]

theorem tw_congr {b b' : Block} (h : around b' = around b) (n : Nat) : b'.tw n = b.tw n := by
  obtain ⟨-, -, hc, ht⟩ : b'.cnv = b.cnv ∧ b'.time = b.time ∧ b'.acc.cur = b.acc.cur ∧ b'.acc.track = b.acc.track := by simpa [around] using h
  simp only [Block.tw, Block.winFreq, hc, ht]

/-! ### The commands on both paths of a group -/

theorem both_paths {k : Bool} {d : Nat} {p : Path} {F : Path → Block → Block} {G : Det → Prop} {b : Block}
    (haround : ∀ q b, around (F q b) = around b) (hother : ∀ {p q b}, p ≠ q → (F q b).detOf k p d = b.detOf k p d)
    (hsame : ∀ b', around b' = around b → b'.detOf k p d = b.detOf k p d → G ((F p b').detOf k p d)) :
    G ((F .b (F .a b)).detOf k p d) := by
  cases p
  · rw [hother (by decide)]
    exact hsame b rfl rfl
  · exact hsame _ (haround ..) (hother (by decide))

section
variable {k : Bool} {d t0 : Nat} {p q : Path} {b : Block}

theorem twDeadPath_shape : b.twDeadPath k d q = b ∨ ∃ f, b.twDeadPath k d q = b.updDet k q d f := by
  unfold Block.twDeadPath
  dsimp only
  split
  · exact .inr ⟨_, rfl⟩
  · exact .inl rfl

theorem incReleasePath_shape : b.incReleasePath k d q = b ∨ ∃ f, b.incReleasePath k d q = b.updDet k q d f := by
  unfold Block.incReleasePath
  extract_lets g tw
  split
  · exact .inl rfl
  · split
    · exact .inr ⟨_, rfl⟩
    · exact .inl rfl

theorem around_of_shape {b' : Block} (h : b' = b ∨ ∃ f, b' = b.updDet k q d f) : around b' = around b := by
  rcases h with rfl | ⟨f, rfl⟩
  · rfl
  · exact updDet_around

theorem other_of_shape {b' : Block} (h : b' = b ∨ ∃ f, b' = b.updDet k q d f) (hp : p ≠ q) : b'.detOf k p d = b.detOf k p d := by
  rcases h with rfl | ⟨f, rfl⟩
  · rfl
  · exact updDet_other hp

theorem twDeadEnd_detOf (h : (b.detOf k p d).deadTo ≠ 0) (hn : (b.detOf k p d).deadTo ≤ b.anNow) :
    (b.twDeadEnd k d).detOf k p d = { b.detOf k p d with deadTo := 0, twf := false, twfBy := [] } := by
  refine both_paths (F := fun q b => b.twDeadPath k d q) (G := (· = _)) (fun _ _ => around_of_shape twDeadPath_shape)
    (fun hp => other_of_shape twDeadPath_shape hp) fun b' ha hd => ?_
  dsimp only
  rw [Block.twDeadPath, if_pos (by simp [hd, anNow_congr ha, h, hn]), updDet_same, hd]

theorem incRelease_detOf {w : Nat} (h : (b.detOf k p d).startAt = some t0) (hw : b.tw (if d < 32 then 4 * d else 128 + 4 * (d - 32)) = w)
    (hn : t0 + 2 * w ≤ b.anNow) : (b.incRelease k d).detOf k p d =
    { b.detOf k p d with inc := false, incBy := [], startAt := none, againAt := t0 + 3 * w, runs := [] } := by
  refine both_paths (F := fun q b => b.incReleasePath k d q) (G := (· = _)) (fun _ _ => around_of_shape incReleasePath_shape)
    (fun hp => other_of_shape incReleasePath_shape hp) fun b' ha hd => ?_
  simp only [Block.incReleasePath, hd, h, (tw_congr ha _).trans hw, anNow_congr ha, if_pos hn, updDet_same]

/-- A detector whose arrival group closes. -/
def Det.closed (t0 epoch dir : Nat) (twf : Bool) (g : Det) : Det :=
  { g with openAt := none, deadTo := t0 + 20 * usE + msE, dir := dir, dirAt := some epoch, twf := twf, twfBy := if twf then g.arrived else [] }

/-- The arrival record of a group that closes, entered or dropped. -/
def Block.arrive (t0 d dir : Nat) (g : Det) (b : Block) : Block :=
  let r : Arrival := { stamp := b.stampAt t0, group := d, arrived := g.arrived, pol := g.pol, dir := dir, peaks := g.peaks,
                       rseq := b.acc.rseq }
  let full := decide (256 ≤ b.acc.fifo.length)
  { b with acc := { b.acc with
    rseq := b.acc.rseq + 1, toFab := b.acc.toFab ++ [r]
    fifo := if full then b.acc.fifo else b.acc.fifo ++ [r]
    drops := if full then b.acc.drops + 1 else b.acc.drops } }

theorem twClosePath_shut (h : ∀ t0, (b.detOf k q d).openAt = some t0 → b.anNow < t0 + 20 * usE) : b.twClosePath k d q = b := by
  rw [Block.twClosePath]
  dsimp only
  split
  · rfl
  · next t0 ho => exact if_pos (h t0 ho)

theorem twClosePath_open (h : (b.detOf k q d).openAt = some t0) (hn : t0 + 20 * usE ≤ b.anNow) : ∃ dir twf, b.twClosePath k d q =
    if k || q != b.grpPath d then b.updDet k q d (Det.closed t0 b.time.epoch dir twf)
    else (b.updDet k q d (Det.closed t0 b.time.epoch dir twf)).arrive t0 d dir (b.detOf k q d) := by
  have hgrp : ∀ f, (b.updDet k q d f).grpPath d = b.grpPath d := fun f => grpPath_congr updDet_around d
  simp only [Block.twClosePath, h, if_neg (Nat.not_lt.mpr hn), hgrp]
  exact ⟨_, _, rfl⟩

/-- Either the group does not close, or it closes with or without its record. -/
theorem twClosePath_shape : b.twClosePath k d q = b ∨ ∃ t0 f, b.twClosePath k d q = b.updDet k q d f ∨
    ∃ dir, b.twClosePath k d q = (b.updDet k q d f).arrive t0 d dir (b.detOf k q d) := by
  by_cases h : ∀ t0, (b.detOf k q d).openAt = some t0 → b.anNow < t0 + 20 * usE
  · exact .inl (twClosePath_shut h)
  · simp only [Classical.not_forall, Nat.not_lt] at h
    obtain ⟨t0, ho, hn⟩ := h
    obtain ⟨dir, twf, heq⟩ := twClosePath_open ho hn
    rw [heq]
    refine .inr ⟨t0, Det.closed t0 b.time.epoch dir twf, ?_⟩
    split
    · exact .inl rfl
    · exact .inr ⟨dir, rfl⟩

theorem twClosePath_around : around (b.twClosePath k d q) = around b := by
  rcases twClosePath_shape (k := k) (d := d) (q := q) (b := b) with h | ⟨t0, f, h | ⟨dir, h⟩⟩ <;> rw [h]
  · exact updDet_around
  · exact updDet_around

theorem twClosePath_other (hp : p ≠ q) : (b.twClosePath k d q).detOf k p d = b.detOf k p d := by
  rcases twClosePath_shape (k := k) (d := d) (q := q) (b := b) with h | ⟨t0, f, h | ⟨dir, h⟩⟩ <;> rw [h]
  · exact updDet_other hp
  · exact updDet_other hp

theorem twClose_detOf (h : (b.detOf k p d).openAt = some t0) (hn : t0 + 20 * usE ≤ b.anNow) :
    ∃ dir twf, (b.twClose k d).detOf k p d = Det.closed t0 b.time.epoch dir twf (b.detOf k p d) := by
  refine both_paths (F := fun q b => b.twClosePath k d q) (G := fun x => ∃ dir twf, x = Det.closed t0 b.time.epoch dir twf (b.detOf k p d))
    (fun _ _ => twClosePath_around) (fun hp => twClosePath_other hp) fun b' ha hd => ?_
  have ht : b'.time = b.time := congrArg (·.2.1) ha
  obtain ⟨dir, twf, heq⟩ := twClosePath_open (b := b') (hd ▸ h) (by rw [anNow_congr ha]; exact hn)
  refine ⟨dir, twf, ?_⟩
  rw [heq, ← hd, ← ht]
  split
  · exact updDet_same
  · exact updDet_same

/-- The detectors of the backstop write no record of their own. -/
theorem twClose_true_acc : (b.twClose true d).acc = b.acc := by
  have hpath : ∀ (q : Path) (b : Block), (b.twClosePath true d q).acc = b.acc := fun q b => by
    by_cases h : ∀ t0, (b.detOf true q d).openAt = some t0 → b.anNow < t0 + 20 * usE
    · rw [twClosePath_shut h]
    · simp only [Classical.not_forall, Nat.not_lt] at h
      obtain ⟨t0, ho, hn⟩ := h
      obtain ⟨dir, twf, heq⟩ := twClosePath_open ho hn
      rw [heq, if_pos (Bool.true_or _), Block.updDet, if_pos rfl, groups_acc]
  rw [Block.twClose, hpath, hpath]

/-- The arrival records, as the published path leaves them. -/
def arrivals (b : Block) : Nat × List Arrival × Nat := (b.acc.rseq, b.acc.fifo, b.acc.drops)

theorem arrive_congr {b b' : Block} {t0 d dir : Nat} {g : Det} (ht : b'.time = b.time) (hv : arrivals b' = arrivals b) :
    arrivals (b'.arrive t0 d dir g) = arrivals (b.arrive t0 d dir g) := by
  simp only [arrivals, Prod.mk.injEq] at hv
  obtain ⟨hr, hf, hd⟩ := hv
  simp only [arrivals, Block.arrive, Block.stampAt, Block.now, ht, hr, hf, hd]

theorem twClosePath_hidden (h : q ≠ b.grpPath d) : arrivals (b.twClosePath false d q) = arrivals b := by
  by_cases h' : ∀ t0, (b.detOf false q d).openAt = some t0 → b.anNow < t0 + 20 * usE
  · rw [twClosePath_shut h']
  · simp only [Classical.not_forall, Nat.not_lt] at h'
    obtain ⟨t0, ho, hn⟩ := h'
    obtain ⟨dir, twf, heq⟩ := twClosePath_open ho hn
    rw [heq, if_pos (by simp [h])]
    rfl

/-- The published path enters its record, once, whichever path it is. -/
theorem twClose_arrivals (h : (b.detOf false (b.grpPath d) d).openAt = some t0) (hn : t0 + 20 * usE ≤ b.anNow) :
    ∃ dir, arrivals (b.twClose false d) = arrivals (b.arrive t0 d dir (b.detOf false (b.grpPath d) d)) := by
  have hrec : ∀ {b' : Block}, around b' = around b → arrivals b' = arrivals b → b'.detOf false (b.grpPath d) d =
      b.detOf false (b.grpPath d) d → ∃ dir, arrivals (b'.twClosePath false d (b.grpPath d)) =
        arrivals (b.arrive t0 d dir (b.detOf false (b.grpPath d) d)) := fun {b'} ha hv hd => by
    obtain ⟨dir, twf, heq⟩ := twClosePath_open (b := b') (hd ▸ h) (by rw [anNow_congr ha]; exact hn)
    rw [heq, grpPath_congr ha, if_neg (by simp), hd]
    have hround : around (b'.updDet false (b.grpPath d) d (Det.closed t0 b'.time.epoch dir twf)) = around b := updDet_around.trans ha
    exact ⟨dir, arrive_congr (congrArg (·.2.1) hround) hv⟩
  rw [Block.twClose]
  cases hg : b.grpPath d
  · rw [twClosePath_hidden (q := .b) (by rw [grpPath_congr twClosePath_around, hg]; decide)]
    simpa only [hg] using hrec rfl rfl rfl
  · have hother : (b.twClosePath false d .a).detOf false (b.grpPath d) d = b.detOf false (b.grpPath d) d :=
      twClosePath_other (by rw [hg]; decide)
    simpa only [hg] using hrec twClosePath_around (twClosePath_hidden (by rw [hg]; decide)) hother

end

/-! ### The trip insertion -/

theorem startFrame_bar (ins : Bool) (b : Block) : (b.startFrame ins).bar =
    { b.bar with
      seqDn := (b.bar.seqDn + 1) % 16, ins := ins, cmd := b.formCmd
      tx := dnFrame ((b.bar.seqDn + 1) % 16) ins b.formCmd b.bar.caddr (b.bar.cfg.word b.bar.caddr)
      sentAt := if tget natD b.bar.sentAt b.bar.caddr = 0 then tset natD b.bar.sentAt b.bar.caddr b.now else b.bar.sentAt } :=
  foldl_keeps (·.bar) _ (fun b (j : Nat) => raise_bar 340 j b) _ _

theorem formCmd_congr {b b' : Block} (hb : b'.bs = b.bs) (he : b'.elm = b.elm) (hl : b'.lgc = b.lgc) (hc : b'.bar.cfg = b.bar.cfg) :
    b'.formCmd = b.formCmd := by
  unfold Block.formCmd Block.ownerOf Block.slot Block.bsDrive
  rw [hb, he, hl, hc]

/-! ### The wire-break evaluation -/

theorem endBreak_ains {el n : Nat} {b : Block} : (tget ainD (b.endBreak el n).cnv.ains n).closed = (tget ainD b.cnv.ains n).closed ∧
    (tget ainD (b.endBreak el n).cnv.ains n).dc = (tget ainD b.cnv.ains n).dc ∧ (tget ainD (b.endBreak el n).cnv.ains n).broken = none := by
  unfold Block.endBreak
  dsimp only
  split
  · next h => exact ⟨rfl, rfl, h⟩
  · simp only [quantity_cnv, Block.putAin, tget_tset_same, and_self]

theorem endBreak_opens {el n : Nat} {b : Block} (h : (tget ainD b.cnv.ains n).opens = 0) :
    (tget ainD (b.endBreak el n).cnv.ains n).opens = 0 := by
  unfold Block.endBreak
  dsimp only
  split
  · exact h
  · simp only [quantity_cnv, Block.putAin, tget_tset_same]

theorem distBreak_cnv (n tb : Nat) (b : Block) : (b.distBreak n tb).cnv = b.cnv := cnv_of_outside (distBreak_outside (P := [.dist]) n tb b (by simp))

theorem wbObserve_cnv (n : Nat) (b : Block) : (b.wbObserve n).cnv = (b.wbEval n).cnv := by
  unfold Block.wbObserve
  dsimp only
  split
  · rw [distBreak_cnv, groups_cnv]
  · rw [groups_cnv]

section
variable {n : Nat} {a : AIn} {h : Half} {r : List Half} {b : Block}

theorem wbEval_closed (ha : tget ainD b.cnv.ains n = a) (hcl : a.closed = h :: r) (hwb : (b.inRec n).wbEn = true)
    (hse : (b.inRec n).sensor ≠ 0) (hcal : b.cnv.calib = true) : (tget ainD (b.wbEval n).cnv.ains n).closed = r := by
  subst ha
  have hguard : (!((b.inRec n).wbEn && (b.inRec n).sensor != 0 && b.cnv.calib)) = false := by simp [hwb, hse, hcal]
  have hput : ∀ x : AIn, tget ainD (b.putAin n x).cnv.ains n = x := fun x => tget_tset_same ..
  simp only [Block.wbEval, hcl, hguard, Bool.false_eq_true, if_false]
  split
  · split
    · split
      · rw [raiseAt_cnv, hput]
      · rw [hput]
    · split
      · rw [tget_tupd_same]
        exact endBreak_ains.1.trans (congrArg AIn.closed (hput _))
      · rw [hput]
  · rw [hput]

/-- D below the threshold is the correction in force and ends the run of open evaluations. -/
theorem wbEval_below {t : Nat} {x y u v d : Int} (ha : tget ainD b.cnv.ains n = a) (hcl : a.closed = h :: r)
    (hwb : (b.inRec n).wbEn = true) (hse : (b.inRec n).sensor ≠ 0) (hcal : b.cnv.calib = true) (hl : lastTwo h.kept = some (x, y))
    (ho : (if h.pos then a.negLast else a.posLast) = some ((u, v), t)) (hd : (if h.pos then x + y - u - v else u + v - x - y) = d)
    (hop : openD (b.gainOf n) d = false) :
    (tget ainD (b.wbEval n).cnv.ains n).dc = some d ∧ (tget ainD (b.wbEval n).cnv.ains n).opens = 0 ∧
    (a.broken.isSome = true → 1 ≤ a.closes → (tget ainD (b.wbEval n).cnv.ains n).broken = none) := by
  subst ha
  have hguard : (!((b.inRec n).wbEn && (b.inRec n).sensor != 0 && b.cnv.calib)) = false := by simp [hwb, hse, hcal]
  have hput : ∀ x : AIn, tget ainD (b.putAin n x).cnv.ains n = x := fun x => tget_tset_same ..
  cases hp : h.pos
  all_goals
    simp only [hp, Bool.false_eq_true, if_false, if_true] at ho hd
    simp only [Block.wbEval, hcl, hguard, hp, hl, ho, hd, hop, Bool.false_eq_true, if_false, if_true, Option.map_some, Option.orElse_some]
    split
    · rw [tget_tupd_same]
      exact ⟨endBreak_ains.2.1.trans (congrArg AIn.dc (hput _)), endBreak_opens (congrArg AIn.opens (hput _)), fun _ _ => endBreak_ains.2.2⟩
    · next h2 =>
      rw [hput]
      refine ⟨rfl, rfl, fun hb hc => absurd ?_ h2⟩
      simp [hb, hc]

/-- The second open evaluation in a row declares a break. -/
theorem wbEval_above {t : Nat} {x y u v d : Int} (ha : tget ainD b.cnv.ains n = a) (hcl : a.closed = h :: r)
    (hwb : (b.inRec n).wbEn = true) (hse : (b.inRec n).sensor ≠ 0) (hcal : b.cnv.calib = true) (hl : lastTwo h.kept = some (x, y))
    (ho : (if h.pos then a.negLast else a.posLast) = some ((u, v), t)) (hd : (if h.pos then x + y - u - v else u + v - x - y) = d)
    (hop : openD (b.gainOf n) d = true) (hbr : a.broken = none) :
    (tget ainD (b.wbEval n).cnv.ains n).opens = a.opens + 1 ∧ (tget ainD (b.wbEval n).cnv.ains n).dc = a.dc ∧
    (tget ainD (b.wbEval n).cnv.ains n).broken =
      (if 1 ≤ a.opens then some (if a.opens = 0 then (if h.start < t then h.start else t) else a.tbCand) else none) := by
  subst ha
  have hguard : (!((b.inRec n).wbEn && (b.inRec n).sensor != 0 && b.cnv.calib)) = false := by simp [hwb, hse, hcal]
  have hput : ∀ x : AIn, tget ainD (b.putAin n x).cnv.ains n = x := fun x => tget_tset_same ..
  have hmin : (if t < h.start then t else h.start) = if h.start < t then h.start else t := by split <;> split <;> omega
  cases hp : h.pos
  all_goals
    simp only [hp, Bool.false_eq_true, if_false, if_true] at ho hd
    simp only [Block.wbEval, hcl, hguard, hp, hl, ho, hd, hop, hmin, Bool.false_eq_true, if_false, if_true, Option.map_some,
      Option.orElse_some]
    split
    · next h2 =>
      have h1 : 1 ≤ (tget ainD b.cnv.ains n).opens := by simpa [hbr] using h2
      rw [raiseAt_cnv, hput, if_pos h1]
      exact ⟨rfl, rfl, rfl⟩
    · next h2 =>
      have h1 : ¬ 1 ≤ (tget ainD b.cnv.ains n).opens := by simpa [hbr] using h2
      rw [hput, if_neg h1]
      exact ⟨rfl, rfl, hbr⟩

end

/-- Settles O34: the arm of each command under its condition. -/
theorem detectorAndBackstopCommandsComplete : Obligations.DetectorAndBackstopCommandsComplete := by
  refine ⟨fun s p d t0 hd ho hn => ⟨_, rfl, ?_⟩, fun s d t0 hd ho hn => ⟨_, rfl, ?_⟩, fun s k p d hd h hn => ⟨_, rfl, ?_⟩,
    fun s k p d t0 w hd h hw hn => ⟨_, rfl, ?_⟩, fun s j x hx hdr hset hn => ⟨_, rfl, ?_⟩, fun s a c hbad hsp hac => ⟨_, rfl, ?_⟩,
    fun s hbad hsp => ⟨_, rfl, ?_⟩, fun s hcmd hrun => ⟨_, rfl, ?_⟩, fun s h => ⟨_, rfl, ?_⟩,
    fun s n a h r ha hcl hwb hse hcal => ⟨_, rfl, ?_⟩, fun s n t a h r x y u v d ha hcl hwb hse hcal hl ho hd hop => ⟨_, rfl, ?_⟩,
    fun s n t a h r x y u v d ha hcl hwb hse hcal hl ho hd hop hbr => ⟨_, rfl, ?_⟩⟩
  · obtain ⟨dir, twf, heq⟩ := twClose_detOf ho hn
    simp only [Block.detOf, if_true, distObserve_bs, distObserve_acc, twClose_true_acc] at heq ⊢
    rw [heq]
    exact ⟨rfl, rfl, rfl, trivial⟩
  · obtain ⟨dir, twf, heq⟩ := twClose_detOf ho hn
    obtain ⟨dir', harr⟩ := twClose_arrivals ho hn
    simp only [arrivals, Prod.mk.injEq] at harr
    obtain ⟨hr, hf, hdr⟩ := harr
    rw [distObserve_acc, hr, hf, hdr]
    refine ⟨?_, rfl, ?_⟩
    · simp only [Block.detOf, Bool.false_eq_true, if_false, distObserve_acc] at heq ⊢
      rw [heq]; rfl
    · simp only [Block.arrive]
      split
      · next hfull => simp [hfull]
      · next hfull => simp [hfull]
  · have heq := twDeadEnd_detOf h hn
    simpa only [Block.detOf, distObserve_bs, distObserve_acc] using heq
  · have heq := incRelease_detOf h hw hn
    simpa only [Block.detOf, distObserve_bs, distObserve_acc] using heq
  · subst hx
    rw [distObserve_bs, Block.minOnExpiry, if_pos (by simp [hdr, hset, hn]), Block.driveEnd, if_pos hdr, quantity_bs]
    exact ⟨rfl, rfl⟩
  · dsimp only
    rw [distObserve_bs, distObserve_flt, Block.bsReload, if_neg (by simp [hbad, hsp]), if_pos hac, fault_bs, groups_bs_bad, groups_bs_img]
    exact ⟨rfl, rfl, congrArg (·.transient + 1) (groups_flt _)⟩
  · dsimp only
    have hflt : ((List.range 64).foldl (fun b j => b.driveEnd j) s.blk).flt = s.blk.flt := foldl_keeps (·.flt) _
      (fun b j => flt_of_outside (driveEnd_outside (P := [.evr, .bs]) j b (by simp))) _ _
    rw [distObserve_bs, distObserve_flt, distObserve_sys, Block.bsReload, if_neg (by simp [hbad, hsp]), if_neg (by decide)]
    generalize (List.range 64).foldl (fun b j => b.driveEnd j) s.blk = b1 at hflt ⊢
    exact ⟨rfl, rfl, rfl, congrArg (·.loss + 1) hflt⟩
  · dsimp only
    rw [distObserve_bar, Block.tripInsert, if_neg (by simp [hcmd, hrun]), startFrame_bar]
    refine ⟨formCmd_congr ?_ ?_ ?_ ?_, rfl, ?_, ?_⟩
    all_goals dsimp only; split <;> rfl
  · dsimp only
    rw [distObserve_bar, distObserve_fside, Block.tripInsert, if_pos (by rcases h with h | h <;> simp [h])]
    exact ⟨rfl, rfl⟩
  · dsimp only
    rw [distObserve_cnv, wbObserve_cnv]
    exact wbEval_closed ha hcl hwb hse hcal
  · dsimp only
    rw [distObserve_cnv, wbObserve_cnv]
    exact wbEval_below ha hcl hwb hse hcal hl ho hd hop
  · dsimp only
    rw [distObserve_cnv, wbObserve_cnv]
    exact wbEval_above ha hcl hwb hse hcal hl ho hd hop hbr

end Sys2Proof.Machine
end

section
-- One declaration after another: the check compiles the whole text under a memory limit.
set_option Elab.async false
/-! SUPPORT. What sending a frame leaves alone of the network, the recorder's interval and the sampled-value interval. -/

namespace Sys2Proof.Machine
open Sys2Proof

/-! ### Sending a frame writes the ports and the sequence numbers of the pairs, and nothing else of the network -/

/-- The network but for the ports and the sequence numbers that a transmission moves. -/
def Block.unsent (b : Block) : NetSt := { b.net with ports := [], txSeq := [] }

section
variable (b : Block)

@[simp] theorem putPort_unsent (p : Nat) (f : PortSt → PortSt) : (b.putPort p f).unsent = b.unsent := rfl
@[simp] theorem countNet_unsent (p : Nat) (c : NetCtr) : (b.countNet p c).unsent = b.unsent := rfl
@[simp] theorem raise_unsent (n : Nat) (q : Int) : (b.raise n q).unsent = b.unsent := by simp only [Block.unsent, raise_net]

@[simp] theorem purge_unsent (p q : Nat) : (b.purge p q).unsent = b.unsent :=
  foldl_keeps Block.unsent _ (fun b _ => (raise_unsent _ _ _).trans (countNet_unsent b p .netLate)) _ _

@[simp] theorem enqueue_unsent (p : Nat) (f : TxFrame) : (b.enqueue p f).unsent = b.unsent := by
  unfold Block.enqueue; dsimp only; (repeat' split) <;> simp

@[simp] theorem txStamp_unsent (p : Nat) (f : TxFrame) : (b.txStamp p f).unsent = b.unsent := by
  unfold Block.txStamp
  split
  · exact enqueue_unsent ..
  · rfl
  · exact enqueue_unsent ..
  · rfl

@[simp] theorem start_unsent (p : Nat) (f : TxFrame) : (b.start p f).unsent = b.unsent := by
  unfold Block.start
  dsimp only
  split
  · exact txStamp_unsent _ p f
  · exact txStamp_unsent _ p f

@[simp] theorem startHead_unsent (p q : Nat) : (b.startHead p q).unsent = b.unsent := by
  unfold Block.startHead; split <;> simp

@[simp] theorem kick_unsent (p : Nat) (slip : Bool) : (b.kick p slip).unsent = b.unsent := by
  have hpurge : ((List.range 8).foldl (Block.purge p) b).unsent = b.unsent := foldl_keeps Block.unsent _ (fun b q => purge_unsent b p q) _ _
  unfold Block.kick
  dsimp only
  (repeat' split) <;> simp [hpurge]

@[simp] theorem sendOn_unsent (ports q : Nat) (l : Option Nat) (x : TxBody) : (b.sendOn ports q l x).unsent = b.unsent := by
  refine foldl_keeps Block.unsent _ (fun b p => ?_) _ _
  dsimp only
  (repeat' split)
  · rfl
  · simp
  · rfl
  · refine (foldl_keeps Block.unsent _ (fun b k => ?_) _ _).trans rfl
    simp

theorem sendOn_svAt (ports q : Nat) (l : Option Nat) (x : TxBody) : (b.sendOn ports q l x).net.svAt = b.net.svAt := by
  have h := congrArg NetSt.svAt (sendOn_unsent b ports q l x)
  exact h

end

/-! ### The sampled-value interval -/

theorem svBound_le {r rate g : Nat} (hr : rate = 4800 ∨ rate = 14400) : (r * rate / g * g + rate - 1) / rate ≤ r := by
  have h : r * rate / g * g ≤ r * rate := Nat.div_mul_le_self ..
  have hpos : 0 < rate := by omega
  rw [← Nat.lt_add_one_iff, Nat.div_lt_iff_lt_mul hpos, Nat.add_mul]
  omega

/-- The last interval of a second ends with it. -/
theorem svBound_full {rate g : Nat} (hr : rate = 4800 ∨ rate = 14400) : (rate * g + rate - 1) / rate = g := by
  have hpos : 0 < rate := by omega
  rw [Nat.add_sub_assoc hpos, Nat.mul_add_div hpos, Nat.div_eq_of_lt (by omega), Nat.add_zero]

/-- The window of the interval that ended last ends at the last boundary: that of this second, or the end of the one before. -/
theorem svWindow_end {rate g t k sec n : Nat} (hr : rate = 4800 ∨ rate = 14400) (hk : k = t % g * rate / g) (hns : g ≤ t * rate) (hg : 0 < g)
    (hw : (if (if (k * g + rate - 1) / rate ≤ t % g then k else k - 1) = 0 then (t / g - 1, rate - 1)
      else (t / g, (if (k * g + rate - 1) / rate ≤ t % g then k else k - 1) - 1)) = (sec, n)) :
    sec * g + ((n + 1) * g + rate - 1) / rate = t / g * g + (k * g + rate - 1) / rate := by
  have hpos : 0 < rate := by omega
  have hle : (k * g + rate - 1) / rate ≤ t % g := hk ▸ svBound_le hr
  rw [if_pos hle] at hw
  by_cases h0 : k = 0
  · rw [if_pos h0] at hw
    obtain ⟨rfl, rfl⟩ := Prod.mk.inj hw
    have hsec : 1 ≤ t / g := by
      refine Decidable.byContradiction fun hlt => ?_
      have ht : t < g := (Nat.div_eq_zero_iff.mp (Nat.lt_one_iff.mp (Nat.not_le.mp hlt))).resolve_left (Nat.ne_of_gt hg)
      rw [Nat.mod_eq_of_lt ht] at hk
      have := Nat.div_pos hns hg
      omega
    have hz : (0 + rate - 1) / rate = 0 := Nat.div_eq_of_lt (by omega)
    have hmul : (t / g - 1) * g + g = t / g * g := by
      rw [← Nat.succ_mul, Nat.succ_eq_add_one, Nat.sub_add_cancel hsec]
    rw [h0, Nat.zero_mul, hz, Nat.sub_add_cancel hpos, svBound_full hr]
    omega
  · rw [if_neg h0] at hw
    obtain ⟨rfl, rfl⟩ := Prod.mk.inj hw
    rw [Nat.sub_add_cancel (Nat.pos_of_ne_zero h0)]

theorem svEnd_svAt {rate hi : Nat} {b : Block} (hr : rate = 4800 ∨ rate = 14400) (hsp : b.spUp = true)
    (hns : 1000000000 ≤ b.ns64 * rate)
    (hhi : hi = b.ns64 / 1000000000 * 1000000000 + (b.ns64 % 1000000000 * rate / 1000000000 * 1000000000 + rate - 1) / rate)
    (hat : tget natD b.net.svAt rate ≠ hi) : (b.svEnd rate).net.svAt = tset natD b.net.svAt rate hi := by
  fun_cases Block.svEnd rate b
  case case1 h => omega
  case case2 h => simp [hsp, Nat.not_lt.mpr hns] at h
  case case3 hw at_ h => exact absurd (h.trans ((svWindow_end hr rfl hns (by decide) hw).trans hhi.symm)) hat
  case case4 hw at_ lo h asdus synch =>
    have hat_ : at_ = hi := (svWindow_end hr rfl hns (by decide) hw).trans hhi.symm
    rw [← hat_]
    refine foldl_keeps (fun b : Block => b.net.svAt) _ (fun b i => ?_) _ _
    dsimp only
    split
    · rfl
    · split
      · rfl
      · split
        · exact sendOn_svAt ..
        · rfl

/-- Settles O35: the arm of each command under its condition. -/
theorem recorderAndSampledValueIntervalsComplete : Obligations.RecorderAndSampledValueIntervalsComplete := by
  refine ⟨fun s hrun hst => ⟨_, rfl, ?_⟩, fun s t fin hrun hst hfin hne ho hop => ⟨_, rfl, ?_⟩,
    fun s t fin k r hrun hst hfin hne ho hlast hseg => ⟨_, rfl, ?_⟩, fun s rate hi hr hsp hns hhi hat => ⟨_, rfl, ?_⟩⟩
  · simp [Block.distInterval, hrun, hst]
  · have hne' : ¬ t = fin := fun h => hne h.symm
    simp [Block.distInterval, hrun, hst, hfin, hne', ho, hop]
  · have hne' : ¬ t = fin := fun h => hne h.symm
    simp [Block.distInterval, hrun, hst, hfin, hne', ho, Nat.not_lt.mpr hlast, Nat.not_le.mpr hseg]
  · exact svEnd_svAt hr hsp hns hhi hat

end Sys2Proof.Machine
end

section
-- One declaration after another: the check compiles the whole text under a memory limit.
set_option Elab.async false
/-! SUPPORT. The slots and the pairs: what each operation on a slot's run leaves of them, and the commands of the cycle. -/

namespace Sys2Proof.Machine
open Sys2Proof

/-! ### The slots and the pairs -/

theorem slot_congr {b b' : Block} (h : b'.lgc = b.lgc) (n : Nat) : b'.slot n = b.slot n := by simp only [Block.slot, h]
theorem pair_congr {b b' : Block} (h : b'.lgc = b.lgc) (p : Nat) : b'.pair p = b.pair p := by simp only [Block.pair, h]

theorem putSlot_congr {b b' : Block} (h : b'.lgc = b.lgc) (s : Nat) (x : Slot) : (b'.putSlot s x).lgc = (b.putSlot s x).lgc := by
  simp only [Block.putSlot, h]

section
variable (b : Block)

theorem status_lgc (r : Req) (st : Nat) : (b.status r st).lgc = b.lgc := lgc_of_outside (status_outside (P := Part.reply) r st b (by simp))
theorem answer_lgc (r : Req) (st e : Nat) (p : List Byte) : (b.answer r st e p).lgc = b.lgc :=
  lgc_of_outside (answer_outside (P := Part.reply) r st e p b (by simp))
theorem logicSteps_lgc : b.logicSteps.lgc = b.lgc := lgc_of_outside (logicSteps_outside (P := .sys :: Part.event) b (by simp))
theorem afterLogic_lgc : b.afterLogic.lgc = b.lgc :=
  lgc_of_outside (afterLogic_outside (P := .sys :: .bar :: .dist :: Part.event) b (by simp))
theorem takeNotes_lgc (s : Nat) (i : FjImg) (t : Tab Trig) : (b.takeNotes s i t).lgc = b.lgc :=
  lgc_of_outside (takeNotes_outside (P := [.wheel]) s i t b (by simp))

theorem afterLogic_slot (n : Nat) : b.afterLogic.slot n = b.slot n := slot_congr (afterLogic_lgc b) n
theorem afterLogic_pair (p : Nat) : b.afterLogic.pair p = b.pair p := pair_congr (afterLogic_lgc b) p

/-- Orders that a slot drops leave its objects idle, and no other part of the slots and the pairs. -/
theorem dropOrders_lgc (s : Nat) : ∃ o, (b.dropOrders s).lgc = (b.putSlot s { b.slot s with objs := o }).lgc := by
  unfold Block.dropOrders
  extract_lets y b1 z
  have h1 : b1.lgc = b.lgc := by
    refine foldl_keeps (fun b : Block => b.lgc) _ (fun b x => ?_) _ _
    split
    · split
      · exact status_lgc ..
      · rfl
    · rfl
  have hz : z = b.slot s := slot_congr h1 s
  clear_value z
  subst hz
  exact ⟨_, putSlot_congr h1 _ _⟩

theorem cancelTakeover_lgc (s : Nat) : (b.cancelTakeover s).lgc = (b.putSlot s { b.slot s with takeover := none, waitReq := none }).lgc := by
  unfold Block.cancelTakeover
  dsimp only
  (repeat' split) <;> simp only [status_lgc, Block.putSlot]

theorem dropTakeover_none {s : Nat} (h : (b.slot s).takeover = none) : b.dropTakeover s = b := by simp only [Block.dropTakeover, h]

end

/-! ### What the restart of another slot leaves -/

section
variable {b : Block} {s n p q e cause : Nat} {cold keep : Bool}

theorem takeImage_slot_ne (i : FjImg) (h : n ≠ s) : (b.takeImage s i cold).slot n = b.slot n := slot_putSlot_ne h _ _

theorem takeImage_pair (i : FjImg) : (b.takeImage s i cold).pair p = b.pair p := rfl

theorem startSlot_slot_ne (h : n ≠ s) : (b.startSlot s q e cause cold keep).slot n = b.slot n := by
  unfold Block.startSlot
  extract_lets b1 y
  have h1 : b1.slot n = b.slot n := by
    simp only [b1]
    split
    · exact takeImage_slot_ne _ h
    · rfl
  split
  · exact h1
  · exact (slot_putSlot_ne h _ _).trans h1

theorem startSlot_pair_ne (h : p ≠ q) : (b.startSlot s q e cause cold keep).pair p = b.pair p := by
  unfold Block.startSlot
  extract_lets b1 y
  have h1 : b1.pair p = b.pair p := by
    simp only [b1]
    split
    · exact takeImage_pair _
    · rfl
  split
  · exact h1
  · exact (pair_putPair_ne h _ _).trans h1

theorem restart_slot_ne (h : n ≠ s) : (b.restart s q cold keep).slot n = b.slot n := by
  unfold Block.restart
  dsimp only
  split
  · split
    · exact startSlot_slot_ne h
    · exact startSlot_slot_ne h
  · exact startSlot_slot_ne h

theorem restart_failed (hq : (b.pair q).state = .spare) (h : (b.pair p).state = .failed) :
    ((b.restart s q cold keep).pair p).state = .failed := by
  have hpq : p ≠ q := fun he => by rw [he, hq] at h; cases h
  have hstart : ∀ {e cause}, ((b.startSlot s q e cause cold keep).pair p).state = .failed := fun {e cause} => by
    rw [startSlot_pair_ne hpq]; exact h
  unfold Block.restart
  dsimp only
  split
  · next o ho =>
    have hpo : p ≠ o := fun he => by
      have hs := List.find?_some ho
      simp [← he, h] at hs
    split
    · exact hstart
    · exact (congrArg Pair.state (pair_putPair_ne hpo _ _)).trans hstart
  · exact hstart

theorem spareWork_slot (h : (b.slot n).state ≠ .faulted) : b.spareWork.slot n = b.slot n := by
  unfold Block.spareWork
  split
  · next q s hq hs =>
    refine restart_slot_ne fun hn => h ?_
    have hf := List.find?_some hs
    rw [hn]
    simpa using (Bool.and_eq_true_iff.mp hf).1
  · rfl

theorem spareWork_failed (h : (b.pair p).state = .failed) : (b.spareWork.pair p).state = .failed := by
  unfold Block.spareWork
  split
  · next q s hq hs =>
    exact restart_failed (by simpa using List.find?_some hq) h
  · exact h

end

/-! ### A slot's takeover dropped, and a slot stopped -/

section
variable {b : Block} {s n p : Nat} {st : SlotSt}

theorem loader_loading {q : Nat} (h : b.loader s = some q) : (b.pair q).state = .loading := by
  have hq := List.find?_some h
  simpa using (Bool.and_eq_true_iff.mp hq).1

theorem dropTakeover_slot_ne (h : n ≠ s) : (b.dropTakeover s).slot n = b.slot n := by
  have hc : (b.cancelTakeover s).slot n = b.slot n := (slot_congr (cancelTakeover_lgc b s) n).trans (slot_putSlot_ne h _ _)
  unfold Block.dropTakeover
  dsimp only
  split
  · split
    · split
      · exact hc
      · exact hc
    · exact hc
  · rfl

theorem dropTakeover_slot : ∃ t w, (b.dropTakeover s).slot s = { b.slot s with takeover := t, waitReq := w } := by
  have hc : (b.cancelTakeover s).slot s = { b.slot s with takeover := none, waitReq := none } :=
    (slot_congr (cancelTakeover_lgc b s) s).trans (slot_putSlot _ _ _)
  unfold Block.dropTakeover
  dsimp only
  split
  · refine ⟨none, none, ?_⟩
    split
    · split
      · exact hc
      · exact hc
    · exact hc
  · exact ⟨_, _, rfl⟩

theorem dropTakeover_failed (h : (b.pair p).state = .failed) : ((b.dropTakeover s).pair p).state = .failed := by
  have hc : (b.cancelTakeover s).pair p = b.pair p := pair_congr (cancelTakeover_lgc b s) p
  unfold Block.dropTakeover
  dsimp only
  split
  · split
    · next q hq =>
      have hpq : p ≠ q := fun he => by
        have hl := loader_loading hq
        rw [← he, h] at hl
        cases hl
      split
      · rw [pair_putPair_ne hpq, hc, h]
      · rw [hc, h]
    · rw [hc, h]
  · exact h

/-- The block of a stopped slot, before the spare of a takeover dropped is put to work. -/
def Block.stopped (s : Nat) (st : SlotSt) (b : Block) : Block :=
  let b := (b.dropOrders s).dropTakeover s
  let b := b.putSlot s { b.slot s with state := st, cyc := none, redo := none, free := false, armOk := none, armCmd := false, det := [] }
  { b with sys := { b.sys with logicRun := b.logicNow } }

theorem stopSlot_eq : b.stopSlot s st = if (b.slot s).takeover.isSome then (b.stopped s st).spareWork else b.stopped s st := rfl

theorem dropOrders_slot : ∃ o, (b.dropOrders s).slot s = { b.slot s with objs := o } := by
  obtain ⟨o, ho⟩ := dropOrders_lgc b s
  exact ⟨o, (slot_congr ho s).trans (slot_putSlot _ _ _)⟩

theorem dropOrders_slot_ne (h : n ≠ s) : (b.dropOrders s).slot n = b.slot n := by
  obtain ⟨o, ho⟩ := dropOrders_lgc b s
  exact (slot_congr ho n).trans (slot_putSlot_ne h _ _)

theorem dropOrders_pairs : (b.dropOrders s).lgc.pairs = b.lgc.pairs := by
  obtain ⟨o, ho⟩ := dropOrders_lgc b s
  rw [ho]
  rfl

theorem stopped_slot : ∃ o t w, (b.stopped s st).slot s = { b.slot s with
    objs := o, takeover := t, waitReq := w, state := st, cyc := none, redo := none, free := false, armOk := none, armCmd := false
    det := [] } := by
  obtain ⟨o, ho⟩ := dropOrders_slot (b := b) (s := s)
  obtain ⟨t, w, hd⟩ := dropTakeover_slot (b := b.dropOrders s) (s := s)
  refine ⟨o, t, w, (slot_putSlot _ _ _).trans ?_⟩
  rw [hd, ho]

theorem stopped_slot_ne (h : n ≠ s) : (b.stopped s st).slot n = b.slot n :=
  (slot_putSlot_ne h _ _).trans ((dropTakeover_slot_ne h).trans (dropOrders_slot_ne h))

theorem stopped_failed (h : (b.pair p).state = .failed) : ((b.stopped s st).pair p).state = .failed := by
  have hp : (b.dropOrders s).pair p = b.pair p := by simp only [Block.pair, dropOrders_pairs]
  exact dropTakeover_failed (b := b.dropOrders s) (by rw [hp]; exact h)

theorem stopped_pairs (h : (b.slot s).takeover = none) : (b.stopped s st).lgc.pairs = b.lgc.pairs := by
  obtain ⟨o, ho⟩ := dropOrders_slot (b := b) (s := s)
  have hn : (b.dropOrders s).dropTakeover s = b.dropOrders s := dropTakeover_none _ (by rw [ho]; exact h)
  refine Eq.trans ?_ (dropOrders_pairs (b := b) (s := s))
  rw [Block.stopped, hn]
  rfl

/-- A slot stopped by anything but a fault stands as stopped. -/
theorem stopSlot_slot (h : st ≠ .faulted ∨ (b.slot s).takeover = none) : ∃ o t w, (b.stopSlot s st).slot s = { b.slot s with
    objs := o, takeover := t, waitReq := w, state := st, cyc := none, redo := none, free := false, armOk := none, armCmd := false
    det := [] } := by
  obtain ⟨o, t, w, hs⟩ := stopped_slot (b := b) (s := s) (st := st)
  refine ⟨o, t, w, Eq.trans ?_ hs⟩
  rw [stopSlot_eq]
  split
  · next ht =>
    refine spareWork_slot ?_
    rw [hs]
    exact h.resolve_right fun hn => by simp [hn] at ht
  · rfl

theorem stopSlot_slot_ne (h : n ≠ s) (hn : (b.slot n).state ≠ .faulted) : (b.stopSlot s st).slot n = b.slot n := by
  have hs : (b.stopped s st).slot n = b.slot n := stopped_slot_ne h
  rw [stopSlot_eq]
  split
  · exact (spareWork_slot (by rw [hs]; exact hn)).trans hs
  · exact hs

theorem stopSlot_failed (h : (b.pair p).state = .failed) : ((b.stopSlot s st).pair p).state = .failed := by
  rw [stopSlot_eq]
  split
  · exact spareWork_failed (stopped_failed h)
  · exact stopped_failed h

theorem stopSlot_pairs (h : (b.slot s).takeover = none) : (b.stopSlot s st).lgc.pairs = b.lgc.pairs := by
  rw [stopSlot_eq, if_neg (by simp [h])]
  exact stopped_pairs h

theorem stopSlot_pair (h : (b.slot s).takeover = none) : (b.stopSlot s st).pair p = b.pair p := by
  simp only [Block.pair, stopSlot_pairs h]

end

/-! ### A cycle begun -/

section
variable {b : Block} {s : Nat}

/-- What the release of the lid and the end of a detection leave of a slot that begins a cycle. -/
def Slot.begins (y : Slot) : Tab Word × Nat × Option FjImg × Option (Nat × FjImg) := (y.data, y.count, y.img, y.next)

theorem releaseLid_begins : ((b.releaseLid s).slot s).begins = (b.slot s).begins := by
  unfold Block.releaseLid
  dsimp only
  split
  · rw [slot_putSlot]; rfl
  · rfl

theorem detEnd_begins : ((b.detEnd s).slot s).begins = (b.slot s).begins := by
  unfold Block.detEnd
  dsimp only
  rw [slot_putSlot]; rfl

theorem releaseLid_time : (b.releaseLid s).time = b.time := by
  unfold Block.releaseLid
  dsimp only
  split <;> rfl

theorem detEnd_time : (b.detEnd s).time = b.time := time_of_outside (detEnd_outside (P := [.evr, .lgc]) s b (by simp))

/-- The block with the new image of a slot in force, where one is due (R221). -/
def Block.imaged (s : Nat) (b : Block) : Block :=
  match (b.slot s).next with
  | some (q, i) => if q ≤ b.time.epoch then b.takeImage s i false else b
  | none => b

theorem imaged_same (h : ∀ q j, (b.slot s).next = some (q, j) → b.time.epoch < q) : b.imaged s = b := by
  unfold Block.imaged
  split
  · next q j hq => exact if_neg (Nat.not_le.mpr (h q j hq))
  · rfl

theorem imaged_due {q : Nat} {j : FjImg} (h : (b.slot s).next = some (q, j)) (hq : q ≤ b.time.epoch) :
    b.imaged s = b.takeImage s j false := by simp only [Block.imaged, h, if_pos hq]

theorem imaged_time : (b.imaged s).time = b.time := by
  unfold Block.imaged
  split
  · split <;> rfl
  · rfl

/-- The slot whose cycle begins at this epoch. -/
theorem beginCycle_slot {i : FjImg} {y : Slot} (hy : (b.imaged s).slot s = y) (himg : y.img = some i) (hdiv : b.time.epoch % i.n = 0) :
    ∃ c, ((b.beginCycle s).slot s).cyc = some c ∧ c.e = b.time.epoch ∧ c.at_ = b.now ∧
    c.data = y.data ∧ ((b.beginCycle s).slot s).nextE = b.time.epoch + i.n ∧ ((b.beginCycle s).slot s).inTag = b.time.epoch ∧
    ((b.beginCycle s).slot s).blockTo = 0 ∧ ((b.beginCycle s).slot s).count = y.count + c.skips + 1 ∧
    ((b.beginCycle s).slot s).img = some i ∧ ((b.beginCycle s).slot s).next = y.next := by
  fun_cases Block.beginCycle s b
  case case1 e b1 y1 h =>
    have hy1 : y1 = y := hy
    rw [hy1, himg] at h
    cases h
  case case2 e b1 y1 i1 h hn =>
    have hy1 : y1 = y := hy
    rw [hy1, himg] at h
    cases h
    exact absurd hdiv hn
  case case3 e b1 y1 i1 h hn b2 y2 sk cause err deaf count tr c z =>
    have hy1 : y1 = y := hy
    rw [hy1, himg] at h
    cases h
    have htime : b2.time = b.time := detEnd_time.trans (releaseLid_time.trans imaged_time)
    have hlid : ((b1.putSlot s { y1 with state := y1.live }).slot s).begins = y1.begins := by
      rw [slot_putSlot]; rfl
    have hy2 : y2.begins = y1.begins := detEnd_begins.trans (releaseLid_begins.trans hlid)
    rw [hy1] at hy2
    simp only [Slot.begins, Prod.mk.injEq] at hy2
    obtain ⟨hdata, hcount, hi, hnext⟩ := hy2
    have hslot : (((b2.takeNotes s i c.trigs).putSlot s z).logicSteps).slot s = z :=
      (slot_congr (logicSteps_lgc _) s).trans (slot_putSlot _ _ _)
    rw [hslot]
    refine ⟨c, rfl, rfl, congrArg TimeSt.elapsed htime, hdata, rfl, rfl, rfl, ?_, hi.trans himg, hnext⟩
    exact congrArg (· + sk + 1) hcount

end

/-! ### A cycle written out -/

section
variable {b : Block} {s p n e : Nat}

/-- A slot but for the contexts and the control objects, which the effects of a commit write. -/
def Slot.bare (y : Slot) : Slot := { y with ctxs := [], objs := [] }

/-- What an effect of a commit leaves of the slots and the pairs. -/
def Untouched (s : Nat) (b b' : Block) : Prop := (b'.slot s).bare = (b.slot s).bare ∧ b'.lgc.pairs = b.lgc.pairs

theorem Untouched.of_lgc {b' : Block} (h : b'.lgc = b.lgc) : Untouched s b b' :=
  ⟨congrArg Slot.bare (slot_congr h s), by rw [h]⟩

theorem Untouched.of_put {y : Slot} (h : y.bare = (b.slot s).bare) : Untouched s b (b.putSlot s y) :=
  ⟨(congrArg Slot.bare (slot_putSlot ..)).trans h, rfl⟩

theorem Untouched.trans {b1 b2 : Block} (h1 : Untouched s b b1) (h2 : Untouched s b1 b2) : Untouched s b b2 :=
  ⟨h2.1.trans h1.1, h2.2.trans h1.2⟩

theorem ctlAck_untouched (o v : Nat) : Untouched s b (b.ctlAck s o v e) := by
  unfold Block.ctlAck
  dsimp only
  split
  · split
    · exact .of_lgc rfl
    · split
      · refine Untouched.trans ?_ (.of_lgc (answer_lgc ..))
        exact .of_put rfl
      · exact .of_put rfl
  · exact .of_lgc rfl

theorem effect_untouched (x : Staged) : Untouched s b (b.effect s p n e x) := by
  unfold Block.effect
  dsimp only
  split
  · exact ctlAck_untouched ..
  · exact .of_lgc rfl
  · exact .of_lgc (raiseAt_lgc ..)
  · exact .of_put rfl
  · exact .of_put rfl
  · exact .of_lgc rfl

theorem effects_untouched (l : List (Nat × Staged)) : Untouched s b (l.foldl (fun b x => b.effect s p n e x.2) b) := by
  induction l generalizing b with
  | nil => exact .of_lgc rfl
  | cons x l ih => exact .trans (effect_untouched x.2) ih

/-- The slot and the pairs after a commit: the cycle is over, and its data and tag are the slot's. -/
theorem commitCycle_slot {y : Slot} {i : FjImg} {c : Cyc} : (b.commitCycle s y i c p).lgc.pairs = b.lgc.pairs ∧
    ∃ z, ((b.commitCycle s y i c p).slot s).bare = z ∧ z.cyc = none ∧ z.data = c.data ∧ z.lastTag = c.e ∧ z.cycled = true ∧
      z.takeover = y.takeover ∧ z.state = y.state := by
  generalize hr : b.commitCycle s y i c p = r
  unfold Block.commitCycle at hr
  extract_lets run late ls res ctxs offs fc half sec rmax prev cause met z b1 b2 b3 b4 b5 at hr
  subst hr
  have h5 : b5.lgc = b2.lgc := by
    have h3 : b3.lgc = b2.lgc := raiseIf_lgc ..
    have h4 : b4.lgc = b3.lgc := foldl_keeps (fun b : Block => b.lgc) _ (fun b t => raiseAt_lgc ..) _ _
    have h5 : b5.lgc = b4.lgc := foldl_keeps (fun b : Block => b.lgc) _ (fun b t => raiseAt_lgc ..) _ _
    exact h5.trans (h4.trans h3)
  have h := Untouched.trans (Untouched.of_lgc (s := s) h5) (effects_untouched (p := p) (n := i.n) (e := c.e) ls)
  refine ⟨h.2, _, h.1, ?_⟩
  have hz : b2.slot s = z := slot_putSlot ..
  rw [hz]
  exact ⟨rfl, rfl, rfl, rfl, rfl, rfl⟩

end

/-! ### A slot that leaves a failed pair -/

section
variable {b : Block} {s t n p q : Nat}

theorem faultSlot_slot_ne (h : n ≠ t) (hn : (b.slot n).state ≠ .faulted) : (b.faultSlot t p).slot n = b.slot n :=
  (slot_congr (raiseOpen_lgc ..) n).trans
    ((stopSlot_slot_ne h (by rw [slot_congr (fault_lgc ..)]; exact hn)).trans (slot_congr (fault_lgc ..) n))

theorem faultSlot_failed (h : (b.pair p).state = .failed) : ((b.faultSlot t q).pair p).state = .failed := by
  rw [Block.faultSlot, pair_congr (raiseOpen_lgc ..)]
  exact stopSlot_failed (by rw [pair_congr (fault_lgc ..)]; exact h)

/-- What a commit wrote of a slot. -/
def Slot.committed (y : Slot) : Option Cyc × Tab Word × Nat := (y.cyc, y.data, y.lastTag)

theorem faultSlot_slot (h : (b.slot s).takeover = none) (hc : (b.slot s).cyc = none) :
    ((b.faultSlot s p).slot s).committed = (b.slot s).committed := by
  obtain ⟨o, t, w, hs⟩ := stopSlot_slot (b := b.fault .loss) (s := s) (st := .faulted) (.inr (by rw [slot_congr (fault_lgc ..)]; exact h))
  rw [Block.faultSlot, slot_congr (raiseOpen_lgc ..), hs, slot_congr (fault_lgc ..), Slot.committed, Slot.committed, hc]

/-- A slot given to the pair that loads for it. -/
def Block.give (s p q : Nat) (b : Block) : Block :=
  ((b.fault .lasting).putSlot s { b.slot s with state := .migrating, pair := some q }).putPair q
    { b.pair q with state := .loading, slot := some s, planned := false, verdict := some (b.now, p) }

theorem give_slot : ((b.give s p q).slot s).committed = (b.slot s).committed ∧ ((b.give s p q).slot s).state = .migrating := by
  rw [Block.give, slot_putPair, slot_putSlot]
  exact ⟨rfl, rfl⟩

theorem give_failed (hp : (b.pair p).state = .failed) (hq : (b.pair q).state ≠ .failed) : ((b.give s p q).pair p).state = .failed := by
  have hpq : p ≠ q := fun he => hq (he ▸ hp)
  rw [Block.give, pair_putPair_ne hpq, pair_putSlot, pair_congr (fault_lgc ..)]
  exact hp

/-- A slot of a failed pair keeps what was committed, and the pair stays failed. -/
theorem migrate_slot (ht : (b.slot s).takeover = none) (hc : (b.slot s).cyc = none) (hp : (b.pair p).state = .failed) :
    ((b.migrate s p).slot s).committed = (b.slot s).committed ∧ ((b.migrate s p).pair p).state = .failed := by
  have hdrop := dropTakeover_none b ht
  fun_cases Block.migrate s p b
  case case1 b1 give q hq =>
    have hb1 : b1 = b := hdrop
    rw [hb1] at hq ⊢
    have hs : (b.pair q).state = .spare := by simpa using List.find?_some hq
    exact ⟨(give_slot (q := q)).1, give_failed hp (by rw [hs]; decide)⟩
  case case2 b1 give _ q hq x t o =>
    have hb1 : b1 = b := hdrop
    rw [hb1] at hq ⊢
    have hs := List.find?_some hq
    have hl : (b.pair q).state = .loading := by simpa using (Bool.and_eq_true_iff.mp hs).1
    have hst : s ≠ t := by
      simp only [t, x, hb1]
      have hlt := (Bool.and_eq_true_iff.mp hs).2
      split at hlt
      · next u at_ o hu _ =>
        have hsu : s < u := by simpa using (Bool.and_eq_true_iff.mp hlt).1
        rw [hu]
        exact Nat.ne_of_lt hsu
      · cases hlt
    obtain ⟨hgive, hmig⟩ := give_slot (b := b) (s := s) (p := p) (q := q)
    have hput : ∀ y, ((b.give s p q).putSlot t y).slot s = (b.give s p q).slot s := fun y => slot_putSlot_ne hst y _
    refine ⟨?_, faultSlot_failed (give_failed hp (by rw [hl]; decide))⟩
    refine Eq.trans (congrArg Slot.committed (faultSlot_slot_ne hst ?_)) ((congrArg Slot.committed (hput _)).trans hgive)
    exact fun hf => by
      have hc := hmig.symm.trans ((congrArg Slot.state (hput _)).symm.trans hf)
      cases hc
  case case3 b1 _ _ =>
    have hb1 : b1 = b := hdrop
    rw [hb1]
    have hput := slot_putSlot s { b.slot s with pair := none } b
    refine ⟨(faultSlot_slot ?_ ?_).trans ?_, faultSlot_failed hp⟩
    · rw [hput]; exact ht
    · rw [hput]; exact hc
    · rw [hput]; rfl

end

/-! ### The commands -/

section
variable {b : Block} {n p : Nat} {y : Slot} {i : FjImg}

/-- READ-IN at an aligned boundary, once P(E) has come (R219, R536). -/
theorem readIn_of_ready (hn : n < 8) (hy : b.slot n = y) (hi : y.img = some i) (hp : y.pair = some p)
    (hrun : (b.pair p).state = .running) (hyr : y.running = true) (hc : y.cyc = none) (hr : y.redo = none)
    (hdiv : b.time.epoch % i.n = 0) (hne : y.nextE ≤ b.time.epoch) (hbl : y.blockTo ≤ b.time.epoch) (hpub : b.elm.pubEpoch = b.time.epoch) :
    b.readIn n = if y.damaged then
      ((b.putPair p { b.pair p with state := .stopped }).stopSlot n .faulted).raiseOpen (pairSrc p) else b.beginCycle n := by
  subst hy
  simp only [Block.readIn, if_neg (Nat.not_le.mpr hn), hi, hp, hrun, hyr, hc, hr, hdiv, hne, hbl, hpub, beq_self_eq_true, Option.isNone_none,
    Bool.and_self, decide_true, if_true]

theorem readIn_empty {q : Nat} (hn : n < 8) (hy : b.slot n = y) (hi : y.img = none) (hx : y.next = some (q, i)) (hp : y.pair = some p)
    (hrun : (b.pair p).state = .running) (hq : q ≤ b.time.epoch) (hdiv : b.time.epoch % i.n = 0) (hpub : b.elm.pubEpoch = b.time.epoch) :
    b.readIn n = (b.startSlot n p b.time.epoch 256 true true).beginCycle n := by
  subst hy
  simp only [Block.readIn, if_neg (Nat.not_le.mpr hn), hi, hx, hp, hrun, hdiv, hq, hpub, beq_self_eq_true, Bool.and_self, decide_true, if_true]

theorem startSlot_image {q e cause : Nat} {cold keep : Bool} (hx : (b.slot n).next = some (q, i)) :
    ((b.startSlot n p e cause cold keep).slot n).img = some i ∧ ((b.startSlot n p e cause cold keep).slot n).next = none := by
  have htake : ((b.takeImage n i cold).slot n).img = some i ∧ ((b.takeImage n i cold).slot n).next = none := by
    rw [Block.takeImage, slot_putSlot]
    exact ⟨rfl, rfl⟩
  simp only [Block.startSlot, hx, htake.1, slot_putPair, slot_putSlot]
  exact ⟨trivial, htake.2⟩

theorem startSlot_time {q e cause : Nat} {cold keep : Bool} : (b.startSlot n q e cause cold keep).time = b.time :=
  time_of_outside (startSlot_outside (P := [.wheel, .lgc]) n q e cause cold keep b (by simp))

theorem writeOut_of {c : Cyc} {ok : Bool} (hn : n < 8) (hy : b.slot n = y) (hi : y.img = some i) (hc : y.cyc = some c) (hp : y.pair = some p)
    (hre : c.ready = []) (hst : c.stack = []) (hk : b.now ≤ c.kettle i) :
    b.writeOut n ok = (let b2 := ((b.commitCycle n y i c p).takeoverCommit n p).logicSteps
      if ok then b2 else
        let b3 := b2.raiseOpen (pairSrc p)
        match (b2.pair p).state, (b2.pair p).slot with
        | .running, some s =>
          let b4 := b3.putSlot s { b3.slot s with det := (b3.slot s).det ++ [(p, b3.now)] }
          if !(b3.slot s).running then ((b4.putPair p { b2.pair p with cause := 8 }).failPair p).fault .lasting
          else ((b4.putPair p { b2.pair p with cause := 8 }).failPair p).migrate s p
        | _, _ => ((b3.putPair p { b2.pair p with cause := 8 }).failPair p).fault .lasting) := by
  subst hy
  have hmay : b.mayRun n = true := by simp [Block.mayRun, hn]
  simp only [Block.writeOut, hi, hc, hp, hre, hst, hmay, if_neg (Nat.not_le.mpr hn), decide_eq_false (Nat.not_lt.mpr hk), bne_self_eq_false,
    Bool.not_true, Bool.false_and, Bool.or_self, Bool.false_eq_true, if_false] <;> rfl

/-- The slot and the pairs once a cycle is committed. -/
theorem committed_slot {c : Cyc} : ∃ y', (((b.commitCycle n y i c p).takeoverCommit n p).logicSteps.slot n) = y' ∧
    y'.committed = (none, c.data, c.e) ∧ y'.cycled = true ∧ y'.state = y.state ∧
    (y.takeover = none → y'.takeover = none ∧ ((b.commitCycle n y i c p).takeoverCommit n p).logicSteps.lgc.pairs = b.lgc.pairs) := by
  obtain ⟨hpairs, z, hz, hcyc, hdata, htag, hcycled, htake, hstate⟩ := commitCycle_slot (b := b) (s := n) (p := p) (y := y) (i := i) (c := c)
  subst hz
  refine ⟨_, rfl, ?_⟩
  rw [slot_congr (logicSteps_lgc ..), logicSteps_lgc]
  unfold Block.takeoverCommit
  dsimp only
  split
  · next k h =>
    rw [slot_putPair, slot_putSlot]
    refine ⟨by rw [Slot.committed]; exact Prod.ext hcyc (Prod.ext hdata htag), hcycled, hstate, fun hn => ?_⟩
    have hsome : y.takeover = some (1, k) := htake.symm.trans h
    rw [hn] at hsome
    cases hsome
  · exact ⟨Prod.ext hcyc (Prod.ext hdata htag), hcycled, hstate, fun hn => ⟨htake.trans hn, hpairs⟩⟩

theorem failPair_pair : ((b.failPair p).pair p).state = .failed := congrArg Pair.state (pair_putPair ..)

theorem failPair_slot : (b.failPair p).slot n = b.slot n := slot_putPair ..

/-- A pulse test that fails after a commit: the pair fails, and the slot keeps the half just committed (R232). -/
theorem writeOut_failed {c : Cyc} (hn : n < 8) (hy : b.slot n = y) (hi : y.img = some i) (hc : y.cyc = some c) (hp : y.pair = some p)
    (ht : y.takeover = none) (hrun : (b.pair p).state = .running) (hps : (b.pair p).slot = some n) (hyr : y.running = true)
    (hre : c.ready = []) (hst : c.stack = []) (hk : b.now ≤ c.kettle i) :
    ((b.writeOut n false).slot n).committed = (none, c.data, c.e) ∧ ((b.writeOut n false).pair p).state = .failed := by
  obtain ⟨y', hy', hcom, -, hstate, hnone⟩ := committed_slot (b := b) (n := n) (p := p) (y := y) (i := i) (c := c)
  obtain ⟨ht', hpairs⟩ := hnone ht
  rw [writeOut_of hn hy hi hc hp hre hst hk]
  generalize ((b.commitCycle n y i c p).takeoverCommit n p).logicSteps = b2 at hy' hpairs ⊢
  have hpair : b2.pair p = b.pair p := by simp only [Block.pair, hpairs]
  have hslot : (b2.raiseOpen (pairSrc p)).slot n = y' := (slot_congr (raiseOpen_lgc ..) n).trans hy'
  have hyr' : y'.running = true := by
    rw [Slot.running, hstate]
    exact hyr
  dsimp only
  rw [if_neg Bool.false_ne_true, hpair]
  generalize hx : b.pair p = x at hrun hps ⊢
  split
  · next s _ hs =>
    cases hps.symm.trans hs
    rw [hslot, hyr', if_neg (by decide)]
    generalize b2.raiseOpen (pairSrc p) = b3
    obtain ⟨h1, h2⟩ := migrate_slot (b := ((b3.putSlot n { y' with det := y'.det ++ [(p, b3.now)] }).putPair p
      { x with cause := 8 }).failPair p) (s := n) (p := p) (by rw [failPair_slot, slot_putPair, slot_putSlot]; exact ht')
      (by rw [failPair_slot, slot_putPair, slot_putSlot]; exact congrArg (·.1) hcom) failPair_pair
    refine ⟨h1.trans ?_, h2⟩
    rw [failPair_slot, slot_putPair, slot_putSlot]
    exact hcom
  · next h => exact absurd hps (h n hrun)

theorem kettleFire_of {c : Cyc} (hn : n < 8) (hy : b.slot n = y) (hi : y.img = some i) (hc : y.cyc = some c ∨ y.cyc = none ∧ y.redo = some c)
    (hp : y.pair = some p) (hk : c.kettle i ≤ b.now) : ∃ b1 : Block, b1.lgc = b.lgc ∧ b.kettleFire n =
    (b1.putPair p (if (b.pair p).state = .testing then { b.pair p with back := .stopped } else { b.pair p with state := .stopped })).stopSlot n
      .kettle := by
  subst hy
  refine ⟨_, raise_lgc (progSrc p) ((b.now - c.dead i) / usE : Nat) b, ?_⟩
  have hgo : ¬ (8 ≤ n ∨ b.now < c.kettle i) := by omega
  rcases hc with hc | ⟨hc, hr⟩
  · simp only [Block.kettleFire, hi, hc, hp, if_neg hgo]
  · simp only [Block.kettleFire, hi, hc, hr, hp, if_neg hgo]

theorem taskSwitch_of {c : Cyc} (hmay : b.mayRun n = true) (hi : (b.slot n).img = some i) (hc : (b.slot n).cyc = some c) :
    b.taskSwitch n = (let b1 := match c.stack with
        | [] =>
          match i.best c.ready with
          | some t => b.putSlot n { b.slot n with cyc := some (c.startTask i t) }
          | none => b
        | u :: _ =>
          match i.best c.ready with
          | some t =>
            if i.outranks t u && !(c.active && (tget ctxD c.ctxs u).lockcnt != 0) then
              b.putSlot n { b.slot n with cyc := some (c.startTask i t) }
            else b.putSlot n { b.slot n with cyc := some { c with active := true } }
          | none => b.putSlot n { b.slot n with cyc := some { c with active := true } }
      if 8 ≤ n ∧ (b.pair (n - 8)).hreq.isNone then b1.debugAfter n else b1) := by
  simp only [Block.taskSwitch, hi, hc, hmay, Bool.not_true, Bool.false_eq_true, if_false] <;> rfl

end

/-- Settles O36: the arm of each command under its condition. -/
theorem cycleCommandsComplete : Obligations.CycleCommandsComplete := by
  refine ⟨fun s n y i p hn hy hi hp hrun hyr hc hr hnext hdam hdiv hne hbl hpub => ⟨_, rfl, ?_⟩,
    fun s n y i j p q hn hy hi hp hrun hyr hc hr hnext hq hdam hdiv hdivj hne hbl hpub => ⟨_, rfl, ?_⟩,
    fun s n y i p hn hy hi hp hrun hyr hc hr hdam hdiv hne hbl hpub ht => ⟨_, rfl, ?_⟩,
    fun s n y i p q hn hy hi hnext hp hrun hq hdiv hpub => ⟨_, rfl, ?_⟩,
    fun s n y i c p hn hy hi hc hp hre hst hk => ⟨_, rfl, ?_⟩,
    fun s n y i c p hn hp9 hy hi hc hp ht hrun hps hyr hre hst hk => ⟨_, rfl, ?_⟩,
    fun s n y i c p hn hy hi hc hp hk => ⟨_, rfl, ?_⟩, fun s n a ha hpol hat => ?_,
    fun s n i c t b1 hmay hi hc hb hcase h1 => ?_, fun s n i c u r b1 hmay hi hc hst hcase h1 => ?_⟩
  · subst hy
    obtain ⟨c, h1, h2, h3, h4, h5, h6, h7, h8, -, -⟩ := beginCycle_slot (congrArg (·.slot n) (imaged_same hnext)) hi hdiv
    rw [afterLogic_slot, readIn_of_ready hn rfl hi hp hrun hyr hc hr hdiv hne hbl hpub, if_neg (by simp [hdam])]
    exact ⟨c, h1, h2, h3, h4, h5, h6, h7, h8⟩
  · subst hy
    have himg : (s.blk.imaged n).slot n = (s.blk.takeImage n j false).slot n := by rw [imaged_due hnext hq]
    have hj : ((s.blk.takeImage n j false).slot n).img = some j ∧ ((s.blk.takeImage n j false).slot n).next = none := by
      rw [Block.takeImage, slot_putSlot]
      exact ⟨rfl, rfl⟩
    obtain ⟨c, h1, h2, -, -, h5, -, -, -, h9, h10⟩ := beginCycle_slot himg hj.1 hdivj
    rw [afterLogic_slot, readIn_of_ready hn rfl hi hp hrun hyr hc hr hdiv hne hbl hpub, if_neg (by simp [hdam])]
    exact ⟨h9, h10.trans hj.2, h5, c, h1, h2⟩
  · subst hy
    have hslot : (s.blk.putPair p { s.blk.pair p with state := .stopped }).slot n = s.blk.slot n := slot_putPair ..
    obtain ⟨o, t, w, hs⟩ := stopSlot_slot (b := s.blk.putPair p { s.blk.pair p with state := .stopped }) (s := n) (st := .faulted)
      (.inr (by rw [hslot]; exact ht))
    have hpair := stopSlot_pair (b := s.blk.putPair p { s.blk.pair p with state := .stopped }) (s := n) (p := p) (st := .faulted)
      (by rw [hslot]; exact ht)
    rw [readIn_of_ready hn rfl hi hp hrun hyr hc hr hdiv hne hbl hpub, if_pos hdam]
    dsimp only
    rw [afterLogic_slot, afterLogic_pair, slot_congr (raiseOpen_lgc ..), pair_congr (raiseOpen_lgc ..), hs, hpair, pair_putPair]
    exact ⟨rfl, rfl, rfl⟩
  · subst hy
    obtain ⟨himg, hnone⟩ := startSlot_image (p := p) (e := s.blk.time.epoch) (cause := 256) (cold := true) (keep := true) hnext
    have hsame : (s.blk.startSlot n p s.blk.time.epoch 256 true true).imaged n = s.blk.startSlot n p s.blk.time.epoch 256 true true :=
      imaged_same fun q j hj => by rw [hnone] at hj; cases hj
    obtain ⟨c, h1, h2, -, -, -, -, -, -, h9, -⟩ := beginCycle_slot (congrArg (·.slot n) hsame) himg (by rw [startSlot_time]; exact hdiv)
    rw [afterLogic_slot, readIn_empty hn rfl hi hnext hp hrun hq hdiv hpub]
    exact ⟨h9, c, h1, h2.trans (by rw [startSlot_time])⟩
  · obtain ⟨y', hy', hcom, hcyc, -, -⟩ := committed_slot (b := s.blk) (n := n) (p := p) (y := y) (i := i) (c := c)
    simp only [Slot.committed, Prod.mk.injEq] at hcom
    rw [writeOut_of hn hy hi hc hp hre hst hk]
    dsimp only
    rw [if_pos rfl, afterLogic_slot, hy']
    exact ⟨hcom.1, hcom.2.1, hcom.2.2, hcyc⟩
  · have hw := writeOut_failed hn hy hi hc hp ht hrun hps hyr hre hst hk
    simp only [Slot.committed, Prod.mk.injEq] at hw
    dsimp only
    rw [afterLogic_slot, afterLogic_pair]
    obtain ⟨⟨h1, h2, h3⟩, h4⟩ := hw
    exact ⟨h1, h2, h3, h4⟩
  · obtain ⟨b1, hb1, hfire⟩ := kettleFire_of hn hy hi hc hp hk
    subst hy
    have hslot : ∀ x, (b1.putPair p x).slot n = s.blk.slot n := fun x => (slot_putPair ..).trans (slot_congr hb1 n)
    rw [hfire]
    refine ⟨?_, ?_, ?_, fun ht => ?_⟩
    rotate_right
    · rw [stopSlot_pairs (by rw [hslot]; exact ht), Block.putPair, hb1]
    all_goals
      obtain ⟨o, t, w, hs⟩ := stopSlot_slot (s := n) (st := .kettle) (b := b1.putPair p _) (.inl (by decide))
      rw [hs]
  · refine congrArg s.done ?_
    simp only [Block.armDelay, ha, hpol, hat, and_self, if_true]
  · subst h1
    refine congrArg s.done ?_
    rw [taskSwitch_of hmay hi hc]
    rcases hcase with hst | ⟨u, r, hst, hout, hlock⟩
    · simp only [hst, hb]
    · have hgo : (i.outranks t u && !(c.active && (tget ctxD c.ctxs u).lockcnt != 0)) = true := by
        rcases hlock with h | h <;> simp [hout, h]
      simp only [hst, hb, hgo, if_true]
  · subst h1
    refine congrArg s.done ?_
    rw [taskSwitch_of hmay hi hc]
    simp only [hst]
    cases hb : i.best c.ready with
    | none => rfl
    | some t =>
      have hgo : (i.outranks t u && !(c.active && (tget ctxD c.ctxs u).lockcnt != 0)) = false := by
        rcases hcase t hb with h | ⟨h, h'⟩ <;> simp [h]
        exact fun _ => h'
      simp only [hgo, Bool.false_eq_true, if_false]

end Sys2Proof.Machine
end

section
-- One declaration after another: the check compiles the whole text under a memory limit.
set_option Elab.async false
/-! SUPPORT. The pairs: detections, verdicts of their self-tests, the spare's loads and tests, and takeovers. -/

namespace Sys2Proof.Machine
open Sys2Proof

/-! ### A detection -/

section
variable {b : Block} {s n p q : Nat}

theorem detect_pair {d : Detect} (h : (b.pair p).state = .stopped ∨ (b.pair p).state = .spare ∨ (b.pair p).state = .service ∨
    (b.pair p).state = .halted ∨ ((b.pair p).state = .running ∨ (b.pair p).state = .loading) ∧ (b.pair p).slot.isSome = true) :
    ((b.detect p d).pair p).state = .testing ∧ ((b.detect p d).pair p).cause = d.code ∧ ((b.detect p d).pair p).planned = false := by
  rcases h with h | h | h | h | ⟨h | h, hs⟩
  case' inr.inr.inr.inr.inl | inr.inr.inr.inr.inr => obtain ⟨n, hn⟩ := Option.isSome_iff_exists.mp hs
  case inr.inr.inr.inr.inl =>
    simp only [Block.detect, h, hn]
    split
    · simp only [pair_putPair, and_self]
    · simp only [pair_putPair, and_self]
  case inr.inr.inr.inr.inr =>
    simp only [Block.detect, h, hn]
    split
    · simp only [pair_putPair, and_self]
    · simp only [pair_putPair, and_self]
    · simp only [pair_putPair, and_self]
  all_goals simp only [Block.detect, h, pair_putPair, and_self]

theorem detect_running {d : Detect} (hp : (b.pair p).state = .running) (hs : (b.pair p).slot = some n) (hr : (b.slot n).running = true) :
    ((b.detect p d).slot n).state = .migrating ∧ ((b.detect p d).slot n).cyc = none ∧ ((b.detect p d).slot n).redo =
      (match (b.slot n).cyc with | some c => some c | none => (b.slot n).redo) ∧ ((b.detect p d).pair p).back = .running := by
  simp only [Block.detect, hp, hs, hr, Bool.not_true, Bool.false_eq_true, if_false, slot_putPair, slot_congr (raiseOpen_lgc ..), slot_putSlot,
    pair_putPair, true_and, and_true] <;> rfl

/-! ### A pair that fails its self-test -/

/-- What a pair is and does. -/
def Pair.role (x : Pair) : PairSt × Option Nat × Nat := (x.state, x.slot, x.cause)

theorem exitAnswer_role (f : Bool) (k : Nat) : ((b.exitAnswer p f).pair k).role = (b.pair k).role := by
  unfold Block.exitAnswer
  dsimp only
  split
  · rw [Block.ok, pair_congr (answer_lgc ..)]
    by_cases hk : k = p
    · rw [hk, pair_putPair]; rfl
    · rw [pair_putPair_ne hk]
  · rfl

theorem exitAnswer_slot (f : Bool) : (b.exitAnswer p f).slot n = b.slot n := by
  unfold Block.exitAnswer
  dsimp only
  split
  · rw [Block.ok, slot_congr (answer_lgc ..), slot_putPair]
  · rfl

theorem exitAnswer_flt (f : Bool) : (b.exitAnswer p f).flt = b.flt :=
  flt_of_outside (exitAnswer_outside (P := .lgc :: Part.reply) p f b (by simp))

/-- The block of a pair that has failed its self-test, before its slot's part. -/
def Block.failedTest (p : Nat) (b : Block) : Block := (b.failPair p).exitAnswer p true

theorem failedTest_pair : ((b.failedTest p).pair p).role = (.failed, none, Nat.lor (b.pair p).cause 16) :=
  (exitAnswer_role ..).trans (congrArg Pair.role (pair_putPair ..))

theorem failedTest_pair_ne (h : q ≠ p) : ((b.failedTest p).pair q).role = (b.pair q).role :=
  (exitAnswer_role ..).trans (congrArg Pair.role (pair_putPair_ne h _ _))

theorem failedTest_slot : (b.failedTest p).slot n = b.slot n := (exitAnswer_slot ..).trans (slot_putPair ..)

theorem failedTest_flt : (b.failedTest p).flt = b.flt := exitAnswer_flt ..

theorem failedTest_state {st : PairSt} (hp : (b.pair p).state = .testing) (hst : st ≠ .failed) (ht : st ≠ .testing) (k : Nat) :
    ((b.failedTest p).pair k).state = st ↔ (b.pair k).state = st := by
  by_cases hk : k = p
  · have h : ((b.failedTest p).pair p).state = .failed := congrArg (·.1) (failedTest_pair (b := b) (p := p))
    rw [hk, h, hp]
    exact ⟨fun h => absurd h.symm hst, fun h => absurd h.symm ht⟩
  · have h : ((b.failedTest p).pair k).state = (b.pair k).state := congrArg (·.1) (failedTest_pair_ne (b := b) hk)
    rw [h]

theorem failedTest_spare (hp : (b.pair p).state = .testing) : (b.failedTest p).spare = b.spare := by
  unfold Block.spare
  refine congrArg (List.find? · _) (funext fun k => ?_)
  rw [Bool.eq_iff_iff, beq_iff_eq, beq_iff_eq]
  exact failedTest_state hp (by decide) (by decide) k

theorem verdict_failed {failed : Bool} (hp : (b.pair p).state = .testing) (hf : failed = true ∨ (b.pair p).planned = false ∧
    2 ≤ ((b.pair p).transAt.filter fun a => decide (b.now < a + 60 * secE)).length) :
    b.verdict p failed = match (b.pair p).back, (b.pair p).slot with
      | .running, some s => if ((b.failedTest p).slot s).running then (b.failedTest p).migrate s p
        else ((b.failedTest p).putSlot s { (b.failedTest p).slot s with pair := none }).fault .lasting
      | .stopped, some s => ((b.failedTest p).putSlot s { (b.failedTest p).slot s with pair := none }).fault .lasting
      | _, _ => (b.failedTest p).fault .lasting := by
  have hgo : (failed || (!(b.pair p).planned && decide (2 ≤ ((b.pair p).transAt.filter fun a => decide (b.now < a + 60 * secE)).length))) = true := by
    rcases hf with h | h <;> simp [h]
  simp only [Block.verdict, hp, hgo, bne_self_eq_false, Bool.false_eq_true, if_false, if_true] <;> rfl

/-- The block of a pair that has passed its self-test: a transient is counted unless the test was planned. -/
def Block.passedTest (p : Nat) (b : Block) : Block := if (b.pair p).planned then b else b.fault .transient

/-- The pair that has passed. -/
def Block.passedPair (p : Nat) (b : Block) : Pair :=
  { b.pair p with
    transAt := if (b.pair p).planned then (b.pair p).transAt.filter fun a => decide (b.now < a + 60 * secE)
      else (b.passedTest p).now :: (b.pair p).transAt.filter fun a => decide (b.now < a + 60 * secE) }

theorem passedTest_lgc : (b.passedTest p).lgc = b.lgc := by
  unfold Block.passedTest
  split
  · rfl
  · exact fault_lgc ..

theorem verdict_passed (hp : (b.pair p).state = .testing) (hpl : (b.pair p).planned = true ∨
    ((b.pair p).transAt.filter fun a => decide (b.now < a + 60 * secE)).length < 2) :
    b.verdict p false = match (b.pair p).back, (b.pair p).slot with
      | .running, some s =>
        let b1 := (b.passedTest p).putPair p { b.passedPair p with state := .running }
        if (b1.slot s).redo.isSome then b1.repeatCycle s
        else if (b1.slot s).state == .migrating then b1.putSlot s { b1.slot s with state := (b1.slot s).live } else b1
      | .service, _ => (b.passedTest p).putPair p { b.passedPair p with state := .service, slot := none }
      | .stopped, _ => (b.passedTest p).putPair p { b.passedPair p with state := .stopped }
      | _, _ => (((b.passedTest p).putPair p (b.passedPair p)).exitAnswer p false).enterSpare p := by
  have hgo : (false || (!(b.pair p).planned && decide (2 ≤ ((b.pair p).transAt.filter fun a => decide (b.now < a + 60 * secE)).length))) =
      false := by
    rcases hpl with h | h <;> simp [h]
  simp only [Block.verdict, hp, hgo, bne_self_eq_false, Bool.false_eq_true, if_false, Block.passedTest, Block.passedPair] <;> rfl

theorem migrate_spare (ht : (b.slot s).takeover = none) (hq : b.spare = some q) : b.migrate s p = b.give s p q := by
  simp only [Block.migrate, dropTakeover_none b ht, hq] <;> rfl

theorem migrate_none (ht : (b.slot s).takeover = none) (hq : ∀ k, k < 9 → (b.pair k).state ≠ .spare ∧ (b.pair k).state ≠ .loading) :
    b.migrate s p = (b.putSlot s { b.slot s with pair := none }).faultSlot s p := by
  have hdrop := dropTakeover_none b ht
  fun_cases Block.migrate s p b
  case case1 b1 give k hk =>
    have hb1 : b1 = b := hdrop
    rw [hb1] at hk
    have hs : (b.pair k).state = .spare := by simpa using List.find?_some hk
    exact absurd hs (hq k (List.mem_range.mp (List.mem_of_find?_eq_some hk))).1
  case case2 b1 give _ k hk x t o =>
    have hb1 : b1 = b := hdrop
    rw [hb1] at hk
    have hs := List.find?_some hk
    have hl : (b.pair k).state = .loading := by simpa using (Bool.and_eq_true_iff.mp hs).1
    exact absurd hl (hq k (List.mem_range.mp (List.mem_of_find?_eq_some hk))).2
  case case3 b1 _ _ =>
    have hb1 : b1 = b := hdrop
    rw [hb1]

/-! ### A cycle repeated, and what a cycle's begin leaves of a takeover -/

theorem repeatCycle_slot {i : FjImg} {c : Cyc} (hi : (b.slot s).img = some i) (hr : (b.slot s).redo = some c) :
    ((b.repeatCycle s).slot s).redo = none ∧ ((b.repeatCycle s).slot s).pair = (b.slot s).pair ∧
    ∃ d, ((b.repeatCycle s).slot s).cyc = some d ∧ d.e = c.e ∧ d.repeated = true ∧ d.data = (b.slot s).data := by
  have hslot : (b.detEnd s).slot s = { b.slot s with det := [] } := slot_putSlot ..
  simp only [Block.repeatCycle, hslot, hi, hr, slot_putSlot, true_and]
  exact ⟨_, rfl, rfl, rfl, rfl⟩

theorem repeatCycle_pair_of_slot : ((b.repeatCycle s).slot s).pair = (b.slot s).pair := by
  have hslot : (b.detEnd s).slot s = { b.slot s with det := [] } := slot_putSlot ..
  unfold Block.repeatCycle
  dsimp only
  split
  · rw [slot_putSlot, hslot]
  · rw [hslot]

/-- What a planned takeover looks at of a slot. -/
def Slot.moving (y : Slot) : Option (Nat × Nat) × Option Nat × Option Req := (y.takeover, y.pair, y.waitReq)

/-- A step that leaves a slot's takeover and the pairs alone. -/
def Steady (s : Nat) (b b' : Block) : Prop := (b'.slot s).moving = (b.slot s).moving ∧ b'.lgc.pairs = b.lgc.pairs

theorem Steady.of_lgc {b' : Block} (h : b'.lgc = b.lgc) : Steady s b b' := ⟨congrArg Slot.moving (slot_congr h s), by rw [h]⟩

theorem Steady.of_put {y : Slot} (h : y.moving = (b.slot s).moving) : Steady s b (b.putSlot s y) :=
  ⟨(congrArg Slot.moving (slot_putSlot ..)).trans h, rfl⟩

theorem Steady.trans {b1 b2 : Block} (h1 : Steady s b b1) (h2 : Steady s b1 b2) : Steady s b b2 := ⟨h2.1.trans h1.1, h2.2.trans h1.2⟩

theorem imaged_steady : Steady s b (b.imaged s) := by
  unfold Block.imaged
  split
  · split
    · refine Steady.trans (.of_lgc ?_) (.of_put ?_)
      all_goals rfl
    · exact .of_lgc rfl
  · exact .of_lgc rfl

theorem releaseLid_steady : Steady s b (b.releaseLid s) := by
  unfold Block.releaseLid
  dsimp only
  split
  · exact .of_put rfl
  · exact .of_lgc rfl

theorem detEnd_lgc (s : Nat) (b : Block) : (b.detEnd s).lgc = (b.putSlot s { b.slot s with det := [] }).lgc :=
  putSlot_congr (foldl_keeps (fun b : Block => b.lgc) _ (fun _ _ => quantity_lgc ..) _ _) _ _

theorem repeatCycle_pair : (b.repeatCycle s).pair p = b.pair p := by
  have hdet : (b.detEnd s).pair p = b.pair p := (pair_congr (detEnd_lgc s b) p).trans (pair_putSlot ..)
  unfold Block.repeatCycle
  dsimp only
  split
  · exact (pair_congr (takeNotes_lgc ..) p).trans hdet
  · exact hdet

theorem detEnd_steady : Steady s b (b.detEnd s) := by
  refine Steady.trans (b1 := b.putSlot s { b.slot s with det := [] }) (.of_put rfl) (.of_lgc (detEnd_lgc s b))

theorem beginCycle_steady : Steady s b (b.beginCycle s) := by
  fun_cases Block.beginCycle s b
  case case1 => exact imaged_steady
  case case2 e b1 y1 i1 h hn => exact Steady.trans (b1 := b1) imaged_steady (.of_put rfl)
  case case3 e b1 y1 i1 h hn b2 y2 sk cause err deaf count tr c z =>
    have h1 : Steady s b b1 := imaged_steady
    have hlive : Steady s b1 (b1.putSlot s { y1 with state := y1.live }) := .of_put rfl
    have h2 : Steady s b1 b2 := hlive.trans (releaseLid_steady.trans detEnd_steady)
    have hz : z.moving = y2.moving := by simp only [z, Slot.moving]
    have hnotes : (b2.takeNotes s i1 c.trigs).slot s = b2.slot s := slot_congr (takeNotes_lgc ..) s
    have hy2 : y2 = b2.slot s := rfl
    clear_value z y2 b2 b1
    have h3 : Steady s (b2.takeNotes s i1 c.trigs) ((b2.takeNotes s i1 c.trigs).putSlot s z) := .of_put (by rw [hz, hnotes, hy2])
    exact (h1.trans h2).trans ((Steady.of_lgc (takeNotes_lgc ..)).trans (h3.trans (.of_lgc (logicSteps_lgc _))))

theorem stopped_flt {st : SlotSt} (h : (b.slot s).takeover = none) : (b.stopped s st).flt = b.flt := by
  obtain ⟨o, ho⟩ := dropOrders_slot (b := b) (s := s)
  have hn : (b.dropOrders s).dropTakeover s = b.dropOrders s := dropTakeover_none _ (by rw [ho]; exact h)
  rw [Block.stopped, hn]
  exact flt_of_outside (b' := b.dropOrders s) (dropOrders_outside (P := .lgc :: Part.reply) s b (by simp))

theorem faultSlot_none (ht : (b.slot s).takeover = none) : ((b.faultSlot s p).slot s).state = .faulted ∧
    ((b.faultSlot s p).slot s).pair = (b.slot s).pair ∧ (b.faultSlot s p).flt.loss = b.flt.loss + 1 := by
  have hflt : ((b.fault .loss).stopSlot s .faulted).flt = (b.fault .loss).flt := by
    rw [stopSlot_eq, if_neg (by rw [slot_congr (fault_lgc ..), ht]; decide)]
    exact stopped_flt (by rw [slot_congr (fault_lgc ..), ht])
  obtain ⟨o, t, w, h⟩ := stopSlot_slot (b := b.fault .loss) (s := s) (st := .faulted) (.inr (by rw [slot_congr (fault_lgc ..), ht]))
  rw [Block.faultSlot, slot_congr (raiseOpen_lgc ..), h, slot_congr (fault_lgc ..)]
  exact ⟨rfl, rfl, (congrArg (·.loss) ((raiseOpen_flt ..).trans hflt))⟩

/-! ### A spare that fails, and a takeover completed -/

theorem spareTest_failed (pulse : Bool) (hp : (b.pair p).state = .spare) :
    ((b.spareTest p pulse false).pair p).role = (.failed, none, Nat.lor (if pulse then 8 else 0) 16) ∧
    (b.spareTest p pulse false).flt.lasting = b.flt.lasting + 1 := by
  simp only [Block.spareTest, hp, bne_self_eq_false, Bool.or_self, Bool.false_eq_true, if_false]
  constructor
  · rw [pair_congr (raiseOpen_lgc ..), pair_congr (fault_lgc ..), Block.failPair, pair_putPair, pair_putPair]; rfl
  · rw [raiseOpen_flt]; rfl

/-- The block in which pair p, loaded, serves slot s. -/
def Block.serving (s p : Nat) (b : Block) : Block :=
  (b.putPair p { b.pair p with state := .running }).putSlot s { b.slot s with pair := some p }

theorem spareLoaded_of (hl : (b.pair p).state = .loading) (hs : (b.pair p).slot = some s) (hm : (b.slot s).state = .migrating)
    (huc : b.flt.ucReload = false) :
    b.spareLoaded p = if (b.slot s).redo.isSome then (b.serving s p).repeatCycle s else b.serving s p := by
  have hgo : ((b.slot s).state != .migrating || b.flt.ucReload) = false := by rw [hm, huc]; rfl
  unfold Block.spareLoaded
  simp only [hl, hs]
  rw [hgo, if_neg (by decide)]
  simp only [Block.serving, hs]

theorem serving_slot : (b.serving s p).slot s = { b.slot s with pair := some p } := slot_putSlot ..

theorem serving_pair : ((b.serving s p).pair p).state = .running := congrArg Pair.state (pair_putPair ..)

/-- The block whose planned takeover of slot s by pair q has its data, before its cycle begins. -/
def Block.takenOver (s q : Nat) (b : Block) : Block :=
  (b.putPair q { b.pair q with state := .running, slot := some s, planned := false }).putSlot s
    { b.slot s with takeover := none, pair := some q, waitReq := none }

theorem takeoverCopied_of {k : Nat} {i : FjImg} (ht : (b.slot s).takeover = some (2, k)) (hl : b.loader s = some q)
    (hi : (b.slot s).img = some i) (hpub : b.elm.pubEpoch = b.time.epoch) (hne : (b.slot s).nextE ≤ b.time.epoch)
    (hbl : (b.slot s).blockTo ≤ b.time.epoch) (hdiv : b.time.epoch % i.n = 0) :
    b.takeoverCopied s = match (b.slot s).waitReq with
      | some r => ((b.takenOver s q).beginCycle s).answer r stOK ((b.takenOver s q).beginCycle s).time.epoch []
      | none => (b.takenOver s q).beginCycle s := by
  simp only [Block.takeoverCopied, ht, hl, hi, hpub, hne, hbl, hdiv, beq_self_eq_true, and_self, decide_true, Bool.and_self, if_true,
    Block.takenOver] <;> rfl

end

/-- Settles O37: the arm of each command under its condition. -/
theorem pairCommandsComplete : Obligations.PairCommandsComplete := by
  refine ⟨fun s p hp h => ⟨_, rfl, detect_pair h⟩, fun s p hp h => ⟨_, rfl, detect_pair h⟩, fun s p hp h => ⟨_, rfl, detect_pair h⟩,
    fun s p n i hi hst hs hr => ?_, fun s p => rfl, fun s p n x i c hx ht hpl hback hs hi hr => ⟨_, rfl, ?_⟩,
    fun s p x hx ht hpl hback => ⟨_, rfl, ?_⟩, fun s p failed x hx ht hf hback => ⟨_, rfl, ?_⟩,
    fun s p q n failed x hx ht hf hback hs hr htk hsp => ⟨_, rfl, ?_⟩, fun s p n failed x hx ht hf hback hs hr htk hno => ⟨_, rfl, ?_⟩,
    fun s p n hl hs hm huc => ⟨_, rfl, ?_⟩, fun s p hsp => ⟨_, rfl, ?_⟩, fun s p => ?_, fun s p hsp => ⟨_, rfl, ?_⟩, fun s p => ?_,
    fun s n k ht huc => ?_, fun s n k q y i hy ht hl hi hpub hne hbl hdiv => ⟨_, rfl, ?_⟩⟩
  · rcases hi with rfl | rfl | rfl
    all_goals exact ⟨_, rfl, detect_running hst hs hr⟩
  · subst hx
    obtain ⟨hslot, hpair⟩ : ((s.blk.passedTest p).putPair p { s.blk.passedPair p with state := .running }).slot n = s.blk.slot n ∧
        (((s.blk.passedTest p).putPair p { s.blk.passedPair p with state := .running }).pair p).state = .running :=
      ⟨(slot_putPair ..).trans (slot_congr passedTest_lgc n), congrArg Pair.state (pair_putPair ..)⟩
    rw [verdict_passed ht hpl]
    simp only [hback, hs, hslot, hr, Option.isSome_some, if_true]
    obtain ⟨h1, -, d, h2, h3, h4, h5⟩ := repeatCycle_slot (congrArg Slot.img hslot |>.trans hi) (congrArg Slot.redo hslot |>.trans hr)
    exact ⟨(congrArg Pair.state repeatCycle_pair).trans hpair, h1, d, h2, h3, h4, h5.trans (congrArg Slot.data hslot)⟩
  · subst hx
    rw [verdict_passed ht hpl]
    rcases hback with h | h
    · simp only [h, pair_putPair]
    · simp only [h, pair_putPair]
  · subst hx
    have hrole := failedTest_pair (b := s.blk) (p := p)
    simp only [Pair.role, Prod.mk.injEq] at hrole
    rw [verdict_failed ht hf]
    simp only [hback, pair_congr (fault_lgc ..)]
    exact ⟨hrole.1, hrole.2.1, hrole.2.2, congrArg (·.lasting + 1) failedTest_flt⟩
  · subst hx
    have hslot : (s.blk.failedTest p).slot n = s.blk.slot n := failedTest_slot
    have hq : ((s.blk.failedTest p).pair q).state = .spare := by simpa using List.find?_some ((failedTest_spare ht).trans hsp)
    rw [verdict_failed ht hf]
    simp only [hback, hs, hslot, hr, if_true]
    rw [migrate_spare (by rw [hslot]; exact htk) ((failedTest_spare ht).trans hsp)]
    refine ⟨give_failed (congrArg (·.1) (failedTest_pair (b := s.blk) (p := p))) (by rw [hq]; decide), give_slot.2, ?_, ?_, ?_, ?_⟩
    · rw [Block.give, slot_putPair, slot_putSlot]
    · rw [Block.give, pair_putPair]
    · rw [Block.give, pair_putPair]
    · exact congrArg (·.lasting + 1) failedTest_flt
  · subst hx
    have hslot : (s.blk.failedTest p).slot n = s.blk.slot n := failedTest_slot
    rw [verdict_failed ht hf]
    simp only [hback, hs, hslot, hr, if_true]
    rw [migrate_none (by rw [hslot]; exact htk) fun k hk => ⟨fun h => (hno k hk).1 ((failedTest_state ht (by decide) (by decide) k).mp h),
      fun h => (hno k hk).2 ((failedTest_state ht (by decide) (by decide) k).mp h)⟩]
    obtain ⟨hst, hpr, hloss⟩ := faultSlot_none (b := (s.blk.failedTest p).putSlot n { (s.blk.failedTest p).slot n with pair := none }) (s := n)
      (p := p) (by rw [slot_putSlot, hslot]; exact htk)
    exact ⟨faultSlot_failed (congrArg (·.1) (failedTest_pair (b := s.blk) (p := p))), hst, hpr.trans (by rw [slot_putSlot]),
      hloss.trans (congrArg (·.loss + 1) failedTest_flt)⟩
  · have hslot := serving_slot (b := s.blk) (s := n) (p := p)
    have hpair := serving_pair (b := s.blk) (s := n) (p := p)
    rw [spareLoaded_of hl hs hm huc]
    split
    · refine ⟨(congrArg Pair.state repeatCycle_pair).trans hpair,
        repeatCycle_pair_of_slot.trans (congrArg Slot.pair hslot), fun hi hr => ?_⟩
      obtain ⟨i, hi⟩ := Option.isSome_iff_exists.mp hi
      obtain ⟨c, hr⟩ := Option.isSome_iff_exists.mp hr
      obtain ⟨h1, -, d, h2, -⟩ := repeatCycle_slot ((congrArg Slot.img hslot).trans hi) ((congrArg Slot.redo hslot).trans hr)
      exact ⟨by rw [h2]; rfl, h1⟩
    case isFalse h => exact ⟨hpair, congrArg Slot.pair hslot, fun _ hr => absurd hr h⟩
  · obtain ⟨hrole, hloss⟩ := spareTest_failed (b := s.blk) (p := p) true hsp
    simp only [Pair.role, Prod.mk.injEq] at hrole
    exact ⟨hrole.1, hrole.2.2, hloss⟩
  · refine congrArg s.done ?_
    rw [Block.spareTest, if_pos (by simp)]
  · obtain ⟨hrole, hloss⟩ := spareTest_failed (b := s.blk) (p := p) false hsp
    simp only [Pair.role, Prod.mk.injEq] at hrole
    exact ⟨hrole.1, hrole.2.1, hloss⟩
  · refine congrArg s.done ?_
    rw [Block.spareTest, if_pos (by simp)]
  · refine congrArg s.done ?_
    simp only [Block.takeoverLoaded, ht, huc, Bool.false_eq_true, if_false]
  · subst hy
    rw [takeoverCopied_of ht hl hi hpub hne hbl hdiv]
    have hbeg := beginCycle_steady (s := n) (b := s.blk.takenOver n q)
    have hslot : (s.blk.takenOver n q).slot n = { s.blk.slot n with takeover := none, pair := some q, waitReq := none } := slot_putSlot ..
    rw [Steady, hslot] at hbeg
    simp only [Slot.moving, Prod.mk.injEq] at hbeg
    obtain ⟨⟨h1, h2, h3⟩, h4⟩ := hbeg
    split
    · simp only [slot_congr (answer_lgc ..), answer_lgc]
      exact ⟨h4, h1, h2, h3⟩
    · exact ⟨h4, h1, h2, h3⟩

end Sys2Proof.Machine
end

section
-- One declaration after another: the check compiles the whole text under a memory limit.
set_option Elab.async false
/-! SUPPORT. Stations: their frames, their misses and the retransmission of a control block. -/

namespace Sys2Proof.Machine
open Sys2Proof

section
variable {b b' : Block} {k : Nat}

/-- What a station looks like. -/
def Block.stn (k : Nat) (b : Block) : Stn := tget stnD b.lgc.stns k

theorem stn_putStn (f : Stn → Stn) : (b.putStn k f).stn k = f (b.stn k) := tget_tset_same ..

theorem stn_congr (h : b'.lgc.stns = b.lgc.stns) : b'.stn k = b.stn k := congrArg (tget stnD · k) h

theorem raise_stns (n : Nat) (q : Int) : (b.raise n q).lgc.stns = b.lgc.stns := congrArg (·.stns) (raise_lgc n q b)

theorem trigger_stns (s kind i ns q n : Nat) : (b.trigger s kind i ns q n).lgc.stns = b.lgc.stns := by
  rfl

theorem trigGoose_stns (i : Nat) (e : SubDecl) (n ns : Nat) : (b.trigGoose i e n ns).lgc.stns = b.lgc.stns :=
  foldl_keeps (fun b : Block => b.lgc.stns) _ (fun _ _ => trigger_stns ..) _ _

theorem derived_lgc (h : RxHdr) : (b.derived h).2.lgc = b.lgc := by
  unfold Block.derived
  dsimp only
  split
  · split <;> rfl
  · split <;> rfl
  · rfl

/-- The state that a station takes. -/
def Stn.enter (st : StnSt) (e : Nat) (x : Stn) : Stn := if x.state = st then x else { x with state := st, changed := e }

theorem enter_state (st : StnSt) (e : Nat) (x : Stn) : (x.enter st e).state = st := by
  unfold Stn.enter
  split
  · next h => exact h
  · rfl

/-- What a station keeps of its frames, its misses and its counts. -/
def Stn.heard (x : Stn) : (Nat × Nat) × Nat × Nat × Bool × Bool := (x.seq, x.miss, x.ttl, x.seen, x.fresh)

theorem enter_heard (st : StnSt) (e : Nat) (x : Stn) : (x.enter st e).heard = x.heard := by
  unfold Stn.enter
  split <;> rfl

theorem enter_counts (st : StnSt) (e : Nat) (x : Stn) :
    (x.enter st e).bad = x.bad ∧ (x.enter st e).values = x.values ∧ (x.enter st e).drops = x.drops := by
  unfold Stn.enter
  split <;> exact ⟨rfl, rfl, rfl⟩

theorem stnState_stn (st : StnSt) : (b.stnState k st).stn k = (b.stn k).enter st b.time.epoch := stn_putStn _

theorem stnEvent_stn (e : SubDecl) : (b.stnEvent e).stn k = b.stn k := stn_congr (raise_stns ..)

/-- A good frame's numbers become the station's, whatever state it is in (R307). -/
theorem goodFrame_heard {e : SubDecl} {seq : Nat × Nat} {ttl : Nat} {test : Bool} {vals : List (Word × Nat)} {ns : Nat} :
    ((b.goodFrame k e seq ttl test vals ns).stn k).heard = (seq, 0, ttl, true, false) := by
  unfold Block.goodFrame
  extract_lets x at_ up b1
  have hb1 : (b1.stn k).heard = (seq, 0, ttl, true, false) := (congrArg Stn.heard (stn_putStn _)).trans rfl
  split
  · rw [stnEvent_stn, stn_putStn, ← hb1, ← enter_heard .up b1.time.epoch (b1.stn k), stnState_stn]; rfl
  · exact hb1
  · rw [stnState_stn, enter_heard, hb1]

/-- A bad frame is counted and leaves the numbers and the values alone (R308). -/
theorem badFrame_stn {e : SubDecl} {p : Nat} : ((b.badFrame k e p).stn k).bad = (b.stn k).bad + 1 ∧
    ((b.badFrame k e p).stn k).seq = (b.stn k).seq ∧ ((b.badFrame k e p).stn k).values = (b.stn k).values := by
  unfold Block.badFrame
  extract_lets ret b1 b2
  have hb1 : b1.stn k = { b.stn k with bad := (b.stn k).bad + 1 } := stn_putStn _
  have hb2 : (b2.stn k).bad = (b1.stn k).bad ∧ (b2.stn k).seq = (b1.stn k).seq ∧ (b2.stn k).values = (b1.stn k).values := by
    by_cases h : ret
    · have hst : b2.stn k = (b1.stn k).enter .dropped b1.time.epoch := by
        simp only [b2, h, if_true]
        exact stnState_stn _
      rw [hst]
      obtain ⟨h1, h2, -⟩ := enter_counts .dropped b1.time.epoch (b1.stn k)
      exact ⟨h1, congrArg (·.1) (enter_heard .dropped b1.time.epoch (b1.stn k)), h2⟩
    · have hst : b2 = b1 := by simp only [b2, h, if_false]
      rw [hst]
      exact ⟨rfl, rfl, rfl⟩
  rw [stn_congr (raise_stns ..), hb2.1, hb2.2.1, hb2.2.2, hb1]
  exact ⟨rfl, rfl, rfl⟩

/-! ### What arrives -/

/-- A GOOSE frame that its station refuses: another revision, other members, or behind what it has seen (R307). -/
def GooseRx.refused (f : GooseRx) (d : StnDecl) (x : Stn) : Prop :=
  f.confRev ≠ d.confRev ∨ f.members.map (·.1) ≠ d.members ∨ x.fresh = false ∧
    (f.stNum < x.seq.1 ∨ f.stNum = x.seq.1 ∧ f.sqNum < x.seq.2)

/-- A sampled-value frame that its station refuses (R308). -/
def SvRx.refused (f : SvRx) (d : StnDecl) (x : Stn) : Prop :=
  f.confRev ≠ d.confRev ∨ f.asdus.length ≠ d.asdu ∨ (∃ a, a ∈ f.asdus ∧ a.length ≠ d.members.length) ∨ x.fresh = false ∧
    ((f.smpCnt + d.rate - x.seq.2 % d.rate) % d.rate = 0 ∨ d.rate ≤ 2 * ((f.smpCnt + d.rate - x.seq.2 % d.rate) % d.rate))

theorem accepts_sim {sim accept : Bool} (h : sim = true → accept = true) : (sim && !accept) = false := by
  cases sim
  · rfl
  · rw [h rfl]; rfl

section
variable {h : RxHdr} {i : Nat} {e : SubDecl} {d : StnDecl} {f : GooseRx} {g : SvRx}

theorem gooseRx_refused (hin : b.rxIn h = (true, b')) (he : b'.filterEntry false f.dst f.appid f.ref h.port = some (i, e))
    (href : e.ref = f.ref) (hd : (b'.stn (e.index i)).decl = some d) (hsim : f.sim = true → d.acceptSim = true)
    (hbad : f.refused d (b'.stn (e.index i))) : b.gooseRx h f = b'.badFrame (e.index i) e h.port := by
  simp only [Block.gooseRx, hin, if_true]
  unfold Block.gooseFilter
  generalize b'.filterEntry false f.dst f.appid f.ref h.port = r at he
  subst he
  change (tget stnD b'.lgc.stns (e.index i)).decl = some d at hd
  simp only [href, ne_eq, not_true, if_false, hd, accepts_sim hsim, Bool.false_eq_true]
  exact if_pos (by simpa [GooseRx.refused, Block.stn] using hbad)

theorem gooseRx_taken (hin : b.rxIn h = (true, b')) (he : b'.filterEntry false f.dst f.appid f.ref h.port = some (i, e))
    (href : e.ref = f.ref) (hd : (b'.stn (e.index i)).decl = some d) (hsim : f.sim = true → d.acceptSim = true)
    (hgood : ¬f.refused d (b'.stn (e.index i))) :
    ∃ b2 : Block, ∃ test vals ns, b.gooseRx h f = b2.goodFrame (e.index i) e (f.stNum, f.sqNum) f.ttl test vals ns := by
  simp only [Block.gooseRx, hin, if_true]
  unfold Block.gooseFilter
  generalize b'.filterEntry false f.dst f.appid f.ref h.port = r at he
  subst he
  change (tget stnD b'.lgc.stns (e.index i)).decl = some d at hd
  simp only [href, ne_eq, not_true, if_false, hd, accepts_sim hsim, Bool.false_eq_true]
  exact ⟨_, _, _, _, if_neg (by simpa [GooseRx.refused, Block.stn] using hgood)⟩

theorem svRx_refused (hin : b.rxIn h = (true, b')) (he : b'.filterEntry true g.dst g.appid g.ref h.port = some (i, e))
    (href : e.ref = g.ref) (hd : (b'.stn (e.index i)).decl = some d) (hsim : g.sim = true → d.acceptSim = true)
    (hbad : g.refused d (b'.stn (e.index i))) : b.svRx h g = b'.badFrame (e.index i) e h.port := by
  simp only [Block.svRx, hin, Bool.not_true, Bool.false_eq_true, if_false]
  generalize b'.filterEntry true g.dst g.appid g.ref h.port = r at he
  subst he
  change (tget stnD b'.lgc.stns (e.index i)).decl = some d at hd
  simp only [href, ne_eq, not_true, if_false, hd, accepts_sim hsim, Bool.false_eq_true]
  refine if_pos ?_
  simpa [SvRx.refused, Block.stn, Nat.pos_iff_ne_zero, Decidable.imp_iff_not_or] using hbad

theorem svRx_taken (hin : b.rxIn h = (true, b')) (he : b'.filterEntry true g.dst g.appid g.ref h.port = some (i, e))
    (href : e.ref = g.ref) (hd : (b'.stn (e.index i)).decl = some d) (hsim : g.sim = true → d.acceptSim = true)
    (hgood : ¬g.refused d (b'.stn (e.index i))) :
    ∃ b2 : Block, ∃ test vals ns, b.svRx h g = b2.goodFrame (e.index i) e (0, g.smpCnt) 0 test vals ns := by
  simp only [Block.svRx, hin, Bool.not_true, Bool.false_eq_true, if_false]
  generalize b'.filterEntry true g.dst g.appid g.ref h.port = r at he
  subst he
  change (tget stnD b'.lgc.stns (e.index i)).decl = some d at hd
  simp only [href, ne_eq, not_true, if_false, hd, accepts_sim hsim, Bool.false_eq_true]
  refine ⟨_, _, _, _, if_neg fun hbad => hgood ?_⟩
  simpa [SvRx.refused, Block.stn, Nat.pos_iff_ne_zero, Decidable.imp_iff_not_or] using hbad

end

/-! ### A miss -/

/-- The block in which a station's miss is counted. -/
def Block.stnMissed (k : Nat) (b : Block) : Block := b.putStn k fun x => { x with miss := x.miss + 1 }

theorem stnMissed_stn : (b.stnMissed k).stn k = { b.stn k with miss := (b.stn k).miss + 1 } := stn_putStn _

theorem stnMiss_of {d : StnDecl} (hd : (b.stn k).decl = some d) (hseen : (b.stn k).seen = true) (hdue : (b.stn k).missAt d ≤ b.now) :
    ∃ e, b.stnMiss k = if (b.stn k).state = .returning then (b.stnMissed k).stnState k .dropped
      else if (b.stn k).state = .up ∧ d.missLim ≤ (b.stn k).miss + 1 then
        (((b.stnMissed k).stnState k .dropped).putStn k fun x => { x with
          drops := x.drops + 1, dropsR := x.dropsR + 1, chg := x.chg + 1, fresh := true }).stnEvent e
      else b.stnMissed k := by
  fun_cases Block.stnMiss k b
  case case1 x hn => exact absurd (hn.symm.trans hd) (by simp)
  case case2 x d' hd' hno =>
    cases hd'.symm.trans hd
    have hgo : (!(b.stn k).seen || decide (b.now < (b.stn k).missAt d)) = false := by
      rw [hseen, decide_eq_false (Nat.not_lt.mpr hdue)]; rfl
    exact absurd (hno.symm.trans hgo) (by decide)
  case case3 x d' hd' hno m b1 hret => exact ⟨{}, (if_pos hret).symm⟩
  case case4 x d' hd' hno m b1 e hret hup =>
    cases hd'.symm.trans hd
    simp only [Bool.and_eq_true, decide_eq_true_eq] at hup
    exact ⟨e, ((if_neg hret).trans (if_pos hup)).symm⟩
  case case5 x d' hd' hno m b1 hret hup =>
    cases hd'.symm.trans hd
    simp only [Bool.and_eq_true, decide_eq_true_eq] at hup
    exact ⟨{}, ((if_neg hret).trans (if_neg hup)).symm⟩

end

/-- Settles O38: a frame taken or refused, a miss by the station's state. -/
theorem stationCommandsComplete : Obligations.StationCommandsComplete := by
  refine ⟨fun s h f b i e d x hin he href hx hd hsim hrev hmem hseq => ⟨_, rfl, ?_⟩,
    fun s h f b i e d x hin he href hx hd hsim hbad => ⟨_, rfl, ?_⟩,
    fun s h f b i e d x hin he href hx hd hsim hrev hlen hmem hseq => ⟨_, rfl, ?_⟩,
    fun s h f b i e d x hin he href hx hd hsim hbad => ⟨_, rfl, ?_⟩,
    fun s k x d hx hd hseen hdue hret hup => ?_, fun s k x d hx hd hseen hdue hret => ⟨_, rfl, ?_⟩,
    fun s k x d hx hd hseen hdue hup hlim => ⟨_, rfl, ?_⟩, fun s k d c hd hc hl hn => ?_, fun s p => rfl⟩
  · subst hx
    obtain ⟨b2, test, vals, ns, h2⟩ := gooseRx_taken hin he href hd hsim fun hbad => by
      rcases hbad with h | h | ⟨h, h'⟩
      · exact h hrev
      · exact h hmem
      · rcases hseq with h2 | h2 | h2
        · exact Bool.false_ne_true (h.symm.trans h2)
        · simp only [Block.stn] at h'
          omega
        · simp only [Block.stn] at h'
          omega
    have hh := goodFrame_heard (b := b2) (k := e.index i) (e := e) (seq := (f.stNum, f.sqNum)) (ttl := f.ttl) (test := test) (vals := vals)
      (ns := ns)
    rw [h2]
    simpa only [Stn.heard, Prod.mk.injEq, Block.stn] using hh
  · subst hx
    obtain ⟨h1, h2, h3⟩ := badFrame_stn (b := b) (k := e.index i) (e := e) (p := h.port)
    rw [gooseRx_refused hin he href hd hsim hbad]
    exact ⟨h1, h2, h3⟩
  · subst hx
    obtain ⟨b2, test, vals, ns, h2⟩ := svRx_taken hin he href hd hsim fun hbad => by
      rcases hbad with h | h | ⟨a, ha, h⟩ | ⟨h, h'⟩
      · exact h hrev
      · exact h hlen
      · exact h (hmem a ha)
      · rcases hseq with h2 | h2
        · exact Bool.false_ne_true (h.symm.trans h2)
        · simp only [Block.stn] at h'
          omega
    have hh := goodFrame_heard (b := b2) (k := e.index i) (e := e) (seq := (0, f.smpCnt)) (ttl := 0) (test := test) (vals := vals) (ns := ns)
    rw [h2]
    simp only [Stn.heard, Prod.mk.injEq] at hh
    obtain ⟨h1, h2, -, h4, h5⟩ := hh
    exact ⟨h1, h2, h4, h5⟩
  · subst hx
    obtain ⟨h1, h2, h3⟩ := badFrame_stn (b := b) (k := e.index i) (e := e) (p := h.port)
    rw [svRx_refused hin he href hd hsim hbad]
    exact ⟨h1, h2, h3⟩
  · subst hx
    obtain ⟨e, h⟩ := stnMiss_of hd hseen hdue
    exact congrArg s.done (h.trans ((if_neg hret).trans (if_neg fun hup' => absurd (hup hup'.1) (Nat.not_lt.mpr hup'.2))))
  · subst hx
    obtain ⟨e, h⟩ := stnMiss_of hd hseen hdue
    have hst := stnState_stn (b := s.blk.stnMissed k) (k := k) .dropped
    rw [h.trans (if_pos hret)]
    exact ⟨(congrArg Stn.state hst).trans (enter_state ..), (congrArg Stn.miss hst).trans
      ((congrArg (·.2.1) (enter_heard ..)).trans (congrArg Stn.miss stnMissed_stn))⟩
  · subst hx
    obtain ⟨e, h⟩ := stnMiss_of hd hseen hdue
    have hret : (s.blk.stn k).state ≠ .returning := fun hr => by
      cases hr.symm.trans hup
    have hst := stnState_stn (b := s.blk.stnMissed k) (k := k) .dropped
    obtain ⟨-, -, hdrops⟩ := enter_counts .dropped (s.blk.stnMissed k).time.epoch ((s.blk.stnMissed k).stn k)
    have hmiss := congrArg (·.2.1) (enter_heard .dropped (s.blk.stnMissed k).time.epoch ((s.blk.stnMissed k).stn k))
    rw [← hst, stnMissed_stn] at hdrops hmiss
    rw [h.trans ((if_neg hret).trans (if_pos ⟨hup, hlim⟩))]
    have hx := (stnEvent_stn (k := k) e).trans (stn_putStn (b := (s.blk.stnMissed k).stnState k .dropped) (k := k) fun x =>
      { x with drops := x.drops + 1, dropsR := x.dropsR + 1, chg := x.chg + 1, fresh := true })
    exact ⟨(congrArg Stn.state hx).trans ((congrArg Stn.state hst).trans (enter_state ..)), (congrArg Stn.miss hx).trans hmiss,
      (congrArg Stn.drops hx).trans (congrArg (· + 1) hdrops), congrArg Stn.fresh hx⟩
  · subst hc
    refine ⟨_, rfl, _, rfl, congrArg s.done ?_⟩
    simp only [Block.gooseRepeat, hd]
    rw [if_neg]
    rw [Bool.or_eq_true, decide_eq_true_eq]
    rintro (h | h)
    · rw [Option.isNone_iff_eq_none] at h
      rw [h] at hl
      cases hl
    · exact absurd hn (Nat.not_le.mpr h)

end Sys2Proof.Machine
end

section
-- One declaration after another: the check compiles the whole text under a memory limit.
set_option Elab.async false
/-! SUPPORT. The field side: samples of an input, its edges, and the phases of an output. -/

namespace Sys2Proof.Machine
open Sys2Proof

section
variable {f : FldSt} {i v ft : Nat}

/-- What happens on a powered field side is the field side's own step. -/
theorem done_onField {s : State} {g : FldSt → FldSt} (h : s.blk.fside.powered = true) :
    s.done (s.blk.onField g) = .next { s with blk := { s.blk with fside := g s.blk.fside } } := by
  rw [Block.onField, if_pos h]; rfl

theorem foldl_eq_of_mem {α β : Type} (f g : α → β → α) (a : α) {l : List β} (h : ∀ a, ∀ x ∈ l, f a x = g a x) : l.foldl f a = l.foldl g a := by
  induction l generalizing a with
  | nil => rfl
  | cons x l ih =>
    rw [List.foldl_cons, List.foldl_cons, h a x List.mem_cons_self]
    exact ih _ fun a y hy => h a y (List.mem_cons_of_mem _ hy)

/-- Samples in a row: the last one comes on top of the others, each 1 µs after the one before (R315). -/
theorem diChange_snoc (l : List Nat) (f : FldSt) :
    FldSt.diChange i (l ++ [v]) ft f = (FldSt.diChange i l (ft - 100) f).diChange i [v] ft := by
  have hlast : FldSt.diSample i (ft - 100 * (l.length + 1 - 1 - l.length)) ((l ++ [v]).getD l.length 0) = FldSt.diSample i ft v := by
    simp
  have hfirst : ∀ g : FldSt, ∀ k ∈ List.range l.length, FldSt.diSample i (ft - 100 * (l.length + 1 - 1 - k)) ((l ++ [v]).getD k 0) g =
      FldSt.diSample i (ft - 100 - 100 * (l.length - 1 - k)) (l.getD k 0) g := fun g k hk => by
    have hk := List.mem_range.mp hk
    have ht : ft - 100 * (l.length + 1 - 1 - k) = ft - 100 - 100 * (l.length - 1 - k) := by omega
    have hv : (l ++ [v]).getD k 0 = l.getD k 0 := by simp [List.getElem?_append_left hk]
    rw [ht, hv]
  rw [FldSt.diChange, List.length_append, List.length_singleton, List.range_succ, List.foldl_append, List.foldl_cons, List.foldl_nil, hlast,
    foldl_eq_of_mem _ _ _ hfirst]
  rfl

theorem diSample_powered : (FldSt.diSample i ft v f).powered = f.powered := by
  unfold FldSt.diSample FldSt.enqueue
  extract_lets p was raw wet f1 t
  split
  · rfl
  · split
    · split
      · rfl
      · split <;> rfl
    · rfl

theorem diChange_powered (l : List Nat) (f : FldSt) : (FldSt.diChange i l ft f).powered = f.powered :=
  foldl_keeps FldSt.powered _ (fun _ _ => diSample_powered) _ _

/-- The raw state that a sample gives (R315). -/
def FldSt.rawOf (f : FldSt) (i v : Nat) : Bool :=
  if diLevel i true (presetOn (f.presetOf i)) ≤ v then true
  else if v ≤ diLevel i false (presetOff (f.presetOf i)) then false else bitOf f.diRaw i

theorem diSample_same (h : f.rawOf i v = bitOf f.di i) : (FldSt.diSample i ft v f).diRaw = setBit f.diRaw i (f.rawOf i v) ∧
    (FldSt.diSample i ft v f).ft = ft ∧ (FldSt.diSample i ft v f).di = f.di ∧ (FldSt.diSample i ft v f).diRun = tset optD f.diRun i none := by
  have h : (f.rawOf i v == bitOf f.di i) = true := by rw [h, beq_self_eq_true]
  unfold FldSt.diSample
  extract_lets p was raw wet f1
  split
  · exact ⟨rfl, rfl, rfl, rfl⟩
  · next hn => exact absurd h hn

theorem enqueue_fields (e : FEdge) : (f.enqueue e).diRaw = f.diRaw ∧ (f.enqueue e).ft = f.ft ∧ (f.enqueue e).di = f.di ∧
    (f.enqueue e).diRun = f.diRun ∧ (f.enqueue e).wet = f.wet := by
  unfold FldSt.enqueue
  split
  · exact ⟨rfl, rfl, rfl, rfl, rfl⟩
  · split <;> exact ⟨rfl, rfl, rfl, rfl, rfl⟩

theorem enqueue_slow {e : FEdge} (h : 8 ≤ e.input) (hq : f.fastQ.length + f.slowQ.length < 64) :
    (f.enqueue e).slowQ = f.slowQ ++ [e] := by
  rw [FldSt.enqueue, if_neg (Nat.not_le.mpr hq), if_neg (Nat.not_lt.mpr h)]

theorem enqueue_fast {e : FEdge} (h : e.input < 8) : (f.enqueue e).slowQ = f.slowQ ∧
    (f.enqueue e).fastQ = if f.fastQ.length + f.slowQ.length < 64 then f.fastQ ++ [e] else f.fastQ := by
  simp only [FldSt.enqueue, if_pos h]
  split
  · next hq => exact ⟨rfl, (if_neg (Nat.not_lt.mpr hq)).symm⟩
  · next hq => exact ⟨rfl, (if_pos (Nat.not_le.mp hq)).symm⟩

/-- A sample whose raw state is not the accepted one: the run goes on from its first sample, to DEB (R315, R317). -/
theorem diSample_other (h : f.rawOf i v ≠ bitOf f.di i) : ∃ g : FldSt, g.diRaw = setBit f.diRaw i (f.rawOf i v) ∧ g.ft = ft ∧
    g.di = f.di ∧ g.diRun = f.diRun ∧ g.fastQ = f.fastQ ∧ g.slowQ = f.slowQ ∧
    FldSt.diSample i ft v f = if (tget optD f.diRun i).getD ft + 10000 * f.debOf i ≤ ft then
      ({ g with di := setBit g.di i (f.rawOf i v), diRun := tset optD g.diRun i none } : FldSt).enqueue
        { input := i, level := f.rawOf i v, ft := (tget optD f.diRun i).getD ft - 2000 }
    else { g with diRun := tset optD g.diRun i (some ((tget optD f.diRun i).getD ft)) } := by
  unfold FldSt.diSample
  extract_lets p was raw wet f1 t
  refine ⟨f1, rfl, rfl, rfl, rfl, rfl, rfl, ?_⟩
  split
  · next hs => exact absurd (beq_iff_eq.mp hs) h
  · rfl

theorem diSample_raw : (FldSt.diSample i ft v f).diRaw = setBit f.diRaw i (f.rawOf i v) ∧ (FldSt.diSample i ft v f).ft = ft := by
  by_cases h : f.rawOf i v = bitOf f.di i
  · obtain ⟨h1, h2, -⟩ := diSample_same (ft := ft) h
    exact ⟨h1, h2⟩
  · obtain ⟨g, h1, h2, -, -, -, -, hg⟩ := diSample_other (ft := ft) h
    rw [hg]
    split
    · obtain ⟨e1, e2, -⟩ := enqueue_fields (f := { g with di := setBit g.di i (f.rawOf i v), diRun := tset optD g.diRun i none })
        { input := i, level := f.rawOf i v, ft := (tget optD f.diRun i).getD ft - 2000 }
      exact ⟨e1.trans h1, e2.trans h2⟩
    · exact ⟨h1, h2⟩

/-- A rise that is not within 1 s of the last wetting starts one (R316). -/
theorem diSample_wet (hr : f.rawOf i v = true) (hw : bitOf f.diRaw i = false) (hl : ∀ t, tget optD f.wetLast i = some t → t + 100000000 ≤ ft) :
    (FldSt.diSample i ft v f).wet = tset optD f.wet i (some ft) := by
  have hlast : (match tget optD f.wetLast i with | none => true | some t => decide (t + 100000000 ≤ ft)) = true := by
    split
    · rfl
    · next t ht => exact decide_eq_true (hl t ht)
  unfold FldSt.diSample
  extract_lets p was raw wet f1 t
  have hf1 : f1.wet = tset optD f.wet i (some ft) := by
    have hraw : raw = true := hr
    have hwet : wet = true := by
      simp only [wet, hraw, was, hw, Bool.not_false, Bool.and_self, Bool.true_and]
      exact hlast
    simp only [f1, hwet, if_true]
  split
  · exact hf1
  · split
    · obtain ⟨-, -, -, -, e5⟩ := enqueue_fields (f := { f1 with di := setBit f1.di i raw, diRun := tset optD f1.diRun i none })
        { input := i, level := raw, ft := t - 2000 }
      exact e5.trans hf1
    · exact hf1

theorem fastEdge_fields {l : Bool} (h : bitOf f.di i ≠ l) (hi : i < 8) : (FldSt.fastEdge i l ft f).di = setBit f.di i l ∧
    (FldSt.fastEdge i l ft f).slowQ = f.slowQ ∧ ((f.edgeSel i = 2 ∨ f.edgeSel i = 0 ∧ l = true ∨ f.edgeSel i = 1 ∧ l = false) →
      (FldSt.fastEdge i l ft f).fastQ = if f.fastQ.length + f.slowQ.length < 64 then f.fastQ ++ [{ input := i, level := l, ft := ft - 20 }]
        else f.fastQ) := by
  unfold FldSt.fastEdge
  rw [if_neg (by simpa using h)]
  extract_lets f1 sel
  split
  · obtain ⟨-, -, hdi, -⟩ := enqueue_fields (f := f1) { input := i, level := l, ft := ft - 20 }
    obtain ⟨hs, hf⟩ := enqueue_fast (f := f1) (e := { input := i, level := l, ft := ft - 20 }) hi
    exact ⟨hdi, hs, fun _ => hf⟩
  · next hn =>
    refine ⟨rfl, rfl, fun hsel => absurd ?_ hn⟩
    have hsel : sel = 2 ∨ sel = 0 ∧ l = true ∨ sel = 1 ∧ l = false := hsel
    rcases hsel with h | ⟨h, hl⟩ | ⟨h, hl⟩
    all_goals simp [*]

/-! ### The phases of an output -/

theorem updChan_chans (j : Nat) (g : Chan → Chan) (f : FldSt) : (f.updChan j g).chans = tset chanD f.chans j (g (f.chan j)) := rfl

theorem updChan_chans_at (ft j : Nat) (g : Chan → Chan) (f : FldSt) :
    (({ f with ft := ft } : FldSt).updChan j g).chans = tset chanD f.chans j (g (f.chan j)) := rfl

end

/-- Settles O39: the field side's step of each command. -/
theorem fieldSideCommandsComplete : Obligations.FieldSideCommandsComplete := by
  refine ⟨fun s i v ft l t h => ?_, fun s i v ft f raw hf hp hraw => ⟨_, done_onField (by rw [hf]; exact hp), ?_⟩,
    fun s i v ft t f raw hf hp hraw hne ht => ⟨_, done_onField (by rw [hf]; exact hp), ?_⟩, fun s i ft t f hf hp hw ht => ?_,
    fun s i ft l f hf hp hl hi => ⟨_, done_onField (by rw [hf]; exact hp), ?_⟩, fun s j ft f hf hp hc hph hs => ?_,
    fun s j ft low f hf hp hph hs => ⟨_, done_onField (by rw [hf]; exact hp), ?_⟩,
    fun s j ft low f hf hp hph hs => ⟨_, done_onField (by rw [hf]; exact hp), ?_⟩,
    fun s j f hf hp hph hs hc => ⟨_, done_onField (by rw [hf]; exact hp), ?_⟩,
    fun s j ft up f hf hp hph => ⟨_, done_onField (by rw [hf]; exact hp), ?_⟩,
    fun s j ft f hf hp hov hph hn => ⟨_, done_onField (by rw [hf]; exact hp), ?_⟩,
    fun s j f hf hp => ⟨_, done_onField (by rw [hf]; exact hp), hf ▸ rfl⟩, fun s j f hf hp => ⟨_, done_onField (by rw [hf]; exact hp), hf ▸ rfl⟩,
    fun s j f hf hp => ⟨_, done_onField (by rw [hf]; exact hp), hf ▸ rfl⟩,
    fun s j f hf hp hs => ⟨_, done_onField (by rw [hf]; exact hp), ?_⟩,
    fun s j f hf hp hc how hr => ⟨_, done_onField (by rw [hf]; exact hp), ?_⟩,
    fun s j f hf hp hc how hr => ⟨_, done_onField (by rw [hf]; exact hp), ?_⟩,
    fun s j f hf hp hc hr => ⟨_, done_onField (by rw [hf]; exact hp), ?_⟩,
    fun s j f hf hp => ⟨_, done_onField (by rw [hf]; exact hp), hf ▸ rfl⟩⟩
  · by_cases hp : s.blk.fside.powered = true
    · cases (done_onField (g := FldSt.diChange i l (ft - 100)) hp).symm.trans h
      exact (done_onField hp).trans ((congrArg (fun f => s.done { s.blk with fside := f }) (diChange_snoc l _)).trans
        (done_onField (g := FldSt.diChange i [v] ft) (s := { s with blk := { s.blk with fside := FldSt.diChange i l (ft - 100) s.blk.fside } })
          ((diChange_powered l _).trans hp)).symm)
    · have hid : ∀ g : FldSt → FldSt, s.blk.onField g = s.blk := fun g => if_neg hp
      have ht : t = s := by
        have h : s.done (s.blk.onField (FldSt.diChange i l (ft - 100))) = .next t := h
        rw [hid] at h
        cases h
        rfl
      rw [ht]
      exact congrArg s.done ((hid _).trans (hid _).symm)
  all_goals subst hf
  · subst hraw
    obtain ⟨h1, h2⟩ := diSample_raw (f := s.blk.fside) (i := i) (v := v) (ft := ft)
    refine ⟨h1, h2, fun hr hw hl => diSample_wet hr hw hl, fun he => ?_⟩
    obtain ⟨-, -, h3, h4⟩ := diSample_same (ft := ft) he
    exact ⟨h3, h4⟩
  · subst hraw ht
    obtain ⟨g, h1, h2, h3, h4, h5, h6, hg⟩ := diSample_other (ft := ft) hne
    change (if _ then (FldSt.diSample i ft v s.blk.fside).di = _ ∧ (FldSt.diSample i ft v s.blk.fside).diRun = _ ∧
      (_ → _ → (FldSt.diSample i ft v s.blk.fside).slowQ = _) else (FldSt.diSample i ft v s.blk.fside).di = _ ∧
      (FldSt.diSample i ft v s.blk.fside).diRun = _ ∧ (FldSt.diSample i ft v s.blk.fside).slowQ = _)
    rw [hg]
    split
    · obtain ⟨-, -, e3, e4, -⟩ := enqueue_fields (f := { g with di := setBit g.di i (s.blk.fside.rawOf i v), diRun := tset optD g.diRun i none })
        { input := i, level := s.blk.fside.rawOf i v, ft := (tget optD s.blk.fside.diRun i).getD ft - 2000 }
      refine ⟨e3.trans (congrArg (setBit · i _) h3), e4.trans (congrArg (tset optD · i none) h4), fun hi hq => ?_⟩
      refine (enqueue_slow (e := { input := i, level := s.blk.fside.rawOf i v, ft := (tget optD s.blk.fside.diRun i).getD ft - 2000 })
        hi (by rw [← h5, ← h6] at hq; exact hq)).trans ?_
      exact congrArg (· ++ _) h6
    · exact ⟨h3, congrArg (tset optD · i _) h4, h6⟩
  · refine (done_onField hp).trans ?_
    simp only [FldSt.wetEnd, hw, ht, if_true]
  · exact fastEdge_fields hl hi
  · refine (done_onField hp).trans ?_
    simp only [FldSt.overOnset, hc, hph, hs, decide_true, Bool.not_false, Bool.and_self, if_true]
  · refine (updChan_chans_at ..).trans ?_
    simp only [hph, hs, decide_true, Bool.not_false, Bool.and_self, if_true, Chan.recover]
  · refine (updChan_chans_at ..).trans ?_
    simp only [hph, hs, decide_true, Bool.not_false, Bool.and_self, if_true, Chan.recover]
  · refine (updChan_chans ..).trans ?_
    simp only [hph, hs, hc, decide_true, Bool.not_false, Bool.and_self, if_true]
  · refine (updChan_chans_at ..).trans ?_
    simp only [hph, if_true, Chan.recover]
  · refine (updChan_chans_at ..).trans ?_
    simp only [hph, hov, hn, decide_true, Bool.and_self, if_true]
  · refine (updChan_chans ..).trans ?_
    simp only [hs, if_true]
  · simp only [FldSt.openWire, hc, how, hr, Bool.not_false, Bool.and_self, if_true]
    rfl
  · simp only [FldSt.openWire, hc, how, hr, Bool.not_false, Bool.and_self, if_true]
    rfl
  · simp only [FldSt.backfeed, hc, hr, Bool.not_false, Bool.and_self, if_true]
    rfl

end Sys2Proof.Machine
end

section
-- One declaration after another: the check compiles the whole text under a memory limit.
set_option Elab.async false
/-! SUPPORT. The barrier link: a downlink frame read back, what an uplink frame carries, and the edge FIFO. -/

namespace Sys2Proof.Machine
open Sys2Proof

/-! ### A downlink frame as the field side reads it (R328) -/

theorem crc16Step_lt (n c : Nat) (h : c < 2 ^ 16) : crc16Step n c < 2 ^ 16 := by
  induction n generalizing c with
  | zero => exact h
  | succ k ih =>
    refine ih _ ?_
    split
    · exact Nat.xor_lt_two_pow (Nat.mod_lt _ (by decide)) (by decide)
    · omega

theorem crc16Run_lt (bs : List Byte) (c : Nat) (h : c < 2 ^ 16) : crc16Run bs c < 2 ^ 16 := by
  induction bs generalizing c with
  | nil => exact h
  | cons b r ih =>
    have hb : b.toNat * 256 < 2 ^ 16 := by have := b.isLt; omega
    exact ih _ (crc16Step_lt 8 _ (Nat.xor_lt_two_pow h hb))

theorem crc16Line_lt (bs : List Byte) : crc16Line bs < 2 ^ 16 := crc16Run_lt _ _ (by decide)

section
variable {n out a d : Nat} {ins : Bool}

/-- The frame without its CRC. -/
def dnBody (n : Nat) (ins : Bool) (out a d : Nat) : List Byte :=
  leBytes 1 0xB4 ++ leBytes 1 (n % 16 + 16 * b2n ins) ++ leBytes 4 out ++ leBytes 1 a ++ leBytes 3 d

theorem dnFrame_eq : dnFrame n ins out a d = dnBody n ins out a d ++ leBytes 2 (crc16Line (dnBody n ins out a d)) := rfl

theorem dnBody_length : (dnBody n ins out a d).length = 10 := by simp [dnBody]

theorem dnFrame_good : lineGood 0xB4 (dnFrame n ins out a d) = true := by
  have hsync : fld (dnFrame n ins out a d) 0 1 = 0xB4 := by
    have h := fld_after (o := 0) (w := 1) (v := 0xB4) [] (leBytes 1 (n % 16 + 16 * b2n ins) ++ (leBytes 4 out ++ (leBytes 1 a ++ (leBytes 3 d ++
      leBytes 2 (crc16Line (dnBody n ins out a d)))))) rfl (by decide)
    simpa only [dnFrame_eq, dnBody, List.append_assoc, List.nil_append] using h
  have hcrc : fld (dnFrame n ins out a d) 10 2 = crc16Line (dnBody n ins out a d) := by
    have h := fld_after (o := 10) (w := 2) (dnBody n ins out a d) [] dnBody_length (crc16Line_lt (dnBody n ins out a d))
    simpa only [dnFrame_eq, List.append_nil] using h
  have htake : (dnFrame n ins out a d).take 10 = dnBody n ins out a d := by rw [dnFrame_eq, List.take_left' dnBody_length]
  have hlen : (dnFrame n ins out a d).length = 12 := by rw [dnFrame_eq, List.length_append, dnBody_length, leBytes_length]
  rw [lineGood, hsync, hcrc, htake, hlen]
  simp only [beq_self_eq_true, Bool.and_self]

theorem dnFrame_fields (ho : out < 2 ^ 32) (ha : a < 256) (hd : d < 2 ^ 24) : fld (dnFrame n ins out a d) 2 4 = out ∧
    fld (dnFrame n ins out a d) 6 1 = a ∧ fld (dnFrame n ins out a d) 7 3 = d := by
  have h2 := fld_after (o := 2) (w := 4) (leBytes 1 0xB4 ++ leBytes 1 (n % 16 + 16 * b2n ins)) (leBytes 1 a ++ (leBytes 3 d ++
    leBytes 2 (crc16Line (dnBody n ins out a d)))) (by simp) ho
  have h6 := fld_after (o := 6) (w := 1) (leBytes 1 0xB4 ++ leBytes 1 (n % 16 + 16 * b2n ins) ++ leBytes 4 out) (leBytes 3 d ++
    leBytes 2 (crc16Line (dnBody n ins out a d))) (by simp) (by simpa using ha)
  have h7 := fld_after (o := 7) (w := 3) (leBytes 1 0xB4 ++ leBytes 1 (n % 16 + 16 * b2n ins) ++ leBytes 4 out ++ leBytes 1 a)
    (leBytes 2 (crc16Line (dnBody n ins out a d))) (by simp) (by simpa using hd)
  rw [dnFrame_eq]
  conv in (occs := *) dnBody n ins out a d ++ _ => rw [dnBody]
  simp only [List.append_assoc] at h2 h6 h7 ⊢
  exact ⟨h2, h6, h7⟩

theorem takeFrame_dnFrame {ft : Nat} {f : FldSt} (ho : out < 2 ^ 32) (ha : a < 256) (hd : d < 2 ^ 24) :
    f.takeFrame ft (dnFrame n ins out a d) = f.down ft out a d := by
  obtain ⟨h1, h2, h3⟩ := dnFrame_fields (n := n) (ins := ins) ho ha hd
  rw [FldSt.takeFrame, if_pos dnFrame_good, h1, h2, h3]

end

/-! ### The next downlink frame -/

section
variable {b b' : Block}

theorem onField_congr_bar (g : FldSt → FldSt) (b : Block) : (b.onField g).bar = b.bar := by
  unfold Block.onField
  split <;> rfl

/-- The next frame goes to the next address, with the next number and the command as it is (R327). -/
theorem nextFrame_bar (hb : b'.bs = b.bs) (he : b'.elm = b.elm) (hl : b'.lgc = b.lgc) (hr : b'.bar = b.bar) :
    b'.nextFrame.bar.seqDn = (b.bar.seqDn + 1) % 16 ∧ b'.nextFrame.bar.caddr = (b.bar.caddr + 1) % 26 ∧ b'.nextFrame.bar.ins = false ∧
    b'.nextFrame.bar.cmd = b.formCmd ∧ b'.nextFrame.bar.tx = dnFrame ((b.bar.seqDn + 1) % 16) false b.formCmd ((b.bar.caddr + 1) % 26)
      (b.bar.cfg.word ((b.bar.caddr + 1) % 26)) := by
  have hc : (({ b' with bar := { b'.bar with caddr := (b'.bar.caddr + 1) % 26 } } : Block)).formCmd = b.formCmd :=
    formCmd_congr hb he hl (congrArg (·.cfg) hr)
  rw [Block.nextFrame, startFrame_bar, hc]
  simp only [hr, and_self]

/-! ### An uplink frame -/

/-- What a good uplink frame leaves of the logic side's link (R330). -/
theorem upGood_bar (p : List Byte) (b : Block) : (b.upGood p).bar.goodAt = b.now ∧ (b.upGood p).bar.badRun = 0 ∧
    (b.upGood p).bar.goodRun = b.bar.goodRun + 1 ∧ (b.upGood p).bar.delay = b.bar.delay ∧ (b.upGood p).bar.badDn = b.bar.badDn ∧
    (b.upGood p).bar.differ = b.bar.differ ∧ (b.upGood p).bar.cfg = b.bar.cfg := by
  unfold Block.upGood
  extract_lets r f run ends lockUp lockDn unUp q r1 b1 b2 b3 b4
  have h : (b4.raiseIf unUp 335 0).bar = b1.bar := by
    have h4 : b4.bar = b3.bar := by
      simp only [b4]
      split
      · exact quantity_bar ..
      · rfl
    have h3 : b3.bar = b2.bar := by
      simp only [b3]
      split
      · exact raiseOpen_bar ..
      · rfl
    have h2 : b2.bar = b1.bar := by
      simp only [b2]
      split
      · exact quantity_bar ..
      · rfl
    rw [raiseIf_bar, h4, h3, h2]
  rw [h]
  simp only [b1, r1, q, r, run]
  split <;> simp only [BarSt.questAll, and_self]

theorem upGood_fside (p : List Byte) (b : Block) : (b.upGood p).fside = b.fside :=
  fside_of_outside (upGood_outside (P := .bar :: Part.event) p b (by simp))

theorem upGood_time (p : List Byte) (b : Block) : (b.upGood p).time = b.time :=
  time_of_outside (upGood_outside (P := .bar :: Part.event) p b (by simp))

theorem onUp_of {kind payload : Nat} {sent : FldSt → FldSt} {g : Block → Block} (hr : b.bar.run = true) :
    (b.onUp kind payload sent g).bar = (g (b.upGood (b.fside.upFrame kind payload))).bar ∧
    (b.onUp kind payload sent g).fside = sent (g (b.upGood (b.fside.upFrame kind payload))).fside := by
  simp only [Block.onUp, hr, if_true, and_self]

theorem onAux_of {due : AuxDue} {type rec_ : Nat} {g : Block → Block} (hr : b.bar.run = true) (hp : b.fside.powered = true)
    (hu : b.fside.upPos % 2 = 1) (hd : b.fside.auxDue = due) :
    ∃ p, (b.onAux due type rec_ g).bar = (g (b.upGood p)).bar ∧ (b.onAux due type rec_ g).fside = (g (b.upGood p)).fside.auxSent := by
  have hgo : (b.fside.powered && b.fside.upPos % 2 == 1 && b.fside.auxDue == due) = true := by simp [hp, hu, hd]
  rw [Block.onAux, if_pos hgo]
  exact ⟨_, onUp_of hr⟩

/-- An AUX frame that is due: its record comes on top of a block whose link's settings and clock are as they were. -/
theorem aux_of {due : AuxDue} {type rec_ : Nat} (g : Block → Block) (hr : b.bar.run = true)
    (hp : b.fside.powered = true) (hu : b.fside.upPos % 2 = 1) (hd : b.fside.auxDue = due) :
    ∃ c : Block, c.fside = b.fside ∧ c.time = b.time ∧ c.bar.delay = b.bar.delay ∧ c.bar.badDn = b.bar.badDn ∧
      c.bar.differ = b.bar.differ ∧ c.bar.cfg = b.bar.cfg ∧ (b.onAux due type rec_ g).bar = (g c).bar ∧
      (b.onAux due type rec_ g).fside = (g c).fside.auxSent := by
  obtain ⟨p, h1, h2⟩ := onAux_of (type := type) (rec_ := rec_) (g := g) hr hp hu hd
  obtain ⟨-, -, -, e1, e2, e3, e4⟩ := upGood_bar p b
  exact ⟨b.upGood p, upGood_fside .., upGood_time .., e1, e2, e3, e4, h1, h2⟩

/-- A DIAG record arriving (R331). -/
def Block.diagIn (j cur : Nat) (b : Block) : Block :=
  let c := b.fside.chan j
  let d := tget diagD b.bar.diag j
  let cond := c.overload || c.open_ || c.shut || c.backfeed
  let d2 : DiagRec := { bits := c.bits, cur := cur
                        since := if cond then (match d.since with | some t => some t | none => some b.now) else none }
  let b : Block := { b with bar := { b.bar with diag := tset diagD b.bar.diag j d2 } }
  match cond, d.since with
  | true, none => b.raiseOpen (264 + j)
  | false, some t => b.quantity (264 + j) (((b.now - t) / msE : Nat) : Int)
  | _, _ => b

theorem diagIn_fields (j cur : Nat) (b : Block) : (tget diagD (b.diagIn j cur).bar.diag j).bits = (b.fside.chan j).bits ∧
    (tget diagD (b.diagIn j cur).bar.diag j).cur = cur ∧ (b.diagIn j cur).fside = b.fside := by
  unfold Block.diagIn
  dsimp only
  split
  · rw [raiseOpen_bar, raiseOpen_fside, tget_tset_same]; exact ⟨rfl, rfl, rfl⟩
  · rw [quantity_bar, quantity_fside, tget_tset_same]; exact ⟨rfl, rfl, rfl⟩
  · rw [tget_tset_same]; exact ⟨rfl, rfl, rfl⟩

/-- A TIME record arriving: the two time scales of one instant (R331). -/
def Block.mapIn (ft : Nat) (b : Block) : Block :=
  { b with
    fside := { b.fside with ft := ft }
    bar := { b.bar with mapFt := ft % 2 ^ 32, mapNs := ofSigned 64 ((b.ns64 : Int) - b.bar.delay) } }

/-- A STATUS record of the field side `f` arriving (R331, R333). -/
def Block.statusIn (f : FldSt) (vfld temp : Nat) (b : Block) : Block :=
  let r := b.bar
  let t : Int := temp - 64
  let lost := grown f.lost r.lostSeen
  let sil := grown f.silCnt r.silSeen
  let b : Block := { b with
    bar := { r with
      vfld := vfld, temp := t, badDn := r.badDn + f.badDn, silSeen := f.silCnt, lostSeen := f.lost
      silAll := r.silAll + sil, lostAll := r.lostAll + lost
      lostBefore := r.lostBefore || decide (0 < lost) } }
  let b := if 0 < lost then { b with bar := b.bar.questAll } else b
  (((b.raiseIf (0 < f.badDn) 332 f.badDn).raiseIf (0 < sil) 333 0).raiseIf (0 < lost) 338 lost).raiseIf
    (decide (125 ≤ t)) 339 t

theorem statusIn_fields (f : FldSt) (vfld temp : Nat) (b : Block) : (b.statusIn f vfld temp).bar.vfld = vfld ∧
    (b.statusIn f vfld temp).bar.temp = (temp : Int) - 64 ∧ (b.statusIn f vfld temp).bar.badDn = b.bar.badDn + f.badDn ∧
    (b.statusIn f vfld temp).fside = b.fside := by
  unfold Block.statusIn
  dsimp only
  simp only [raiseIf_bar, raiseIf_fside]
  split <;> exact ⟨rfl, rfl, rfl, rfl⟩

/-- A CFGECHO record of word a arriving (R331). -/
def Block.echoIn (a : Nat) (b : Block) : Block :=
  let bad := a ≤ 0x19 && b.fside.word a != b.bar.cfg.word a
  { b with bar := { b.bar with differ := if bad then insNat a b.bar.differ else remNat a b.bar.differ } }

theorem echoIn_differ {a : Nat} (ha : a ≤ 0x19) : (b.echoIn a).bar.differ =
    if b.fside.word a = b.bar.cfg.word a then remNat a b.bar.differ else insNat a b.bar.differ := by
  unfold Block.echoIn
  by_cases h : b.fside.word a = b.bar.cfg.word a
  · simp only [h, bne_self_eq_false, Bool.and_false, Bool.false_eq_true, if_false, if_true]
  · have hne : (b.fside.word a != b.bar.cfg.word a) = true := bne_iff_ne.mpr h
    simp only [hne, ha, decide_true, Bool.and_self, if_true, if_neg h]

theorem auxSent_diag {f : FldSt} {j : Nat} (h : f.auxDue = .diag j) : f.auxSent.round = f.round + 1 := by
  unfold FldSt.auxSent
  have h : f.upNext.auxDue = .diag j := h
  simp only [h]
  rfl

theorem auxSent_upPos {f : FldSt} : f.auxSent.upPos = (f.upPos + 1) % 4 := by
  unfold FldSt.auxSent
  dsimp only
  split <;> rfl

theorem auxSent_edges {f : FldSt} (h : f.auxDue = .edges) : f.auxSent.fastQ = f.fastQ.drop 2 ∧
    f.auxSent.slowQ = f.slowQ.drop (2 - (f.fastQ.take 2).length) ∧ f.auxSent.lostNow = false := by
  unfold FldSt.auxSent
  have h : f.upNext.auxDue = .edges := h
  simp only [h]
  exact ⟨rfl, rfl, trivial⟩

theorem auxSent_status {f : FldSt} (h : f.auxDue = .status) : f.auxSent.badDn = 0 := by
  unfold FldSt.auxSent
  have h : f.upNext.auxDue = .status := h
  simp only [h]

theorem auxSent_ft {f : FldSt} : f.auxSent.ft = f.ft := by
  unfold FldSt.auxSent
  dsimp only
  split <;> rfl

theorem fifoPut_goodAt (e : Edge) (b : Block) : (b.fifoPut e).bar.goodAt = b.bar.goodAt := by
  have hburst : (if 0 < b.bar.burst then b.quantity 336 b.bar.burst else b).bar = b.bar := by
    split
    · exact quantity_bar ..
    · rfl
  fun_cases Block.fifoPut e b
  case case1 => rw [raiseOpen_bar]
  case case3 => rw [raise_bar]; exact congrArg (·.goodAt) hburst
  case case4 => exact congrArg (·.goodAt) hburst
  case case6 => rw [raise_bar]
  all_goals rfl

theorem countEdge_goodAt (i ns : Nat) (b : Block) : (b.countEdge i ns).bar.goodAt = b.bar.goodAt := by
  unfold Block.countEdge
  dsimp only
  split
  · rw [raise_bar]
    split <;> rfl
  · rfl

theorem edgeIn_goodAt (e : FEdge) (b : Block) : (b.edgeIn e).bar.goodAt = b.bar.goodAt := by
  unfold Block.edgeIn
  dsimp only
  rw [fifoPut_goodAt]
  split
  · exact countEdge_goodAt ..
  · rw [raiseAt_bar]

theorem edgeIn_fside (e : FEdge) (b : Block) : (b.edgeIn e).fside = b.fside :=
  fside_of_outside (edgeIn_outside (P := .bar :: .lgc :: Part.event) e b (by simp))

/-! ### The edge FIFO -/

theorem distEdge_bar (e : Edge) (b : Block) : (b.distEdge e).bar = b.bar :=
  bar_of_outside (distEdge_outside (P := .dist :: Part.event) e b (by simp))

theorem logPut_fifo (e : Edge) (r : BarSt) : (r.logPut e).fifo = r.fifo := by
  unfold BarSt.logPut
  split <;> rfl

theorem reblock_fifo (r : BarSt) : r.reblock.fifo = r.fifo := by
  unfold BarSt.reblock
  split <;> rfl

/-- A read of the FIFO takes 64 entries out, wherever they go (R339). -/
theorem edgeDrain_fifo (h : b.spUp = true) : b.edgeDrain.bar.fifo = b.bar.fifo.drop 64 := by
  simp only [Block.edgeDrain, h, Bool.not_true, Bool.false_eq_true, if_false]
  refine (foldl_keeps (fun b : Block => b.bar.fifo) _ (fun b e => ?_) _ _).trans (reblock_fifo _)
  split
  · rw [distEdge_bar]
    split
    · exact logPut_fifo ..
    · rfl
  · split
    · exact logPut_fifo ..
    · rfl

end

/-- Settles O40: each frame's fields as the other side reads them. -/
theorem barrierLinkCommandsComplete : Obligations.BarrierLinkCommandsComplete := by
  refine ⟨fun s ft n out a d ins hr hp htx ho ha hd => ⟨_, rfl, ?_⟩, fun s ft hr hp => ?_, fun s hr hp => ⟨_, rfl, ?_⟩,
    fun s ft f hf hp hs hn => ⟨_, done_onField (by rw [hf]; exact hp), ?_⟩, fun s hr hp hu => ⟨_, rfl, ?_⟩,
    fun s w hr hp hu => ⟨_, rfl, ?_⟩, fun s hr hp hu => ⟨_, rfl, ?_⟩, fun s hr hp hu hd => ⟨_, rfl, ?_⟩,
    fun s j cur hr hp hu hd => ⟨_, rfl, ?_⟩, fun s ft hr hp hu hd => ⟨_, rfl, ?_⟩, fun s v t hr hp hu hd => ⟨_, rfl, ?_⟩,
    fun s a hr hp hu hd ha => ⟨_, rfl, ?_⟩, fun s x hr hp hu => ⟨_, rfl, ?_⟩, fun s hr hl hg => ⟨_, rfl, ?_⟩,
    fun s a ha h0 hn => ?_, fun s ns => rfl, fun s ft hp => ⟨_, done_onField hp, ?_⟩, fun s h => ⟨_, rfl, edgeDrain_fifo h⟩,
    fun s t => ⟨_, rfl, ?_⟩, fun s t => ⟨_, rfl, ?_⟩⟩
  · have hfield : (s.blk.onField (FldSt.takeFrame ft s.blk.bar.tx)) = { s.blk with fside := s.blk.fside.down ft out a d } := by
      rw [Block.onField, if_pos hp, htx, takeFrame_dnFrame ho ha hd]
    simp only [Block.downFrame, hr, hp, Bool.not_true, Bool.or_self, Bool.false_eq_true, if_false]
    rw [hfield]
    obtain ⟨h1, h2, h3, h4, h5⟩ := nextFrame_bar (b := s.blk) (b' := { s.blk with fside := s.blk.fside.down ft out a d }) rfl rfl rfl rfl
    exact ⟨nextFrame_fside _, h1, h2, h3, h4, by rw [h1, h2, h4, h5]⟩
  · refine congrArg s.done ?_
    rw [Block.downAbort, if_pos hr, Block.onField, if_pos hp]
  · have hbad : s.blk.downBad = ({ s.blk with fside := s.blk.fside.downBad } : Block).nextFrame := by
      rw [Block.downBad, if_pos (by simp [hr, hp]), Block.onField, if_pos hp]
    rw [hbad]
    obtain ⟨h1, h2, -⟩ := nextFrame_bar (b := s.blk) (b' := { s.blk with fside := s.blk.fside.downBad }) rfl rfl rfl rfl
    exact ⟨nextFrame_fside _, h1, h2⟩
  · subst hf
    simp only [FldSt.silenceEnd, hs, hn, decide_true, Bool.and_self, if_true]
    exact ⟨rfl, rfl, rfl, rfl, rfl⟩
  · have hgo : (s.blk.fside.powered && s.blk.fside.upPos == 0) = true := by simp [hp, hu]
    obtain ⟨h1, h2, -⟩ := upGood_bar (s.blk.fside.upFrame 0 s.blk.fside.di) s.blk
    rw [Block.upDi, if_pos hgo]
    simp only [onUp_of hr, FldSt.upNext, upGood_fside]
    exact ⟨trivial, h1, h2, by rw [hu]⟩
  · have hgo : (s.blk.fside.powered && s.blk.fside.upPos == 2) = true := by simp [hp, hu]
    simp only [distObserve_bar, distObserve_fside]
    rw [Block.upRb, if_pos hgo, (onUp_of (b := { s.blk with fside := { s.blk.fside with rb := w.toNat } }) hr).1,
      (onUp_of (b := { s.blk with fside := { s.blk.fside with rb := w.toNat } }) hr).2]
    simp only [FldSt.upNext, upGood_fside, hu, and_self]
  · have hgo : (s.blk.fside.powered && s.blk.fside.upPos % 2 == 1) = true := by simp [hp, hu]
    obtain ⟨h1, h2, h3, -⟩ := upGood_bar (s.blk.fside.upFrame 2 0) s.blk
    rw [Block.auxIdle, if_pos hgo]
    simp only [onUp_of hr, FldSt.upNext, upGood_fside, id]
    exact ⟨h1, h2, h3, trivial⟩
  · obtain ⟨p, h1, h2⟩ := onAux_of (type := 1) (rec_ := (((s.blk.fside.fastQ ++ s.blk.fside.slowQ).take 2).map FEdge.pack).foldr
      (fun v n => v + 2 ^ 30 * n) 0) (g := fun b => ((s.blk.fside.fastQ ++ s.blk.fside.slowQ).take 2).foldl (fun b e => b.edgeIn e) b) hr hp hu hd
    have hg := foldl_keeps (fun b : Block => b.bar.goodAt) _ (fun b e => edgeIn_goodAt e b) ((s.blk.fside.fastQ ++ s.blk.fside.slowQ).take 2)
      (s.blk.upGood p)
    have hf := foldl_keeps (fun b : Block => b.fside) _ (fun b e => edgeIn_fside e b) ((s.blk.fside.fastQ ++ s.blk.fside.slowQ).take 2)
      (s.blk.upGood p)
    obtain ⟨e1, e2, e3⟩ := auxSent_edges hd
    have h2 : s.blk.auxEdges.fside = s.blk.fside.auxSent := h2.trans (congrArg FldSt.auxSent (hf.trans (upGood_fside ..)))
    rw [h2]
    exact ⟨e1, e2, e3, (congrArg (·.goodAt) h1).trans (hg.trans (upGood_bar p s.blk).1)⟩
  · obtain ⟨c, hf, -, -, -, -, -, h1, h2⟩ := aux_of (type := 2) (rec_ := j + 32 * (s.blk.fside.chan j).bits + 4096 * cur.toNat)
      (Block.diagIn j cur.toNat) hr hp hu hd
    obtain ⟨e1, e2, e3⟩ := diagIn_fields j cur.toNat c
    change (tget diagD (Block.onAux _ _ _ (Block.diagIn j cur.toNat) s.blk).bar.diag j).bits = _ ∧
      (tget diagD (Block.onAux _ _ _ (Block.diagIn j cur.toNat) s.blk).bar.diag j).cur = _ ∧
      (Block.onAux _ _ _ (Block.diagIn j cur.toNat) s.blk).fside.round = _
    rw [h1, h2, e1, e2, e3, hf]
    exact ⟨rfl, rfl, auxSent_diag hd⟩
  · obtain ⟨c, hf, ht, hdel, -, -, -, h1, h2⟩ := aux_of (type := 3) (rec_ := ft % 2 ^ 32) (Block.mapIn ft) hr hp hu hd
    have h1 : (s.blk.auxTime ft).bar = (c.mapIn ft).bar := h1
    have h2 : (s.blk.auxTime ft).fside = (c.mapIn ft).fside.auxSent := h2
    rw [h1, h2, auxSent_ft]
    exact ⟨rfl, rfl, by simp only [Block.mapIn, Block.ns64, hdel, ht]⟩
  · obtain ⟨c, hf, -, -, hbad, -, -, h1, h2⟩ := aux_of (type := 4) (rec_ := v.toNat + 2 ^ 12 * t.toNat + 2 ^ 20 * s.blk.fside.badDn +
      2 ^ 28 * s.blk.fside.silCnt + 2 ^ 36 * s.blk.fside.lost) (Block.statusIn s.blk.fside v.toNat t.toNat) hr hp hu hd
    obtain ⟨e1, e2, e3, e4⟩ := statusIn_fields s.blk.fside v.toNat t.toNat c
    have h1 : (s.blk.auxStatus v t).bar = (c.statusIn s.blk.fside v.toNat t.toNat).bar := h1
    have h2 : (s.blk.auxStatus v t).fside = (c.statusIn s.blk.fside v.toNat t.toNat).fside.auxSent := h2
    rw [h1, h2, e1, e2, e3, e4, hf, hbad]
    exact ⟨rfl, rfl, rfl, auxSent_status hd⟩
  · obtain ⟨c, hf, -, -, -, hdif, hcfg, h1, -⟩ := aux_of (type := 5) (rec_ := a + 256 * s.blk.fside.word a) (Block.echoIn a) hr hp hu hd
    have h1 : (s.blk.auxEcho a).bar = (c.echoIn a).bar := h1
    rw [h1, echoIn_differ ha, hf, hdif, hcfg]
  · have hgo : (s.blk.fside.powered && (s.blk.fside.upPos % 2 == 1) == x) = true := by rw [hp, hu]; simp
    rw [Block.upBad, if_pos hgo]
    dsimp only
    rw [if_pos hr]
    cases x
    · exact ⟨by rw [raise_bar]; rfl, by rw [raise_bar]; rfl, by rw [raise_bar], by rw [raise_fside]; rfl⟩
    · exact ⟨by rw [raise_bar]; rfl, by rw [raise_bar]; rfl, by rw [raise_bar], by rw [raise_fside]; exact auxSent_upPos⟩
  · have hgo : (s.blk.bar.run && s.blk.bar.loss.isNone && decide (s.blk.bar.goodAt + 10 * usE ≤ s.blk.now)) = true := by
      rw [hr, hl, decide_eq_true hg]; rfl
    have hbar : s.blk.upLoss.bar = { s.blk.bar with loss := some s.blk.now, goodRun := 0, losses := s.blk.bar.losses + 1 } := by
      rw [Block.upLoss, if_pos hgo, raiseOpen_bar]
    exact ⟨congrArg (·.loss) hbar, congrArg (·.goodRun) hbar, congrArg (·.losses) hbar⟩
  · refine congrArg s.done ?_
    have hgo : (decide (a ∈ s.blk.bar.differ) && tget natD s.blk.bar.sentAt a != 0 &&
        decide (tget natD s.blk.bar.sentAt a + msE < s.blk.now)) = true := by simp [ha, h0, hn]
    exact if_pos hgo
  · exact ⟨rfl, rfl, rfl⟩
  · unfold Block.edgePop
    cases t
    · exact ⟨rfl, reblock_fifo _⟩
    · exact ⟨rfl, rfl⟩
  · unfold Block.dropRead
    cases t <;> exact ⟨rfl, rfl, rfl⟩

end Sys2Proof.Machine
end

section
-- One declaration after another: the check compiles the whole text under a memory limit.
set_option Elab.async false
/-! SUPPORT. The network time: the transfer of INC, the step, the latching reads, the pulse and the servo's times. -/

namespace Sys2Proof.Machine
open Sys2Proof

section
variable {b : Block}

/-- A transfer takes both words within their clamps and begins the 2.5 s anew (R188, R348). -/
theorem writeInc_time (inc freq f : Nat) (hf : f = if freq < freqLo then freqLo else if freqHi < freq then freqHi else freq) :
    (b.writeInc inc freq).time = { b.time with
      freqInc := f
      inc := if inc + f * 500 / 1000000 < f then f - f * 500 / 1000000 else if f + f * 500 / 1000000 < inc then f + f * 500 / 1000000 else inc
      incAt := b.now, clamps := b.time.clamps + b2n (decide (f ≠ freq)) } := by
  subst hf
  rw [Block.writeInc, raiseIf_time, raiseIf_time]

/-- A step sets the second and its nanoseconds and nothing else of the count (R349). -/
theorem applyStep_time (abs : Bool) (v : Int) (n : Nat) (hn : n = if abs then ofSigned 64 v else ofSigned 64 ((b.ns64 : Int) + v)) :
    (b.applyStep abs v).time.sec = n / 1000000000 ∧ (b.applyStep abs v).time.ns = n % 1000000000 ∧
    (b.applyStep abs v).time.frac = (if abs then 0 else b.time.frac) ∧ (b.applyStep abs v).time.elapsed = b.time.elapsed := by
  subst hn
  rw [Block.applyStep, raise_time]
  exact ⟨rfl, rfl, rfl, rfl⟩

theorem ofSigned_ofNat (w v : Nat) : ofSigned w (v : Int) = v % 2 ^ w := by
  rw [ofSigned, ← Int.natCast_emod, Int.toNat_natCast]

theorem advance_cfg (n : Nat) (t : TimeSt) : (t.advance n).cfg = t.cfg := rfl

theorem ppsPulse_of {c : Nat} {t : TimeSt} (ha : b.time.ppsAllowed = true) (hc : t.carryAt = some c) (ht : t =
    if b.time.carryAt.isSome || !b.time.run then b.time
    else b.time.advance ((secF - (b.time.ns * nsE + b.time.frac) + b.time.inc - 1) / b.time.inc)) :
    b.ppsPulse = { b with time := { t with ppsHigh := some (c + t.cfg.width * msE), carryAt := none } } := by
  subst ht
  simp only [Block.ppsPulse, ha, hc]

end

/-- Settles O41: the arm of each command under its condition. -/
theorem timeCommandsComplete : Obligations.TimeCommandsComplete := by
  refine ⟨fun s v q f w hq hf hw => ⟨_, rfl, ?_⟩, fun s h => ?_, fun s v n hv hn => ⟨_, rfl, ?_⟩, fun s v n hv hn => ⟨_, rfl, ?_⟩,
    fun s t => ⟨_, rfl, ?_⟩, fun s t => ⟨_, rfl, ?_⟩, fun s t => ⟨_, rfl, ?_⟩, fun s r => ⟨_, rfl, rfl, rfl⟩, fun s w => rfl,
    fun s p n x hx => ⟨_, rfl, ?_⟩, fun s c ha hc => ?_, fun s c t ha hn hr ht hc => ?_, fun s t hh hn => ?_,
    fun s hst hsp => ⟨_, rfl, ?_⟩, fun s hsp hst hn => ⟨_, rfl, ?_⟩, fun s hsp hst hsl hn => ⟨_, rfl, ?_⟩⟩
  · subst hq hw
    have h := writeInc_time (b := { s.blk with time := { s.blk.time with incHi := v } }) (v.toNat * 2 ^ 32 + s.blk.time.incLo.toNat) _ f hf
    have h : (s.blk.incTransfer v).time = _ := h
    exact ⟨congrArg (·.freqInc) h, congrArg (·.inc) h, congrArg (·.incHi) h, congrArg (·.incAt) h⟩
  · refine congrArg s.done ?_
    rw [Block.incLapse, if_pos h]
  · simp only [← hv, if_true]
    obtain ⟨h1, h2, h3, h4⟩ := applyStep_time (b := s.blk) true (v : Int) n (hn.trans (ofSigned_ofNat 64 v).symm)
    exact ⟨h1, h2, h3, h4⟩
  · simp only [← hv, Bool.false_eq_true, if_false]
    obtain ⟨h1, h2, h3, h4⟩ := applyStep_time (b := s.blk) false (toSigned 64 v) n hn
    exact ⟨h1, h2, h3, h4⟩
  · unfold Block.tcNsRead
    cases t <;> exact ⟨rfl, rfl⟩
  · unfold Block.timeNsRead
    cases t <;> exact ⟨rfl, rfl⟩
  · unfold Block.epochLoRead
    cases t <;> exact ⟨rfl, rfl⟩
  · subst hx
    exact ⟨_, rfl, rfl⟩
  · refine congrArg s.done (ppsPulse_of ha hc ?_)
    rw [hc, Option.isSome_some, Bool.true_or, if_pos rfl]
  · refine congrArg s.done ((ppsPulse_of ha hc ?_).trans ?_)
    · rw [hn, hr, ht, Option.isSome_none, Bool.not_true, Bool.or_self, if_neg Bool.false_ne_true]
    · rw [ht, advance_cfg]
  · refine congrArg s.done ?_
    simp only [Block.ppsPulseEnd, hh, hn, if_true]
  · have h : s.blk.estRecompute = s.blk.reEst := if_pos ⟨hst, hsp⟩
    rw [h]
    exact ⟨rfl, hst⟩
  · have hgo : (s.blk.spUp && decide (s.blk.time.servo.state = .holdover) &&
        decide (s.blk.time.servo.holdAt + s.blk.time.cfg.holdMax * secE ≤ s.blk.now)) = true := by
      rw [hsp, decide_eq_true hst, decide_eq_true hn, Bool.and_self, Bool.and_self]
    have h : s.blk.holdoverExpiry.time = (s.blk.setTState .freerun).time := by
      rw [Block.holdoverExpiry, if_pos hgo, raise_time]
    exact (congrArg (fun t : TimeSt => t.servo.state) h).trans (setTState_state ..).1
  · have hgo : (s.blk.spUp && decide (s.blk.time.servo.state = .stepped) && s.blk.time.slave.isNone &&
        decide (s.blk.time.servo.stepAt + secE ≤ s.blk.now)) = true := by
      rw [hsp, decide_eq_true hst, hsl, decide_eq_true hn, Option.isNone_none, Bool.and_self, Bool.and_self, Bool.and_self]
    have h : s.blk.steppedTimeout = s.blk.setTState .freerun := by rw [Block.steppedTimeout, if_pos hgo]
    exact (congrArg (fun b : Block => b.time.servo.state) h).trans (setTState_state ..).1

end Sys2Proof.Machine
end

section
-- One declaration after another: the check compiles the whole text under a memory limit.
set_option Elab.async false
/-! SUPPORT. The PTP messages: what a port takes, and what each message then does. -/

namespace Sys2Proof.Machine
open Sys2Proof

section
variable {b b' : Block} {p d : Nat}

/-! ### A message that the port does not take -/

theorem ptpSync_untaken {q o : Nat} {t : Bool} {c : Int} (h : b.ptpIn p d = (false, b') ∨ b.ptpIn p d = (true, b') ∧
    b'.time.slave ≠ some (b.ptpPort p)) : b.ptpSync p d q t o c = b' := by
  rcases h with h | ⟨h, hs⟩
  · simp [Block.ptpSync, h]
  · simp [Block.ptpSync, h, hs]

theorem ptpFollowUp_untaken {q o : Nat} {c : Int} (h : b.ptpIn p d = (false, b') ∨ b.ptpIn p d = (true, b') ∧
    b'.time.slave ≠ some (b.ptpPort p)) : b.ptpFollowUp p d q o c = b' := by
  rcases h with h | ⟨h, hs⟩
  · simp [Block.ptpFollowUp, h]
  · simp [Block.ptpFollowUp, h, hs]

/-! ### The servo's messages on the SLAVE port -/

theorem ptpSync_taken {q o : Nat} {t : Bool} {c : Int} (h : b.ptpIn p d = (true, b')) (hs : b'.time.slave = some (b.ptpPort p)) :
    b.ptpSync p d q t o c = if t then b'.putPtp p fun x => { x with syncWait := some (q, b'.rxStampNs p, c) }
      else b'.servo (b'.theta p (b'.rxStampNs p) o c) := by
  simp only [Block.ptpSync, h, hs, Bool.not_true, bne_self_eq_false, Bool.or_self, Bool.false_eq_true, if_false]

theorem ptpFollowUp_taken {q o rx : Nat} {c e : Int} (h : b.ptpIn p d = (true, b')) (hs : b'.time.slave = some (b.ptpPort p))
    (hw : (tget ptpD b'.time.ports p).syncWait = some (q, rx, e)) :
    b.ptpFollowUp p d q o c = (b'.putPtp p fun x => { x with syncWait := none }).servo
      ((b'.putPtp p fun x => { x with syncWait := none }).theta p rx o (e + c)) := by
  simp only [Block.ptpFollowUp, h, hs, hw, Bool.not_true, bne_self_eq_false, Bool.or_self, Bool.false_eq_true, if_false, ne_eq, not_true]

/-! ### The transparent clock and the announce timeout -/

/-- A residence correction is added where both ports forward (R358). -/
theorem tcForward_of {o q rx tx : Nat} {t : Bool} {c e : Int} (ho : o = if p % 2 = 0 then p + 1 else p - 1) (ha : b.alive p = true)
    (hp : b.time.cfg.profile ≠ 0) (hon : b.red p = 2 ∨ 2 ≤ p ∧ b.time.cfg.tc.getD p false = true ∧ b.time.cfg.tc.getD o false = true)
    (he : e = c + (dist64 tx rx + ((tget ptpD (b.goodRx p).time.ports p).linkDelay : Nat)) * 65536) :
    b.tcForward p q t c rx tx =
      if t then ((((b.goodRx p).enqueue o { body := .tc 0 q c, queue := 7 }).kick o false).enqueue o { body := .tc 1 q e, queue := 7 }).kick o false
      else ((b.goodRx p).enqueue o { body := .tc 0 q e, queue := 7 }).kick o false := by
  subst he
  subst ho
  unfold Block.tcForward
  extract_lets o' on b1 e put
  have hon' : on = true := by
    rcases hon with h | ⟨h1, h2, h3⟩
    · simp only [on, h, beq_self_eq_true, Bool.or_true]
    · simp only [on, h1, h2, o', h3, decide_true, Bool.and_self, Bool.true_or]
  rw [if_neg (by simp [ha, hon', hp])]

/-- The block that has forgotten a port's master and chosen again (R352). -/
def Block.masterLost (p : Nat) (b : Block) : Block := (b.putPtp p fun x => { x with best := none, annTo := true }).bmca

theorem annTimeout_of (hp : p < 4) (hb : (tget ptpD b.time.ports p).best.isSome = true)
    (ht : (tget ptpD b.time.ports p).annAt + 3 * secE ≤ b.now) :
    b.annTimeout p = if b.time.slave = some p then
        if ((b.masterLost p).raise 349 p).time.servo.state = .locked then ((b.masterLost p).raise 349 p).setTState .holdover
        else (b.masterLost p).raise 349 p
      else b.masterLost p := by
  have hgo : (decide (4 ≤ p) || (tget ptpD b.time.ports p).best.isNone || decide (b.now < (tget ptpD b.time.ports p).annAt + 3 * secE)) =
      false := by
    rw [decide_eq_false (Nat.not_le.mpr hp), decide_eq_false (Nat.not_lt.mpr ht), Option.isNone_eq_false_iff.mpr hb, Bool.or_self,
      Bool.or_self]
  unfold Block.annTimeout
  dsimp only
  rw [hgo, if_neg Bool.false_ne_true]
  rfl

end

/-- Settles O42: the arm of each message under its condition. -/
theorem ptpMessagesComplete : Obligations.PtpMessagesComplete := by
  refine ⟨fun s p d q o rr rt w t c a b i hi h => ?_, fun s p d q o c b h hs => congrArg s.done ?_,
    fun s p d q o c b h hs => congrArg s.done ?_, fun s p d q o rx c e b h hs hw =>
      ⟨_, rfl, congrArg s.done (ptpFollowUp_taken h hs hw)⟩, fun s p d q o t c b i hi h hs => ?_,
    fun s p d a b h => congrArg s.done ?_, fun s p d q w b h => congrArg s.done ?_, fun s p d q rr rt t1 c b h hw => congrArg s.done ?_,
    fun s p h => congrArg s.done ?_, fun s p n hon hw hn => congrArg s.done ?_, fun s p n b hon hw hb hn => congrArg s.done ?_,
    fun s p n hon hst hpp hn => congrArg s.done ?_, fun s p q rx tx o c e b ho ha hp hon hb he => congrArg s.done ?_,
    fun s p q rx tx o c e b b2 ho ha hp hon hb he hb2 => congrArg s.done ?_, fun s p hp hb ht hs => congrArg s.done ?_,
    fun s p b hp hb ht hs he => congrArg s.done ?_⟩
  · rcases hi with rfl | rfl | rfl | rfl | rfl
    · exact congrArg s.done (ptpSync_untaken (.inl h))
    · exact congrArg s.done (ptpFollowUp_untaken (.inl h))
    · exact congrArg s.done (by simp [Block.ptpAnnounce, h])
    · exact congrArg s.done (by simp [Block.ptpPdelayReq, h])
    · exact congrArg s.done (by simp [Block.ptpPdelayResp, h])
  · rw [ptpSync_taken h hs, if_neg Bool.false_ne_true]
  · rw [ptpSync_taken h hs, if_pos rfl]
  · rcases hi with rfl | rfl
    · exact congrArg s.done (ptpSync_untaken (.inr ⟨h, hs⟩))
    · exact congrArg s.done (ptpFollowUp_untaken (.inr ⟨h, hs⟩))
  · simp only [Block.ptpAnnounce, h, Bool.not_true, Bool.false_eq_true, if_false]
  · simp only [Block.ptpPdelayReq, h, Bool.not_true, Bool.false_eq_true, if_false]
  · simp only [Block.ptpPdelayResp, h, hw, Bool.not_true, Bool.false_eq_true, if_false, ne_eq, not_true]
  · simp only [Block.ptpUnsupported, h, Bool.not_true, Bool.false_eq_true, if_false]
  · simp only [Block.ptpInterval, hon, hw, hn, Option.isSome_none, Bool.not_true, Bool.false_eq_true, if_false]
  · simp only [Block.ptpInterval, hon, hw, hn, hb, Bool.not_true, Bool.false_eq_true, if_false, if_true]
  · simp only [Block.ptpInterval, hon, hst, hpp, hn, and_self, Bool.not_true, Bool.false_eq_true, if_false, if_true]
  · subst hb
    rw [tcForward_of ho ha hp hon he, if_neg Bool.false_ne_true]
  · subst hb hb2
    rw [tcForward_of ho ha hp hon he, if_pos rfl]
  · rw [annTimeout_of hp hb ht, if_neg hs, Block.masterLost]
  · subst he
    rw [annTimeout_of hp hb ht, if_pos hs, Block.masterLost]

end Sys2Proof.Machine
end

section
-- One declaration after another: the check compiles the whole text under a memory limit.
set_option Elab.async false
/-! SUPPORT. The ports: what a transmission leaves of a port's link, and what each frame does. -/

namespace Sys2Proof.Machine
open Sys2Proof

section
variable {b b' : Block} {p : Nat}

/-! ### A transmission leaves every port's link as it was -/

/-- A port's link, and when it was heard. -/
def PortSt.wire (x : PortSt) : Bool × Option Nat × Nat × Option Nat := (x.link, x.downAt, x.heardAt, x.lost)

/-- Every port's link. -/
def Block.wires (b : Block) : Nat → Bool × Option Nat × Nat × Option Nat := fun q => (b.port q).wire

theorem port_putPort (f : PortSt → PortSt) : (b.putPort p f).port p = f (b.port p) := tget_tset_same ..

theorem port_putPort_ne {q : Nat} (h : q ≠ p) (f : PortSt → PortSt) : (b.putPort p f).port q = b.port q := tget_tset_ne _ _ _ h

theorem port_congr (h : b'.net = b.net) (q : Nat) : b'.port q = b.port q := by rw [Block.port, h]; rfl

theorem wires_congr (h : b'.net = b.net) : b'.wires = b.wires := funext fun q => congrArg PortSt.wire (port_congr h q)

theorem putPort_wires {f : PortSt → PortSt} (hf : ∀ x, (f x).wire = x.wire) : (b.putPort p f).wires = b.wires := by
  funext q
  by_cases h : q = p
  · rw [h, Block.wires, port_putPort, hf]; rfl
  · rw [Block.wires, port_putPort_ne h]; rfl

theorem countNet_wires (c : NetCtr) (b : Block) : (b.countNet p c).wires = b.wires := putPort_wires fun _ => rfl

theorem raise_wires (n : Nat) (q : Int) (b : Block) : (b.raise n q).wires = b.wires := wires_congr (raise_net ..)

theorem purge_wires (q : Nat) (b : Block) : (b.purge p q).wires = b.wires :=
  (foldl_keeps Block.wires _ (fun _ _ => (raise_wires ..).trans (countNet_wires ..)) _ _).trans
    (putPort_wires fun _ => rfl)

theorem enqueue_wires (f : TxFrame) (b : Block) : (b.enqueue p f).wires = b.wires := by
  unfold Block.enqueue
  dsimp only
  split
  · rfl
  · split
    · rw [raise_wires, countNet_wires]
    · exact putPort_wires fun _ => rfl

theorem txStamp_wires (f : TxFrame) (b : Block) : (b.txStamp p f).wires = b.wires := by
  unfold Block.txStamp
  split
  · exact enqueue_wires ..
  · rfl
  · exact enqueue_wires ..
  · rfl

theorem start_wires (f : TxFrame) (b : Block) : (b.start p f).wires = b.wires := by
  have h : ((b.putPort p fun x => { x.count .txFrames with sending := some f }).txStamp p f).wires = b.wires :=
    (txStamp_wires ..).trans (putPort_wires fun _ => rfl)
  unfold Block.start
  dsimp only
  split <;> exact h

theorem startHead_wires (q : Nat) (b : Block) : (b.startHead p q).wires = b.wires := by
  unfold Block.startHead
  split
  · rw [start_wires]; exact putPort_wires fun _ => rfl
  · rfl

theorem kick_wires (slip : Bool) (b : Block) : (b.kick p slip).wires = b.wires := by
  have hpurge : ((List.range 8).foldl (Block.purge p) b).wires = b.wires := foldl_keeps Block.wires _ (fun b q => purge_wires q b) _ _
  fun_cases Block.kick p slip b
  case case1 => rfl
  case case2 b1 t q d hq b2 =>
    refine (startHead_wires q b2).trans (Eq.trans ?_ hpurge)
    simp only [b2]
    split
    · exact countNet_wires ..
    · rfl
  case case4 b1 t hq hg f r hf => exact (start_wires f _).trans (Eq.trans (putPort_wires fun _ => rfl) hpurge)
  case case5 b1 t hq hg hf q hfind => exact (startHead_wires q b1).trans hpurge
  all_goals exact hpurge

/-! ### Links, and frames without a service -/

/-- The link rises (R375). -/
theorem linkUp_fields (hp : p < 4) (hs : 5 ≤ b.sys.step) (hm : b.mode p ≠ 0) (hl : (b.port p).link = false) :
    ((b.linkUp p).port p).wire = (true, none, b.now, none) ∧
    (b.now < secE → (b.linkUp p).sys.linkUpAt = lupd b.sys.linkUpAt p fun _ => b.now) := by
  have hgo : (decide (4 ≤ p) || decide (b.sys.step < 5) || decide (b.mode p = 0) || (b.port p).link) = false := by
    rw [decide_eq_false (Nat.not_le.mpr hp), decide_eq_false (Nat.not_lt.mpr hs), decide_eq_false hm, hl, Bool.or_self, Bool.or_self, Bool.or_self]
  have hsys : ∀ c : Block, (c.kick p false).sys = c.sys := fun c => sys_of_outside (kick_outside (P := .time :: .net :: Part.event) p false c (by simp))
  unfold Block.linkUp
  rw [hgo, if_neg Bool.false_ne_true]
  extract_lets b1 b2 _ b3
  have h1 : b1.time = b.time ∧ b1.sys = b.sys := by
    simp only [b1]
    split
    · exact ⟨quantity_time .., quantity_sys ..⟩
    · exact ⟨rfl, rfl⟩
  have hnow1 : b1.now = b.now := congrArg (·.elapsed) h1.1
  have hnow : b2.now = b.now := hnow1
  have h2 : (b2.port p).wire = (true, none, b.now, none) := by rw [← hnow1]; exact congrArg PortSt.wire (port_putPort _)
  constructor
  · have h3 : b3.wires = b2.wires := by
      simp only [b3]
      split <;> rfl
    have h : (b3.kick p false).wires p = b2.wires p := congrFun ((kick_wires false b3).trans h3) p
    exact h.trans h2
  · intro hlt
    rw [hsys]
    simp only [b3]
    rw [hnow, if_pos hlt]
    exact congrArg (fun x => lupd x p fun _ => b.now) (congrArg (·.linkUpAt) h1.2)

theorem linkDown_fields (hl : (b.port p).link = true) : ((b.linkDown p).port p).link = false ∧ ((b.linkDown p).port p).downAt = some b.now := by
  have hnet : ∀ (c : Block) (l : Nat), (c.lportDown l).net = c.net := fun c l =>
    net_of_outside (lportDown_outside (P := .fab :: Part.event) l c (by simp))
  have hdown : ((b.linkDown p).port p) = { (b.port p).count .linkDowns with link := false, downAt := some b.now, sending := none } := by
    rw [Block.linkDown, hl]
    refine (port_congr (hnet ..) p).trans ?_
    rw [Block.goDown, if_pos hl]
    exact (port_congr (raiseOpen_net ..) p).trans (port_putPort _)
  rw [hdown]
  exact ⟨rfl, rfl⟩

theorem rxBad_of (l : Bool) (ha : b.alive p = true) (hb : b' = b.putPort p fun x => { x.count (if l then .rxLong else .rxErr) with
    badRun := x.badRun + 1 }) : b.rxBad p l = if (b.port p).badRun = 0 then b'.raiseOpen (netSrc p 1) else b' := by
  subst hb
  simp only [Block.rxBad, ha, Bool.not_true, Bool.false_eq_true, if_false]

/-! ### The ring -/

variable {h : RxHdr} {q l : Nat} {u m : Bool}

theorem hsrForward_on (ha : b.alive h.port = true) (hr : b.red h.port = 2) : (!b.alive h.port || b.red h.port != 2) = false := by
  rw [ha, hr]; rfl

theorem hsrForward_own (ha : b.alive h.port = true) (hr : b.red h.port = 2) :
    b.hsrForward h true u m = if u then (b.goodRx h.port).heard h.port else b.goodRx h.port := by
  unfold Block.hsrForward
  dsimp only
  rw [hsrForward_on ha hr, if_neg Bool.false_ne_true, if_pos rfl]

theorem hsrForward_seen (ha : b.alive h.port = true) (hr : b.red h.port = 2) (hs : h.seq = some (q, l))
    (hf : (b.dupOf (h.port / 2) h.src q).any (·.fwd) = true) :
    b.hsrForward h false u m = if m then b else (b.goodRx h.port).countNet h.port .dupDiscard := by
  unfold Block.hsrForward
  dsimp only
  rw [hsrForward_on ha hr, if_neg Bool.false_ne_true, if_neg Bool.false_ne_true, hs]
  dsimp only
  rw [hf, if_pos rfl]

theorem hsrForward_new {o : Nat} (ha : b.alive h.port = true) (hr : b.red h.port = 2) (hs : h.seq = some (q, l))
    (hf : (b.dupOf (h.port / 2) h.src q).any (·.fwd) = false) (ho : o = if h.port % 2 = 0 then h.port + 1 else h.port - 1)
    (hb : b' = (if m then b else b.goodRx h.port).dupPut (h.port / 2) h.src q fun d => { d with fwd := true }) :
    b.hsrForward h false u m = if 8 ≤ (b'.port o).fwd.length then (b'.countNet o .txqDrop).raise (netSrc o 6) 8
      else (b'.putPort o fun x => { x with fwd := x.fwd ++ [{ body := .ring h.src q, queue := 8 }] }).kick o false := by
  subst ho hb
  unfold Block.hsrForward
  dsimp only
  rw [hsrForward_on ha hr, if_neg Bool.false_ne_true, if_neg Bool.false_ne_true, hs]
  dsimp only
  rw [hf, if_neg Bool.false_ne_true]

end

/-- Settles O43: the arm of each command under its condition. -/
theorem portCommandsComplete : Obligations.PortCommandsComplete := by
  refine ⟨fun s p hp hs hm hl => ⟨_, rfl, ?_⟩, fun s p hl => ⟨_, rfl, ?_⟩, fun s p l b ha hb => congrArg s.done ?_,
    fun s h b hin => congrArg s.done ?_, fun s p ha => congrArg s.done ?_, fun s h b hin => congrArg s.done ?_,
    fun s h b i hi hin => ?_, fun s k hk hr => congrArg s.done ?_, fun s k hk hr => congrArg s.done ?_,
    fun s p hp hr hl hh ho => congrArg s.done ?_, fun s p hp hr hl hh => congrArg s.done ?_, fun s k => rfl,
    fun s h u m ha hr => congrArg s.done ?_, fun s h q l u m ha hr hs hf => congrArg s.done ?_,
    fun s h q l o u m b ha hr hs hf ho hb => congrArg s.done ?_, fun s p f hf => congrArg s.done ?_⟩
  · obtain ⟨hw, hsys⟩ := linkUp_fields hp hs hm hl
    simp only [PortSt.wire, Prod.mk.injEq] at hw
    obtain ⟨h1, h2, h3, h4⟩ := hw
    exact ⟨h1, h2, h3, h4, hsys⟩
  · exact linkDown_fields hl
  · exact rxBad_of l ha hb
  · simp only [Block.rxUnsup, hin, if_true]
  · simp only [Block.pauseRx, ha, if_true]
  · simp only [Block.prpRx, hin, if_true]
  · rcases hi with rfl | rfl
    · refine congrArg s.done ?_
      simp only [Block.rxUnsup, hin, Bool.false_eq_true, if_false]
    · refine congrArg s.done ?_
      simp only [Block.prpRx, hin, Bool.false_eq_true, if_false]
  · rw [Block.supervise, if_pos ⟨hk, hr⟩]
  · rw [Block.supervise, if_pos ⟨hk, hr⟩]
  · rw [Block.prpLost, if_pos ⟨hp, hr, by rw [hl]; rfl, hh, ho⟩]
  · rw [Block.ringOpen, if_pos ⟨hp, hr, by rw [hl]; rfl, hh⟩]
  · exact hsrForward_own ha hr
  · exact hsrForward_seen ha hr hs hf
  · exact hsrForward_new ha hr hs hf ho hb
  · simp only [Block.txEnd, hf]

end Sys2Proof.Machine
end

section
-- One declaration after another: the check compiles the whole text under a memory limit.
set_option Elab.async false
/-! SUPPORT. The fabric's neighbours: hellos, admission, probation and silence. -/

namespace Sys2Proof.Machine
open Sys2Proof

section
variable {b b' c : Block}

/-- A hello goes out on every fabric port once in an interval (R399). -/
theorem helloSend_fab (hon : b.fabOn = true) (hiv : b.helloIv.isSome = true) (hnew : b.fab.helloIv ≠ b.helloIv) :
    b.helloSend.fab.hcount = (b.fab.hcount + 1) % 65536 ∧ b.helloSend.fab.helloIv = b.helloIv ∧ b.helloSend.fab.firstAt.isSome = true := by
  have hgo : (!b.fabOn || b.helloIv.isNone || b.fab.helloIv == b.helloIv) = false := by
    rw [hon, Option.isNone_eq_false_iff.mpr hiv, beq_eq_false_iff_ne.mpr hnew, Bool.not_true, Bool.or_self, Bool.or_self]
  rw [Block.helloSend, hgo, if_neg Bool.false_ne_true]
  exact ⟨rfl, rfl, rfl⟩

theorem helloRx_refused {h : RxHdr} {x : Hello} (hin : b.rxIn h = (true, b')) (hr : b'.fabRefuse h = true) :
    b.helloRx h x = b'.countNet h.port .rxUnsup := by
  simp only [Block.helloRx, hin, hr, Bool.not_true, Bool.false_eq_true, if_false, if_true]

theorem helloRx_taken {h : RxHdr} {x : Hello} (hin : b.rxIn h = (true, b')) (hr : b'.fabRefuse h = false) (hb : b'.isBlocked x.mac = false)
    (hp : b'.police h.port true = (true, c)) : b.helloRx h x = (c.countFab (b'.logical h.port) .rx).hello (b'.logical h.port) x := by
  simp only [Block.helloRx, hin, hr, hb, hp, Bool.not_true, Bool.false_eq_true, if_false, if_true]

/-- An entry goes when it has been DOWN for 10 s, and no other goes (R402). -/
theorem mem_nbrFree (a l : Nat) (n : Nbr) : n ∈ (b.nbrFree a l).fab.nbrs ↔ n ∈ b.fab.nbrs ∧
    ¬(n.addr = a ∧ n.port = l ∧ n.state = .down ∧ n.downAt + 10 * secE ≤ b.now) := by
  simp only [Block.nbrFree, List.mem_filter, Bool.not_eq_true', Bool.and_eq_false_iff, beq_eq_false_iff_ne, decide_eq_false_iff_not, Classical.not_and_iff_not_or_not,
    or_assoc, ne_eq]

end

/-- Settles O44: the arm of each command under its condition. -/
theorem neighbourCommandsComplete : Obligations.NeighbourCommandsComplete := by
  refine ⟨fun s hon hiv hnew => ⟨_, rfl, ?_⟩, fun s h x b c hin hr hb hp => congrArg s.done ?_, fun s h x b hin hr => congrArg s.done ?_,
    fun s => rfl, fun s n hn => congrArg s.done ?_, fun s a l n hf hst ht => congrArg s.done ?_, fun s a l n hf ht => congrArg s.done ?_,
    fun s a l => ⟨_, rfl, fun n => ?_⟩, fun s t hf hp ht => congrArg s.done ?_⟩
  · exact helloSend_fab hon hiv hnew
  · exact helloRx_taken hin hr hb hp
  · exact helloRx_refused hin hr
  · rw [Block.pendAdmit, hn]
  · simp only [Block.nbrUp, hf, hst, decide_eq_true ht, decide_true, Bool.and_self, if_true]
  · simp only [Block.nbrSilent, hf, decide_eq_true ht, if_true]
  · exact mem_nbrFree a l n
  · simp only [Block.ownProbEnd, hf, hp, decide_eq_true ht, Bool.and_self, if_true]

end Sys2Proof.Machine
end

section
-- One declaration after another: the check compiles the whole text under a memory limit.
set_option Elab.async false
/-! SUPPORT. The fabric's frames: forwarding, the travelling-wave records and the whisks. -/

namespace Sys2Proof.Machine
open Sys2Proof

section
variable {b b' c : Block} {h : RxHdr} {f : FabHdr} {y : FabBody}

/-! ### Forwarding -/

/-- A unicast frame taken goes no further than the node's own address, its probation and its hops let it (R405). -/
theorem fabUnicast_of (hin : b.fabIn h f y = (true, b')) (hb : f.bcast = false) (hm : f.mcast = false) :
    ∃ z, b.fabUnicast h f y = (if f.dst = b'.fabAddr then b'.consume h f y
      else if b'.fab.probing then b'
      else if f.hops ≤ 1 then b'.fabDiscard (b'.logical h.port) .hopDrop 400 else z) ∧
      ∀ l n c, b'.egress (b'.logical h.port) f.dst = (some (l, n), c) →
        z = ((c.countFab (b'.logical h.port) .fwd).fabPass).fabEmit l { f with hops := f.hops - 1 } y (some n) := by
  have hgo : (!true || f.bcast || f.mcast) = false := by rw [hb, hm]; rfl
  unfold Block.fabUnicast
  rw [hin]
  dsimp only
  rw [hgo, if_neg Bool.false_ne_true]
  refine ⟨_, rfl, fun l n c he => ?_⟩
  rw [he]

theorem fabBroadcast_seen (hin : b.fabIn h f y = (true, b')) (hb : f.bcast = true) (hd : b'.bdupHas f.src f.svc f.seq = true) :
    b.fabBroadcast h f y = b'.countFab (b'.logical h.port) .dupBcast := by
  have hgo : (!true || (!f.bcast && !f.mcast)) = false := by rw [hb]; rfl
  unfold Block.fabBroadcast
  rw [hin]
  dsimp only
  rw [hgo, if_neg Bool.false_ne_true, hd, if_pos rfl]

theorem fabBroadcast_new (hin : b.fabIn h f y = (true, b')) (hb : f.bcast = true) (hd : b'.bdupHas f.src f.svc f.seq = false)
    (hz : (b'.bdupPut f.src f.svc f.seq).inZone f = true) (hc : c = (b'.bdupPut f.src f.svc f.seq).consume h f y)
    (hcz : c.inZone f = true) (hp : c.fab.probing = false) (hh : 2 ≤ f.hops) :
    b.fabBroadcast h f y = (c.fabPorts.filter fun p => p != b'.logical h.port).foldl
      (fun b p => b.fabEmit p { f with hops := f.hops - 1 } y none) (c.countFab (b'.logical h.port) .fwd) := by
  have hgo : (!true || (!f.bcast && !f.mcast)) = false := by rw [hb]; rfl
  have hmine : ((b'.bdupPut f.src f.svc f.seq).inZone f && (f.bcast ||
      ((b'.bdupPut f.src f.svc f.seq).fab.cfg.groups.contains f.dst && f.dst != 0xFFFF))) = true := by rw [hz, hb]; rfl
  have hstop : (c.fab.probing || !c.inZone f) = false := by rw [hp, hcz]; rfl
  unfold Block.fabBroadcast
  rw [hin]
  dsimp only
  rw [hgo, if_neg Bool.false_ne_true, hd, if_neg Bool.false_ne_true, hmine, if_pos rfl, ← hc, hstop, if_neg Bool.false_ne_true,
    if_neg (Nat.not_le.mpr hh)]

/-! ### The travelling-wave records -/

theorem countFab_reasm (l : Nat) (k : FabCtr) (b : Block) : (b.countFab l k).fab.reasm = b.fab.reasm := rfl

theorem twSend_of {x : Arrival} {r : List Arrival} (hx : b.acc.toFab = x :: r) (hb : b' = { b with acc := { b.acc with toFab := r } }) :
    b.twSend = if 32 ≤ x.group ∨ (tget twD b.fab.tw x.group).en = false then b'
      else (b'.fabSend 2 (tget twD b.fab.tw x.group).remote false false false false
        (.bytes (leBytes 1 (tget twD b.fab.tw x.group).rgroup ++ zeros 3 ++ x.bytes))).twPair
          { group := x.group, stamp := x.stamp, rseq := x.rseq, at_ := b.now } := by
  subst hb
  unfold Block.twSend
  rw [hx]
  dsimp only
  refine ite_congr (propext ?_) (fun _ => rfl) fun _ => rfl
  rw [Bool.or_eq_true, decide_eq_true_eq, Bool.not_eq_true']

theorem twRx_of {m : FabMsg} {g : Nat} (ht : b.take 2 (fun _ => true) = some (m, b')) (hl : m.bytes.length = 36) (hg : fld m.bytes 0 1 = g)
    (hlt : g < 32) (hen : (tget twD b'.fab.tw g).en = true) (hr : (tget twD b'.fab.tw g).remote = m.src)
    (hrg : (tget twD b'.fab.tw g).rgroup = fld m.bytes 16 1) :
    b.twRx = b'.twPair { group := g, remote := true, rseq := fld m.bytes 32 4, at_ := b'.now
                         stamp := { sec := fld m.bytes 4 6, ns := fld m.bytes 10 4, qual := fld m.bytes 14 2 } } := by
  subst hg
  unfold Block.twRx
  rw [ht]
  dsimp only
  rw [if_neg]
  rw [hen, hl, hr, hrg]
  simp [hlt]

theorem reply_snap (dst : Nat) (body : FabBody) (b : Block) : (b.fabSend 3 dst false false false false body).snap = b.snap :=
  snap_of_outside (fabSend_outside (P := .time :: .net :: .fab :: Part.event) 3 dst false false false false body b (by simp))

theorem whiskRx_snap {m : FabMsg} {w : Nat} (ht : b.take 3 (fun m => m.bytes.length == 8) = some (m, b')) (hw : fld m.bytes 0 8 = w)
    (hf : dist64 b'.ns64 w < 0) (ha : b'.snap.arm = none) : b.whiskRx.snap.arm = some { at_ := w, source := 3, armedAt := b'.ns64 } := by
  subst hw
  unfold Block.whiskRx
  rw [ht]
  dsimp only
  rw [if_neg (Int.not_le.mpr hf), ha]
  dsimp only
  rw [reply_snap, raise_snap]

theorem whiskAnswer_of {m : FabMsg} {i : Nat} (ht : b.take 3 (fun m => m.bytes.length == 12) = some (m, b'))
    (hi : (b'.fab.whisks.findIdx? fun c => c.w == fld m.bytes 0 8 && decide (b'.now < c.dueAt)) = some i) (hst : fld m.bytes 8 2 = stOK) :
    b.whiskAnswer.fab.whisks = lupd b'.fab.whisks i fun c =>
      { c with armed := c.armed + 1, unsync := c.unsync + b2n (fld m.bytes 10 1 != 0) } := by
  unfold Block.whiskAnswer
  rw [ht]
  dsimp only
  rw [hi]
  simp only [hst, if_true]

end

/-- Settles O45: the arm of each frame under its condition. -/
theorem fabricFramesComplete : Obligations.FabricFramesComplete := by
  refine ⟨fun s h f y b i hi hin => ?_, fun s h f y b hin hb hm hd => congrArg s.done ?_,
    fun s h f y b c l n hin hb hm hd hp hh he => congrArg s.done ?_, fun s h f y b hin hb hm hd hp hh => congrArg s.done ?_,
    fun s h f y b hin hb hd => congrArg s.done ?_, fun s h f y b c hin hb hd hz hc hcz hp hh => congrArg s.done ?_,
    fun s => ⟨_, rfl, ?_⟩, fun s m f b ht hm => congrArg s.done ?_, fun s x r hx hn => congrArg s.done ?_,
    fun s x r c b hx hg hc hen hb => congrArg s.done ?_, fun s m b g c ht hl hg hlt hc hen hr hrg => congrArg s.done ?_,
    fun s => ⟨_, rfl, ?_⟩, fun s m b w ht hw hf ha => ⟨_, rfl, ?_⟩, fun s m b i c ht hi _ hst => ⟨_, rfl, ?_⟩, fun s => rfl⟩
  · rcases hi with rfl | rfl
    · refine congrArg s.done ?_
      rw [Block.fabUnicast, hin]; rfl
    · refine congrArg s.done ?_
      rw [Block.fabBroadcast, hin]; rfl
  · obtain ⟨z, hz, -⟩ := fabUnicast_of hin hb hm
    rw [hz, if_pos hd]
  · obtain ⟨z, hz, hroute⟩ := fabUnicast_of hin hb hm
    rw [hz, if_neg hd, hp, if_neg Bool.false_ne_true, if_neg (Nat.not_le.mpr hh), hroute l n c he]
  · obtain ⟨z, hz, -⟩ := fabUnicast_of hin hb hm
    rw [hz, if_neg hd, hp, if_neg Bool.false_ne_true, if_pos hh]
  · exact fabBroadcast_seen hin hb hd
  · exact fabBroadcast_new hin hb hd hz hc hcz hp hh
  · exact foldl_keeps (fun b : Block => b.fab.reasm) _ (fun _ _ => countFab_reasm ..) _ _
  · rw [Block.signalRx, ht]
    dsimp only
    rw [hm]
  · rw [twSend_of hx rfl, if_pos hn]
  · subst hc hb
    rw [twSend_of hx rfl, if_neg]
    rintro (h | h)
    · exact absurd hg (Nat.not_lt.mpr h)
    · exact Bool.false_ne_true (h.symm.trans hen)
  · subst hc
    exact twRx_of ht hl hg hlt hen hr hrg
  · exact foldl_keeps (fun b : Block => b.fab.unpaired) _ (fun b w => congrArg (·.unpaired) (raise_fab ..)) _ _
  · exact whiskRx_snap ht hw hf ha
  · exact whiskAnswer_of ht hi hst

end Sys2Proof.Machine
end

section
-- One declaration after another: the check compiles the whole text under a memory limit.
set_option Elab.async false
/-! SUPPORT. The update chain's messages and the fabric's sessions. -/

namespace Sys2Proof.Machine
open Sys2Proof

section
variable {b b' c : Block} {m : FabMsg}

/-! ### The chain -/

theorem chainData_of {ok : Bool} (ht : b.take 4 (fun m => m.seg) = some (m, b')) (hl : m.bytes.length = recSize) (hf : b'.flashBusy = false)
    (ha : (b'.nv.stg.asmCnt.filter fun x => !x.2.isEmpty).length < 64) (hst : b'.nv.stg.state = .staging) (hh : b'.nv.stg.held = false)
    (hn : b'.nv.nextIn < b'.nv.stg.hdr.nblocks) (hr : b'.takeRecord b'.nv.nextIn m.bytes (some m.src) = (ok, c)) :
    b.chainData = if ok then c else c.chainAck m.src stBADTAG := by
  have hbusy : (b'.flashBusy || decide (64 ≤ (b'.nv.stg.asmCnt.filter fun x => !x.2.isEmpty).length)) = false := by
    rw [hf, decide_eq_false (Nat.not_le.mpr ha), Bool.or_self]
  have hready : (b'.nv.stg.state != .staging || b'.nv.stg.held || decide (b'.nv.stg.hdr.nblocks ≤ b'.nv.nextIn)) = false := by
    rw [hst, hh, decide_eq_false (Nat.not_le.mpr hn)]; rfl
  unfold Block.chainData
  rw [ht]
  dsimp only
  rw [if_neg (not_not_intro hl), hbusy, if_neg Bool.false_ne_true, hready, if_neg Bool.false_ne_true, hr]

theorem chainAcked_ok {n : Nat} (ht : b.take 4 (fun m => !m.seg && fld m.bytes 0 1 == 1 && m.bytes.length == 8) = some (m, b'))
    (hon : b'.chainOn = true) (hsrc : m.src = b'.nv.chain.succ) (hst : fld m.bytes 1 2 = stOK) (hn : fld m.bytes 4 4 = n) :
    b.chainAcked = Block.chainGo { b' with nv := { b'.nv with chain := { b'.nv.chain with
      started := true, succNext := n, sendPos := n
      sends := b'.nv.chain.sends.filter fun x => decide (n ≤ x.1) && x.1 != startIx } } } := by
  subst hn
  have hgo : (!b'.chainOn || m.src != b'.nv.chain.succ) = false := by rw [hon, hsrc, bne_self_eq_false]; rfl
  have hbusy : (!b'.nv.chain.started && stOK == stBUSY) = false := by rw [Bool.and_eq_false_iff]; exact .inr (by decide)
  have hbad : (!b'.nv.chain.started && stOK != stOK) = false := by rw [bne_self_eq_false, Bool.and_false]
  have hne : ¬stOK = stBUSY := by decide
  unfold Block.chainAcked
  rw [ht]
  dsimp only
  rw [hgo, if_neg Bool.false_ne_true, hst, hbusy, if_neg Bool.false_ne_true, hbad, if_neg Bool.false_ne_true, if_neg hne, if_neg hne]

theorem chainResend_started (hon : b.chainOn = true) (hs : b.nv.chain.started = true) (hn : b.nv.chain.succNext < b.nv.stg.next)
    (ht : b.nv.chain.sentAt + 50 * msE ≤ b.now) :
    b.chainResend = Block.chainGo { b with nv := { b.nv with chain := { b.nv.chain with sendPos := b.nv.chain.succNext } } } := by
  unfold Block.chainResend
  dsimp only
  rw [hon, hs, if_pos rfl, decide_eq_true hn, decide_eq_false (Nat.not_lt.mpr ht)]
  rfl

theorem chainResend_start (hon : b.chainOn = true) (hs : b.nv.chain.started = false) (ht : b.nv.chain.sentAt + 50 * msE ≤ b.now) :
    b.chainResend = if 8 ≤ tget natD b.nv.chain.sends startIx then b.chainBreak else b.chainSend startIx := by
  unfold Block.chainResend
  dsimp only
  rw [hon, hs, if_neg Bool.false_ne_true, decide_eq_false (Nat.not_lt.mpr ht)]
  rfl

/-! ### The sessions -/

theorem sessOpen_of {a k lv : Nat} (ht : b.takeOp 0 = some (m, b')) (ha : b'.accessOf m.src = some a)
    (hk : (((List.range 128).map (· + 128)).find? fun c => (tget sessD b'.fab.sess c).isNone) = some k) (hm : b'.sys.mbxFab = true)
    (hlv : lv = min a (fld m.bytes 1 1)) :
    b.sessOpen = (Block.raise 406 k { b' with
      fab := { b'.fab with sess := tset sessD b'.fab.sess k (some { peer := m.src, level := lv, reqAt := b'.now }) }
      mbx := { b'.mbx with clients := tset clientD b'.mbx.clients k { auth := lv } } }).sessSend m.src 1 lv k (leBytes 2 stOK) := by
  subst hlv
  unfold Block.sessOpen
  rw [ht]
  dsimp only
  rw [ha]
  dsimp only
  rw [hk]
  dsimp only
  rw [hm]
  rfl

theorem sessRequest_of {k : Nat} {x : Sess} (ht : b.takeOp 2 = some (m, b')) (hk : fld m.bytes 2 1 = k)
    (hx : tget sessD b'.fab.sess k = some x) (hp : x.peer = m.src) (hl : 20 ≤ m.bytes.length) (hq : x.queue.length + b'.outstanding k < 8) :
    b.sessRequest = { b' with fab := { b'.fab with
      sess := tset sessD b'.fab.sess k (some { x with queue := x.queue ++ [leBytes 1 k ++ m.bytes.drop 5], reqAt := b'.now }) } } := by
  subst hk
  unfold Block.sessRequest
  rw [ht]
  dsimp only
  rw [hx]
  dsimp only
  rw [if_neg, if_neg (Nat.not_le.mpr hq)]
  rintro (h | h)
  · exact h hp
  · exact absurd hl (Nat.not_le.mpr h)

theorem sessResponse_of {x : Call} {mine : Call → Bool} (ht : b.takeOp 3 = some (m, b'))
    (hm : mine = fun c => c.sent && c.target == m.src && fld c.inner 4 4 == fld (m.bytes.drop 4) 4 4 && decide (b'.now < c.dueAt))
    (hx : b'.fab.calls.find? mine = some x) (hl : (m.bytes.drop 4).length ≤ 4096) :
    b.sessResponse = Block.answer x.req stOK b'.time.epoch (m.bytes.drop 4)
      { b' with fab := { b'.fab with calls := b'.fab.calls.eraseP mine } } := by
  subst hm
  unfold Block.sessResponse
  rw [ht]
  dsimp only
  rw [hx]
  dsimp only
  rw [if_pos hl]

theorem sessReply_of {cl : Nat} {x : Call} {mine : Call → Bool} (ht : b.takeOp 1 = some (m, b')) (hcl : fld m.bytes 2 1 = cl)
    (hx : (b'.fab.calls.find? fun c => c.target == m.src && !c.sent) = some x)
    (hm : mine = fun c => c.target == m.src && c.level == x.level && !c.sent) (hst : fld m.bytes 4 2 = stOK)
    (hc : c = { b' with fab := { b'.fab with
      outs := b'.fab.outs ++ [{ target := m.src, level := x.level, client := cl }]
      calls := b'.fab.calls.map fun c => if mine c then { c with sent := true } else c } }) :
    b.sessReply = (b'.fab.calls.filter mine).foldl (fun b c => b.callSend c cl) c := by
  subst hm hc hcl
  unfold Block.sessReply
  rw [ht]
  dsimp only
  rw [hx]
  dsimp only
  rw [if_pos hst]

theorem sessIdle_of {k : Nat} {x : Sess} (hx : tget sessD b.fab.sess k = some x) (hq : x.queue = []) (ho : b.outstanding k = 0)
    (ht : x.reqAt + 10 * secE ≤ b.now) : b.sessIdle k = (b.sessSend x.peer 4 0 k []).sessClose k := by
  unfold Block.sessIdle
  rw [hx]
  dsimp only
  rw [hq, ho, decide_eq_true ht]
  rfl

end

/-- Settles O46: the arm of each message under its condition. -/
theorem chainAndSessionMessagesComplete : Obligations.ChainAndSessionMessagesComplete := by
  refine ⟨fun s m b c st ht hb => congrArg s.done ?_, fun s m b c ok ht hl hf ha hst hh hn hr => congrArg s.done ?_,
    fun s m b n ht hon hsrc hst hn => congrArg s.done ?_, fun s hon hs hn ht => congrArg s.done ?_, fun s hon hs ht => congrArg s.done ?_,
    fun s m b a c lv ht ha hc hm hlv => congrArg s.done ?_, fun s m b ht ha => congrArg s.done ?_,
    fun s m b b2 c0 mine ht hx hm hst hb => congrArg s.done ?_, fun s m b c x ht hc hx hp hl hq => congrArg s.done ?_,
    fun s m b c mine ht hm hc hl => congrArg s.done ?_, fun s m b c x ht hc hx hp => congrArg s.done ?_,
    fun s c x hx hq ho ht => congrArg s.done ?_, fun s => rfl⟩
  · rw [Block.chainStart, ht]
    dsimp only
    rw [hb]
  · exact chainData_of ht hl hf ha hst hh hn hr
  · exact chainAcked_ok ht hon hsrc hst hn
  · exact chainResend_started hon hs hn ht
  · exact chainResend_start hon hs ht
  · exact sessOpen_of ht ha hc hm hlv
  · rw [Block.sessOpen, ht]
    dsimp only
    rw [ha]
  · exact sessReply_of ht rfl hx hm hst hb
  · exact sessRequest_of ht hc hx hp hl hq
  · exact sessResponse_of ht hm hc hl
  · subst hc
    rw [Block.sessCloseRx, ht]
    dsimp only
    rw [hx]
    dsimp only
    rw [if_pos hp]
  · exact sessIdle_of hx hq ho ht

end Sys2Proof.Machine
end

section
-- One declaration after another: the check compiles the whole text under a memory limit.
set_option Elab.async false
/-! SUPPORT. The host's link: doorbells, rings, PCIe, QSPI and the register writes. -/

namespace Sys2Proof.Machine
open Sys2Proof

section
variable {b b' : Block}

/-! ### What an event leaves of the mailbox -/

/-- The mailbox but for the pending sources and the vectors that an event signals. -/
def Block.mail (b : Block) : MbxSt := { b.mbx with srcPend := [], vec := [] }

theorem vecCause_mail (v : Nat) (b : Block) : (b.vecCause v).mail = b.mail := rfl

theorem notify_mail (n : Nat) (st : Stamp) (q : Option Int) (u : Nat) (b : Block) : (b.notify n st q u).mail = b.mail := rfl

theorem sieve_mail (n : Nat) (st : Stamp) (q : Option Int) (u : Nat) (b : Block) : (b.sieve n st q u).mail = b.mail := by
  unfold Block.sieve
  dsimp only
  split
  · exact notify_mail ..
  · rfl

theorem raiseAt_mail (n : Nat) (st : Stamp) (q : Option Int) (u : Nat) (b : Block) : (b.raiseAt n st q u).mail = b.mail := by
  unfold Block.raiseAt
  split
  · dsimp only
    rw [sieve_mail]
    cases q <;> rfl
  · rfl

theorem raise_mail (n : Nat) (q : Int) (b : Block) : (b.raise n q).mail = b.mail := raiseAt_mail ..

/-! ### Rings -/

theorem doorbell_of {c : Nat} {v : Word} (hp : b.lands.porst = false) (hc : c < 128) (hr : (tget clientD b.mbx.clients c).rstBusy = false) :
    b.doorbell c v = if bitOf v.toNat 31 then b.ringRst c
      else b.updClient c fun x => { x with reqProd := bits v.toNat 12 0, rspCons := bits v.toNat 28 16 } := by
  have hgo : (b.lands.porst || (tget clientD b.mbx.clients c).rstBusy || decide (128 ≤ c)) = false := by
    rw [hp, hr, decide_eq_false (Nat.not_le.mpr hc)]; rfl
  rw [Block.doorbell, hgo, if_neg Bool.false_ne_true]

theorem ringReset_pairs (c : Nat) (b : Block) : (b.ringReset c).lgc.pairs = b.lgc.pairs := rfl

/-- The block whose rings are all in reset. -/
def Block.ringsReset (n : Nat) (b : Block) : Block := (List.range n).foldl (fun b c => b.ringReset c) b

theorem ringsReset_outside (n : Nat) (b : Block) : (b.ringsReset n).outside [.mbx, .acc, .lgc, .fab, .snap] =
    b.outside [.mbx, .acc, .lgc, .fab, .snap] :=
  foldl_keeps (fun b : Block => b.outside [.mbx, .acc, .lgc, .fab, .snap]) _ (fun b c => ringReset_outside c b (by simp)) _ _

theorem ringsReset_pairs (n : Nat) (b : Block) : (b.ringsReset n).lgc.pairs = b.lgc.pairs :=
  foldl_keeps (fun b : Block => b.lgc.pairs) _ (fun b c => ringReset_pairs c b) _ _

/-- PERST resets the rings, the vectors and bus mastering, and no more (R436, R448). -/
theorem perst_fields (hp : b.lands.porst = false) (hh : b.sys.hostSel = false) :
    b.perst.mbx.bme = false ∧ b.perst.mbx.msix = msixReset ∧ b.perst.sys = b.sys ∧ b.perst.time = b.time ∧ b.perst.lgc.pairs = b.lgc.pairs := by
  have hon : (!b.pcieOn) = false := by rw [Block.pcieOn, hp, hh]; rfl
  have hout := ringsReset_outside 128 b
  have hpairs := ringsReset_pairs 128 b
  have heq : b.perst = Block.raise 427 0 { b.ringsReset 128 with
      mbx := { (b.ringsReset 128).mbx with vec := [], msix := msixReset, bme := false } } := by
    rw [Block.perst, hon, if_neg Bool.false_ne_true, Block.ringsReset]
  generalize b.ringsReset 128 = c at hout hpairs heq
  have hsys : c.sys = b.sys := sys_of_outside hout
  have htime : c.time = b.time := time_of_outside hout
  have hm := raise_mail 427 0 { c with mbx := { c.mbx with vec := [], msix := msixReset, bme := false } }
  rw [heq]
  refine ⟨congrArg MbxSt.bme hm, congrArg MbxSt.msix hm, ?_, ?_, ?_⟩
  · rw [raise_sys]; exact hsys
  · rw [raise_time]; exact htime
  · rw [raise_lgc]; exact hpairs

theorem ringRoom_of {c : Nat} {y : Client} {l : List Rsp} (hs : (tget clientD b.mbx.clients c).stall = true)
    (hr : (tget clientD b.mbx.clients c).rstBusy = false)
    (hu : (tget clientD b.mbx.clients c).unstall (tget clientD b.mbx.clients c).waiting = (y, l)) :
    b.ringRoom c = l.foldl (fun b r => if bitOf r.flags.toNat 1 then b else b.vecCause (16 + c % 16)) (b.updClient c fun _ => y) := by
  have hgo : (!(tget clientD b.mbx.clients c).stall || (tget clientD b.mbx.clients c).rstBusy) = false := by rw [hs, hr]; rfl
  unfold Block.ringRoom
  dsimp only
  rw [hgo, if_neg Bool.false_ne_true, hu]

theorem requestAccept_of {c f : Nat} {d : List Nat} (hr : b.sys.mbxRoot = true) (hsp : b.spUp = true) (hf : b.mbx.ringsFrom ≤ b.now)
    (hn : b.nextClient = some (c, d, f)) :
    b.requestAccept = Block.takeReq 2 c { b with mbx := { b.mbx with passDone := d, passFrom := f } } := by
  have hgo : (!b.sys.mbxRoot || !b.spUp || decide (b.now < b.mbx.ringsFrom)) = false := by
    rw [hr, hsp, decide_eq_false (Nat.not_lt.mpr hf)]; rfl
  rw [Block.requestAccept, hgo, if_neg Bool.false_ne_true, hn]

/-! ### QSPI -/

theorem accessError_fields (hp : b.lands.porst = false) :
    b.accessError.mbx.rdData = zeros 4 ∧ b.accessError.mbx.qspiErr = (b.mbx.qspiErr || b.sys.hostSel) := by
  rw [Block.accessError, hp, if_neg Bool.false_ne_true]
  have hm := raise_mail 428 (b2n b.sys.hostSel : Nat)
    { b with mbx := { b.mbx with rdData := zeros 4, qspiErr := b.mbx.qspiErr || b.sys.hostSel } }
  exact ⟨congrArg MbxSt.rdData hm, congrArg MbxSt.qspiErr hm⟩

theorem qspiOn_of (hp : b.lands.porst = false) (hh : b.sys.hostSel = true) : (!b.qspiOn) = false := by rw [Block.qspiOn, hp, hh]; rfl

theorem qspiRead_of {a n : Nat} {cut : Bool} {l : List Byte} (hp : b.lands.porst = false) (hh : b.sys.hostSel = true) (ha : qspiAddrOk a = true)
    (hx : b.readWords (bitOf a 23) (a % 2 ^ 23) n = (b', l)) :
    b.qspiRead a n cut = if cut then { b'.accessError with mbx := { b'.accessError.mbx with rdData := l } }
      else { b' with mbx := { b'.mbx with rdData := l } } := by
  unfold Block.qspiRead
  rw [qspiOn_of hp hh, if_neg Bool.false_ne_true, ha, if_neg (by decide), hx]
  cases cut <;> rfl

theorem qspiWrite_of {a : Nat} {l : List Word} {cut : Bool} (hp : b.lands.porst = false) (hh : b.sys.hostSel = true) (ha : qspiAddrOk a = true)
    (hx : b.writeWords (bitOf a 23) (a % 2 ^ 23) l = b') : b.qspiWrite a l cut = if cut then b'.accessError else b' := by
  unfold Block.qspiWrite
  rw [qspiOn_of hp hh, if_neg Bool.false_ne_true, ha, if_neg (by decide), hx]

theorem regWrite_of {sp : RegSpace} {o : Nat} {v : Word} (hp : b.lands.porst = false) : b.regWrite sp o v = match sp with
    | .bar0 => b.bar0Write o v
    | .bar2 => b.bar2Write o (leBytes 4 v.toNat)
    | .tim => if o < timSize then b.timWrite o v else b
    | .fld => if o < fldSize then b.fldWrite o v else b
    | .pci => if b.sys.hostSel then b else { b with mbx := { b.mbx with bme := bitOf v.toNat 2 } } := by
  unfold Block.regWrite
  rw [hp, if_neg Bool.false_ne_true] <;> cases sp <;> rfl

end

/-- Settles O47: the arm of each command under its condition. -/
theorem hostLinkCommandsComplete : Obligations.HostLinkCommandsComplete := by
  refine ⟨fun s c v hp hc hr => congrArg s.done ?_, fun s c hp hc hr => congrArg s.done ?_, fun s c hr => congrArg s.done ?_,
    fun s hp hh => ⟨_, rfl, ?_⟩, fun s u v w hp hh => congrArg s.done ?_, fun s c d f hr hsp hf hn => congrArg s.done ?_,
    fun s c x y l hx hs hr hu => congrArg s.done ?_, fun s v x hx hh hp => ⟨_, rfl, ?_⟩, fun s hp => ⟨_, rfl, ?_⟩,
    fun s a n cut b l hp hh ha hx => congrArg s.done ?_, fun s a l cut b hp hh ha hx => congrArg s.done ?_,
    fun s a n l cut i hi hp hh ha => ?_, fun s hp hh => ⟨_, rfl, ?_⟩, fun s o => rfl, fun s o v hp => congrArg s.done ?_,
    fun s o v hp => congrArg s.done ?_, fun s o v hp => congrArg s.done ?_, fun s o v hp => congrArg s.done ?_,
    fun s o v hp => congrArg s.done ?_⟩
  · exact doorbell_of hp hc hr
  · exact (doorbell_of hp hc hr).trans (if_pos (by decide))
  · rw [Block.ringDone, if_pos hr]
  · exact perst_fields hp hh
  · have hon : (!s.blk.pcieOn) = false := by rw [Block.pcieOn, hp, hh]; rfl
    rw [Block.linkState, hon, if_neg Bool.false_ne_true]
  · exact requestAccept_of hr hsp hf hn
  · subst hx
    exact ringRoom_of hs hr hu
  · subst hx
    have hgo : ((tget vecD s.blk.mbx.vec v).held && (tget vecD s.blk.mbx.vec v).pend) = true := by rw [hh, hp]; rfl
    simp only [Block.vecSignal, tupd, hgo, if_true]
  · exact accessError_fields hp
  · exact qspiRead_of hp hh ha hx
  · exact qspiWrite_of hp hh ha hx
  · rcases hi with rfl | rfl
    · refine congrArg s.done ?_
      rw [Block.qspiRead, qspiOn_of hp hh, if_neg Bool.false_ne_true, ha, if_pos (by decide)]
    · refine congrArg s.done ?_
      rw [Block.qspiWrite, qspiOn_of hp hh, if_neg Bool.false_ne_true, ha, if_pos (by decide)]
  · simp only [Block.qspiStatus, qspiOn_of hp hh, Bool.false_eq_true, if_false, and_self]
  · exact regWrite_of hp
  · exact regWrite_of hp
  · exact regWrite_of hp
  · exact regWrite_of hp
  · exact regWrite_of hp

end Sys2Proof.Machine
end

section
-- One declaration after another: the check compiles the whole text under a memory limit.
set_option Elab.async false
/-! SUPPORT. The whisk's control register, its comparison, the snapshot's end and the debug access. -/

namespace Sys2Proof.Machine
open Sys2Proof

section
variable {b b' : Block} {v : Word}

/-- The block with the pin enables of a word written to WHISK_CTRL. -/
def Block.whiskPins (v : Word) (b : Block) : Block := { b with snap := { b.snap with pinEn := bitOf v.toNat 2, outEn := bitOf v.toNat 3 } }

theorem whiskCtrl_unarmed (h1 : bitOf v.toNat 1 = false) :
    b.whiskCtrl v = (if bitOf v.toNat 0 then (b.whiskPins v).whisk 0 false else b.whiskPins v).disarm := by
  unfold Block.whiskCtrl
  dsimp only
  rw [h1, Bool.not_false, if_pos rfl]
  rfl

theorem whiskCtrl_armed (h0 : bitOf v.toNat 0 = false) (h1 : bitOf v.toNat 1 = true) (hb : b' = b.whiskPins v) :
    b.whiskCtrl v = if b.snap.arm.isSome then b' else { b' with snap := { b'.snap with
      arm := some { at_ := b.snap.atLo.toNat + 2 ^ 32 * b.snap.atHi.toNat, source := 2, armedAt := b.ns64 } } } := by
  subst hb
  unfold Block.whiskCtrl
  dsimp only
  rw [h0, h1, if_neg Bool.false_ne_true, Bool.not_true, if_neg Bool.false_ne_true]
  split
  · next x hx =>
    have hx : b.snap.arm = some x := hx
    rw [if_pos (by rw [hx]; rfl), Block.whiskPins]
  · next hx =>
    have hx : b.snap.arm = none := hx
    rw [if_neg (by rw [hx]; decide)]
    rfl

theorem whiskFire_of {a : WArm} (ha : b.snap.arm = some a) (ht : 0 ≤ dist64 b.ns64 a.at_)
    (hb : b' = Block.whisk a.source (decide (1000 ≤ dist64 a.at_ a.armedAt)) { b with snap := { b.snap with arm := none } }) :
    b.whiskFire = match a.req with | some r => b'.fireAnswer r | none => b' := by
  subst hb
  unfold Block.whiskFire
  rw [ha]
  dsimp only
  rw [if_neg (Int.not_lt.mpr ht)] <;> rfl

theorem snapComplete_of (hs : b.snap.state = .latching) (hr : b.snap.accHeld = true ∧ b.snap.elmHeld = true ∨
    b.snap.hdr.elapsed + 40000 ≤ b.nowNs) :
    b.snapComplete = Block.snapServe b.snap.waits { b with snap := { b.snap with state := .held, waits := [] } } := by
  have hready : (b.snap.state == .latching && (b.snap.accHeld && b.snap.elmHeld || decide (b.snap.hdr.elapsed + 40000 ≤ b.nowNs))) = true := by
    rw [hs]
    rcases hr with ⟨h1, h2⟩ | h
    · rw [h1, h2]; rfl
    · rw [decide_eq_true h, Bool.or_true]; rfl
  unfold Block.snapComplete
  dsimp only
  rw [hready, if_pos rfl]

end

/-- Settles O48: the arm of each write and access under its condition. -/
theorem whiskAndDebugAccessComplete : Obligations.WhiskAndDebugAccessComplete := by
  refine ⟨fun s v b hb h0 h1 => congrArg s.done ?_, fun s v b hb h0 h1 => congrArg s.done ?_, fun s v h0 h1 => congrArg s.done ?_,
    fun s h => congrArg s.done ?_, fun s a b ha ht hb => congrArg s.done ?_, fun s hs hr => congrArg s.done ?_,
    fun s t ht hn => congrArg s.done ?_, fun s a w b v hl ht => congrArg s.done ?_, fun s a w hl ht => congrArg s.done ?_,
    fun s a w hl => congrArg s.done ?_, fun s a w x hl => congrArg s.done ?_⟩
  · rw [h0, if_pos rfl, whiskCtrl_unarmed h1, h0, if_pos rfl, hb, Block.whiskPins]
  · rw [h1, if_pos rfl]
    exact whiskCtrl_armed h0 h1 hb
  · rw [h1, if_neg Bool.false_ne_true, whiskCtrl_unarmed h1, h0, if_neg Bool.false_ne_true, Block.whiskPins]
  · rw [Block.whiskPin, if_pos h]
  · exact whiskFire_of ha ht hb
  · exact snapComplete_of hs hr
  · rw [Block.whiskOutEnd, ht]
    dsimp only
    rw [if_pos hn]
  · rw [Block.dbgAccess, if_neg hl, if_neg Bool.false_ne_true, ht]
  · rw [Block.dbgAccess, if_neg hl, if_neg Bool.false_ne_true, ht]
    rfl
  · rw [Block.dbgAccess, if_neg hl, if_pos rfl]
  · rw [Block.dbgAccess, if_pos hl]
    rfl

end Sys2Proof.Machine
end

section
-- One declaration after another: the check compiles the whole text under a memory limit.
set_option Elab.async false
/-! SUPPORT. The `sys.` commands; a request that is called is carried out. -/

namespace Sys2Proof.Machine
open Sys2Proof

section
variable {b b' : Block} {cmd : Nat} {r : Req} {f : Block → Block}

/-! ### A request that is called -/

theorem onOp_of {mine : Bool} (hm : mine = true) (h : Called cmd r b) : b.onOp cmd r mine f = f b := by
  rw [Block.onOp, if_pos hm, onReq_called h]

theorem op_is {n k : Nat} (h : n = k) : (n == k) = true := beq_iff_eq.mpr h

theorem op_read {n k : Nat} (h : n = 0) : (n == 0 || decide (k < n)) = true := by rw [h]; rfl

/-! ### Arming and the clients -/

/-- The fields of a `sys.client` are out of range (R440). -/
def badClient (p : List Byte) : Prop :=
  (fld p 1 1 ≠ 0 ∧ fld p 1 1 ≠ 2) ∨ fld p 0 1 = 0 ∨ 127 < fld p 0 1 ∨ 3 < fld p 2 1 ∨ 1 < fld p 3 1

theorem sysClient_bad (h : Called 0x0102 r b) (hb : badClient r.payload) : sysClient r b = b.status r stBADARG := by
  rw [sysClient, onReq_called h]
  exact if_pos hb

theorem sysClient_good (h : Called 0x0102 r b) (hb : ¬badClient r.payload) : sysClient r b = if fld r.payload 1 1 = 2 then
    b.ok r ((List.range 128).map fun c => BitVec.ofNat 8 ((tget clientD b.mbx.clients c).auth + 4 * b2n (tget clientD b.mbx.clients c).disabled))
    else b.journal false 0x0102 r := by
  rw [sysClient, onReq_called h]
  exact if_neg hb

/-- The slots that a `sys.arm` names and that are not armed yet. -/
def Block.unarmed (b : Block) (m : Nat) : List Nat := (bitList m 8).filter fun k => !(b.slot k).free

theorem sysArm_of {todo run : List Nat} (h : Called 0x0103 r b) (hm : fld r.payload 0 2 ≤ 255) (hf : fld r.payload 2 2 ≤ 1)
    (ht : todo = b.unarmed (fld r.payload 0 2)) (hr : run = todo.filter fun k => (b.slot k).running)
    (hb : b' = run.foldl (fun (b : Block) k => b.putSlot k { b.slot k with armCmd := true }) b) :
    sysArm r b = if fld r.payload 2 2 = 0 ∧ ∃ k ∈ todo, (b.slot k).armOk = none then b.status r stNOTREADY
      else (b'.raiseIf (fld r.payload 2 2 == 1) 491 (fld r.payload 0 2)).answer r stOK
        (run.foldl (fun e k => max e (b.slot k).boundary) b.time.epoch) [] := by
  subst hb hr ht
  rw [sysArm, onReq_called h]
  dsimp only
  rw [if_neg (by omega)]
  refine ite_congr ?_ (fun _ => rfl) fun _ => rfl
  simp only [Bool.and_eq_true, decide_eq_true_eq, List.any_eq_true, Option.isNone_iff_eq_none, Block.unarmed]

/-! ### The backstop's set -/

theorem bstopCommit_of {g h : List Byte} {n : Nat} (hc : Called 0x0105 r b) (ho : fld r.payload 0 1 = 2) (hcl : r.client < 128)
    (ha : bstopArgs r.payload = true) (hs : b.bs.staged = true) (hg : g = memRead b.bs.stage 0 4096) (hw : fld g 4092 4 = fld r.payload 4 4)
    (hn : b.bs.commit = none) (hf : b.flashBusy = false) (hgen : n = match b.bs.img with | some i => bsGen i + 1 | none => 1)
    (hh : h = leBytes 4 n ++ (g.drop 4).take 4088) :
    bstopCommit r b = Block.order (.backstop 1) { b with bs := { b.bs with commit := some (r, h ++ leBytes 4 (crc32 h)) } } := by
  have hbad : (!bstopArgs r.payload || !b.bs.staged || fld g 4092 4 != fld r.payload 4 4) = false := by rw [ha, hs, hw, bne_self_eq_false]; rfl
  have hbusy : (b.bs.commit.isSome || b.flashBusy) = false := by rw [hn, hf]; rfl
  subst hh hgen
  rw [bstopCommit, onOp_of (op_is ho) hc, ← hg, if_neg (Nat.not_le.mpr hcl), hbad, if_neg Bool.false_ne_true, hbusy, if_neg Bool.false_ne_true] <;> rfl

theorem bstopEffect_of {t : Nat} {g : List Byte} (hl : b.bs.load = some (t, g)) (ht : t ≤ b.time.epoch) :
    bstopEffect b = (Block.bsLoad g { b with bs := { b.bs with load := none, commit := none }, nv := { b.nv with bsCut := false } }).raise
      321 (bsGen g) := by
  unfold bstopEffect
  rw [hl]
  dsimp only
  rw [if_pos ht]

/-! ### The ladle -/

theorem ladleDone_of {c q : Nat} {d : List Byte} {l : Ladle} (hl : b.ladleOf c q = some l) (ha : l.active = true)
    (hd : (l.write && l.host != 0) = true → d.length = l.length) :
    b.ladleDone c q d = b.ladleEnd l stOK (if l.write && l.host != 0 then d else l.data) := by
  have hgo : (!l.active || (l.write && l.host != 0 && d.length != l.length)) = false := by
    rw [ha]
    cases hw : (l.write && l.host != 0)
    · rfl
    · rw [hd hw, bne_self_eq_false]; rfl
  unfold Block.ladleDone
  rw [hl]
  dsimp only
  rw [hgo, if_neg Bool.false_ne_true]

theorem ladleBus_of {c q : Nat} {m : List Byte} {l : Ladle} (hl : b.ladleOf c q = some l) (ha : l.active = true) (hh : l.host ≠ 0) :
    b.ladleBus c q m = (b.ladleEnd l stLINKERR (l.moved m)).raise 432 l.obj := by
  have hgo : (!l.active || l.host == 0) = false := by rw [ha, beq_eq_false_iff_ne.mpr hh]; rfl
  unfold Block.ladleBus
  rw [hl]
  dsimp only
  rw [hgo, if_neg Bool.false_ne_true]

end

/-- Settles O49: the arm of each command under its condition. -/
theorem sysCommandsComplete : Obligations.SysCommandsComplete := by
  refine ⟨fun s r h => congrArg s.done ?_, fun s r h h1 h2 h3 h4 h5 => congrArg s.done ?_, fun s r h hb => congrArg s.done ?_,
    fun s r todo run b h hm hf ht hr hok hb => congrArg s.done ?_, fun s r k h hm hf hk hfree hok => congrArg s.done ?_,
    fun s r h => congrArg s.done ?_, fun s r h ho ha => congrArg s.done ?_, fun s r h ho ha => congrArg s.done ?_,
    fun s r g x n h ho hcl ha hs hg hw hn hf hgen hx => congrArg s.done ?_, fun s r h ho hcl => congrArg s.done ?_,
    fun s r h ho ha => congrArg s.done ?_, fun s r i hi h ha => ?_, fun s t g hl ht => congrArg s.done ?_,
    fun s r w i hi h => ?_, fun s r m l h ho hz hlen hl => congrArg s.done ?_, fun s r m h ho hl => congrArg s.done ?_,
    fun s c q d l hl ha hw => congrArg s.done ?_, fun s c q d l hl ha hw hh hd => congrArg s.done ?_,
    fun s c q m l hl ha hh => congrArg s.done ?_, fun s r h => congrArg s.done ?_⟩
  · rw [sysInfo, onReq_called h]
  · exact sysClient_good h (by unfold badClient; omega)
  · exact sysClient_bad h hb
  · rw [sysArm_of h hm hf ht hr hb, if_neg, Block.raiseIf]
    · exact congrArg (Block.answer r stOK _ []) (ite_congr (propext beq_iff_eq) (fun _ => rfl) fun _ => rfl)
    · rintro ⟨h0, k, hk, hnone⟩
      rcases hok with h1 | hall
      · omega
      · have := hall k hk
        rw [hnone] at this
        cases this
  · rw [sysArm_of h hm (by omega) rfl rfl rfl, if_pos ⟨hf, k, List.mem_filter.mpr ⟨hk, by rw [hfree]; rfl⟩, hok⟩]
  · rw [sysShutdown, onReq_called h]
  · rw [bstopRead, onOp_of (op_read ho) h, if_neg (by rw [ho, ha]; decide)] <;> rfl
  · rw [bstopStage, onOp_of (op_is ho) h]
    dsimp only
    refine (if_neg (by rw [ha]; decide)).trans ?_
    generalize bsInvalid s.blk.pcf (memRead s.blk.bs.stage 0 4096) = verdict
    cases verdict <;> rfl
  · exact bstopCommit_of h ho hcl ha hs hg hw hn hf hgen hx
  · rw [bstopCommit, onOp_of (op_is ho) h]
    dsimp only
    rw [if_pos hcl]
  · rw [bstopState, onOp_of (op_is ho) h]
    rw [if_pos ha]
  · rcases hi with ⟨ho, rfl⟩ | ⟨ho, rfl⟩ | ⟨ho, rfl⟩
    · refine congrArg s.done ?_
      rw [bstopRead, onOp_of (op_read ho) h]
      rw [ha, if_pos (.inr rfl)]
    · refine congrArg s.done ?_
      rw [bstopStage, onOp_of (op_is ho) h]
      dsimp only
      rw [ha, if_pos (by rfl)]
    · refine congrArg s.done ?_
      rw [bstopState, onOp_of (op_is ho) h]
      rw [ha, if_neg Bool.false_ne_true]
  · exact congrArg Block.distObserve (bstopEffect_of hl ht)
  · rcases hi with ⟨ho, rfl, rfl⟩ | ⟨ho, rfl, rfl⟩
    · refine congrArg s.done ?_
      rw [sysLadleRead, onOp_of (op_read ho) h]
      dsimp only
      rw [if_neg (by omega), ladleTake] <;> rfl
    · refine congrArg s.done ?_
      rw [sysLadleWrite, onOp_of (op_is ho) h, ladleTake] <;> rfl
  · rw [sysLadleAbort, onOp_of (op_is ho) h]
    rw [hl]
    dsimp only
    rw [if_neg (by rw [hz, hlen]; simp)]
  · rw [sysLadleAbort, onOp_of (op_is ho) h]
    rw [hl]
  · have hno : (l.write && l.host != 0) = false := by
      rcases hw with hw | hw
      · rw [hw]; rfl
      · rw [hw, bne_self_eq_false, Bool.and_false]
    rw [ladleDone_of hl ha fun he => absurd (hno.symm.trans he) Bool.false_ne_true, hno, if_neg Bool.false_ne_true]
  · have hyes : (l.write && l.host != 0) = true := by rw [hw, bne_iff_ne.mpr hh]; rfl
    rw [ladleDone_of hl ha fun _ => hd, hyes, if_pos rfl]
  · exact ladleBus_of hl ha hh
  · rw [sysNop, onReq_called h]

end Sys2Proof.Machine
end

section
-- One declaration after another: the check compiles the whole text under a memory limit.
set_option Elab.async false
/-! SUPPORT. The `cnv.` commands. -/

namespace Sys2Proof.Machine
open Sys2Proof

section
variable {b b' : Block} {r : Req}

/-- A choice between two outcomes by an equivalent condition. -/
theorem ite_iff {α : Type} {p q : Prop} [Decidable p] [Decidable q] (x y : α) (h : p ↔ q) : (if p then x else y) = if q then x else y :=
  ite_congr (propext h) (fun _ => rfl) fun _ => rfl

/-- A read is the arm of its request's RD flag. -/
theorem rd_read {α : Type} (x y : α) (h : r.rd = true) : (if r.rd = true then x else y) = x := if_pos h

theorem rd_write {α : Type} (x y : α) (h : r.rd = false) : (if r.rd = true then x else y) = y := if_neg (by rw [h]; exact Bool.false_ne_true)

theorem cnvSeq_write {p : Nat} {ss : List (Nat × List Nat)} (h : Called 0x0202 r b) (hrd : r.rd = false) (hp : fld r.payload 0 2 = p)
    (h2 : fld r.payload 2 2 = 0) (h4 : fld r.payload 4 4 < 2 ^ 20) (h16 : 16 ≤ p) (h368 : p ≤ 368) (hss : seqsOf r.payload = ss)
    (hlen : r.payload.length = 8 + 64 * ss.length) (hacc : p = b.cnv.pAcc ∨ ss.length = 20) (hok : ∀ x, x ∈ ss → b.seqOk p x.1 x.2 = true) :
    cnvSeq r b = if b.flashBusy then b.status r stBUSY else Block.journal true 0x0202 r { b with cnv := { b.cnv with pAcc := p } } := by
  subst hp
  have hgood : (fld r.payload 2 2 == 0 && decide (fld r.payload 4 4 < 2 ^ 20) && decide (16 ≤ fld r.payload 0 2 ∧ fld r.payload 0 2 ≤ 368) &&
      r.payload.length == 8 + 64 * ss.length && (fld r.payload 0 2 == b.cnv.pAcc || ss.length == 20) &&
      ss.all fun x => b.seqOk (fld r.payload 0 2) x.1 x.2) = true := by
    simp only [Bool.and_eq_true, Bool.or_eq_true, beq_iff_eq, decide_eq_true_eq, List.all_eq_true]
    exact ⟨⟨⟨⟨⟨h2, h4⟩, h16, h368⟩, hlen⟩, hacc⟩, hok⟩
  rw [cnvSeq, onReq_called h, rd_write _ _ hrd]
  dsimp only
  rw [hss, hgood, Bool.not_true, if_neg Bool.false_ne_true]

theorem cnvUrgent_of {k : Nat} {p : Path} {c : Conv} (h : Called 0x0203 r b) (h63 : fld r.payload 0 1 ≤ 63) (hk : bits (fld r.payload 0 1) 4 0 = k)
    (hk20 : k < 20) (hp : p = if bitOf (fld r.payload 0 1) 5 then .b else .a) (h1 : fld r.payload 1 1 ≤ 1) (h2 : fld r.payload 2 2 = 0)
    (hu : urgentOk (fld r.payload 4 4) = true) (hc : tget convD b.cnv.convs (cix p k) = c) :
    cnvUrgent r b = if 4 ≤ c.queue.length then b.status r stBUSY
      else b.putConv (cix p k) { c with queue := c.queue ++ [{ entry := fld r.payload 4 4, by_ := some r }] } := by
  subst hk hp hc
  have hgood : (decide (19 < bits (fld r.payload 0 1) 4 0) || decide (63 < fld r.payload 0 1) || decide (1 < fld r.payload 1 1) ||
      fld r.payload 2 2 != 0 || !urgentOk (fld r.payload 4 4)) = false := by
    rw [decide_eq_false (by omega), decide_eq_false (by omega), decide_eq_false (by omega), h2, hu]; rfl
  rw [cnvUrgent, onReq_called h]
  dsimp only
  rw [hgood, if_neg Bool.false_ne_true]

theorem cnvTwinTest_of {k : Nat} (h : Called 0x0206 r b) (ho : fld r.payload 0 1 = 1) (hk : fld r.payload 1 1 = k) (hk20 : k < 20)
    (h2 : fld r.payload 2 2 = 0) : cnvTwinTest r b = if (b.twin k).busy then b.status r stBUSY
      else b.putTwin k { b.twin k with want := some (.test r) } := by
  subst hk
  have hgood : (fld r.payload 0 1 != 1 || decide (19 < fld r.payload 1 1) || fld r.payload 2 2 != 0) = false := by
    rw [ho, decide_eq_false (by omega), h2]; rfl
  rw [cnvTwinTest, onOp_of (op_is ho) h]
  dsimp only
  rw [hgood, if_neg Bool.false_ne_true]

/-- The part of twin k on path p is removed or has been told away, so that it may return (R122). -/
def Block.mayReturn (b : Block) (k : Nat) (pn : Nat) : Prop :=
  pn = 0 ∧ ((b.twin k).removedA = true ∨ (b.twin k).bufA ≠ []) ∨ pn = 1 ∧ ((b.twin k).removedB = true ∨ (b.twin k).bufB ≠ [])

theorem cnvTwinReturn_of {k : Nat} (h : Called 0x0206 r b) (ho : fld r.payload 0 1 = 2) (hk : fld r.payload 1 1 = k) (hk20 : k < 20)
    (hm : b.mayReturn k (fld r.payload 2 1)) (h3 : fld r.payload 3 1 = 0) :
    cnvTwinReturn r b = if (b.twin k).busy then b.status r stBUSY
      else b.putTwin k { b.twin k with want := some (.ret r (if fld r.payload 2 1 = 0 then .a else .b)) } := by
  subst hk
  have hpn : fld r.payload 2 1 ≤ 1 := by
    rcases hm with ⟨hp, -⟩ | ⟨hp, -⟩ <;> omega
  have hgood : (fld r.payload 0 1 != 2 || decide (19 < fld r.payload 1 1) || decide (1 < fld r.payload 2 1) || fld r.payload 3 1 != 0) = false := by
    rw [ho, decide_eq_false (by omega), decide_eq_false (by omega), h3]; rfl
  have hnone : (if fld r.payload 2 1 = 0 then !(b.twin (fld r.payload 1 1)).removedA && (b.twin (fld r.payload 1 1)).bufA.isEmpty
      else !(b.twin (fld r.payload 1 1)).removedB && (b.twin (fld r.payload 1 1)).bufB.isEmpty) = false := by
    rcases hm with ⟨hp, hr⟩ | ⟨hp, hr⟩
    · rw [if_pos hp]
      rcases hr with hr | hr
      · rw [hr]; rfl
      · rw [List.isEmpty_eq_false_iff.mpr hr, Bool.and_false]
    · rw [if_neg (by omega)]
      rcases hr with hr | hr
      · rw [hr]; rfl
      · rw [List.isEmpty_eq_false_iff.mpr hr, Bool.and_false]
  rw [cnvTwinReturn, onOp_of (op_is ho) h]
  dsimp only
  rw [hgood, if_neg Bool.false_ne_true, hnone, if_neg Bool.false_ne_true]

end

/-- Settles O50: the arm of each command under its condition. -/
theorem cnvCommandsComplete : Obligations.CnvCommandsComplete := by
  refine ⟨fun s r f n h hrd hf hn => congrArg s.done ?_, fun s r h hrd => congrArg s.done ?_, fun s => rfl,
    fun s r h hrd => congrArg s.done ?_, fun s r p ss h hrd hp h2 h4 h16 h368 hss hlen hacc hok => congrArg s.done ?_,
    fun s b hb => congrArg s.done ?_, fun s r k p c h h63 hk hk20 hp h1 h2 hu hc => congrArg s.done ?_,
    fun s r h hrd => congrArg s.done ?_, fun s r h hrd => congrArg s.done ?_, fun s => rfl, fun s r h hrd => congrArg s.done ?_,
    fun s r rs h hrd hrs => congrArg s.done ?_, fun s => rfl, fun s r h ho => congrArg s.done ?_,
    fun s r k h ho hk hk20 h2 => congrArg s.done ?_, fun s r k p h ho hk hk20 hm h3 => congrArg s.done ?_⟩
  · rw [cnvInput, onReq_called h, rd_read _ _ hrd, hf, hn]
    exact ite_iff _ _ (by simp only [Bool.or_eq_true, decide_eq_true_eq, bne_iff_ne, ne_eq, or_assoc])
  · rw [cnvInput, onReq_called h, rd_write _ _ hrd]
  · rw [cnvSeq, onReq_called h, rd_read _ _ hrd]
  · exact cnvSeq_write h hrd hp h2 h4 h16 h368 hss hlen hacc hok
  · rw [Block.seqObserve, hb, sequenceSetEffect]
  · exact cnvUrgent_of h h63 hk hk20 hp h1 h2 hu hc
  · rw [cnvHouse, onReq_called h, rd_read _ _ hrd]
  · rw [cnvHouse, onReq_called h, rd_write _ _ hrd]
    exact ite_iff _ _ (by simp only [Bool.or_eq_true, Bool.and_eq_true, decide_eq_true_eq])
  · rw [cnvPlaus, onReq_called h, rd_read _ _ hrd]
  · rw [cnvPlaus, onReq_called h, rd_write _ _ hrd]
    dsimp only
    rw [hrs]
    exact ite_iff _ _ (by simp only [Bool.and_eq_true, decide_eq_true_eq, beq_iff_eq, and_assoc])
  · rw [cnvTwinRead, onOp_of (op_read ho) h, ho, bne_self_eq_false, Bool.false_or]
    by_cases h1 : fld r.payload 1 3 = 0
    · rw [if_pos h1, h1, bne_self_eq_false, if_neg Bool.false_ne_true]
    · rw [if_neg h1, if_pos (bne_iff_ne.mpr h1)]
  · exact cnvTwinTest_of h ho hk hk20 h2
  · have hp : p = if fld r.payload 2 1 = 0 then .a else .b := by
      rcases hm with ⟨h2, hp, -⟩ | ⟨h2, hp, -⟩
      · rw [hp, if_pos h2]
      · rw [hp, if_neg (by omega)]
    rw [hp]
    exact cnvTwinReturn_of h ho hk hk20 (hm.imp (fun ⟨h2, _, hr⟩ => ⟨h2, hr⟩) fun ⟨h2, _, hr⟩ => ⟨h2, hr⟩) h3

end Sys2Proof.Machine
end

section
-- One declaration after another: the check compiles the whole text under a memory limit.
set_option Elab.async false
/-! SUPPORT. The `acc.` commands. -/

namespace Sys2Proof.Machine
open Sys2Proof

section
variable {b : Block} {r : Req}

theorem accTd_good {rs : List (Nat × List Byte)} (h : Called 0x0305 r b) (hrd : r.rd = false)
    (hrs : maskRecs 52 8 160 (fld r.payload 32 20) r.payload = rs) (hf : ∀ f, f < 32 → fld r.payload f 1 ≤ 7 ∨ fld r.payload f 1 = 0xFF)
    (hl : r.payload.length = 52 + 8 * rs.length)
    (hok : ∀ x, x ∈ rs → 1 ≤ fld x.2 2 1 ∧ fld x.2 2 1 ≤ 16 ∧ fld x.2 3 1 = 0 ∧ fld x.2 6 2 = 0) : accTd r b = b.journal true 0x0305 r := by
  rw [accTd, onReq_called h, rd_write _ _ hrd]
  dsimp only
  rw [hrs]
  refine if_pos ?_
  simp only [Bool.and_eq_true, Bool.or_eq_true, beq_iff_eq, decide_eq_true_eq, List.all_eq_true, List.mem_range]
  exact ⟨⟨hf, hl⟩, fun x hx => have ⟨h1, h16, h3, h6⟩ := hok x hx; ⟨⟨⟨h1, h16⟩, h3⟩, h6⟩⟩

theorem accTd_bad {f : Nat} (h : Called 0x0305 r b) (hrd : r.rd = false) (hf : f < 32) (h7 : 7 < fld r.payload f 1)
    (hff : fld r.payload f 1 ≠ 0xFF) : accTd r b = b.status r stBADARG := by
  rw [accTd, onReq_called h, rd_write _ _ hrd]
  refine if_neg fun hok => ?_
  simp only [Bool.and_eq_true, Bool.or_eq_true, beq_iff_eq, decide_eq_true_eq, List.all_eq_true, List.mem_range] at hok
  obtain ⟨⟨hg, -⟩, -⟩ := hok
  exact (hg f hf).elim (Nat.not_le_of_gt h7) hff

end

/-- Settles O51: the arm of each command under its condition. -/
theorem accCommandsComplete : Obligations.AccCommandsComplete := by
  refine ⟨fun s r ins hs m h hins hm hhs => congrArg s.done ?_, fun s r ins f h hins hf => congrArg s.done ?_, fun s => rfl,
    fun s r h => congrArg s.done ?_, fun s r h => congrArg s.done ?_, fun s => rfl, fun s r h hrd => congrArg s.done ?_,
    fun s r rs h hrd hrs hf hl hok => congrArg s.done (accTd_good h hrd hrs hf hl hok),
    fun s r f h hrd hf h7 hff => congrArg s.done (accTd_bad h hrd hf h7 hff), fun s => rfl, fun s r n h hn => congrArg s.done ?_⟩
  · rw [accRead, onReq_called h]
    dsimp only
    rw [hins, hm, hhs]
    exact ite_iff _ _ (by simp only [Bool.or_eq_true, decide_eq_true_eq, bne_iff_ne, ne_eq, or_assoc])
  · rw [accMm, onReq_called h]
    dsimp only
    rw [hins, hf]
    exact ite_iff _ _ (by simp only [Bool.or_eq_true, decide_eq_true_eq, bne_iff_ne, ne_eq, or_assoc])
  · rw [accFreq, onReq_called h]
  · rw [accTrack, onReq_called h]
  · rw [accTd, onReq_called h, rd_read _ _ hrd]
  · rw [accTw, onReq_called h]
    dsimp only
    rw [hn]
    exact ite_iff _ _ (by simp only [Bool.or_eq_true, decide_eq_true_eq, bne_iff_ne, ne_eq, or_assoc])

end Sys2Proof.Machine
end

section
-- One declaration after another: the check compiles the whole text under a memory limit.
set_option Elab.async false
/-! SUPPORT. The `elem.` commands. -/

namespace Sys2Proof.Machine
open Sys2Proof

section
variable {b : Block} {r : Req} {f n : Nat}

/-! ### Settings that wait for their epoch -/

theorem filter_due {α : Type} {t e : Nat} (x : α) (h : t ≤ e) : [(t, x)].filter (fun y => decide (y.1 ≤ e)) = [(t, x)] := by
  simp only [List.filter_cons, List.filter_nil, decide_eq_true h, if_true]

theorem filter_later {α : Type} {t e : Nat} (x : α) (h : t ≤ e) : [(t, x)].filter (fun y => decide (e < y.1)) = [] := by
  simp only [List.filter_cons, List.filter_nil, decide_eq_false (Nat.not_lt.mpr h), Bool.false_eq_true, if_false]

/-! ### The element table -/

theorem elemTableWrite_of (h : Called 0x0401 r b) (h0 : fld r.payload 0 1 = 0) (h1 : fld r.payload 1 1 = 0) (hf : fld r.payload 2 2 = f)
    (hn : fld r.payload 4 2 = n) (h6 : fld r.payload 6 2 = 0) (h1n : 1 ≤ n) (h63 : n ≤ 63) (hfn : f + n ≤ 4096)
    (hl : r.payload.length = 8 + 64 * n) :
    elemTableWrite r b = if (b.swapBusy || b.ladleOn 2) = true then b.status r stBUSY
      else Block.status r stOK { b with elm := { b.elm with inactive := { b.elm.inactive with
        descs := tsetRun descD b.elm.inactive.descs f ((List.range n).map fun i => cut r.payload (8 + 64 * i) 64) } } } := by
  have hgood : (fld r.payload 0 1 != 0 || fld r.payload 1 1 != 0 || fld r.payload 6 2 != 0 || decide (n = 0) || decide (63 < n) ||
      decide (4096 < f + n) || r.payload.length != 8 + 64 * n) = false := by
    rw [h0, h1, h6, hl, decide_eq_false (by omega), decide_eq_false (by omega), decide_eq_false (by omega), bne_self_eq_false (8 + 64 * n)]
    rfl
  rw [elemTableWrite, onOp_of (op_read h0) h]
  dsimp only
  rw [hf, hn, hgood, if_neg Bool.false_ne_true]

theorem elemTableCopy_of (h : Called 0x0401 r b) (h0 : fld r.payload 0 1 = 1) (h1 : fld r.payload 1 1 = 0) (h2 : fld r.payload 2 2 ≤ 4095)
    (h4 : fld r.payload 4 2 = 0) (h6 : fld r.payload 6 2 = 0) (hl : r.payload.length = 8) :
    elemTableCopy r b = if (b.swapBusy || b.ladleOn 2) = true then b.status r stBUSY
      else Block.status r stOK { b with elm := { b.elm with inactive := b.elm.active } } := by
  have hgood : (fld r.payload 0 1 != 1 || fld r.payload 1 1 != 0 || decide (4095 < fld r.payload 2 2) || fld r.payload 4 2 != 0 ||
      fld r.payload 6 2 != 0 || r.payload.length != 8) = false := by
    rw [h0, h1, h4, h6, hl, decide_eq_false (by omega)]; rfl
  rw [elemTableCopy, onOp_of (op_is h0) h]
  dsimp only
  rw [hgood, if_neg Bool.false_ne_true]

theorem elemTableRead_of {u : Nat} {t : TableBuf} (h : Called 0x0401 r b) (h0 : fld r.payload 0 1 = 2) (h1 : fld r.payload 1 1 = u) (hu : u ≤ 1)
    (ht : t = if u = 0 then b.elm.active else b.elm.inactive) (hf : fld r.payload 2 2 = f) (hn : fld r.payload 4 2 = n)
    (h6 : fld r.payload 6 2 = 0) (h1n : 1 ≤ n) (h63 : n ≤ 63) (hfn : f + n ≤ 4096) (hl : r.payload.length = 8) :
    elemTableRead r b = b.ok r ((List.range n).flatMap fun i => tget descD t.descs (f + i)) := by
  have hgood : (fld r.payload 0 1 != 2 || decide (1 < u) || fld r.payload 6 2 != 0 || decide (n = 0) || decide (63 < n) ||
      decide (4096 < f + n) || r.payload.length != 8) = false := by
    rw [h0, h6, hl, decide_eq_false (by omega), decide_eq_false (by omega), decide_eq_false (by omega), decide_eq_false (by omega)]; rfl
  rw [elemTableRead, onOp_of (op_is h0) h]
  dsimp only
  rw [h1, hf, hn, hgood, if_neg Bool.false_ne_true, ← ht]

/-- The descriptors named by a table request are out of range (R182). -/
def badRange (f n : Nat) : Prop := n = 0 ∨ 63 < n ∨ 4096 < f + n

theorem elemTableWrite_bad (h : Called 0x0401 r b) (h0 : fld r.payload 0 1 = 0) (hb : badRange (fld r.payload 2 2) (fld r.payload 4 2)) :
    elemTableWrite r b = b.status r stBADARG := by
  rw [elemTableWrite, onOp_of (op_read h0) h]
  refine if_pos ?_
  simp only [Bool.or_eq_true, decide_eq_true_eq]
  unfold badRange at hb
  omega

theorem elemTableRead_bad (h : Called 0x0401 r b) (h0 : fld r.payload 0 1 = 2) (hb : badRange (fld r.payload 2 2) (fld r.payload 4 2)) :
    elemTableRead r b = b.status r stBADARG := by
  rw [elemTableRead, onOp_of (op_is h0) h]
  refine if_pos ?_
  simp only [Bool.or_eq_true, decide_eq_true_eq]
  unfold badRange at hb
  omega

/-! ### Curves -/

theorem elemCurve_read {i u : Nat} (h : Called 0x0402 r b) (hl : r.payload.length = 264) (hi : fld r.payload 0 1 = i) (h7 : i ≤ 7)
    (h1 : fld r.payload 1 1 = 2) (h2 : fld r.payload 2 1 = u) (hu : u ≤ 1) (hz : allZero (r.payload.drop 3) = true) :
    elemCurve r b = b.ok r ((tget curveD (if u = 0 then b.elm.active.curves else b.elm.inactive.curves) i).bytes i 2 u) := by
  have hgood : (r.payload.length != 264 || decide (7 < i) || decide (1 < u) || ((2 : Nat) != 0 && (2 : Nat) != 2)) = false := by
    rw [hl, decide_eq_false (by omega), decide_eq_false (by omega)]; rfl
  rw [elemCurve, onReq_called h]
  dsimp only
  rw [hi, h2, h1, hgood, if_neg Bool.false_ne_true, if_pos rfl, hz, Bool.not_true, if_neg Bool.false_ne_true]

theorem elemCurve_write {i : Nat} {c : Curve} (h : Called 0x0402 r b) (hl : r.payload.length = 264) (hi : fld r.payload 0 1 = i) (h7 : i ≤ 7)
    (h1 : fld r.payload 1 1 = 0) (h2 : fld r.payload 2 1 = 0) (hc : curveIn r.payload = c) (hn2 : 2 ≤ c.npts) (hn32 : c.npts ≤ 32)
    (ht : realNonneg c.tr = true) (hp : ptsOk c.pts = true) (hz : allZero (r.payload.drop (8 + 8 * c.npts)) = true) :
    elemCurve r b = if b.swapBusy then b.status r stBUSY
      else Block.status r stOK { b with elm := { b.elm with inactive := { b.elm.inactive with
        curves := tset curveD b.elm.inactive.curves i c } } } := by
  have hgood : (r.payload.length != 264 || decide (7 < i) || decide (1 < 0) || ((0 : Nat) != 0 && (0 : Nat) != 2)) = false := by
    rw [hl, decide_eq_false (by omega)]; rfl
  have hsound : ((0 : Nat) != 0 || decide (c.npts < 2) || decide (32 < c.npts) || !realNonneg c.tr || !ptsOk c.pts ||
      !allZero (r.payload.drop (8 + 8 * c.npts))) = false := by
    rw [decide_eq_false (by omega), decide_eq_false (by omega), ht, hp, hz]; rfl
  rw [elemCurve, onReq_called h]
  dsimp only
  rw [hi, h2, h1, hc, hgood, if_neg Bool.false_ne_true, if_neg (by decide), hsound, if_neg Bool.false_ne_true]

/-! ### The swap and the reset -/

theorem elementSwapEffect_elm {t : Nat} {k : Bool} (hs : b.elm.swap = some (t, k)) (ht : t ≤ b.time.epoch) :
    (elementSwapEffect b).elm.active = b.elm.inactive ∧ (elementSwapEffect b).elm.inactive = b.elm.active ∧
      (elementSwapEffect b).elm.swap = none ∧ (elementSwapEffect b).elm.bad = [] := by
  rw [elementSwapEffect, hs]
  dsimp only
  rw [if_neg (by omega), raise_elm]
  exact ⟨rfl, rfl, rfl, rfl⟩

theorem latchClearEffect_elm {t : Nat} (hr : b.elm.resets = [(t, f, n)]) (ht : t ≤ b.time.epoch) :
    (latchClearEffect b).elm.resets = [] ∧ (latchClearEffect b).elm.states = tmap elStD b.elm.states fun i x =>
      if x.latched && decide (f ≤ i ∧ i < f + n) then { x with latched := false, operate := x.own, drives := 0, off := false } else x := by
  rw [latchClearEffect, hr]
  dsimp only
  rw [filter_due _ ht, filter_later _ ht, List.foldl_cons, List.foldl_nil, raiseIf_elm]
  exact ⟨rfl, rfl⟩

end

/-- Settles O52: the arm of each command under its condition. -/
theorem elementCommandsComplete : Obligations.ElementCommandsComplete := by
  refine ⟨fun s r f n h h0 h1 hf hn h6 h1n h63 hfn hl => congrArg s.done (elemTableWrite_of h h0 h1 hf hn h6 h1n h63 hfn hl),
    fun s r h h0 h1 h2 h4 h6 hl => congrArg s.done (elemTableCopy_of h h0 h1 h2 h4 h6 hl),
    fun s r u f n t h h0 h1 hu ht hf hn h6 h1n h63 hfn hl => congrArg s.done (elemTableRead_of h h0 h1 hu ht hf hn h6 h1n h63 hfn hl), ?_,
    fun s r i u h hl hi h7 h1 h2 hu hz => congrArg s.done (elemCurve_read h hl hi h7 h1 h2 hu hz),
    fun s r i c h hl hi h7 h1 h2 hc hn2 hn32 ht hp hz => congrArg s.done (elemCurve_write h hl hi h7 h1 h2 hc hn2 hn32 ht hp hz),
    fun s r h => congrArg s.done ?_, fun s t k hs ht => ⟨_, rfl, elementSwapEffect_elm hs ht⟩,
    fun s r f n h hf hn => congrArg s.done ?_, fun s r f n h hf hn => congrArg s.done ?_,
    fun s t f n hr ht => ⟨_, rfl, latchClearEffect_elm hr ht⟩⟩
  · rintro s r i (⟨h0, rfl⟩ | ⟨h0, rfl⟩) h hb
    · exact congrArg s.done (elemTableWrite_bad h h0 hb)
    · exact congrArg s.done (elemTableRead_bad h h0 hb)
  · rw [elemSwap, onReq_called h] <;> rfl
  · rw [elemRead, onReq_called h]
    dsimp only
    rw [hf, hn]
    exact ite_iff _ _ (by simp only [Bool.or_eq_true, decide_eq_true_eq, bne_iff_ne, ne_eq, or_assoc])
  · rw [elemReset, onReq_called h]
    dsimp only
    rw [hf, hn]
    exact ite_iff _ _ (by simp only [Bool.or_eq_true, decide_eq_true_eq, or_assoc])

end Sys2Proof.Machine
end

section
-- One declaration after another: the check compiles the whole text under a memory limit.
set_option Elab.async false
/-! SUPPORT. The `cyc.` and `img.` commands. -/

namespace Sys2Proof.Machine
open Sys2Proof

section
variable {b : Block} {r : Req} {n : Nat}

/-! ### Loading and activating an image -/

theorem cycLoadCheck_of {p : List Byte} {i : FjImg} (h : Called 0x0501 r b) (h0 : fld r.payload 0 1 ≤ 7) (h1 : fld r.payload 1 1 = 0)
    (h2 : fld r.payload 2 2 = 0) (hn : fld r.payload 4 4 = n) (hmax : n ≤ imgMax) (hp : memRead (b.slot (fld r.payload 0 1)).stage 0 n = p)
    (hcrc : crc32 p = fld r.payload 8 4) (hi : Config.fjImage p = some i) (hcode : i.code ≤ codeMax) (hwhy : b.imgReason i = none) :
    cycLoadCheck r b = if b.ladleOn (0x10 + fld r.payload 0 1) then b.status r stBUSY
      else (b.putSlot (fld r.payload 0 1) { b.slot (fld r.payload 0 1) with loaded := some ({ i with bytes := p }, n) }).status r stOK := by
  rw [cycLoadCheck, onOp_of (by rw [h1]; rfl) h]
  dsimp only
  rw [if_neg (by omega), hn, if_neg (Nat.not_lt.mpr hmax), hp, if_neg (not_not_intro hcrc), hi]
  dsimp only
  rw [if_neg (Nat.not_lt.mpr hcode), hwhy]

theorem cycLoadCheck_bad (h : Called 0x0501 r b) (h1 : fld r.payload 1 1 = 0) (h7 : 7 < fld r.payload 0 1) :
    cycLoadCheck r b = b.status r stBADARG := by
  rw [cycLoadCheck, onOp_of (by rw [h1]; rfl) h]
  exact if_pos (.inl h7)

theorem cycLoadRead_of (h : Called 0x0501 r b) (h0 : fld r.payload 0 1 ≤ 7) (h1 : fld r.payload 1 1 = 2) (h2 : fld r.payload 2 2 = 0) :
    cycLoadRead r b = b.ok r (match (b.slot (fld r.payload 0 1)).loaded with
      | some x => leBytes 4 1 ++ leBytes 4 x.2
      | none => zeros 8) := by
  rw [cycLoadRead, onOp_of (op_is h1) h]
  dsimp only
  rw [if_neg (by omega)]
  cases (b.slot (fld r.payload 0 1)).loaded <;> rfl

/-- The timers that an image declares, of a slot that has one. -/
def moreTimers (n : Nat) (o : Option FjImg) : Nat := match o with
  | some i => if n < i.timers.length then i.timers.length else n
  | none => n

theorem bitList_two_pow (hn : n < 8) : bitList (2 ^ n) 8 = [n] := by
  have hall : ∀ n < 8, bitList (2 ^ n) 8 = [n] := by decide
  exact hall n hn

/-- A tally to which one index alone adds. -/
theorem foldl_range_single (m n v : Nat) : (List.range m).foldl (fun t k => t + if k = n then v else 0) 0 = if n < m then v else 0 := by
  induction m with
  | zero => rfl
  | succ m ih =>
    rw [List.range_succ, List.foldl_append, ih, List.foldl_cons, List.foldl_nil]
    grind

theorem cycActivate_of {x : FjImg × Nat} (h : Called 0x0502 r b) (hn : n < 8) (hm : fld r.payload 0 1 = 2 ^ n)
    (hz : allZero (r.payload.drop 1) = true) (hx : (b.slot n).loaded = some x)
    (hother : ∀ k, k < 8 → (b.slot k).acting = none ∧ (b.slot k).next = none ∧ (b.slot k).img = none)
    (hq : x.1.timers.length ≤ clsQuota 1) (hf : b.flashBusy = false) :
    cycActivate r b = (b.putSlot n { b.slot n with acting := some x.1, loaded := none }).journal true 0x0502 r := by
  have htotal : (List.range 8).foldl (fun t s => t + [(b.slot s).img,
      if s ∈ [n] then (b.slot s).loaded.map (·.1) else (b.slot s).acting, (b.slot s).next.map (·.2)].foldl moreTimers 0) 0 =
        x.1.timers.length := by
    rw [foldl_eq_of_mem _ (fun t k => t + if k = n then x.1.timers.length else 0), foldl_range_single, if_pos hn]
    intro t k hk
    obtain ⟨ha, hnx, hi⟩ := hother k (List.mem_range.mp hk)
    by_cases hkn : k = n
    · rw [if_pos hkn, if_pos (List.mem_singleton.mpr hkn), hi, hnx, hkn, hx]
      simp only [List.foldl_cons, List.foldl_nil, Option.map_none, Option.map_some, moreTimers]
      split <;> omega
    · rw [if_neg hkn, if_neg (mt List.mem_singleton.mp hkn), hi, hnx, ha]; rfl
  have hgood : (!allZero (r.payload.drop 1) || !([n].all fun s => (b.slot s).loaded.isSome)) = false := by
    rw [hz, List.all_cons, hx]; rfl
  rw [cycActivate, onReq_called h]
  dsimp only
  rw [hm, bitList_two_pow hn, hgood, if_neg Bool.false_ne_true]
  refine (if_neg ?_).trans ?_
  · exact Nat.not_lt.mpr (Nat.le_trans (Nat.le_of_eq htotal) hq)
  · rw [hf, if_neg Bool.false_ne_true, List.foldl_cons, List.foldl_nil, hx]; rfl

theorem cycActivate_bad (h : Called 0x0502 r b) (hn : n ∈ bitList (fld r.payload 0 1) 8) (hl : (b.slot n).loaded = none) :
    cycActivate r b = b.status r stBADARG := by
  have hbad : ((bitList (fld r.payload 0 1) 8).all fun s => (b.slot s).loaded.isSome) = false :=
    List.all_eq_false.mpr ⟨n, hn, by rw [hl]; exact Bool.false_ne_true⟩
  rw [cycActivate, onReq_called h]
  dsimp only
  rw [hbad, Bool.not_false, Bool.or_true, if_pos rfl]

theorem imageTakeover_of {q : Nat} {i o : FjImg} (hx : (b.slot n).next = some (q, i)) (ho : (b.slot n).img = some o)
    (hr : (b.slot n).running = true) (hc : (b.slot n).cyc = none) (hre : (b.slot n).redo = none) (hq : q ≤ b.time.epoch)
    (ha : b.time.epoch % o.n = 0) (hp : b.elm.pubEpoch = b.time.epoch) : b.imageTakeover n = b.takeImage n i false := by
  rw [Block.imageTakeover, hx, ho]
  refine if_pos ?_
  rw [hr, hc, hre, decide_eq_true hq, ha, hp, beq_self_eq_true, beq_self_eq_true]; rfl

/-! ### `cyc.restart` -/

/-- The pair on which slot n restarts when a request names t (R230). -/
def Block.restartPair (b : Block) (n t : Nat) : Option Nat :=
  if t = 255 then (match b.ownPair n with | some q => some q | none => b.spare)
  else if b.ownPair n = some t ∨ (b.pair t).state = .spare then some t else none

theorem cycRestart_stopped {t : Nat} (h : Called 0x0503 r b) (hn : fld r.payload 0 1 = n) (h7 : n ≤ 7) (h3 : fld r.payload 1 1 ≤ 3)
    (h2 : fld r.payload 2 2 = 0) (ht : fld r.payload 4 1 = t) (ht8 : t ≤ 8 ∨ t = 255) (h5 : fld r.payload 5 3 = 0)
    (hs : (b.slot n).state = .kettle ∨ (b.slot n).state = .faulted) (hd : (b.slot n).damaged = false ∨ fld r.payload 1 1 % 2 = 1) :
    cycRestart r b = match b.restartPair n t with
      | some q => (b.restart n q (bitOf (fld r.payload 1 1) 0) (bitOf (fld r.payload 1 1) 1)).answer r stOK (b.restartEpoch n) []
      | none => b.status r stNOTREADY := by
  have hgood : ¬(fld r.payload 2 2 ≠ 0 ∨ ((b.slot n).damaged && fld r.payload 1 1 % 2 == 0) = true) := by
    rw [h2, Bool.and_eq_true, beq_iff_eq]
    rintro (hc | ⟨hdam, hm⟩)
    · exact hc rfl
    · rcases hd with hd | hd
      · rw [hd] at hdam; exact Bool.false_ne_true hdam
      · omega
  rw [cycRestart, onReq_called h]
  dsimp only
  rw [hn, ht, if_neg (by omega)]
  have hgo : (match b.restartPair n t with
      | none => b.status r stNOTREADY
      | some q => (b.restart n q (bitOf (fld r.payload 1 1) 0) (bitOf (fld r.payload 1 1) 1)).answer r stOK (b.restartEpoch n) []) =
      match b.restartPair n t with
      | some q => (b.restart n q (bitOf (fld r.payload 1 1) 0) (bitOf (fld r.payload 1 1) 1)).answer r stOK (b.restartEpoch n) []
      | none => b.status r stNOTREADY := by
    cases b.restartPair n t <;> rfl
  rcases hs with hs | hs <;> rw [hs] <;> exact (if_neg hgood).trans hgo

/-- The counts of a task that a restart names begin again (R292). -/
def Ctx.unfaulted (k t : Nat) (c : Ctx) : Ctx :=
  if bitOf k t then { c with lidOut := c.lidOut || c.faultDis, faultDis := false, tdis := false, faults := 0 } else c

theorem cycRestart_running {k : Nat} (h : Called 0x0503 r b) (hn : fld r.payload 0 1 = n) (h7 : n ≤ 7) (h3 : fld r.payload 1 1 ≤ 3)
    (hk : fld r.payload 2 2 = k) (hk0 : k ≠ 0) (h4 : fld r.payload 4 1 ≤ 8 ∨ fld r.payload 4 1 = 255) (h5 : fld r.payload 5 3 = 0)
    (hrun : (b.slot n).running = true) :
    ((cycRestart r b).slot n).ctxs = tupdAll ctxD (b.slot n).ctxs (List.range 16) (Ctx.unfaulted k) := by
  rw [cycRestart, onReq_called h]
  dsimp only
  rw [hn, hk, if_neg (by omega)]
  rw [Slot.running] at hrun
  cases hs : (b.slot n).state <;> rw [hs] at hrun <;> try exact absurd hrun (by decide)
  all_goals
    dsimp only
    rw [if_neg hk0, slot_congr (answer_lgc ..), slot_putSlot]
    dsimp only
    exact congrArg (tupdAll ctxD (b.slot n).ctxs (List.range 16)) (funext fun _ => funext fun _ => rfl)

/-! ### `cyc.service` -/

theorem cycServiceEnter_of (h : Called 0x0504 r b) (h0 : fld r.payload 0 1 = 0) (hn : fld r.payload 1 1 = n) (h7 : n ≤ 7)
    (h2 : fld r.payload 2 2 = 0) (hreq : b.nv.stg.req = none) :
    cycServiceEnter r b = match b.spare with
      | some q => if (b.slot n).pair.isSome = true ∧ ((b.slot n).state = .lidded ∨ (b.slot n).state = .run) ∧ (b.slot n).takeover = none
          then b.takeoverStart n q 0 (some r) else b.status r stNOTREADY
      | none => b.status r stNOTREADY := by
  rw [cycServiceEnter, onOp_of (op_is h0) h]
  dsimp only
  rw [hn, if_neg (by omega), hreq, Option.isSome_none, if_neg Bool.false_ne_true]
  cases b.spare with
  | none => rfl
  | some q =>
    cases hp : (b.slot n).pair with
    | none => exact (if_neg fun hc => Bool.false_ne_true hc.1).symm
    | some p =>
      exact ite_iff _ _ (by simp only [Option.isSome_some, true_and, Bool.and_eq_true, Bool.or_eq_true, beq_iff_eq, Option.isNone_iff_eq_none])

theorem cycServiceExit_of {p : Nat} (h : Called 0x0504 r b) (h0 : fld r.payload 0 1 = 1) (hp : fld r.payload 1 1 = p) (h8 : p ≤ 8)
    (h2 : fld r.payload 2 2 = 0) : cycServiceExit r b = if (b.pair p).state = .service ∨ (b.pair p).state = .halted then
      (b.putSlot (8 + p) {}).putPair p { b.pair p with
        state := .testing, planned := true, back := .spare, exitReq := some r, hreq := none, slot := none, bps := [] }
      else b.status r stNOTREADY := by
  rw [cycServiceExit, onOp_of (by rw [h0]; rfl) h]
  dsimp only
  rw [hp, if_neg (by omega)]
  exact ite_iff _ _ (by simp only [Bool.or_eq_true, beq_iff_eq])

/-! ### `img.read` and `img.station` -/

theorem imgRead_of {k f h : Nat} {y : Slot} (hc : Called 0x0601 r b) (hk : fld r.payload 0 1 = k) (h7 : k ≤ 7) (hy : b.slot k = y)
    (hh : fld r.payload 1 1 = h) (h1 : h ≤ 1) (hf : fld r.payload 2 2 = f) (hn : fld r.payload 4 2 = n) (h6 : fld r.payload 6 2 = 0)
    (hn1 : 1 ≤ n) (hmax : n ≤ 1021) (hfn : f + n ≤ 16384) :
    imgRead r b = if y.state = .empty then b.status r stNOTREADY
      else b.answer r stOK b.pin (leBytes 8 (if h = 0 then y.inTag else y.pubTag) ++ leBytes 1 y.state.code ++ zeros 3 ++
        ((tgetRun wzD (if h = 0 then y.inHalf else y.pubLast) f n).flatMap fun w => leBytes 4 w.toNat)) := by
  rw [imgRead, onReq_called hc]
  dsimp only
  rw [hk, hh, hf, hn, if_neg (by omega), hy]

theorem imgStation_of {f op : Nat} (h : Called 0x0602 r b) (hf : fld r.payload 0 1 = f) (hn : fld r.payload 1 1 = n)
    (ho : fld r.payload 2 1 = op) (h1 : op ≤ 1) (h3 : fld r.payload 3 1 = 0) (hn1 : 1 ≤ n) (h64 : n ≤ 64) (hfn : f + n ≤ 256) :
    imgStation r b = if (decide (op = 1) && decide (b.authOf r.client < 2)) = true then b.status r stNOAUTH
      else if op = 0 then b.ok r ((List.range n).flatMap fun i => b.stnRec (f + i))
      else (List.range n).foldl (fun b i => b.putStn (f + i) fun x => { x with dropsR := 0, bad := 0 })
        (b.ok r ((List.range n).flatMap fun i => b.stnRec (f + i))) := by
  have hgood : (decide (n < 1) || decide (64 < n) || decide (1 < op) || fld r.payload 3 1 != 0 || decide (256 < f + n)) = false := by
    rw [decide_eq_false (by omega), decide_eq_false (by omega), decide_eq_false (by omega), decide_eq_false (by omega), h3]; rfl
  rw [imgStation, onReq_called h]
  dsimp only
  rw [hf, hn, ho, hgood, if_neg Bool.false_ne_true]

end

/-- Settles O53: the arm of each command under its condition. -/
theorem cycAndImgCommandsComplete : Obligations.CycAndImgCommandsComplete := by
  refine ⟨fun s r n p i h h0 h1 h2 hn hmax hp hcrc hi hcode hwhy => congrArg s.done (cycLoadCheck_of h h0 h1 h2 hn hmax hp hcrc hi hcode hwhy),
    fun s r h h1 h7 => congrArg s.done (cycLoadCheck_bad h h1 h7), fun s r h h0 h1 h2 => congrArg s.done ?_,
    fun s r n x h hn hm hz hx hother hq hf => congrArg s.done (cycActivate_of h hn hm hz hx hother hq hf),
    fun s r n h hn hl => congrArg s.done (cycActivate_bad h hn hl),
    fun s n q i o hx ho hr hc hre hq ha hp => congrArg s.done (imageTakeover_of hx ho hr hc hre hq ha hp),
    fun s r n h hn h7 h3 h2 h4 h5 hs hd => congrArg s.done ?_, fun s r n q h hn h7 h3 h2 hq hq8 h5 hs hd => congrArg s.done ?_,
    fun s r n k h hn h7 h3 hk hk0 h4 h5 hrun => ⟨_, rfl, cycRestart_running h hn h7 h3 hk hk0 h4 h5 hrun⟩,
    fun s r n h h0 hn h7 h2 hreq => congrArg s.done ?_, fun s r p h h0 hp h8 h2 hst => ⟨_, rfl, ?_⟩,
    fun s r p h h0 hp h8 h2 hs hh => congrArg s.done ?_, fun s r h => congrArg s.done ?_,
    fun s r k n f h y hc hk h7 hy hh h1 hf hn h6 hn1 hmax hfn => congrArg s.done (imgRead_of hc hk h7 hy hh h1 hf hn h6 hn1 hmax hfn),
    fun s r h hb => congrArg s.done ?_, fun s r f n h hf hn ho h3 hn1 h64 hfn => congrArg s.done ?_,
    fun s r f n h hf hn ho h3 hn1 h64 hfn => congrArg s.done ?_⟩
  · exact (cycLoadRead_of h h0 h1 h2) ▸ rfl
  · rw [cycRestart_stopped h hn h7 h3 h2 h4 (.inr rfl) h5 hs hd, Block.restartPair, if_pos rfl] <;> rfl
  · rw [cycRestart_stopped h hn h7 h3 h2 hq (.inl hq8) h5 hs hd, Block.restartPair, if_neg (by omega)]
    by_cases hp : s.blk.ownPair n = some q ∨ (s.blk.pair q).state = .spare
    · rw [if_pos hp, if_pos hp]
    · rw [if_neg hp, if_neg hp]
  · exact (cycServiceEnter_of h h0 hn h7 h2 hreq) ▸ rfl
  · rw [cycServiceExit_of h h0 hp h8 h2, if_pos hst]
    exact ⟨pair_putPair .., (slot_putPair ..).trans (slot_putSlot ..)⟩
  · rw [cycServiceExit_of h h0 hp h8 h2, if_neg fun hc => hc.elim hs hh]
  · rw [cycState, onReq_called h]
  · rw [imgRead, onReq_called h]
    exact if_pos (by omega)
  · rw [imgStation_of h hf hn ho (by omega) h3 hn1 h64 hfn]; rfl
  · rw [imgStation_of h hf hn ho (Nat.le_refl _) h3 hn1 h64 hfn, decide_eq_true rfl, Bool.true_and, if_neg Nat.one_ne_zero]
    exact ite_iff _ _ decide_eq_true_iff

end Sys2Proof.Machine
end

section
-- One declaration after another: the check compiles the whole text under a memory limit.
set_option Elab.async false
/-! SUPPORT. The `io.` and `time.` commands. -/

namespace Sys2Proof.Machine
open Sys2Proof

section
variable {b : Block} {r : Req}

/-! ### `io.cfg` -/

/-- A written configuration changes the safe state or the input mode of output j (R342). -/
def FldCfg.changes (c o : FldCfg) (j : Nat) : Bool :=
  bitOf c.safe j != bitOf o.safe j || (decide (24 ≤ j) && bitOf c.rbIn (j - 24) != bitOf o.rbIn (j - 24))

/-- The slot that owns output j has not left the lid. -/
def Block.lidOn (b : Block) (j : Nat) : Bool := match b.ownerOf j with
  | some s => !(b.slot s).free
  | none => false

theorem ioCfg_write (h : Called 0x0701 r b) (h0 : fld r.payload 0 1 = 0) (hok : fldCfgOk r.payload = true) :
    ioCfg r b = if ((List.range 32).any fun j => (fldCfgOf r.payload).changes b.bar.cfg j && b.lidOn j) then b.status r stNOTREADY
      else b.journal true 0x0701 r := by
  have hgood : ((0 : Nat) != 0 || !fldCfgOk r.payload) = false := by rw [hok]; rfl
  rw [ioCfg, onReq_called h]
  dsimp only
  rw [h0, if_neg (by decide), hgood, if_neg Bool.false_ne_true] <;> rfl

theorem changes_eq_false {c o : FldCfg} {j : Nat} (h : bitOf c.safe j = bitOf o.safe j)
    (hr : j < 24 ∨ bitOf c.rbIn (j - 24) = bitOf o.rbIn (j - 24)) : c.changes o j = false := by
  rw [FldCfg.changes, h, bne_self_eq_false, Bool.false_or]
  rcases hr with hj | hr
  · rw [decide_eq_false (by omega), Bool.false_and]
  · rw [hr, bne_self_eq_false, Bool.and_false]

theorem lidOn_eq_false {j : Nat} (h : ∀ n, b.ownerOf j = some n → (b.slot n).free = true) : b.lidOn j = false := by
  rw [Block.lidOn]
  split
  · next n hn => rw [h n hn]; rfl
  · rfl

theorem ioCfg_bad (h : Called 0x0701 r b) (h2 : fld r.payload 0 1 ≠ 2) (hb : fld r.payload 0 1 ≠ 0 ∨ fldCfgOk r.payload = false) :
    ioCfg r b = b.status r stBADARG := by
  have hbad : (fld r.payload 0 1 != 0 || !fldCfgOk r.payload) = true := by
    rcases hb with hb | hb
    · rw [bne_iff_ne.mpr hb, Bool.true_or]
    · rw [hb, Bool.not_false, Bool.or_true]
  rw [ioCfg, onReq_called h]
  dsimp only
  rw [if_neg h2, hbad, if_pos rfl]

theorem ioCfgEffect_bar {t : Nat} {c : FldCfg} (hp : b.bar.cfgPend = [(t, c)]) (ht : t ≤ b.time.epoch) :
    (ioCfgEffect b).bar.cfg = c ∧ (ioCfgEffect b).bar.cfgPend = [] := by
  rw [ioCfgEffect, hp]
  dsimp only
  rw [filter_due _ ht, filter_later _ ht, List.foldl_cons, List.foldl_nil]
  exact ⟨rfl, rfl⟩

/-! ### `time.read`, `time.set` and `time.ptp` -/

theorem timeReadTick_of {e : Nat} {t : Stamp} (h : Called 0x0801 r b) (h0 : fld r.payload 0 1 = 1) (h1 : fld r.payload 1 3 = 0)
    (he : fld r.payload 4 8 = e) (hle : e ≤ b.time.epoch) (hlt : b.time.epoch ≤ e + 65536) (ht : b.time.tickStamp e = some t) :
    timeReadTick r b = b.ok r (b.timeReadBytes t e) := by
  have hgood : (fld r.payload 1 3 != 0 || decide (b.time.epoch < e) || decide (e + 65536 < b.time.epoch)) = false := by
    rw [h1, decide_eq_false (by omega), decide_eq_false (by omega)]; rfl
  rw [timeReadTick, onOp_of (op_is h0) h]
  dsimp only
  rw [he, hgood, if_neg Bool.false_ne_true, ht]

theorem timeReadTick_bad {e : Nat} (h : Called 0x0801 r b) (h0 : fld r.payload 0 1 = 1) (he : fld r.payload 4 8 = e)
    (hb : fld r.payload 1 3 ≠ 0 ∨ b.time.epoch < e ∨ e + 65536 < b.time.epoch) : timeReadTick r b = b.status r stBADARG := by
  rw [timeReadTick, onOp_of (op_is h0) h]
  dsimp only
  rw [he]
  exact if_pos (by simpa only [Bool.or_eq_true, bne_iff_ne, decide_eq_true_eq, ne_eq, or_assoc] using hb)

theorem timeSet_of {v : Int} (h : Called 0x0803 r b) (h0 : fld r.payload 0 1 ≤ 1) (h1 : fld r.payload 1 1 ≤ 1) (h2 : fld r.payload 2 2 = 0)
    (hv : v = if fld r.payload 0 1 = 0 then fldInt r.payload 4 8 else (fld r.payload 4 8 : Int)) :
    timeSet r b = if b.time.slave.isSome = true ∧ fld r.payload 1 1 = 0 then b.status r stCONFLICT
      else Block.answer r stOK b.effS [] { b with time := { b.time with
        setPend := b.time.setPend ++ [(b.effS, fld r.payload 0 1 == 1, v)] } } := by
  have hgood : (decide (1 < fld r.payload 0 1) || decide (1 < fld r.payload 1 1) || fld r.payload 2 2 != 0) = false := by
    rw [decide_eq_false (by omega), decide_eq_false (by omega), h2]; rfl
  rw [timeSet, onReq_called h]
  dsimp only
  rw [hgood, if_neg Bool.false_ne_true, ← hv]
  exact ite_iff _ _ (by rw [Bool.and_eq_true, beq_iff_eq])

/-- The record of a port in a `time.ptp` (R372). -/
def Block.ptpRecord (b : Block) (i : Nat) : List Byte :=
  leBytes 1 i ++ leBytes 1 (tget ptpD b.time.ports i).pstate ++
    leBytes 1 (b2n (b.time.cfg.tc.getD i false) + 2 * b2n (tget ptpD b.time.ports i).annTo) ++ zeros 1 ++
    leBytes 4 (tget ptpD b.time.ports i).linkDelay ++ leBytes 4 (tget ptpD b.time.ports i).discard ++
    leBytes 4 (tget ptpD b.time.ports i).pdelayFail

theorem ptpRecord_length (b : Block) (i : Nat) : (b.ptpRecord i).length = 16 := by
  simp only [Block.ptpRecord, List.length_append, leBytes_length, zeros_length]

theorem timePtp_of (h : Called 0x0804 r b) (hz : allZero r.payload = true) :
    timePtp r b = Block.ok r ((List.range 4).flatMap b.ptpRecord) { b with time := { b.time with
      ports := tupdAll ptpD b.time.ports (List.range 4) fun _ p => { p with annTo := false } } } := by
  rw [timePtp, onReq_called h, hz, Bool.not_true, if_neg Bool.false_ne_true]
  rfl

end

/-- Settles O54: the arm of each command under its condition. -/
theorem ioAndTimeMailboxCommandsComplete : Obligations.IoAndTimeMailboxCommandsComplete := by
  refine ⟨fun s r h h2 => congrArg s.done ?_, fun s r h h0 hok hj => congrArg s.done ?_, fun s r j n h h0 hok hj hch ho hf => congrArg s.done ?_,
    fun s r h h2 hb => congrArg s.done (ioCfg_bad h h2 hb), fun s t c hp ht => ⟨_, rfl, ioCfgEffect_bar hp ht⟩,
    fun s r h => congrArg s.done ?_, fun s r n h hn => congrArg s.done ?_, fun s r h h0 => congrArg s.done ?_,
    fun s r e t h h0 h1 he hle hlt ht => congrArg s.done (timeReadTick_of h h0 h1 he hle hlt ht),
    fun s r e h h0 he hb => congrArg s.done (timeReadTick_bad h h0 he hb), fun s r h => congrArg s.done ?_, fun s hd => congrArg s.done ?_,
    fun s r v h h0 h1 h2 hv => congrArg s.done (timeSet_of h h0 h1 h2 hv), fun s => rfl,
    fun s r h hz => ⟨_, ?_, congrArg s.done (timePtp_of h hz)⟩⟩
  · rw [ioCfg, onReq_called h]
    exact if_pos h2
  · rw [ioCfg_write h h0 hok, if_neg]
    simp only [List.any_eq_true, List.mem_range, Bool.and_eq_true, not_exists, not_and]
    intro j hj32 hch hlid
    rcases hj j hj32 with ⟨hs, hr⟩ | ho
    · rw [changes_eq_false hs hr] at hch; exact Bool.false_ne_true hch
    · rw [lidOn_eq_false ho] at hlid; exact Bool.false_ne_true hlid
  · rw [ioCfg_write h h0 hok, if_pos]
    refine List.any_eq_true.mpr ⟨j, List.mem_range.mpr hj, ?_⟩
    rw [Block.lidOn, ho, FldCfg.changes]
    simpa only [hf, Bool.not_false, Bool.and_true, Bool.or_eq_true, Bool.and_eq_true, bne_iff_ne, decide_eq_true_eq] using hch
  · rw [ioRead, onReq_called h]
    by_cases h0 : fld r.payload 0 4 = 0
    · rw [if_pos h0, h0]; rfl
    · rw [if_neg h0, if_pos (bne_iff_ne.mpr h0)]
  · rw [ioEdges, onReq_called h]
    dsimp only
    rw [hn]
    exact ite_iff _ _ (by simp only [Bool.or_eq_true, decide_eq_true_eq, bne_iff_ne, ne_eq, or_assoc])
  · rw [timeReadNow, onOp_of (by rw [h0]; rfl) h, h0, bne_self_eq_false, Bool.false_or]
    by_cases h1 : fld r.payload 1 3 = 0
    · rw [if_pos h1, h1]; rfl
    · rw [if_neg h1, if_pos (bne_iff_ne.mpr h1)]
  · rw [timeCfg, onReq_called h]
  · exact if_pos hd
  · simp only [List.length_flatMap, ptpRecord_length]; rfl

end Sys2Proof.Machine
end

section
-- One declaration after another: the check compiles the whole text under a memory limit.
set_option Elab.async false
/-! SUPPORT. The `net.` and `fab.` commands. -/

namespace Sys2Proof.Machine
open Sys2Proof

section
variable {b b' : Block} {r : Req} {op n : Nat}

/-! ### Statistics -/

theorem netStat_of (h : Called 0x0902 r b) (ho : fld r.payload 0 1 = op) (h1 : op ≤ 1) (hz : allZero (cut r.payload 1 3) = true)
    (hb : b' = b.ok r ((List.range 4).flatMap b.netRec)) :
    netStat r b = if op = 0 then b' else if b.authOf r.client < 2 then b.status r stNOAUTH
      else (List.range 4).foldl (fun b p => b.putPort p fun x => { x with ctrs := [] }) b' := by
  have hgood : (decide (1 < op) || !allZero (cut r.payload 1 3)) = false := by
    rw [decide_eq_false (by omega), hz]; rfl
  rw [netStat, onReq_called h]
  dsimp only
  rw [ho, hgood, if_neg Bool.false_ne_true, ← hb]
  by_cases h0 : op = 0
  · rw [if_pos h0, if_pos h0, decide_eq_false (by omega), Bool.false_and, if_neg Bool.false_ne_true]
  · rw [if_neg h0, if_neg h0, decide_eq_true (by omega : op = 1), Bool.true_and]
    exact ite_iff _ _ decide_eq_true_iff

theorem fabStat_of (h : Called 0x0A05 r b) (ho : fld r.payload 0 1 = op) (h1 : op ≤ 1) (hz : allZero (cut r.payload 1 3) = true)
    (hb : b' = b.ok r ((List.range 5).flatMap b.fabRec)) :
    fabStat r b = if op = 0 then b' else if b.authOf r.client < 2 then b.status r stNOAUTH else { b' with fab := { b'.fab with ctrs := [] } } := by
  have hgood : (decide (1 < op) || !allZero (cut r.payload 1 3)) = false := by
    rw [decide_eq_false (by omega), hz]; rfl
  rw [fabStat, onReq_called h]
  dsimp only
  rw [ho, hgood, if_neg Bool.false_ne_true, ← hb]
  by_cases h0 : op = 0
  · rw [if_pos h0, if_pos h0, decide_eq_false (by omega), Bool.false_and, if_neg Bool.false_ne_true]
  · rw [if_neg h0, if_neg h0, decide_eq_true (by omega : op = 1), Bool.true_and]
    exact ite_iff _ _ decide_eq_true_iff

/-! ### Routes and neighbours -/

/-- A choice whose refusal comes first. -/
theorem ite_refused {α : Type} {p q : Prop} [Decidable p] [Decidable q] (x y : α) (h : p ↔ ¬q) : (if p then x else y) = if q then y else x := by
  by_cases hq : q
  · rw [if_pos hq, if_neg fun hp => h.mp hp hq]
  · rw [if_neg hq, if_pos (h.mpr hq)]

theorem fabNbr_of (h : Called 0x0A04 r b) (h0 : fld r.payload 0 2 ≤ 255) (h1 : 1 ≤ fld r.payload 2 2) (h255 : fld r.payload 2 2 ≤ 255) :
    ∃ p : List Byte, p.take 6 = leBytes 2 ((b.fab.nbrs.drop (fld r.payload 0 2)).take (fld r.payload 2 2)).length ++
      leBytes 2 b.fab.nbrs.length ++ leBytes 2 b.fab.pendq.length ∧ fabNbr r b = b.ok r p := by
  have hgood : (decide (255 < fld r.payload 0 2) || decide (fld r.payload 2 2 < 1) || decide (255 < fld r.payload 2 2)) = false := by
    rw [decide_eq_false (by omega), decide_eq_false (by omega), decide_eq_false (by omega)]; rfl
  rw [fabNbr, onReq_called h]
  dsimp only
  rw [hgood, if_neg Bool.false_ne_true]
  refine ⟨_, ?_, rfl⟩
  have hlen : ∀ x y z, (leBytes 2 x ++ leBytes 2 y ++ leBytes 2 z).length = 6 := fun x y z => by
    simp only [List.length_append, leBytes_length]
  rw [List.take_append_of_le_length, List.take_append_of_le_length, List.take_append_of_le_length, List.take_append_of_le_length,
    List.take_of_length_le (Nat.le_of_eq (hlen ..))]
  all_goals simp only [List.length_append, leBytes_length]; omega

/-! ### Signals, travelling-wave pairs and access -/

/-- The flags of signal i in a `fab.sig` write are in range (R412). -/
def sigFits (p : List Byte) (i : Nat) : Bool :=
  decide (fld p (6 + 4 * i) 1 ≤ 15) && fld p (7 + 4 * i) 1 == 0 && !(bitOf (fld p (6 + 4 * i) 1) 1 && bitOf (fld p (6 + 4 * i) 1) 2) &&
    !(bitOf (fld p (6 + 4 * i) 1) 3 && !bitOf (fld p (6 + 4 * i) 1) 1 && !bitOf (fld p (6 + 4 * i) 1) 2)

theorem fabSig_read (h : Called 0x0A06 r b) (h2 : fld r.payload 0 1 = 2) (hz : allZero (cut r.payload 1 3) = true) :
    fabSig r b = if sigRsv r.payload then b.ok r (leBytes 1 2 ++ zeros 3 ++ (List.range 128).flatMap fun i =>
      leBytes 2 (tget sigD b.sigs i).dst ++ leBytes 1 (tget sigD b.sigs i).flags ++ zeros 1) else b.status r stBADARG := by
  have hgood : (!allZero (cut r.payload 1 3) || ((2 : Nat) != 0 && (2 : Nat) != 2)) = false := by rw [hz]; rfl
  rw [fabSig, onReq_called h]
  dsimp only
  rw [h2, hgood, if_neg Bool.false_ne_true, if_pos rfl]

theorem fabSig_write (h : Called 0x0A06 r b) (h0 : fld r.payload 0 1 = 0) (hz : allZero (cut r.payload 1 3) = true)
    (hf : ∀ i, i < 128 → sigFits r.payload i = true) : fabSig r b = b.journal false 0x0A06 r := by
  have hgood : (!allZero (cut r.payload 1 3) || ((0 : Nat) != 0 && (0 : Nat) != 2)) = false := by rw [hz]; rfl
  rw [fabSig, onReq_called h]
  dsimp only
  rw [h0, hgood, if_neg Bool.false_ne_true, if_neg (by decide)]
  exact if_pos (List.all_eq_true.mpr fun i hi => hf i (List.mem_range.mp hi))

theorem fabTw_read (h : Called 0x0A07 r b) (h2 : fld r.payload 0 1 = 2) (hz : allZero (cut r.payload 1 3) = true) :
    fabTw r b = if twRsv r.payload then b.ok r (leBytes 1 2 ++ zeros 3 ++ (List.range 32).flatMap fun i => (tget twD b.fab.tw i).bytes)
      else b.status r stBADARG := by
  have hgood : (!allZero (cut r.payload 1 3) || ((2 : Nat) != 0 && (2 : Nat) != 2)) = false := by rw [hz]; rfl
  rw [fabTw, onReq_called h]
  dsimp only
  rw [h2, hgood, if_neg Bool.false_ne_true, if_pos rfl]

theorem fabTw_write (h : Called 0x0A07 r b) (h0 : fld r.payload 0 1 = 0) (hz : allZero (cut r.payload 1 3) = true)
    (hf : ∀ i, i < 32 → twCfgOk (cut r.payload (4 + 16 * i) 16) = true) : fabTw r b = b.journal false 0x0A07 r := by
  have hgood : (!allZero (cut r.payload 1 3) || ((0 : Nat) != 0 && (0 : Nat) != 2)) = false := by rw [hz]; rfl
  rw [fabTw, onReq_called h]
  dsimp only
  rw [h0, hgood, if_neg Bool.false_ne_true, if_neg (by decide)]
  exact if_pos (List.all_eq_true.mpr fun i hi => hf i (List.mem_range.mp hi))

theorem fabTw_bad {i : Nat} (h : Called 0x0A07 r b) (h0 : fld r.payload 0 1 = 0) (hi : i < 32)
    (hf : twCfgOk (cut r.payload (4 + 16 * i) 16) = false) : fabTw r b = b.status r stBADARG := by
  have hbad : ¬((List.range 32).all fun i => twCfgOk (cut r.payload (4 + 16 * i) 16)) = true := fun hall =>
    Bool.false_ne_true (hf.symm.trans (List.all_eq_true.mp hall i (List.mem_range.mpr hi)))
  rw [fabTw, onReq_called h]
  dsimp only
  rw [h0, if_neg (by decide : ¬(0 : Nat) = 2), if_neg hbad, ite_self]

theorem fabTwEffect_fab {t : Nat} {x : Tab TwCfg} (hp : b.fab.twPend = [(t, x)]) (ht : t ≤ b.time.epoch) :
    b.fabTwEffect.fab.tw = x ∧ b.fabTwEffect.fab.twPend = [] ∧
      b.fabTwEffect.fab.unpaired = b.fab.unpaired.filter fun w => tget twD b.fab.tw w.group == tget twD x w.group := by
  rw [Block.fabTwEffect, hp, filter_due _ ht, filter_later _ ht, List.foldl_cons, List.foldl_nil]
  exact ⟨rfl, rfl, rfl⟩

theorem fabAccess_read (h : Called 0x0A0B r b) (h2 : fld r.payload 0 1 = 2) (hz : allZero (cut r.payload 1 3) = true)
    (hr : ∀ i, i < 32 → allZero (cut r.payload (9 + 8 * i) 3) = true) :
    fabAccess r b = b.ok r (leBytes 1 2 ++ zeros 3 ++ b.fab.access.flatMap fun a =>
      leBytes 2 a.addr ++ leBytes 2 a.mask ++ leBytes 1 a.auth ++ zeros 3) := by
  have hgood : (!allZero (cut r.payload 1 3) || ((2 : Nat) != 0 && (2 : Nat) != 2)) = false := by rw [hz]; rfl
  have hres : ((List.range 32).all fun i => allZero (cut r.payload (9 + 8 * i) 3)) = true :=
    List.all_eq_true.mpr fun i hi => hr i (List.mem_range.mp hi)
  rw [fabAccess, onReq_called h]
  dsimp only
  rw [h2, hgood, if_neg Bool.false_ne_true, hres, Bool.not_true, if_neg Bool.false_ne_true, if_pos rfl]

theorem fabAccess_write (h : Called 0x0A0B r b) (h0 : fld r.payload 0 1 = 0) (hz : allZero (cut r.payload 1 3) = true)
    (hr : ∀ i, i < 32 → allZero (cut r.payload (9 + 8 * i) 3) = true)
    (ha : ∀ a, a ∈ accessOfBytes r.payload → a.auth ≤ 3 ∨ a.auth = 255) : fabAccess r b = b.journal false 0x0A0B r := by
  have hgood : (!allZero (cut r.payload 1 3) || ((0 : Nat) != 0 && (0 : Nat) != 2)) = false := by rw [hz]; rfl
  have hres : ((List.range 32).all fun i => allZero (cut r.payload (9 + 8 * i) 3)) = true :=
    List.all_eq_true.mpr fun i hi => hr i (List.mem_range.mp hi)
  have hauth : ((accessOfBytes r.payload).all fun a => decide (a.auth ≤ 3) || a.auth == 255) = true :=
    List.all_eq_true.mpr fun a hm => by rw [Bool.or_eq_true, decide_eq_true_eq, beq_iff_eq]; exact ha a hm
  rw [fabAccess, onReq_called h]
  dsimp only
  rw [h0, hgood, if_neg Bool.false_ne_true, hres, Bool.not_true, if_neg Bool.false_ne_true, if_neg (by decide), hauth, if_pos rfl]

/-! ### `fab.whisk` and `fab.call` -/

/-- The fields of a `fab.whisk` are in range (R416). -/
structure WhiskFields (p : List Byte) (w f n : Nat) : Prop where
  at_ : fld p 0 8 = w
  flags : fld p 10 1 = f
  known : f ≤ 7
  one : bitOf f 0 = false ∨ bitOf f 1 = false
  cast : bitOf f 2 = true → bitOf f 0 = true ∨ bitOf f 1 = true
  rsv : fld p 11 1 = 0
  wait : fld p 12 2 = n
  waits : 1 ≤ n
  waitMax : n ≤ 1000
  zero : fld p 14 2 = 0

theorem fabWhisk_of {w f : Nat} (h : Called 0x0A09 r b) (hw : WhiskFields r.payload w f n) :
    fabWhisk r b = if 0 ≤ dist64 b.ns64 w then b.status r stLATE
      else if (b.snap.arm.any fun a => a.at_ != w || a.source == 2) = true then b.status r stCONFLICT
      else Block.fabSend 3 (fld r.payload 8 2) (bitOf f 0) (bitOf f 1) (bitOf f 2) false (.bytes (leBytes 8 w)) { b with
        snap := { b.snap with arm := some (b.snap.arm.getD { at_ := w, source := 3, armedAt := b.ns64 }) }
        fab := { b.fab with whisks := b.fab.whisks ++ [{ req := r, w := w, epoch := b.time.epoch, dueAt := b.now + n * msE }] } } := by
  obtain ⟨hat, hf, h7, hone, hcast, h11, hwait, h1, hmax, h14⟩ := hw
  have hgood : (decide (7 < f) || bitOf f 0 && bitOf f 1 || bitOf f 2 && !bitOf f 0 && !bitOf f 1 || decide (n < 1) || decide (1000 < n) ||
      fld r.payload 11 1 != 0 || fld r.payload 14 2 != 0) = false := by
    rw [decide_eq_false (by omega), decide_eq_false (by omega), decide_eq_false (by omega), h11, h14]
    cases h0 : bitOf f 0 <;> cases h1 : bitOf f 1 <;> cases h2 : bitOf f 2 <;> simp_all
  rw [fabWhisk, onReq_called h]
  dsimp only
  rw [hf, hwait, hat, hgood, if_neg Bool.false_ne_true]

theorem fabCall_of {t : Nat} {i : List Byte} {c : Call} (h : Called 0x0A0A r b) (ht : fld r.payload 2 2 = t) (h10 : 10 ≤ t) (hmax : t ≤ 10000)
    (hi : r.payload.drop 4 = i) (h16 : 16 ≤ i.length) (h4092 : i.length ≤ 4092) (hlen : fld i 10 2 + 16 = i.length)
    (hcmd : fld i 2 2 ≠ 0x0A0A)
    (hc : c = { req := r, target := fld r.payload 0 2, level := b.authOf r.client, dueAt := b.now + t * msE, inner := i }) :
    fabCall r b = match b.fab.outs.find? fun o => o.target == c.target && o.level == c.level with
      | some o => Block.callSend c o.client { b with fab := { b.fab with calls := b.fab.calls ++ [{ c with sent := true }] } }
      | none => if b.fab.calls.any fun d => d.target == c.target && d.level == c.level && !d.sent then
          { b with fab := { b.fab with calls := b.fab.calls ++ [c] } }
        else Block.sessSend c.target 0 c.level 0 [] { b with fab := { b.fab with calls := b.fab.calls ++ [c] } } := by
  have hgood : (decide (t < 10) || decide (10000 < t) || decide (i.length < 16) || decide (4092 < i.length) ||
      fld i 10 2 + 16 != i.length || fld i 2 2 == 0x0A0A) = false := by
    rw [decide_eq_false (by omega), decide_eq_false (by omega), decide_eq_false (by omega), decide_eq_false (by omega), hlen,
      bne_self_eq_false, beq_eq_false_iff_ne.mpr hcmd]; rfl
  rw [fabCall, onReq_called h]
  dsimp only
  rw [hi, ht, hgood, if_neg Bool.false_ne_true, hc] <;> rfl

end

/-- Settles O55: the arm of each command under its condition. -/
theorem netAndFabMailboxCommandsComplete : Obligations.NetAndFabMailboxCommandsComplete := by
  refine ⟨fun s r h => congrArg s.done ?_, fun s => rfl, fun s r op b h ho h1 hz hb => congrArg s.done (netStat_of h ho h1 hz hb),
    fun s r h => congrArg s.done ?_, fun s => rfl, fun s r h h0 => congrArg s.done ?_, fun s r h h0 => congrArg s.done ?_,
    fun s r h h0 => congrArg s.done ?_, fun s r m h hm => congrArg s.done ?_,
    fun s r h h0 h1 h255 => (fabNbr_of h h0 h1 h255).imp fun p ⟨hp, he⟩ => ⟨hp, congrArg s.done he⟩,
    fun s r op b h ho h1 hz hb => congrArg s.done (fabStat_of h ho h1 hz hb), fun s r h h2 hz => congrArg s.done (fabSig_read h h2 hz),
    fun s r h h0 hz hf => congrArg s.done (fabSig_write h h0 hz fun i hi => ?_), fun s r h h2 hz => congrArg s.done (fabTw_read h h2 hz),
    fun s r h h0 hz hf => congrArg s.done (fabTw_write h h0 hz hf), fun s r i h h0 hi hf => congrArg s.done (fabTw_bad h h0 hi hf),
    fun s t x hp ht => ⟨_, rfl, fabTwEffect_fab hp ht⟩, fun s r n h hn h1 h64 hz => congrArg s.done ?_,
    fun s r w n f h hw hf h7 hone hcast h11 hn h1 hmax h14 hd ha => congrArg s.done ?_,
    fun s r w f h hw hf h7 hone hcast h11 h1 hmax h14 hd => congrArg s.done ?_,
    fun s r w f a h hw hf h7 hone hcast h11 h1 hmax h14 hd ha hc => congrArg s.done ?_,
    fun s r t i c h ht h10 hmax hi h16 h4092 hlen hcmd hc => congrArg s.done ?_,
    fun s r h h2 hz hr => congrArg s.done (fabAccess_read h h2 hz hr), fun s r h h0 hz hr ha => congrArg s.done (fabAccess_write h h0 hz hr ha)⟩
  · rw [netCfg, onReq_called h]
  · rw [fabCfg, onReq_called h]
    dsimp only
    exact ite_congr rfl (fun _ => rfl) fun _ => ite_iff _ _ (by rw [Bool.and_eq_true, decide_eq_true_iff])
  · rw [fabRouteWrite, onOp_of (by rw [h0]; rfl) h]
    dsimp only
    rw [h0]
    refine ite_refused _ _ ?_
    simp only [bne_self_eq_false, Bool.false_or, Bool.or_eq_true, decide_eq_true_eq, bne_iff_ne]
    omega
  · rw [fabRouteUnpin, onOp_of (op_is h0) h]
    refine ite_refused _ _ ?_
    simp only [Bool.or_eq_true, decide_eq_true_eq, bne_iff_ne]
    omega
  · rw [fabRouteRead, onOp_of (op_is h0) h]
    refine ite_refused _ _ ?_
    simp only [Bool.or_eq_true, decide_eq_true_eq, bne_iff_ne]
    omega
  · rw [fabInvalidate, onReq_called h]
    dsimp only
    rw [hm]
    refine ite_refused _ _ ?_
    simp only [Bool.or_eq_true, decide_eq_true_eq, bne_iff_ne]
    omega
  · obtain ⟨h15, h7, hone, hcast⟩ := hf i hi
    rw [sigFits, decide_eq_true h15, h7]
    cases h1 : bitOf (fld r.payload (6 + 4 * i) 1) 1 <;> cases h2 : bitOf (fld r.payload (6 + 4 * i) 1) 2 <;>
      cases h3 : bitOf (fld r.payload (6 + 4 * i) 1) 3 <;> simp_all
  · rw [fabTwloc, onReq_called h]
    dsimp only
    rw [hn, if_neg]
    simp only [hz, Bool.not_true, Bool.or_false, Bool.or_eq_true, decide_eq_true_eq]
    omega
  · rw [fabWhisk_of h ⟨hw, hf, h7, hone, hcast, h11, hn, h1, hmax, h14⟩, if_neg (by omega), if_neg]
    rw [Option.any_eq_true]
    rintro ⟨a, hs, hc⟩
    obtain ⟨hat, hsrc⟩ := ha a hs
    rw [Bool.or_eq_true, bne_iff_ne, beq_iff_eq] at hc
    exact hc.elim (· hat) hsrc
  · rw [fabWhisk_of h ⟨hw, hf, h7, hone, hcast, h11, rfl, h1, hmax, h14⟩, if_pos hd]
  · rw [fabWhisk_of h ⟨hw, hf, h7, hone, hcast, h11, rfl, h1, hmax, h14⟩, if_neg (by omega), if_pos]
    rw [ha, Option.any_some, Bool.or_eq_true, bne_iff_ne, beq_iff_eq]
    exact hc
  · exact fabCall_of h ht h10 hmax hi h16 h4092 hlen hcmd hc

end Sys2Proof.Machine
end

section
-- One declaration after another: the check compiles the whole text under a memory limit.
set_option Elab.async false
/-! SUPPORT. The `rec.` and `dist.` commands. -/

namespace Sys2Proof.Machine
open Sys2Proof

section
variable {b : Block} {r : Req} {f n : Nat}

/-! ### `rec.cfg` -/

/-- The range of a `rec.cfg` is a good one (R465). -/
theorem recCfg_range (h1 : fld r.payload 1 1 = 0) (h6 : fld r.payload 6 2 = 0) (hn1 : 1 ≤ n) (hmax : n ≤ 512) (hfn : f + n ≤ 512) :
    (fld r.payload 1 1 != 0 || fld r.payload 6 2 != 0 || decide (n = 0) || decide (512 < n) || decide (512 < f + n)) = false := by
  rw [h1, h6, decide_eq_false (by omega), decide_eq_false (by omega), decide_eq_false (by omega)]; rfl

theorem recCfg_read (h : Called 0x0B04 r b) (h0 : fld r.payload 0 1 = 2) (h1 : fld r.payload 1 1 = 0) (hf : fld r.payload 2 2 = f)
    (hn : fld r.payload 4 2 = n) (h6 : fld r.payload 6 2 = 0) (hn1 : 1 ≤ n) (hmax : n ≤ 512) (hfn : f + n ≤ 512)
    (hl : r.payload.length = 8) : recCfg r b = b.ok r ((List.range n).flatMap fun i =>
      leBytes 2 (tget colD b.evr.col (f + i)).rate ++ leBytes 1 (tget colD b.evr.col (f + i)).burst ++ zeros 1) := by
  have hgood : ((2 : Nat) != 0 && (2 : Nat) != 2 || fld r.payload 1 1 != 0 || fld r.payload 6 2 != 0 || decide (n = 0) || decide (512 < n) ||
      decide (512 < f + n)) = false := by
    rw [h1, h6, decide_eq_false (by omega), decide_eq_false (by omega), decide_eq_false (by omega)]; rfl
  rw [recCfg, onReq_called h]
  dsimp only
  rw [h0, hf, hn, hgood, if_neg Bool.false_ne_true, if_pos rfl, if_pos hl]

/-- The colander that entry i of a `rec.cfg` write gives is a good one (R465). -/
def colanderFits (p : List Byte) (i : Nat) : Prop :=
  fld p (8 + 4 * i) 2 ≤ 1000 ∧ 1 ≤ fld p (10 + 4 * i) 1 ∧ fld p (11 + 4 * i) 1 = 0

theorem recCfg_all {p : List Byte} (hn : fld p 4 2 = n) :
    ((recCfgOf p).all (fun c => decide (c.1 ≤ 1000) && decide (1 ≤ c.2)) && (List.range n).all fun i => fld p (11 + 4 * i) 1 == 0) = true ↔
      ∀ i, i < n → colanderFits p i := by
  rw [recCfgOf, hn, Bool.and_eq_true, List.all_map, List.all_eq_true, List.all_eq_true]
  simp only [List.mem_range, Function.comp_apply, Bool.and_eq_true, decide_eq_true_eq, beq_iff_eq, colanderFits]
  exact ⟨fun ⟨hc, hz⟩ i hi => ⟨(hc i hi).1, (hc i hi).2, hz i hi⟩, fun hall => ⟨fun i hi => ⟨(hall i hi).1, (hall i hi).2.1⟩, fun i hi => (hall i hi).2.2⟩⟩

theorem recCfg_write (h : Called 0x0B04 r b) (h0 : fld r.payload 0 1 = 0) (h1 : fld r.payload 1 1 = 0) (hf : fld r.payload 2 2 = f)
    (hn : fld r.payload 4 2 = n) (h6 : fld r.payload 6 2 = 0) (hn1 : 1 ≤ n) (hmax : n ≤ 512) (hfn : f + n ≤ 512)
    (hl : r.payload.length = 8 + 4 * n) (hall : ∀ i, i < n → colanderFits r.payload i) : recCfg r b = b.journal false 0x0B04 r := by
  have hgood : ((0 : Nat) != 0 && (0 : Nat) != 2 || fld r.payload 1 1 != 0 || fld r.payload 6 2 != 0 || decide (n = 0) || decide (512 < n) ||
      decide (512 < f + n)) = false := by
    rw [h1, h6, decide_eq_false (by omega), decide_eq_false (by omega), decide_eq_false (by omega)]; rfl
  rw [recCfg, onReq_called h]
  dsimp only
  rw [h0, hf, hn, hgood, if_neg Bool.false_ne_true, if_neg (by decide), hl, bne_self_eq_false, if_neg Bool.false_ne_true,
    if_pos ((recCfg_all hn).mpr hall)]

theorem recCfg_bad (h : Called 0x0B04 r b) (hf : fld r.payload 2 2 = f) (hn : fld r.payload 4 2 = n)
    (hb : (fld r.payload 0 1 ≠ 0 ∧ fld r.payload 0 1 ≠ 2) ∨ fld r.payload 1 1 ≠ 0 ∨ fld r.payload 6 2 ≠ 0 ∨ n = 0 ∨ 512 < n ∨ 512 < f + n ∨
      (fld r.payload 0 1 = 0 ∧ ∃ i, i < n ∧ ¬colanderFits r.payload i)) : recCfg r b = b.status r stBADARG := by
  rw [recCfg, onReq_called h]
  dsimp only
  rw [hf, hn]
  by_cases hr : ((fld r.payload 0 1 != 0 && fld r.payload 0 1 != 2) || fld r.payload 1 1 != 0 || fld r.payload 6 2 != 0 || decide (n = 0) ||
      decide (512 < n) || decide (512 < f + n)) = true
  · rw [if_pos hr]
  · rw [if_neg hr]
    simp only [Bool.or_eq_true, Bool.and_eq_true, bne_iff_ne, decide_eq_true_eq] at hr
    obtain ⟨h0, i, hi, hbad⟩ : fld r.payload 0 1 = 0 ∧ ∃ i, i < n ∧ ¬colanderFits r.payload i := by grind
    rw [h0, if_neg (by decide), if_neg (mt (recCfg_all hn).mp fun hall => hbad (hall i hi)), ite_self]

/-! ### The settings of the disturbance recorder -/

/-- The settings in force and those that wait. -/
def Block.distCfgs (b : Block) : DistCfg × List (Nat × DistCfg) := (b.dist.cfg, b.dist.cfgPend)

theorem distCfgs_congr {b' : Block} (h : b'.dist = b.dist) : b'.distCfgs = b.distCfgs := by simp only [Block.distCfgs, h]

theorem distFree_distCfgs (k : Nat) : (b.distFree k).distCfgs = b.distCfgs := by
  unfold Block.distFree
  split <;> rfl

theorem distReserve_distCfgs (fuel : Nat) (b : Block) : (b.distReserve fuel).distCfgs = b.distCfgs := by
  induction fuel generalizing b with
  | zero =>
    unfold Block.distReserve
    dsimp only
    split
    · rfl
    · split <;> rfl
  | succ fuel ih =>
    unfold Block.distReserve
    dsimp only
    split
    · rfl
    · split
      · rfl
      · split
        · next f k hf _ =>
          obtain rfl := Nat.succ.inj hf
          split
          · exact (ih _).trans ((distCfgs_congr (raise_dist ..)).trans (distFree_distCfgs k))
          · rfl
        · rfl

theorem distEnd_distCfgs (t g : Bool) (c e : Nat) : (b.distEnd t g c e).distCfgs = b.distCfgs := by
  unfold Block.distEnd
  split
  · rfl
  · exact (distCfgs_congr (raiseIf_dist ..)).trans rfl

theorem distRestart_distCfgs : b.distRestart.distCfgs = b.distCfgs := distEnd_distCfgs ..

/-- A setting of the disturbance recorder takes effect: what is open ends, the levels are taken anew (R476). -/
def Block.distPut (b : Block) (c : DistCfg) : Block :=
  let b' : Block := { b.distRestart with
    dist := { b.distRestart.dist with
      cfg := c, d := c.d, start := if b.distRestart.dist.d == c.d then b.distRestart.dist.start else none, seen := 0 }
    bar := { b.distRestart.bar with recMask := c.mask } }
  Block.distReserve 64 { b' with dist := { b'.dist with trig := b'.trigLevels, seen := b'.chanLevels } }

theorem distPut_distCfgs (c : DistCfg) : (b.distPut c).distCfgs = (c, b.distCfgs.2) :=
  (distReserve_distCfgs ..).trans (congrArg (c, ·) (congrArg Prod.snd distRestart_distCfgs))

theorem distPuts_cfgs (l : List (Nat × DistCfg)) (b : Block) :
    (l.foldl (fun b x => b.distPut x.2) b).distCfgs = ((l.map Prod.snd).getLastD b.distCfgs.1, b.distCfgs.2) := by
  induction l generalizing b with
  | nil => rfl
  | cons x xs ih => rw [List.foldl_cons, ih, distPut_distCfgs, List.map_cons, List.getLastD_cons]

theorem distCfgEffect_eq : distCfgEffect b = (b.dist.cfgPend.filter fun x => decide (x.1 ≤ b.time.epoch)).foldl (fun b x => b.distPut x.2)
    { b with dist := { b.dist with cfgPend := b.dist.cfgPend.filter fun x => decide (b.time.epoch < x.1) } } := rfl

/-! ### The records -/

theorem distTrigger_of (h : Called 0x0C02 r b) : distTriggerCmd r b = if fld r.payload 0 4 ≠ 0 then b.status r stBADARG
    else if b.dist.cfg.en = false then b.status r stNOTREADY
    else match b.dist.open_ with
      | none => b.status r stBUSY
      | some k => Block.answer r stOK (b.time.epoch + 1) (leBytes 1 k ++ zeros 3) { b with dist := { b.dist with manual := true } } := by
  rw [distTriggerCmd, onReq_called h]
  refine ite_congr (propext bne_iff_ne) (fun _ => rfl) fun _ => ite_congr (propext ?_) (fun _ => rfl) fun _ => ?_
  · rw [Bool.not_eq_true']
  · rfl

theorem distList_of {m : Nat} {l : List (Nat × DRec)} (h : Called 0x0C03 r b) (hf : fld r.payload 0 1 = f) (hm : fld r.payload 1 1 = m)
    (hl : l = (b.dist.held.filter fun x => decide (f ≤ x.1)).take m) :
    distList r b = if 63 < f ∨ m = 0 ∨ 63 < m ∨ fld r.payload 2 2 ≠ 0 then b.status r stBADARG
      else b.ok r (leBytes 1 (if b.dist.cfg.en = false then 0 else if b.dist.open_ = none then 3 else if b.dist.recording then 2 else 1) ++
        leBytes 1 l.length ++ leBytes 1 b.dist.held.length ++ zeros 1 ++ leBytes 4 b.dist.free ++
          l.flatMap fun x => b.distEntry (b.cffSize x.1 x.2) x.1 x.2) := by
  have hst : (if (!b.dist.cfg.en) = true then 0 else if b.dist.open_.isNone = true then 3 else if b.dist.recording = true then 2 else 1) =
      if b.dist.cfg.en = false then 0 else if b.dist.open_ = none then 3 else if b.dist.recording = true then 2 else 1 := by
    simp only [Bool.not_eq_true', Option.isNone_iff_eq_none]
  rw [distList, onReq_called h]
  dsimp only
  rw [hf, hm, ← hl, hst]
  exact ite_iff _ _ (by simp only [Bool.or_eq_true, decide_eq_true_eq, bne_iff_ne, ne_eq, or_assoc])

theorem distMark_of {k : Nat} {d : DRec} {p : Bool} (hd : b.distNamed r = some (k, d)) : distMark p r b = Block.distReserve 64
    (Block.ok r [] { b with dist := { b.dist with recs := tset drecD b.dist.recs k (some { d with keep := p }) } }) := by
  rw [distMark, hd]

theorem distMark_none {p : Bool} (hd : b.distNamed r = none) : distMark p r b = b.status r stBADARG := by rw [distMark, hd]

theorem distKeep_of (h : Called 0x0C04 r b) (ho : fld r.payload 1 1 = 0 ∨ 2 < fld r.payload 1 1) : distKeep r b = distMark true r b :=
  onOp_of (by rw [Bool.or_eq_true, beq_iff_eq, decide_eq_true_eq]; exact ho) h

theorem distRelease_of (h : Called 0x0C04 r b) (ho : fld r.payload 1 1 = 1) : distRelease r b = distMark false r b := onOp_of (op_is ho) h

end

/-- Settles O56: the arm of each command under its condition. -/
theorem recAndDistCommandsComplete : Obligations.RecAndDistCommandsComplete := by
  refine ⟨fun s r n h hn => congrArg s.done ?_, fun s r f n h hf hn => congrArg s.done ?_, fun s r h => congrArg s.done ?_,
    fun s r f n h h0 h1 hf hn h6 hn1 hmax hfn hl => congrArg s.done (recCfg_read h h0 h1 hf hn h6 hn1 hmax hfn hl),
    fun s r f n h h0 h1 hf hn h6 hn1 hmax hfn hl hall => congrArg s.done (recCfg_write h h0 h1 hf hn h6 hn1 hmax hfn hl hall),
    fun s r f n h hf hn hb => congrArg s.done (recCfg_bad h hf hn ?_), fun s => rfl, fun s => rfl,
    fun s hst hsd hh hi => ⟨_, rfl, ?_⟩, fun s r h h2 => congrArg s.done ?_, fun s r h h2 => congrArg s.done ?_, fun s => ⟨_, rfl, ?_⟩,
    fun s r h => congrArg s.done (distTrigger_of h), fun s r f m l h hf hm hl => congrArg s.done (distList_of h hf hm hl), ?_, ?_,
    fun s r k d h h2 hd => congrArg s.done ?_, fun s k d hd hl => congrArg s.done ?_, fun s => rfl⟩
  · rw [recNotes, onReq_called h]
    dsimp only
    rw [hn]
    exact ite_iff _ _ (by simp only [Bool.or_eq_true, decide_eq_true_eq, Bool.not_eq_true', or_assoc])
  · rw [recCode, onReq_called h]
    dsimp only
    rw [hf, hn]
    exact ite_iff _ _ (by simp only [Bool.or_eq_true, decide_eq_true_eq, Bool.not_eq_true', or_assoc])
  · rw [recIndex, onReq_called h, Block.indexHead]
    exact ite_refused _ _ (by rw [Bool.not_eq_true', Bool.not_eq_true])
  · refine hb.imp_right (.imp_right (.imp_right (.imp_right (.imp_right (.imp_right ?_)))))
    rintro ⟨h0, i, hi, hbad⟩
    refine ⟨h0, i, hi, fun ⟨h8, h10, h11⟩ => ?_⟩
    omega
  · rw [Block.hourly, hst, hsd, hh, decide_eq_true hi]
    exact ⟨rfl, rfl⟩
  · rw [distCfg, onReq_called h]
    exact if_pos h2
  · rw [distCfg, onReq_called h]
    dsimp only
    rw [if_neg h2]
    refine ite_refused _ _ ?_
    rw [Bool.or_eq_true, bne_iff_ne, Bool.not_eq_true', Classical.not_and_iff_not_or_not, Bool.not_eq_true]
  · have hset := distPuts_cfgs (s.blk.dist.cfgPend.filter fun x => decide (x.1 ≤ s.blk.time.epoch))
      { s.blk with dist := { s.blk.dist with cfgPend := s.blk.dist.cfgPend.filter fun x => decide (s.blk.time.epoch < x.1) } }
    rw [← distCfgEffect_eq] at hset
    exact Prod.mk.inj hset
  · rintro s r i k d p h (⟨h0, rfl, rfl⟩ | ⟨h1, rfl, rfl⟩) hd
    · exact congrArg s.done ((distKeep_of h (.inl h0)).trans (distMark_of hd))
    · exact congrArg s.done ((distRelease_of h h1).trans (distMark_of hd))
  · rintro s r i h (⟨h0, rfl⟩ | ⟨h1, rfl⟩ | ⟨h2, rfl⟩ | ⟨h3, rfl⟩) hd
    · exact congrArg s.done ((distKeep_of h (.inl h0)).trans (distMark_none hd))
    · exact congrArg s.done ((distRelease_of h h1).trans (distMark_none hd))
    · refine congrArg s.done ?_
      rw [distDelete, onOp_of (op_is h2) h, hd]
    · exact congrArg s.done ((distKeep_of h (.inr h3)).trans (distMark_none hd))
  · rw [distDelete, onOp_of (op_is h2) h, hd]
  · rw [Block.recordClose, hd]
    exact if_pos hl

end Sys2Proof.Machine
end

section
-- One declaration after another: the check compiles the whole text under a memory limit.
set_option Elab.async false
/-! SUPPORT. The `snap.` and `upd.` commands; what the reset of the settings keeps of a staging. -/

namespace Sys2Proof.Machine
open Sys2Proof

section
variable {b : Block} {r : Req}

/-! ### The staging, the hold of the rings and the running slot -/

/-- The staging in progress, the instant to which a handover holds the rings, and the slot that runs. -/
def Block.staged (b : Block) : Staging × Nat × Bool := (b.nv.stg, b.mbx.ringsFrom, b.sys.slotB)

theorem staged_congr {b' : Block} (hn : b'.nv = b.nv) (hm : b'.mbx = b.mbx) (hs : b'.sys = b.sys) : b'.staged = b.staged := by
  simp only [Block.staged, hn, hm, hs]

theorem sieve_staged (n : Nat) (st : Stamp) (q : Option Int) (u : Nat) (b : Block) : (b.sieve n st q u).staged = b.staged := by
  unfold Block.sieve
  dsimp only
  split <;> rfl

theorem raiseAt_staged (n : Nat) (st : Stamp) (q : Option Int) (u : Nat) (b : Block) : (b.raiseAt n st q u).staged = b.staged := by
  unfold Block.raiseAt
  split
  · dsimp only
    rw [sieve_staged]
    cases q <;> rfl
  · rfl

theorem raise_staged (n : Nat) (q : Int) (b : Block) : (b.raise n q).staged = b.staged := raiseAt_staged ..

theorem raiseOpen_staged (n : Nat) (b : Block) : (b.raiseOpen n).staged = b.staged := raiseAt_staged ..

theorem raiseIf_staged (c : Bool) (n : Nat) (q : Int) (b : Block) : (b.raiseIf c n q).staged = b.staged := by
  unfold Block.raiseIf
  split
  · exact raise_staged ..
  · rfl

theorem timeCfgApply_staged (c : TimeCfg) (b : Block) : (b.timeCfgApply c).staged = b.staged := by
  unfold Block.timeCfgApply
  dsimp only
  split
  · unfold Block.setTState
    dsimp only
    split
    · rfl
    · exact (raiseIf_staged ..).trans (raise_staged ..)
  · rfl

theorem goDown_staged (p : Nat) (b : Block) : (b.goDown p).staged = b.staged := by
  unfold Block.goDown
  split
  · exact raiseOpen_staged ..
  · rfl

theorem staged_of_outside {P : List Part} {b' : Block} (h : b'.outside P = b.outside P) (hn : .nv ∉ P := by simp) (hm : .mbx ∉ P := by simp)
    (hs : .sys ∉ P := by simp) : b'.staged = b.staged :=
  staged_congr (nv_of_outside h hn) (mbx_of_outside h hm) (sys_of_outside h hs)

theorem putPort_staged (p : Nat) (f : PortSt → PortSt) (b : Block) : (b.putPort p f).staged = b.staged :=
  staged_of_outside (P := [.net]) (putPort_outside _ _ _ (by simp))

theorem flush_staged (p : Nat) (b : Block) : (b.flush p).staged = b.staged := by
  unfold Block.flush
  dsimp only
  rw [putPort_staged]
  exact foldl_keeps Block.staged _ (fun _ _ => foldl_keeps Block.staged _ (fun _ _ => (raise_staged ..).trans (putPort_staged ..)) _ _) _ _

theorem netApply_staged (c : NetCfg) (b : Block) : (b.netApply c).staged = b.staged := by
  unfold Block.netApply
  dsimp only
  refine Eq.trans (b := Block.staged (List.foldl _ _ _)) rfl ?_
  exact foldl_keeps Block.staged _ (fun _ _ => (putPort_staged ..).trans ((flush_staged ..).trans (goDown_staged ..))) _ _

theorem reroute_staged (b : Block) : b.reroute.staged = b.staged := by
  unfold Block.reroute
  split
  · rfl
  · dsimp only
    rw [raiseIf_staged]
    refine staged_of_outside (P := [.fab]) ((outside_foldl_snd (fun x i => ?_) _ _).trans (outside_foldl_snd (fun x i => ?_) _ _))
    · simp [apply_ite Prod.snd]
    · simp [apply_ite Prod.snd]

theorem nbrDown_staged (a l : Nat) (b : Block) : (b.nbrDown a l).staged = b.staged := by
  unfold Block.nbrDown
  split
  · rfl
  · split
    · rfl
    · exact (reroute_staged ..).trans (raise_staged ..)

theorem lportDown_staged (l : Nat) (b : Block) : (b.lportDown l).staged = b.staged := by
  unfold Block.lportDown
  split
  · rfl
  · exact foldl_keeps Block.staged _ (fun _ _ => nbrDown_staged ..) _ _

theorem netEffect_staged (b : Block) : b.netEffect.staged = b.staged :=
  (foldl_keeps Block.staged _ (fun _ _ => lportDown_staged ..) _ _).trans (foldl_keeps Block.staged _ (fun _ _ => netApply_staged ..) _ _)

theorem sessClose_staged (c : Nat) (b : Block) : (b.sessClose c).staged = b.staged := by
  unfold Block.sessClose
  split
  · rfl
  · exact raise_staged ..

theorem sessCloses_staged (c : Bool) (l : List Nat) (b : Block) :
    (if c = true then l.foldl (fun b i => b.sessClose (128 + i)) b else b).staged = b.staged := by
  split
  · exact foldl_keeps Block.staged _ (fun _ _ => sessClose_staged ..) _ _
  · rfl

theorem fabApply_staged (c : FabCfg) (b : Block) : (b.fabApply c).staged = b.staged := by
  have hclose := sessCloses_staged (b.fab.cfg.addr != c.addr) (List.range 128) b
  unfold Block.fabApply
  dsimp only
  rw [reroute_staged]
  unfold Block.staged at hclose ⊢
  exact hclose

theorem distReserve_staged (fuel : Nat) (b : Block) : (b.distReserve fuel).staged = b.staged := by
  induction fuel generalizing b with
  | zero =>
    unfold Block.distReserve
    dsimp only
    split
    · rfl
    · split <;> rfl
  | succ fuel ih =>
    unfold Block.distReserve
    dsimp only
    split
    · rfl
    · split
      · rfl
      · split
        · next f k hf _ =>
          obtain rfl := Nat.succ.inj hf
          split
          · refine (ih _).trans ((raise_staged ..).trans ?_)
            unfold Block.distFree
            split <;> rfl
          · rfl
        · rfl

theorem distPut_staged (c : DistCfg) (b : Block) : (b.distPut c).staged = b.staged := by
  refine (distReserve_staged ..).trans ?_
  change (b.distEnd true false 0 b.now).staged = b.staged
  unfold Block.distEnd
  split
  · rfl
  · exact raiseIf_staged ..

theorem houseEffect_staged (b : Block) : (houseEffect b).staged = b.staged :=
  staged_of_outside (P := [.cnv]) (houseEffect_outside b (by simp))

theorem timeCfgEffect_staged (b : Block) : (timeCfgEffect b).staged = b.staged :=
  foldl_keeps Block.staged _ (fun _ _ => timeCfgApply_staged ..) _ _

theorem fabCfgEffect_staged (b : Block) : b.fabCfgEffect.staged = b.staged :=
  foldl_keeps Block.staged _ (fun _ _ => fabApply_staged ..) _ _

theorem fabTwEffect_staged (b : Block) : b.fabTwEffect.staged = b.staged :=
  staged_of_outside (P := [.fab]) (fabTwEffect_outside b (by simp))

theorem distCfgEffect_staged (b : Block) : (distCfgEffect b).staged = b.staged := by
  rw [distCfgEffect_eq]
  refine Eq.trans (foldl_keeps Block.staged (fun (b : Block) (x : Nat × DistCfg) => b.distPut x.2) (fun b x => distPut_staged x.2 b) _ _) ?_
  rfl

theorem cfgDefaults_staged (b : Block) : b.cfgDefaults.staged = b.staged := by
  unfold Block.cfgDefaults
  dsimp only
  rw [distCfgEffect_staged, fabTwEffect_staged, fabCfgEffect_staged, netEffect_staged, timeCfgEffect_staged, houseEffect_staged]
  rfl

/-! ### Snapshots -/

theorem snapRelease_of (h : Called 0x0D03 r b) : snapRelease r b = match b.snap.state with
    | .empty => b.status r stNOTREADY
    | .latching => b.status r stBUSY
    | .held => if fld r.payload 0 4 ≠ b.snap.hdr.snapId then b.status r stBADARG
      else Block.ok r [] { b with snap := { b.snap with state := .empty, hdr := {}, data := [] } } := by
  rw [snapRelease, onReq_called h]
  cases b.snap.state with
  | empty => rfl
  | latching => rfl
  | held => exact ite_iff _ _ bne_iff_ne

/-! ### Beginning and starting an update -/

theorem updActivate_of {f : Nat} {g : Staging} (h : Called 0x0E05 r b) (hf : fld r.payload 0 4 = f) (hg : b.nv.stg = g) :
    updActivate r b = if b.activating then b.status r stBUSY else if 1 < f then b.status r stBADARG
      else if g.state ≠ .complete then b.status r stNOTREADY
      else if b.sys.recovery = false ∧ ((g.hdr.cfgFmt / 256 ≠ b.runHdr.cfgFmt / 256 ∧ f = 0) ∨
        ∃ x, x ∈ b.protFormats ∧ ¬(g.hdr.pcfOldest ≤ x ∧ x ≤ g.hdr.pcf)) then b.status r stBADARG
      else if b.sys.recovery = false ∧ ((List.range 8).any fun k => (b.slot k).state == .run) = true ∧ b.spare = none then
        b.status r stNOTREADY
      else if b.keyRunning then b.status r stBUSY else if b.nv.logLeft < 2 then b.status r stWORN
      else { b with nv := { b.nv with stg := { g with
        state := .verifying, req := some r, step := 0
        cfgReset := g.hdr.cfgFmt / 256 != b.runHdr.cfgFmt / 256 && !b.sys.recovery, moved := 0 } } } := by
  rw [updActivate, onReq_called h]
  dsimp only
  rw [hf, hg]
  refine ite_congr rfl (fun _ => rfl) fun _ => ite_congr rfl (fun _ => rfl) fun _ => ite_congr (propext bne_iff_ne) (fun _ => rfl) fun _ =>
    ite_congr (propext ?_) (fun _ => rfl) fun _ => ite_congr (propext ?_) (fun _ => rfl) fun _ => rfl
  · simp only [Bool.and_eq_true, Bool.or_eq_true, Bool.not_eq_true', bne_iff_ne, ne_eq, beq_iff_eq, List.all_eq_false, decide_eq_true_eq]
  · simp only [Bool.and_eq_true, Bool.not_eq_true', Option.isNone_iff_eq_none, and_assoc]

theorem updConfirm_of (h : Called 0x0E06 r b) : updConfirm r b = if b.activating ∨ b.nv.stg.confirm.isSome then b.status r stBUSY
    else if allZero r.payload = false then b.status r stBADARG
    else if b.nv.bootWord = (true, b.runSlot) then b.status r stOK else if b.nv.logLeft < 2 then b.status r stWORN
    else if b.flashBusy then b.status r stBUSY
    else if b.runHdr.arb ≤ b.nv.fuse then b.order (.boot true b.runSlot (some r))
    else { b with nv := { b.nv with stg := { b.nv.stg with confirm := some r } } } := by
  rw [updConfirm, onReq_called h]
  exact ite_congr (propext (by rw [Bool.or_eq_true])) (fun _ => rfl) fun _ =>
    ite_congr (propext (by rw [Bool.not_eq_true'])) (fun _ => rfl) fun _ => rfl

/-! ### The steps of an activation -/

theorem verified_good (hs : b.nv.stg.state = .verifying) : b.verified true = if b.sys.recovery then
      Block.order (.boot false b.target b.nv.stg.req) { b with nv := { b.nv.putImg b.target { b.nv.imgSlot b.target with bootable := true } with
        stg := { b.nv.stg with state := .activating, step := 1, req := none } } }
    else { b with nv := { b.nv with stg := { b.nv.stg with state := .activating, step := 1 } } } := by
  unfold Block.verified
  dsimp only
  rw [hs, if_neg (by decide), Bool.not_true, if_neg Bool.false_ne_true]

theorem verified_bad (hs : b.nv.stg.state = .verifying) :
    b.verified false = (((b.actAnswer stBADSIG b.time.epoch []).stageEnd).raise 462 0) := by
  unfold Block.verified
  dsimp only
  rw [hs, if_neg (by decide), Bool.not_false, if_pos rfl]

theorem decrypted_of {ok : Bool} (hs : b.nv.stg.state = .activating) (h1 : b.nv.stg.step = 1) (hr : b.sys.recovery = false) :
    b.decrypted ok = if ok then { b with nv := { b.nv with stg := { b.nv.stg with step := 2 } } }
      else (b.actAnswer stBADTAG b.time.epoch []).stageEnd := by
  unfold Block.decrypted
  dsimp only
  rw [hs, h1, hr, if_neg (by decide)]
  cases ok <;> rfl

theorem blobChecked_of (hs : b.nv.stg.state = .activating) (h2 : b.nv.stg.step = 2) :
    b.blobChecked = if b.nv.stg.hdr.blobVer = b.runHdr.blobVer then { b with nv := { b.nv with stg := { b.nv.stg with step := 3 } } }
      else { b.actAnswer stNOTREADY b.time.epoch [] with nv := { (b.actAnswer stNOTREADY b.time.epoch []).nv with
        stg := { (b.actAnswer stNOTREADY b.time.epoch []).nv.stg with state := .complete, step := 0 } } } := by
  unfold Block.blobChecked
  dsimp only
  rw [hs, h2, if_neg (by decide)]

/-- The handover starts the new firmware, holds the rings and begins the roll (R27, R522). -/
theorem handover_staged {us : Nat} (hs : b.nv.stg.state = .activating) (h3 : b.nv.stg.step = 3) (hn : b.now = b.edgeNow) (hu : us ≤ 125) :
    (b.handover us).staged = ({ b.nv.stg with
      state := .rolling, step := 4, h := b.time.epoch, stored := [], recs := [], asmb := [], asmCnt := [] }, b.now + us * usE, b.target == 1) := by
  have hgo : (b.nv.stg.state != .activating || b.nv.stg.step != 3 || b.now != b.edgeNow || decide (125 < us)) = false := by
    rw [hs, h3, ← hn, bne_self_eq_false b.now, decide_eq_false (by omega)]; rfl
  have hpairs : ∀ (c : Block) (p : Nat), (let x := c.pair p
      let idle : Bool := match x.state with
        | .spare => true
        | .running => (match x.slot with | some s => (c.slot s).state == .empty | none => true)
        | _ => false
      if idle then c.putPair p { x with uc := c.ucNow } else c).staged = c.staged := by
    intro c p
    exact (apply_ite Block.staged _ _ _).trans (ite_self c.staged)
  unfold Block.handover
  dsimp only
  rw [hgo, if_neg Bool.false_ne_true]
  split
  · exact (raise_staged ..).trans ((cfgDefaults_staged _).trans ((foldl_keeps Block.staged _ hpairs _ _).trans (raise_staged ..)))
  · exact (foldl_keeps Block.staged _ hpairs _ _).trans (raise_staged ..)

theorem handover_fuse (us : Nat) : (b.handover us).nv.fuse = b.nv.fuse := fuse_of_outside (P := Part.all) (handover_outside us b (by simp))

theorem no_takeover (ht : ∀ k, k < 8 → (b.slot k).takeover = none) : ((List.range 8).any fun k => (b.slot k).takeover.isSome) = false :=
  List.any_eq_false.mpr fun k hk => by rw [ht k (List.mem_range.mp hk)]; exact Bool.false_ne_true

theorem rollMove_of {n : Nat} (hv : b.nv.stg.state ≠ .verifying) (ha : b.nv.stg.state ≠ .activating)
    (ht : ∀ k, k < 8 → (b.slot k).takeover = none) (ho : b.oldSlots.head? = some n) :
    b.rollMove n = if (b.slot n).running then
        match b.spare with
        | some q => { (b.putPair q { b.pair q with uc := b.ucNow }).takeoverStart n q 2 none with
            nv := { ((b.putPair q { b.pair q with uc := b.ucNow }).takeoverStart n q 2 none).nv with
              stg := { ((b.putPair q { b.pair q with uc := b.ucNow }).takeoverStart n q 2 none).nv.stg with
                moved := ((b.putPair q { b.pair q with uc := b.ucNow }).takeoverStart n q 2 none).nv.stg.moved + 1 } } }
        | none => b
      else match (b.slot n).pair.orElse fun _ => b.ownPair n with
        | some p => b.putPair p { b.pair p with uc := b.ucNow }
        | none => b := by
  unfold Block.rollMove
  dsimp only
  rw [beq_eq_false_iff_ne.mpr hv, beq_eq_false_iff_ne.mpr ha, no_takeover ht, ho, bne_self_eq_false, Bool.or_self, Bool.or_self, Bool.or_self,
    if_neg Bool.false_ne_true]
  cases (b.slot n).pair <;> rfl

theorem rollEnd_of (hs : b.nv.stg.state = .rolling) (ht : ∀ k, k < 8 → (b.slot k).takeover = none)
    (hj : ∀ j, j ∈ b.nv.jobs → ∀ k, j.job ≠ .boot false k none) (ho : b.oldSlots = [] ∨ b.spare = none) {b' : Block}
    (hb : b' = (b.actAnswer stOK b.nv.stg.h (leBytes 1 b.ucMask ++ zeros 3)).raise 464 b.nv.stg.moved) :
    b.rollEnd = { b' with nv := { b'.nv with stg := { confirm := b'.nv.stg.confirm } } } := by
  have hold : (!b.oldSlots.isEmpty && b.spare.isSome) = false := by
    rcases ho with ho | ho <;> rw [ho]
    · rfl
    · exact Bool.and_false _
  subst hb
  unfold Block.rollEnd
  dsimp only
  rw [hs, no_takeover ht, hold]
  refine if_neg ?_
  simp only [bne_self_eq_false, Bool.false_or, Bool.or_false, List.any_eq_true, not_exists, not_and]
  intro j hm
  split
  · next k hk => exact absurd hk (hj j hm k)
  · exact Bool.false_ne_true

/-! ### Flash -/

theorem fuseStep_of (hc : b.nv.stg.confirm = some r) (hf : b.nv.fuse < 64) :
    b.fuseStep.nv.fuse = b.nv.fuse + 1 ∧
      (b.runHdr.arb ≤ b.nv.fuse + 1 → b.fuseStep.nv.stg.confirm = none ∧ b.fuseStep.nv.jobs =
        b.nv.jobs ++ [{ job := .boot true b.runSlot (some r) }]) ∧
      (b.nv.fuse + 1 < b.runHdr.arb → b.fuseStep.nv.stg.confirm = some r ∧ b.fuseStep.nv.jobs = b.nv.jobs) := by
  have hsat : satN 64 (b.nv.fuse + 1) = b.nv.fuse + 1 := by rw [satN_succ, if_pos hf]
  refine ⟨by rw [fuseStep_fuse, hc, Option.isSome_some, if_pos rfl, hsat], fun ha => ?_, fun ha => ?_⟩
  all_goals
    rw [Block.fuseStep, hc]
    dsimp only
    rw [hsat]
  · rw [if_pos (by exact ha)]
    exact ⟨rfl, rfl⟩
  · rw [if_neg (by exact Nat.not_le.mpr ha)]
    exact ⟨hc, rfl⟩

end

/-- Settles O57: the arm of each command under its condition. -/
theorem snapAndUpdateCommandsComplete : Obligations.SnapAndUpdateCommandsComplete := by
  refine ⟨fun s r h => congrArg s.done ?_, fun s r o n h ho hn => congrArg s.done ?_, fun s r h => congrArg s.done ?_,
    fun s r f w h hf hw => congrArg s.done ?_, fun s r f e b h hf hb => congrArg s.done ?_, fun s r h => congrArg s.done ?_,
    fun s r h => congrArg s.done ?_, fun s r o h ho => congrArg s.done ?_,
    fun s r f g h hf hg => congrArg s.done (updActivate_of h hf hg), fun s hs => congrArg s.done (verified_good hs),
    fun s hs => congrArg s.done (verified_bad hs), fun s ok hs h1 hr => congrArg s.done (decrypted_of hs h1 hr),
    fun s hs h2 hv => congrArg s.done ?_, fun s hs h2 hv => ⟨_, rfl, congrArg s.done ?_⟩,
    fun s us hs h3 hn hu => ⟨_, rfl, ?_⟩, fun s n hv ha ht ho hr => congrArg s.done ?_, fun s n hv ha ht ho hr => congrArg s.done ?_,
    fun s hs ht hj ho => ⟨_, rfl, congrArg s.done (rollEnd_of hs ht hj ho rfl)⟩, fun s r h => congrArg s.done (updConfirm_of h),
    fun s r h => congrArg s.done ?_, fun s r h => congrArg s.done ?_, fun s d n ok hd hf => congrArg s.done ?_,
    fun s p d l hd hf hl => congrArg s.done ?_, fun s res => congrArg s.done ?_, fun s r hc hf => ⟨_, rfl, fuseStep_of hc hf⟩⟩
  · rw [snapInfo, onReq_called h]
    exact ite_iff _ _ bne_iff_ne
  · rw [snapRead, onReq_called h]
    dsimp only
    rw [ho, hn]
    exact ite_iff _ _ (by simp only [Bool.or_eq_true, decide_eq_true_eq, bne_iff_ne, ne_eq, or_assoc])
  · exact snapRelease_of h ▸ rfl
  · rw [snapFire, onReq_called h]
    dsimp only
    rw [hf, hw]
    exact ite_iff _ _ (by simp only [Bool.or_eq_true, Bool.and_eq_true, decide_eq_true_eq, beq_iff_eq, bne_iff_ne])
  · rw [updBegin, onReq_called h]
    dsimp only
    rw [hf, hb]
  · rw [updAbort, onReq_called h]
    exact ite_congr rfl (fun _ => rfl) fun _ => ite_refused _ _ (by rw [Bool.not_eq_true', Bool.not_eq_true])
  · rw [updFlash, onReq_called h]
    exact ite_congr rfl (fun _ => rfl) fun _ => ite_refused _ _ (by rw [Bool.not_eq_true', Bool.not_eq_true])
  · rw [updChain, onReq_called h]
    dsimp only
    rw [ho]
  · rw [blobChecked_of hs h2, if_pos hv]
  · rw [blobChecked_of hs h2, if_neg hv]
  · have hst := handover_staged hs h3 hn hu
    obtain ⟨hstg, hrest⟩ := Prod.mk.inj hst
    obtain ⟨hring, hslot⟩ := Prod.mk.inj hrest
    dsimp only
    rw [hstg]
    exact ⟨rfl, rfl, rfl, hslot, handover_fuse us, hring⟩
  · rw [rollMove_of hv ha ht ho, hr, if_pos rfl] <;> rfl
  · rw [rollMove_of hv ha ht ho, hr, if_neg Bool.false_ne_true] <;> rfl
  · rw [updState, onReq_called h]
  · rw [updKey, onReq_called h] <;> rfl
  · exact if_neg (not_or.mpr ⟨by omega, by rw [hf]; exact Bool.false_ne_true⟩)
  · rw [Block.compact, if_neg (not_or.mpr ⟨by omega, by rw [hf]; exact Bool.false_ne_true⟩), List.filter_eq_self.mpr fun n hn => beq_iff_eq.mpr (hl n hn)]
  · rw [Block.flashDone]
    cases s.blk.inFlight <;> rfl

end Sys2Proof.Machine
end

section
-- One declaration after another: the check compiles the whole text under a memory limit.
set_option Elab.async false
/-! SUPPORT. The `diag.` commands. -/

namespace Sys2Proof.Machine
open Sys2Proof

section
variable {b : Block} {r : Req} {p o : Nat} {mine : Nat → Bool} {go : Nat → Block → Block}

/-! ### `diag.wheel`, `diag.tongs` and `diag.shadow` -/

theorem diagWheelRead_of {f n : Nat} (h : Called 0x0F01 r b) (h0 : fld r.payload 0 1 = 1) (hn : fld r.payload 2 2 = n)
    (hf : fld r.payload 4 4 = f) : diagWheelRead r b = if fld r.payload 1 1 ≠ 0 ∨ n = 0 ∨ 255 < n ∨ 131072 < f + n then b.status r stBADARG
      else b.answer r stOK b.pin ((List.range n).flatMap fun i =>
        (tget timerR (if b.sys.elemRun then b.wheel.pub else b.wheel.timers) (f + i)).bytes (b.pin * 31250)) := by
  rw [diagWheelRead, onOp_of (op_is h0) h]
  dsimp only
  rw [h0, hn, hf, bne_self_eq_false, Bool.false_or]
  exact ite_iff _ _ (by simp only [Bool.or_eq_true, decide_eq_true_eq, bne_iff_ne, ne_eq, or_assoc])

theorem diagTongs_of {n : Nat} (h : Called 0x0F02 r b) (hn : fld r.payload 4 2 = n) :
    diagTongs r b = if n = 0 ∨ 1024 < n ∨ fld r.payload 6 2 ≠ 0 then b.status r stBADARG
      else match b.tongsRun (fld r.payload 0 4) n with
        | some (b, l) => b.ok r l
        | none => b.status r stBADARG := by
  rw [diagTongs, onReq_called h]
  dsimp only
  rw [hn]
  refine ite_congr rfl (fun _ => rfl) fun _ => ?_
  cases b.tongsRun (fld r.payload 0 4) n <;> rfl

theorem diagShadow_of {n : Nat} (h : Called 0x0F04 r b) (hp : fld r.payload 0 1 = p) (hn : fld r.payload 1 1 = n) :
    diagShadow r b = if 8 < p ∨ (7 < n ∧ n ≠ 255) ∨ fld r.payload 2 2 ≠ 0 then b.status r stBADARG
      else if (b.pair p).state ≠ .service then b.status r stNOTREADY
      else if n = 255 then (b.putSlot (8 + p) {}).status r stOK
      else match (b.slot n).img with
        | none => b.status r stNOTREADY
        | some i => (b.putSlot (8 + p) { img := some i, data := (b.slot n).data, ctxs := (b.slot n).ctxs, last := (b.slot n).last,
                                         shadow := some n }).status r stOK := by
  rw [diagShadow, onReq_called h]
  dsimp only
  rw [hp, hn]
  exact ite_congr rfl (fun _ => rfl) fun _ => ite_congr (propext bne_iff_ne) (fun _ => rfl) fun _ => rfl

/-! ### `diag.halt` -/

/-- The fields of a `diag.halt` of pair p are in range (R497). -/
structure HaltFields (r : Req) (p o : Nat) : Prop where
  pair : fld r.payload 0 1 = p
  pairs : p ≤ 8
  op : fld r.payload 1 1 = o
  ops : o ≤ 3
  bp : fld r.payload 2 1 ≤ 3
  rsv : fld r.payload 3 1 = 0

theorem diagHalt_of (h : Called 0x0F05 r b) (hf : HaltFields r p o) (hm : mine o = true) :
    diagHalt mine r go b = if b.halting p = false then (b.raise 498 p).status r stNOTREADY
      else if (o != 3 && (b.pair p).hreq.isSome) = true then b.status r stBUSY else go p b := by
  obtain ⟨hp, hp8, ho, ho3, hb, hr⟩ := hf
  rw [diagHalt, onOp_of (by rw [ho]; exact hm) h]
  dsimp only
  rw [hp, ho, if_neg (by omega)]
  exact ite_congr (propext (by rw [Bool.not_eq_true'])) (fun _ => rfl) fun _ => rfl

theorem diagHalt_accepted (h : Called 0x0F05 r b) (hf : HaltFields r p o) (hm : mine o = true) (hh : b.halting p = true)
    (hr : o = 3 ∨ (b.pair p).hreq = none) : diagHalt mine r go b = go p b := by
  have hbusy : (o != 3 && (b.pair p).hreq.isSome) = false := by
    rcases hr with hr | hr <;> rw [hr]
    · rfl
    · exact Bool.and_false _
  rw [diagHalt_of h hf hm, if_neg (by rw [hh]; exact Bool.noConfusion), hbusy, if_neg Bool.false_ne_true]

theorem diagHalt_refused (h : Called 0x0F05 r b) (hf : HaltFields r p o) (hm : mine o = true) (hh : b.halting p = false) :
    diagHalt mine r go b = (b.raise 498 p).status r stNOTREADY := by
  rw [diagHalt_of h hf hm, if_pos hh]

/-! ### `diag.route` -/

theorem diagRoute_of {f n : Nat} (h : Called 0x0F07 r b) (ho : fld r.payload 0 1 = o) (ho2 : o = 0 ∨ o = 2) (h1 : fld r.payload 1 1 = 0)
    (hf : fld r.payload 2 2 = f) (hn : fld r.payload 4 2 = n) (h6 : fld r.payload 6 2 = 0) (hn1 : 1 ≤ n) (hmax : n ≤ 512)
    (hfn : f + n ≤ 512) (hl : r.payload.length = if o = 0 then 8 + n else 8) :
    diagRoute r b = if o = 2 then b.ok r ((List.range n).flatMap fun i => leBytes 1 (tget routeD b.mbx.routes (f + i)))
      else if (r.payload.drop 8).all fun v => decide (v.toNat < 16) then b.journal false 0x0F07 r else b.status r stBADARG := by
  rw [diagRoute, onReq_called h]
  dsimp only
  rw [ho, hf, hn, ← hl, if_neg (by omega)]

end

/-- Settles O58: the arm of each command under its condition. -/
theorem diagCommandsComplete : Obligations.DiagCommandsComplete := by
  refine ⟨fun s r h h1 => congrArg s.done ?_, fun s r f n h h0 hn hf => congrArg s.done (diagWheelRead_of h h0 hn hf),
    fun s r n h hn => congrArg s.done ((diagTongs_of h hn).trans ?_), fun s r o l h ho hl => congrArg s.done ?_,
    fun s r p n h hp hn => congrArg s.done ((diagShadow_of h hp hn).trans ?_),
    fun s r p h hp h8 ho hb h3 hh hr => congrArg s.done (diagHalt_accepted h ⟨hp, h8, ho, by decide, hb, h3⟩ rfl hh (.inr hr)),
    fun s r p h hp h8 ho hb h3 hh hr => congrArg s.done (diagHalt_accepted h ⟨hp, h8, ho, by decide, hb, h3⟩ rfl hh (.inr hr)),
    fun s r p h hp h8 ho hb h3 hh hr => congrArg s.done (diagHalt_accepted h ⟨hp, h8, ho, by decide, hb, h3⟩ rfl hh (.inr hr)),
    fun s r p k h hp h8 ho hk hk3 h3 hh => congrArg s.done ?_, ?_, fun s r n t h hn ht => congrArg s.done ?_,
    fun s r f n h ho h1 hf hn h6 hn1 hmax hfn hl => congrArg s.done ?_,
    fun s r f n h ho h1 hf hn h6 hn1 hmax hfn hl => congrArg s.done ?_, fun s r h hb => congrArg s.done ?_, fun s => rfl,
    fun s r h => congrArg s.done ?_⟩
  · rw [diagWheelSummary, onOp_of (bne_iff_ne.mpr h1) h]
    refine ite_refused _ _ ?_
    rw [Bool.or_eq_true, bne_iff_ne, Bool.not_eq_true', Classical.not_and_iff_not_or_not, Bool.not_eq_true]
  · rfl
  · rw [diagDebug, onReq_called h]
    dsimp only
    rw [ho, hl]
  · rfl
  · subst hk
    exact diagHalt_accepted h ⟨hp, h8, ho, by decide, hk3, h3⟩ rfl hh (.inl rfl)
  · rintro s r i p h hp h8 (⟨ho, rfl⟩ | ⟨ho, rfl⟩ | ⟨ho, rfl⟩ | ⟨ho, rfl⟩) hb h3 hh
    all_goals exact congrArg s.done (diagHalt_refused h ⟨hp, h8, ho, by decide, hb, h3⟩ rfl hh)
  · rw [diagCtx, onReq_called h]
    dsimp only
    rw [hn, ht] <;> rfl
  · rw [diagRoute_of h ho (.inr rfl) h1 hf hn h6 hn1 hmax hfn hl, if_pos rfl]
  · rw [diagRoute_of h ho (.inl rfl) h1 hf hn h6 hn1 hmax hfn hl, if_neg (by decide)]
  · rw [diagRoute, onReq_called h]
    exact if_pos (by omega)
  · rw [diagFaults, onReq_called h]

end Sys2Proof.Machine
end

section
-- One declaration after another: the check compiles the whole text under a memory limit.
set_option Elab.async false
/-! SUPPORT. The `ctl.` commands. -/

namespace Sys2Proof.Machine
open Sys2Proof

section
variable {b : Block} {r : Req} {n i : Nat}

theorem ctlOperate_of {d : CtlDecl} (h : Called 0x1002 r b) (hn : fld r.payload 0 1 = n) (hi : fld r.payload 1 1 = i)
    (hd : b.ctlDecl n i = some d) (hb : b.ctlBad false r.payload = false) :
    ctlOperate r b = if d.sbo ∧ (b.ctlObj n i).selectedBy r.client (fld r.payload 2 1) (fld r.payload 4 4) = false then b.status r stNOTSEL
      else b.ctlOrder r false := by
  rw [ctlOperate, onReq_called h]
  dsimp only
  rw [hb, if_neg Bool.false_ne_true, hn, hi, hd]
  exact ite_iff _ _ (by rw [Bool.and_eq_true, Bool.not_eq_true'])

theorem ctlCancel_of {o : CtlObj} (h : Called 0x1003 r b) (hn : fld r.payload 0 1 = n) (hi : fld r.payload 1 1 = i) (ho : b.ctlObj n i = o) :
    ctlCancel r b = if 7 < n ∨ b.ctlDecl n i = none ∨ fld r.payload 2 1 ≠ 0 ∨ fld r.payload 3 1 ≠ 0 ∨ fld r.payload 4 4 ≠ 0 then
        b.status r stBADARG
      else match o.state with
        | .selected c _ _ _ _ => if c = r.client then (b.putCtl n i { o with state := .idle }).status r stOK else b.status r stNOTSEL
        | _ => b.status r stNOTSEL := by
  rw [ctlCancel, onReq_called h]
  dsimp only
  rw [hn, hi, ho]
  exact ite_iff _ _ (by rw [Option.isNone_iff_eq_none])

/-- The block whose orders have all been taken. -/
def Block.noOrders (b : Block) : Block := { b with mbx := { b.mbx with orders := [] } }

/-- A lone order meets its object (R443). -/
theorem arbitrate_single {o : Order} {d : CtlDecl} (ho : b.mbx.orders = [o]) (hd : b.ctlDecl o.slot o.index = some d)
    (hs : o.select = true ∨ o.client = none ∨ (b.slot o.slot).state = .run) :
    b.arbitrate o.epoch o.slot o.index = b.noOrders.orderMeet o d := by
  have hself : (o.slot == o.slot && o.index == o.index && o.epoch == o.epoch) = true := by
    rw [beq_self_eq_true, beq_self_eq_true, beq_self_eq_true]; rfl
  have hdue : [o].filter (fun x => x.slot == o.slot && x.index == o.index && x.epoch == o.epoch) = [o] := by
    simp only [List.filter_cons, List.filter_nil, hself, if_true]
  have hkept : [o].filter (fun x => !(x.slot == o.slot && x.index == o.index && x.epoch == o.epoch)) = [] := by
    simp only [List.filter_cons, List.filter_nil, hself, Bool.not_true, Bool.false_eq_true, if_false]
  have hmay : (o.client.isSome && !o.select && (b.noOrders.slot o.slot).state != .run && (b.noOrders.slot o.slot).state != .migrating) =
      false := by
    change (o.client.isSome && !o.select && (b.slot o.slot).state != .run && (b.slot o.slot).state != .migrating) = false
    rcases hs with hs | hs | hs <;> rw [hs]
    · rw [Bool.not_true, Bool.and_false]; rfl
    · rfl
    · rw [bne_self_eq_false, Bool.and_false]; rfl
  have hdecl : b.noOrders.ctlDecl o.slot o.index = some d := hd
  have htop : topOrder [o] = some o := rfl
  unfold Block.arbitrate
  dsimp only
  rw [ho, hdue, hkept, ← Block.noOrders, htop, hdecl]
  dsimp only
  rw [List.erase_cons_head, List.foldl_nil, hmay, if_neg Bool.false_ne_true]

theorem arbitrateAll_single {o : Order} (ho : b.mbx.orders = [o]) (he : o.epoch < b.time.epoch) :
    b.arbitrateAll = b.arbitrate o.epoch o.slot o.index := by
  have hdue : [o].filter (fun x => decide (x.epoch < b.time.epoch)) = [o] := by
    simp only [List.filter_cons, List.filter_nil, decide_eq_true he, if_true]
  rw [Block.arbitrateAll, ho, hdue]
  rfl

theorem selLapse_of {o : CtlObj} {c a k v e : Nat} (ho : tget ctlD (b.slot n).objs i = o) (hs : o.state = .selected c a k v e)
    (he : e ≤ b.time.epoch) : b.selLapse n i = b.putCtl n i { o with state := .idle } := by
  rw [Block.selLapse, Block.ctlObj, ho, CtlObj.at, hs]
  dsimp only
  rw [if_pos he]

theorem ansTimeout_of {o : CtlObj} {c a k v q t dl f : Nat} {b' : Block} (ho : b.ctlObj n i = o) (hs : o.state = .pending c a k v q t dl f)
    (hd : dl ≤ b.now) (hb : b' = (b.putCtl n i { o with state := .idle }).raise 435 (n * 256 + i : Nat)) :
    b.ansTimeout n i = match b'.orderReq 0x1002 c q with
      | some r => b'.status r stNOANSWER
      | none => b' := by
  subst hb
  rw [Block.ansTimeout, ho]
  dsimp only
  rw [hs]
  exact if_pos hd

end

/-- Settles O59: the arm of each command under its condition. -/
theorem ctlCommandsComplete : Obligations.CtlCommandsComplete := by
  refine ⟨fun s r h => congrArg s.done ?_, fun s r d n i h hn hi hd hb => congrArg s.done (ctlOperate_of h hn hi hd hb),
    fun s r h hb => congrArg s.done ?_, fun s r n i o h hn hi ho => congrArg s.done ((ctlCancel_of h hn hi ho).trans ?_),
    fun s r n f k h hn hf hk => congrArg s.done ?_, fun s => rfl, fun s o d ho he hd hi hs => congrArg s.done ?_,
    fun s n i o c a k v e ho hs he => congrArg s.done (selLapse_of ho hs he),
    fun s n i o c a k v q t dl f b ho hs hd hb => congrArg s.done ((ansTimeout_of ho hs hd hb).trans ?_)⟩
  · rw [ctlSelect, onReq_called h]
  · rw [ctlOperate, onReq_called h]
    exact if_pos hb
  · rfl
  · rw [ctlRead, onReq_called h]
    dsimp only
    rw [hn, hf, hk]
  · rw [arbitrateAll_single ho he, arbitrate_single ho hd hs, Block.orderMeet]
    have hidle : (s.blk.noOrders.ctlObj o.slot o.index).state = .idle := hi
    dsimp only
    rw [hidle, Block.noOrders]
  · rfl

end Sys2Proof.Machine
end

section
-- One declaration after another: the check compiles the whole text under a memory limit.
set_option Elab.async false
/-! SUPPORT. Memory errors, repairs, the SP's restart and the die's heat. -/

namespace Sys2Proof.Machine
open Sys2Proof

section
variable {b : Block} {n w : Nat}

/-! ### Rows that fail -/

/-- What a failing row changes: the rows under test, or what an event writes. -/
theorem rowFail_counts (m k : Nat) : (b.rowFail m k).flt.transient = b.flt.transient ∧ (b.rowFail m k).flt.loss = b.flt.loss := by
  unfold Block.rowFail
  dsimp only
  repeat' split
  · exact ⟨rfl, rfl⟩
  · rw [raise_flt]; exact ⟨rfl, rfl⟩
  · exact ⟨rfl, rfl⟩

theorem rowFail_elm (m k : Nat) : (b.rowFail m k).elm = b.elm := by
  unfold Block.rowFail
  dsimp only
  repeat' split
  · rfl
  · exact raise_elm ..
  · rfl

theorem rowFail_lgc (m k : Nat) : (b.rowFail m k).lgc = b.lgc := by
  unfold Block.rowFail
  dsimp only
  repeat' split
  · rfl
  · exact raise_lgc ..
  · rfl

theorem rowFail_wheel (m k : Nat) : (b.rowFail m k).wheel = b.wheel := by
  unfold Block.rowFail
  dsimp only
  repeat' split
  · rfl
  · exact raise_wheel ..
  · rfl

/-- Without a spare row left a row that fails is reported (R534). -/
theorem rowFail_full {m k : Nat} (ht : rowId m k ∉ b.flt.testing) (hr : rowId m k ∉ b.flt.remapped) (hu : 16 ≤ b.rowsUsed m) :
    b.rowFail m k = b.raise 456 m := by
  unfold Block.rowFail
  dsimp only
  rw [if_neg fun hc => hc.elim ht hr, if_pos hu]

theorem tableLost_full {i : Nat} (hi : i < 4096) (hu : 16 ≤ b.rowsUsed 0) (ht : i ∉ b.flt.testing) (hr : i ∉ b.flt.remapped) :
    (b.tableLost i).elm.bad = insNat i b.elm.bad ∧ (b.tableLost i).flt.testing = b.flt.testing ∧
      (b.tableLost i).flt.transient = b.flt.transient + 1 := by
  have hid : rowId 0 i = i := by rw [rowId, Nat.zero_mul, Nat.zero_add]
  have hfull : (b.fault .transient).rowFail 0 i = (b.fault .transient).raise 456 0 :=
    rowFail_full (b := b.fault .transient) (by rw [hid]; exact ht) (by rw [hid]; exact hr) hu
  unfold Block.tableLost
  dsimp only
  rw [if_neg (by omega), hfull, if_pos hi, raiseIf_elm, raiseIf_flt]
  dsimp only
  rw [raise_elm, raise_flt]
  exact ⟨rfl, rfl, rfl⟩

/-! ### Timers -/

/-- The block after the loss of timer n's word: counted, reported, the timer idle (R535). -/
def Block.timerIdle (b : Block) (n w : Nat) : Block :=
  let c := ((b.fault .transient).rowFail 1 w).raise 324 n
  { c with wheel := c.wheel.upd n fun t => { Timer.op .cancel t with pend := 0 } }

theorem timerIdle_parts : (b.timerIdle n w).flt.transient = b.flt.transient + 1 ∧ (b.timerIdle n w).elm = b.elm ∧
    (b.timerIdle n w).wheel = b.wheel.upd n fun t => { Timer.op .cancel t with pend := 0 } := by
  unfold Block.timerIdle
  dsimp only
  rw [raise_flt, raise_elm, raise_wheel, rowFail_elm, rowFail_wheel]
  exact ⟨(rowFail_counts ..).1, rfl, rfl⟩

theorem timerLost_app (hc : (b.wheel.get n).cls ≠ 0) : b.timerLost n w = b.timerIdle n w := if_neg hc

theorem timerLost_element {k : Nat} (hc : (b.wheel.get n).cls = 0) (hk : (b.wheel.get n).owner = k) :
    (tget elStD (b.timerLost n w).elm.states k).qual.blocked = true ∧
      (tget elStD (b.timerLost n w).elm.states k).latched = (tget elStD b.elm.states k).latched ∧
      (tget elStD (b.timerLost n w).elm.states k).operate = (tget elStD b.elm.states k).latched ∧
      (b.timerLost n w).flt.transient = b.flt.transient + 1 := by
  obtain ⟨htr, helm, -⟩ := timerIdle_parts (b := b) (n := n) (w := w)
  unfold Block.timerLost
  dsimp only
  rw [if_pos hc, hk, tget_tset_same]
  change _ ∧ (tget elStD (b.timerIdle n w).elm.states k).latched = _ ∧ (tget elStD (b.timerIdle n w).elm.states k).latched = _ ∧
    (b.timerIdle n w).flt.transient = _
  rw [helm]
  exact ⟨rfl, rfl, rfl, htr⟩

/-! ### The slot stores -/

theorem storeLost_image (hn : n < 8) : b.storeLost n w true = ((b.rowFail 2 w).raise 449 n).fault .transient := by
  rw [Block.storeLost, if_neg (Nat.not_le.mpr hn)]
  exact if_pos rfl

theorem storeLost_data (hn : n < 8) : (b.storeLost n w false).lgc.slots = tset slotD b.lgc.slots n { b.slot n with damaged := true } ∧
    (b.storeLost n w false).flt.loss = b.flt.loss + 1 := by
  have hlgc : ((b.rowFail 2 w).raise 449 n).lgc = b.lgc := (raise_lgc ..).trans (rowFail_lgc ..)
  have hloss : ((b.rowFail 2 w).raise 449 n).flt.loss = b.flt.loss := by rw [raise_flt]; exact (rowFail_counts ..).2
  rw [Block.storeLost, if_neg (Nat.not_le.mpr hn)]
  dsimp only
  rw [if_neg Bool.false_ne_true]
  generalize (b.rowFail 2 w).raise 449 n = c at hlgc hloss
  refine ⟨?_, congrArg (· + 1) hloss⟩
  change tset slotD c.lgc.slots n { tget slotD c.lgc.slots n with damaged := true } = _
  rw [hlgc]
  rfl

/-! ### The SP's restart -/

/-- The restarts of the last 60 s. -/
def Block.recent (b : Block) : List Nat := b.flt.spRestarts.filter fun t => decide (b.now < t + 60 * secE)

/-- The SP goes down: the restart begins or it stays stopped, the mailboxes close and the time keeps its rate (R539, R540). -/
def Block.spDown (b : Block) (stop : Bool) : Block := Block.setTState .holdover { b with
  flt := { b.flt with spRestarts := b.now :: b.recent, spRestarting := if stop then none else some b.now, spStopped := stop }
  sys := { b.sys with mbxRoot := false, mbxHost := false, mbxFab := false }
  time := { b.time with inc := b.time.freqInc }
  dist := { b.dist with run := false } }

theorem spDown_flt (stop : Bool) : (b.spDown stop).flt =
    { b.flt with spRestarts := b.now :: b.recent, spRestarting := if stop then none else some b.now, spStopped := stop } :=
  flt_of_outside (P := .time :: Part.event) (setTState_outside _ _ (by simp))

theorem spDown_sys (stop : Bool) : (b.spDown stop).sys = { b.sys with mbxRoot := false, mbxHost := false, mbxFab := false } :=
  sys_of_outside (P := .time :: Part.event) (setTState_outside _ _ (by simp))

theorem setTState_inc (st : TState) (b : Block) : (b.setTState st).time.inc = b.time.inc := by
  unfold Block.setTState
  dsimp only
  split
  · rfl
  · change ((Block.raise _ _ _).raiseIf _ _ _).time.inc = _
    rw [raiseIf_time, raise_time]

theorem spDown_time (stop : Bool) : (b.spDown stop).time.servo.state = .holdover ∧ (b.spDown stop).time.inc = b.time.freqInc :=
  ⟨(setTState_state ..).1, setTState_inc ..⟩

/-- An event of an SP that restarts is held in its hardware counter and leaves the flash part as it was. -/
theorem raise_nv_of_restarting {k : Nat} {q : Int} (h : b.flt.spRestarting.isSome = true) : (b.raise k q).nv = b.nv := by
  have hoff : ¬(b.evr.started && b.flt.spRestarting.isNone && !b.flt.spStopped) = true := by
    rw [Option.isNone_eq_false_iff.mpr h, Bool.and_false, Bool.false_and]; exact Bool.false_ne_true
  rw [Block.raise, Block.raiseAt, if_neg hoff]

theorem spDown_nv : (b.spDown false).nv = b.nv := by
  unfold Block.spDown Block.setTState
  dsimp only
  split
  · rfl
  · change ((Block.raise _ _ _).raiseIf _ _ _).nv = _
    unfold Block.raiseIf
    split
    · rw [raise_nv_of_restarting (by rw [raise_flt]; rfl), raise_nv_of_restarting rfl]
    · rw [raise_nv_of_restarting rfl]

/-- The conditions under which the watchdog acts. -/
structure SpUp (b : Block) : Prop where
  step : b.sys.step ≠ 0
  on : b.flt.spRestarting = none
  runs : b.flt.spStopped = false

theorem spFail_of (h : SpUp b) : b.spFail = if 2 ≤ b.recent.length then (b.spDown true).fault .loss
    else
      let c := (b.spDown false).fault .transient
      if b.recent.length = 1 && c.nv.slotOk (1 - c.runSlot) then
        Block.raise 458 (1 - c.runSlot : Nat) { c with sys := { c.sys with slotB := 1 - c.runSlot == 1, degraded := true } }
      else c := by
  obtain ⟨hstep, hon, hruns⟩ := h
  have hgo : (decide (b.sys.step = 0) || b.flt.spRestarting.isSome || b.flt.spStopped) = false := by
    rw [decide_eq_false hstep, hon, hruns]; rfl
  unfold Block.spFail
  rw [hgo, if_neg Bool.false_ne_true]
  by_cases h2 : 2 ≤ b.recent.length
  · rw [if_pos h2]
    have hs : decide (2 ≤ (b.flt.spRestarts.filter fun t => decide (b.now < t + 60 * secE)).length) = true := decide_eq_true h2
    dsimp only
    rw [hs]
    exact if_pos rfl
  · rw [if_neg h2]
    have hs : decide (2 ≤ (b.flt.spRestarts.filter fun t => decide (b.now < t + 60 * secE)).length) = false := decide_eq_false h2
    dsimp only
    rw [hs]
    exact if_neg Bool.false_ne_true

/-- The SP restarts, from either slot: what an event of the other slot's boot leaves as it was. -/
theorem spFail_restart (h : SpUp b) (hr : b.recent.length < 2) :
    b.spFail.flt = { (b.spDown false).flt with transient := (b.spDown false).flt.transient + 1 } ∧
      b.spFail.time = (b.spDown false).time ∧ b.spFail.sys.mbxRoot = false ∧ b.spFail.sys.mbxHost = false ∧ b.spFail.sys.mbxFab = false := by
  rw [spFail_of h, if_neg (Nat.not_le.mpr hr)]
  dsimp only
  split
  · rw [raise_flt, raise_time, raise_sys]
    refine ⟨rfl, rfl, ?_⟩
    change (b.spDown false).sys.mbxRoot = false ∧ (b.spDown false).sys.mbxHost = false ∧ (b.spDown false).sys.mbxFab = false
    rw [spDown_sys]
    exact ⟨rfl, rfl, rfl⟩
  · refine ⟨rfl, rfl, ?_⟩
    change (b.spDown false).sys.mbxRoot = false ∧ (b.spDown false).sys.mbxHost = false ∧ (b.spDown false).sys.mbxFab = false
    rw [spDown_sys]
    exact ⟨rfl, rfl, rfl⟩

theorem spFail_other (h : SpUp b) (hr : b.recent.length = 1) (hok : b.nv.slotOk (1 - b.runSlot) = true) :
    b.spFail.sys.slotB = (1 - b.runSlot == 1) ∧ b.spFail.sys.degraded = true := by
  have hrun : ((b.spDown false).fault .transient).runSlot = b.runSlot := by
    change b2n (b.spDown false).sys.slotB = b2n b.sys.slotB
    rw [spDown_sys]
  have hnv : ((b.spDown false).fault .transient).nv = b.nv := spDown_nv
  rw [spFail_of h, if_neg (by omega)]
  dsimp only
  rw [hnv, hrun, hok, decide_eq_true hr, Bool.and_self, if_pos rfl, raise_sys]
  exact ⟨rfl, rfl⟩

theorem spFail_stop (h : SpUp b) (hr : 2 ≤ b.recent.length) :
    b.spFail.flt.spRestarting = none ∧ b.spFail.flt.spStopped = true ∧ b.spFail.flt.loss = b.flt.loss + 1 ∧ b.spFail.sys.mbxRoot = false ∧
      b.spFail.sys.mbxHost = false ∧ b.spFail.sys.mbxFab = false ∧ b.spFail.time.servo.state = .holdover := by
  have hsys := spDown_sys (b := b) true
  have hflt := spDown_flt (b := b) true
  have htime := (spDown_time (b := b) true).1
  rw [spFail_of h, if_pos hr]
  generalize b.spDown true = c at hsys hflt htime
  refine ⟨?_, ?_, ?_, ?_, ?_, ?_, htime⟩
  · exact congrArg FltSt.spRestarting hflt
  · exact congrArg FltSt.spStopped hflt
  · change c.flt.loss + 1 = _
    rw [hflt]
  · exact congrArg SysSt.mbxRoot hsys
  · exact congrArg SysSt.mbxHost hsys
  · exact congrArg SysSt.mbxFab hsys

/-- The restart is over: the mailboxes of the steps reached are open (R539). -/
def Block.spOpened (b : Block) : Block := { b with
  flt := { b.flt with spRestarting := none }
  sys := { b.sys with mbxRoot := decide (5 ≤ b.sys.step), mbxHost := b.sys.ready, mbxFab := decide (9 ≤ b.sys.step) }
  wheel := { b.wheel with
    timers := tmap timerR b.wheel.timers fun _ x => if x.cls = 2 then { Timer.op .cancel x with pend := 0 } else x } }

theorem spBack_opened {t : Nat} (ht : b.flt.spRestarting = some t) :
    b.spBack.outside (.acc :: .bar :: .lgc :: .fab :: .dist :: .snap :: .fresh :: Part.event) =
      b.spOpened.outside (.acc :: .bar :: .lgc :: .fab :: .dist :: .snap :: .fresh :: Part.event) := by
  unfold Block.spBack
  rw [ht]
  dsimp only
  rw [← Block.spOpened]
  (repeat' split) <;> simp

end

/-- Settles O60: the arm of each command under its condition. -/
theorem faultCommandsComplete : Obligations.FaultCommandsComplete := by
  refine ⟨fun s n w i u => ⟨rfl, rfl, rfl, rfl, rfl, rfl, rfl, rfl⟩, fun s n w i u => ⟨rfl, rfl, rfl, rfl, rfl, rfl, rfl⟩,
    fun s n w hn => congrArg s.done ?_, fun s i hi _ hu ht hr => ⟨_, rfl, tableLost_full hi hu ht hr⟩,
    fun s m n k ok hk ht hsp => congrArg s.done ?_, fun s i hi hsp => congrArg s.done (if_pos ⟨hi, hsp⟩), fun s n w hc => ⟨_, rfl, ?_⟩,
    fun s n w k hc hk => ⟨_, rfl, timerLost_element hc hk⟩, fun s n w hn => congrArg s.done (storeLost_image hn),
    fun s n w hn => ⟨_, rfl, storeLost_data hn⟩, fun s k hit => congrArg s.done ?_, fun s c q m => congrArg s.done ?_, fun s => rfl, fun s => rfl,
    fun s hst hon hru hr => ⟨_, rfl, ?_⟩, fun s hst hon hru hr hok => ⟨_, rfl, spFail_other ⟨hst, hon, hru⟩ hr hok⟩,
    fun s hst hon hru hr => ⟨_, rfl, spFail_stop ⟨hst, hon, hru⟩ hr⟩, fun s t ht => ⟨_, rfl, ?_⟩, fun s hd => congrArg s.done ?_⟩
  · exact (if_neg (Nat.not_le.mpr hn) : s.blk.accumLost n w = _)
  · subst hk
    exact if_pos ⟨ht, hsp⟩
  · rw [timerLost_app hc]
    exact timerIdle_parts
  · rw [Block.lpddrLost] <;> rfl
  · rw [Block.lpddrLost] <;> rfl
  · obtain ⟨hflt, htime, hroot, hhost, hfab⟩ := spFail_restart ⟨hst, hon, hru⟩ hr
    obtain ⟨hstate, hinc⟩ := spDown_time (b := s.blk) false
    rw [spDown_flt] at hflt
    rw [hflt, htime]
    exact ⟨rfl, rfl, hroot, hhost, hfab, hstate, hinc, rfl⟩
  · have hout := spBack_opened ht
    dsimp only
    rw [flt_of_outside hout, sys_of_outside hout]
    exact ⟨rfl, rfl, rfl, rfl⟩
  · exact if_neg (Int.not_lt.mpr hd)

end Sys2Proof.Machine
end
